-- ==== Sys2Proof/Word.lean ====
section
/-! DEFINITION. The word and byte of the register space (rule R3) and their plainest arithmetic. -/

namespace Sys2Proof

/-- A register word: 32 bits, little-endian (rule R3). -/
abbrev Word := BitVec 32

/-- A byte of a payload or of a memory. -/
abbrev Byte := BitVec 8

/-- A count that saturates at `cap`. -/
abbrev satAdd (cap a b : Nat) : Nat := min cap (a + b)

end Sys2Proof
end

