-- ==== Sys2Proof/Syntax.lean ====
section
/-! DEFINITION. The commands of the block: one constructor of `Instr` per row of the opcode table, and the plain data
that a command carries (a TLP, a fabric packet, a register access, an image). -/

namespace Sys2Proof

/-- Numbers of the repeated units (rules R10 to R16, R20, R170, R234). -/
abbrev PortId := Fin 128
abbrev SpanId := Fin 32
abbrev PierId := Fin 8
abbrev PlaneId := Fin 16
abbrev ChanId := Fin 8
abbrev EngId := Fin 64
abbrev DomId := Fin 80
abbrev IslandId := Fin 26
abbrev VsId := Fin 64
abbrev SlotId := Fin 32
abbrev TenantId := Fin 512
abbrev DutyId := Fin 64
abbrev FeedId := Fin 2
abbrev TrigId := Fin 32
abbrev LaneId := Fin 9
abbrev BlockId := Fin 129

/-- The AtomicOps of R141. -/
inductive AtOp where
  | fetchAdd | swap | cas
  deriving DecidableEq, Repr

/-- The kinds of TLP the SY256 tells apart. -/
inductive TlpKind where
  | memRd | memRdLk | memWr | defWr
  | atomic (op : AtOp)
  | ioRd | ioWr | cfgRd | cfgWr
  | cpl
  | msg
  deriving DecidableEq, Repr

/-- A TLP as it arrives whole on a port. `hdr` is H of R98 (header bytes in Flit Mode form, 12 to 64; the fields here
are the same in every form, so the conversions of R209 change none), `digest` the digest bytes. For a
Memory Write of a register `code` names the bytes that its byte enables leave out (bit k: byte k). For a completion `rid` is
the Requester ID it returns to, `cid` the Completer ID, `status` the standard's code (0 = Successful Completion, 1 = UR, 2 =
Configuration Request Retry Status, 4 = Completer Abort), `bcount` and `laddr` its Byte Count and Lower Address. For a
configuration request `bdf` names the function, `addr` the byte offset, `code` the byte enables and `route` its type (0 or
1). For a message `code` is the message code, `route` its routing (0 to the root, 2 by ID, 3 broadcast, 4 local, 5
gathered), `bdf` its target ID and `laddr` the Vendor ID of a vendor-defined message. In a read that the gate cuts,
`bcount` is the number of bytes refused. `at` is the address type (0 = untranslated, 1 = Translation Request, 2 =
translated). -/
structure Tlp where
  kind : TlpKind
  tc : Fin 8
  addr : Nat
  len : Nat
  data : List Byte
  hdr : Nat
  digest : Nat
  rid : Nat
  tag : Nat
  bdf : Nat
  cid : Nat
  status : Nat
  bcount : Nat
  laddr : Nat
  code : Nat
  route : Nat
  pasid : Option Nat
  at_ : Nat
  ep : Bool
  ro : Bool
  ido : Bool
  deriving DecidableEq, Repr

/-- A request that needs no answer: a Memory Write or a message. -/
def Tlp.posted (t : Tlp) : Bool :=
  match t.kind with
  | .memWr | .msg => true
  | _ => false

/-- A completion. -/
def Tlp.isCpl (t : Tlp) : Bool := t.kind == .cpl

/-- A request that is answered by a completion. -/
def Tlp.nonPosted (t : Tlp) : Bool := !t.posted && !t.isCpl

/-- The size of R155: header bytes in Flit Mode form, payload and digest. -/
def Tlp.size (t : Tlp) : Nat := t.hdr + t.data.length + t.digest

/-- Who makes a register access or submits a command (the origin interfaces of Table JNL-1): a host through BAR0 of the
management endpoint of a virtual switch, the sideband, the debug master, an engine program under a duty, an MCTP message
received by an endpoint, or the keeper itself. -/
inductive Origin where
  | bar0 (vs : VsId) (port : PortId) (rid : Nat) (tenant : TenantId)
  | sideband
  | debug
  | engine (g : EngId) (duty : DutyId)
  | mctp (vs : VsId) (port : PortId) (rid : Nat) (tenant : TenantId)
  | keeper
  deriving DecidableEq, Repr

/-- What the check symbols of the slice show for a TLP that has arrived (R248 to R251): nothing, a word corrected, an
uncorrectable word of its payload or digest, or both copies of a header word uncorrectable. -/
inductive WordErr where
  | none | corrected | payload | header
  deriving DecidableEq, Repr

/-- What goes wrong with a word of a cell on a plane (R97, R248): the cell, its word (0 to 3, or 4 for the control word), and the
wrong symbols as degree and value, or for the control word the wrong bits. -/
structure CellHit where
  cell : Fin 33
  word : Fin 5
  errs : List (Fin 35 × Byte)
  deriving DecidableEq, Repr

/-- A register write: who makes it, the byte enables, and the word. -/
structure RegW where
  org : Origin
  be : BitVec 4
  val : Word
  deriving DecidableEq, Repr

/-- A register access that waits in the joint of an island: its interface, its offset, for a write the byte enables and
the word, and for a read through BAR0 the request that reads it (R37, R38). -/
structure JointAcc where
  org : Origin
  off : Nat
  w : Option (BitVec 4 × Word)
  req : Option Tlp
  deriving DecidableEq, Repr

/-- The credits that a PCI Express partner advertises (none = infinite): posted, non-posted and completion, headers and
16-byte data units. -/
structure LinkCredits where
  ph : Option Nat
  pd : Option Nat
  nh : Option Nat
  nd : Option Nat
  ch : Option Nat
  cd : Option Nat
  deriving DecidableEq, Repr

/-- An equalisation of a link at 8 GT/s and above (R55): the preset that the partner requests in phases 0 and 1, the one that it
requests in phases 2 and 3, and the receiver coefficients reached on each lane in use (SPN_COEF words, lane 0 first). -/
structure Equal where
  preset01 : Fin 16
  preset23 : Option (Fin 16)
  coef : List Word
  deriving DecidableEq, Repr

/-- The margining parameters that a receiver reports (Table SPAN-3). -/
inductive MarginParam where
  | timingSteps | timingOffset | timingSides | voltage | voltageSteps | voltageOffset | voltageSides | reporting | lanes
  deriving DecidableEq, Repr

/-- A margining command of the standard (R57): a step in time or voltage, to the right or up (`far`) or to the left or down, with
an error count limit; or the report of a parameter. -/
inductive MarginOp where
  | step (timing far : Bool) (n : Fin 128) (limit : Fin 64)
  | report (x : MarginParam)
  deriving DecidableEq, Repr

/-- A partner's power request (R60). -/
inductive PmReq where
  | l0p | aspmL1 | pciPm
  deriving DecidableEq, Repr

/-- The fabric header of Table BRG-1; `mask` is the module mask of a multicast packet, `ctl` the bytes of a
control packet. -/
structure FabHdr where
  kind : Fin 8
  hops : Fin 8
  cls : Fin 4
  dstMod : Fin 64
  srcMod : Fin 64
  dstPort : PortId
  srcPort : PortId
  vs : VsId
  ftag : Fin 16384
  tenant : TenantId
  mask : BitVec 64
  ctl : List Byte
  deriving DecidableEq, Repr

/-- A fabric packet: its header and the TLP it carries. -/
structure FabPkt where
  h : FabHdr
  tlp : Tlp
  deriving DecidableEq, Repr

/-- The data part of a flit (Table FLO-4): virtual channel, start and end of packet, and the data bytes. -/
structure FlitData where
  vc : Fin 8
  sop : Bool
  eop : Bool
  bytes : List Byte
  deriving DecidableEq, Repr

/-- A footway message (Table FLO-6): type, ID and the arguments a receiver uses; `sy` says that the sender of LINK_PARAM is an
SY256. -/
structure FwMsg where
  ty : Nat
  id : Nat
  lane : Fin 8
  findex : Nat
  map : List (Fin 9)
  span : SpanId
  width : Nat
  cap64 : Bool
  alloc : List Nat
  fabric : Nat
  serial : Nat
  sy : Bool
  bytes : List Byte
  deriving DecidableEq, Repr

/-- The fields of a flit (Tables FLO-3 and FLO-4). -/
structure Flit where
  seq : Fin 4096
  ack : Fin 4096
  null : Bool
  nak : Bool
  cr : Option (Fin 8 × Fin 4096)
  fw : Option FwMsg
  data : Option FlitData
  deriving DecidableEq, Repr

/-- An entry of a pier table that an engine reaches (Table ENG-4): a register of the configuration store (virtual switch,
function as the upstream port 0, bridge 1 to 30 or endpoint, and doubleword), a group of the multicast group table (R114), or a table
of the image's own by number and index (Table JNL-2). -/
inductive EngTab where
  | config (vs : VsId) (fn : Fin 33) (dw : Fin 1024)
  | mcast (vs : VsId) (group : Fin 64)
  | image (table : Fin 256) (index : Fin 65536)
  deriving DecidableEq, Repr

/-- Trap causes of Table ENG-7 that an instruction meets; the limits of handlers are WATCHDOG_EXPIRY. -/
inductive Trap where
  | undefined | fetch | store | localWord | address | misaligned | divide | dutyWord
  deriving DecidableEq, Repr

/-- How eng_cfg_done completes a configuration request. -/
inductive CfgEnd where
  | success | unsupported | abort | retry
  deriving DecidableEq, Repr

/-- One feed in a sample of the abutment (R371): input voltage and midpoint voltage in 2 mV, input current in 4 mA and
pass-transistor temperature in 1/16 °C, both in two's complement. -/
structure FeedSample where
  vin : BitVec 16
  iin : BitVec 16
  mid : BitVec 16
  temp : BitVec 16
  deriving DecidableEq, Repr

/-- A sample of the abutment (R371): both feeds, the output node and the reservoir in 2 mV. -/
structure AbtSample where
  a : FeedSample
  b : FeedSample
  vout : BitVec 16
  res : BitVec 16
  deriving DecidableEq, Repr

/-- A register of a shaper (R156 to R158): the settings or the rate of a TC queue (8 × port + TC), or of a tenant in a pier
(512 × pier + tenant). -/
inductive ShaperReg where
  | qcfg (i : Fin 1024)
  | qrate (i : Fin 1024)
  | tscfg (i : Fin 4096)
  | tsrate (i : Fin 4096)
  deriving DecidableEq, Repr

/-- An entry that a LOCK bit covers (R246): a slot, the sideband's key, a window of a slot, a tenant's key, a port default, a
tenant entry (256 × pier + entry). -/
inductive LockEnt where
  | slot (z : Fin 130)
  | sbkey
  | window (z : Fin 130) (x : Fin 4)
  | tenantKey (u : TenantId)
  | portDefault (p : PortId)
  | entry (i : Fin 2048)
  deriving DecidableEq, Repr

/-- A register of the tenant table (Tables GTE-12 to GTE-15): a port default, or of entry 256 × pier + entry its control word,
its Requester ID range, or a bound of its PASID range. -/
inductive TenantReg where
  | portDefault (p : PortId)
  | ctl (i : Fin 2048)
  | rid (i : Fin 2048)
  | pasid (i : Fin 2048) (top : Bool)
  deriving DecidableEq, Repr

/-- A sideband transaction as the bridge receives it (R225 to R227): the bytes after the command code and the count, and the PEC
of an SMBus transaction (none: I3C, which carries none). -/
structure SbTx where
  bytes : List Byte
  pec : Option Bool
  deriving DecidableEq, Repr

/-- The sender of an MCTP message to a management endpoint (R224): its Requester ID, its endpoint ID, and the instance and message
tags that the response repeats. -/
structure MctpFrom where
  rid : Nat
  eid : Byte
  inst : Fin 32
  tag : Fin 8
  deriving DecidableEq, Repr

/-- The commands of the block, one constructor per row of the opcode table, in its order. -/
inductive Instr where
  /-- R7: A write to a register that has no row of its own applies its enabled bytes by access code and is journalled. -/
  | registerWrite (off : Nat) (w : RegW)
  /-- R29: The clock-loss detector fires after 1.5 µs without an edge or on PLL lock loss, and marks the island failed. -/
  | clockLossDetection (i : IslandId) (accs : List JointAcc)
  /-- R30: The 100 MHz oscillator stops; the keeper moves to the ring oscillator and the loss is device-fatal. -/
  | oscillatorLoss (accs : List JointAcc)
  /-- R30: Every 1 ms the keeper tests the 100 MHz oscillator while it runs on the ring oscillator. -/
  | oscillatorTest (good : Bool)
  /-- R30: After 10 ms within tolerance the keeper switches back to the oscillator and clears CLK_OSC.SRC. -/
  | oscillatorRestore
  /-- R61: A PCI Express port completes training and reaches DL_Active, setting LINKUP. -/
  | dlActive (p : PortId) (width rate : Fin 8) (flit reversed : Bool) (inverted : List Bool) (eq : Option Equal)
      (cred : LinkCredits)
  /-- R61: A port enters Recovery for errors, a speed change or RETRAIN, holding new TLPs. -/
  | recovery (p : PortId) (equalise : Bool)
  /-- R61: Recovery ends, releasing held TLPs on success or taking a link-down event on failure. -/
  | recoveryComplete (p : PortId) (ok : Bool) (width rate : Fin 8) (eq : Option Equal)
  /-- R62: The LTSSM reaches Detect or DL_Down; DOWNCNT rises, LINKUP clears and record 0x19 is made. -/
  | linkDown (p : PortId)
  /-- R61: A port enters L0p narrowing or L1 and sets PMSTATE. -/
  | lowpowerEntry (p : PortId) (pm width : Fin 8) (pci : Bool)
  /-- R61: A port returns to full-width L0 and clears PMSTATE. -/
  | lowpowerExit (p : PortId)
  /-- R59: After the port's egress queues have been empty for 20 µs the SY256 requests L0p narrowing. -/
  | l0pNarrowingRequest (p : PortId)
  /-- R60: A partner's L0p or ASPM L1 request is refused while EXPRESS_HOLD is set, otherwise followed. -/
  | partnerLowPowerRequest (p : PortId) (kind : PmReq)
  /-- R45: A write of SPN_CTL.RETRAIN directs the port into Recovery. -/
  | retrain (p : PortId) (w : RegW)
  /-- R52: A write of SPN_CLKMODE applies accepted modes and refuses COMMON on ports without a slot clock. -/
  | clockModeWrite (sp : SpanId) (w : RegW)
  /-- R53: POWER_STABLE − 100 µs after slot power-on the clock window opens and the reference clock may start. -/
  | slotClockWindowOpen (k : SlotId)
  /-- R53: 10 µs after slot power-off the clock window closes and the reference clock stops. -/
  | slotClockWindowClose (k : SlotId)
  /-- R53: A change of SLOT[k]_CLKREQ_N starts or stops the slot reference clock inside the window. -/
  | clkreqChange (k : SlotId) (asserted : Bool)
  /-- R56: Each 1 µs a receiver in L0 with ADAPT_CONT may move each coefficient by one step. -/
  | adaptationStep (sp : SpanId) (l : LaneId) (ctle dfe vga : Fin 3) (eye : Fin 256) (errs : Fin 65536)
  /-- R57: A margining command of the standard runs one step on the auxiliary sampler. -/
  | laneMargining (p : PortId) (lane : Fin 16) (op : MarginOp)
  /-- R67: A write of SPN_LANE.ERRCLR clears the lane's error count. -/
  | errclr (sp : SpanId) (l : LaneId) (w : RegW)
  /-- R63: Every PERIOD ÷ 8 ms the receiving span starts a visit of the next lane and sends CAL_REQ. -/
  | calibrationVisitStart (sp : SpanId)
  /-- R64: The receiver has locked and deskewed the spare and swaps lane L's data to it with CAL_SWAP. -/
  | calSpareLocked (sp : SpanId)
  /-- R65: The 4 µs calibration window ends and the new coefficients are kept or rejected. -/
  | calWindowEnd (sp : SpanId) (coef : Word) (clean : Bool)
  /-- R64: The receiver has relocked lane L and takes its data back with CAL_DONE. -/
  | calLaneRelocked (sp : SpanId)
  /-- R66: No CAL_ACK arrives within 2 µs of the first CAL_REQ. -/
  | calAckTimeout (sp : SpanId)
  /-- R72: In each flit time the transmitter sends a sequenced, replayed or null flit with ACK, credit and footway fields. -/
  | flitSend (g : SpanId)
  /-- R83: A received flit is decoded and its sequence, acknowledgement, credit and footway fields are acted on. -/
  | flitReceived (g : SpanId) (raw : List Byte) (args : FwMsg) (tlp : Option Tlp)
  /-- R81: The ACK timer expires with accepted flits unacknowledged and A_rx advances. -/
  | ackTimerExpiry (g : SpanId)
  /-- R84: The NAK timer expires while NAK-pending and the NAK is sent again. -/
  | nakTimerExpiry (g : SpanId)
  /-- R86: P has not advanced for REPLAY_TIME; a replay starts, and the fourth in succession takes the link down. -/
  | replayTimeout (g : SpanId)
  /-- R75: Every 1 µs an unanswered footway request is sent again. -/
  | footwayRepeat (g : SpanId)
  /-- R93: LINK_PARAM is received and checked for fabric ID and partner type, moving to ACTIVE or DOWN. -/
  | linkParam (g : SpanId) (m : FwMsg)
  /-- R93: LINK_PARAM_ACK ends the parameter exchange of the request it names. -/
  | linkParamAck (g : SpanId) (m : FwMsg)
  /-- R64: The transmitting end receives CAL_REQ, mirrors lane L on the spare and answers CAL_ACK. -/
  | calReq (g : SpanId) (m : FwMsg)
  /-- R64: The receiving end receives CAL_ACK and stops repeating CAL_REQ. -/
  | calAck (g : SpanId) (m : FwMsg)
  /-- R64: The transmitter receives CAL_SWAP and sends the calibration pattern on lane L at the agreed flit. -/
  | calSwap (g : SpanId) (m : FwMsg)
  /-- R64: The transmitter receives CAL_DONE and stops mirroring, freeing the spare. -/
  | calDone (g : SpanId) (m : FwMsg)
  /-- R89: CAL_ABORT ends the partner's side of a visit. -/
  | calAbort (g : SpanId) (m : FwMsg)
  /-- R88: The transmitter receives LANE_SWAP, mirrors the failed lane on the spare and answers, or ignores it if F has passed. -/
  | laneSwap (g : SpanId) (m : FwMsg)
  /-- R88: The receiver receives LANE_SWAP_ACK for its replacement request. -/
  | laneSwapAck (g : SpanId) (m : FwMsg)
  /-- R92: WIDTH_CHG is received and the partner answers with its own receive lane set. -/
  | widthChg (g : SpanId) (m : FwMsg)
  /-- R92: WIDTH_CHG_ACK confirms the narrowing request. -/
  | widthChgAck (g : SpanId) (m : FwMsg)
  /-- R93: RATE_CHG is received and the rate change is agreed at its flit index. -/
  | rateChg (g : SpanId) (m : FwMsg)
  /-- R93: RATE_CHG_ACK confirms the rate change request. -/
  | rateChgAck (g : SpanId) (m : FwMsg)
  /-- R75: An ENGINE footway message is received and offered to the engine as a FOOTWAY event. -/
  | engine (g : SpanId) (m : FwMsg)
  /-- R72: The flit index reaches an agreed value and the new lane map, width or rate takes effect. -/
  | agreedFlitIndexReached (g : SpanId) (rx : Bool)
  /-- R87: A receive lane fails and the spare replaces it or the port narrows. -/
  | laneFailure (sp : SpanId) (l : Fin 8)
  /-- R90: The spare loses lock while idle or cannot be deskewed, takes ROLE 5 and stops calibration. -/
  | spareFailure (sp : SpanId)
  /-- R93: 10 ms after entry to DOWN without PEERERR the port starts training. -/
  | floingDownTimer (g : SpanId)
  /-- R93: Lock, polarity, reversal and deskew are done on a usable width and LINK_PARAM is sent. -/
  | floingTrainingDone (g : SpanId) (bad pol : List (SpanId × LaneId)) (reversed : Bool)
  /-- R93: 5 ms pass in TRAIN without a usable width and the port returns to DOWN. -/
  | floingTrainingTimeout (g : SpanId)
  /-- R93: Both directions relock at the new rate and the port returns to ACTIVE. -/
  | rateChangeComplete (g : SpanId)
  /-- R94: Link lock stays lost longer than LINK_DOWN_TIME and the Floing link is declared down. -/
  | linkLockLoss (g : SpanId)
  /-- R94: A write of SPN_FLCTL.RETRAIN declares the link down and retrains it. -/
  | floingRetrain (g : SpanId) (w : RegW)
  /-- R79: A write of RX_ALLOC is refused if the port's allocations would exceed the limit. -/
  | rxAllocWrite (g : SpanId) (v : Fin 8) (w : RegW)
  /-- R101: In each cell time every plane latches requests, matches in three rounds and transfers matched cells. -/
  | deckCellTime
  /-- R110: The egress pier checks a complete TLP copy, stores or discards it and answers ACK or NAK. -/
  | tlpCopyReceived (src dst : PierId) (h : Fin 262144) (hits : List CellHit)
  /-- R108: An ACK reaches the ingress pier and the TLP is freed. -/
  | deckAck (src dst : PierId) (h : Fin 262144)
  /-- R108: A NAK reaches the ingress pier and the whole TLP is resent with its SEQ. -/
  | deckNak (src dst : PierId) (h : Fin 262144)
  /-- R108: No answer arrives within ACK_TIME and the TLP is resent. -/
  | deckAckTimeout (src dst : PierId) (h : Fin 262144)
  /-- R113: 64 cell times after a stop the flows' TLPs are discarded and their sequence numbers reset. -/
  | flowDrainEnd (p : PortId)
  /-- R117: A write of DCK_CTL.FENCE moves a LIVE plane to DRAINING and remaps its entries. -/
  | fence (m : PlaneId) (org : Origin)
  /-- R117: A write of DCK_CTL.UNFENCE makes a FENCED plane LIVE and restores its map entries. -/
  | unfence (m : PlaneId) (org : Origin)
  /-- R117: Every TLP with a cell on a DRAINING plane is acknowledged or resent and the plane is FENCED. -/
  | planeDrained (m : PlaneId)
  /-- R118: A plane fails, stops matching, and its TLPs are resent on live planes. -/
  | planeFailure (m : PlaneId) (cause : Fin 6)
  /-- R106: A write of PIR_PMAP is applied, or refused whole if an entry names a plane that is not LIVE. -/
  | pmapWrite (n : PierId) (k : Fin 8) (w : RegW)
  /-- R121: A write of a reserve is refused if it would leave a shared pool below 16,384 slots. -/
  | bufferReserveWrite (n : PierId) (a : Option (Fin 128)) (w : RegW)
  /-- R19: A TLP arrives whole on a port and is parsed, routed, classified, gated, policed and admitted or held. -/
  | tlpReceived (p : PortId) (t : Tlp) (err : WordErr)
  /-- R159: A held TLP is judged again when tokens, slots, tags or tracker entries free. -/
  | heldTlpRetry (sp : SpanId) (cls : Fin 4)
  /-- R135: The head TLP of a spilled flow is read back when admission allows with headroom. -/
  | spillReadBack (i e : PortId) (t : Fin 8) (bad corr : List Nat)
  /-- R154: At a TLP boundary the egress scheduler picks the oldest express TLP or runs the round robin. -/
  | egressTlpBoundary (p : PortId)
  /-- R138: A landing request is checked block by block against tags and carried out atomically. -/
  | landingRequest (bad corr : List Nat)
  /-- R142: A write of CSN_TAGCMD.GO starts a tag-set, or is refused. -/
  | tagSet (tag : Fin 1024) (org : Origin)
  /-- R142: The tag-set has rewritten every block of the range and BUSY clears. -/
  | tagSetDone
  /-- R143: The hot-reset wipe scan of landing memory ends. -/
  | landingScanDone
  /-- R144: The wipe ends; the journal copy is written back and image loading begins. -/
  | wipeDone
  /-- R145: RDRAIN runs out; flows still spilled are treated as lost and channels 1 to 7 are powered off. -/
  | spillDrainTimeout
  /-- R147: A caisson channel fails, stops, and the egress ports of its spilled flows are closed. -/
  | channelFailure (ch : ChanId) (cause : Fin 7)
  /-- R157: A write enabling a RATE or BURST byte sets the shaper's tokens by RESET_TO. -/
  | shaperRateWrite (r : ShaperReg) (w : RegW)
  /-- R161: A write of PIR_EPCFG sets the policer's tokens to full. -/
  | expressPolicerWrite (p : PortId) (w : RegW)
  /-- R175: A configuration request arrives at the upstream port's pier and is admitted or waits. -/
  | configurationRequest (p : PortId) (t : Tlp)
  /-- R292: A waiting configuration request is admitted to its CONFIG engine when fewer than three are there. -/
  | configAdmission (n : PierId)
  /-- R178: 1 ms after a reset ends the functions stop answering with Configuration Request Retry Status. -/
  | functionReady (v : VsId)
  /-- R188: A completion for a DMA read arrives, is checked and reassembled. -/
  | dmaCompletion (v : VsId) (t : Tlp)
  /-- R189: A DMA read's completion timeout expires and the job fails. -/
  | dmaCompletionTimeout (v : VsId) (tag : Fin 64)
  /-- R190: An assigned PERST_IN_N goes low and its virtual switch takes a fundamental reset. -/
  | perstInAssert (i : Fin 16)
  /-- R190: PERST_IN_N is released and the upstream port starts training. -/
  | perstInDeassert (i : Fin 16)
  /-- R191: A hot reset or DL_Down on the upstream link resets the virtual switch. -/
  | hotReset (p : PortId)
  /-- R191: Setting Secondary Bus Reset resets the internal bus or the link below a bridge. -/
  | secondaryBusReset (p : PortId)
  /-- R191: Clearing Secondary Bus Reset ends that reset. -/
  | secondaryBusResetClear (p : PortId)
  /-- R192: Initiate Function Level Reset resets the management endpoint or landing function. -/
  | functionLevelReset (v : VsId) (landing : Bool)
  /-- R192: The FLR completes within 1 ms. -/
  | flrComplete (v : VsId) (landing : Bool)
  /-- R198: A debounced PRSNT_N change updates presence and may power off the slot. -/
  | presenceDetectChanged (k : SlotId) (present : Bool)
  /-- R198: ATTN_N asserted for 10 ms sets Attention Button Pressed. -/
  | attentionButtonPressed (k : SlotId) (down : Bool)
  /-- R198: PWRFLT_N asserted for 1 µs asserts PERST_N, deasserts PWREN and sets power off. -/
  | powerFaultDetected (k : SlotId) (low : Bool)
  /-- R198: A write of Power Controller Control = 0 starts slot power-up. -/
  | slotPowerOn (k : SlotId)
  /-- R198: 10 µs after the power-on write PWREN is asserted. -/
  | slotPwrenOn (k : SlotId)
  /-- R198: At POWER_STABLE SLOT[k]_PERST_N is released and the link trains. -/
  | slotPerstRelease (k : SlotId)
  /-- R199: A write of Power Controller Control = 1 asserts PERST_N at once. -/
  | slotPowerOff (k : SlotId)
  /-- R199: 100 µs after the power-off write PWREN is deasserted. -/
  | slotPwrenOff (k : SlotId)
  /-- R202: A downstream PTM request is answered from device time. -/
  | ptmRequest (p : PortId)
  /-- R211: A fabric packet leaves the receive buffer and is routed on or delivered. -/
  | fabricPacketReceived (g : SpanId)
  /-- R206: A write of PIR_FROUTE is checked and starts the route hold. -/
  | frouteWrite (n : PierId) (d : Fin 64) (w : RegW)
  /-- R206: ROUTE_HOLD runs out and held packets for the module are released. -/
  | routeHoldEnd (n : PierId) (d : Fin 64)
  /-- R215: A tag waits longer than CPL_TIME and is completed back with the link-loss status. -/
  | fabricTagTimeout (p : PortId) (tag : Fin 16384)
  /-- R220: Every 1 ms each module measures the one-way delay of each Floing link. -/
  | linkDelayMeasurement (g : SpanId) (ns : Nat)
  /-- R220: Every 1 ms the home module sends its device time to modules holding its remote ports. -/
  | timeDistribution
  /-- R223: PF_HOLD runs out and a read-ahead buffer is discarded and logged. -/
  | prefetchBufferDiscard (p : PortId) (k : Fin 32)
  /-- R224: The MCTP control command Set Endpoint ID assigns the endpoint ID. -/
  | setEndpointId (v : VsId) (from_ : MctpFrom) (eid : Byte)
  /-- R224: The MCTP control command Get Endpoint ID returns the endpoint ID. -/
  | getEndpointId (v : VsId) (from_ : MctpFrom)
  /-- R224: The MCTP control command Get Endpoint UUID returns the UUID. -/
  | getEndpointUuid (v : VsId) (from_ : MctpFrom)
  /-- R224: The MCTP control command returns supported versions. -/
  | getMctpVersionSupport (v : VsId) (from_ : MctpFrom) (ty : Byte)
  /-- R224: The MCTP control command returns supported message types. -/
  | getMessageTypeSupport (v : VsId) (from_ : MctpFrom)
  /-- R224: An MCTP message of type 0x7E submits its descriptor as a command. -/
  | mctpVendorMessage (v : VsId) (from_ : MctpFrom) (vendor : BitVec 16) (desc : List Byte)
  /-- R226: The sideband SETADDR command sets the address pointer or gives RANGE. -/
  | setaddr (x : SbTx)
  /-- R226: The sideband WRITE command writes the register at the pointer. -/
  | write (x : SbTx)
  /-- R226: The sideband WRITE_INC command writes and adds 4 to the pointer. -/
  | writeInc (x : SbTx)
  /-- R226: The sideband READ command reads the register at the pointer. -/
  | read (x : SbTx)
  /-- R226: The sideband READ_INC command reads and adds 4 to the pointer. -/
  | readInc (x : SbTx)
  /-- R227: The sideband RESULT command returns status, access count and read data. -/
  | result (pec : Option Bool)
  /-- R226: A sideband register access completes and its status replaces PENDING. -/
  | sidebandAccessDone
  /-- R225: ENTDAA or SETDASA gives the bridge its I3C dynamic address. -/
  | dynamicAddressAssignment (addr : Fin 128)
  /-- R244: A write setting a window's VALID runs the overlap check and is refused on overlap. -/
  | windowValidWrite (z : Fin 130) (x : Fin 4) (w : RegW)
  /-- R244: A write of GTE_WBASE or GTE_WLIMIT is refused while the window is valid. -/
  | windowBoundsWrite (z : Fin 130) (x : Fin 4) (limit high : Bool) (w : RegW)
  /-- R246: A write setting LOCK applies its other bytes and locks the entry until module reset. -/
  | entryLock (e : LockEnt) (w : RegW)
  /-- R158: A write to the tenant table or a port default is refused if it breaks the one-pier rule. -/
  | tenantEntryWrite (r : TenantReg) (w : RegW)
  /-- R258: An error record reaches the keeper, is numbered and passed to recorder and journal. -/
  | errorRecord (isl : IslandId)
  /-- R264: A port enters span closure and is closed in the steps of Table CONT-5. -/
  | spanClosure (p : PortId) (cause : Fin 7)
  /-- R263: A write of PIR_CLOSE.CLOSE places the port in span closure with cause 5. -/
  | close (p : PortId) (org : Origin)
  /-- R266: A write of PIR_CLOSE.RELEASE releases the port into TRAINING, or is refused. -/
  | release (p : PortId) (org : Origin)
  /-- R267: A pier is closed, its slice discarded and its domains cycled and tested. -/
  | pierClosure (n : PierId)
  /-- R267: The pier's self-test ends and its ports are released or left CLOSED. -/
  | pierSelfTestDone (n : PierId) (ok : Bool)
  /-- R269: A write of GLB_TCLOSE closes the tenant in every pier of the module. -/
  | tenantClose (u : TenantId) (org : Origin)
  /-- R269: A write of GLB_TRELEASE releases the tenant. -/
  | tenantRelease (u : TenantId) (org : Origin)
  /-- R271: The supervisor marks an engine failed and its duties migrate to a sibling. -/
  | engineFailure (g : EngId)
  /-- R273: A cluster fails and its pier's duties pass to the next pier with a live cluster. -/
  | engineClusterFailure (n : PierId)
  /-- R275: A write of GLB_ERRCTL.QUAR enters quarantine with cause 0x3F. -/
  | quar (org : Origin)
  /-- R286: A handler ends and the engine takes the next event by priority. -/
  | handlerEnd (g : EngId)
  /-- R286: An urgent event preempts a running normal handler within 100 ns. -/
  | urgentPreemption (g : EngId)
  /-- R283: The START handler runs for a duty with its reason. -/
  | start (g : EngId)
  /-- R283: The CFG_READ handler serves a configuration read. -/
  | cfgRead (g : EngId)
  /-- R283: The CFG_WRITE handler serves a configuration write and its hardware effects. -/
  | cfgWrite (g : EngId)
  /-- R283: The ERROR handler acts on an error record. -/
  | error (g : EngId)
  /-- R283: The COMMAND handler runs an engine command. -/
  | command (g : EngId)
  /-- R289: A MESSAGE from another duty is handled. -/
  | message (g : EngId)
  /-- R283: A control packet is handled by the FABRIC duty. -/
  | control (g : EngId)
  /-- R283: An ENGINE footway message is handled. -/
  | footway (g : EngId)
  /-- R284: A routed message TLP is handled in 64-byte parts. -/
  | tlp (g : EngId)
  /-- R283: A pending duty timer flag is handled. -/
  | timer (g : EngId)
  /-- R283: A pending link event flag is handled. -/
  | link (g : EngId)
  /-- R283: A pending slot event flag is handled. -/
  | slot (g : EngId)
  /-- R283: A pending lane event flag is handled. -/
  | lane (g : EngId)
  /-- R283: A pending counter overflow flag is handled. -/
  | counter (g : EngId)
  /-- R296: The STOP handler runs for a duty that migrates out or is parked. -/
  | stop (g : EngId)
  /-- R283: A CONTINUE event queued by eng_continue is handled. -/
  | continue_ (g : EngId)
  /-- R287: The intrinsic reads a register of the BAR0 space. -/
  | engRegRead (g : EngId) (off : Nat)
  /-- R288: The intrinsic writes a register and is journalled. -/
  | engRegWrite (g : EngId) (off : Nat) (val : Word) (be : BitVec 4)
  /-- R287: The intrinsic reads a pier table entry. -/
  | engTblRead (g : EngId) (n : PierId) (t : EngTab)
  /-- R288: The intrinsic writes a pier table entry and is journalled. -/
  | engTblWrite (g : EngId) (n : PierId) (t : EngTab) (data : List Byte)
  /-- R287: The intrinsic completes the current configuration request. -/
  | engCfgDone (g : EngId) (st : CfgEnd) (data : Word)
  /-- R289: The intrinsic sends a 32-byte MESSAGE to a duty. -/
  | engMsgSend (g : EngId) (n : PierId) (d : DutyId) (bytes : List Byte)
  /-- R287: The intrinsic sends a control request or response. -/
  | engCtlSend (g : EngId) (m : Fin 64) (d : DutyId) (bytes : List Byte) (response : Bool)
  /-- R287: The intrinsic sends an ENGINE footway message. -/
  | engFwSend (g : EngId) (p : PortId) (bytes : List Byte)
  /-- R290: The intrinsic places a TLP in a port's egress queue. -/
  | engTlpSend (g : EngId) (p : PortId) (t : Tlp)
  /-- R287: The intrinsic arms a duty timer. -/
  | engTimerSet (g : EngId) (t : Fin 4) (ns : Nat) (periodic : Bool)
  /-- R287: The intrinsic cancels a duty timer and clears its flag. -/
  | engTimerCancel (g : EngId) (t : Fin 4)
  /-- R368: The intrinsic reads a live or shadow counter as one held value. -/
  | engCntRead (g : EngId) (b : BlockId) (c : Fin 32)
  /-- R287: The intrinsic places a port in span closure with cause 6. -/
  | engPortClose (g : EngId) (p : PortId)
  /-- R287: The intrinsic releases a port from span closure. -/
  | engPortRelease (g : EngId) (p : PortId)
  /-- R287: The intrinsic closes a tenant. -/
  | engTenantClose (g : EngId) (u : TenantId)
  /-- R287: The intrinsic releases a tenant. -/
  | engTenantRelease (g : EngId) (u : TenantId)
  /-- R287: The intrinsic runs one margin step on the auxiliary sampler. -/
  | engMargin (g : EngId) (p : PortId) (lane : Fin 18) (timing : Bool) (step : Fin 128)
  /-- R287: The intrinsic raises an engine MSI-X vector of a virtual switch. -/
  | engMsix (g : EngId) (v : VsId) (vec : Fin 64)
  /-- R336: The intrinsic ends a command COMPLETED or FAILED. -/
  | engCmdDone (g : EngId) (seq : Nat) (ok : Bool)
  /-- R287: The intrinsic queues CONTINUE and ends the handler. -/
  | engContinue (g : EngId) (value : Word)
  /-- R289: A duty timer expires and sets its pending flag. -/
  | dutyTimerExpiry (n : PierId) (d : DutyId) (t : Fin 4)
  /-- R294: An instruction traps, ending the handler or failing the engine. -/
  | engineTrap (g : EngId) (t : Trap) (pc : Word)
  /-- R294: A handler exceeds its cycle or time limit and the engine fails. -/
  | watchdogExpiry (g : EngId) (pc : Word)
  /-- R285: An event queue entry frees and a waiting source offers its event again. -/
  | eventQueueRoom (g : EngId)
  /-- R297: A write of ENG_CTL.PARK = 1 parks an engine and migrates its duties. -/
  | park (g : EngId) (org : Origin)
  /-- R297: A write of ENG_CTL.PARK = 0 unparks an engine and returns duties home. -/
  | unpark (g : EngId) (org : Origin)
  /-- R296: A planned migration ends with the duties on their new engine. -/
  | plannedMigrationComplete (g : EngId)
  /-- R314: The last section is staged and the content checks accept or reject the image. -/
  | imageStreamDone (fault : Option (Fin 56))
  /-- R315: The commit writes every section, tags and span forms and enters the image's mode. -/
  | imageCommit (fault : Option (Bool × Fin 55))
  /-- R303: The command erases a bank, or is refused. -/
  | bankErase
  /-- R303: The command writes flash from host memory by DMA. -/
  | bankWrite
  /-- R303: The command writes 48 bytes of flash from the descriptor. -/
  | bankWriteInline
  /-- R316: The command checks a bank under R308 and sets its status. -/
  | verify
  /-- R316: The command verifies a bank and performs a module reset from it. -/
  | reload
  /-- R319: The command starts a live replacement of one pier's segment. -/
  | liveApply
  /-- R320: The command ends probation and makes the new bank active. -/
  | liveConfirm
  /-- R324: The command rolls back a live replacement. -/
  | liveRollback
  /-- R309: The command raises the anti-rollback counter, or is refused. -/
  | rollbackAdvance
  /-- R320: The inactive bank's checks end and the replacement moves to STAGE or IDLE. -/
  | liveVerifyDone (fault : Option (Fin 56))
  /-- R320: The segment is staged and ingress on changed ports stops. -/
  | liveStageDone
  /-- R320: Changed ports drain or DRAIN runs out and the upper engines are loaded. -/
  | liveDrainDone
  /-- R320: The four engines are loaded and the table commit runs. -/
  | liveSwapADone
  /-- R321: The tables swap and duties move to the new program. -/
  | liveCommitDone
  /-- R320: All engines run the new program and probation begins. -/
  | liveSwapBDone
  /-- R320: PROBATION runs out and the new bank becomes active. -/
  | probationEnd
  /-- R324: The old segment is applied again and the command ends FAILED. -/
  | rollbackDone
  /-- R328: The keeper takes an entry from a journal FIFO, numbers, stamps and writes it. -/
  | journalEntry (isl : IslandId)
  /-- R342: A write of JNL_RDSEQ's low word latches the entry of that slot. -/
  | journalReadLatch (w : RegW)
  /-- R333: A write of JNL_CMDGO.GO submits the bank's descriptor for acceptance. -/
  | commandSubmit (org : Origin)
  /-- R337: A waiting long command starts when the previous one ends. -/
  | longCommandStart
  /-- R334: The command ends COMPLETED. -/
  | nop
  /-- R339: The command starts a journal checkpoint to MRAM. -/
  | jnlCheckpoint
  /-- R339: The checkpoint has written the newest entries and reserve to MRAM. -/
  | checkpointComplete
  /-- R334: The command writes a kind-9 entry carrying its bytes. -/
  | jnlMark
  /-- R338: The command reports the status of a named command. -/
  | query
  /-- R343: The command writes selected journal entries to host memory. -/
  | exportJournal
  /-- R359: The command writes recorder records or log entries to host memory. -/
  | exportRecorder
  /-- R335: The command fetches descriptors by DMA and submits them in order. -/
  | batch
  /-- R407: The command sets the command cause of Reduced mode. -/
  | reduceEnter
  /-- R407: The command clears the command cause of Reduced mode. -/
  | reduceLeave
  /-- R355: The command starts a recorder flush. -/
  | recFlush
  /-- R433: The command builds and signs an attestation report. -/
  | psivinReport
  /-- R436: The command checks an authorisation and moves the life-cycle state. -/
  | lifecycle
  /-- R336: An engine command goes as a COMMAND event to the named duty. -/
  | engineCommands
  /-- R437: The life-cycle wipe of MRAM ends and a module reset follows. -/
  | mramWipeComplete
  /-- R351: A record's snapshot reads end and it is written to the keeper ring. -/
  | recordComplete
  /-- R355: A flush has caught up or copied 512 KiB and ends. -/
  | flushComplete
  /-- R350: A trigger's hold-off runs out. -/
  | holdoffExpiry (t : TrigId)
  /-- R349: A write of REC_FIRE fires software triggers. -/
  | recFire (bits : Word) (org : Origin)
  /-- R358: A prefetch-discard entry reaches the keeper log. -/
  | prefetchDiscardEntry (n : PierId)
  /-- R366: A write of PMC_CMD.SNAP schedules a snapshot at strike time. -/
  | snap (org : Origin)
  /-- R366: A write of PMC_CMD.FREEZE schedules snapshot and stop. -/
  | freeze (org : Origin)
  /-- R366: A write of PMC_CMD.THAW schedules restart of the counters. -/
  | thaw (org : Origin)
  /-- R366: A write of PMC_CMD.CLEAR schedules a clear of every block. -/
  | clear (org : Origin)
  /-- R366: At strike time every powered block performs the pending action. -/
  | strikeTime
  /-- R366: By T + 1 µs every block has acted and PENDING clears. -/
  | snapshotDone
  /-- R369: A write of PMC_BCTL.CLEAR zeroes one block's counters at once. -/
  | blockClear (b : BlockId) (org : Origin)
  /-- R362: A write enabling EVENT or SUB zeroes the counter and its OVF bit. -/
  | eventSelectWrite (b : BlockId) (k : Fin 8) (w : RegW)
  /-- R362: A counter wraps, sets OVF and may notify the keeper and a duty. -/
  | counterOverflow (b : BlockId) (k : Fin 8)
  /-- R348: Every 3,600 s HOURS rises and HOURS and energy are saved. -/
  | hourTick
  /-- R404: The keeper tap reaches 5.8 V; the first ramp starts and the keeper comes up. -/
  | keeperPowerUp (feedB low : Bool)
  /-- R418: The input falls below 5.8 V during the first ramp and the ramp stops. -/
  | firstRampStop
  /-- R371: At each 1 MHz tick the abutment samples and takes its decisions in precedence order. -/
  | abutmentSample (x : AbtSample)
  /-- R409: After 10 ms below 270 W the Reduced-mode limiter is removed. -/
  | powerLimiterRelease
  /-- R373: A usable feed's input has held high enough for 10 ms. -/
  | feedQualified (f : FeedId)
  /-- R377: The ramp reference reaches the input and the feed is driven fully on. -/
  | rampEnd (f : FeedId)
  /-- R379: The comparator trips and switches the feed off within 300 ns. -/
  | fastTrip (f : FeedId)
  /-- R378: The fault timer reaches FAULT_TIME and the feed switches off. -/
  | faultTimerExpiry (f : FeedId)
  /-- R380: After 1 s in RETRY_WAIT the feed ramps again if selected. -/
  | retryWaitExpiry (f : FeedId)
  /-- R380: After 60 s of continuous ON RETRIES returns to 0. -/
  | retriesClear (f : FeedId)
  /-- R381: After 1 ms at or below 61 V the feed returns to STANDBY. -/
  | overvoltageRecovery (f : FeedId)
  /-- R374: The old feed's off state is confirmed. -/
  | switchoverOffConfirmed
  /-- R374: 0.5 µs after confirmation the new feed is commanded on and carries the load. -/
  | switchoverClose
  /-- R375: Off is not confirmed in 2 µs; the feed is UNUSABLE and the new one left open. -/
  | switchoverConfirmTimeout
  /-- R376: After 100 ms with PRIMARY usable the abutment switches back. -/
  | failbackTimer
  /-- R389: The supply input stays below REDUCE_V for over 1 ms and the voltage cause is raised. -/
  | voltageCauseRaise
  /-- R389: The input stays at or above REDUCE_V + HYST for 100 ms and the cause drops. -/
  | voltageCauseDrop
  /-- R392: The shutdown sequence ends and the SY256 rests in Standby. -/
  | shutdownComplete
  /-- R391: The reservoir reaches 6 V and the keeper stops. -/
  | keeperStop
  /-- R374: A write of ABT_FCTL.SELECT switches to that feed if usable. -/
  | select (f : FeedId) (w : RegW)
  /-- R380: A write of ABT_FCTL.RESTART returns a LATCHED feed to STANDBY. -/
  | restart (f : FeedId) (w : RegW)
  /-- R384: A write of ABT_FCTL.EN enables or disables a feed, refused for the sole supplier. -/
  | feedEnableWrite (f : FeedId) (en : Bool) (org : Origin)
  /-- R399: A write of ABT_VMIN.CLR sets VMIN to 0xFFFF. -/
  | vminClear (org : Origin)
  /-- R387: A threshold write is refused if RESET_V would not lie below WARN_V and REDUCE_V. -/
  | thresholdWrite (reset : Bool) (w : RegW)
  /-- R398: The PMBus PAGE command selects a feed or the module. -/
  | page (w : Option Byte) (pecOk : Bool)
  /-- R398: The PMBus command clears every ABT_EVENT bit. -/
  | clearFaults (pecOk : Bool)
  /-- R398: The PMBus command returns the capability byte. -/
  | capability
  /-- R398: The PMBus command reads or writes WARN_V. -/
  | vinUvWarnLimit (w : Option (BitVec 16)) (pecOk : Bool)
  /-- R398: The PMBus command reads or writes RESET_V. -/
  | vinUvFaultLimit (w : Option (BitVec 16)) (pecOk : Bool)
  /-- R398: The PMBus command reads or writes ILIM. -/
  | iinOcFaultLimit (w : Option (BitVec 16)) (pecOk : Bool)
  /-- R398: The PMBus command returns the status word. -/
  | statusWord
  /-- R398: The PMBus command returns the input status byte. -/
  | statusInput
  /-- R398: The PMBus command returns an input voltage. -/
  | readVin
  /-- R398: The PMBus command returns an input current. -/
  | readIin
  /-- R398: The PMBus command returns a pass-transistor temperature. -/
  | readTemperature1
  /-- R398: The PMBus command returns input power. -/
  | readPin
  /-- R398: The PMBus command returns 0x44. -/
  | pmbusRevision
  /-- R398: The PMBus command returns the energy count and WRAPPED. -/
  | mfrReadEnergy
  /-- R402: MODULE_RST_N low stops traffic, powers every domain off and asserts slot resets. -/
  | moduleReset
  /-- R405: MODULE_RST_N is released and start-up runs from step 3. -/
  | moduleResetDeassert (recovery : Bool)
  /-- R401: Once supply, reset and temperature allow, Standby gives way to Configure or quarantine. -/
  | configureEntry (recovery : Bool)
  /-- R423: A stage copy passes and runs, or none passes and the SY256 stays without image. -/
  | stageVerificationDone
  /-- R410: Landing memory returns, engines unpark and the image's mode resumes. -/
  | reducedExitComplete
  /-- R413: A write of PWD_CTL.ON requests a domain on, accepted or refused. -/
  | domainOnRequest (d : DomId) (w : RegW)
  /-- R413: A write of PWD_CTL.OFF requests a domain off, accepted or refused. -/
  | domainOffRequest (d : DomId) (w : RegW)
  /-- R412: The regulator output is in range and the PLL locked; the test starts. -/
  | domainPowered (d : DomId)
  /-- R414: The domain's self-test passes or fails. -/
  | domainTestComplete (d : DomId) (pass : Bool) (bad : List Nat)
  /-- R412: The domain's memories are zero and the unit rejoins. -/
  | domainWipeComplete (d : DomId)
  /-- R412: Every access in the domain's joints is done and the domain goes OFF. -/
  | domainPowerOffComplete (d : DomId)
  /-- R415: A regulator fault turns the domain off and FAILED and fails its unit. -/
  | regulatorFault (d : DomId)
  /-- R416: Every 100 µs the ten sensors are sampled and the hottest judged against thresholds. -/
  | thermalSample (t : List (BitVec 16))
  /-- R416: After 100 ms below REDUCE_T − HYST_T the thermal cause drops. -/
  | thermalCauseDrop
  /-- R416: A write of GLB_THERM is refused if WARN_T would exceed REDUCE_T. -/
  | thermalThresholdWrite (w : RegW)
  /-- R428: KEY_CMD code 1 provisions a key slot from an authorisation. -/
  | provision (org : Origin)
  /-- R429: KEY_CMD code 2 revokes a key slot from an authorisation. -/
  | revoke (org : Origin)
  /-- R425: KEY_CMD code 3 erases one stage copy, or is refused. -/
  | stageErase (copy : Bool) (org : Origin)
  /-- R425: A write of KEY_STGDATA programs 32 bits and advances the offset. -/
  | stageWrite (w : RegW)
  /-- R445: A changed bank level is applied once the I3C bus is free or 10 ms pass. -/
  | ioBankSwitch
  /-- R153: The PCI Express link partner returns flow-control credit to an egress port, letting a TLP blocked for link credit go. -/
  | flowControlUpdate (p : PortId) (r : LinkCredits)
  /-- R271: The last duty of a failed engine or cluster has moved, within 50 µs, and the Corrected record 0x03 is made. -/
  | failureMigrationComplete (u : Fin 72)
  /-- R316: The flash read and R308 checks of a VERIFY or RELOAD end, setting GLB_BANKSTAT and ending the command or starting the module reset. -/
  | bankVerifyDone (fault : Option (Fin 56))
  /-- R303: The flash erase of a bank finishes and the long BANK_ERASE command ends. -/
  | bankEraseDone
  /-- R433: The signed Psivin report is finished, within 10 ms, and left in KEY_RPTWIN or written out, ending the command. -/
  | psivinReportDone
  /-- R131: The copy of a retired correctable block to its spare ends, the map takes effect, and a waiting access proceeds. -/
  | retirementCopyDone (ch : ChanId) (blk : Nat)
  deriving DecidableEq, Repr

end Sys2Proof
end

