-- ==== Sys2Proof/WellFormed.lean ====
section
/-! DEFINITION. What a command must satisfy beyond its types: numbers within the widths that their fields have in the spec. -/

namespace Sys2Proof

/-- A Requester ID, Completer ID or function address: 16 bits (Table JNL-1). -/
def ridWf (n : Nat) : Bool := n < 2 ^ 16
/-- A register offset: a doubleword of the 64 MiB register space. -/
def offsetWf (n : Nat) : Bool := n < 2 ^ 26 && n % 4 == 0
/-- A span of time in ns that a 64-bit count holds. -/
def timeWf (n : Nat) : Bool := n < 2 ^ 64
/-- A sequence number: 64 bits (R328). -/
def seqWf (n : Nat) : Bool := n < 2 ^ 64
/-- A data block of a caisson channel (R128). -/
def blockWf (n : Nat) : Bool := n < 29360128
/-- A command descriptor: 64 bytes (Table JNL-3). -/
def descWf (l : List Byte) : Bool := l.length == 64
/-- The readings of the ten sensors (R416). -/
def sensorsWf (l : List (BitVec 16)) : Bool := l.length == 10

/-- A read carries no data, a write its length of it. -/
def Tlp.dataWf (t : Tlp) : Bool :=
  match t.kind with
  | .memRd | .memRdLk | .cfgRd | .ioRd => t.data.isEmpty
  | .memWr | .defWr | .cfgWr | .ioWr => t.data.length == t.len
  | .atomic _ | .cpl | .msg => true
/-- The sizes of R209: a header of 12 to 64 bytes, at most 4,096 bytes of payload, and a digest of 4 bytes or none. -/
def Tlp.sizeWf (t : Tlp) : Bool :=
  12 ≤ t.hdr && t.hdr ≤ 64 && t.hdr % 4 == 0 && t.data.length ≤ 4096 && (t.digest == 0 || t.digest == 4)
/-- A TLP: its IDs, tag and address fit their fields, its sizes are those of a TLP, and its data fit its kind. -/
def Tlp.wf (t : Tlp) : Bool :=
  t.sizeWf && ridWf t.rid && ridWf t.cid && ridWf t.bdf && t.tag < 2 ^ 14 && t.addr < 2 ^ 64 && t.dataWf
/-- An origin: a 16-bit Requester ID where it has one. -/
def Origin.wf : Origin → Bool
  | .bar0 _ _ rid _ | .mctp _ _ rid _ => ridWf rid
  | .sideband | .debug | .engine _ _ | .keeper => true
/-- A register write. -/
def RegW.wf (w : RegW) : Bool := w.org.wf
/-- An access in a joint. -/
def JointAcc.wf (a : JointAcc) : Bool := a.org.wf && offsetWf a.off && a.req.all Tlp.wf
/-- A sender of an MCTP message. -/
def MctpFrom.wf (m : MctpFrom) : Bool := ridWf m.rid
/-- A footway message: TYPE and ID are bytes, and ENGINE carries at most 28 bytes (R74, Table FLO-6). -/
def FwMsg.wf (m : FwMsg) : Bool := m.ty < 256 && m.id < 256 && m.bytes.length ≤ 28
/-- A well-formed command. -/
def Instr.wf (i : Instr) : Bool :=
  match i with
  | .registerWrite off w => offsetWf off && w.wf
  | .clockLossDetection _ accs => accs.all JointAcc.wf
  | .oscillatorLoss accs => accs.all JointAcc.wf
  | .oscillatorTest _ => true
  | .oscillatorRestore => true
  | .dlActive _ _ _ _ _ _ _ _ => true
  | .recovery _ _ => true
  | .recoveryComplete _ _ _ _ _ => true
  | .linkDown _ => true
  | .lowpowerEntry _ _ _ _ => true
  | .lowpowerExit _ => true
  | .l0pNarrowingRequest _ => true
  | .partnerLowPowerRequest _ _ => true
  | .retrain _ w => w.wf
  | .clockModeWrite _ w => w.wf
  | .slotClockWindowOpen _ => true
  | .slotClockWindowClose _ => true
  | .clkreqChange _ _ => true
  | .adaptationStep _ _ _ _ _ _ _ => true
  | .laneMargining _ _ _ => true
  | .errclr _ _ w => w.wf
  | .calibrationVisitStart _ => true
  | .calSpareLocked _ => true
  | .calWindowEnd _ _ _ => true
  | .calLaneRelocked _ => true
  | .calAckTimeout _ => true
  | .flitSend _ => true
  | .flitReceived _ raw args p => raw.length == 256 && args.wf && p.all Tlp.wf
  | .ackTimerExpiry _ => true
  | .nakTimerExpiry _ => true
  | .replayTimeout _ => true
  | .footwayRepeat _ => true
  | .linkParam _ m => m.wf
  | .linkParamAck _ m => m.wf
  | .calReq _ m => m.wf
  | .calAck _ m => m.wf
  | .calSwap _ m => m.wf
  | .calDone _ m => m.wf
  | .calAbort _ m => m.wf
  | .laneSwap _ m => m.wf
  | .laneSwapAck _ m => m.wf
  | .widthChg _ m => m.wf
  | .widthChgAck _ m => m.wf
  | .rateChg _ m => m.wf
  | .rateChgAck _ m => m.wf
  | .engine _ m => m.wf
  | .agreedFlitIndexReached _ _ => true
  | .laneFailure _ _ => true
  | .spareFailure _ => true
  | .floingDownTimer _ => true
  | .floingTrainingDone _ _ _ _ => true
  | .floingTrainingTimeout _ => true
  | .rateChangeComplete _ => true
  | .linkLockLoss _ => true
  | .floingRetrain _ w => w.wf
  | .rxAllocWrite _ _ w => w.wf
  | .deckCellTime => true
  | .tlpCopyReceived _ _ _ _ => true
  | .deckAck _ _ _ => true
  | .deckNak _ _ _ => true
  | .deckAckTimeout _ _ _ => true
  | .flowDrainEnd _ => true
  | .fence _ org => org.wf
  | .unfence _ org => org.wf
  | .planeDrained _ => true
  | .planeFailure _ _ => true
  | .pmapWrite _ _ w => w.wf
  | .bufferReserveWrite _ _ w => w.wf
  | .tlpReceived _ t _ => t.wf
  | .heldTlpRetry _ _ => true
  | .spillReadBack _ _ _ _ _ => true
  | .egressTlpBoundary _ => true
  | .landingRequest _ _ => true
  | .tagSet _ org => org.wf
  | .tagSetDone => true
  | .landingScanDone => true
  | .wipeDone => true
  | .spillDrainTimeout => true
  | .channelFailure _ _ => true
  | .shaperRateWrite _ w => w.wf
  | .expressPolicerWrite _ w => w.wf
  | .configurationRequest _ t => t.wf
  | .configAdmission _ => true
  | .functionReady _ => true
  | .dmaCompletion _ t => t.wf
  | .dmaCompletionTimeout _ _ => true
  | .perstInAssert _ => true
  | .perstInDeassert _ => true
  | .hotReset _ => true
  | .secondaryBusReset _ => true
  | .secondaryBusResetClear _ => true
  | .functionLevelReset _ _ => true
  | .flrComplete _ _ => true
  | .presenceDetectChanged _ _ => true
  | .attentionButtonPressed _ _ => true
  | .powerFaultDetected _ _ => true
  | .slotPowerOn _ => true
  | .slotPwrenOn _ => true
  | .slotPerstRelease _ => true
  | .slotPowerOff _ => true
  | .slotPwrenOff _ => true
  | .ptmRequest _ => true
  | .fabricPacketReceived _ => true
  | .frouteWrite _ _ w => w.wf
  | .routeHoldEnd _ _ => true
  | .fabricTagTimeout _ _ => true
  | .linkDelayMeasurement _ ns => timeWf ns
  | .timeDistribution => true
  | .prefetchBufferDiscard _ _ => true
  | .setEndpointId _ from_ _ => from_.wf
  | .getEndpointId _ from_ => from_.wf
  | .getEndpointUuid _ from_ => from_.wf
  | .getMctpVersionSupport _ from_ _ => from_.wf
  | .getMessageTypeSupport _ from_ => from_.wf
  | .mctpVendorMessage _ from_ _ desc => from_.wf && descWf desc
  | .setaddr _ => true
  | .write _ => true
  | .writeInc _ => true
  | .read _ => true
  | .readInc _ => true
  | .result _ => true
  | .sidebandAccessDone => true
  | .dynamicAddressAssignment _ => true
  | .windowValidWrite _ _ w => w.wf
  | .windowBoundsWrite _ _ _ _ w => w.wf
  | .entryLock _ w => w.wf
  | .tenantEntryWrite _ w => w.wf
  | .errorRecord _ => true
  | .spanClosure _ _ => true
  | .close _ org => org.wf
  | .release _ org => org.wf
  | .pierClosure _ => true
  | .pierSelfTestDone _ _ => true
  | .tenantClose _ org => org.wf
  | .tenantRelease _ org => org.wf
  | .engineFailure _ => true
  | .engineClusterFailure _ => true
  | .quar org => org.wf
  | .handlerEnd _ => true
  | .urgentPreemption _ => true
  | .start _ => true
  | .cfgRead _ => true
  | .cfgWrite _ => true
  | .error _ => true
  | .command _ => true
  | .message _ => true
  | .control _ => true
  | .footway _ => true
  | .tlp _ => true
  | .timer _ => true
  | .link _ => true
  | .slot _ => true
  | .lane _ => true
  | .counter _ => true
  | .stop _ => true
  | .continue_ _ => true
  | .engRegRead _ off => offsetWf off
  | .engRegWrite _ off _ _ => offsetWf off
  | .engTblRead _ _ _ => true
  | .engTblWrite _ _ _ _ => true
  | .engCfgDone _ _ _ => true
  | .engMsgSend _ _ _ _ => true
  | .engCtlSend _ _ _ _ _ => true
  | .engFwSend _ _ bytes => bytes.length == 28
  | .engTlpSend _ _ t => t.wf
  | .engTimerSet _ _ ns _ => timeWf ns
  | .engTimerCancel _ _ => true
  | .engCntRead _ _ _ => true
  | .engPortClose _ _ => true
  | .engPortRelease _ _ => true
  | .engTenantClose _ _ => true
  | .engTenantRelease _ _ => true
  | .engMargin _ _ _ _ _ => true
  | .engMsix _ _ _ => true
  | .engCmdDone _ seq _ => seqWf seq
  | .engContinue _ _ => true
  | .dutyTimerExpiry _ _ _ => true
  | .engineTrap _ _ _ => true
  | .watchdogExpiry _ _ => true
  | .eventQueueRoom _ => true
  | .park _ org => org.wf
  | .unpark _ org => org.wf
  | .plannedMigrationComplete _ => true
  | .imageStreamDone _ => true
  | .imageCommit _ => true
  | .bankErase => true
  | .bankWrite => true
  | .bankWriteInline => true
  | .verify => true
  | .reload => true
  | .liveApply => true
  | .liveConfirm => true
  | .liveRollback => true
  | .rollbackAdvance => true
  | .liveVerifyDone _ => true
  | .liveStageDone => true
  | .liveDrainDone => true
  | .liveSwapADone => true
  | .liveCommitDone => true
  | .liveSwapBDone => true
  | .probationEnd => true
  | .rollbackDone => true
  | .journalEntry _ => true
  | .journalReadLatch w => w.wf
  | .commandSubmit org => org.wf
  | .longCommandStart => true
  | .nop => true
  | .jnlCheckpoint => true
  | .checkpointComplete => true
  | .jnlMark => true
  | .query => true
  | .exportJournal => true
  | .exportRecorder => true
  | .batch => true
  | .reduceEnter => true
  | .reduceLeave => true
  | .recFlush => true
  | .psivinReport => true
  | .lifecycle => true
  | .engineCommands => true
  | .mramWipeComplete => true
  | .recordComplete => true
  | .flushComplete => true
  | .holdoffExpiry _ => true
  | .recFire _ org => org.wf
  | .prefetchDiscardEntry _ => true
  | .snap org => org.wf
  | .freeze org => org.wf
  | .thaw org => org.wf
  | .clear org => org.wf
  | .strikeTime => true
  | .snapshotDone => true
  | .blockClear _ org => org.wf
  | .eventSelectWrite _ _ w => w.wf
  | .counterOverflow _ _ => true
  | .hourTick => true
  | .keeperPowerUp _ _ => true
  | .firstRampStop => true
  | .abutmentSample _ => true
  | .powerLimiterRelease => true
  | .feedQualified _ => true
  | .rampEnd _ => true
  | .fastTrip _ => true
  | .faultTimerExpiry _ => true
  | .retryWaitExpiry _ => true
  | .retriesClear _ => true
  | .overvoltageRecovery _ => true
  | .switchoverOffConfirmed => true
  | .switchoverClose => true
  | .switchoverConfirmTimeout => true
  | .failbackTimer => true
  | .voltageCauseRaise => true
  | .voltageCauseDrop => true
  | .shutdownComplete => true
  | .keeperStop => true
  | .select _ w => w.wf
  | .restart _ w => w.wf
  | .feedEnableWrite _ _ org => org.wf
  | .vminClear org => org.wf
  | .thresholdWrite _ w => w.wf
  | .page _ _ => true
  | .clearFaults _ => true
  | .capability => true
  | .vinUvWarnLimit _ _ => true
  | .vinUvFaultLimit _ _ => true
  | .iinOcFaultLimit _ _ => true
  | .statusWord => true
  | .statusInput => true
  | .readVin => true
  | .readIin => true
  | .readTemperature1 => true
  | .readPin => true
  | .pmbusRevision => true
  | .mfrReadEnergy => true
  | .moduleReset => true
  | .moduleResetDeassert _ => true
  | .configureEntry _ => true
  | .stageVerificationDone => true
  | .reducedExitComplete => true
  | .domainOnRequest _ w => w.wf
  | .domainOffRequest _ w => w.wf
  | .domainPowered _ => true
  | .domainTestComplete _ _ _ => true
  | .domainWipeComplete _ => true
  | .domainPowerOffComplete _ => true
  | .regulatorFault _ => true
  | .thermalSample t => sensorsWf t
  | .thermalCauseDrop => true
  | .thermalThresholdWrite w => w.wf
  | .provision org => org.wf
  | .revoke org => org.wf
  | .stageErase _ org => org.wf
  | .stageWrite w => w.wf
  | .ioBankSwitch => true
  | .flowControlUpdate _ _ => true
  | .failureMigrationComplete _ => true
  | .bankVerifyDone _ => true
  | .bankEraseDone => true
  | .psivinReportDone => true
  | .retirementCopyDone _ blk => blockWf blk

end Sys2Proof
end

