-- ==== Sys2Proof/Machine/Regs.lean ====
section
/-! DEFINITION. The register space: every register of Tables REG-4 to REG-15 (rules R459 to R461), its place, its reset
value, the access code of every field (rule R4, Table SCOPE-4), and the names of the fields. -/

namespace Sys2Proof.Machine

/-- One constructor per register of Tables REG-4 to REG-15 (rule R459). -/
inductive Reg where
  | GLB_ID | GLB_TOPO | GLB_PLANES | GLB_SPANFORM | GLB_PERST | GLB_OWNER | GLB_PERSTMAP | GLB_SLOT | GLB_VSSTAT
  | GLB_DMASTAT | GLB_FABID | GLB_SBCFG | GLB_SBSTAT | GLB_ERRLAST | GLB_ERRCTL | GLB_ERRSTAT | GLB_PIERSTAT
  | GLB_QSTAT | GLB_TCLOSE | GLB_TRELEASE | GLB_IMGSTAT | GLB_IMGBUILD | GLB_IMGERR | GLB_BANKSTAT | GLB_SEGBUILD
  | GLB_LIVECFG | GLB_MODE | GLB_THERM | GLB_TEMPMAX | GLB_TEMP | GLB_IOCFG | ABT_CFG | ABT_ILIM | ABT_VTHR0
  | ABT_VTHR1 | ABT_STAT | ABT_FEED | ABT_FCTL | ABT_EVENT | ABT_ALERTEN | ABT_VIN | ABT_VOUT | ABT_IIN | ABT_PIN
  | ABT_ENERGY | ABT_TEMP | ABT_VMIN | ABT_RES | ABT_TLIM | ABT_PMB | KEY_STAT | KEY_SLOT | KEY_SERIAL | KEY_CMD
  | KEY_STGADDR | KEY_STGDATA | KEY_NONCE | KEY_SLOTHASH | KEY_IDPUB | KEY_AUTH | KEY_RPTWIN | JNL_HEAD | JNL_TAIL
  | JNL_ACK | JNL_CFG | JNL_STAT | JNL_RDSEQ | JNL_RDDATA | JNL_CMDDESC | JNL_CMDGO | JNL_CMDRES | JNL_CMDSEQ
  | REC_CFG | REC_STAT | REC_HOURS | REC_PCYCLE | REC_RLINE | REC_RSEQ | REC_FIRE | REC_TRGCFG | REC_TRGMATCH
  | REC_TRGCNT | REC_TRGLIST | REC_PFSTAT | REC_PFLOG | REC_RINGWIN | REC_MRAMWIN | SPN_CTL | SPN_CLKMODE
  | SPN_PSTAT | SPN_LANE | SPN_EQCTL | SPN_COEF | SPN_CALCTL | SPN_CALSTAT | SPN_PMCTL | SPN_FLCTL | SPN_FLLDT
  | SPN_FLTHR | SPN_FLSTAT | SPN_FLSEQ | SPN_FLSEQRX | SPN_FLCNT | SPN_FLVC | ENG_CTL | ENG_STAT | ENG_TRAP
  | ENG_TRAPPC | ENG_WDOG | PIR_DKCTL | PIR_DKSTAT | PIR_PMAP | PIR_BUFCFG | PIR_BUFSTAT | PIR_BUFEXP | PIR_BUFTHR
  | PIR_BUFOCC | PIR_CLSMAP | PIR_SCHCTL | PIR_EPLOG | PIR_EPCFG | PIR_EPCNT | PIR_EXPMON | PIR_QCFG | PIR_QRATE
  | PIR_QTOK | PIR_TSCFG | PIR_TSRATE | PIR_TSTOK | PIR_FROUTE | PIR_FBCTL | PIR_FBPORT | PIR_PFCNT | PIR_CLOSE
  | PIR_CPLTRK | PIR_ERRCNT | PIR_ERRCNT2 | PIR_ERRTHR | PIR_DUTY | DCK_CTL | DCK_STAT | DCK_ERR | DCK_THR
  | CSN_CFG | CSN_STAT | CSN_POOL | CSN_TAGBASE | CSN_TAGLEN | CSN_TAGCMD | CSN_TAGSTAT | CSN_PQUOTA | CSN_PSPILL
  | CSN_CHSTAT | CSN_CHERR | CSN_CHTHR | GTE_SLOT | GTE_SBKEY | GTE_WBASE | GTE_WLIMIT | GTE_WATTR | TNT_KEY
  | TNT_PORTDEF | TNT_ENTCTL | TNT_ENTRID | TNT_ENTPASID | GTE_LOGSTAT | GTE_LOGE | PMC_CMD | PMC_STAT | PMC_SNAPTIME
  | PMC_BCTL | PMC_BSTAT | PMC_CYC | PMC_CNT | PMC_EVT | PMC_SCYC | PMC_SOVF | PMC_SCNT | CLK_ISLSTAT | CLK_OSC
  | CLK_ACCSTAT | CLK_ACCADDR | PWD_CTL | PWD_STAT
  deriving DecidableEq, Repr

/-- A field of a register: its register and its bits [hi:lo]. -/
structure Fld where
  reg : Reg
  hi : Nat
  lo : Nat
  deriving DecidableEq, Repr

/-- The number of bits of a field. -/
def Fld.width (f : Fld) : Nat := f.hi + 1 - f.lo

/-- Where the instances of a register lie: the first offset, and (count, stride) of each index, outermost first. -/
structure Place where
  base : Nat
  dims : List (Nat × Nat)
  deriving DecidableEq, Repr

/-- Offsets of Tables REG-4 to REG-15. Banked JNL_ registers (R345) have the offset of one bank. -/
def Reg.place : Reg → Place
  | .GLB_ID => ⟨0x00000000, []⟩
  | .GLB_TOPO => ⟨0x00000010, []⟩
  | .GLB_PLANES => ⟨0x00000040, []⟩
  | .GLB_SPANFORM => ⟨0x00000100, [(32, 0x4)]⟩
  | .GLB_PERST => ⟨0x00000200, []⟩
  | .GLB_OWNER => ⟨0x00000204, []⟩
  | .GLB_PERSTMAP => ⟨0x00000240, [(16, 0x4)]⟩
  | .GLB_SLOT => ⟨0x00000300, [(32, 0x4)]⟩
  | .GLB_VSSTAT => ⟨0x00000400, [(64, 0x4)]⟩
  | .GLB_DMASTAT => ⟨0x00000500, [(64, 0x4)]⟩
  | .GLB_FABID => ⟨0x00000600, []⟩
  | .GLB_SBCFG => ⟨0x00000604, []⟩
  | .GLB_SBSTAT => ⟨0x00000608, []⟩
  | .GLB_ERRLAST => ⟨0x000006C0, [(4, 0x10), (4, 0x4)]⟩
  | .GLB_ERRCTL => ⟨0x00000700, []⟩
  | .GLB_ERRSTAT => ⟨0x00000704, []⟩
  | .GLB_PIERSTAT => ⟨0x00000740, [(8, 0x4)]⟩
  | .GLB_QSTAT => ⟨0x00000760, []⟩
  | .GLB_TCLOSE => ⟨0x00000780, [(16, 0x4)]⟩
  | .GLB_TRELEASE => ⟨0x000007C0, [(16, 0x4)]⟩
  | .GLB_IMGSTAT => ⟨0x00000800, []⟩
  | .GLB_IMGBUILD => ⟨0x00000804, [(2, 0x4)]⟩
  | .GLB_IMGERR => ⟨0x00000810, []⟩
  | .GLB_BANKSTAT => ⟨0x00000820, [(3, 0x4)]⟩
  | .GLB_SEGBUILD => ⟨0x00000830, [(8, 0x4)]⟩
  | .GLB_LIVECFG => ⟨0x00000850, []⟩
  | .GLB_MODE => ⟨0x00000900, []⟩
  | .GLB_THERM => ⟨0x00000904, []⟩
  | .GLB_TEMPMAX => ⟨0x00000908, []⟩
  | .GLB_TEMP => ⟨0x00000940, [(10, 0x4)]⟩
  | .GLB_IOCFG => ⟨0x00000A00, []⟩
  | .ABT_CFG => ⟨0x00100000, []⟩
  | .ABT_ILIM => ⟨0x00100004, []⟩
  | .ABT_VTHR0 => ⟨0x00100008, []⟩
  | .ABT_VTHR1 => ⟨0x0010000C, []⟩
  | .ABT_STAT => ⟨0x00100010, []⟩
  | .ABT_FEED => ⟨0x00100020, [(2, 0x4)]⟩
  | .ABT_FCTL => ⟨0x00100030, [(2, 0x4)]⟩
  | .ABT_EVENT => ⟨0x00100040, []⟩
  | .ABT_ALERTEN => ⟨0x00100044, []⟩
  | .ABT_VIN => ⟨0x00100100, [(2, 0x4)]⟩
  | .ABT_VOUT => ⟨0x00100108, []⟩
  | .ABT_IIN => ⟨0x00100110, [(2, 0x4)]⟩
  | .ABT_PIN => ⟨0x00100118, []⟩
  | .ABT_ENERGY => ⟨0x00100120, [(2, 0x4)]⟩
  | .ABT_TEMP => ⟨0x00100128, [(2, 0x4)]⟩
  | .ABT_VMIN => ⟨0x00100130, []⟩
  | .ABT_RES => ⟨0x00100134, []⟩
  | .ABT_TLIM => ⟨0x00100138, []⟩
  | .ABT_PMB => ⟨0x00100200, []⟩
  | .KEY_STAT => ⟨0x00200000, []⟩
  | .KEY_SLOT => ⟨0x00200010, [(4, 0x4)]⟩
  | .KEY_SERIAL => ⟨0x00200020, [(2, 0x4)]⟩
  | .KEY_CMD => ⟨0x00200030, []⟩
  | .KEY_STGADDR => ⟨0x00200034, []⟩
  | .KEY_STGDATA => ⟨0x00200038, []⟩
  | .KEY_NONCE => ⟨0x00200040, [(8, 0x4)]⟩
  | .KEY_SLOTHASH => ⟨0x00200080, [(4, 0x30), (12, 0x4)]⟩
  | .KEY_IDPUB => ⟨0x00200200, [(25, 0x4)]⟩
  | .KEY_AUTH => ⟨0x00200400, [(80, 0x4)]⟩
  | .KEY_RPTWIN => ⟨0x00201000, [(2048, 0x4)]⟩
  | .JNL_HEAD => ⟨0x00400000, [(2, 0x4)]⟩
  | .JNL_TAIL => ⟨0x00400008, [(2, 0x4)]⟩
  | .JNL_ACK => ⟨0x00400010, [(2, 0x4)]⟩
  | .JNL_CFG => ⟨0x00400018, []⟩
  | .JNL_STAT => ⟨0x0040001C, []⟩
  | .JNL_RDSEQ => ⟨0x00400020, [(2, 0x4)]⟩
  | .JNL_RDDATA => ⟨0x00400040, [(16, 0x4)]⟩
  | .JNL_CMDDESC => ⟨0x00401000, [(16, 0x4)]⟩
  | .JNL_CMDGO => ⟨0x00401040, []⟩
  | .JNL_CMDRES => ⟨0x00401044, []⟩
  | .JNL_CMDSEQ => ⟨0x00401048, [(2, 0x4)]⟩
  | .REC_CFG => ⟨0x00800000, []⟩
  | .REC_STAT => ⟨0x00800004, []⟩
  | .REC_HOURS => ⟨0x00800008, []⟩
  | .REC_PCYCLE => ⟨0x0080000C, []⟩
  | .REC_RLINE => ⟨0x00800010, [(2, 0x8), (2, 0x4)]⟩
  | .REC_RSEQ => ⟨0x00800020, [(2, 0x8), (2, 0x4)]⟩
  | .REC_FIRE => ⟨0x00800030, []⟩
  | .REC_TRGCFG => ⟨0x00800100, [(32, 0x10)]⟩
  | .REC_TRGMATCH => ⟨0x00800104, [(32, 0x10)]⟩
  | .REC_TRGCNT => ⟨0x00800108, [(32, 0x10)]⟩
  | .REC_TRGLIST => ⟨0x00800400, [(32, 0x100), (64, 0x4)]⟩
  | .REC_PFSTAT => ⟨0x00804000, []⟩
  | .REC_PFLOG => ⟨0x00804100, [(256, 0x20), (8, 0x4)]⟩
  | .REC_RINGWIN => ⟨0x00880000, [(131072, 0x4)]⟩
  | .REC_MRAMWIN => ⟨0x00C00000, [(1048576, 0x4)]⟩
  | .SPN_CTL => ⟨0x01000000, [(8, 0x200000), (4, 0x20000)]⟩
  | .SPN_CLKMODE => ⟨0x01000004, [(8, 0x200000), (4, 0x20000)]⟩
  | .SPN_PSTAT => ⟨0x01000010, [(8, 0x200000), (4, 0x20000), (4, 0x4)]⟩
  | .SPN_LANE => ⟨0x01000040, [(8, 0x200000), (4, 0x20000), (9, 0x4)]⟩
  | .SPN_EQCTL => ⟨0x01000080, [(8, 0x200000), (4, 0x20000)]⟩
  | .SPN_COEF => ⟨0x01000090, [(8, 0x200000), (4, 0x20000), (9, 0x4)]⟩
  | .SPN_CALCTL => ⟨0x010000C0, [(8, 0x200000), (4, 0x20000)]⟩
  | .SPN_CALSTAT => ⟨0x010000C4, [(8, 0x200000), (4, 0x20000)]⟩
  | .SPN_PMCTL => ⟨0x010000D0, [(8, 0x200000), (4, 0x20000)]⟩
  | .SPN_FLCTL => ⟨0x01000100, [(8, 0x200000), (4, 0x20000)]⟩
  | .SPN_FLLDT => ⟨0x01000104, [(8, 0x200000), (4, 0x20000)]⟩
  | .SPN_FLTHR => ⟨0x01000108, [(8, 0x200000), (4, 0x20000)]⟩
  | .SPN_FLSTAT => ⟨0x01000110, [(8, 0x200000), (4, 0x20000)]⟩
  | .SPN_FLSEQ => ⟨0x01000114, [(8, 0x200000), (4, 0x20000)]⟩
  | .SPN_FLSEQRX => ⟨0x01000118, [(8, 0x200000), (4, 0x20000)]⟩
  | .SPN_FLCNT => ⟨0x01000120, [(8, 0x200000), (4, 0x20000)]⟩
  | .SPN_FLVC => ⟨0x01000140, [(8, 0x200000), (4, 0x20000), (8, 0x4)]⟩
  | .ENG_CTL => ⟨0x01100000, [(8, 0x200000), (8, 0x4000)]⟩
  | .ENG_STAT => ⟨0x01100004, [(8, 0x200000), (8, 0x4000)]⟩
  | .ENG_TRAP => ⟨0x01100008, [(8, 0x200000), (8, 0x4000)]⟩
  | .ENG_TRAPPC => ⟨0x0110000C, [(8, 0x200000), (8, 0x4000)]⟩
  | .ENG_WDOG => ⟨0x01100010, [(8, 0x200000), (8, 0x4000)]⟩
  | .PIR_DKCTL => ⟨0x01180000, [(8, 0x200000)]⟩
  | .PIR_DKSTAT => ⟨0x01180004, [(8, 0x200000)]⟩
  | .PIR_PMAP => ⟨0x01180040, [(8, 0x200000), (8, 0x4)]⟩
  | .PIR_BUFCFG => ⟨0x01180100, [(8, 0x200000)]⟩
  | .PIR_BUFSTAT => ⟨0x01180104, [(8, 0x200000)]⟩
  | .PIR_BUFEXP => ⟨0x01180108, [(8, 0x200000)]⟩
  | .PIR_BUFTHR => ⟨0x01180200, [(8, 0x200000), (128, 0x4)]⟩
  | .PIR_BUFOCC => ⟨0x01180400, [(8, 0x200000), (128, 0x4)]⟩
  | .PIR_CLSMAP => ⟨0x01180800, [(8, 0x200000)]⟩
  | .PIR_SCHCTL => ⟨0x01180804, [(8, 0x200000)]⟩
  | .PIR_EPLOG => ⟨0x01180808, [(8, 0x200000)]⟩
  | .PIR_EPCFG => ⟨0x01180900, [(8, 0x200000), (16, 0x4)]⟩
  | .PIR_EPCNT => ⟨0x01180940, [(8, 0x200000), (16, 0x4)]⟩
  | .PIR_EXPMON => ⟨0x01180980, [(8, 0x200000), (16, 0x4)]⟩
  | .PIR_QCFG => ⟨0x01181000, [(8, 0x200000), (128, 0x4)]⟩
  | .PIR_QRATE => ⟨0x01181200, [(8, 0x200000), (128, 0x4)]⟩
  | .PIR_QTOK => ⟨0x01181400, [(8, 0x200000), (128, 0x4)]⟩
  | .PIR_TSCFG => ⟨0x01182000, [(8, 0x200000), (512, 0x4)]⟩
  | .PIR_TSRATE => ⟨0x01182800, [(8, 0x200000), (512, 0x4)]⟩
  | .PIR_TSTOK => ⟨0x01183000, [(8, 0x200000), (512, 0x4)]⟩
  | .PIR_FROUTE => ⟨0x01184000, [(8, 0x200000), (64, 0x4)]⟩
  | .PIR_FBCTL => ⟨0x01184100, [(8, 0x200000)]⟩
  | .PIR_FBPORT => ⟨0x01184200, [(8, 0x200000), (16, 0x4)]⟩
  | .PIR_PFCNT => ⟨0x01184240, [(8, 0x200000), (16, 0x4)]⟩
  | .PIR_CLOSE => ⟨0x01185000, [(8, 0x200000), (16, 0x4)]⟩
  | .PIR_CPLTRK => ⟨0x01185040, [(8, 0x200000), (16, 0x4)]⟩
  | .PIR_ERRCNT => ⟨0x01185080, [(8, 0x200000)]⟩
  | .PIR_ERRCNT2 => ⟨0x01185084, [(8, 0x200000)]⟩
  | .PIR_ERRTHR => ⟨0x01185088, [(8, 0x200000)]⟩
  | .PIR_DUTY => ⟨0x01186000, [(8, 0x200000), (64, 0x4)]⟩
  | .DCK_CTL => ⟨0x02000000, [(16, 0x10000)]⟩
  | .DCK_STAT => ⟨0x02000004, [(16, 0x10000)]⟩
  | .DCK_ERR => ⟨0x02000008, [(16, 0x10000)]⟩
  | .DCK_THR => ⟨0x0200000C, [(16, 0x10000)]⟩
  | .CSN_CFG => ⟨0x02800000, []⟩
  | .CSN_STAT => ⟨0x02800004, []⟩
  | .CSN_POOL => ⟨0x02800008, []⟩
  | .CSN_TAGBASE => ⟨0x02800010, [(2, 0x4)]⟩
  | .CSN_TAGLEN => ⟨0x02800018, []⟩
  | .CSN_TAGCMD => ⟨0x0280001C, []⟩
  | .CSN_TAGSTAT => ⟨0x02800020, []⟩
  | .CSN_PQUOTA => ⟨0x02800100, [(8, 0x4)]⟩
  | .CSN_PSPILL => ⟨0x02800140, [(8, 0x4)]⟩
  | .CSN_CHSTAT => ⟨0x02801000, [(8, 0x100)]⟩
  | .CSN_CHERR => ⟨0x02801004, [(8, 0x100)]⟩
  | .CSN_CHTHR => ⟨0x02801008, [(8, 0x100)]⟩
  | .GTE_SLOT => ⟨0x03000000, [(130, 0x4)]⟩
  | .GTE_SBKEY => ⟨0x03000400, []⟩
  | .GTE_WBASE => ⟨0x03001000, [(130, 0x80), (4, 0x20), (2, 0x4)]⟩
  | .GTE_WLIMIT => ⟨0x03001008, [(130, 0x80), (4, 0x20), (2, 0x4)]⟩
  | .GTE_WATTR => ⟨0x03001010, [(130, 0x80), (4, 0x20)]⟩
  | .TNT_KEY => ⟨0x03006000, [(512, 0x4)]⟩
  | .TNT_PORTDEF => ⟨0x03006800, [(128, 0x4)]⟩
  | .TNT_ENTCTL => ⟨0x03008000, [(8, 0x1000), (256, 0x10)]⟩
  | .TNT_ENTRID => ⟨0x03008004, [(8, 0x1000), (256, 0x10)]⟩
  | .TNT_ENTPASID => ⟨0x03008008, [(8, 0x1000), (256, 0x10), (2, 0x4)]⟩
  | .GTE_LOGSTAT => ⟨0x03010000, [(9, 0x400)]⟩
  | .GTE_LOGE => ⟨0x03010100, [(9, 0x400), (16, 0x20), (8, 0x4)]⟩
  | .PMC_CMD => ⟨0x03800000, []⟩
  | .PMC_STAT => ⟨0x03800004, []⟩
  | .PMC_SNAPTIME => ⟨0x03800008, [(2, 0x4)]⟩
  | .PMC_BCTL => ⟨0x03810000, [(129, 0x100)]⟩
  | .PMC_BSTAT => ⟨0x03810004, [(129, 0x100)]⟩
  | .PMC_CYC => ⟨0x03810008, [(129, 0x100), (2, 0x4)]⟩
  | .PMC_CNT => ⟨0x03810010, [(129, 0x100), (8, 0x8), (2, 0x4)]⟩
  | .PMC_EVT => ⟨0x03810050, [(129, 0x100), (8, 0x4)]⟩
  | .PMC_SCYC => ⟨0x03810080, [(129, 0x100), (2, 0x4)]⟩
  | .PMC_SOVF => ⟨0x03810088, [(129, 0x100)]⟩
  | .PMC_SCNT => ⟨0x03810090, [(129, 0x100), (8, 0x8), (2, 0x4)]⟩
  | .CLK_ISLSTAT => ⟨0x03C00000, [(26, 0x4)]⟩
  | .CLK_OSC => ⟨0x03C00080, []⟩
  | .CLK_ACCSTAT => ⟨0x03C00100, [(3, 0x4)]⟩
  | .CLK_ACCADDR => ⟨0x03C00110, [(3, 0x4)]⟩
  | .PWD_CTL => ⟨0x03C01000, [(80, 0x4)]⟩
  | .PWD_STAT => ⟨0x03C01200, [(80, 0x4)]⟩

/-- Reset values (Reset columns of Tables REG-4 to REG-15 and R460). A reset given as MRAM, OTP or Random takes the value
that log entry 2 names. `i` is the flat instance index. -/
def Reg.reset : Reg → Nat → Word
  | .GLB_ID, _ => 0xA0001F9C
  | .GLB_TOPO, _ => 0x08108820
  | .GLB_SLOT, _ => 0x00000004
  | .GLB_SBCFG, _ => 0x0000C05A
  | .GLB_ERRCTL, _ => 0x000000C0
  | .GLB_IMGSTAT, _ => 0x0C000000
  | .GLB_LIVECFG, _ => 0x006403E8
  | .GLB_MODE, _ => 0x00000001
  | .GLB_THERM, _ => 0x00645F05
  | .ABT_CFG, _ => 0x00002802
  | .ABT_ILIM, _ => 0x00C800F0
  | .ABT_VTHR0, _ => 0x04380384
  | .ABT_VTHR1, _ => 0x0028023A
  | .ABT_FCTL, _ => 0x00000001
  | .ABT_ALERTEN, _ => 0x00007602
  | .ABT_VMIN, _ => 0x0000FFFF
  | .ABT_TLIM, _ => 0x0000007D
  | .ABT_PMB, _ => 0x000000DB
  | .JNL_CFG, _ => 0x80000200
  | .REC_CFG, _ => 0x0000008C
  | .SPN_CTL, _ => 0x000F0F00
  | .SPN_CLKMODE, _ => 0x00000055
  | .SPN_PSTAT, _ => 0x00003000
  | .SPN_LANE, _ => 0x00007000
  | .SPN_EQCTL, _ => 0x00040200
  | .SPN_CALCTL, _ => 0x00000281
  | .SPN_PMCTL, _ => 0x000000F1
  | .SPN_FLCTL, _ => 0x00148A02
  | .SPN_FLLDT, _ => 0x0000000A
  | .SPN_FLTHR, _ => 0x00001000
  | .SPN_FLSTAT, _ => 0x07000000
  | .SPN_FLSEQ, _ => 0x00000FFF
  | .SPN_FLSEQRX, _ => 0x00000FFF
  | .SPN_FLVC, _ => 0x08000000
  | .ENG_STAT, _ => 0x00000005
  | .ENG_WDOG, _ => 0x00030064
  | .PIR_DKCTL, _ => 0x00010014
  | .PIR_PMAP, i => if i % 2 = 0 then 0x76543210 else 0xFEDCBA98
  | .PIR_BUFCFG, _ => 0x00000800
  | .PIR_BUFTHR, _ => 0x00040040
  | .PIR_CLSMAP, _ => 0x01222232
  | .PIR_SCHCTL, _ => 0x00000040
  | .PIR_EPCFG, _ => 0x03800032
  | .PIR_QCFG, _ => 0x0040003F
  | .PIR_QRATE, _ => 0x003FFFFF
  | .PIR_TSCFG, _ => 0x0000003F
  | .PIR_TSRATE, _ => 0x003FFFFF
  | .PIR_FBCTL, _ => 0x32641480
  | .PIR_ERRTHR, _ => 0x00000010
  | .DCK_STAT, _ => 0x00000002
  | .DCK_THR, _ => 0x00000004
  | .CSN_CFG, _ => 0x0A100080
  | .CSN_PQUOTA, _ => 0x00010000
  | .CSN_CHSTAT, _ => 0x71C71002
  | .CSN_CHTHR, _ => 0x00000010
  | .GTE_WLIMIT, i => if i % 2 = 0 then 0x3F else 0
  | .TNT_PORTDEF, p => BitVec.ofNat 32 p
  | _, _ => 0

/-- Bits of a register by access code: what a write may set, clear, or act on. -/
structure Masks where
  rw : Nat
  w1c : Nat
  w1s : Nat
  wo : Nat
  rwl : Nat
  deriving DecidableEq, Repr

/-- The access codes of the field tables as masks: RW, RW1C, RW1S, WO and RWL bits; every other bit is RO, ROS or Reserved
(rules R4 and R5). -/
def Reg.masks : Reg → Masks
  | .GLB_DMASTAT => ⟨0x0, 0x40000000, 0x0, 0x0, 0x0⟩
  | .GLB_ERRCTL => ⟨0x70, 0x0, 0x0, 0x100, 0x0⟩
  | .GLB_ERRSTAT => ⟨0x0, 0xF, 0x0, 0x0, 0x0⟩
  | .GLB_TCLOSE => ⟨0x0, 0x0, 0xFFFFFFFF, 0x0, 0x0⟩
  | .GLB_TRELEASE => ⟨0x0, 0x0, 0x0, 0xFFFFFFFF, 0x0⟩
  | .GLB_IMGERR => ⟨0x0, 0x80000000, 0x0, 0x0, 0x0⟩
  | .GLB_LIVECFG => ⟨0xFFFFFFFF, 0x0, 0x0, 0x0, 0x0⟩
  | .GLB_THERM => ⟨0xFFFFFF, 0x0, 0x0, 0x0, 0x0⟩
  | .ABT_CFG => ⟨0xFF07, 0x0, 0x0, 0x0, 0x0⟩
  | .ABT_ILIM => ⟨0xFFFF01FF, 0x0, 0x0, 0x0, 0x0⟩
  | .ABT_VTHR0 => ⟨0x1FFF1FFF, 0x0, 0x0, 0x0, 0x0⟩
  | .ABT_VTHR1 => ⟨0xFF1FFF, 0x0, 0x0, 0x0, 0x0⟩
  | .ABT_FCTL => ⟨0x1, 0x0, 0x0, 0x6, 0x0⟩
  | .ABT_EVENT => ⟨0x0, 0xFFFE, 0x0, 0x0, 0x0⟩
  | .ABT_ALERTEN => ⟨0xFFFE, 0x0, 0x0, 0x0, 0x0⟩
  | .ABT_VMIN => ⟨0x0, 0x0, 0x0, 0x80000000, 0x0⟩
  | .ABT_TLIM => ⟨0xFF, 0x0, 0x0, 0x0, 0x0⟩
  | .KEY_CMD => ⟨0x0, 0x0, 0x0, 0x10F, 0x0⟩
  | .KEY_STGADDR => ⟨0xFFFFFC, 0x0, 0x0, 0x0, 0x0⟩
  | .KEY_STGDATA => ⟨0x0, 0x0, 0x0, 0xFFFFFFFF, 0x0⟩
  | .KEY_AUTH => ⟨0xFFFFFFFF, 0x0, 0x0, 0x0, 0x0⟩
  | .JNL_ACK => ⟨0xFFFFFFFF, 0x0, 0x0, 0x0, 0x0⟩
  | .JNL_CFG => ⟨0x800003FF, 0x0, 0x0, 0x0, 0x0⟩
  | .JNL_STAT => ⟨0x0, 0x20000000, 0x0, 0x0, 0x0⟩
  | .JNL_RDSEQ => ⟨0xFFFFFFFF, 0x0, 0x0, 0x0, 0x0⟩
  | .JNL_CMDDESC => ⟨0xFFFFFFFF, 0x0, 0x0, 0x0, 0x0⟩
  | .JNL_CMDGO => ⟨0x0, 0x0, 0x0, 0x1, 0x0⟩
  | .REC_CFG => ⟨0x9F, 0x0, 0x0, 0x0, 0x0⟩
  | .REC_FIRE => ⟨0x0, 0x0, 0x0, 0xFFFFFFFF, 0x0⟩
  | .REC_TRGCFG => ⟨0xFFFFFFFF, 0x0, 0x0, 0x0, 0x0⟩
  | .REC_TRGMATCH => ⟨0xFFFFFFFF, 0x0, 0x0, 0x0, 0x0⟩
  | .REC_TRGLIST => ⟨0x3FFFFFC, 0x0, 0x0, 0x0, 0x0⟩
  | .SPN_CTL => ⟨0xF0F00, 0x0, 0x0, 0xF000, 0x0⟩
  | .SPN_CLKMODE => ⟨0xFF, 0x0, 0x0, 0x0, 0x0⟩
  | .SPN_LANE => ⟨0x0, 0x0, 0x0, 0x8000, 0x0⟩
  | .SPN_EQCTL => ⟨0xFFA00, 0x0, 0x0, 0x0, 0x0⟩
  | .SPN_CALCTL => ⟨0xFFC1, 0x0, 0x0, 0x0, 0x0⟩
  | .SPN_CALSTAT => ⟨0x0, 0x10, 0x0, 0x0, 0x0⟩
  | .SPN_PMCTL => ⟨0xF7, 0x0, 0x0, 0x0, 0x0⟩
  | .SPN_FLCTL => ⟨0xFFFF82, 0x0, 0x0, 0x1, 0x0⟩
  | .SPN_FLLDT => ⟨0xFFFFF, 0x0, 0x0, 0x0, 0x0⟩
  | .SPN_FLTHR => ⟨0xFFFF, 0x0, 0x0, 0x0, 0x0⟩
  | .SPN_FLSTAT => ⟨0x0, 0x800000, 0x0, 0x0, 0x0⟩
  | .SPN_FLVC => ⟨0xFFF0000, 0x0, 0x0, 0x0, 0x0⟩
  | .ENG_CTL => ⟨0x1, 0x0, 0x0, 0x0, 0x0⟩
  | .ENG_TRAP => ⟨0x0, 0x80000000, 0x0, 0x0, 0x0⟩
  | .ENG_WDOG => ⟨0xFFFF03FF, 0x0, 0x0, 0x0, 0x0⟩
  | .PIR_DKCTL => ⟨0x100FF, 0x0, 0x0, 0x0, 0x0⟩
  | .PIR_PMAP => ⟨0xFFFFFFFF, 0x0, 0x0, 0x0, 0x0⟩
  | .PIR_BUFCFG => ⟨0xFFFF, 0x0, 0x0, 0x0, 0x0⟩
  | .PIR_BUFTHR => ⟨0x7FFFF, 0x0, 0x0, 0x0, 0x0⟩
  | .PIR_SCHCTL => ⟨0xFF, 0x0, 0x0, 0x0, 0x0⟩
  | .PIR_EPLOG => ⟨0x0, 0x80000000, 0x0, 0x0, 0x0⟩
  | .PIR_EPCFG => ⟨0xFFBFFFFF, 0x0, 0x0, 0x0, 0x0⟩
  | .PIR_QCFG => ⟨0xC7FFFFFF, 0x0, 0x0, 0x0, 0x0⟩
  | .PIR_QRATE => ⟨0x3FFFFF, 0x0, 0x0, 0x0, 0x0⟩
  | .PIR_TSCFG => ⟨0xC000FFFF, 0x0, 0x0, 0x0, 0x0⟩
  | .PIR_TSRATE => ⟨0x3FFFFF, 0x0, 0x0, 0x0, 0x0⟩
  | .PIR_FROUTE => ⟨0x8000007F, 0x0, 0x0, 0x0, 0x0⟩
  | .PIR_FBCTL => ⟨0xFFFFFF80, 0x0, 0x0, 0x0, 0x0⟩
  | .PIR_CLOSE => ⟨0x0, 0x0, 0x0, 0x3, 0x0⟩
  | .PIR_ERRTHR => ⟨0xFF, 0x0, 0x0, 0x0, 0x0⟩
  | .DCK_CTL => ⟨0x0, 0x0, 0x0, 0x3, 0x0⟩
  | .DCK_THR => ⟨0xFF, 0x0, 0x0, 0x0, 0x0⟩
  | .CSN_CFG => ⟨0xFFFFFF80, 0x0, 0x0, 0x0, 0x0⟩
  | .CSN_STAT => ⟨0x0, 0x80000, 0x0, 0x0, 0x0⟩
  | .CSN_TAGBASE => ⟨0xFFFFFFFF, 0x0, 0x0, 0x0, 0x0⟩
  | .CSN_TAGLEN => ⟨0xFFFFFFF, 0x0, 0x0, 0x0, 0x0⟩
  | .CSN_TAGCMD => ⟨0x0, 0x0, 0x0, 0x800003FF, 0x0⟩
  | .CSN_TAGSTAT => ⟨0x0, 0x40000000, 0x0, 0x0, 0x0⟩
  | .CSN_PQUOTA => ⟨0x3FFFFF, 0x0, 0x0, 0x0, 0x0⟩
  | .CSN_CHTHR => ⟨0xFF, 0x0, 0x0, 0x0, 0x0⟩
  | .GTE_SLOT => ⟨0x0, 0x0, 0x80000000, 0x0, 0x103FF⟩
  | .GTE_SBKEY => ⟨0x0, 0x0, 0x80000000, 0x0, 0x3FF⟩
  | .GTE_WBASE => ⟨0x0, 0x0, 0x0, 0x0, 0xFFFFFFFF⟩
  | .GTE_WLIMIT => ⟨0x0, 0x0, 0x0, 0x0, 0xFFFFFFFF⟩
  | .GTE_WATTR => ⟨0x0, 0x0, 0x80000000, 0x0, 0x600003FF⟩
  | .TNT_KEY => ⟨0x0, 0x0, 0x80000000, 0x0, 0x3FF⟩
  | .TNT_PORTDEF => ⟨0x0, 0x0, 0x80000000, 0x0, 0x1FF⟩
  | .TNT_ENTCTL => ⟨0x0, 0x0, 0x80000000, 0x0, 0x607F01FF⟩
  | .TNT_ENTRID => ⟨0x0, 0x0, 0x0, 0x0, 0xFFFFFFFF⟩
  | .TNT_ENTPASID => ⟨0x0, 0x0, 0x0, 0x0, 0xFFFFF⟩
  | .PMC_CMD => ⟨0x0, 0x0, 0x0, 0xF, 0x0⟩
  | .PMC_BCTL => ⟨0x77F0000, 0x0, 0x0, 0x1, 0x0⟩
  | .PMC_BSTAT => ⟨0x0, 0xFF, 0x0, 0x0, 0x0⟩
  | .PMC_EVT => ⟨0xC00F0FFF, 0x0, 0x0, 0x0, 0x0⟩
  | .CLK_ACCSTAT => ⟨0x0, 0x80000000, 0x0, 0x0, 0x0⟩
  | .PWD_CTL => ⟨0x4, 0x0, 0x0, 0x3, 0x0⟩
  | _ => ⟨0, 0, 0, 0, 0⟩

/-- Every register, in the order of the constructors. -/
def Reg.all0 : List Reg :=
  [.GLB_ID, .GLB_TOPO, .GLB_PLANES, .GLB_SPANFORM, .GLB_PERST, .GLB_OWNER, .GLB_PERSTMAP, .GLB_SLOT, .GLB_VSSTAT, .GLB_DMASTAT, .GLB_FABID, .GLB_SBCFG, .GLB_SBSTAT, .GLB_ERRLAST, .GLB_ERRCTL, .GLB_ERRSTAT, .GLB_PIERSTAT, .GLB_QSTAT, .GLB_TCLOSE, .GLB_TRELEASE, .GLB_IMGSTAT, .GLB_IMGBUILD, .GLB_IMGERR, .GLB_BANKSTAT, .GLB_SEGBUILD, .GLB_LIVECFG, .GLB_MODE, .GLB_THERM, .GLB_TEMPMAX, .GLB_TEMP, .GLB_IOCFG, .ABT_CFG, .ABT_ILIM, .ABT_VTHR0, .ABT_VTHR1, .ABT_STAT, .ABT_FEED, .ABT_FCTL, .ABT_EVENT, .ABT_ALERTEN, .ABT_VIN, .ABT_VOUT, .ABT_IIN, .ABT_PIN, .ABT_ENERGY, .ABT_TEMP]
def Reg.all1 : List Reg :=
  [.ABT_VMIN, .ABT_RES, .ABT_TLIM, .ABT_PMB, .KEY_STAT, .KEY_SLOT, .KEY_SERIAL, .KEY_CMD, .KEY_STGADDR, .KEY_STGDATA, .KEY_NONCE, .KEY_SLOTHASH, .KEY_IDPUB, .KEY_AUTH, .KEY_RPTWIN, .JNL_HEAD, .JNL_TAIL, .JNL_ACK, .JNL_CFG, .JNL_STAT, .JNL_RDSEQ, .JNL_RDDATA, .JNL_CMDDESC, .JNL_CMDGO, .JNL_CMDRES, .JNL_CMDSEQ, .REC_CFG, .REC_STAT, .REC_HOURS, .REC_PCYCLE, .REC_RLINE, .REC_RSEQ, .REC_FIRE, .REC_TRGCFG, .REC_TRGMATCH, .REC_TRGCNT, .REC_TRGLIST, .REC_PFSTAT, .REC_PFLOG, .REC_RINGWIN, .REC_MRAMWIN, .SPN_CTL, .SPN_CLKMODE, .SPN_PSTAT, .SPN_LANE, .SPN_EQCTL]
def Reg.all2 : List Reg :=
  [.SPN_COEF, .SPN_CALCTL, .SPN_CALSTAT, .SPN_PMCTL, .SPN_FLCTL, .SPN_FLLDT, .SPN_FLTHR, .SPN_FLSTAT, .SPN_FLSEQ, .SPN_FLSEQRX, .SPN_FLCNT, .SPN_FLVC, .ENG_CTL, .ENG_STAT, .ENG_TRAP, .ENG_TRAPPC, .ENG_WDOG, .PIR_DKCTL, .PIR_DKSTAT, .PIR_PMAP, .PIR_BUFCFG, .PIR_BUFSTAT, .PIR_BUFEXP, .PIR_BUFTHR, .PIR_BUFOCC, .PIR_CLSMAP, .PIR_SCHCTL, .PIR_EPLOG, .PIR_EPCFG, .PIR_EPCNT, .PIR_EXPMON, .PIR_QCFG, .PIR_QRATE, .PIR_QTOK, .PIR_TSCFG, .PIR_TSRATE, .PIR_TSTOK, .PIR_FROUTE, .PIR_FBCTL, .PIR_FBPORT, .PIR_PFCNT, .PIR_CLOSE, .PIR_CPLTRK, .PIR_ERRCNT, .PIR_ERRCNT2, .PIR_ERRTHR]
def Reg.all3 : List Reg :=
  [.PIR_DUTY, .DCK_CTL, .DCK_STAT, .DCK_ERR, .DCK_THR, .CSN_CFG, .CSN_STAT, .CSN_POOL, .CSN_TAGBASE, .CSN_TAGLEN, .CSN_TAGCMD, .CSN_TAGSTAT, .CSN_PQUOTA, .CSN_PSPILL, .CSN_CHSTAT, .CSN_CHERR, .CSN_CHTHR, .GTE_SLOT, .GTE_SBKEY, .GTE_WBASE, .GTE_WLIMIT, .GTE_WATTR, .TNT_KEY, .TNT_PORTDEF, .TNT_ENTCTL, .TNT_ENTRID, .TNT_ENTPASID, .GTE_LOGSTAT, .GTE_LOGE, .PMC_CMD, .PMC_STAT, .PMC_SNAPTIME, .PMC_BCTL, .PMC_BSTAT, .PMC_CYC, .PMC_CNT, .PMC_EVT, .PMC_SCYC, .PMC_SOVF, .PMC_SCNT, .CLK_ISLSTAT, .CLK_OSC, .CLK_ACCSTAT, .CLK_ACCADDR, .PWD_CTL, .PWD_STAT]
/-- Every register. -/
def Reg.all : List Reg := Reg.all0 ++ Reg.all1 ++ Reg.all2 ++ Reg.all3

/-! The fields of the registers, `REGISTER_FIELD` (rule R4 and each chapter's field tables). -/
namespace F
def GLB_ID_STEPPING : Fld := ⟨.GLB_ID, 31, 24⟩
def GLB_ID_VENDOR : Fld := ⟨.GLB_ID, 15, 0⟩
def GLB_TOPO_CHANNELS : Fld := ⟨.GLB_TOPO, 27, 24⟩
def GLB_TOPO_PLANES : Fld := ⟨.GLB_TOPO, 20, 16⟩
def GLB_TOPO_ENG_PER_PIER : Fld := ⟨.GLB_TOPO, 15, 12⟩
def GLB_TOPO_PIERS : Fld := ⟨.GLB_TOPO, 11, 8⟩
def GLB_TOPO_SPANS : Fld := ⟨.GLB_TOPO, 7, 0⟩
def GLB_PLANES_FAILED : Fld := ⟨.GLB_PLANES, 31, 16⟩
def GLB_PLANES_LIVE : Fld := ⟨.GLB_PLANES, 15, 0⟩
def GLB_SPANFORM_PRESENT : Fld := ⟨.GLB_SPANFORM, 11, 8⟩
def GLB_SPANFORM_UPSTREAM : Fld := ⟨.GLB_SPANFORM, 7, 4⟩
def GLB_SPANFORM_FORM : Fld := ⟨.GLB_SPANFORM, 2, 0⟩
def GLB_PERST_LEVEL : Fld := ⟨.GLB_PERST, 15, 0⟩
def GLB_OWNER_VALID : Fld := ⟨.GLB_OWNER, 31, 31⟩
def GLB_OWNER_VS : Fld := ⟨.GLB_OWNER, 5, 0⟩
def GLB_PERSTMAP_VALID : Fld := ⟨.GLB_PERSTMAP, 31, 31⟩
def GLB_PERSTMAP_PORT : Fld := ⟨.GLB_PERSTMAP, 6, 0⟩
def GLB_SLOT_BOUND : Fld := ⟨.GLB_SLOT, 31, 31⟩
def GLB_SLOT_PORT : Fld := ⟨.GLB_SLOT, 30, 24⟩
def GLB_SLOT_CLKRUN : Fld := ⟨.GLB_SLOT, 7, 7⟩
def GLB_SLOT_CLKREQ : Fld := ⟨.GLB_SLOT, 6, 6⟩
def GLB_SLOT_ATTN : Fld := ⟨.GLB_SLOT, 5, 5⟩
def GLB_SLOT_PWRFLT : Fld := ⟨.GLB_SLOT, 4, 4⟩
def GLB_SLOT_PWREN : Fld := ⟨.GLB_SLOT, 3, 3⟩
def GLB_SLOT_PERST : Fld := ⟨.GLB_SLOT, 2, 2⟩
def GLB_SLOT_PRSNT : Fld := ⟨.GLB_SLOT, 1, 1⟩
def GLB_VSSTAT_PRESENT : Fld := ⟨.GLB_VSSTAT, 31, 31⟩
def GLB_VSSTAT_RSTCAUSE : Fld := ⟨.GLB_VSSTAT, 27, 24⟩
def GLB_VSSTAT_MEP_D : Fld := ⟨.GLB_VSSTAT, 23, 22⟩
def GLB_VSSTAT_NOTREADY : Fld := ⟨.GLB_VSSTAT, 21, 21⟩
def GLB_VSSTAT_NDS : Fld := ⟨.GLB_VSSTAT, 20, 16⟩
def GLB_VSSTAT_UPORT : Fld := ⟨.GLB_VSSTAT, 14, 8⟩
def GLB_VSSTAT_BUS : Fld := ⟨.GLB_VSSTAT, 7, 0⟩
def GLB_DMASTAT_BUSY : Fld := ⟨.GLB_DMASTAT, 31, 31⟩
def GLB_DMASTAT_ERR : Fld := ⟨.GLB_DMASTAT, 30, 30⟩
def GLB_DMASTAT_CAUSE : Fld := ⟨.GLB_DMASTAT, 29, 27⟩
def GLB_DMASTAT_TAGS : Fld := ⟨.GLB_DMASTAT, 7, 0⟩
def GLB_FABID_FABRIC : Fld := ⟨.GLB_FABID, 31, 16⟩
def GLB_FABID_MODULE : Fld := ⟨.GLB_FABID, 5, 0⟩
def GLB_SBCFG_I3C_EN : Fld := ⟨.GLB_SBCFG, 15, 15⟩
def GLB_SBCFG_SMB_EN : Fld := ⟨.GLB_SBCFG, 14, 14⟩
def GLB_SBCFG_SMB_SPEED : Fld := ⟨.GLB_SBCFG, 13, 12⟩
def GLB_SBCFG_ADDR : Fld := ⟨.GLB_SBCFG, 6, 0⟩
def GLB_SBSTAT_PECERR : Fld := ⟨.GLB_SBSTAT, 31, 24⟩
def GLB_SBSTAT_NACKS : Fld := ⟨.GLB_SBSTAT, 23, 16⟩
def GLB_SBSTAT_LAST : Fld := ⟨.GLB_SBSTAT, 7, 0⟩
def GLB_ERRCTL_LOSS_CA : Fld := ⟨.GLB_ERRCTL, 31, 31⟩
def GLB_ERRCTL_QUAR : Fld := ⟨.GLB_ERRCTL, 8, 8⟩
def GLB_ERRCTL_ALERT_EN3 : Fld := ⟨.GLB_ERRCTL, 7, 7⟩
def GLB_ERRCTL_ALERT_EN : Fld := ⟨.GLB_ERRCTL, 6, 4⟩
def GLB_ERRSTAT_FAULT : Fld := ⟨.GLB_ERRSTAT, 9, 9⟩
def GLB_ERRSTAT_ALERT : Fld := ⟨.GLB_ERRSTAT, 8, 8⟩
def GLB_ERRSTAT_SEEN : Fld := ⟨.GLB_ERRSTAT, 3, 0⟩
def GLB_PIERSTAT_STATE : Fld := ⟨.GLB_PIERSTAT, 1, 0⟩
def GLB_QSTAT_QUAR : Fld := ⟨.GLB_QSTAT, 31, 31⟩
def GLB_QSTAT_CAUSE : Fld := ⟨.GLB_QSTAT, 7, 0⟩
def GLB_TCLOSE_CLOSED : Fld := ⟨.GLB_TCLOSE, 31, 0⟩
def GLB_TRELEASE_RELEASE : Fld := ⟨.GLB_TRELEASE, 31, 0⟩
def GLB_IMGSTAT_ACTIVE : Fld := ⟨.GLB_IMGSTAT, 28, 28⟩
def GLB_IMGSTAT_LOADED : Fld := ⟨.GLB_IMGSTAT, 27, 26⟩
def GLB_IMGSTAT_LOAD : Fld := ⟨.GLB_IMGSTAT, 25, 23⟩
def GLB_IMGSTAT_LIVE : Fld := ⟨.GLB_IMGSTAT, 22, 19⟩
def GLB_IMGSTAT_LIVE_PIER : Fld := ⟨.GLB_IMGSTAT, 18, 16⟩
def GLB_IMGSTAT_RECOVERY : Fld := ⟨.GLB_IMGSTAT, 15, 15⟩
def GLB_IMGSTAT_SECVER : Fld := ⟨.GLB_IMGSTAT, 6, 0⟩
def GLB_IMGBUILD_BUILD : Fld := ⟨.GLB_IMGBUILD, 31, 0⟩
def GLB_IMGERR_VALID : Fld := ⟨.GLB_IMGERR, 31, 31⟩
def GLB_IMGERR_BANK : Fld := ⟨.GLB_IMGERR, 30, 29⟩
def GLB_IMGERR_CODE : Fld := ⟨.GLB_IMGERR, 28, 24⟩
def GLB_IMGERR_SECTION : Fld := ⟨.GLB_IMGERR, 21, 16⟩
def GLB_IMGERR_PIER : Fld := ⟨.GLB_IMGERR, 2, 0⟩
def GLB_BANKSTAT_STATE : Fld := ⟨.GLB_BANKSTAT, 31, 30⟩
def GLB_BANKSTAT_CODE : Fld := ⟨.GLB_BANKSTAT, 20, 16⟩
def GLB_BANKSTAT_SECVER : Fld := ⟨.GLB_BANKSTAT, 6, 0⟩
def GLB_SEGBUILD_BUILD : Fld := ⟨.GLB_SEGBUILD, 31, 0⟩
def GLB_LIVECFG_PROBATION : Fld := ⟨.GLB_LIVECFG, 31, 16⟩
def GLB_LIVECFG_DRAIN : Fld := ⟨.GLB_LIVECFG, 15, 0⟩
def GLB_MODE_THERM_LATCH : Fld := ⟨.GLB_MODE, 14, 14⟩
def GLB_MODE_ENTERING : Fld := ⟨.GLB_MODE, 13, 13⟩
def GLB_MODE_EXITING : Fld := ⟨.GLB_MODE, 12, 12⟩
def GLB_MODE_THERM_SD : Fld := ⟨.GLB_MODE, 11, 11⟩
def GLB_MODE_CAUSE_CMD : Fld := ⟨.GLB_MODE, 10, 10⟩
def GLB_MODE_CAUSE_THERM : Fld := ⟨.GLB_MODE, 9, 9⟩
def GLB_MODE_CAUSE_VOLT : Fld := ⟨.GLB_MODE, 8, 8⟩
def GLB_MODE_IMAGE_MODE : Fld := ⟨.GLB_MODE, 6, 4⟩
def GLB_MODE_MODE : Fld := ⟨.GLB_MODE, 2, 0⟩
def GLB_THERM_REDUCE_T : Fld := ⟨.GLB_THERM, 23, 16⟩
def GLB_THERM_WARN_T : Fld := ⟨.GLB_THERM, 15, 8⟩
def GLB_THERM_HYST_T : Fld := ⟨.GLB_THERM, 7, 0⟩
def GLB_TEMPMAX_WARN : Fld := ⟨.GLB_TEMPMAX, 20, 20⟩
def GLB_TEMPMAX_SENSOR : Fld := ⟨.GLB_TEMPMAX, 19, 16⟩
def GLB_TEMPMAX_TEMP : Fld := ⟨.GLB_TEMPMAX, 15, 0⟩
def GLB_TEMP_TEMP : Fld := ⟨.GLB_TEMP, 15, 0⟩
def GLB_IOCFG_I3C_PU : Fld := ⟨.GLB_IOCFG, 15, 15⟩
def GLB_IOCFG_OD_PU : Fld := ⟨.GLB_IOCFG, 14, 14⟩
def GLB_IOCFG_LEVEL : Fld := ⟨.GLB_IOCFG, 5, 0⟩
def ABT_CFG_RAMP : Fld := ⟨.ABT_CFG, 15, 10⟩
def ABT_CFG_BRACE_ACT : Fld := ⟨.ABT_CFG, 9, 8⟩
def ABT_CFG_TEMP_SRC : Fld := ⟨.ABT_CFG, 3, 3⟩
def ABT_CFG_RETRY : Fld := ⟨.ABT_CFG, 2, 2⟩
def ABT_CFG_FAILBACK : Fld := ⟨.ABT_CFG, 1, 1⟩
def ABT_CFG_PRIMARY : Fld := ⟨.ABT_CFG, 0, 0⟩
def ABT_ILIM_FAULT_TIME : Fld := ⟨.ABT_ILIM, 31, 16⟩
def ABT_ILIM_ILIM : Fld := ⟨.ABT_ILIM, 8, 0⟩
def ABT_VTHR0_REDUCE_V : Fld := ⟨.ABT_VTHR0, 28, 16⟩
def ABT_VTHR0_WARN_V : Fld := ⟨.ABT_VTHR0, 12, 0⟩
def ABT_VTHR1_HYST : Fld := ⟨.ABT_VTHR1, 23, 16⟩
def ABT_VTHR1_RESET_V : Fld := ⟨.ABT_VTHR1, 12, 0⟩
def ABT_STAT_PG : Fld := ⟨.ABT_STAT, 31, 31⟩
def ABT_STAT_FAULT_PENDING : Fld := ⟨.ABT_STAT, 30, 30⟩
def ABT_STAT_SWITCHING : Fld := ⟨.ABT_STAT, 29, 29⟩
def ABT_STAT_REDUCE_REQ : Fld := ⟨.ABT_STAT, 28, 28⟩
def ABT_STAT_SUPPLY : Fld := ⟨.ABT_STAT, 27, 25⟩
def ABT_STAT_ACTIVE : Fld := ⟨.ABT_STAT, 24, 24⟩
def ABT_STAT_ACTIVE_VALID : Fld := ⟨.ABT_STAT, 23, 23⟩
def ABT_FEED_STATE : Fld := ⟨.ABT_FEED, 31, 29⟩
def ABT_FEED_RETRIES : Fld := ⟨.ABT_FEED, 25, 24⟩
def ABT_FEED_LASTOFF : Fld := ⟨.ABT_FEED, 23, 20⟩
def ABT_FEED_TRIPS : Fld := ⟨.ABT_FEED, 15, 0⟩
def ABT_FCTL_SELECT : Fld := ⟨.ABT_FCTL, 2, 2⟩
def ABT_FCTL_RESTART : Fld := ⟨.ABT_FCTL, 1, 1⟩
def ABT_FCTL_EN : Fld := ⟨.ABT_FCTL, 0, 0⟩
def ABT_EVENT_EVENT : Fld := ⟨.ABT_EVENT, 15, 1⟩
def ABT_ALERTEN_EN : Fld := ⟨.ABT_ALERTEN, 15, 1⟩
def ABT_VIN_VOLTS : Fld := ⟨.ABT_VIN, 15, 0⟩
def ABT_VOUT_VOLTS : Fld := ⟨.ABT_VOUT, 15, 0⟩
def ABT_IIN_AMPS : Fld := ⟨.ABT_IIN, 15, 0⟩
def ABT_PIN_WATTS : Fld := ⟨.ABT_PIN, 15, 0⟩
def ABT_ENERGY_ENERGY_LO : Fld := ⟨.ABT_ENERGY, 31, 0⟩
def ABT_ENERGY_WRAPPED : Fld := ⟨.ABT_ENERGY, 31, 31⟩
def ABT_ENERGY_ENERGY_HI : Fld := ⟨.ABT_ENERGY, 15, 0⟩
def ABT_TEMP_SRC : Fld := ⟨.ABT_TEMP, 31, 31⟩
def ABT_TEMP_TEMP : Fld := ⟨.ABT_TEMP, 15, 0⟩
def ABT_VMIN_CLR : Fld := ⟨.ABT_VMIN, 31, 31⟩
def ABT_VMIN_VMIN : Fld := ⟨.ABT_VMIN, 15, 0⟩
def ABT_RES_VOLTS : Fld := ⟨.ABT_RES, 15, 0⟩
def ABT_TLIM_TPASS_MAX : Fld := ⟨.ABT_TLIM, 7, 0⟩
def ABT_PMB_EN : Fld := ⟨.ABT_PMB, 7, 7⟩
def ABT_PMB_ADDR : Fld := ⟨.ABT_PMB, 6, 0⟩
def KEY_STAT_IDVALID : Fld := ⟨.KEY_STAT, 20, 20⟩
def KEY_STAT_AUTHERR : Fld := ⟨.KEY_STAT, 19, 16⟩
def KEY_STAT_ROLLBACK : Fld := ⟨.KEY_STAT, 14, 8⟩
def KEY_STAT_BOOT : Fld := ⟨.KEY_STAT, 7, 5⟩
def KEY_STAT_COPY : Fld := ⟨.KEY_STAT, 4, 4⟩
def KEY_STAT_LCSTATE : Fld := ⟨.KEY_STAT, 2, 0⟩
def KEY_SLOT_STATE : Fld := ⟨.KEY_SLOT, 1, 0⟩
def KEY_SERIAL_SERIAL : Fld := ⟨.KEY_SERIAL, 31, 0⟩
def KEY_CMD_COPY : Fld := ⟨.KEY_CMD, 8, 8⟩
def KEY_CMD_CMD : Fld := ⟨.KEY_CMD, 3, 0⟩
def KEY_STGADDR_VALUE : Fld := ⟨.KEY_STGADDR, 31, 0⟩
def KEY_STGDATA_VALUE : Fld := ⟨.KEY_STGDATA, 31, 0⟩
def KEY_NONCE_NONCE : Fld := ⟨.KEY_NONCE, 31, 0⟩
def KEY_SLOTHASH_HASH : Fld := ⟨.KEY_SLOTHASH, 31, 0⟩
def KEY_IDPUB_PUB : Fld := ⟨.KEY_IDPUB, 31, 0⟩
def KEY_AUTH_AUTH : Fld := ⟨.KEY_AUTH, 31, 0⟩
def KEY_RPTWIN_DATA : Fld := ⟨.KEY_RPTWIN, 31, 0⟩
def JNL_HEAD_HEAD : Fld := ⟨.JNL_HEAD, 31, 0⟩
def JNL_TAIL_TAIL : Fld := ⟨.JNL_TAIL, 31, 0⟩
def JNL_ACK_ACK : Fld := ⟨.JNL_ACK, 31, 0⟩
def JNL_CFG_THR_EN : Fld := ⟨.JNL_CFG, 31, 31⟩
def JNL_CFG_THRESH : Fld := ⟨.JNL_CFG, 9, 0⟩
def JNL_STAT_CHKPT_BUSY : Fld := ⟨.JNL_STAT, 31, 31⟩
def JNL_STAT_CH0_LOST : Fld := ⟨.JNL_STAT, 30, 30⟩
def JNL_STAT_GAP : Fld := ⟨.JNL_STAT, 29, 29⟩
def JNL_STAT_CLEAN : Fld := ⟨.JNL_STAT, 28, 28⟩
def JNL_STAT_PENDING : Fld := ⟨.JNL_STAT, 8, 0⟩
def JNL_RDSEQ_SEQ : Fld := ⟨.JNL_RDSEQ, 31, 0⟩
def JNL_RDDATA_DATA : Fld := ⟨.JNL_RDDATA, 31, 0⟩
def JNL_CMDDESC_DESC : Fld := ⟨.JNL_CMDDESC, 31, 0⟩
def JNL_CMDGO_GO : Fld := ⟨.JNL_CMDGO, 0, 0⟩
def JNL_CMDRES_STATE : Fld := ⟨.JNL_CMDRES, 31, 29⟩
def JNL_CMDRES_STATUS : Fld := ⟨.JNL_CMDRES, 23, 20⟩
def JNL_CMDRES_RESULT : Fld := ⟨.JNL_CMDRES, 15, 0⟩
def JNL_CMDSEQ_SEQ : Fld := ⟨.JNL_CMDSEQ, 31, 0⟩
def REC_CFG_AUTO_EN : Fld := ⟨.REC_CFG, 7, 7⟩
def REC_CFG_AUTO : Fld := ⟨.REC_CFG, 4, 0⟩
def REC_STAT_FLUSH_BUSY : Fld := ⟨.REC_STAT, 31, 31⟩
def REC_STAT_UNFLUSHED : Fld := ⟨.REC_STAT, 30, 16⟩
def REC_STAT_LOST : Fld := ⟨.REC_STAT, 15, 0⟩
def REC_HOURS_VALUE : Fld := ⟨.REC_HOURS, 31, 0⟩
def REC_PCYCLE_VALUE : Fld := ⟨.REC_PCYCLE, 31, 0⟩
def REC_RLINE_VALUE : Fld := ⟨.REC_RLINE, 31, 0⟩
def REC_RSEQ_VALUE : Fld := ⟨.REC_RSEQ, 31, 0⟩
def REC_FIRE_FIRE : Fld := ⟨.REC_FIRE, 31, 0⟩
def REC_TRGCFG_EN : Fld := ⟨.REC_TRGCFG, 31, 31⟩
def REC_TRGCFG_FLUSH : Fld := ⟨.REC_TRGCFG, 30, 30⟩
def REC_TRGCFG_SNAP : Fld := ⟨.REC_TRGCFG, 29, 29⟩
def REC_TRGCFG_ONESHOT : Fld := ⟨.REC_TRGCFG, 28, 28⟩
def REC_TRGCFG_SRC : Fld := ⟨.REC_TRGCFG, 27, 24⟩
def REC_TRGCFG_WORDS : Fld := ⟨.REC_TRGCFG, 23, 16⟩
def REC_TRGCFG_HOLDOFF : Fld := ⟨.REC_TRGCFG, 15, 0⟩
def REC_TRGMATCH_MASK : Fld := ⟨.REC_TRGMATCH, 31, 16⟩
def REC_TRGMATCH_VALUE : Fld := ⟨.REC_TRGMATCH, 15, 0⟩
def REC_TRGCNT_MERGED : Fld := ⟨.REC_TRGCNT, 31, 16⟩
def REC_TRGCNT_RECORDS : Fld := ⟨.REC_TRGCNT, 15, 0⟩
def REC_TRGLIST_OFFSET : Fld := ⟨.REC_TRGLIST, 25, 0⟩
def REC_PFSTAT_DROPPED : Fld := ⟨.REC_PFSTAT, 31, 16⟩
def REC_PFSTAT_NEXT : Fld := ⟨.REC_PFSTAT, 7, 0⟩
def REC_RINGWIN_DATA : Fld := ⟨.REC_RINGWIN, 31, 0⟩
def REC_MRAMWIN_DATA : Fld := ⟨.REC_MRAMWIN, 31, 0⟩
def SPN_CTL_REVERSE_EN : Fld := ⟨.SPN_CTL, 19, 16⟩
def SPN_CTL_RETRAIN : Fld := ⟨.SPN_CTL, 15, 12⟩
def SPN_CTL_FLIT_LOW : Fld := ⟨.SPN_CTL, 11, 11⟩
def SPN_CTL_MAXRATE : Fld := ⟨.SPN_CTL, 10, 8⟩
def SPN_CLKMODE_SLOTCLK : Fld := ⟨.SPN_CLKMODE, 15, 12⟩
def SPN_CLKMODE_MODE : Fld := ⟨.SPN_CLKMODE, 7, 0⟩
def SPN_PSTAT_LINKUP : Fld := ⟨.SPN_PSTAT, 31, 31⟩
def SPN_PSTAT_FLIT : Fld := ⟨.SPN_PSTAT, 30, 30⟩
def SPN_PSTAT_REVERSED : Fld := ⟨.SPN_PSTAT, 29, 29⟩
def SPN_PSTAT_CLOSED : Fld := ⟨.SPN_PSTAT, 28, 28⟩
def SPN_PSTAT_L0PWIDTH : Fld := ⟨.SPN_PSTAT, 25, 23⟩
def SPN_PSTAT_WIDTH : Fld := ⟨.SPN_PSTAT, 22, 20⟩
def SPN_PSTAT_RATE : Fld := ⟨.SPN_PSTAT, 19, 17⟩
def SPN_PSTAT_PMSTATE : Fld := ⟨.SPN_PSTAT, 16, 14⟩
def SPN_PSTAT_LTSSM : Fld := ⟨.SPN_PSTAT, 13, 8⟩
def SPN_PSTAT_DOWNCNT : Fld := ⟨.SPN_PSTAT, 7, 0⟩
def SPN_LANE_ERRCNT : Fld := ⟨.SPN_LANE, 31, 16⟩
def SPN_LANE_ERRCLR : Fld := ⟨.SPN_LANE, 15, 15⟩
def SPN_LANE_ROLE : Fld := ⟨.SPN_LANE, 14, 12⟩
def SPN_LANE_MAPPED : Fld := ⟨.SPN_LANE, 11, 8⟩
def SPN_LANE_POLINV : Fld := ⟨.SPN_LANE, 7, 7⟩
def SPN_LANE_LOCK : Fld := ⟨.SPN_LANE, 6, 6⟩
def SPN_EQCTL_TXPRESET_NRZ : Fld := ⟨.SPN_EQCTL, 19, 16⟩
def SPN_EQCTL_TXPRESET_PAM : Fld := ⟨.SPN_EQCTL, 15, 12⟩
def SPN_EQCTL_PRESET_OVR : Fld := ⟨.SPN_EQCTL, 11, 11⟩
def SPN_EQCTL_ADAPT_CONT : Fld := ⟨.SPN_EQCTL, 9, 9⟩
def SPN_COEF_EYE : Fld := ⟨.SPN_COEF, 31, 24⟩
def SPN_COEF_CTLE : Fld := ⟨.SPN_COEF, 23, 16⟩
def SPN_COEF_DFE1 : Fld := ⟨.SPN_COEF, 15, 8⟩
def SPN_COEF_VGA : Fld := ⟨.SPN_COEF, 7, 0⟩
def SPN_CALCTL_PERIOD : Fld := ⟨.SPN_CALCTL, 15, 6⟩
def SPN_CALCTL_CAL_EN : Fld := ⟨.SPN_CALCTL, 0, 0⟩
def SPN_CALSTAT_VISITS : Fld := ⟨.SPN_CALSTAT, 31, 16⟩
def SPN_CALSTAT_REJECTS : Fld := ⟨.SPN_CALSTAT, 15, 8⟩
def SPN_CALSTAT_PHASE : Fld := ⟨.SPN_CALSTAT, 7, 5⟩
def SPN_CALSTAT_ABORT : Fld := ⟨.SPN_CALSTAT, 4, 4⟩
def SPN_CALSTAT_LANE : Fld := ⟨.SPN_CALSTAT, 2, 0⟩
def SPN_PMCTL_EXPRESS_HOLD : Fld := ⟨.SPN_PMCTL, 7, 4⟩
def SPN_PMCTL_L0P_MIN : Fld := ⟨.SPN_PMCTL, 2, 0⟩
def SPN_FLCTL_ACK_TIME : Fld := ⟨.SPN_FLCTL, 23, 16⟩
def SPN_FLCTL_NAK_TIME : Fld := ⟨.SPN_FLCTL, 15, 12⟩
def SPN_FLCTL_REPLAY_TIME : Fld := ⟨.SPN_FLCTL, 11, 8⟩
def SPN_FLCTL_RATE_CAP : Fld := ⟨.SPN_FLCTL, 7, 7⟩
def SPN_FLCTL_SPARE_EN : Fld := ⟨.SPN_FLCTL, 1, 1⟩
def SPN_FLCTL_RETRAIN : Fld := ⟨.SPN_FLCTL, 0, 0⟩
def SPN_FLLDT_LDT : Fld := ⟨.SPN_FLLDT, 19, 0⟩
def SPN_FLTHR_ERR_THR : Fld := ⟨.SPN_FLTHR, 15, 0⟩
def SPN_FLSTAT_STATE : Fld := ⟨.SPN_FLSTAT, 27, 24⟩
def SPN_FLSTAT_PEERERR : Fld := ⟨.SPN_FLSTAT, 23, 23⟩
def SPN_FLSTAT_SPARE_FAIL : Fld := ⟨.SPN_FLSTAT, 22, 22⟩
def SPN_FLSTAT_TX_FAILED : Fld := ⟨.SPN_FLSTAT, 15, 8⟩
def SPN_FLSTAT_RX_FAILED : Fld := ⟨.SPN_FLSTAT, 7, 0⟩
def SPN_FLSEQ_TX_NEXT : Fld := ⟨.SPN_FLSEQ, 27, 16⟩
def SPN_FLSEQ_TX_ACKED : Fld := ⟨.SPN_FLSEQ, 11, 0⟩
def SPN_FLSEQRX_RX_EXPECT : Fld := ⟨.SPN_FLSEQRX, 27, 16⟩
def SPN_FLSEQRX_RX_ACK : Fld := ⟨.SPN_FLSEQRX, 11, 0⟩
def SPN_FLCNT_REPLAYS : Fld := ⟨.SPN_FLCNT, 31, 16⟩
def SPN_FLCNT_OOW_ACKS : Fld := ⟨.SPN_FLCNT, 15, 8⟩
def SPN_FLCNT_LAST_DOWN : Fld := ⟨.SPN_FLCNT, 3, 0⟩
def SPN_FLVC_RX_ALLOC : Fld := ⟨.SPN_FLVC, 27, 16⟩
def SPN_FLVC_TX_AVAIL : Fld := ⟨.SPN_FLVC, 11, 0⟩
def ENG_CTL_PARK : Fld := ⟨.ENG_CTL, 0, 0⟩
def ENG_STAT_QUEUED : Fld := ⟨.ENG_STAT, 24, 16⟩
def ENG_STAT_DUTIES : Fld := ⟨.ENG_STAT, 15, 8⟩
def ENG_STAT_STATE : Fld := ⟨.ENG_STAT, 2, 0⟩
def ENG_TRAP_VALID : Fld := ⟨.ENG_TRAP, 31, 31⟩
def ENG_TRAP_FATAL : Fld := ⟨.ENG_TRAP, 30, 30⟩
def ENG_TRAP_CAUSE : Fld := ⟨.ENG_TRAP, 23, 16⟩
def ENG_TRAP_COUNT : Fld := ⟨.ENG_TRAP, 15, 0⟩
def ENG_TRAPPC_PC : Fld := ⟨.ENG_TRAPPC, 31, 0⟩
def ENG_WDOG_STACK : Fld := ⟨.ENG_WDOG, 31, 16⟩
def ENG_WDOG_NLIMIT : Fld := ⟨.ENG_WDOG, 9, 0⟩
def PIR_DKCTL_STRIPE_EN : Fld := ⟨.PIR_DKCTL, 16, 16⟩
def PIR_DKCTL_ACK_TIME : Fld := ⟨.PIR_DKCTL, 7, 0⟩
def PIR_DKSTAT_RESENDS : Fld := ⟨.PIR_DKSTAT, 31, 16⟩
def PIR_DKSTAT_MCEMPTY : Fld := ⟨.PIR_DKSTAT, 15, 12⟩
def PIR_DKSTAT_VOIDS : Fld := ⟨.PIR_DKSTAT, 11, 8⟩
def PIR_DKSTAT_BADSEQ : Fld := ⟨.PIR_DKSTAT, 7, 0⟩
def PIR_BUFCFG_EXP_RSV : Fld := ⟨.PIR_BUFCFG, 15, 0⟩
def PIR_BUFSTAT_SHARED_FREE : Fld := ⟨.PIR_BUFSTAT, 17, 0⟩
def PIR_BUFEXP_EXP_OCC : Fld := ⟨.PIR_BUFEXP, 15, 0⟩
def PIR_BUFTHR_ALPHA : Fld := ⟨.PIR_BUFTHR, 18, 16⟩
def PIR_BUFTHR_RSV : Fld := ⟨.PIR_BUFTHR, 15, 0⟩
def PIR_BUFOCC_OCC : Fld := ⟨.PIR_BUFOCC, 17, 0⟩
def PIR_SCHCTL_BRACE_FRAC : Fld := ⟨.PIR_SCHCTL, 7, 0⟩
def PIR_EPLOG_VALID : Fld := ⟨.PIR_EPLOG, 31, 31⟩
def PIR_EPLOG_NP : Fld := ⟨.PIR_EPLOG, 30, 30⟩
def PIR_EPLOG_RESERVE : Fld := ⟨.PIR_EPLOG, 29, 29⟩
def PIR_EPLOG_PORT : Fld := ⟨.PIR_EPLOG, 23, 20⟩
def PIR_EPLOG_RID : Fld := ⟨.PIR_EPLOG, 15, 0⟩
def PIR_EPCFG_MODE : Fld := ⟨.PIR_EPCFG, 31, 31⟩
def PIR_EPCFG_BURST : Fld := ⟨.PIR_EPCFG, 30, 23⟩
def PIR_EPCFG_RATE : Fld := ⟨.PIR_EPCFG, 21, 0⟩
def PIR_EPCNT_DROP_P : Fld := ⟨.PIR_EPCNT, 31, 16⟩
def PIR_EPCNT_DROP_NP : Fld := ⟨.PIR_EPCNT, 15, 0⟩
def PIR_EXPMON_AHEAD : Fld := ⟨.PIR_EXPMON, 31, 16⟩
def PIR_EXPMON_NOCREDIT : Fld := ⟨.PIR_EXPMON, 15, 8⟩
def PIR_EXPMON_DECKLATE : Fld := ⟨.PIR_EXPMON, 7, 0⟩
def PIR_QCFG_SHAPE_EN : Fld := ⟨.PIR_QCFG, 31, 31⟩
def PIR_QCFG_RESET_TO : Fld := ⟨.PIR_QCFG, 30, 30⟩
def PIR_QCFG_QUANTUM : Fld := ⟨.PIR_QCFG, 26, 16⟩
def PIR_QCFG_BURST : Fld := ⟨.PIR_QCFG, 15, 0⟩
def PIR_QRATE_RATE : Fld := ⟨.PIR_QRATE, 21, 0⟩
def PIR_QTOK_TOKENS : Fld := ⟨.PIR_QTOK, 31, 0⟩
def PIR_TSCFG_EN : Fld := ⟨.PIR_TSCFG, 31, 31⟩
def PIR_TSCFG_RESET_TO : Fld := ⟨.PIR_TSCFG, 30, 30⟩
def PIR_TSCFG_ACTIVE : Fld := ⟨.PIR_TSCFG, 29, 29⟩
def PIR_TSCFG_BURST : Fld := ⟨.PIR_TSCFG, 15, 0⟩
def PIR_TSRATE_RATE : Fld := ⟨.PIR_TSRATE, 21, 0⟩
def PIR_TSTOK_TOKENS : Fld := ⟨.PIR_TSTOK, 31, 0⟩
def PIR_FROUTE_VALID : Fld := ⟨.PIR_FROUTE, 31, 31⟩
def PIR_FROUTE_PORT : Fld := ⟨.PIR_FROUTE, 6, 0⟩
def PIR_FBCTL_CPL_TIME : Fld := ⟨.PIR_FBCTL, 31, 24⟩
def PIR_FBCTL_ROUTE_HOLD : Fld := ⟨.PIR_FBCTL, 23, 16⟩
def PIR_FBCTL_PF_HOLD : Fld := ⟨.PIR_FBCTL, 15, 8⟩
def PIR_FBCTL_PF_EN : Fld := ⟨.PIR_FBCTL, 7, 7⟩
def PIR_FBPORT_LOST_P : Fld := ⟨.PIR_FBPORT, 31, 24⟩
def PIR_FBPORT_LATE : Fld := ⟨.PIR_FBPORT, 23, 16⟩
def PIR_FBPORT_TAGS : Fld := ⟨.PIR_FBPORT, 14, 0⟩
def PIR_PFCNT_HITS : Fld := ⟨.PIR_PFCNT, 31, 16⟩
def PIR_PFCNT_DISCARDS : Fld := ⟨.PIR_PFCNT, 15, 0⟩
def PIR_CLOSE_CLOSED : Fld := ⟨.PIR_CLOSE, 31, 31⟩
def PIR_CLOSE_CAUSE : Fld := ⟨.PIR_CLOSE, 27, 24⟩
def PIR_CLOSE_RELEASE : Fld := ⟨.PIR_CLOSE, 1, 1⟩
def PIR_CLOSE_CLOSE : Fld := ⟨.PIR_CLOSE, 0, 0⟩
def PIR_CPLTRK_SYNTH : Fld := ⟨.PIR_CPLTRK, 31, 24⟩
def PIR_CPLTRK_DROP_P : Fld := ⟨.PIR_CPLTRK, 23, 16⟩
def PIR_CPLTRK_USED : Fld := ⟨.PIR_CPLTRK, 12, 0⟩
def PIR_ERRCNT_SRAM_CORR : Fld := ⟨.PIR_ERRCNT, 31, 16⟩
def PIR_ERRCNT_SRAM_UNC : Fld := ⟨.PIR_ERRCNT, 15, 8⟩
def PIR_ERRCNT_HDR_LOST : Fld := ⟨.PIR_ERRCNT, 7, 0⟩
def PIR_ERRCNT2_TREFUSED : Fld := ⟨.PIR_ERRCNT2, 31, 16⟩
def PIR_ERRCNT2_EVDROP : Fld := ⟨.PIR_ERRCNT2, 15, 8⟩
def PIR_ERRTHR_UNC_THR : Fld := ⟨.PIR_ERRTHR, 7, 0⟩
def PIR_DUTY_VALID : Fld := ⟨.PIR_DUTY, 31, 31⟩
def PIR_DUTY_MOVING : Fld := ⟨.PIR_DUTY, 30, 30⟩
def PIR_DUTY_KIND : Fld := ⟨.PIR_DUTY, 29, 27⟩
def PIR_DUTY_INST : Fld := ⟨.PIR_DUTY, 19, 13⟩
def PIR_DUTY_ENGINE : Fld := ⟨.PIR_DUTY, 12, 6⟩
def PIR_DUTY_HOME : Fld := ⟨.PIR_DUTY, 5, 0⟩
def DCK_CTL_UNFENCE : Fld := ⟨.DCK_CTL, 1, 1⟩
def DCK_CTL_FENCE : Fld := ⟨.DCK_CTL, 0, 0⟩
def DCK_STAT_CAUSE : Fld := ⟨.DCK_STAT, 7, 4⟩
def DCK_STAT_STATE : Fld := ⟨.DCK_STAT, 2, 0⟩
def DCK_ERR_CORR : Fld := ⟨.DCK_ERR, 31, 16⟩
def DCK_ERR_UNCORR : Fld := ⟨.DCK_ERR, 15, 0⟩
def DCK_THR_UNC_THR : Fld := ⟨.DCK_THR, 7, 0⟩
def CSN_CFG_RDRAIN : Fld := ⟨.CSN_CFG, 31, 24⟩
def CSN_CFG_RB_HEADROOM : Fld := ⟨.CSN_CFG, 23, 8⟩
def CSN_CFG_SPILL_EN : Fld := ⟨.CSN_CFG, 7, 7⟩
def CSN_CFG_LM_SIZE : Fld := ⟨.CSN_CFG, 5, 0⟩
def CSN_STAT_WIPE_BUSY : Fld := ⟨.CSN_STAT, 20, 20⟩
def CSN_STAT_LM_LOST : Fld := ⟨.CSN_STAT, 19, 19⟩
def CSN_STAT_LM_STATE : Fld := ⟨.CSN_STAT, 18, 17⟩
def CSN_STAT_CH_FAILED : Fld := ⟨.CSN_STAT, 15, 8⟩
def CSN_STAT_CH_LIVE : Fld := ⟨.CSN_STAT, 7, 0⟩
def CSN_POOL_FREE_PAGES : Fld := ⟨.CSN_POOL, 21, 0⟩
def CSN_TAGBASE_BASE : Fld := ⟨.CSN_TAGBASE, 31, 0⟩
def CSN_TAGLEN_BLOCKS : Fld := ⟨.CSN_TAGLEN, 27, 0⟩
def CSN_TAGCMD_GO : Fld := ⟨.CSN_TAGCMD, 31, 31⟩
def CSN_TAGCMD_TAG : Fld := ⟨.CSN_TAGCMD, 9, 0⟩
def CSN_TAGSTAT_BUSY : Fld := ⟨.CSN_TAGSTAT, 31, 31⟩
def CSN_TAGSTAT_ERR : Fld := ⟨.CSN_TAGSTAT, 30, 30⟩
def CSN_TAGSTAT_DONE : Fld := ⟨.CSN_TAGSTAT, 27, 0⟩
def CSN_PQUOTA_PAGES : Fld := ⟨.CSN_PQUOTA, 21, 0⟩
def CSN_PSPILL_USED : Fld := ⟨.CSN_PSPILL, 31, 22⟩
def CSN_PSPILL_FLOWS : Fld := ⟨.CSN_PSPILL, 11, 0⟩
def CSN_CHSTAT_SPARE_LEFT : Fld := ⟨.CSN_CHSTAT, 31, 12⟩
def CSN_CHSTAT_CAUSE : Fld := ⟨.CSN_CHSTAT, 7, 4⟩
def CSN_CHSTAT_STATE : Fld := ⟨.CSN_CHSTAT, 2, 0⟩
def CSN_CHERR_CORR : Fld := ⟨.CSN_CHERR, 31, 16⟩
def CSN_CHERR_UNCORR : Fld := ⟨.CSN_CHERR, 15, 0⟩
def CSN_CHTHR_UNC_THR : Fld := ⟨.CSN_CHTHR, 7, 0⟩
def GTE_SLOT_LOCK : Fld := ⟨.GTE_SLOT, 31, 31⟩
def GTE_SLOT_DEF_DV : Fld := ⟨.GTE_SLOT, 16, 16⟩
def GTE_SLOT_DEFTAG : Fld := ⟨.GTE_SLOT, 9, 0⟩
def GTE_SBKEY_LOCK : Fld := ⟨.GTE_SBKEY, 31, 31⟩
def GTE_SBKEY_KEY : Fld := ⟨.GTE_SBKEY, 9, 0⟩
def GTE_WBASE_BASE : Fld := ⟨.GTE_WBASE, 31, 0⟩
def GTE_WLIMIT_LIMIT : Fld := ⟨.GTE_WLIMIT, 31, 0⟩
def GTE_WATTR_LOCK : Fld := ⟨.GTE_WATTR, 31, 31⟩
def GTE_WATTR_VALID : Fld := ⟨.GTE_WATTR, 30, 30⟩
def GTE_WATTR_DEBUG_VISIBLE : Fld := ⟨.GTE_WATTR, 29, 29⟩
def GTE_WATTR_TAG : Fld := ⟨.GTE_WATTR, 9, 0⟩
def TNT_KEY_LOCK : Fld := ⟨.TNT_KEY, 31, 31⟩
def TNT_KEY_KEY : Fld := ⟨.TNT_KEY, 9, 0⟩
def TNT_PORTDEF_LOCK : Fld := ⟨.TNT_PORTDEF, 31, 31⟩
def TNT_PORTDEF_TENANT : Fld := ⟨.TNT_PORTDEF, 8, 0⟩
def TNT_ENTCTL_LOCK : Fld := ⟨.TNT_ENTCTL, 31, 31⟩
def TNT_ENTCTL_VALID : Fld := ⟨.TNT_ENTCTL, 30, 30⟩
def TNT_ENTCTL_PASID_EN : Fld := ⟨.TNT_ENTCTL, 29, 29⟩
def TNT_ENTCTL_PORT : Fld := ⟨.TNT_ENTCTL, 22, 16⟩
def TNT_ENTCTL_TENANT : Fld := ⟨.TNT_ENTCTL, 8, 0⟩
def TNT_ENTRID_RID_HI : Fld := ⟨.TNT_ENTRID, 31, 16⟩
def TNT_ENTRID_RID_LO : Fld := ⟨.TNT_ENTRID, 15, 0⟩
def TNT_ENTPASID_PASID : Fld := ⟨.TNT_ENTPASID, 19, 0⟩
def GTE_LOGSTAT_TOTAL : Fld := ⟨.GTE_LOGSTAT, 31, 16⟩
def GTE_LOGSTAT_NEXT : Fld := ⟨.GTE_LOGSTAT, 3, 0⟩
def PMC_CMD_CLEAR : Fld := ⟨.PMC_CMD, 3, 3⟩
def PMC_CMD_THAW : Fld := ⟨.PMC_CMD, 2, 2⟩
def PMC_CMD_FREEZE : Fld := ⟨.PMC_CMD, 1, 1⟩
def PMC_CMD_SNAP : Fld := ⟨.PMC_CMD, 0, 0⟩
def PMC_STAT_PENDING : Fld := ⟨.PMC_STAT, 31, 31⟩
def PMC_STAT_FROZEN : Fld := ⟨.PMC_STAT, 30, 30⟩
def PMC_STAT_SNAPID : Fld := ⟨.PMC_STAT, 15, 0⟩
def PMC_SNAPTIME_TIME : Fld := ⟨.PMC_SNAPTIME, 31, 0⟩
def PMC_BCTL_PIER : Fld := ⟨.PMC_BCTL, 26, 24⟩
def PMC_BCTL_DUTY_EN : Fld := ⟨.PMC_BCTL, 22, 22⟩
def PMC_BCTL_DUTY : Fld := ⟨.PMC_BCTL, 21, 16⟩
def PMC_BCTL_CLEAR : Fld := ⟨.PMC_BCTL, 0, 0⟩
def PMC_BSTAT_SNAPID : Fld := ⟨.PMC_BSTAT, 31, 16⟩
def PMC_BSTAT_OVF : Fld := ⟨.PMC_BSTAT, 7, 0⟩
def PMC_CYC_CYCLES : Fld := ⟨.PMC_CYC, 31, 0⟩
def PMC_CNT_COUNT : Fld := ⟨.PMC_CNT, 31, 0⟩
def PMC_EVT_EN : Fld := ⟨.PMC_EVT, 31, 31⟩
def PMC_EVT_INT_EN : Fld := ⟨.PMC_EVT, 30, 30⟩
def PMC_EVT_SUB : Fld := ⟨.PMC_EVT, 19, 16⟩
def PMC_EVT_EVENT : Fld := ⟨.PMC_EVT, 11, 0⟩
def PMC_SCYC_CYCLES : Fld := ⟨.PMC_SCYC, 31, 0⟩
def PMC_SOVF_OVF : Fld := ⟨.PMC_SOVF, 7, 0⟩
def PMC_SCNT_COUNT : Fld := ⟨.PMC_SCNT, 31, 0⟩
def CLK_ISLSTAT_LOSSCNT : Fld := ⟨.CLK_ISLSTAT, 31, 16⟩
def CLK_ISLSTAT_FAILED : Fld := ⟨.CLK_ISLSTAT, 2, 2⟩
def CLK_ISLSTAT_RUN : Fld := ⟨.CLK_ISLSTAT, 1, 1⟩
def CLK_ISLSTAT_LOCK : Fld := ⟨.CLK_ISLSTAT, 0, 0⟩
def CLK_OSC_OSC_FAIL : Fld := ⟨.CLK_OSC, 1, 1⟩
def CLK_OSC_SRC : Fld := ⟨.CLK_OSC, 0, 0⟩
def CLK_ACCSTAT_VALID : Fld := ⟨.CLK_ACCSTAT, 31, 31⟩
def CLK_ACCSTAT_DOMAIN : Fld := ⟨.CLK_ACCSTAT, 22, 16⟩
def CLK_ACCSTAT_ISLAND : Fld := ⟨.CLK_ACCSTAT, 12, 8⟩
def CLK_ACCSTAT_STATUS : Fld := ⟨.CLK_ACCSTAT, 1, 0⟩
def CLK_ACCADDR_OFFSET : Fld := ⟨.CLK_ACCADDR, 31, 0⟩
def PWD_CTL_FULL : Fld := ⟨.PWD_CTL, 2, 2⟩
def PWD_CTL_OFF : Fld := ⟨.PWD_CTL, 1, 1⟩
def PWD_CTL_ON : Fld := ⟨.PWD_CTL, 0, 0⟩
def PWD_STAT_LASTERR : Fld := ⟨.PWD_STAT, 27, 24⟩
def PWD_STAT_CYCLES : Fld := ⟨.PWD_STAT, 23, 16⟩
def PWD_STAT_BIST : Fld := ⟨.PWD_STAT, 7, 4⟩
def PWD_STAT_FAULT : Fld := ⟨.PWD_STAT, 3, 3⟩
def PWD_STAT_STATE : Fld := ⟨.PWD_STAT, 2, 0⟩
end F

end Sys2Proof.Machine
end

