-- ==== Sys2Proof/Machine/Image.lean ====
section
/-! DEFINITION. What a Voxraup image holds once decoded (R302 to R312, Table IMG-5): plain data that the loader acts on. -/

namespace Sys2Proof.Machine

/-- What a bridge of a virtual switch binds (R171): a port of this module, a port of another module of the fabric, or none (R322). -/
inductive BindTo where
  | unbound
  | local_ (port : PortId)
  | remote (module : Fin 64) (port : PortId)
  deriving DecidableEq, Repr

/-- A downstream virtual bridge: its device number j, the port it binds, and the PREFETCH mark of its window (R221). -/
structure BridgeDef where
  dev : Fin 30
  tgt : BindTo
  prefetch : Bool
  deriving DecidableEq, Repr

/-- A peer window (R172): a range in the virtual switch's host space, the target virtual switch and the downstream port
of it (none: its upstream port), the offset added, and the
PREFETCH mark (R221). -/
structure Peer where
  base : Nat
  limit : Nat
  tvs : VsId
  tport : Option BindTo
  offset : Nat
  prefetch : Bool
  deriving DecidableEq, Repr

/-- A virtual switch of the applied image (R170 to R172, R178, R202). -/
structure VsDef where
  up : PortId
  bridges : List BridgeDef
  mep : Bool
  landing : Bool
  ptmRoot : Bool
  ready : Bool           -- ROMT enables the Readiness Notifications of the standard (R178)
  vdm : Bool             -- ROMT sends vendor-defined messages to an engine (R284)
  peers : List Peer
  deriving DecidableEq, Repr

/-- What the image of a module gives for one of its ports that is bound to a virtual switch of another module (R207): the home
module, the virtual switch and its upstream port, whether it has a management endpoint, and its PREFETCH windows that reach
the port (log entry 15). -/
structure HomeBind where
  module : Fin 64
  vs : VsId
  up : PortId
  mep : Bool
  prefetch : List (Nat × Nat)
  deriving DecidableEq, Repr

/-- What ROMT gives a 32-bit register of a configuration space, with the handler hook that it may name (R174); the spec gives a hook
no effect of its own: the CONFIG duty's program finds it here (log entry 24). -/
structure RomEnt where
  reset : Word
  wmask : Word
  w1c : Word
  sticky : Word
  hook : Option Nat
  deriving DecidableEq, Repr

/-- Slot settings of the image (R53, R197, R198). -/
structure SlotDef where
  always : Bool
  autoOff : Bool
  powerStable : Nat      -- ns
  deriving DecidableEq, Repr

/-- Slot settings where the image gives none. -/
def SlotDef.init : SlotDef := { always := false, autoOff := true, powerStable := 100000000 }

/-- A register value that a section gives. -/
structure RegSet where
  reg : Reg
  idx : Nat
  val : Word
  deriving DecidableEq, Repr

/-- The segment of a pier (Table IMG-5): the register values of its SPAN, PTBL, GATE and DUTY sections, the initial duty
records (key 4096 × duty + byte), the code and initial data at their addresses in local memory (Table ENG-1), the pairs of duty
kind and event that the handler table gives the entry 0 (key 16 × kind + event), whether every entry lies in the code region, the
code and data sizes, and the slots that the segment binds. -/
structure Segment where
  span : List RegSet
  ptbl : List RegSet
  gate : List RegSet
  duty : List RegSet
  record : List (Nat × Byte)
  prog : List (Nat × Byte)
  noEntry : List Nat
  entriesOk : Bool
  code : Nat
  data : Nat
  slots : List (Nat × SlotDef)
  deriving DecidableEq, Repr

/-- A range of landing memory with its initial tag (CSNP). -/
structure TagRange where
  base : Nat
  len : Nat
  tag : Nat
  deriving DecidableEq, Repr

/-- What the sections of an image say (Table IMG-5). -/
structure Content where
  vsw : List (Nat × VsDef)
  homes : List (Nat × HomeBind)
  rom : Option (List (Nat × RomEnt))
  global : List RegSet
  tags : List TagRange
  vec : List (Nat × Nat)
  wakeVec : List Nat
  segs : List Segment
  planes : List (Fin 16) -- the deck planes that the image uses (R106)
  remoteOk : Bool
  deriving DecidableEq, Repr, Inhabited

/-- An image (R304): the fields of its header, the section HASHes of its directory, and what its sections say. -/
structure Image extends Content where
  len : Nat
  mode : Nat
  secver : Nat
  build : Nat
  fabric : Nat
  module : Nat
  developOnly : Bool
  hashes : List Nat
  deriving DecidableEq, Repr

end Sys2Proof.Machine
end

