-- ==== Sys2Proof/Config.lean ====
section
/-! DEFINITION. The free values: what the spec leaves open. None has a body, so no proof can see a value, and a claim holds
whatever they are. -/

namespace Sys2Proof.Config

/-- A value the spec leaves open, drawn at the n-th use (the counter `Env.free` of the state). Log entry 3. -/
opaque freeNat : Nat → Nat

/-- The random nonce drawn at the n-th draw (R427). Log entry 3. -/
opaque nonce : Nat → Nat

/-- The identity private key, which the keystone derives from its seed in a way that the spec leaves open (R431). Log entry 4. -/
opaque identityPrivate : Nat

/-- The secret per-message number of the ECDSA signature over a byte string (FIPS 186-5). Log entry 4. -/
opaque signNumber : List Byte → Nat

/-- What the 55 sections of an image say, from their bytes: the spec gives no layout of a section's entries. Log entry 6. -/
opaque contentOf : List (List Byte) → Machine.Content

/-- The byte of Aqdon's default image at an offset, which production left in bank A and the golden bank (R464). Log entry 6. -/
opaque imageByte : Nat → Byte

/-- The byte of Aqdon's stage image at an offset of a stage copy (R464). Log entry 6. -/
opaque stageByte : Nat → Byte

/-- The byte that production left at an offset of the identity certificate area (R464). Log entry 6. -/
opaque certByte : Nat → Byte

/-- The Routing ID of the switch port function of a port that has none in this module: a Floing port, or a port whose bridge
lies in its home module. Log entry 15. -/
opaque portRid : Nat → Nat

/-- The proxy ID of a virtual switch homed on another module (R221). Log entry 15. -/
opaque remoteProxy : Nat → Nat

/-- The first byte of the control packets of one kind that modules send each other by themselves (R219, R220): hot reset begins 0 and
ends 1, a link-control write 2, a slot-control write 3, a link or slot event 4, the home module's time 5, an answer 6. Log entry 15. -/
opaque ctlCode : Nat → Byte

/-- Log2 of Max_Payload_Size, above 128 bytes, for a port whose bridge lies in another module (R222). Log entry 15. -/
opaque remoteMps : Nat → Fin 6

/-- The UUID that a management endpoint of a virtual switch reports over MCTP (R224). Log entry 20. -/
opaque mctpUuid : Nat → Nat

/-- The version that an endpoint reports for an MCTP message type (R224). Log entry 20. -/
opaque mctpVersion : Nat → Nat

/-- The table number and index (bits [23:0] of CODE, Table JNL-2) under which a named pier table's entry is journalled. Log
entry 23. -/
opaque tableCode : Nat → Nat

/-- Byte `i` of the header of a TLP in Flit Mode form, which the PCI Express standard gives (R209). Log entry 72. -/
opaque tlpHeader : Tlp → Nat → Byte

/-- Byte `i` of the digest of a TLP. Log entry 72. -/
opaque tlpDigest : Tlp → Nat → Byte

/-- Argument byte `i` of a footway message other than ENGINE: the spec gives the arguments and not their places (Table FLO-6). Log
entry 72. -/
opaque footwayArg : FwMsg → Nat → Byte

/-- The 7-bit SEC-DED check of a cell control word over its bits [31:7] (Table DECK-2): the spec names no code. Log entry 77. -/
opaque cellCheck : BitVec 25 → BitVec 7

/-- Byte `i` of the CRC-64 of a flit over its bytes 0 to 241 (R69): the spec names no polynomial. Log entry 72. -/
opaque crcByte : List Byte → Nat → Byte

/-- Check symbol `i` of a Reed–Solomon codeword over its 125 data symbols (R69): the spec names no field polynomial and no
generator. Log entry 72. -/
opaque rsSymbol : List Byte → Nat → Byte

/-- The Extended Capability ID of the Physical Layer 128.0 GT/s capability (Table HOST-13): the spec leaves it to the standard. Log
entry 9. -/
opaque physical128 : Nat

/-- Byte `i` of the message body of a Readiness Notification (R178): the spec leaves it to the standard. Log entry 9. -/
opaque readiness : Nat → Byte

end Sys2Proof.Config
end

