-- ==== Sys2Proof/Machine/State.lean ====
section
/-! DEFINITION. The state of the block: every register, FIFO, buffer, counter, mode and pin the spec gives it, as plain
data, and the queue of waiting commands; the reasons a step can stop; the state right after reset. -/

namespace Sys2Proof.Machine

/-- A map with finitely many entries: (key, value) pairs, keys strictly rising, no entry equal to what an unlisted key reads
as (`SMap.Wf` in Ops). -/
abbrev SMap (α : Type) := List (Nat × α)

/-- A TLP inside the SY256: ingress port, egress port, tenant, virtual switch, the fabric header it travels under (set on a
Floing egress), and for a multicast copy its group and target ports (empty for unicast). -/
structure Carried where
  tlp : Tlp
  inP : Nat
  outP : Nat
  tenant : Nat
  vs : Nat
  fab : Option FabHdr
  grp : Nat
  mc : List Nat
  root : Nat             -- HANDLE under which a multicast TLP is stored (R115), otherwise 0
  deriving DecidableEq, Repr

/-- The environment and the keeper: device time in ns (R328), whether the keeper runs (R391), the oscillator (R30), the pins
that the spec names, and the counter of free values. -/
structure Env where
  now : Nat
  keeperOn : Bool
  oscGood : Nat          -- consecutive good 1 ms oscillator tests (R30)
  oscRun : Bool          -- the 100 MHz oscillator runs
  rstLow : Bool          -- MODULE_RST_N is low
  recoveryLow : Bool     -- RECOVERY_N is low
  wake : List Nat        -- upstream ports whose WAKE_N is asserted (R196)
  bucketEpoch : SMap Nat -- per pier, the time from which its unlisted token buckets gain
  free : Nat
  deriving DecidableEq, Repr

/-- The origin fields of a journal entry (Table JNL-1). -/
structure JOrg where
  iface : Nat
  port : Nat
  eng : Option Nat
  duty : Nat
  vs : Nat
  rid : Nat
  tenant : Nat
  deriving DecidableEq, Repr

/-- A journal entry before it is numbered (Table JNL-1); `arg` is the 16 ARG bytes as a little-endian number. -/
structure JReq where
  kind : Nat
  status : Nat
  org : JOrg
  result : Nat
  code : Nat
  ref : Nat
  arg : Nat
  deriving DecidableEq, Repr

/-- A numbered entry (R328). -/
structure JEntry where
  seq : Nat
  time : Nat
  pcycle : Nat
  approx : Bool
  req : JReq
  deriving DecidableEq, Repr

/-- A command accepted and not yet final (R333): its SEQ, descriptor bytes, origin, bank and running state. -/
structure Cmd where
  seq : Nat
  desc : List Byte
  org : Origin
  bank : Option Nat
  batch : Nat            -- SEQ of the BATCH that carried it, or 0
  running : Bool
  deriving DecidableEq, Repr

/-- A register write that waits for its island's journal FIFO (R330). -/
structure HeldW where
  island : Nat
  off : Nat
  w : RegW
  deriving DecidableEq, Repr

/-- The journal (R327 to R344): the FIFO of each island, the writes that wait for one, the region by slot, the keeper's
newest 4,096 entries (oldest first), the checkpoint in MRAM, the sequence reserve X, CLEAN, the commands not yet final and
the latched read buffers of the 130 banks. -/
structure Jrn where
  fifo : SMap (List JReq)
  held : List HeldW
  region : SMap (Option JEntry)
  copy : List JEntry
  ckpt : List JEntry     -- checkpoint in MRAM
  ckptSeq : Nat          -- last SEQ of the newest checkpoint
  reserve : Nat
  clean : Bool
  next : Nat             -- next SEQ
  startAt : Nat          -- TAIL set at the last reset (R342)
  thrSent : Bool
  cmds : List Cmd
  latch : SMap (Option JEntry)
  ckptWait : List Nat    -- SEQs of JNL_CHECKPOINT commands that wait for the end
  deriving DecidableEq, Repr

/-- An error record on its way to the keeper (R258, R259): its time, whether that was read on the ring oscillator (R30), and the
virtual switch that a refusal of a gate affects (R256). -/
structure ErrRec where
  cause : Nat
  unit : Nat
  time : Nat
  approx : Bool
  vs : Option Nat
  deriving DecidableEq, Repr

/-- The error path: the record FIFO of each island (R258), the count of records numbered, the AER messages sent per
function and severity (R257), and the time windows of the failure rules (R118, R147, R250). -/
structure Err where
  fifo : SMap (List ErrRec)
  num : Nat
  aerLast : SMap Nat
  faultN : Bool          -- FAULT_N asserted (R260)
  uncWin : SMap (Nat × Nat)  -- unit → (ms window, count) for the 1 ms rules
  deriving DecidableEq, Repr


/-- Link credits of a PCI Express partner (R153): posted, non-posted and completion, header and 16-byte data units; none =
infinite. -/
structure Credits where
  ph : Option Nat
  pd : Option Nat
  nh : Option Nat
  nd : Option Nat
  ch : Option Nat
  cd : Option Nat
  deriving DecidableEq, Repr

/-- Receive credits of a PCI Express port: posted, non-posted and completion, headers and 16-byte data units. -/
structure RxCredits where
  ph : Nat
  pd : Nat
  nh : Nat
  nd : Nat
  ch : Nat
  cd : Nat
  deriving DecidableEq, Repr

/-- An entry of a completion tracker (R261): the request's Requester ID and tag, its ingress port, TC, virtual switch and
tenant, and the bytes not yet returned with the address of the first. -/
structure Trk where
  rid : Nat
  tag : Nat
  inP : Nat
  tc : Fin 8
  vs : Nat
  tenant : Nat
  left : Nat
  addr : Nat
  fab : Option FabHdr    -- the incoming fabric header, where the request came over Floing
  refused : Nat          -- bytes that the gate refused behind the part issued (Table GTE-3)
  late : Bool            -- the link by which it came has since gone down (R215)
  deriving DecidableEq, Repr

/-- A TLP in an egress queue, with its order of entry and whether a wait at the express head was counted (R168). -/
structure QEnt where
  c : Carried
  at_ : Nat
  waited : Bool
  deriving DecidableEq, Repr

/-- Why a TLP is held at its ingress span (R159). -/
inductive HoldWhy where
  | admission | shaper | proxyTag | fabricTag | tracker | route | expressCpl
  deriving DecidableEq, Repr

/-- A TLP at stage 3, held (R159): the target virtual switch of a peer window where it still needs a proxy tag (R172), the ranges
into which slot 128 or 129 cut it (offset, length, allowed, tag), the fabric header under which it came, and why it is held. -/
structure Held where
  c : Carried
  inc : Option FabHdr
  proxy : Option Nat
  parts : List (Nat × Nat × Bool × Nat)
  why : HoldWhy
  deriving DecidableEq, Repr

/-- A token bucket (R156): tokens in units of 1/8,000 byte (a rate of R Mbit/s adds R units per ns), as they stood at a
device time. -/
structure Bucket where
  tok : Int
  at_ : Nat
  deriving DecidableEq, Repr

/-- The hidden state of one port: partner credits, the round-robin pointer and its fresh flag (R155), the completion tracker
(R261), whether record 0x16 was made for the present loss (R262), whether its power-off was commanded (R62), whether
full width was requested (R59), the last answer to a partner's power request (R60), whether its low-power state was entered
by PCI-PM (R60), the last TLP sent, the last margin result of each lane (R57), the clock mode it trained in (R51), the
transmitter preset in use (R55), the bytes of the express TLP that started last and when (R168), and the VC0 receive credits that
TLPs have taken and the port has returned since its link came up (R124). -/
structure Port where
  cred : Credits
  ptr : Nat
  fresh : Bool
  trk : List Trk
  synthRec : Bool
  offCmd : Bool
  wantFull : Bool
  pmReply : Nat          -- 0 none, 1 accepted, 2 refused, 3 PM_Active_State_Nak
  pciPm : Bool
  lastOut : Option Tlp
  margin : SMap Nat
  clkMode : Nat
  preset : Nat
  txBytes : Nat
  txAt : Nat
  rxTaken : RxCredits
  rxBack : RxCredits
  deriving DecidableEq, Repr

/-- All ports: the port records, the eight TC queues of each (key 8p + t), their deficits, the hold queues (key
4 × span + class), same-pier descriptors that wait for their egress account (key flow), the four kinds of token bucket (a brace
limiter in 1/256 of a unit), and the order counter. -/
structure Ports where
  port : SMap Port
  q : SMap (List QEnt)
  deficit : SMap Nat
  hold : SMap (List Held)
  wait5 : SMap (List Carried)
  qbkt : SMap Bucket
  tbkt : SMap Bucket
  ebkt : SMap Bucket
  bbkt : SMap Bucket
  brace : Bool           -- the brace limiter of R160 runs for brace
  power : Bool           -- it runs for the power limit of R409
  order : Nat
  deriving DecidableEq, Repr

/-- A cell in a cell queue (R97 to R100): its TLP by HANDLE, its index, whether it is the last, the TLP's cell count, its
stripe tag, and the cell times at which it was queued and first requested. -/
structure Cell where
  handle : Nat
  index : Nat
  total : Nat
  stag : Nat
  qAt : Nat
  reqAt : Option Nat
  deriving DecidableEq, Repr

/-- A cell that has crossed a plane (R97): its index, its plane, its control word, and its four words of 35 symbols. -/
structure Arrival where
  index : Nat
  plane : Nat
  ctl : Word
  words : List (List Byte)
  deriving DecidableEq, Repr

/-- A copy in reassembly at its egress pier: the cells that have come, and whether one came later than R102 allows. -/
structure Reasm where
  cells : List Arrival
  late : Bool
  deriving DecidableEq, Repr

/-- An answer on the deck control plane (R108): from the egress pier `dst` to the ingress pier `src`, for a HANDLE, on a plane. -/
structure Answer where
  src : Nat
  dst : Nat
  handle : Nat
  ack : Bool
  plane : Nat
  deriving DecidableEq, Repr

/-- A copy that an ingress pier holds until it is acknowledged (R107, R108): its egress pier, its SEQ per target port, how
often it was sent, the planes of its stripe, its stripe tag and cells, and its place in the order in which copies were first
sent. -/
structure InFlight where
  c : Carried
  dst : Nat
  seqs : List (Nat × Nat)
  sends : Nat
  planes : List Nat
  stag : Nat
  cells : Nat
  void : Bool
  born : Nat
  deriving DecidableEq, Repr

/-- A copy stored in an egress pier that waits for its SEQ (R110, R111). -/
structure Stored where
  seq : Nat
  c : Carried
  void : Bool
  handle : Nat
  src : Nat
  deriving DecidableEq, Repr

/-- The deck (R97 to R125): the cell queues (key ((16·src + plane)·8 + dst)·4 + class), copies in flight (key 2^18·(8·src + dst) +
HANDLE), the last slot taken as a HANDLE, the non-express TLP in progress per source, plane and destination, the grant and accept
pointers, the copies in reassembly, S_f and R_f per base flow, stored copies, stripe tags in use, stopped ports, reference counts of
multicast stores, the run of acknowledgement timeouts per plane, answers on their way, and the plane of each pier's last answer. -/
structure Deck where
  ctime : Nat
  cells : SMap (List Cell)
  infl : SMap InFlight
  handle : SMap Nat
  prog : SMap Nat
  gptr : SMap Nat
  aptr : SMap Nat
  got : SMap Reasm
  sf : SMap Nat
  rf : SMap Nat
  stored : SMap (List Stored)
  stags : SMap (List Nat)
  stagNext : SMap Nat
  wait : SMap (List Carried)     -- TLPs of a pier that wait for a window or a stripe tag, in order
  stopped : List Nat
  mcRef : SMap Nat
  ackRun : SMap Nat
  answers : List Answer
  ansPlane : SMap Nat
  born : Nat
  deriving DecidableEq, Repr

/-- A spilled base flow (R134): its TLPs, its pages (2^22 × channel + page of that channel's pool), the blocks used in all and those
already read back. -/
structure SpillFlow where
  tlps : List Carried
  pages : List Nat
  blocks : Nat
  read : Nat
  deriving DecidableEq, Repr

/-- A landing request decided by the gate on its way to the controllers: the request and the ranges (offset, length, allowed,
tag) into which slot 128 cut it. -/
structure LandReq where
  c : Carried
  parts : List (Nat × Nat × Bool × Nat)
  deriving DecidableEq, Repr

/-- The caisson (R127 to R149): spilled flows, pages in use per channel, the round-robin channel, landing memory by byte and
its block metadata, blocks with uncorrectable words, the remap list, retirements in progress, the running tag-set, the
hot-reset scan, the stop of new spill (R145), the shedding of the pool in brace (R146), the landing requests that wait, when each
class of requests of a channel (key 8·channel + class) began to wait, and the channels whose next turn is a read-back's (R136). -/
structure Csn where
  flows : SMap SpillFlow
  used : SMap Nat
  rr : Nat
  mem : SMap Byte
  tag : SMap Nat
  poison : SMap Bool
  bad : SMap Bool
  remap : SMap Nat
  copying : List Nat
  corrAt : SMap Nat
  tagset : Option (Nat × Nat × Nat)
  scanKeys : List Nat
  scanned : List Nat
  spillStop : Bool
  shed : Bool
  landq : List LandReq
  waitAt : SMap Nat
  backTurn : List Nat
  deriving DecidableEq, Repr

/-- A footway request that waits for its answer (R75). -/
structure FwReq where
  msg : FwMsg
  sends : Nat
  deriving DecidableEq, Repr

/-- A change both ends have agreed for a flit index (R72): of the receive map, the transmit map, the width or the rate. -/
structure Agreed where
  rx : Bool
  idx : Nat
  kind : Nat             -- 0 spare takes a lane, 1 lane on loan to the spare, 2 lane back, 3 width, 4 rate, 5 end of the pattern
  lane : Nat
  map : List (Fin 9)
  width : Nat
  rate : Nat
  span : Nat
  deriving DecidableEq, Repr

/-- A packet in progress on a virtual channel: the packet and the bytes still to send. -/
structure Prog where
  vc : Nat
  pkt : FabPkt
  left : Nat
  deriving DecidableEq, Repr

/-- A flit held for replay (R80), with the packet that it ends. -/
structure RepEnt where
  seq : Nat
  data : FlitData
  slot : Bool            -- it was sent with a footway slot
  pkt : Option FabPkt
  deriving DecidableEq, Repr

/-- The hidden state of one Floing port, under its governing span (R69 to R95). N, P, E and A_rx are in SPN_FLSEQ and
SPN_FLSEQRX, the credits in SPN_FLVC, the state in SPN_FLSTAT. -/
structure FlLink where
  r : Option Nat         -- next entry to replay
  replay : List RepEnt
  nakPend : Bool
  nakDue : Bool
  accSince : Nat
  ackDue : Bool          -- A_rx has changed and no flit has carried it yet
  freed : List Nat
  returned : List Nat
  cv : List Nat
  crRR : Nat
  crForce : Bool         -- the ACK timer lets returns below 8 units go (R78)
  oow : List Nat
  toRun : Nat
  txIdx : Nat
  rxIdx : Nat
  fwQ : List FwMsg
  reqs : List FwReq
  seen : List (Nat × Nat × Nat)  -- TYPE, span and ID of the messages acted on
  sentAns : List FwMsg   -- the last answers, sent again when a request repeats
  nextId : Nat
  prog : List Prog
  rxUnits : List Nat     -- units reserved by the packet in progress of each VC
  rxBytes : List (List Byte)  -- bytes of the packet in progress of each VC
  rxBuf : List (Nat × FabPkt)
  rxMap : List (Fin 9)
  txMap : List (Fin 9)
  agreed : List Agreed
  pAlloc : List Nat
  pFabric : Nat
  pSerial : Nat
  pCap64 : Bool
  gotParam : Bool
  gotAck : Bool
  relock : Bool          -- a rate change has not yet relocked (R93)
  wasX4 : Bool           -- narrowed to x4 since it last trained wider (R68)
  lastFlit : Option Flit
  lastWire : List Byte
  delay : Nat
  failAt : SMap Nat      -- times at which lanes failed (R90)
  cap64 : Bool           -- this end's cap as last told to the partner
  rxAlloc : List Nat     -- receive allocations taken at entry to ACTIVE (R79)
  rxSp : Nat             -- span of a narrowed receive set
  txSp : Nat
  deriving DecidableEq, Repr

/-- A calibration visit of one span (R63 to R66): the coefficients held before it, the lane the transmitter mirrors for the
partner's visit, whether it sends the pattern there, whether the partner takes that lane from the spare, the failed lane that the
spare carries to the partner, the lane a failed visit still hands back, and the next lane. -/
structure Visit where
  saved : Word
  acked : Bool
  txLane : Option Nat
  txPattern : Bool
  txSwapped : Bool
  txSpare : Option Nat
  next : Nat
  aborted : Bool         -- the visit was abandoned and only hands its lane back (R66)
  rcl : Option Nat    -- a failed lane to take once the lane under calibration is back (Table FLO-12)
  deriving DecidableEq, Repr

/-- The Floing links by governing span, the calibration visits by span, and for each lane the present millisecond and its symbol
errors (R87). -/
structure Floing where
  link : SMap FlLink
  visit : SMap Visit
  errWin : SMap (Nat × Nat)
  deriving DecidableEq, Repr


/-- The hidden state of a slot: power-on commanded, the clock window open, the present levels of PRSNT_N, ATTN_N before
debounce are events. -/
structure SlotSt where
  on : Bool
  window : Bool
  stable : Bool
  deriving DecidableEq, Repr

/-- What a DMA job carries: a fetch of BATCH descriptors or of flash data, or a write of an export or a report. -/
inductive DmaUse where
  | batch (cmd : Nat)
  | bankWrite (cmd bank off : Nat)
  | export_ (cmd : Nat)
  | report (cmd : Nat)
  deriving DecidableEq, Repr

/-- One read of a DMA job: its tag, its place in the job, its length and the bytes that have arrived. -/
structure DmaRd where
  tag : Nat
  off : Nat
  len : Nat
  got : List Byte
  deriving DecidableEq, Repr

/-- A DMA job of a management endpoint (R187 to R189): what it carries, the host address, the bytes still to fetch or the
writes already issued, the reads outstanding, the data assembled (offset, bytes), and the number that RESULT will give. -/
structure DmaJob where
  use : DmaUse
  addr : Nat
  total : Nat
  issued : Nat
  reads : List DmaRd
  data : List (Nat × List Byte)
  result : Nat
  deriving DecidableEq, Repr

/-- A proxy tag in use (R172): what the SY256 restores on the completion. -/
structure Proxy where
  tag : Nat
  rid : Nat
  otag : Nat
  inP : Nat
  vs : Nat
  deriving DecidableEq, Repr

/-- A configuration request at an upstream port's pier (R175): the request, its port and virtual switch. -/
structure CfgReq where
  tlp : Tlp
  port : Nat
  vs : Nat
  deriving DecidableEq, Repr

/-- A control request that waits for its answer (R219): its virtual switch and the module asked, the configuration write that it
carries out, and the status with which that will be completed. -/
structure CtlWait where
  vs : Nat
  mod : Nat
  req : Option CfgReq
  done : Option Nat
  deriving DecidableEq, Repr

/-- The host face: the virtual switches of the applied image, its ROMT (none: the default of R465), the configuration
spaces, the functions that answer with Configuration Request Retry Status, resets and FLRs in progress, the MSI-X tables and
pending bits, DMA jobs and tags of failed jobs still to be discarded, proxy tags, slots, the vector assignments of the image,
upstream links in L2, upstream ports that have sent PME_TO_Ack and the downstream ports from which one still waits for it (R195), the
links that receive hot reset, PTM (R202): the time of the last answer, when each upstream port asked, and the host's time with the
device time at which it stood; and the control requests that wait for an answer, by number, and the next number (R219). -/
structure HostS where
  vsw : SMap VsDef
  home : SMap HomeBind   -- local ports bound to a virtual switch of another module (R207)
  rom : Option (SMap RomEnt)
  cfg : SMap Word
  crs : List Nat
  inReset : SMap Nat
  flr : List Nat
  msix : SMap Word
  pend : List Nat
  dma : SMap DmaJob
  dmaq : List (Nat × DmaJob)
  dmaDead : List (Nat × Nat)
  proxy : SMap (List Proxy)
  slotDef : SMap SlotDef
  slot : SMap SlotSt
  vec : SMap Nat         -- vector an image assigns to a source (source number → vector)
  wakeVec : List Nat
  l2 : List Nat
  linkHot : List Nat     -- downstream ports whose link receives hot reset
  toAck : List Nat
  toWait : SMap (List Nat)
  ptmLast : Nat
  ptmAsked : SMap Nat
  ptmHost : SMap (Nat × Nat)
  ctlOpen : SMap CtlWait
  ctlNext : Nat
  deriving DecidableEq, Repr


/-- An event of Table ENG-3 with its record. -/
inductive Ev where
  | start (reason : Nat)
  | cfg (write : Bool) (r : CfgReq)
  | error (num cause unit time : Nat)
  | command (seq : Nat)
  | message (eng duty : Nat) (bytes : List Byte)
  | control (srcMod kind : Nat) (bytes : List Byte)
  | footway (port : Nat) (bytes : List Byte)
  | tlp (port : Nat) (part : Nat) (last : Bool) (t : Tlp)
  | timer (t : Nat)
  | link (port : Nat)
  | slot (k : Nat)
  | lane (span : Nat)
  | counter (block : Nat)
  | stop (reason : Nat)
  | continue_ (value : Nat)
  deriving DecidableEq, Repr

/-- An event addressed to a duty: pier, duty number, record. -/
structure QEv where
  pier : Nat
  duty : Nat
  ev : Ev
  deriving DecidableEq, Repr

/-- The handler an engine runs: its event, whether the engine has entered it, and whether its configuration request or its
command has been ended. -/
structure Inv where
  q : QEv
  entered : Bool
  done : Bool
  applied : Bool         -- its configuration write was applied (R176)
  deriving DecidableEq, Repr

/-- A duty timer (R289): when it expires, its period (0: once). -/
structure Timer where
  due : Nat
  period : Nat
  deriving DecidableEq, Repr

/-- The pier engines (R279 to R300). Keys: an engine g, or a duty 64 × pier + d, or a timer 4 × duty + t. -/
structure Eng where
  q : SMap (List QEv)
  flags : List QEv
  cur : SMap Inv
  preempted : SMap Inv
  kept : List QEv          -- events whose queue was full, kept by their source (R285)
  moving : SMap (List QEv) -- items held for a migrating duty, in arrival order
  target : SMap (Nat × Nat) -- the new engine of a migrating duty and the START reason
  timer : SMap Timer
  cfgWait : SMap (List CfgReq)
  traps : SMap (List Nat)
  cmds : List (Nat × Nat)  -- commands given to a duty: (SEQ, duty key)
  parkWait : List (Nat × Bool)
  mem : SMap (List (Nat × Byte)) -- local memory of an engine as its program load leaves it (R280; log entry 83)
  record : SMap Byte       -- duty records (R281), key 4096 × duty + byte
  recInit : SMap Byte      -- the image's initial duty records
  table : SMap Nat         -- multicast group table and other engine-owned pier tables, key (pier × 256 + table) × 65536 + index
  failCause : SMap Nat     -- failure migrations in progress: engine or 64 + cluster → duties left
  lastStatus : SMap Nat    -- status the last intrinsic of an engine returned (Table ENG-5)
  lastValue : SMap Nat     -- value it returned
  deriving DecidableEq, Repr


/-- A recorder record (Table REC-1); `line` is its first line in its ring, `snap` the snapshot words, `miss` the bits of words
that could not be read. -/
structure RRec where
  seq : Nat
  line : Nat
  trigger : Nat
  src : Nat
  type : Nat
  snapped : Bool
  approx : Bool
  hours : Nat
  pcycle : Nat
  time : Nat
  snapId : Nat
  value : Nat
  miss : Nat
  snap : List Word
  braceRef : Nat
  deriving DecidableEq, Repr

/-- A record that is being built (R351): the trigger, its source and value, the time of the event and whether that was read on
the ring oscillator (R30). -/
structure RBuild where
  trigger : Nat
  src : Nat
  value : Nat
  time : Nat
  approx : Bool
  deriving DecidableEq, Repr

/-- An entry of the prefetch-discard log on its way to the keeper (R358): the eight words between SEQ and its copy. -/
structure PfEnt where
  words : List Nat
  deriving DecidableEq, Repr

/-- The event recorder (R346 to R360): the two rings oldest first, records being built, triggers whose hold-off timer runs and
triggers whose record is not complete, the next SEQ, the flush (running, suspended), SEQ of the BRACE record
not yet closed, the log FIFOs of the piers, and the part of an hour saved in MRAM. -/
structure Recd where
  kring : List RRec
  mring : List RRec
  build : List RBuild
  holdT : List Nat
  holdR : List Nat
  next : Nat
  flushing : Bool
  susp : Bool
  brace : Option Nat
  pfifo : SMap (List PfEnt)
  deriving DecidableEq, Repr

/-- The performance counters (R361 to R368): the counter action waiting for its strike time with its id, blocks whose
counters are frozen, the offset of each block's cycle counter, and the plane slots of the present cell time. -/
structure Pmc where
  action : Nat           -- bits of PMC_CMD to carry out; 16 when a snapshot has struck
  strike : Nat
  struck : Bool
  frozen : List Nat
  cycBase : SMap Nat
  frozenAt : SMap Nat
  deriving DecidableEq, Repr


/-- A fabric tag in use at a Floing port (R212 to R215): the tag, where its completion returns (the Floing port and tag by
which the request came, or the requester port), the request's Requester ID, tag, TC, virtual switch and tenant, the bytes not
yet sent back, the address of the first, and the slots reserved against it. -/
structure FTag where
  tag : Nat
  inP : Nat
  inTag : Option FabHdr
  rid : Nat
  rtag : Nat
  tc : Fin 8
  vs : Nat
  tenant : Nat
  left : Nat
  addr : Nat
  slots : Nat
  late : Bool            -- the link by which it came has since gone down (R215)
  deriving DecidableEq, Repr

/-- A read-ahead buffer (R221 to R223): its virtual switch, Requester ID, range, the tag of its pool, the end of its window, the
bytes arrived, whether all have, and the reads that wait for it. -/
structure PfBuf where
  vs : Nat
  rid : Nat
  base : Nat
  len : Nat
  tag : Nat
  top : Nat
  data : List Byte
  full : Bool
  waiting : List Carried
  deriving DecidableEq, Repr

/-- Fabric bridging (R204 to R223): fabric tags by Floing port, the next tag tried, (pier, module) pairs under route hold
(key 64 × pier + module), read-ahead buffers by target port oldest first, and the multicast group
tables (key (64 × pier + virtual switch) × 64 + group). -/
structure Fab where
  tags : SMap (List FTag)
  nextTag : SMap Nat
  hold : List Nat
  pf : SMap (List PfBuf)
  mcast : SMap Nat       -- multicast group tables of the piers: bit p = local member port p
  time : SMap Nat        -- home time of another module's virtual switch less device time, mod 2^64; key 64 × module + virtual switch (R220)
  ctl : List (Nat × FabHdr) -- control packets that a route hold keeps, with their pier (R206)
  deriving DecidableEq, Repr

/-- A flash bank (R302, R303): whether it holds what production left, and the bytes programmed since its last erase. -/
structure Bank where
  factory : Bool
  bytes : SMap Byte
  deriving DecidableEq, Repr

/-- A live replacement in progress (Table IMG-9): its command, whether the commit is done, the new segment and the old one,
changed ports, the code it will end with, whether the rollback runs, and a Reduced entry that waits for it (R325). -/
structure Live where
  cmd : Nat
  committed : Bool
  image : Image
  old : Image
  changed : List Nat
  code : Nat
  waitReduced : Bool
  deriving DecidableEq, Repr

/-- The image store and loader (R302 to R326): the banks, the candidates still to try, the bank being loaded, the applied
image, the section measurements of R311, the pier shadow of R268, the live replacement, and the bank of the long command that
runs. -/
structure Img where
  bank : SMap Bank
  cand : List Nat
  loading : Option Nat
  accepted : Option Image
  applied : Option Image
  hashes : List Nat
  shadow : SMap Word
  live : Option Live
  deriving DecidableEq, Repr

/-- The hidden state of a feed (R377 to R384): the counts of consecutive samples of its rules, whether its fault timer runs,
whether it has qualified under R373, and whether it waits for its input to recover from overvoltage (R381). -/
structure Feed where
  heat : Int             -- temperature of the thermal model (R382), in 2^−20 of 1/16 °C
  ovr : Nat
  short : Nat
  low : Nat
  timer : Bool
  qual : Bool
  ov : Bool
  deriving DecidableEq, Repr

/-- A switchover in progress (Table ABT-1): from and to, and the last step done. -/
structure Switch where
  src : Nat
  dst : Nat
  step : Nat
  deriving DecidableEq, Repr

/-- The abutment (R370 to R399): its feeds, counts of consecutive samples at the thresholds, the switchover, the first ramp,
the energy not yet a whole mJ, the sum and number of power samples of the present ms, the saved settings and I/O levels in
MRAM, the energy saved in MRAM, and the sticky bits and page of the PMBus view. -/
structure Abt where
  feed : SMap Feed
  warnN : Nat
  resetN : Nat
  okN : Nat
  pgN : Nat
  switch : Option Switch
  firstRamp : Bool
  frac : Nat
  pinSum : Nat
  pinN : Nat
  saved : List RegSet
  savedEnergy : Nat
  sticky : Nat
  page : Nat
  shutdown : Bool
  deriving DecidableEq, Repr

/-- Modes, start-up and domains (R400 to R418): consecutive thermal samples at REDUCE_T and at 110 °C, whether the Reduced entry
still reads back, whether stage verification and the wipe run, whether the full caisson test runs at the next start (R406), a
Device-fatal cause pending in Standby, the piers whose closure cycles their domains, and the saved part of HOURS. -/
structure ModeS where
  thermN : Nat
  shutN : Nat
  readback : Bool         -- the Reduced entry reads spilled flows back until RDRAIN runs out (Table MODE-3, step 4)
  full : List Nat         -- domains whose present power-up runs the full test (R414)
  verifying : Bool
  wiping : Bool
  startup : Bool          -- this start-up follows a keeper power-up: the kind-10 entry is due at the end of the wipe
  fullTest : Bool
  pendCause : Option Nat
  rejoin : List Nat       -- piers whose closure cycles their domains
  commitWait : Bool       -- an accepted image waits for the domains it uses
  secs : Nat              -- whole seconds of the present hour saved at shutdown
  recovery : Bool         -- RECOVERY_N at the reset (R403)
  deriving DecidableEq, Repr

/-- The keystone (R421 to R439): the stage copies, the certificate area, how many nonces were drawn, the nonce, the copy that
booted since the last reset, the length of the report, a life-cycle change in progress (target, step), fuse copies blown for an
interrupted change, writes of KEY_CMD that wait (R430), and the stage-write accesses. -/
structure KeyS where
  stage : SMap Bank
  cert : Bank
  drawn : Nat
  nonce : Nat
  booted : Option Nat
  bootHash : Nat
  change : Option (Nat × Nat)
  fuse : Option Nat
  cmdWait : List RegW
  report : List Byte
  deriving DecidableEq, Repr

/-- The sideband bridge (R225 to R228) and MCTP endpoints (R224): the address pointer, the access waiting, the count of
commands accepted, the read data, the PMBus and I3C addresses, endpoint IDs, and a bank level change that waits (R445). -/
structure Side where
  ptr : Nat
  access : Option (Bool × Nat × Word)
  count : Nat
  data : Word
  dyn : Option Nat
  reply : List Byte
  eid : SMap Nat
  levelWait : Option Nat
  savedLevel : Option Nat
  deriving DecidableEq, Repr

/-- The whole state of the block: the registers (an unlisted register reads its reset value), the units, and the commands
that wait, first in first out. -/
structure State where
  regs : SMap Word
  env : Env
  jrn : Jrn
  err : Err
  ports : Ports
  deck : Deck
  csn : Csn
  fl : Floing
  host : HostS
  fab : Fab
  eng : Eng
  img : Img
  rcd : Recd
  pmc : Pmc
  abt : Abt
  mode : ModeS
  key : KeyS
  sb : Side
  pending : List Instr
  deriving DecidableEq, Repr

/-- The reasons for which a step would stop with a fault. No command of this block ends in one: the spec gives every command
an effect. Safe. -/
inductive Fault where
  /-- Nothing raises it. -/
  | none
  deriving DecidableEq, Repr

/-- The reasons for which a step would be refused. Safe. -/
inductive Refusal where
  /-- A command that has no meaning in the model yet; raised only by an arm of `exec`. -/
  | notModelled (mnemonic : String)
  deriving DecidableEq, Repr

/-- `Credits` right after reset. -/
def Credits.init : Credits :=
  { ph := some 0,
    pd := some 0,
    nh := some 0,
    nd := some 0,
    ch := some 0,
    cd := some 0 }

/-- `RxCredits` right after reset. -/
def RxCredits.zero : RxCredits := { ph := 0, pd := 0, nh := 0, nd := 0, ch := 0, cd := 0 }

/-- `Port` right after reset. -/
def Port.init : Port :=
  { cred := Credits.init,
    ptr := 0,
    fresh := true,
    trk := [],
    synthRec := false,
    offCmd := false,
    wantFull := false,
    pmReply := 0,
    pciPm := false,
    lastOut := none,
    margin := [],
    clkMode := 0,
    preset := 0,
    txBytes := 0,
    txAt := 0,
    rxTaken := RxCredits.zero,
    rxBack := RxCredits.zero }

/-- `FlLink` right after reset. -/
def FlLink.init : FlLink :=
  { r := none,
    replay := [],
    nakPend := false,
    nakDue := false,
    accSince := 0,
    ackDue := false,
    freed := List.replicate 8 0,
    returned := List.replicate 8 0,
    cv := List.replicate 8 0,
    crRR := 0,
    crForce := false,
    oow := [],
    toRun := 0,
    txIdx := 0,
    rxIdx := 0,
    fwQ := [],
    reqs := [],
    seen := [],
    sentAns := [],
    nextId := 0,
    prog := [],
    rxUnits := List.replicate 8 0,
    rxBytes := List.replicate 8 [],
    rxBuf := [],
    rxMap := [],
    txMap := [],
    agreed := [],
    pAlloc := List.replicate 8 0,
    pFabric := 0,
    pSerial := 0,
    pCap64 := false,
    gotParam := false,
    gotAck := false,
    relock := false,
    wasX4 := false,
    lastFlit := none,
    lastWire := [],
    delay := 0,
    failAt := [],
    cap64 := false,
    rxAlloc := [],
    rxSp := 0,
    txSp := 0 }

/-- `Visit` right after reset. -/
def Visit.init : Visit :=
  { saved := 0,
    acked := false,
    txLane := none,
    txPattern := false,
    txSwapped := false,
    txSpare := none,
    next := 0,
    aborted := false,
    rcl := none }

/-- `SpillFlow` right after reset. -/
def SpillFlow.init : SpillFlow :=
  { tlps := [],
    pages := [],
    blocks := 0,
    read := 0 }

/-- `Bucket` right after reset. -/
def Bucket.init : Bucket :=
  { tok := 0,
    at_ := 0 }

/-- `SlotSt` right after reset. -/
def SlotSt.init : SlotSt :=
  { on := false,
    window := false,
    stable := false }

/-- `Bank` right after reset. -/
def Bank.init : Bank :=
  { factory := false,
    bytes := [] }

/-- `Feed` right after reset. -/
def Feed.init : Feed :=
  { heat := 0,
    ovr := 0,
    short := 0,
    low := 0,
    timer := false,
    qual := false,
    ov := false }

/-- `Env` right after reset. -/
def Env.init : Env :=
  { now := 0,
    keeperOn := true,
    oscGood := 0,
    oscRun := true,
    rstLow := true,
    recoveryLow := false,
    wake := [],
    bucketEpoch := [],
    free := 0 }

/-- `Jrn` right after reset. -/
def Jrn.init : Jrn :=
  { fifo := [],
    held := [],
    region := [],
    copy := [],
    ckpt := [],
    ckptSeq := 0,
    reserve := 65536,
    clean := false,
    next := 1,
    startAt := 1,
    thrSent := false,
    cmds := [],
    latch := [],
    ckptWait := [] }

/-- `Err` right after reset. -/
def Err.init : Err :=
  { fifo := [],
    num := 0,
    aerLast := [],
    faultN := false,
    uncWin := [] }

/-- `Ports` right after reset. -/
def Ports.init : Ports :=
  { port := [],
    q := [],
    deficit := [],
    hold := [],
    wait5 := [],
    qbkt := [],
    tbkt := [],
    ebkt := [],
    bbkt := [],
    brace := false,
    power := false,
    order := 0 }

/-- `Deck` right after reset. -/
def Deck.init : Deck :=
  { ctime := 0,
    cells := [],
    infl := [],
    handle := [],
    prog := [],
    gptr := [],
    aptr := [],
    got := [],
    sf := [],
    rf := [],
    stored := [],
    stags := [],
    stagNext := [],
    wait := [],
    stopped := [],
    mcRef := [],
    ackRun := [],
    answers := [],
    ansPlane := [],
    born := 0 }

/-- A copy of which no cell has come. -/
def Reasm.init : Reasm := ⟨[], false⟩

/-- `Csn` right after reset. -/
def Csn.init : Csn :=
  { flows := [],
    used := [],
    rr := 0,
    mem := [],
    tag := [],
    poison := [],
    bad := [],
    remap := [],
    copying := [],
    corrAt := [],
    tagset := none,
    scanKeys := [],
    scanned := [],
    spillStop := false,
    shed := false,
    landq := [],
    waitAt := [],
    backTurn := [] }

/-- `Floing` right after reset. -/
def Floing.init : Floing :=
  { link := [],
    visit := [],
    errWin := [] }

/-- `HostS` right after reset. -/
def HostS.init : HostS :=
  { vsw := [],
    home := [],
    rom := none,
    cfg := [],
    crs := [],
    inReset := [],
    flr := [],
    msix := [],
    pend := [],
    dma := [],
    dmaq := [],
    dmaDead := [],
    proxy := [],
    slotDef := [],
    slot := [],
    vec := [],
    wakeVec := [],
    l2 := [],
    linkHot := [],
    toAck := [],
    toWait := [],
    ptmLast := 0,
    ptmAsked := [],
    ptmHost := [],
    ctlOpen := [],
    ctlNext := 0 }

/-- `Fab` right after reset. -/
def Fab.init : Fab :=
  { tags := [],
    nextTag := [],
    hold := [],
    pf := [],
    mcast := [],
    time := [],
    ctl := [] }

/-- `Eng` right after reset. -/
def Eng.init : Eng :=
  { q := [],
    flags := [],
    cur := [],
    preempted := [],
    kept := [],
    moving := [],
    target := [],
    timer := [],
    cfgWait := [],
    traps := [],
    cmds := [],
    parkWait := [],
    mem := [],
    record := [],
    recInit := [],
    table := [],
    failCause := [],
    lastStatus := [],
    lastValue := [] }

/-- `Img` right after reset. -/
def Img.init : Img :=
  { bank := [(0, ⟨true, []⟩), (2, ⟨true, []⟩)],
    cand := [],
    loading := none,
    accepted := none,
    applied := none,
    hashes := [],
    shadow := [],
    live := none }

/-- `Recd` right after reset. -/
def Recd.init : Recd :=
  { kring := [],
    mring := [],
    build := [],
    holdT := [],
    holdR := [],
    next := 1,
    flushing := false,
    susp := false,
    brace := none,
    pfifo := [] }

/-- `Pmc` right after reset. -/
def Pmc.init : Pmc :=
  { action := 0,
    strike := 0,
    struck := false,
    frozen := [],
    cycBase := [],
    frozenAt := [] }

/-- `Abt` right after reset. -/
def Abt.init : Abt :=
  { feed := [],
    warnN := 0,
    resetN := 0,
    okN := 0,
    pgN := 0,
    switch := none,
    firstRamp := false,
    frac := 0,
    pinSum := 0,
    pinN := 0,
    saved := [],
    savedEnergy := 0,
    sticky := 0,
    page := 0,
    shutdown := false }

/-- `ModeS` right after reset. -/
def ModeS.init : ModeS :=
  { thermN := 0,
    shutN := 0,
    readback := false,
    full := [],
    verifying := false,
    wiping := false,
    startup := false,
    fullTest := false,
    pendCause := none,
    rejoin := [],
    commitWait := false,
    secs := 0,
    recovery := false }

/-- `KeyS` right after reset. -/
def KeyS.init : KeyS :=
  { stage := [(0, ⟨true, []⟩), (1, ⟨true, []⟩)],
    cert := ⟨true, []⟩,
    drawn := 0,
    nonce := 0,
    booted := none,
    bootHash := 0,
    change := none,
    fuse := none,
    cmdWait := [],
    report := [] }

/-- `Side` right after reset. -/
def Side.init : Side :=
  { ptr := 0,
    access := none,
    count := 0,
    data := 0,
    dyn := none,
    reply := [],
    eid := [],
    levelWait := none,
    savedLevel := none }

/-- The machine right after module reset: every register at its Reset column (no entry listed), every queue empty, the
keeper running, no command waiting (R460; log entries 1 and 2). -/
def State.reset : State :=
  { regs := [],
    env := Env.init,
    jrn := Jrn.init,
    err := Err.init,
    ports := Ports.init,
    deck := Deck.init,
    csn := Csn.init,
    fl := Floing.init,
    host := HostS.init,
    fab := Fab.init,
    eng := Eng.init,
    img := Img.init,
    rcd := Recd.init,
    pmc := Pmc.init,
    abt := Abt.init,
    mode := ModeS.init,
    key := KeyS.init,
    sb := Side.init,
    pending := [] }

end Sys2Proof.Machine
end

