-- ==== Sys2Proof/Machine/Ops.lean ====
section
/-! DEFINITION. The named operations that every meaning shares: the sparse maps, reading and writing registers and their
fields, device time and free values, domains and islands, the journal and record FIFOs. -/

namespace Sys2Proof.Machine

/-- The outcome of a meaning. -/
abbrev Out := Host.Outcome State Fault Refusal

/-! ### Sparse maps -/

/-- The value listed at a key, if any. -/
def SMap.find? {α : Type} : SMap α → Nat → Option α
  | [], _ => none
  | (k, v) :: m, q => if q = k then some v else SMap.find? m q

/-- The map without a key. -/
def SMap.del {α : Type} (m : SMap α) (q : Nat) : SMap α := m.filter (fun e => e.1 != q)

/-- The map with an entry put before the first greater key. -/
def SMap.insertAt {α : Type} : SMap α → Nat → α → SMap α
  | [], q, v => [(q, v)]
  | (k, w) :: m, q, v => if q < k then (q, v) :: (k, w) :: m else (k, w) :: SMap.insertAt m q v

/-- The map with a key set. -/
def SMap.ins {α : Type} (m : SMap α) (q : Nat) (v : α) : SMap α := SMap.insertAt (SMap.del m q) q v

/-- The value at a key, where an unlisted key reads as `d`. -/
def SMap.get {α : Type} (d : α) (m : SMap α) (q : Nat) : α := (SMap.find? m q).getD d

/-- The map with a key written, where an unlisted key reads as `d`: writing `d` removes the entry. -/
def SMap.put {α : Type} [DecidableEq α] (d : α) (m : SMap α) (q : Nat) (v : α) : SMap α :=
  if v = d then SMap.del m q else SMap.ins m q v

/-- The canonical form: keys strictly rising, and no entry equal to what its key reads as when unlisted. -/
def SMap.Wf {α : Type} [DecidableEq α] (d : Nat → α) (m : SMap α) : Prop :=
  m.Pairwise (fun a b => a.1 < b.1) ∧ ∀ e ∈ m, e.2 ≠ d e.1

/-! ### Registers -/

/-- The key of instance `i` of a register. -/
def regKey (r : Reg) (i : Nat) : Nat := i * 256 + r.ctorIdx

/-- What a register key reads as when unlisted: the Reset column (R460). -/
def regDefault (k : Nat) : Word := (Reg.ofNat (k % 256)).reset (k / 256)

/-- The stored value of instance `i` of a register. -/
def State.rd (s : State) (r : Reg) (i : Nat) : Word := SMap.get (r.reset i) s.regs (regKey r i)

/-- The state with a register instance stored, reserved bits included: the raw store that every write ends in. -/
def State.wr (s : State) (r : Reg) (i : Nat) (w : Word) : State :=
  { s with regs := SMap.put (r.reset i) s.regs (regKey r i) w }

/-- The bits of a field in place. -/
def Fld.mask (f : Fld) : Word := BitVec.ofNat 32 ((2 ^ f.width - 1) <<< f.lo)

/-- A field of a word. -/
def Fld.get (f : Fld) (w : Word) : Nat := (w.toNat >>> f.lo) % 2 ^ f.width

/-- A word with a field replaced (low bits of `v`). -/
def Fld.set (f : Fld) (w : Word) (v : Nat) : Word :=
  (w &&& ~~~ f.mask) ||| (BitVec.ofNat 32 (v % 2 ^ f.width) <<< f.lo)

/-- A field of a register instance. -/
def State.f (s : State) (f : Fld) (i : Nat) : Nat := f.get (s.rd f.reg i)

/-- A one-bit field as a truth value. -/
def State.b (s : State) (f : Fld) (i : Nat) : Bool := s.f f i != 0

/-- The state with a field of a register instance set. -/
def State.setf (s : State) (f : Fld) (i : Nat) (v : Nat) : State := s.wr f.reg i (f.set (s.rd f.reg i) v)

/-- A field raised by `n`, saturating at its width. -/
def State.satf (s : State) (f : Fld) (i : Nat) (n : Nat) : State :=
  s.setf f i (min (2 ^ f.width - 1) (s.f f i + n))

/-- A field lowered by `n`, never below 0. -/
def State.subf (s : State) (f : Fld) (i : Nat) (n : Nat) : State := s.setf f i (s.f f i - n)

/-- A field raised by `n`, wrapping at its width. -/
def State.wrapf (s : State) (f : Fld) (i : Nat) (n : Nat) : State := s.setf f i (s.f f i + n)

/-- A 64-bit quantity in two instances, the low word first (R3). -/
def State.rd64 (s : State) (r : Reg) (i : Nat) : Nat := (s.rd r i).toNat + 2 ^ 32 * (s.rd r (i + 1)).toNat

/-- Stores a 64-bit quantity in two instances, the low word first (R3). -/
def State.wr64 (s : State) (r : Reg) (i : Nat) (v : Nat) : State :=
  (s.wr r i (BitVec.ofNat 32 v)).wr r (i + 1) (BitVec.ofNat 32 (v / 2 ^ 32))

/-- Bit `k` of a field read as a bit vector. -/
def State.bitf (s : State) (f : Fld) (i k : Nat) : Bool := (s.f f i).testBit k

/-- Sets or clears bit `k` of a field. -/
def State.setBitf (s : State) (f : Fld) (i k : Nat) (v : Bool) : State :=
  if s.bitf f i k = v then s else if v then s.setf f i (s.f f i + 2 ^ k) else s.setf f i (s.f f i - 2 ^ k)

/-- Puts back the Reset column of one register instance. -/
def State.clearReg (s : State) (r : Reg) (i : Nat) : State := s.wr r i (r.reset i)

/-- Does the same for every index below `n`. -/
def forRange (n : Nat) (f : Nat → State → State) (s : State) : State := (List.range n).foldl (fun s i => f i s) s

/-- Does the same for every element of a list, in order. -/
def forEach {α : Type} (l : List α) (f : α → State → State) (s : State) : State := l.foldl (fun s a => f a s) s

/-! ### Time and free values -/

/-- Advances device time (log entry 5). -/
def State.tick (s : State) (ns : Nat) : State := { s with env.now := s.env.now + ns }

/-- Draws a free value: a value the spec leaves open (log entry 3). -/
def State.fresh (s : State) : Nat × State :=
  (Config.freeNat s.env.free, { s with env.free := s.env.free + 1 })

/-! ### Which unit a number names -/

/-- The pier of a port (R11, R14). -/
def pierOf (p : Nat) : Nat := p / 16
/-- The span of a port (R11). -/
def spanOf (p : Nat) : Nat := p / 4

/-- The number of instances of a register. -/
def Reg.count (r : Reg) : Nat := r.place.dims.foldl (fun n d => n * d.1) 1

/-- The power domain of the counter block `b` (Table REC-4). -/
def blockDomain (b : Nat) : Option Nat :=
  if b < 32 then some (32 + b / 4)
  else if b < 40 then some (32 + (b - 32))
  else if b < 104 then some (48 + (b - 40) / 8)
  else if b < 120 then some (56 + (b - 104))
  else if b < 128 then some (72 + (b - 120))
  else none

/-- The power domain that holds a register instance, none for the keeper (Table REG-2, R67, R149, R247, R301, R369). -/
def Reg.domain (r : Reg) (i : Nat) : Option Nat :=
  match r with
  | .SPN_LANE | .SPN_COEF => some (i / 9)
  | .SPN_PSTAT => some (32 + i / 16)
  | .SPN_CTL | .SPN_CLKMODE | .SPN_EQCTL | .SPN_CALCTL | .SPN_CALSTAT | .SPN_PMCTL | .SPN_FLCTL | .SPN_FLLDT
  | .SPN_FLTHR | .SPN_FLSTAT | .SPN_FLSEQ | .SPN_FLSEQRX | .SPN_FLCNT => some (32 + i / 4)
  | .SPN_FLVC => some (32 + i / 32)
  | .ENG_CTL | .ENG_STAT | .ENG_TRAP | .ENG_TRAPPC | .ENG_WDOG => some (48 + i / 8)
  | .PIR_DKCTL | .PIR_DKSTAT | .PIR_PMAP | .PIR_BUFCFG | .PIR_BUFSTAT | .PIR_BUFEXP | .PIR_BUFTHR | .PIR_BUFOCC
  | .PIR_CLSMAP | .PIR_SCHCTL | .PIR_EPLOG | .PIR_EPCFG | .PIR_EPCNT | .PIR_EXPMON | .PIR_QCFG | .PIR_QRATE
  | .PIR_QTOK | .PIR_TSCFG | .PIR_TSRATE | .PIR_TSTOK | .PIR_FROUTE | .PIR_FBCTL | .PIR_FBPORT | .PIR_PFCNT
  | .PIR_CLOSE | .PIR_CPLTRK | .PIR_ERRCNT | .PIR_ERRCNT2 | .PIR_ERRTHR | .PIR_DUTY =>
      some (32 + i / (r.count / 8))
  | .DCK_CTL | .DCK_STAT | .DCK_ERR | .DCK_THR => some (56 + i)
  | .CSN_PSPILL => some (32 + i)
  | .CSN_CHSTAT | .CSN_CHERR | .CSN_CHTHR => some (72 + i)
  | .GTE_WBASE | .GTE_WLIMIT => if i / 8 < 128 then some (32 + i / 128) else none
  | .GTE_WATTR => if i / 4 < 128 then some (32 + i / 64) else none
  | .TNT_PORTDEF => some (32 + i / 16)
  | .TNT_ENTCTL | .TNT_ENTRID => some (32 + i / 256)
  | .TNT_ENTPASID => some (32 + i / 512)
  | .GTE_LOGSTAT => if i < 8 then some (32 + i) else none
  | .GTE_LOGE => if i / 128 < 8 then some (32 + i / 128) else none
  | .PMC_BCTL | .PMC_BSTAT | .PMC_SOVF => blockDomain i
  | .PMC_CYC | .PMC_SCYC => blockDomain (i / 2)
  | .PMC_CNT | .PMC_SCNT => blockDomain (i / 16)
  | .PMC_EVT => blockDomain (i / 8)
  | _ => none

/-- The clock island of a domain (Table ARCH-5), 25 for the keeper. A span PHY's registers lie in its pier's island. -/
def islandOf : Option Nat → Nat
  | none => 25
  | some d =>
    if d < 32 then d / 4
    else if d < 40 then d - 32
    else if d < 48 then d - 40
    else if d < 56 then 9 + (d - 48)
    else if d < 72 then 8
    else 17 + (d - 72)

/-- Domain states (Table MODE-9): the coding of PWD_STAT.STATE. -/
def domState (s : State) (d : Nat) : Nat := s.f F.PWD_STAT_STATE d

/-- Stops the clock that a domain provides (R29): of its pier, cluster or channel, and of the deck when no plane domain is up. -/
def stopClock (d : Nat) (s : State) : State :=
  let own := (32 ≤ d && d < 40) || (48 ≤ d && d < 56) || 72 ≤ d
  let deck := 56 ≤ d && d < 72 && (List.range 16).all (fun m => domState s (56 + m) < 2 || domState s (56 + m) == 6)
  if own || deck then
    (s.setf F.CLK_ISLSTAT_RUN (islandOf (some d)) 0).setf F.CLK_ISLSTAT_LOCK (islandOf (some d)) 0
  else s

/-- Moves a domain to a state of Table MODE-9; the clock of one that is off or FAILED does not run (R29). -/
def setDom (d st : Nat) (s : State) : State :=
  let s := s.setf F.PWD_STAT_STATE d st
  if st = 0 ∨ st = 6 then stopClock d s else s

/-- A span's PHY, pier core and buffer bank all run: its ports can carry traffic. -/
def domOn (s : State) (d : Nat) : Bool := domState s d == 4

/-! ### Journal and record FIFOs -/

/-- The origin of what the keeper does itself (IFACE 6). -/
def JOrg.keeper : JOrg := ⟨6, 0, none, 0, 0, 0, 0⟩

/-- The origin fields of an access (Table JNL-1). -/
def Origin.jorg : Origin → JOrg
  | .bar0 vs p rid u => ⟨1, p, none, 0, vs, rid, u⟩
  | .sideband => ⟨2, 0, none, 0, 0, 0, 0⟩
  | .debug => ⟨3, 0, none, 0, 0, 0, 0⟩
  | .engine g d => ⟨4, 0, some g, d, 0, 0, 0⟩
  | .mctp vs p rid u => ⟨5, p, none, 0, vs, rid, u⟩
  | .keeper => JOrg.keeper

/-- The journal FIFO of an island has room (32 entries, R330). -/
def jRoom (s : State) (isl : Nat) : Bool := (SMap.get [] s.jrn.fifo isl).length < 32

/-- Puts an entry into an island's journal FIFO (R330). -/
def jPush (isl : Nat) (e : JReq) (s : State) : State :=
  { s with jrn.fifo := SMap.put [] s.jrn.fifo isl (SMap.get [] s.jrn.fifo isl ++ [e]) }

/-- The class of a cause code: 0 Corrected, 1 Contained, 2 Port-fatal, 3 Device-fatal (Table CONT-3). -/
def causeClass (c : Nat) : Nat :=
  if c < 0x10 then 0 else if c < 0x20 then 1 else if c < 0x30 then 2 else 3

/-- A time stamp: device time, and whether the keeper reads it on the ring oscillator (R30). -/
def State.stamp (s : State) : Nat × Bool := (s.env.now, s.b F.CLK_OSC_SRC 0)

/-- Puts an error record into the FIFO of the island where it arose: 64 entries, of which eight are kept for Port-fatal and
Device-fatal records; a Contained or Corrected record that finds no room is dropped and counted in EVDROP of the source
pier, that of a cluster being its own (R258). `vs` is the virtual switch that a refusal of a gate affects. -/
def pushRecVs (vs : Option Nat) (isl cause unit : Nat) (s : State) : State :=
  let q := SMap.get [] s.err.fifo isl
  if causeClass cause < 2 && q.length ≥ 56 then
    if isl < 8 then s.satf F.PIR_ERRCNT2_EVDROP isl 1
    else if 9 ≤ isl && isl < 17 then s.satf F.PIR_ERRCNT2_EVDROP (isl - 9) 1
    else s
  else { s with err.fifo := SMap.put [] s.err.fifo isl (q ++ [⟨cause, unit, s.stamp.1, s.stamp.2, vs⟩]) }

/-- Puts an error record that names its virtual switch by its unit. -/
def pushRec (isl cause unit : Nat) (s : State) : State := pushRecVs none isl cause unit s

/-! ### Ports -/

/-- The port record. -/
def State.port (s : State) (p : Nat) : Port := SMap.get Port.init s.ports.port p
/-- The state with a port record changed. -/
def State.setPort (s : State) (p : Nat) (x : Port) : State :=
  { s with ports.port := SMap.put Port.init s.ports.port p x }

/-- The form of a span (Table ARCH-3). -/
def form (s : State) (sp : Nat) : Nat := s.f F.GLB_SPANFORM_FORM sp
/-- The port exists in the applied image (R18). -/
def portExists (s : State) (p : Nat) : Bool := s.bitf F.GLB_SPANFORM_PRESENT (p / 4) (p % 4)
/-- The port is an upstream port. -/
def isUpstream (s : State) (p : Nat) : Bool := s.bitf F.GLB_SPANFORM_UPSTREAM (p / 4) (p % 4)
/-- The port runs Floing. -/
def isFloing (s : State) (p : Nat) : Bool := portExists s p && (form s (p / 4) == 5 || form s (p / 4) == 6)
/-- The spans whose lanes a port uses: both of a pair for a x16 form. -/
def spansOf (s : State) (p : Nat) : List Nat :=
  if form s (p / 4) == 4 || form s (p / 4) == 6 then [p / 4, p / 4 + 1] else [p / 4]
/-- The governing span of the Floing port on a span (R96). -/
def govSpan (s : State) (sp : Nat) : Nat := if form s sp == 6 then sp - sp % 2 else sp
/-- The port of the Floing link governed by a span. -/
def flPort (g : Nat) : Nat := 4 * g

/-- LTSSM code (Table SPAN-5). -/
def ltssm (s : State) (p : Nat) : Nat := s.f F.SPN_PSTAT_LTSSM p
/-- The link is up. -/
def linkUp (s : State) (p : Nat) : Bool := s.b F.SPN_PSTAT_LINKUP p

/-- The state machine of Table SPAN-4, read from LTSSM and PMSTATE. -/
inductive LinkSt where
  | off | training | active | recovery | lowpower | closed
  deriving DecidableEq, Repr

/-- The state of a PCI Express port (Table SPAN-4). -/
def linkSt (s : State) (p : Nat) : LinkSt :=
  let c := ltssm s p
  if c = 0x30 then .off else if c = 0x34 then .closed
  else if c = 0x10 ∨ c = 0x14 then .recovery
  else if c = 0x18 ∨ c = 0x1C then .lowpower
  else if c = 0x0C then (if s.f F.SPN_PSTAT_PMSTATE p = 0 then .active else .lowpower)
  else .training

/-- The service class of a traffic class (R150): 0 Express, 1 Priority, 2 Bulk, 3 Scavenger. -/
def classOf (s : State) (tc : Nat) : Nat := ((s.rd .PIR_CLSMAP 0).toNat >>> (4 * tc)) % 4
/-- The SPILL attribute of a traffic class (R151). -/
def spillAttr (s : State) (tc : Nat) : Bool := (s.rd .PIR_CLSMAP 0).toNat.testBit (4 * tc + 2)

/-- Quarantine (R275). -/
def inQuar (s : State) : Bool := s.b F.GLB_QSTAT_QUAR 0

/-! ### Views: read-only fields that show what other state holds -/

/-- JNL_STAT.PENDING kept in step. -/
def refreshPending (s : State) : State := s.setf F.JNL_STAT_PENDING 0 s.jrn.cmds.length

/-- Lines of a record with N snapshot words (R346). -/
def recLines (n : Nat) : Nat := (10 + n + 7) / 8

/-- The MRAM ring holds a record. -/
def inMram (s : State) (x : RRec) : Bool := s.rcd.mring.any (fun y => y.seq == x.seq && y.pcycle == x.pcycle)

/-- The keeper-ring records that no flush has copied yet, oldest first (R355). -/
def unflushed (s : State) : List RRec := s.rcd.kring.filter (fun x => !inMram s x)

/-- REC_STAT.UNFLUSHED kept in step. -/
def refreshUnflushed (s : State) : State :=
  s.setf F.REC_STAT_UNFLUSHED 0 (((unflushed s).map (fun x => recLines x.snap.length)).sum)

/-- The number whose bit `m` says whether `p m` holds, for `m` below `n`. -/
def bitsWhere (n : Nat) (p : Nat → Bool) : Nat := ((List.range n).map (fun m => if p m then 2 ^ m else 0)).sum

/-- GLB_PLANES as the planes' states make it (Table DECK-7). -/
def viewPlanes (s : State) : State :=
  let live := bitsWhere 16 (fun m => s.f F.DCK_STAT_STATE m == 0)
  let failed := bitsWhere 16 (fun m => s.f F.DCK_STAT_STATE m == 3)
  (s.setf F.GLB_PLANES_LIVE 0 live).setf F.GLB_PLANES_FAILED 0 failed

/-- CSN_STAT.CH_LIVE and CH_FAILED as the channels' states make them (Table CSN-6). -/
def viewChans (s : State) : State :=
  let live := bitsWhere 8 (fun c => s.f F.CSN_CHSTAT_STATE c == 0)
  let failed := bitsWhere 8 (fun c => s.f F.CSN_CHSTAT_STATE c == 1)
  (s.setf F.CSN_STAT_CH_LIVE 0 live).setf F.CSN_STAT_CH_FAILED 0 failed

/-- JNL_HEAD as the numbering makes it (R342). -/
def viewHead (s : State) : State := s.wr64 .JNL_HEAD 0 (s.jrn.next - 1)

/-- The views at the end of a command. -/
def settle (s : State) : State := viewChans (viewPlanes (refreshUnflushed (viewHead (refreshPending s))))

/-- The end of every command: the views agree with what they show, and the queue of waiting commands is as it was. -/
def finish (q : List Instr) (s : State) : State := { settle s with pending := q }

/-- The module runs with the keeper alive: with the keeper stopped (R391) no command but keeper power-up has an effect. -/
def live (s : State) (f : State → State) : Out :=
  if s.env.keeperOn then .next (finish s.pending (f s)) else .next s

end Sys2Proof.Machine
end

