-- ==== Sys2Proof/Machine/Classes.lean ====
section
/-! DEFINITION. Service classes (R150 to R169): token buckets, buffer accounts (R121 to R125), egress queues, the scheduler
and its link credits. -/

namespace Sys2Proof.Machine

/-! ### Token buckets (R156, R157) -/

/-- A bucket as it stands at device time `now`: it gains `rate` units per ns up to `burst` (R156). -/
def Bucket.settle (b : Bucket) (rate burst : Nat) (now epoch : Nat) : Bucket :=
  ⟨min (burst : Int) (b.tok + (rate * (now - max b.at_ epoch) : Nat)), now⟩

/-- The time from which the unlisted buckets of a port's pier gain. -/
def bucketFrom (s : State) (n : Nat) : Nat := SMap.get 0 s.env.bucketEpoch n

/-- The buckets of every pier gain from now. -/
def bucketsFrom (s : State) : SMap Nat := (List.range 8).foldl (fun m n => SMap.put 0 m n s.env.now) []

/-- Units of a byte (see `Bucket`). -/
abbrev unit : Nat := 8000

/-- A burst field in units: (BURST + 1) × 256 bytes. -/
def burstUnits (field : Nat) : Nat := (field + 1) * 256 * unit

/-- The negotiated data rate of a port in Mbit/s (Tables SPAN-1 and FLO-1, scaled to the negotiated width). -/
def portMbit (s : State) (p : Nat) : Nat :=
  let r := s.f F.SPN_PSTAT_RATE p
  let w := s.f F.SPN_PSTAT_WIDTH p
  if r = 0 ∨ w = 0 then 0 else 1000 * 2 ^ r * 2 ^ (w - 1)

/-- The shaper of TC queue `t` of port `p`, settled (R155). -/
def qBucket (s : State) (p t : Nat) : Bucket :=
  (SMap.get Bucket.init s.ports.qbkt (8 * p + t)).settle (max 1 (s.f F.PIR_QRATE_RATE (8 * p + t)))
    (burstUnits (s.f F.PIR_QCFG_BURST (8 * p + t))) s.env.now (bucketFrom s (pierOf p))

/-- The shaper of tenant `u` in pier `n`, settled (R158). -/
def tBucket (s : State) (n u : Nat) : Bucket :=
  (SMap.get Bucket.init s.ports.tbkt (512 * n + u)).settle (max 1 (s.f F.PIR_TSRATE_RATE (512 * n + u)))
    (burstUnits (s.f F.PIR_TSCFG_BURST (512 * n + u))) s.env.now (bucketFrom s n)

/-- The express policer's rate in Mbit/s (R161). -/
def policerRate (s : State) (p : Nat) : Nat :=
  let r := s.f F.PIR_EPCFG_RATE p
  if s.b F.PIR_EPCFG_MODE p then max 1 r else max 1 (min 1000 r) * portMbit s p / 1000

/-- The express policer of port `p`, settled (R161). -/
def eBucket (s : State) (p : Nat) : Bucket :=
  (SMap.get Bucket.init s.ports.ebkt p).settle (policerRate s p) (burstUnits (s.f F.PIR_EPCFG_BURST p))
    s.env.now (bucketFrom s (pierOf p))

/-- The brace limiter of port `p`, settled: BRACE_FRAC ÷ 256 of the negotiated rate, burst 4 KiB (R160), all in 1/256 of a unit so
that no part of the rate is lost. -/
def bBucket (s : State) (p : Nat) : Bucket :=
  (SMap.get Bucket.init s.ports.bbkt p).settle
    (max 1 (s.f F.PIR_SCHCTL_BRACE_FRAC (pierOf p)) * portMbit s p) (4096 * unit * 256) s.env.now (bucketFrom s (pierOf p))

/-- A charge of `n` bytes (R156). -/
def Bucket.charge (b : Bucket) (n : Nat) : Bucket := ⟨b.tok - (n * unit : Nat), b.at_⟩

/-- Tokens in bytes, two's complement, as PIR_QTOK and PIR_TSTOK show them. -/
def Bucket.tokens (b : Bucket) : Word := BitVec.ofInt 32 (b.tok / (unit : Int))

/-- A bucket set by RESET_TO: 0 or the whole burst (R157). -/
def Bucket.resetTo (full : Bool) (burst now : Nat) : Bucket := ⟨if full then (burst : Int) else 0, now⟩

/-- The shaper of a TC queue set by its RESET_TO (R157). -/
def resetQBucket (p t : Nat) (s : State) : State :=
  let b := Bucket.resetTo (s.b F.PIR_QCFG_RESET_TO (8 * p + t)) (burstUnits (s.f F.PIR_QCFG_BURST (8 * p + t))) s.env.now
  { s with ports.qbkt := SMap.put Bucket.init s.ports.qbkt (8 * p + t) b }

/-- A tenant shaper set by its RESET_TO (R157). -/
def resetTBucket (n u : Nat) (s : State) : State :=
  let b := Bucket.resetTo (s.b F.PIR_TSCFG_RESET_TO (512 * n + u)) (burstUnits (s.f F.PIR_TSCFG_BURST (512 * n + u)))
    s.env.now
  { s with ports.tbkt := SMap.put Bucket.init s.ports.tbkt (512 * n + u) b }

/-- The express policer filled (R161). -/
def fillPolicer (p : Nat) (s : State) : State :=
  let b := Bucket.resetTo true (burstUnits (s.f F.PIR_EPCFG_BURST p)) s.env.now
  { s with ports.ebkt := SMap.put Bucket.init s.ports.ebkt p b }

/-- The brace limiter of a port brought up to the present, before its rate changes. -/
def settleBrace (p : Nat) (s : State) : State :=
  { s with ports.bbkt := SMap.put Bucket.init s.ports.bbkt p (bBucket s p) }

/-- The negotiated width and rate of a port are set; the express policer is filled (R161). -/
def setRate (p width rate : Nat) (s : State) : State :=
  let s := settleBrace p s
  let s := (s.setf F.SPN_PSTAT_WIDTH p width).setf F.SPN_PSTAT_L0PWIDTH p width
  fillPolicer p (s.setf F.SPN_PSTAT_RATE p rate)

/-- The brace limiter at 0 tokens on every port (R160). -/
def emptyBraceLimiters (s : State) : State :=
  let m := (List.range 128).foldl (fun m p => SMap.put Bucket.init m p ⟨0, s.env.now⟩) s.ports.bbkt
  { s with ports.bbkt := m }

/-! ### Buffer accounts (R121 to R125) -/

/-- The cells, and so the slots, of a TLP: ⌈(16 + H + D + V) ÷ 128⌉ (R98). -/
def cellsOf (t : Tlp) (mc : Bool) : Nat := (16 + t.size + (if mc then 32 else 0) + 127) / 128

/-- Cells of a carried TLP. -/
def Carried.cells (c : Carried) : Nat := cellsOf c.tlp (!c.mc.isEmpty)

/-- Index of an account in PIR_BUFTHR and PIR_BUFOCC: `d` 0 ingress, 1 egress. -/
def acct (p c d : Nat) : Nat := 8 * p + 2 * c + d

/-- An RX_ALLOC value as it acts: below 80 it acts as 80 (R79). -/
def allocActs (a : Nat) : Nat := max 80 a

/-- The units of all receive allocations of the Floing port governed by a span, as taken at its last entry to ACTIVE (R79). -/
def allocUnits (s : State) (g : Nat) : Nat :=
  let taken := (SMap.get FlLink.init s.fl.link g).rxAlloc
  ((List.range 8).map (fun v => allocActs (taken.getD v (s.f F.SPN_FLVC_RX_ALLOC (8 * g + v))))).sum

/-- The Floing ports of a pier, by governing span. -/
def floingSpans (s : State) (n : Nat) : List Nat :=
  (List.range 4).map (fun j => 4 * n + j) |>.filter (fun sp => isFloing s (4 * sp))

/-- The shared pool of a pier: 196,608 slots less the Floing receive allocations and replay buffers, the express reserve and
the reserves of the non-express accounts of its ports (R121). -/
def poolSize (s : State) (n : Nat) : Int :=
  let fl := ((floingSpans s n).map (fun g => allocUnits s g / 2 + 4096)).sum
  let rsv := ((List.range 16).map (fun q =>
      if portExists s (16 * n + q) then
        ((List.range 6).map (fun k => s.f F.PIR_BUFTHR_RSV (acct (16 * n + q) 1 0 + k))).sum else 0)).sum
  (196608 : Int) - fl - s.f F.PIR_BUFCFG_EXP_RSV n - rsv

/-- Slots that the accounts of a pier and excess express completions hold in the shared pool (R123, R162). -/
def poolUsed (s : State) (n : Nat) : Nat :=
  ((List.range 16).map (fun q => ((List.range 6).map (fun k =>
      s.f F.PIR_BUFOCC_OCC (acct (16 * n + q) 1 0 + k) - s.f F.PIR_BUFTHR_RSV (acct (16 * n + q) 1 0 + k))).sum)).sum
    + (s.f F.PIR_BUFEXP_EXP_OCC n - s.f F.PIR_BUFCFG_EXP_RSV n)

/-- F, the free slots of the shared pool (R123): what PIR_BUFSTAT.SHARED_FREE reads. -/
def sharedFree (s : State) (n : Nat) : Nat := (poolSize s n - poolUsed s n).toNat

/-- The admission rule of R123 for `k` slots in account (p, c, d), with `spare` further slots to spare (R135): they come off the free
count before either case is judged (DESIGN CHOICE, log entry 80). -/
def admits (s : State) (p c d k spare : Nat) : Bool :=
  let n := pierOf p
  if c = 0 then s.f F.PIR_BUFEXP_EXP_OCC n + k + spare ≤ s.f F.PIR_BUFCFG_EXP_RSV n
  else
    let a := acct p c d
    let o := s.f F.PIR_BUFOCC_OCC a
    let rsv := s.f F.PIR_BUFTHR_RSV a
    let free := sharedFree s n - spare
    (o + k ≤ rsv && spare ≤ sharedFree s n) ||
      (spare ≤ sharedFree s n && free ≥ k && (o + k - rsv) * 16 ≤ 2 ^ (s.f F.PIR_BUFTHR_ALPHA a) * free)

/-- Charges `k` slots to an account (R122). -/
def charge (p c d k : Nat) (s : State) : State :=
  let s := s.setf F.PIR_BUFOCC_OCC (acct p c d) (s.f F.PIR_BUFOCC_OCC (acct p c d) + k)
  if c = 0 then s.setf F.PIR_BUFEXP_EXP_OCC (pierOf p) (s.f F.PIR_BUFEXP_EXP_OCC (pierOf p) + k) else s

/-- Releases `k` slots of an account. -/
def release (p c d k : Nat) (s : State) : State :=
  let s := s.subf F.PIR_BUFOCC_OCC (acct p c d) k
  if c = 0 then s.subf F.PIR_BUFEXP_EXP_OCC (pierOf p) k else s

/-! ### Egress queues (R153) -/

/-- A TC queue. -/
def egressQ (s : State) (p t : Nat) : List QEnt := SMap.get [] s.ports.q (8 * p + t)
/-- The state with a TC queue replaced. -/
def setEgressQ (p t : Nat) (q : List QEnt) (s : State) : State :=
  { s with ports.q := SMap.put [] s.ports.q (8 * p + t) q }

/-- Every egress queue of a port is empty. -/
def egressEmpty (s : State) (p : Nat) : Bool := (List.range 8).all (fun t => (egressQ s p t).isEmpty)

/-- The express bytes queued at a port. -/
def expressBytes (s : State) (p : Nat) : Nat :=
  ((List.range 8).map (fun t => if classOf s t = 0 then ((egressQ s p t).map (fun e => e.c.tlp.size)).sum else 0)).sum

/-- What is left of the express TLP in transmission at a port, in units (condition 6 of R164): of a PCI Express port what its link has
not yet carried since the TLP started, of a Floing port what its express packets in progress still have to send. -/
def expressSending (s : State) (p : Nat) : Nat :=
  if isFloing s p then
    (((SMap.get FlLink.init s.fl.link (p / 4)).prog.filter (fun (y : Prog) => y.vc < 2)).map (fun y => y.left)).sum * unit
  else (s.port p).txBytes * unit - (s.env.now - (s.port p).txAt) * portMbit s p

/-- Key of a copy in flight: its source and destination piers and its HANDLE. -/
def inflKey (src dst h : Nat) : Nat := (src * 8 + dst) * 2 ^ 18 + h
/-- Key of a multicast store: its pier and the HANDLE of its copies. -/
def storeKey (src h : Nat) : Nat := src * 2 ^ 18 + h

/-- One count of a multicast store goes down; at 0 its slots are freed (R115). -/
def mcDec (src root : Nat) (c : Carried) (s : State) : State :=
  let k := storeKey src root
  let n := SMap.get 0 s.deck.mcRef k
  let s := { s with deck.mcRef := SMap.put 0 s.deck.mcRef k (n - 1) }
  if n = 1 then release c.inP (classOf s c.tlp.tc) 0 c.cells s else s

/-- A carried TLP is another copy of the same stored multicast TLP. -/
def sameStore (c d : Carried) : Bool := d.inP == c.inP && d.root == c.root && d.mc == c.mc

/-- No other copy of a multicast TLP is stored in the egress pier of `c`. -/
def lastCopy (s : State) (c : Carried) : Bool :=
  !(s.ports.q.any (fun (e : Nat × List QEnt) =>
      pierOf (e.1 / 8) == pierOf c.outP && e.2.any (fun (x : QEnt) => sameStore c x.c))) &&
  !(s.deck.stored.any (fun (e : Nat × List Stored) =>
      pierOf (e.1 / 8 % 128) == pierOf c.outP && e.2.any (fun (x : Stored) => sameStore c x.c)))

/-- Releases the egress slots of a TLP that leaves the queues of its port. A multicast copy is stored once in its pier, charged to
its lowest-numbered target port there (R122); a local target only holds a count of the ingress pier's store (R115). -/
def releaseEgress (c : Carried) (s : State) : State :=
  if c.mc.isEmpty then release c.outP (classOf s c.tlp.tc) 1 c.cells s
  else if pierOf c.inP = pierOf c.outP then mcDec (pierOf c.inP) c.root c s
  else if lastCopy s c then
    release ((c.mc.filter (fun q => pierOf q == pierOf c.outP)).headD c.outP) (classOf s c.tlp.tc) 1 c.cells s
  else s

/-- A posted request lost on the fabric at a port is counted in LOST_P and reported Contained (R208, R210, R216). -/
def lostPosted (p : Nat) (s : State) : State := pushRec (pierOf p) 0x15 p (s.satf F.PIR_FBPORT_LOST_P p 1)

/-- A TLP for a port whose link is down is not queued: it is discarded, a posted request counted in DROP_P (R262), and in LOST_P
where it came or would leave over the fabric (R216). Requests towards the lost link were completed when it was lost. -/
def dropAtEgress (c : Carried) (s : State) : State :=
  let s := releaseEgress c s
  if !c.tlp.posted then s else
  let s := s.satf F.PIR_CPLTRK_DROP_P c.outP 1
  if isFloing s c.inP || isFloing s c.outP then lostPosted c.outP s else s

/-- A TLP enters the queue of its TC (R153). An express TLP that finds more than 8 ns of express ahead is counted in AHEAD
(R168); a port narrowed by L0p asks for full width (R59). -/
def enqueueEgress (c : Carried) (s : State) : State :=
  let p := c.outP
  let t := c.tlp.tc.val
  if !linkUp s p then dropAtEgress c s else
  let s := if classOf s t = 0 && expressBytes s p * unit + expressSending s p > 8 * portMbit s p
    then s.satf F.PIR_EXPMON_AHEAD p 1 else s
  let s := if s.f F.SPN_PSTAT_PMSTATE p = 1 || ltssm s p = 0x18 then s.setPort p { s.port p with wantFull := true } else s
  let s := setEgressQ p t (egressQ s p t ++ [⟨c, s.ports.order, false⟩]) s
  { s with ports.order := s.ports.order + 1 }

/-! ### Link credits of a PCI Express port (R153) -/

/-- Data credits of a TLP: 16-byte units. -/
def dataUnits (t : Tlp) : Nat := (t.data.length + 15) / 16

/-- Enough credit of one kind. -/
def credOk (c : Option Nat) (n : Nat) : Bool := match c with | none => true | some k => n ≤ k
/-- Credit spent. -/
def credSub (c : Option Nat) (n : Nat) : Option Nat := c.map (· - n)
/-- Credit returned. -/
def credAdd (c : Option Nat) (n : Nat) : Option Nat := c.map (· + n)

/-- The partner's credit covers a TLP. -/
def Credits.covers (c : Credits) (t : Tlp) : Bool :=
  if t.posted then credOk c.ph 1 && credOk c.pd (dataUnits t)
  else if t.isCpl then credOk c.ch 1 && credOk c.cd (dataUnits t)
  else credOk c.nh 1 && credOk c.nd (dataUnits t)

/-- The credit of a TLP spent. -/
def Credits.spend (c : Credits) (t : Tlp) : Credits :=
  if t.posted then { c with ph := credSub c.ph 1, pd := credSub c.pd (dataUnits t) }
  else if t.isCpl then { c with ch := credSub c.ch 1, cd := credSub c.cd (dataUnits t) }
  else { c with nh := credSub c.nh 1, nd := credSub c.nd (dataUnits t) }

/-- A later TLP may pass an earlier one under the ordering rules of PCI Express (log entry 8): posted requests and
completions pass non-posted requests, requests pass completions, completions of different requests pass each other, and
only a TLP with Relaxed Ordering, or one with ID-Based Ordering and another Requester ID, passes a posted request. -/
def mayPass (later earlier : Tlp) : Bool :=
  if earlier.posted then later.ro || (later.ido && later.rid != earlier.rid)
  else if earlier.isCpl then !later.isCpl || later.rid != earlier.rid || later.tag != earlier.tag
  else later.posted || later.isCpl

/-- The first TLP of a queue that has credit and may pass every TLP before it: candidate(q) of R155, with its index. -/
def candidateFrom (cr : Credits) : List QEnt → List QEnt → Nat → Option (Nat × QEnt)
  | _, [], _ => none
  | before, e :: rest, i =>
    if cr.covers e.c.tlp && before.all (fun b => mayPass e.c.tlp b.c.tlp) then some (i, e)
    else candidateFrom cr (before ++ [e]) rest (i + 1)

/-- candidate(q) of a PCI Express port. -/
def candidate (s : State) (p t : Nat) : Option (Nat × QEnt) :=
  candidateFrom (s.port p).cred [] (egressQ s p t) 0

/-- The brace limiter acts on this queue: brace throttle or the power limit runs (R160, R409). -/
def limited (s : State) (t : Nat) : Bool := (s.ports.brace || s.ports.power) && classOf s t ≥ 2

/-- A non-express queue is eligible (R155), given its candidate. -/
def eligible (s : State) (p t : Nat) : Bool :=
  (!s.b F.PIR_QCFG_SHAPE_EN (8 * p + t) || (qBucket s p t).tok ≥ 0) && (!limited s t || (bBucket s p).tok ≥ 0)

/-- QUANTUM in bytes: units of 64, below 4 acts as 4, above 1,024 as 1,024 (Table CLS-11). -/
def quantum (s : State) (p t : Nat) : Nat := 64 * min 1024 (max 4 (s.f F.PIR_QCFG_QUANTUM (8 * p + t)))

/-- The next non-express TC after `t`, wrapping from 7 to 0. -/
def nextTc (s : State) (t : Nat) : Nat :=
  ((List.range 8).map (fun k => (t + 1 + k) % 8)).find? (fun u => classOf s u != 0) |>.getD t

/-- The deficit-weighted round robin of R155: up to `n` visits; `cand` gives candidate(q) and its size. -/
def drr (s : State) (p : Nat) (cand : Nat → Option (Nat × QEnt)) : Nat → State × Option (Nat × Nat × QEnt)
  | 0 => (s, none)
  | n + 1 =>
    let pt := s.port p
    let t := if classOf s pt.ptr = 0 then nextTc s pt.ptr else pt.ptr
    let go (s : State) (fresh : Bool) (ptr : Nat) : State := s.setPort p { s.port p with ptr := ptr, fresh := fresh }
    let def_ := SMap.get 0 s.ports.deficit (8 * p + t)
    let setDef (s : State) (v : Nat) : State := { s with ports.deficit := SMap.put 0 s.ports.deficit (8 * p + t) v }
    if (egressQ s p t).isEmpty then drr (go (setDef s 0) true (nextTc s t)) p cand n
    else match (if eligible s p t then cand t else none) with
      | none => drr (go s true (nextTc s t)) p cand n
      | some (i, e) =>
        let d := if pt.fresh then def_ + quantum s p t else def_
        if d ≥ e.c.tlp.size then (go (setDef s (d - e.c.tlp.size)) false t, some (t, i, e))
        else drr (go (setDef s d) true (nextTc s t)) p cand n

/-- The earliest express TLP with credit across the express queues (R154). -/
def expressPick (s : State) (cand : Nat → Option (Nat × QEnt)) : Option (Nat × Nat × QEnt) :=
  (List.range 8).foldl (fun best t =>
    if classOf s t != 0 then best else
    match cand t, best with
    | some (i, e), none => some (t, i, e)
    | some (i, e), some (bt, bi, be) => if e.at_ < be.at_ then some (t, i, e) else some (bt, bi, be)
    | none, b => b) none

/-- The choice of R154: express first, then the round robin in nine visits. -/
def choose (s : State) (p : Nat) (cand : Nat → Option (Nat × QEnt)) : State × Option (Nat × Nat × QEnt) :=
  match expressPick s cand with
  | some x => (s, some x)
  | none => drr s p cand 9

/-- The head of the express order of a port: the express TLP that entered its queue earliest (R154), with its TC. -/
def expressHead (s : State) (p : Nat) : Option (Nat × QEnt) :=
  (List.range 8).foldl (fun best t =>
    if classOf s t != 0 then best else
    match (egressQ s p t).head?, best with
    | some e, none => some (t, e)
    | some e, some (bt, be) => if e.at_ < be.at_ then some (t, e) else some (bt, be)
    | none, b => b) none

/-- Counts once the TLP at the head of the express order that waits for link credit (NOCREDIT, R168). -/
def countNoCredit (p : Nat) (short : QEnt → Bool) (s : State) : State :=
  match expressHead s p with
  | some (t, e) =>
    if short e && !e.waited then
      (setEgressQ p t ({ e with waited := true } :: (egressQ s p t).drop 1) s).satf F.PIR_EXPMON_NOCREDIT p 1
    else s
  | none => s

/-- Charges of a TLP that starts on the link: its shaper and the brace limiter (R156), for non-express queues. -/
def chargeEgress (p t n : Nat) (s : State) : State :=
  if classOf s t = 0 then s else
  let s := if s.b F.PIR_QCFG_SHAPE_EN (8 * p + t) then
      { s with ports.qbkt := SMap.put Bucket.init s.ports.qbkt (8 * p + t) ((qBucket s p t).charge n) } else s
  if limited s t then { s with ports.bbkt := SMap.put Bucket.init s.ports.bbkt p ((bBucket s p).charge (256 * n)) } else s

end Sys2Proof.Machine
end

