-- ==== Sys2Proof/Machine/Codes.lean ====
section
/-! DEFINITION. The code of the data path (R248): a Reed–Solomon code over GF(2^8) with field polynomial x^8 + x^4 + x^3 + x^2 + 1,
whose generator has the roots α^0, α^1 and α^2. A symbol's position is its degree, the check symbols being degrees 0 to 2 and the
first data byte the highest (DESIGN CHOICE, log entry 77). -/

namespace Sys2Proof.Machine

/-- Multiplication by α. -/
def gfTwice (a : Nat) : Nat := if a < 128 then 2 * a else (2 * a) ^^^ 0x11D
/-- Multiplication in GF(2^8), `n` bits of the first factor. -/
def gfMulN : Nat → Nat → Nat → Nat
  | 0, _, _ => 0
  | n + 1, a, b => (if a % 2 = 1 then b else 0) ^^^ gfMulN n (a / 2) (gfTwice b)
/-- Multiplication in GF(2^8). -/
def gfMul (a b : Nat) : Nat := gfMulN 8 a b
/-- α to a power. -/
def gfPow : Nat → Nat
  | 0 => 1
  | n + 1 => gfTwice (gfPow n)

/-- One step of the division by the generator x^3 + 7x^2 + 14x + 8. -/
def rsShift (c : Nat × Nat × Nat) (d : Byte) : Nat × Nat × Nat :=
  let f := c.1 ^^^ d.toNat
  (c.2.1 ^^^ gfMul f 7, c.2.2 ^^^ gfMul f 14, gfMul f 8)

/-- The three check symbols of a word. -/
def wordCheck (w : List Byte) : List Byte :=
  let c := w.foldl rsShift (0, 0, 0)
  [BitVec.ofNat 8 c.1, BitVec.ofNat 8 c.2.1, BitVec.ofNat 8 c.2.2]

/-- What a decoder finds in a word of `len` symbols. -/
inductive WordOutcome where
  | good | corrected | uncorrectable
  deriving DecidableEq, Repr

/-- The syndrome of an error pattern at one root, α to the `j`: (degree, value) pairs. -/
def syndrome (j : Nat) (errs : List (Nat × Nat)) : Nat :=
  errs.foldl (fun a e => a ^^^ gfMul e.2 (gfPow (j * e.1))) 0

/-- The outcome of an error pattern: the code is linear, so it does not depend on the word. One wrong symbol is corrected, two are
detected; three or more are not covered and give what the decoder makes of them. -/
def decodeWord (len : Nat) (errs : List (Nat × Nat)) : WordOutcome :=
  let s0 := syndrome 0 errs
  let s1 := syndrome 1 errs
  let s2 := syndrome 2 errs
  if s0 = 0 && s1 = 0 && s2 = 0 then .good
  else if (List.range len).any (fun i => gfMul s0 (gfPow i) == s1 && gfMul s1 (gfPow i) == s2) && s0 != 0 then .corrected
  else .uncorrectable

end Sys2Proof.Machine
end

