-- ==== Sys2Proof/Machine/Crypto.lean ====
section
/-! DEFINITION. The algorithms that Table SCOPE-5 names: SHA-384 (FIPS 180-4), and ECDSA (FIPS 186-5) on brainpoolP384r1
(RFC 5639). Every function runs; byte strings are in the order of those standards. -/

namespace Sys2Proof.Machine

/-- A byte string as a number, the first byte the highest. -/
def beNum (l : List Byte) : Nat := l.foldl (fun n b => 256 * n + b.toNat) 0

/-- The bytes of a number, lowest first. -/
def leBytes (n k : Nat) : List Byte := (List.range k).map (fun i => BitVec.ofNat 8 (n / 256 ^ i))
/-- The number of a byte list, lowest byte first. -/
def leNum (l : List Byte) : Nat := l.foldr (fun b n => b.toNat + 256 * n) 0

/-- The `n` bytes of a number, the highest first. -/
def beBytes (v : Nat) : Nat → List Byte
  | 0 => []
  | n + 1 => BitVec.ofNat 8 (v / 256 ^ n) :: beBytes v n

/-! ### SHA-384 (FIPS 180-4, sections 4 to 6) -/

/-- The greatest `x` built on `acc` in the `b` bits below it with `x ^ k ≤ n`. -/
def rootBelow (k n : Nat) : Nat → Nat → Nat
  | 0, acc => acc
  | b + 1, acc => rootBelow k n b (if (acc + 2 ^ b) ^ k ≤ n then acc + 2 ^ b else acc)

/-- The first 64 bits of the fraction of the `k`-th root of `p`, for a root below 32. -/
def rootFraction (k p : Nat) : Nat := rootBelow k (p * 2 ^ (64 * k)) 69 0 % 2 ^ 64

/-- The primes below 410, which are the first 80. -/
def shaPrimes : List Nat := (List.range 410).filter (fun n => 2 ≤ n && (List.range 21).all (fun d => d < 2 || n ≤ d || n % d != 0))

/-- The round constants: cube roots of the first 80 primes (section 4.2.3). -/
def shaRounds : List Nat := shaPrimes.map (rootFraction 3)

/-- The initial hash value: square roots of the ninth to sixteenth prime (section 5.3.4). -/
def shaStart : List Nat := ((shaPrimes.drop 8).take 8).map (rootFraction 2)

/-- A 64-bit word rotated right. -/
def rotR (n x : Nat) : Nat := x >>> n ||| x <<< (64 - n) % 2 ^ 64

/-- The message padded to whole blocks: a 1 bit, zeros, and its length in bits as 128 bits (section 5.1.2). -/
def shaPad (m : List Byte) : List Byte :=
  m ++ [0x80] ++ List.replicate ((239 - m.length % 128) % 128) 0 ++ beBytes (8 * m.length) 16

/-- The 64-bit words of a block. -/
def shaWords : Nat → List Byte → List Nat
  | 0, _ => []
  | n + 1, b => beNum (b.take 8) :: shaWords n (b.drop 8)

/-- The message schedule, newest word first, extended by `n` words (section 6.2.2 with section 4.1.3). -/
def shaExpand : Nat → List Nat → List Nat
  | 0, w => w
  | n + 1, w =>
    let x := w.getD 14 0
    let y := w.getD 1 0
    let s0 := rotR 1 x ^^^ rotR 8 x ^^^ x >>> 7
    let s1 := rotR 19 y ^^^ rotR 61 y ^^^ y >>> 6
    shaExpand n ((s1 + w.getD 6 0 + s0 + w.getD 15 0) % 2 ^ 64 :: w)

/-- The working variables of a block. -/
structure ShaVars where
  a : Nat
  b : Nat
  c : Nat
  d : Nat
  e : Nat
  f : Nat
  g : Nat
  h : Nat
  deriving DecidableEq, Repr

/-- One round with its constant and word. -/
def shaRound (v : ShaVars) (k w : Nat) : ShaVars :=
  let ch := v.e &&& v.f ^^^ (v.e ^^^ (2 ^ 64 - 1)) &&& v.g
  let maj := v.a &&& v.b ^^^ v.a &&& v.c ^^^ v.b &&& v.c
  let t1 := v.h + (rotR 14 v.e ^^^ rotR 18 v.e ^^^ rotR 41 v.e) + ch + k + w
  let t2 := (rotR 28 v.a ^^^ rotR 34 v.a ^^^ rotR 39 v.a) + maj
  ⟨(t1 + t2) % 2 ^ 64, v.a, v.b, v.c, (v.d + t1) % 2 ^ 64, v.e, v.f, v.g⟩

/-- The rounds of a block, one for each constant and word. -/
def shaRun : List Nat → List Nat → ShaVars → ShaVars
  | k :: ks, w :: ws, v => shaRun ks ws (shaRound v k w)
  | _, _, v => v

/-- A block joined to the hash value. -/
def shaBlock (h : List Nat) (b : List Byte) : List Nat :=
  let at_ (i : Nat) : Nat := h.getD i 0
  let w := (shaExpand 64 (shaWords 16 b).reverse).reverse
  let v := shaRun shaRounds w ⟨at_ 0, at_ 1, at_ 2, at_ 3, at_ 4, at_ 5, at_ 6, at_ 7⟩
  List.zipWith (fun x y => (x + y) % 2 ^ 64) h [v.a, v.b, v.c, v.d, v.e, v.f, v.g, v.h]

/-- The hash value after `n` blocks of a padded message. -/
def shaBlocks : Nat → List Byte → List Nat → List Nat
  | 0, _, h => h
  | n + 1, m, h => shaBlocks n (m.drop 128) (shaBlock h (m.take 128))

/-- The SHA-384 of a byte string: 48 bytes. -/
def sha384 (m : List Byte) : List Byte :=
  let p := shaPad m
  ((shaBlocks (p.length / 128) p shaStart).take 6).flatMap (fun w => beBytes w 8)

/-! ### brainpoolP384r1 (RFC 5639, section 3.6) -/

/-- The prime of the field. -/
def ecP : Nat := 0x8CB91E82A3386D280F5D6F7E50E641DF152F7109ED5456B412B1DA197FB71123ACD3A729901D1A71874700133107EC53
/-- Coefficient A of the curve. -/
def ecA : Nat := 0x7BC382C63D8C150C3C72080ACE05AFA0C2BEA28E4FB22787139165EFBA91F90F8AA5814A503AD4EB04A8C7DD22CE2826
/-- Coefficient B. -/
def ecB : Nat := 0x04A8C7DD22CE28268B39B55416F0447C2FB77DE107DCD2A62E880EA53EEB62D57CB4390295DBC9943AB78696FA504C11
/-- The order of the base point, a prime; the cofactor is 1. -/
def ecQ : Nat := 0x8CB91E82A3386D280F5D6F7E50E641DF152F7109ED5456B31F166E6CAC0425A7CF3AB6AF6B7FC3103B883202E9046565

/-- A point (x / z², y / z³) of the curve; z = 0 is the point at infinity. -/
structure EcPoint where
  x : Nat
  y : Nat
  z : Nat
  deriving DecidableEq, Repr

/-- The base point. -/
def ecG : EcPoint where
  x := 0x1D1C64F068CF45FFA2A63A81B7C13F6B8847A3E77EF14FE3DB7FCAFE0CBD10E8E826E03436D646AAEF87B2E247D4AF1E
  y := 0x8ABE1D7520F9C2A45CB1EB8E95CFD55262B70B29FEEC5864E19C054FF99129280E4646217791811142820341263C5315
  z := 1

/-- The point at infinity. -/
def ecZero : EcPoint := ⟨1, 1, 0⟩

/-- A product in the field. -/
def fMul (a b : Nat) : Nat := a * b % ecP
/-- A difference in the field, of elements below the prime. -/
def fSub (a b : Nat) : Nat := (a + ecP - b) % ecP

/-- A point twice. -/
def ecDouble (u : EcPoint) : EcPoint :=
  if u.z = 0 then ecZero else
  let yy := fMul u.y u.y
  let s := fMul 4 (fMul u.x yy)
  let zz := fMul u.z u.z
  let m := (3 * (u.x * u.x) + ecA * fMul zz zz) % ecP
  let x := fSub (fMul m m) (fMul 2 s)
  ⟨x, fSub (fMul m (fSub s x)) (fMul 8 (fMul yy yy)), fMul 2 (fMul u.y u.z)⟩

/-- The sum of two points. -/
def ecAdd (u v : EcPoint) : EcPoint :=
  if u.z = 0 then v else if v.z = 0 then u else
  let uz := fMul u.z u.z
  let vz := fMul v.z v.z
  let x1 := fMul u.x vz
  let x2 := fMul v.x uz
  let y1 := fMul u.y (fMul vz v.z)
  let y2 := fMul v.y (fMul uz u.z)
  if x1 = x2 then (if y1 = y2 then ecDouble u else ecZero) else
  let h := fSub x2 x1
  let r := fSub y2 y1
  let hh := fMul h h
  let c := fMul h hh
  let w := fMul x1 hh
  let x := fSub (fSub (fMul r r) c) (fMul 2 w)
  ⟨x, fSub (fMul r (fSub w x)) (fMul y1 c), fMul h (fMul u.z v.z)⟩

/-- `a · u + b · v` by the `n` lowest bits of the factors, on top of `acc`. -/
def ecCombine (a b : Nat) (u v : EcPoint) : Nat → EcPoint → EcPoint
  | 0, acc => acc
  | n + 1, acc =>
    let d := ecDouble acc
    let d := if a.testBit n then ecAdd d u else d
    ecCombine a b u v n (if b.testBit n then ecAdd d v else d)

/-- `x ^ e` modulo `m`, by the `n` lowest bits of `e`, on top of `acc`. -/
def powMod (x e m : Nat) : Nat → Nat → Nat
  | 0, acc => acc
  | n + 1, acc => powMod x e m n (if e.testBit n then acc * acc % m * x % m else acc * acc % m)

/-- The inverse modulo a prime below 2³⁸⁴. -/
def invMod (x m : Nat) : Nat := powMod x (m - 2) m 384 1

/-- The affine x coordinate of a point that is not at infinity. -/
def ecX (u : EcPoint) : Nat := fMul u.x (invMod (fMul u.z u.z) ecP)
/-- The affine y coordinate. -/
def ecY (u : EcPoint) : Nat := fMul u.y (invMod (fMul u.z (fMul u.z u.z)) ecP)

/-- The uncompressed form of a point: 0x04, X, Y (Table IMG-2). -/
def ecBytes (u : EcPoint) : List Byte := 0x04 :: (beBytes (ecX u) 48 ++ beBytes (ecY u) 48)

/-- The point that 97 bytes give, if they give a point of the curve. -/
def ecPoint (l : List Byte) : Option EcPoint :=
  let x := beNum ((l.drop 1).take 48)
  let y := beNum ((l.drop 49).take 48)
  if l.length = 97 && l.head? == some 0x04 && x < ecP && y < ecP && y * y % ecP == (x * x * x + ecA * x + ecB) % ecP then
    some ⟨x, y, 1⟩
  else none

/-! ### ECDSA (FIPS 186-5, section 6) -/

/-- The signature r, s verifies over the SHA-384 of a message under a public key. -/
def ecdsaVerify (pub msg sig : List Byte) : Bool :=
  let r := beNum (sig.take 48)
  let s := beNum ((sig.drop 48).take 48)
  match ecPoint pub with
  | none => false
  | some k =>
    let w := invMod s ecQ
    let x := ecCombine (beNum (sha384 msg) * w % ecQ) (r * w % ecQ) ecG k 384 ecZero
    sig.length == 96 && 1 ≤ r && r < ecQ && 1 ≤ s && s < ecQ && x.z != 0 && ecX x % ecQ == r

/-- The signature over the SHA-384 of a message with a private key `d` and the per-message number `k`. -/
def ecdsaSign (d k : Nat) (msg : List Byte) : List Byte :=
  let r := ecX (ecCombine k 0 ecG ecZero 384 ecZero) % ecQ
  let s := invMod k ecQ * (beNum (sha384 msg) + r * d) % ecQ
  beBytes r 48 ++ beBytes s 48

/-- The public key of a private key. -/
def ecPublic (d : Nat) : List Byte := ecBytes (ecCombine d 0 ecG ecZero 384 ecZero)

end Sys2Proof.Machine
end

