-- ==== Sys2Proof/Machine/Wire.lean ====
section
/-! DEFINITION. The bytes of the Floing link (R69 to R71, R74, R209): the fabric header and packet, the flit with its link header,
payload descriptor, footway slot, CRC and FEC, and what a receiver reads from 256 bytes. The spec names no polynomial, so the
CRC-64 and the Reed–Solomon check symbols are free functions of the bytes they cover; the header of a TLP in Flit Mode form is
that of the PCI Express standard (log entry 72). -/

namespace Sys2Proof.Machine

/-! ### Fabric packets (R209, Table BRG-1) -/

/-- X: 8 bytes of module mask in a multicast packet. -/
def maskLen (h : FabHdr) : Nat := if h.kind = 3 then 8 else 0
/-- Control packets carry their own bytes and no TLP. -/
def isCtl (h : FabHdr) : Bool := h.kind == 4 || h.kind == 5

/-- H + D of a packet: LEN. -/
def pktLen (x : FabPkt) : Nat := if isCtl x.h then x.h.ctl.length else x.tlp.size
/-- The length of a fabric packet: 16 + X + H + D. -/
def pktSize (x : FabPkt) : Nat := 16 + maskLen x.h + pktLen x
/-- Credit units of a packet. -/
def pktUnits (x : FabPkt) : Nat := (pktSize x + 63) / 64

/-- The bytes of a fabric header, with the module mask of a multicast packet behind it, lowest module first. -/
def hdrBytes (x : FabPkt) : List Byte :=
  let h := x.h
  let b (n : Nat) : Byte := BitVec.ofNat 8 n
  [b (h.kind.val * 32 + h.hops.val * 4 + (if x.tlp.ep then 2 else 0)), b (h.cls.val * 64 + x.tlp.tc.val * 8), b h.dstMod.val,
    b h.srcMod.val, b h.dstPort.val, b h.srcPort.val, b h.vs.val, 0, b (h.ftag.val % 256), b (h.ftag.val / 256),
    b (pktLen x % 256), b (pktLen x / 256), b (h.tenant.val % 256), b (h.tenant.val / 256),
    b (if isCtl h then 0 else x.tlp.hdr / 4), 0]
  ++ (List.range (maskLen h)).map (fun i => BitVec.ofNat 8 (h.mask.toNat / 256 ^ i))

/-- The bytes of a TLP: its header in Flit Mode form, its payload and its digest. -/
def tlpBytes (t : Tlp) : List Byte :=
  (List.range t.hdr).map (Config.tlpHeader t) ++ t.data ++ (List.range t.digest).map (Config.tlpDigest t)

/-- The bytes of a packet: its header, then the TLP's header, payload and digest, or the bytes of a control packet. -/
def pktBytes (x : FabPkt) : List Byte :=
  hdrBytes x ++ (if isCtl x.h then x.h.ctl else tlpBytes x.tlp)

/-- A byte of a list as a number. -/
def byteAt (l : List Byte) (i : Nat) : Nat := (l.getD i 0).toNat

/-- LEN of the fabric header that a list of bytes begins with. -/
def lenOf (l : List Byte) : Nat := byteAt l 10 + 256 * (byteAt l 11 % 32)
/-- The length of the packet whose first bytes are given. -/
def sizeOf (l : List Byte) : Nat := 16 + (if byteAt l 0 / 32 = 3 then 8 else 0) + lenOf l

/-- The fabric header of a packet's bytes; reserved bits are ignored. -/
def readHdr (l : List Byte) : FabHdr :=
  let kind := byteAt l 0 / 32
  { kind := Fin.ofNat 8 kind, hops := Fin.ofNat 8 (byteAt l 0 / 4), cls := Fin.ofNat 4 (byteAt l 1 / 64),
    dstMod := Fin.ofNat 64 (byteAt l 2), srcMod := Fin.ofNat 64 (byteAt l 3), dstPort := Fin.ofNat 128 (byteAt l 4),
    srcPort := Fin.ofNat 128 (byteAt l 5), vs := Fin.ofNat 64 (byteAt l 6),
    ftag := Fin.ofNat 16384 (byteAt l 8 + 256 * byteAt l 9), tenant := Fin.ofNat 512 (byteAt l 12 + 256 * byteAt l 13),
    mask := if kind = 3 then BitVec.ofNat 64 (((List.range 8).map (fun i => byteAt l (16 + i) * 256 ^ i)).sum) else 0,
    ctl := if kind = 4 ∨ kind = 5 then l.drop 16 else [] }

/-- The packet of a list of bytes, whole: its header, and the TLP that its other bytes spell in the standard's form, of the sizes
that HLEN and LEN give, with TC and POISON from the header. Bytes that are no whole packet give none (log entry 72). -/
def readPkt (l : List Byte) (tlp : Option Tlp) : Option FabPkt :=
  let h := readHdr l
  if l.length != sizeOf l then none
  else if isCtl h then
    some ⟨h, { kind := .msg, tc := Fin.ofNat 8 (byteAt l 1 / 8), addr := 0, len := 0, data := [], hdr := 0, digest := 0, rid := 0,
               tag := 0, bdf := 0, cid := 0, status := 0, bcount := 0, laddr := 0, code := 0, route := 0, pasid := none, at_ := 0,
               ep := byteAt l 0 / 2 % 2 = 1, ro := false, ido := false }⟩
  else match tlp with
    | some t =>
      if t.hdr = 4 * (byteAt l 14 % 32) && t.size = lenOf l then
        some ⟨h, { t with tc := Fin.ofNat 8 (byteAt l 1 / 8), ep := byteAt l 0 / 2 % 2 = 1 }⟩
      else none
    | none => none

/-! ### Flits (Tables FLO-2 to FLO-4) -/

/-- The link header, 48 bits big-endian (Table FLO-3). -/
def linkHeader (x : Flit) : Nat :=
  let bit (b : Bool) (k : Nat) : Nat := if b then 2 ^ k else 0
  x.seq.val * 2 ^ 36 + x.ack.val * 2 ^ 24 + bit x.null 23 + bit x.nak 22 + bit x.fw.isSome 21 + bit x.cr.isSome 20 +
    (match x.cr with | some (v, n) => v.val * 2 ^ 17 + n.val * 2 ^ 5 | none => 0)

/-- The payload descriptor (Table FLO-4), big-endian like the link header (DESIGN CHOICE, log entry 72). -/
def descriptor (d : FlitData) : Nat :=
  d.vc.val * 2 ^ 29 + 2 ^ 28 + (if d.sop then 2 ^ 27 else 0) + (if d.eop then 2 ^ 26 else 0) + d.bytes.length * 2 ^ 18

/-- The 32 bytes of a footway message (R74): TYPE, ID, two reserved bytes and the arguments, whose layout the spec gives for ENGINE
alone. -/
def fwBytes (m : FwMsg) : List Byte :=
  [BitVec.ofNat 8 m.ty, BitVec.ofNat 8 m.id, 0, 0] ++
    (List.range 28).map (fun i => if m.ty = 0x40 then m.bytes.getD i 0 else Config.footwayArg m i)

/-- Bytes 0 to 241 of a flit. -/
def flitBody (x : Flit) : List Byte :=
  let d := match x.data with | some d => d.bytes | none => []
  let head := beBytes (linkHeader x) 6 ++ beBytes (match x.data with | some d => descriptor d | none => 0) 4 ++
    (match x.fw with | some m => fwBytes m | none => []) ++ d
  head ++ List.replicate (242 - head.length) 0

/-- The codeword of one parity: 125 symbols at bytes 0 to 249. -/
def codeData (odd : Nat) (l : List Byte) : List Byte := (List.range 125).map (fun i => l.getD (2 * i + odd) 0)
/-- Its three check symbols at bytes 250 to 255. -/
def codeCheck (odd : Nat) (l : List Byte) : List Byte := (List.range 3).map (fun i => l.getD (250 + 2 * i + odd) 0)
/-- The check symbols that the data of a codeword calls for. -/
def rsOf (w : List Byte) : List Byte := (List.range 3).map (Config.rsSymbol w)
/-- The CRC-64 over bytes 0 to 241, as the bytes 242 to 249. -/
def crcOf (body : List Byte) : List Byte := (List.range 8).map (Config.crcByte body)

/-- The 256 bytes of a flit: body, CRC, and the two codewords' check symbols in turn. -/
def wireOf (body : List Byte) : List Byte :=
  let w := body ++ crcOf body
  let e := rsOf (codeData 0 w)
  let o := rsOf (codeData 1 w)
  w ++ (List.range 6).map (fun i => if i % 2 = 0 then e.getD (i / 2) 0 else o.getD (i / 2) 0)

/-- A codeword of 128 symbols: what it decodes to, and which symbol was wrong; none where more than one symbol is wrong. -/
def rsFix (data check : List Byte) : Option (List Byte × Option Nat) :=
  if rsOf data = check then some (data, none) else
  let w := data ++ check
  (List.range 128).findSome? (fun i => (List.range 256).findSome? (fun v =>
    let w' := w.set i (BitVec.ofNat 8 v)
    if rsOf (w'.take 125) = w'.drop 125 then some (w'.take 125, some i) else none))

/-- A received flit corrected by its FEC and checked by its CRC (R69): bytes 0 to 241, and the positions of the symbols that were
wrong. A bad flit gives none. -/
def fixFlit (raw : List Byte) : Option (List Byte × List Nat) :=
  match rsFix (codeData 0 raw) (codeCheck 0 raw), rsFix (codeData 1 raw) (codeCheck 1 raw) with
  | some (e, i), some (o, j) =>
    let w := (List.range 250).map (fun k => if k % 2 = 0 then e.getD (k / 2) 0 else o.getD (k / 2) 0)
    if crcOf (w.take 242) = w.drop 242 then
      some (w.take 242, (i.toList.map (2 * ·)) ++ (j.toList.map (fun k => 2 * k + 1))) else none
  | _, _ => none

/-- The fields of a good flit's bytes (Tables FLO-3 and FLO-4, R74); `args` is what the argument bytes of its footway message
spell. -/
def readFlit (b : List Byte) (args : FwMsg) : Flit :=
  let n := beNum (b.take 6)
  let d := beNum ((b.drop 6).take 4)
  let fw := n.testBit 21
  let msg : FwMsg := { args with ty := byteAt b 10, id := byteAt b 11, bytes := if byteAt b 10 = 0x40 then (b.drop 14).take 28 else [] }
  { seq := Fin.ofNat 4096 (n / 2 ^ 36), ack := Fin.ofNat 4096 (n / 2 ^ 24), null := n.testBit 23, nak := n.testBit 22,
    cr := if n.testBit 20 then some (Fin.ofNat 8 (n / 2 ^ 17), Fin.ofNat 4096 (n / 2 ^ 5)) else none,
    fw := if fw then some msg else none,
    data := if d.testBit 28 && !n.testBit 23 then
        some ⟨Fin.ofNat 8 (d / 2 ^ 29), d.testBit 27, d.testBit 26, ((b.drop (if fw then 42 else 10)).take (d / 2 ^ 18 % 256))⟩
      else none }

end Sys2Proof.Machine
end

