-- ==== Sys2Proof/Machine/Deck.lean ====
section
/-! DEFINITION. The deck (R97 to R120): cells and their queues, the plane hash, matching, the sequence check, release order,
resends, plane states. -/

namespace Sys2Proof.Machine

/-! ### Keys -/

/-- A base flow: (ingress port, egress port, traffic class). -/
def flowId (i e t : Nat) : Nat := (i * 128 + e) * 8 + t
/-- The base flow of a carried TLP. -/
def Carried.flow (c : Carried) : Nat := flowId c.inP c.outP c.tlp.tc
/-- Key of a cell queue. -/
def cellKey (src plane dst cls : Nat) : Nat := ((src * 16 + plane) * 8 + dst) * 4 + cls
/-- Key of a (source, plane, destination). -/
def progKey (src plane dst : Nat) : Nat := (src * 16 + plane) * 8 + dst

/-! ### Planes -/

/-- Plane states (Table DECK-17). -/
def planeSt (s : State) (m : Nat) : Nat := s.f F.DCK_STAT_STATE m
/-- Plane `m` is LIVE. -/
def planeLive (s : State) (m : Nat) : Bool := s.bitf F.GLB_PLANES_LIVE 0 m
/-- Every LIVE plane, ascending. -/
def livePlanes (s : State) : List Nat := (List.range 16).filter (planeLive s)
/-- The live planes after `m` in ascending cyclic order. -/
def liveAfter (s : State) (m : Nat) : List Nat :=
  ((List.range 15).map (fun k => (m + 1 + k) % 16)).filter (planeLive s)

/-- A plane's state, with GLB_PLANES kept in step (R117). -/
def setPlane (m st : Nat) (s : State) : State :=
  let s := s.setf F.DCK_STAT_STATE m st
  let s := s.setBitf F.GLB_PLANES_LIVE 0 m (st == 0)
  s.setBitf F.GLB_PLANES_FAILED 0 m (st == 3)

/-- Entry `h` of a pier's plane map (R105). -/
def pmapEntry (s : State) (n h : Nat) : Nat := ((s.rd .PIR_PMAP (8 * n + h / 8)).toNat >>> (4 * (h % 8))) % 16
/-- A pier's plane map with an entry replaced. -/
def setPmapEntry (n h m : Nat) (s : State) : State :=
  let w := s.rd .PIR_PMAP (8 * n + h / 8)
  s.wr .PIR_PMAP (8 * n + h / 8) (Fld.set ⟨.PIR_PMAP, 4 * (h % 8) + 3, 4 * (h % 8)⟩ w m)

/-- The flow hash of R105. -/
def planeHash (c : Carried) : Nat :=
  let relaxed := (c.tlp.ro || c.tlp.ido) && c.mc.isEmpty
  let e := if c.mc.isEmpty then c.outP else 64 + c.grp
  let k := c.tlp.tc.val + c.inP * 8 + e * 1024 + (if relaxed then 2 ^ 17 + (c.tlp.rid % 2 ^ 16) * 2 ^ 18 else 0)
  (k % 64) ^^^ (k / 2 ^ 6 % 64) ^^^ (k / 2 ^ 12 % 64) ^^^ (k / 2 ^ 18 % 64) ^^^ (k / 2 ^ 24 % 64) ^^^ (k / 2 ^ 30 % 64)

/-- The home plane of a TLP in its ingress pier (R105). -/
def homePlane (s : State) (c : Carried) : Nat := pmapEntry s (pierOf c.inP) (planeHash c)

/-- The planes a TLP's cells use: an express TLP the stripe of R103 (its home plane and the next two live planes) while
STRIPE_EN is 1, every other TLP its home plane. -/
def planesFor (s : State) (c : Carried) : List Nat :=
  let h := homePlane s c
  if classOf s c.tlp.tc = 0 && s.b F.PIR_DKCTL_STRIPE_EN (pierOf c.inP) then (h :: liveAfter s h).take 3 else [h]

/-! ### Sending -/

/-- Ports in ascending order, each once. -/
def sortPorts (l : List Nat) : List Nat := (List.range 128).filter (fun p => l.contains p)

/-- A copy in flight. -/
def inflight (s : State) (src dst h : Nat) : Option InFlight := SMap.find? s.deck.infl (inflKey src dst h)
/-- The state with a copy in flight recorded. -/
def setInfl (src h : Nat) (x : InFlight) (s : State) : State :=
  { s with deck.infl := SMap.ins s.deck.infl (inflKey src x.dst h) x }

/-- The plane that carries cell `i` of a copy (R103). With fewer than three live planes the stripe is shorter, and the cells take its
planes in turn (DESIGN CHOICE, log entry 78). -/
def InFlight.place (x : InFlight) (i : Nat) : Nat := x.planes.getD (i % max 1 x.planes.length) 0
/-- The planes that carry cells of a copy. -/
def InFlight.used (x : InFlight) : List Nat := ((List.range x.cells).map x.place).eraseDups
/-- The port whose egress account holds a copy: its lowest-numbered target port (R122). -/
def InFlight.acct (x : InFlight) : Nat := (x.seqs.headD (x.c.outP, 0)).1

/-! ### The bytes of a copy (R97, R98) -/

/-- The deck header of Table DECK-1. The conversions of R98 to Flit Mode form and back change no field of a TLP here. -/
def deckHeader (s : State) (h : Nat) (x : InFlight) : List Byte :=
  let b (n : Nat) : Byte := BitVec.ofNat 8 n
  let bit (p : Bool) (n : Nat) : Nat := if p then n else 0
  let t := x.c.tlp
  let mc := !x.c.mc.isEmpty
  let seq := if mc then 0 else (x.seqs.headD (0, 0)).2
  let len := if x.void then 0 else t.size
  let map := if mc then (x.seqs.map (fun q => 2 ^ (q.1 % 16))).sum else 0
  [b (seq % 256), b (seq / 256), b (bit mc 128 + x.c.inP), b (if mc then x.c.grp else x.c.outP),
    b (bit t.ep 128 + bit t.ido 64 + bit t.ro 32 + classOf s t.tc * 8 + t.tc.val), b (bit x.void 64 + x.cells),
    b (len % 256), b (len / 256), b (x.c.tenant % 256), b (x.c.tenant / 256), b (map % 256), b (map / 256),
    b (h % 256), b (h / 2 ^ 8), b (h / 2 ^ 16), 0]

/-- The sequence vector of a multicast copy: SEQ of pier-local port q in entry q, little-endian like SEQ (R116). -/
def seqVector (x : InFlight) : List Byte :=
  (List.range 16).flatMap (fun q => leBytes (((x.seqs.find? (fun e => e.1 % 16 == q)).map (·.2)).getD 0) 2)

/-- The bytes of a copy: deck header, sequence vector, TLP, and zeros to the end of its last cell; a void carries no TLP. -/
def copyBytes (s : State) (h : Nat) (x : InFlight) : List Byte :=
  let l := deckHeader s h x ++ (if x.c.mc.isEmpty then [] else seqVector x) ++ (if x.void then [] else tlpBytes x.c.tlp)
  l ++ List.replicate (128 * x.cells - l.length) 0

/-- The four words of cell `i`, each with its check symbols (R97, R248). -/
def cellWords (l : List Byte) (i : Nat) : List (List Byte) :=
  (List.range 4).map (fun k =>
    let w := (l.drop (128 * i + 32 * k)).take 32
    w ++ wordCheck w)

/-- The cell control word (Table DECK-2). -/
def controlWord (src dst cls : Nat) (c : Cell) : Word :=
  let bit (p : Bool) (k : Nat) : Nat := if p then 2 ^ k else 0
  let top := src * 2 ^ 29 + dst * 2 ^ 26 + bit (cls == 0) 25 + bit (c.index == 0) 24 + bit (c.index + 1 == c.total) 23
    + c.index * 2 ^ 17 + c.stag * 2 ^ 9
  BitVec.ofNat 32 (top + (Config.cellCheck (BitVec.ofNat 25 (top / 2 ^ 7))).toNat)

/-- What a receiver makes of a word of a cell: a data word by R248, the control word by SEC-DED. -/
def hitOutcome (x : CellHit) : WordOutcome :=
  if x.word.val < 4 then decodeWord 35 (x.errs.map (fun e => (e.1.val, e.2.toNat)))
  else match (x.errs.filter (fun e => e.2 != 0)).length with
    | 0 => .good
    | 1 => .corrected
    | _ => .uncorrectable

/-! ### Cell queues -/

/-- Puts the cells of a copy into their queues, all in one cell time; a resent copy goes ahead of every cell not yet sent (R103,
R108). -/
def queueCells (src h : Nat) (x : InFlight) (front : Bool) (s : State) : State :=
  let cls := classOf s x.c.tlp.tc
  let cell (i : Nat) : Cell := ⟨h, i, x.cells, x.stag, s.deck.ctime, none⟩
  forEach x.used (fun m s =>
    let new := ((List.range x.cells).filter (fun i => x.place i == m)).map cell
    let k := cellKey src m x.dst cls
    let q := SMap.get [] s.deck.cells k
    { s with deck.cells := SMap.put [] s.deck.cells k (if front then new ++ q else q ++ new) }) s

/-- Takes the unsent cells of a copy out of every queue, and ends its turn as the TLP in progress of a plane. -/
def dropCells (src dst h : Nat) (s : State) : State :=
  let cells := (s.deck.cells.map (fun (e : Nat × List Cell) =>
      if e.1 / 512 = src && e.1 / 4 % 8 = dst then (e.1, e.2.filter (fun c => c.handle != h)) else e)).filter
        (fun e => !e.2.isEmpty)
  let prog := s.deck.prog.filter (fun e => !(e.1 / 128 == src && e.1 % 8 == dst && e.2 == h))
  { s with deck.cells := cells, deck.prog := prog }

/-- The cells of a copy that have come are discarded, and the egress slots reserved for it are given back. -/
def dropReasm (src h : Nat) (x : InFlight) (s : State) : State :=
  let k := inflKey src x.dst h
  let had := (SMap.get Reasm.init s.deck.got k).cells.any (fun a => a.index == 0)
  let s := { s with deck.got := SMap.del s.deck.got k }
  if had then release x.acct (classOf s x.c.tlp.tc) 1 x.cells s else s

/-- The TLPs of a flow not yet acknowledged. -/
def outstanding (s : State) (f : Nat) : Nat :=
  (s.deck.infl.filter (fun e => e.2.seqs.any (fun q => flowId e.2.c.inP q.1 e.2.c.tlp.tc == f))).length

/-- The next unused stripe tag of a pier, 1 to 255 in ascending cyclic order (R104). -/
def freeStag (s : State) (src : Nat) : Option Nat :=
  let n := SMap.get 0 s.deck.stagNext src
  ((List.range 255).map (fun k => (n + k) % 255 + 1)).find? (fun g => !(SMap.get [] s.deck.stags src).contains g)

/-- The remote targets of a carried TLP: its port, or the targets of a multicast TLP in other piers. -/
def Carried.targets (c : Carried) : List Nat :=
  if c.mc.isEmpty then [c.outP] else c.mc.filter (fun q => pierOf q != pierOf c.inP)

/-- The piers that receive a copy. -/
def Carried.dsts (c : Carried) : List Nat := (c.targets.map pierOf).eraseDups

/-- The next free slot of a pier, which a TLP takes for its first cell: its HANDLE (R98). Which free slot that is, the spec leaves
open; slots are taken in ascending cyclic order (DESIGN CHOICE, log entry 79). -/
def freshHandle (s : State) (src : Nat) : Nat :=
  let used := (s.deck.infl.filterMap (fun e => if e.1 / 2 ^ 21 = src then some (e.1 % 2 ^ 18) else none))
    ++ (s.deck.mcRef.filterMap (fun e => if e.1 / 2 ^ 18 = src then some (e.1 % 2 ^ 18) else none))
  let last := SMap.get 0 s.deck.handle src
  (((List.range (used.length + 1)).map (fun k => (last + 1 + k) % 196608)).find? (fun h => !used.contains h)).getD 0

/-- Whether a TLP can be queued for the deck now: none of its flows is stopped (R113), the window of 4,096 of each has room (R107),
and an express TLP finds a stripe tag for each copy (R104). -/
def canSend (s : State) (c : Carried) : Bool :=
  !(s.deck.stopped.contains c.inP || c.targets.any (fun e => s.deck.stopped.contains e)) &&
  c.targets.all (fun e => outstanding s (flowId c.inP e c.tlp.tc) < 4096) &&
    (classOf s c.tlp.tc != 0 || (SMap.get [] s.deck.stags (pierOf c.inP)).length + c.dsts.length ≤ 255)

/-- Sends one copy towards pier `dst`: SEQ of each target flow (R107, R116), HANDLE, stripe tag and cells. The copies of a multicast
TLP share the slots of its store, and so its HANDLE. -/
def sendCopy (c : Carried) (dst : Nat) (targets : List Nat) (s : State) : State :=
  let src := pierOf c.inP
  let h := if c.mc.isEmpty then freshHandle s src else c.root
  let t := c.tlp.tc.val
  let seqs := targets.map (fun e => (e, SMap.get 0 s.deck.sf (flowId c.inP e t)))
  let sf := targets.foldl (fun m e =>
    let f := flowId c.inP e t
    SMap.put 0 m f ((SMap.get 0 m f + 1) % 65536)) s.deck.sf
  let tag := if classOf s t = 0 then (freeStag s src).getD 0 else 0
  let s := { s with deck.sf := sf, deck.handle := SMap.put 0 s.deck.handle src h, deck.born := s.deck.born + 1 }
  let s := if tag = 0 then s else
    let tags := SMap.get [] s.deck.stags src ++ [tag]
    { s with deck.stags := SMap.put [] s.deck.stags src tags, deck.stagNext := SMap.put 0 s.deck.stagNext src (tag % 255) }
  let x : InFlight := ⟨c, dst, seqs, 1, planesFor s c, tag, c.cells, false, s.deck.born⟩
  queueCells src h x false (setInfl src h x s)

/-- Sends a TLP: one copy, or at one instant a copy of a multicast TLP to each other pier that holds targets (R116). -/
def sendAll (c : Carried) (s : State) : State :=
  forEach c.dsts (fun d s =>
    sendCopy c d (c.targets.filter (fun e => pierOf e == d)) s) s

/-- Two TLPs share a base flow. -/
def sharesFlow (c d : Carried) : Bool :=
  d.inP == c.inP && d.tlp.tc == c.tlp.tc && d.targets.any (fun t => c.targets.contains t)

/-- Sends, in order, what waits and can go; a TLP of a flow that an earlier one keeps waiting in waits behind it (R107, R116).
Answers what still waits. -/
def drainList : List Carried → List Carried → State → State × List Carried
  | [], kept, s => (s, kept)
  | c :: rest, kept, s =>
    if kept.any (sharesFlow c) || !canSend s c then drainList rest (kept ++ [c]) s else drainList rest kept (sendAll c s)

/-- Sends what waits in a pier and can go. -/
def deckDrain (src : Nat) (s : State) : State :=
  let l := SMap.get [] s.deck.wait src
  let x := drainList l [] s
  { x.1 with deck.wait := SMap.put [] x.1.deck.wait src x.2 }

/-- A TLP at stage 6: it is sent, or waits behind its flows (R107). -/
def deckSend (c : Carried) (s : State) : State :=
  let src := pierOf c.inP
  deckDrain src { s with deck.wait := SMap.put [] s.deck.wait src (SMap.get [] s.deck.wait src ++ [c]) }

/-- Sends a whole copy again with its SEQ on the flow's present home plane or stripe (R108, R120). -/
def resend (src dst h : Nat) (s : State) : State :=
  match inflight s src dst h with
  | none => s
  | some x =>
    let s := dropReasm src h x (dropCells src dst h s)
    let x := { x with sends := x.sends + 1, planes := planesFor s x.c }
    queueCells src h x true ((setInfl src h x s).satf F.PIR_DKSTAT_RESENDS src 1)

/-- Abandons a TLP sent nine times: a one-cell void with its SEQ takes its place, VOIDS counts it, and a Contained record
with cause 0x12 is made (R109). A multicast store keeps its slots for its other copies. -/
def voidOut (src dst h : Nat) (s : State) : State :=
  match inflight s src dst h with
  | none => s
  | some x =>
    let s := dropReasm src h x (dropCells src dst h s)
    let s := setInfl src h { x with void := true, cells := 1, sends := 0 } s
    let s := pushRec src 0x12 x.c.inP (s.satf F.PIR_DKSTAT_VOIDS src 1)
    resend src dst h (if x.c.mc.isEmpty then release x.c.inP (classOf s x.c.tlp.tc) 0 (x.cells - 1) s else s)

/-- A copy that must be sent again: a resend, or after nine sends a void (R108, R109). -/
def resendOrVoid (src dst h : Nat) (s : State) : State :=
  match inflight s src dst h with
  | none => s
  | some x => if x.sends ≥ 9 ∧ !x.void then voidOut src dst h s else resend src dst h s

/-! ### Matching (R99 to R102) -/

/-- The TLP of a cell belongs to a flow that closure has stopped (R113). -/
def cellStopped (s : State) (src dst : Nat) (c : Cell) : Bool :=
  match inflight s src dst c.handle with
  | none => true
  | some x => s.deck.stopped.contains x.c.inP || x.seqs.any (fun q => s.deck.stopped.contains q.1)

/-- The queue of one class that can be offered. -/
def offerable (s : State) (src m dst cls : Nat) : List Cell :=
  (SMap.get [] s.deck.cells (cellKey src m dst cls)).filter (fun c => !cellStopped s src dst c)

/-- The express request of a pier for a destination on a plane. -/
def expressReq (s : State) (src m dst : Nat) : Option (Nat × Cell) :=
  (offerable s src m dst 0).head?.map (fun c => (0, c))

/-- The non-express request: the next cell of the TLP in progress, otherwise a head that has waited 256 cell times or more,
the oldest first, otherwise Priority, Bulk, Scavenger (R100). The 256 cell times count from the cell's entry into its queue (DESIGN
CHOICE, log entry 78). -/
def plainReq (s : State) (src m dst : Nat) : Option (Nat × Cell) :=
  let heads := [1, 2, 3].filterMap (fun cls => (offerable s src m dst cls).head?.map (fun c => (cls, c)))
  match SMap.find? s.deck.prog (progKey src m dst) with
  | some h =>
    ([1, 2, 3].findSome? (fun cls =>
      (offerable s src m dst cls).find? (fun c => c.handle == h) |>.map (fun c => (cls, c))))
  | none =>
    let old := heads.filter (fun e => s.deck.ctime - e.2.qAt ≥ 256)
    match old.foldl (fun (b : Option (Nat × Cell)) e =>
        match b with | none => some e | some x => if e.2.qAt < x.2.qAt then some e else b) none with
    | some e => some e
    | none => heads.head?

/-- A grant to a FIRST request is allowed only if the egress account can reserve all C slots (R101). -/
def grantOk (s : State) (src dst cls : Nat) (c : Cell) : Bool :=
  if c.index != 0 then true else
  match inflight s src dst c.handle with
  | none => false
  | some x => admits s x.acct cls 1 c.total 0

/-- The age stamp of an express cell: the cell time of its first request, or now. -/
def stamp (s : State) (c : Cell) : Nat := c.reqAt.getD s.deck.ctime

/-- Picks among (pier, cell, express?) requests: express first, the oldest stamp first, ties and non-express by the pointer
(R101). -/
def pickReq (s : State) (ep np : Nat) (l : List (Nat × Nat × Cell)) : Option (Nat × Nat × Cell) :=
  let ex := l.filter (fun e => e.2.1 == 0)
  let rank (ptr k : Nat) : Nat := (k + 8 - ptr) % 8
  let best (le : (Nat × Nat × Cell) → (Nat × Nat × Cell) → Bool) (l : List (Nat × Nat × Cell)) :=
    l.foldl (fun (b : Option (Nat × Nat × Cell)) e => match b with | none => some e | some x => if le e x then some e else b) none
  if ex.isEmpty then best (fun a b => rank np a.1 < rank np b.1) l
  else best (fun a b => stamp s a.2.2 < stamp s b.2.2 ||
      (stamp s a.2.2 == stamp s b.2.2 && rank ep a.1 < rank ep b.1)) ex

/-- One round of grant and accept on a plane (Table DECK-3): the accepted (source, destination, class, cell). -/
def matchRound (s : State) (m : Nat) (ins outs : List Nat) : List (Nat × Nat × Nat × Cell) :=
  let ptr (mp : SMap Nat) (k e : Nat) : Nat := SMap.get 0 mp ((m * 8 + k) * 2 + e)
  let grants := outs.filterMap (fun o =>
    let reqs := ins.flatMap (fun i =>
      ((expressReq s i m o).toList ++ (plainReq s i m o).toList).filterMap
        (fun e => if grantOk s i o e.1 e.2 then some (i, e.1, e.2) else none))
    (pickReq s (ptr s.deck.gptr o 0) (ptr s.deck.gptr o 1) reqs).map (fun g => (g.1, o, g.2)))
  ins.filterMap (fun i =>
    let mine := (grants.filter (fun g => g.1 == i)).map (fun g => (g.2.1, g.2.2))
    (pickReq s (ptr s.deck.aptr i 0) (ptr s.deck.aptr i 1) mine).map (fun a => (i, a.1, a.2)))

/-- Takes an accepted match: the slots are reserved on a FIRST cell, the pointers advance in round 1, the cell leaves its
queue and arrives; the TLP in progress is kept until its last cell (R99, R101). An express cell matched later than two cell times
after its first request crosses later than R102 allows (DECKLATE, R168). -/
def transfer (m : Nat) (round1 : Bool) (a : Nat × Nat × Nat × Cell) (s : State) : State :=
  let (src, dst, cls, c) := a
  let k := cellKey src m dst cls
  let q := SMap.get [] s.deck.cells k
  let e := if cls = 0 then 0 else 1
  let s := { s with deck.cells := SMap.put [] s.deck.cells k (q.erase c) }
  let s := if round1 then
      let g := SMap.put 0 s.deck.gptr ((m * 8 + dst) * 2 + e) ((src + 1) % 8)
      let x := SMap.put 0 s.deck.aptr ((m * 8 + src) * 2 + e) ((dst + 1) % 8)
      { s with deck.gptr := g, deck.aptr := x } else s
  match inflight s src dst c.handle with
  | none => s
  | some x =>
    let s := if c.index = 0 then charge x.acct cls 1 c.total s else s
    let key := inflKey src dst c.handle
    let got := SMap.get Reasm.init s.deck.got key
    let late := cls = 0 && s.deck.ctime - stamp s c > 2
    let s := if late && !got.late then s.satf F.PIR_EXPMON_DECKLATE x.acct 1 else s
    let a : Arrival := ⟨c.index, m, controlWord src dst cls c, cellWords (copyBytes s c.handle x) c.index⟩
    let s := { s with deck.got := SMap.put Reasm.init s.deck.got key ⟨got.cells ++ [a], got.late || late⟩ }
    if cls = 0 then s
    else if c.index + 1 = c.total then { s with deck.prog := SMap.del s.deck.prog (progKey src m dst) }
    else { s with deck.prog := SMap.ins s.deck.prog (progKey src m dst) c.handle }

/-- The three rounds of one plane; matched pairs transfer one cell each. The list gives each match with its round. -/
def matchPlane (m : Nat) (s : State) : State × List (Nat × Nat × Nat × Nat × Cell) :=
  let all := List.range 8
  let r1 := matchRound s m all all
  let s := forEach r1 (transfer m true) s
  let i2 := all.filter (fun i => !(r1.any (fun a => a.1 == i)))
  let o2 := all.filter (fun o => !(r1.any (fun a => a.2.1 == o)))
  let r2 := matchRound s m i2 o2
  let s := forEach r2 (transfer m false) s
  let i3 := i2.filter (fun i => !(r2.any (fun a => a.1 == i)))
  let o3 := o2.filter (fun o => !(r2.any (fun a => a.2.1 == o)))
  let r3 := matchRound s m i3 o3
  (forEach r3 (transfer m false) s,
    r1.map (fun a => (1, a)) ++ r2.map (fun a => (2, a)) ++ r3.map (fun a => (3, a)))

/-- Stamps the first cell of a queue that can be offered. -/
def stampFirst (s : State) (src dst : Nat) : List Cell → List Cell
  | [] => []
  | c :: r => if cellStopped s src dst c then c :: stampFirst s src dst r else { c with reqAt := some (stamp s c) } :: r

/-- Stamps the express cells that request now (R100). -/
def stampHeads (s : State) : State :=
  { s with deck.cells := s.deck.cells.map (fun (e : Nat × List Cell) =>
      if e.1 % 4 = 0 then (e.1, stampFirst s (e.1 / 512) (e.1 / 4 % 8) e.2) else e) }

/-- The planes that match, in the order in which their matchings of one cell time reserve egress slots: LIVE ones ascending, then
DRAINING ones for the cells they still hold (R117; the order is a DESIGN CHOICE, log entry 78). -/
def matchingPlanes (s : State) : List Nat :=
  livePlanes s ++ (List.range 16).filter (fun m => planeSt s m == 1)

/-! ### The egress pier (R108 to R111) -/

/-- An egress pier sends an answer on the control lanes of a live plane, taking the live planes in turn (R108). -/
def answer (src dst h : Nat) (ack : Bool) (s : State) : State :=
  let last := SMap.get 15 s.deck.ansPlane dst
  match ((List.range 16).map (fun k => (last + 1 + k) % 16)).find? (planeLive s) with
  | some m =>
    { s with deck.answers := s.deck.answers ++ [⟨src, dst, h, ack, m⟩], deck.ansPlane := SMap.put 15 s.deck.ansPlane dst m }
  | none => s

/-- Releases the stored TLPs of a base flow in SEQ order (R111); a void releases nothing and advances R_f. -/
def releaseFlow (f : Nat) : Nat → State → State
  | 0, s => s
  | n + 1, s =>
    let r := SMap.get 0 s.deck.rf f
    let st := SMap.get [] s.deck.stored f
    match st.find? (fun x => x.seq == r) with
    | none => s
    | some x =>
      let s := { s with deck.stored := SMap.put [] s.deck.stored f (st.erase x), deck.rf := SMap.put 0 s.deck.rf f ((r + 1) % 65536) }
      releaseFlow f n (if x.void then s else enqueueEgress x.c s)

/-- The window check of Table DECK-4 for one valid entry: 0 duplicate, 1 store, 2 outside the window. -/
def seqCheck (s : State) (f q : Nat) : Nat :=
  let d := (q + 65536 - SMap.get 0 s.deck.rf f) % 65536
  if d ≥ 32768 then 0
  else if d ≥ 4096 then 2
  else if (SMap.get [] s.deck.stored f).any (fun x => x.seq == q) then 0 else 1

/-- States of Table FLO-13. -/
def flSt (s : State) (g : Nat) : Nat := s.f F.SPN_FLSTAT_STATE g
/-- The link carries flits: ACTIVE, NARROWING or RATE_CHANGE. -/
def flUp (s : State) (g : Nat) : Bool := flSt s g == 3 || flSt s g == 4 || flSt s g == 5

/-- Entry of a pier's route table: the Floing port by which packets for a module leave, if it is valid and that port carries flits
(R205). -/
def routeOf (s : State) (n d : Nat) : Option Nat :=
  let p := s.f F.PIR_FROUTE_PORT (64 * n + d)
  if s.b F.PIR_FROUTE_VALID (64 * n + d) && isFloing s p && flUp s (p / 4) then some p else none

/-- The modules of a mask that pier `n` reaches through a port (R218). -/
def maskVia (s : State) (n p : Nat) (mask : BitVec 64) : BitVec 64 :=
  (List.range 64).foldl (fun (m : BitVec 64) d =>
    if mask.getLsbD d && routeOf s n d = some p then m ||| BitVec.ofNat 64 (2 ^ d) else m) 0

/-- The copy of a multicast TLP for one target port: on a Floing port its mask holds the modules reached through that port
(R218). -/
def copyFor (s : State) (c : Carried) (p : Nat) : Carried :=
  if c.mc.isEmpty then { c with outP := p } else
  { c with outP := p, fab := c.fab.map (fun (h : FabHdr) => { h with mask := maskVia s (pierOf c.inP) p h.mask }) }

/-- A complete copy has arrived at its egress pier (R108, R110): uncorrectable, it is discarded and answered NAK; a duplicate
is discarded and answered ACK; outside the window it is discarded with no answer and BADSEQ counts it; otherwise it is
stored, answered ACK, and every flow it completes is released. -/
def copyReceived (src dst h : Nat) (good : Bool) (s : State) : State :=
  match inflight s src dst h with
  | none => s
  | some x =>
    let s := { s with deck.got := SMap.del s.deck.got (inflKey src dst h) }
    let t := x.c.tlp.tc.val
    let cls := classOf s t
    let e0 := (x.seqs.headD (x.c.outP, 0))
    let drop (s : State) : State := release x.acct cls 1 x.cells s
    if !good then answer src dst h false (drop s) else
    match seqCheck s (flowId x.c.inP e0.1 t) e0.2 with
    | 0 => answer src dst h true (drop s)
    | 2 => (drop s).satf F.PIR_DKSTAT_BADSEQ x.dst 1
    | _ =>
      let s := forEach x.seqs (fun q s =>
        let f := flowId x.c.inP q.1 t
        if seqCheck s f q.2 = 1 then
          let c := copyFor s x.c q.1
          let st := SMap.get [] s.deck.stored f ++ [⟨q.2, c, x.void, h, src⟩]
          { s with deck.stored := SMap.put [] s.deck.stored f st }
        else s) s
      let s := if x.void then drop s else s
      forEach x.seqs (fun q s => releaseFlow (flowId x.c.inP q.1 t) 4096 s) (answer src dst h true s)

/-! ### Acknowledgement at the ingress pier -/

/-- Frees a copy: its slots, its stripe tag and its place in the window (R104, R108, R115). -/
def freeCopy (src h : Nat) (x : InFlight) (s : State) : State :=
  let s := dropReasm src h x (dropCells src x.dst h s)
  let s := { s with deck.infl := SMap.del s.deck.infl (inflKey src x.dst h) }
  let s := if x.c.mc.isEmpty then release x.c.inP (classOf s x.c.tlp.tc) 0 x.cells s else mcDec src x.c.root x.c s
  if x.stag = 0 then s else
    { s with deck.stags := SMap.put [] s.deck.stags src ((SMap.get [] s.deck.stags src).erase x.stag) }

/-- Frees a copy, after which what waits in its pier may go. -/
def freeTlp (src h : Nat) (x : InFlight) (s : State) : State := deckDrain src (freeCopy src h x s)

/-! ### Plane failure and fence (R117 to R120) -/

/-- The entries of one pier's plane map that name a plane, dealt over others in turn. -/
def remapPier (m : Nat) (live : List Nat) (n : Nat) (s : State) : State :=
  ((List.range 64).foldl (fun (a : Nat × State) h =>
    if pmapEntry a.2 n h = m ∧ live ≠ [] then
      (a.1 + 1, setPmapEntry n h (live.getD (a.1 % live.length) 0) a.2) else a) (0, s)).2

/-- Rewrites, in every pier, the entries that name a lost plane: the j-th such entry in ascending h takes the (j mod L)-th
live plane after it (R119). -/
def remapPlane (m : Nat) (s : State) : State :=
  let live := liveAfter s m
  forRange 8 (remapPier m live) s

/-- A copy in flight by its source pier, its destination pier and its HANDLE. -/
def copyId (k : Nat) : Nat × Nat × Nat := (k / 2 ^ 21, k / 2 ^ 18 % 8, k % 2 ^ 18)

/-- The copies in flight that satisfy a test, the one first sent last: in SEQ order within each base flow when each goes ahead of
those before it. -/
def newestFirst (s : State) (t : Nat → InFlight → Bool) : List Nat :=
  let add (e : Nat × Nat) (l : List (Nat × Nat)) : List (Nat × Nat) :=
    l.takeWhile (fun y => y.2 > e.2) ++ e :: l.dropWhile (fun y => y.2 > e.2)
  (((s.deck.infl.filter (fun e => t e.1 e.2)).map (fun e => (e.1, e.2.born))).foldr add []).map (·.1)

/-- Sends copies again, ahead of new cells of their flows, in SEQ order within each flow (R120). -/
def resendAll (t : Nat → InFlight → Bool) (s : State) : State :=
  forEach (newestFirst s t) (fun k s => let (src, dst, h) := copyId k; resendOrVoid src dst h s) s

/-- Copies in flight have a cell on a plane. -/
def planeBusy (s : State) (m : Nat) : Bool := s.deck.infl.any (fun e => e.2.used.contains m)

/-- A plane fails (R118): matching stops, its map entries are rewritten, answers on it are lost, partly reassembled TLPs from it are
discarded, its TLPs are resent, and a Corrected record with cause 0x02 is made (R119, R120, Table CONT-6). Whether a plane is left
is the caller's question. -/
def planeFailCore (m cause : Nat) (s : State) : State :=
  let s := (setPlane m 3 s).setf F.DCK_STAT_CAUSE m cause
  let s := remapPlane m s
  let s := { s with deck.answers := s.deck.answers.filter (fun a => a.plane != m), deck.ackRun := SMap.del s.deck.ackRun m }
  pushRec 8 0x02 m (resendAll (fun _ x => x.used.contains m) s)

/-- A copy has a cell queued on a plane. -/
def queuedOn (s : State) (m k : Nat) : Bool :=
  let (src, dst, h) := copyId k
  (List.range 4).any (fun cls => (SMap.get [] s.deck.cells (cellKey src m dst cls)).any (fun c => c.handle == h))

/-- TLPs with cells still queued on a plane are sent elsewhere (no new cell enters a DRAINING plane, R117). -/
def moveUnsent (m : Nat) (s : State) : State := resendAll (fun k _ => queuedOn s m k) s

/-- A DRAINING plane with no TLP left becomes FENCED (Table DECK-5). -/
def drainIfEmpty (m : Nat) (s : State) : State :=
  if planeSt s m = 1 ∧ !planeBusy s m then setPlane m 2 s else s

/-! ### Stopping flows (R113) -/

/-- Base flows of a port stop: none of their cells is requested any more. -/
def stopFlows (p : Nat) (s : State) : State :=
  if s.deck.stopped.contains p then s else { s with deck.stopped := s.deck.stopped ++ [p] }

/-- A flow id names port `p`. -/
def flowHas (f p : Nat) : Bool := f / 8 / 128 == p || f / 8 % 128 == p

/-- The copies of stopped flows are discarded; a multicast copy loses only the entry of the closing port (R113). -/
def drainCopy (p : Nat) (e : Nat × InFlight) (s : State) : State :=
  let src := (copyId e.1).1
  let h := (copyId e.1).2.2
  let x := e.2
  let rest := x.seqs.filter (fun q => q.1 != p)
  if x.c.inP = p ∨ rest.isEmpty then freeCopy src h x s else
  let had := (SMap.get Reasm.init s.deck.got e.1).cells.any (fun a => a.index == 0)
  let cls := classOf s x.c.tlp.tc
  let y := { x with seqs := rest, c := { x.c with mc := x.c.mc.filter (· != p) } }
  setInfl src h y (if had && x.acct != y.acct then charge y.acct cls 1 x.cells (release x.acct cls 1 x.cells s) else s)

/-- A TLP that waits for a window loses a closing port: it is discarded if none of its flows is left. Answers what goes on waiting. -/
def drainWaiting (p : Nat) (c : Carried) (s : State) : State × Option Carried :=
  let lost := c.inP == p || c.targets.all (· == p)
  if lost then
    (if c.mc.isEmpty then release c.inP (classOf s c.tlp.tc) 0 c.cells s
      else forEach c.dsts (fun _ s => mcDec (pierOf c.inP) c.root c s) s, none)
  else
    let d := { c with mc := c.mc.filter (· != p) }
    (forEach (c.dsts.filter (fun n => !d.dsts.contains n)) (fun _ s => mcDec (pierOf c.inP) c.root c s) s, some d)

/-- What waits in a pier without a closing port: the state, and those that go on waiting, behind `kept`. -/
def drainWaits (p : Nat) : List Carried → List Carried → State → State × List Carried
  | [], kept, s => (s, kept)
  | c :: rest, kept, s => drainWaits p rest (kept ++ (drainWaiting p c s).2.toList) (drainWaiting p c s).1

/-- After 64 cell times: the flows' waiting, unacknowledged and unreleased TLPs are discarded and S_f and R_f set to 0 in both
piers (R113). What waited behind them may then go. -/
def drainFlows (p : Nat) (s : State) : State :=
  let s := forRange 8 (fun n s =>
    let x := drainWaits p (SMap.get [] s.deck.wait n) [] s
    { x.1 with deck.wait := SMap.put [] x.1.deck.wait n x.2 }) s
  let s := forEach (s.deck.infl.filter (fun e => e.2.c.inP == p || e.2.seqs.any (fun q => q.1 == p))) (drainCopy p) s
  let gone := s.deck.stored.filter (fun e => flowHas e.1 p)
  let s := { s with deck.stored := s.deck.stored.filter (fun e => !flowHas e.1 p) }
  let s := forEach gone (fun e s => forEach e.2 (fun x s => if x.void then s else releaseEgress x.c s) s) s
  let sf := s.deck.sf.filter (fun e => !flowHas e.1 p)
  let rf := s.deck.rf.filter (fun e => !flowHas e.1 p)
  forRange 8 deckDrain { s with deck.sf := sf, deck.rf := rf, deck.stopped := s.deck.stopped.erase p }

end Sys2Proof.Machine
end

