-- ==== Sys2Proof/Machine/Lanes.lean ====
section
/-! DEFINITION. The lanes of a port (R10, R11, R47 to R50, R67): which SerDes it uses, in which order, and what training leaves in
their registers. A lane is named by its instance of SPN_LANE: 9 × span + index, index 8 being the spare. -/

namespace Sys2Proof.Machine

/-- The width code of a form: 2 for x2, 3 for x4, 4 for x8, 5 for x16. -/
def formWidth (s : State) (p : Nat) : Nat :=
  match form s (spanOf p) with
  | 1 => 4 | 2 => 3 | 3 => 2 | 4 => 5 | 5 => 4 | 6 => 5 | _ => 0

/-- Lanes of a width code. -/
def lanesOf (w : Nat) : Nat := if w = 0 then 0 else 2 ^ (w - 1)

/-- Every data lane of a port at its form width, lane 0 first (R11). -/
def portLanes (s : State) (p : Nat) : List Nat :=
  let sp := spanOf p
  let k := p % 4
  let run (lo n : Nat) : List Nat := (List.range n).map (fun l => 9 * sp + lo + l)
  match form s sp with
  | 1 | 5 => run 0 8
  | 2 => run (2 * k) 4
  | 3 => run (2 * k) 2
  | 4 | 6 => run 0 8 ++ (run 0 8).map (· + 9)
  | _ => []

/-- The lanes that a port uses at a width: the first of its lanes, or of its lanes reversed (R48). -/
def activeLanes (s : State) (p w : Nat) (reversed : Bool) : List Nat :=
  (if reversed then (portLanes s p).reverse else portLanes s p).take (lanesOf w)

/-- A lane is free of the failure that a test found (ROLE 5). -/
def laneSound (s : State) (i : Nat) : Bool := s.f F.SPN_LANE_ROLE i != 5

/-- A lane at rest: unused, without lock; a failed one keeps its role. -/
def restLane (i : Nat) (s : State) : State :=
  let s := (s.setf F.SPN_LANE_LOCK i 0).setf F.SPN_LANE_POLINV i 0
  if laneSound s i then s.setf F.SPN_LANE_ROLE i 7 else s

/-- A trained data lane, with the inversion that its receiver found (R49). -/
def openLane (i : Nat) (inverted : Bool) (s : State) : State :=
  ((s.setf F.SPN_LANE_ROLE i 0).setf F.SPN_LANE_LOCK i 1).setf F.SPN_LANE_POLINV i (if inverted then 1 else 0)

/-- The lanes of a PCI Express port after training at a width: the used ones carry data, the others rest. `inverted` says of each
used lane in order whether its polarity is inverted. -/
def trainLanes (p w : Nat) (reversed : Bool) (inverted : List Bool) (s : State) : State :=
  let act := activeLanes s p w reversed
  let s := forEach ((portLanes s p).filter (fun i => !act.contains i)) restLane s
  forRange act.length (fun k s => openLane (act.getD k 0) (inverted.getD k false) s) s

/-- The link of a port has gone: LINKUP, PMSTATE, FLIT and REVERSED clear, and RATE and the widths show no link (Tables SPAN-1 and
SPAN-9). -/
def linkGone (p : Nat) (s : State) : State :=
  let s := ((s.setf F.SPN_PSTAT_LINKUP p 0).setf F.SPN_PSTAT_PMSTATE p 0).setf F.SPN_PSTAT_FLIT p 0
  setRate p 0 0 (s.setf F.SPN_PSTAT_REVERSED p 0)

end Sys2Proof.Machine
end

