-- ==== Sys2Proof/Machine/Rom.lean ====
section
/-! DEFINITION. Configuration space (R170, R171, R174, R179, R200, R465): the functions of a virtual switch, what ROMT gives each of
their registers, where their capabilities lie, and the registers themselves. -/

namespace Sys2Proof.Machine

/-! ### Functions of a virtual switch (Table HOST-1) -/

/-- Function numbers inside a virtual switch: 0 the upstream port, 1 + j bridge j, 31 the management endpoint, 32 the
landing function. -/
abbrev fnUp : Nat := 0
/-- Bridge j. -/
abbrev fnBridge (j : Nat) : Nat := 1 + j
/-- The management endpoint. -/
abbrev fnMep : Nat := 31
/-- The landing function. -/
abbrev fnLand : Nat := 32

/-- The virtual switch `v` of the applied image. -/
def vsDef (s : State) (v : Nat) : Option VsDef := SMap.find? s.host.vsw v
/-- The virtual switches present. -/
def vsList (s : State) : List Nat := s.host.vsw.map (·.1)
/-- The virtual switch that a port heads. -/
def vsOfUp (s : State) (p : Nat) : Option Nat := (List.find? (fun (e : Nat × VsDef) => e.2.up.val == p) s.host.vsw).map (·.1)
/-- A bridge binds a port of this module. -/
def BridgeDef.isLocal (b : BridgeDef) (p : Nat) : Bool := match b.tgt with | .local_ q => q.val == p | _ => false
/-- The virtual switch and bridge that bind a port of this module. -/
def vsOfDown (s : State) (p : Nat) : Option (Nat × Nat) :=
  s.host.vsw.findSome? (fun e => (e.2.bridges.find? (fun b => b.isLocal p)).map (fun b => (e.1, b.dev.val)))
/-- The virtual switch a port belongs to. -/
def vsOfPort (s : State) (p : Nat) : Option Nat :=
  match vsOfUp s p with
  | some v => some v
  | none => (vsOfDown s p).map (·.1)
/-- The function of a port: (virtual switch, function number). -/
def fnOfPort (s : State) (p : Nat) : Option (Nat × Nat) :=
  match vsOfUp s p with
  | some v => some (v, fnUp)
  | none => (vsOfDown s p).map (fun e => (e.1, fnBridge e.2))
/-- The local ports of a virtual switch's bridges. -/
def downPorts (s : State) (v : Nat) : List Nat :=
  match vsDef s v with
  | some d => d.bridges.filterMap (fun b => match b.tgt with | .local_ p => some p.val | _ => none)
  | none => []
/-- All local ports of a virtual switch. -/
def vsPorts (s : State) (v : Nat) : List Nat :=
  match vsDef s v with | some d => d.up.val :: downPorts s v | none => []
/-- A function exists. -/
def fnPresent (s : State) (v fn : Nat) : Bool :=
  match vsDef s v with
  | none => false
  | some d =>
    if fn = 0 then true
    else if fn ≤ 30 then d.bridges.any (fun b => b.dev.val + 1 == fn)
    else if fn = fnMep then d.mep
    else d.landing && s.f F.CSN_CFG_LM_SIZE 0 != 0
/-- Every function of a virtual switch. -/
def fnsOf (s : State) (v : Nat) : List Nat := (List.range 33).filter (fnPresent s v)
/-- The slot bound to a port (R53). -/
def slotOf (s : State) (p : Nat) : Option Nat :=
  (List.range 32).find? (fun k => s.b F.GLB_SLOT_BOUND k && s.f F.GLB_SLOT_PORT k == p)

/-- The local port whose link a function of a virtual switch reports: the upstream port's, or that of its bridge's binding. -/
def fnPort (s : State) (v fn : Nat) : Option Nat :=
  match vsDef s v with
  | some d =>
    if fn = fnUp then some d.up.val
    else (d.bridges.find? (fun b => b.dev.val + 1 == fn)).bind (fun b =>
      match b.tgt with | .local_ p => some p.val | _ => none)
  | none => none

/-! ### The default image (R465, Table HOST-13). The layouts are those of the standard (log entry 9). -/

/-- A read-only register. -/
def RomEnt.ro (v : Nat) : RomEnt := ⟨BitVec.ofNat 32 v, 0, 0, 0, none⟩
/-- A register with a write mask and an RW1C mask. -/
def RomEnt.rw (v wm w1c sticky : Nat) : RomEnt :=
  ⟨BitVec.ofNat 32 v, BitVec.ofNat 32 wm, BitVec.ofNat 32 w1c, BitVec.ofNat 32 sticky, none⟩

/-- The header: type 1 for `fn ≤ 30`. There is no I/O space, and no BAR but those of R182 and R185. -/
def romHeader (s : State) (fn off : Nat) : RomEnt :=
  let dev := if fn = 0 then 0x2560 else if fn ≤ 30 then 0x2561 else if fn = fnMep then 0x2562 else 0x2563
  let cls := if fn ≤ 30 then 0x060400 else if fn = fnMep then 0x088000 else 0x050000
  let lmTop := (List.range 64).find? (fun k => 2 ^ k ≥ s.f F.CSN_CFG_LM_SIZE 0 * 2 ^ 28) |>.getD 0
  match off with
  | 0x00 => .ro (dev * 65536 + s.f F.GLB_ID_VENDOR 0)
  | 0x04 => .rw 0x00100000 0x0546 0xF9000000 0
  | 0x08 => .ro (cls * 256 + s.f F.GLB_ID_STEPPING 0)
  | 0x0C => .ro (if fn ≤ 30 then 0x00010000 else 0)
  | 0x10 => if fn = fnMep then .rw 0 0xFC000000 0 0 else .ro 0
  | 0x18 =>
    if fn ≤ 30 then .rw 0 0x00FFFFFF 0 0
    else if fn = fnLand then .rw 0x0C (2 ^ 32 - 2 ^ (min 32 lmTop)) 0 0 else .ro 0
  | 0x1C =>
    if fn ≤ 30 then .rw 0 0 0xF9000000 0
    else if fn = fnLand then .rw 0 (2 ^ 32 - 2 ^ (lmTop - 32)) 0 0 else .ro 0
  | 0x20 => if fn ≤ 30 then .rw 0 0xFFF0FFF0 0 0 else if fn = fnMep then .rw 0 0xFFFFE000 0 0 else .ro 0
  | 0x24 => if fn ≤ 30 then .rw 0x00010001 0xFFF0FFF0 0 0 else .ro 0
  | 0x28 => if fn ≤ 30 then .rw 0 0xFFFFFFFF 0 0 else .ro 0
  | 0x2C => if fn ≤ 30 then .rw 0 0xFFFFFFFF 0 0 else .ro 0
  | 0x34 => .ro 0x40
  | 0x3C => if fn ≤ 30 then .rw 0 0x004300FF 0 0 else .rw 0 0xFF 0 0
  | _ => .ro 0

/-- A capability structure whose effects this model has. -/
inductive CfgCap where
  | pm | msi | pcie | aer | acs | mcast | dpc | ptm | l1ss | margin
  deriving DecidableEq, Repr

/-- Where the default image has it (Table HOST-13). -/
def CfgCap.home : CfgCap → Nat
  | .pm => 0x40 | .msi => 0x50 | .pcie => 0x70 | .aer => 0x100 | .acs => 0x140 | .mcast => 0x180 | .dpc => 0x1C0 | .ptm => 0x200
  | .l1ss => 0x240 | .margin => 0x280

/-- The Capability IDs of a structure: below 0x100 (MSI and MSI-X), or of an extended capability. -/
def CfgCap.ids : CfgCap → Bool × List Nat
  | .pm => (false, [0x01]) | .msi => (false, [0x05, 0x11]) | .pcie => (false, [0x10]) | .aer => (true, [0x0001])
  | .acs => (true, [0x000D]) | .mcast => (true, [0x0012]) | .dpc => (true, [0x001D]) | .ptm => (true, [0x001F])
  | .l1ss => (true, [0x001E]) | .margin => (true, [0x0027])

/-- The lanes of a function's link, the Max Link Speed that MAXRATE allows (code 0 acts as 1), and the slot of its port. -/
def fnLink (s : State) (v fn : Nat) : Nat × Nat × Option Nat :=
  match fnPort s v fn with
  | some p => (lanesOf (formWidth s p), max 1 (s.f F.SPN_CTL_MAXRATE (spanOf p)), if fn = fnUp then none else slotOf s p)
  | none => (0, 1, none)

/-- Power Management: D0 and D3hot, No_Soft_Reset; PME from D3hot and D3cold on the management endpoint (R194). -/
def romPm (fn rel : Nat) : RomEnt :=
  match rel with
  | 0x0 => .ro ((if fn = fnMep then 0xC003 else 0x0003) * 65536 + (if 1 ≤ fn && fn ≤ 31 then 0x5001 else 0x7001))
  | 0x4 => if fn = fnMep then .rw 0x8 0x103 0x8000 0x8100 else .rw 0x8 0x3 0 0
  | _ => .ro 0

/-- MSI of a bridge, MSI-X of the management endpoint (R183). -/
def romMsi (fn rel : Nat) : RomEnt :=
  if 1 ≤ fn && fn ≤ 30 then
    match rel with
    | 0x0 => .rw 0x00807005 0x00010000 0 0
    | 0x4 => .rw 0 0xFFFFFFFC 0 0
    | 0x8 => .rw 0 0xFFFFFFFF 0 0
    | 0xC => .rw 0 0xFFFF 0 0
    | _ => .ro 0
  else if fn = fnMep then
    match rel with
    | 0x0 => .rw 0x003F7011 0xC0000000 0 0
    | 0x4 => .ro 0x4
    | 0x8 => .ro 0x1004
    | _ => .ro 0
  else .ro 0

/-- The PCI Express capability: type and Flit Mode Supported, Max_Payload_Size Supported, FLR, Link Capabilities from the port's form and
MAXRATE with ASPM L1, the slot properties of Table HOST-5 on a port bound to a slot, completion timeout ranges A to D (R189) and the
AtomicOps of the landing function (R141). -/
def romPcie (s : State) (v fn rel : Nat) : RomEnt :=
  let (n, rate, slot) := fnLink s v fn
  let bridge := 1 ≤ fn && fn ≤ 30
  match rel with
  | 0x0 =>
    .ro ((if fn = 0 then 0x8052 else if bridge then (if slot.isSome then 0x8162 else 0x8062) else 0x0002) * 65536 + 0x0010)
  | 0x4 => .ro (if fn ≤ 30 then 0x8005 else if fn = fnMep then 0x10008022 else 0x10008002)
  | 0x8 => .rw 0x2810 (if fn ≤ 30 then 0x7FEF else 0xFFFF) 0x000F0000 0
  | 0xC =>
    if fn ≤ 30 then .ro (rate + n * 16 + 0x00400800 + (if bridge then 0x00380000 + fn * 2 ^ 24 else 0)) else .ro 0
  | 0x10 =>
    if fn = 0 then .rw 0 0x02C3 0 0 else if bridge then .rw 0 0x0EF3 0xC0000000 0 else .rw 0 0x08 0 0
  | 0x14 => match slot with | some k => .ro (k * 2 ^ 19 + 2 ^ 18 + 0x43) | none => .ro 0
  | 0x18 => if slot.isSome then .rw 0 0x142B 0x011B0000 0 else .ro 0
  | 0x24 => .ro (if fn = fnMep then 0x1F else if fn = fnLand then 0x180 else 0)
  | 0x28 => if fn = fnMep then .rw 0 0x1F 0 0 else .ro 0
  | 0x2C => if fn ≤ 30 then .ro (2 ^ (rate + 1) - 2) else .ro 0
  | 0x30 => if fn ≤ 30 then .rw rate 0x1F 0 0x1F else .ro 0
  | _ => .ro 0

/-- Capabilities below 0x100. -/
def romCaps (s : State) (v fn off : Nat) : RomEnt :=
  if off < 0x50 then romPm fn (off - 0x40) else if off < 0x70 then romMsi fn (off - 0x50) else romPcie s v fn (off - 0x70)

/-- AER. -/
def romAer (fn rel : Nat) : RomEnt :=
  match rel with
  | 0x04 => .rw 0 0 0x07FFF030 0x07FFF030
  | 0x08 => .rw (if 1 ≤ fn && fn ≤ 30 then 0x04400000 else 0x00400000) 0x07FFF030 0 0x07FFF030
  | 0x0C => .rw 0x00462030 0x07FFF030 0 0x07FFF030
  | 0x10 => .rw 0 0 0x0000F1C1 0x0000F1C1
  | 0x14 => .rw 0x0000E000 0x0000F1C1 0 0x0000F1C1
  | 0x18 => .rw 0 0x00000140 0 0x00000140
  | _ => .ro 0

/-- ACS with its Enhanced Capability (R200): every control of the list, an Egress Control Vector of 30 bits, and I/O Request Blocking
that reads 1. -/
def romAcs (rel : Nat) : RomEnt :=
  match rel with
  | 0x4 => .rw 0x00801EFF 0x1F7F0000 0 0
  | 0x8 => .rw 0 0x3FFFFFFF 0 0
  | _ => .ro 0

/-- Multicast (R114): 64 groups, MC_Overlay_BAR on downstream ports. -/
def romMcast (bridge : Bool) (rel : Nat) : RomEnt :=
  match rel with
  | 0x04 => .rw 0x0000003F 0x803F0000 0 0
  | 0x08 => .rw 0 0xFFFFF03F 0 0
  | 0x0C | 0x10 | 0x14 | 0x18 | 0x1C | 0x20 | 0x24 => .rw 0 0xFFFFFFFF 0 0
  | 0x28 | 0x2C => if bridge then .rw 0 0xFFFFFFFF 0 0 else .ro 0
  | _ => .ro 0

/-- DPC, with Poisoned TLP Egress Blocking and DPC Completion Control. -/
def romDpc (rel : Nat) : RomEnt :=
  match rel with
  | 0x4 => .rw 0x000000C0 0x007F0000 0 0
  | 0x8 => .rw 0 0 0x00000009 0x0000000F
  | _ => .ro 0

/-- PTM (R202): Requester above, Responder below, a granularity of 1 ns; PTM Root Capable from ROMT. -/
def romPtm (up root : Bool) (rel : Nat) : RomEnt :=
  match rel with
  | 0x4 => .ro (if up then 0x00000101 + (if root then 6 else 0) else 0x00000102)
  | 0x8 => if up then .rw 0 (if root then 0xFF03 else 0xFF01) 0 0 else .rw 0 0x1 0 0
  | _ => .ro 0

/-- L1 PM Substates: L1.1 and L1.2 (R58). -/
def romL1ss (rel : Nat) : RomEnt :=
  match rel with
  | 0x4 => .ro 0x1F
  | 0x8 => .rw 0 0xFFFFFF0F 0 0
  | _ => .ro 0

/-- Lane Margining at the Receiver: a control and status register for each lane of the port's form (R57). -/
def romMargin (n rel : Nat) : RomEnt :=
  if rel = 4 then .ro 0x00010000 else if 8 ≤ rel && rel < 8 + 4 * n then .rw 0x00009C38 0xFF7F 0 0 else .ro 0

/-- An extended capability: where it starts, its ID, its version, and its registers by their place in it. -/
structure ExtCap where
  off : Nat
  id : Nat
  ver : Nat
  body : Nat → RomEnt

/-- The capabilities from 0x2C0 onward of a port of `n` lanes, each as long as its lanes make it: Secondary PCI Express, Data Link Feature,
and the Physical Layer ones. On a x16 port the margining registers end at 0x2C8, where these then begin (log entry 9). -/
def linkCaps (n : Nat) : List ExtCap :=
  let word (k : Nat) : Nat := (k + 3) / 4 * 4
  let lanes (e : RomEnt) (rel : Nat) : RomEnt := if rel = 8 then e else .ro 0
  let b0 := if n = 16 then 0x2C8 else 0x2C0
  let b1 := b0 + 12 + word (2 * n)
  let b2 := b1 + 12
  let b3 := b2 + 32 + word n
  let b4 := b3 + 32 + word n
  let b5 := b4 + 16 + word n
  [⟨b0, 0x0019, 1, lanes (.rw 0 0 (2 ^ n - 1) (2 ^ n - 1))⟩,
   ⟨b1, 0x0025, 1, fun rel => .ro (if rel = 4 then 0x80000001 else 0)⟩,
   ⟨b2, 0x0026, 1, fun _ => .ro 0⟩, ⟨b3, 0x002A, 1, fun _ => .ro 0⟩, ⟨b4, 0x0031, 1, fun _ => .ro 0⟩,
   ⟨b5, Config.physical128 % 2 ^ 16, 1, fun _ => .ro 0⟩]

/-- The extended capabilities of a function in order. -/
def extCaps (s : State) (v fn : Nat) : List ExtCap :=
  let up := fn = fnUp
  let bridge := 1 ≤ fn && fn ≤ 30
  let root := match vsDef s v with | some d => d.ptmRoot | none => false
  let (n, _, slot) := fnLink s v fn
  let opt (c : Bool) (x : ExtCap) : List ExtCap := if c then [x] else []
  [(⟨0x100, 0x0001, 2, romAer fn⟩ : ExtCap)] ++ opt bridge ⟨0x140, 0x000D, 1, romAcs⟩ ++
    opt (fn ≤ 30) ⟨0x180, 0x0012, 1, romMcast bridge⟩ ++ opt bridge ⟨0x1C0, 0x001D, 1, romDpc⟩ ++
    opt (fn ≤ 30) ⟨0x200, 0x001F, 1, romPtm up root⟩ ++ opt slot.isSome ⟨0x240, 0x001E, 1, romL1ss⟩ ++
    opt (fn ≤ 30) ⟨0x280, 0x0027, 1, romMargin n⟩ ++ (if fn ≤ 30 then linkCaps n else [])

/-- A register from 0x100 on: a capability header points to the next capability present. -/
def romExt (s : State) (v fn off : Nat) : RomEnt :=
  let caps := extCaps s v fn
  match (caps.filter (fun c => c.off ≤ off)).getLast? with
  | none => .ro 0
  | some c =>
    if off = c.off then
      .ro (((caps.find? (fun d => d.off > off)).map (fun d => d.off)).getD 0 * 2 ^ 20 + c.ver * 2 ^ 16 + c.id)
    else c.body (off - c.off)

/-- What the default image's ROMT gives a register (R465). -/
def defaultRom (s : State) (v fn off : Nat) : RomEnt :=
  if off < 0x40 then romHeader s fn off
  else if off < 0x100 then romCaps s v fn off
  else romExt s v fn off

/-! ### The applied ROMT (R171, R174, R179) -/

/-- Key of a configuration register. -/
def cfgKey (v fn off : Nat) : Nat := (v * 64 + fn) * 1024 + off / 4

/-- What no ROMT can set: the Vendor ID (R171), and I/O Base and Limit of a switch port function, which read 0 (R179). -/
def fixedRom (s : State) (fn off : Nat) (e : RomEnt) : RomEnt :=
  let low (v : Word) : RomEnt := { e with
    reset := (e.reset &&& 0xFFFF0000) ||| v, wmask := e.wmask &&& 0xFFFF0000, w1c := e.w1c &&& 0xFFFF0000 }
  if off = 0 then low (BitVec.ofNat 32 (s.f F.GLB_ID_VENDOR 0))
  else if fn ≤ 30 && off = 0x1C then low 0
  else if fn ≤ 30 && off = 0x30 then .ro 0
  else e

/-- What the applied ROMT gives a register (R174): offsets it does not describe read 0 and ignore writes. -/
def romEnt (s : State) (v fn off : Nat) : RomEnt :=
  match s.host.rom with
  | none => defaultRom s v fn off
  | some r => fixedRom s fn off ((SMap.find? r (cfgKey v fn off)).getD (.ro 0))

/-- The reset value of a register of a configuration space that ROMT describes. -/
abbrev RomWord := Nat → Nat

/-- Follows a capability list below 0x100 to an ID: `off` is the structure to look at. -/
def lowFind (w : RomWord) (ids : List Nat) : Nat → Nat → Option Nat
  | 0, _ => none
  | n + 1, off =>
    let off := off / 4 * 4
    if off < 0x40 then none
    else if ids.contains (w off % 256) then some off
    else lowFind w ids n (w off / 256 % 256)

/-- Follows the extended capability list to an ID. -/
def extFind (w : RomWord) (ids : List Nat) : Nat → Nat → Option Nat
  | 0, _ => none
  | n + 1, off =>
    let off := off / 4 * 4
    if off < 0x100 then none
    else if ids.contains (w off % 65536) then some off
    else extFind w ids n (w off / 2 ^ 20)

/-- A capability list below 0x100 neither loops nor points into the header (R174). -/
def lowChainOk (w : RomWord) : Nat → Nat → Bool
  | 0, _ => false
  | n + 1, off => off / 4 = 0 || (0x40 ≤ off && lowChainOk w n (w (off / 4 * 4) / 256 % 256))

/-- The extended capability list neither loops nor points below 0x100. -/
def extChainOk (w : RomWord) : Nat → Nat → Bool
  | 0, _ => false
  | n + 1, off => off / 4 = 0 || (0x100 ≤ off && extChainOk w n (w (off / 4 * 4) / 2 ^ 20))

/-- Where a capability of a function lies: as the applied ROMT chains it (R174); 4,096, past the space, where it has none. -/
def capOff (s : State) (v fn : Nat) (c : CfgCap) : Nat :=
  match s.host.rom with
  | none => c.home
  | some r =>
    let w : RomWord := fun off => ((SMap.find? r (cfgKey v fn off)).getD (.ro 0)).reset.toNat
    ((if c.ids.1 then extFind w c.ids.2 961 0x100 else lowFind w c.ids.2 49 (w 0x34 % 256))).getD 4096

/-- A downstream port is bound to an enabled slot clock (R52, R54). -/
def slotClk (s : State) (p : Nat) : Bool := (slotOf s p).isSome && !isUpstream s p
/-- Slot Clock Configuration: bit 28 of Link Control and Status of a switch port function, as its slot binding makes it (R54; log
entry 9). -/
def withSlotClk (s : State) (v fn off : Nat) (w : Word) : Word :=
  if fn ≤ 30 && off = capOff s v fn .pcie + 0x10 then
    Fld.set ⟨.GLB_ID, 28, 28⟩ w (match fnPort s v fn with | some p => if slotClk s p then 1 else 0 | none => 0)
  else w
/-- A configuration register. -/
def cfgRd (s : State) (v fn off : Nat) : Word :=
  if off ≥ 4096 then 0 else
  withSlotClk s v fn off (SMap.get (romEnt s v fn off).reset s.host.cfg (cfgKey v fn off))
/-- The state with a configuration register stored. -/
def cfgSet (v fn off : Nat) (w : Word) (s : State) : State :=
  if off ≥ 4096 then s else
  { s with host.cfg := SMap.put (romEnt s v fn off).reset s.host.cfg (cfgKey v fn off) w }
/-- Bits [hi:lo] of a configuration register. -/
def cfgF (s : State) (v fn off hi lo : Nat) : Nat := ((cfgRd s v fn off).toNat >>> lo) % 2 ^ (hi + 1 - lo)
/-- One bit of a configuration register. -/
def cfgBit (s : State) (v fn off k : Nat) : Bool := (cfgRd s v fn off).getLsbD k
/-- The state with bits [hi:lo] of a configuration register set by hardware. -/
def cfgSetF (v fn off hi lo val : Nat) (s : State) : State :=
  cfgSet v fn off (Fld.set ⟨.GLB_ID, hi, lo⟩ (cfgRd s v fn off) val) s

/-- A register of a capability. -/
def capRd (s : State) (v fn : Nat) (c : CfgCap) (rel : Nat) : Word := cfgRd s v fn (capOff s v fn c + rel)
/-- Bits [hi:lo] of it. -/
def capF (s : State) (v fn : Nat) (c : CfgCap) (rel hi lo : Nat) : Nat := cfgF s v fn (capOff s v fn c + rel) hi lo
/-- One bit of it. -/
def capBit (s : State) (v fn : Nat) (c : CfgCap) (rel k : Nat) : Bool := cfgBit s v fn (capOff s v fn c + rel) k
/-- The state with bits [hi:lo] of it set by hardware. -/
def setCapF (v fn : Nat) (c : CfgCap) (rel hi lo val : Nat) (s : State) : State :=
  cfgSetF v fn (capOff s v fn c + rel) hi lo val s

end Sys2Proof.Machine
end

