-- ==== Sys2Proof/Machine/Host.lean ====
section
/-! DEFINITION. The host face at rest (R172, R182 to R186, R194 to R196, R261, R462): Command bits and D-states, Routing IDs, proxy
tags, completion trackers, MSI-X vectors, and the completions the SY256 makes itself. -/

namespace Sys2Proof.Machine

/-! ### Command bits and D-states -/

/-- Memory Space Enable. -/
def memEn (s : State) (v fn : Nat) : Bool := cfgBit s v fn 0x04 1
/-- Bus Master Enable. -/
def busMaster (s : State) (v fn : Nat) : Bool := cfgBit s v fn 0x04 2
/-- The D-state field of PMCSR: 0 D0, 3 D3hot. -/
def dState (s : State) (v fn : Nat) : Nat := capF s v fn .pm 0x4 1 0
/-- PME_En of the management endpoint. -/
def pmeEn (s : State) (v : Nat) : Bool := capBit s v fnMep .pm 0x4 8
/-- The management endpoint is in D3cold (R195). -/
def inD3cold (s : State) (v : Nat) : Bool :=
  match vsDef s v with
  | some d => s.host.l2.contains d.up.val && (List.range 16).any (fun i =>
      s.b F.GLB_PERSTMAP_VALID i && s.f F.GLB_PERSTMAP_PORT i == d.up.val && s.bitf F.GLB_PERST_LEVEL 0 i)
  | none => false

/-- The internal bus of a virtual switch: the upstream port's Secondary Bus Number (R170). -/
def internalBus (s : State) (v : Nat) : Nat := cfgF s v fnUp 0x18 15 8
/-- The Routing ID of a function (Table HOST-1). -/
def ridOf (s : State) (v fn : Nat) : Nat :=
  if fn = fnUp then s.f F.GLB_VSSTAT_BUS v * 256
  else internalBus s v * 256 + (fn - 1) * 8
/-- The Completer ID of the switch port function of a port (R241, R262); the spec gives none for a Floing port or a port whose
bridge lies in another module (log entry 15). -/
def completerId (s : State) (p : Nat) : Nat :=
  match fnOfPort s p with
  | some (v, fn) => ridOf s v fn
  | none => Config.portRid p % 2 ^ 16

/-! ### TLPs the SY256 makes itself -/

/-- A blank TLP, completed by the makers below. -/
def Tlp.blank : Tlp :=
  { kind := .cpl, tc := 0, addr := 0, len := 0, data := [], hdr := 12, digest := 0, rid := 0, tag := 0, bdf := 0, cid := 0,
    status := 0, bcount := 0, laddr := 0, code := 0, route := 0, pasid := none, at_ := 0, ep := false, ro := false,
    ido := false }

/-- Queues a TLP that the SY256 makes itself at a port, charged to the port's egress account. -/
def inject (c : Carried) (s : State) : State :=
  enqueueEgress c (charge c.outP (classOf s c.tlp.tc) 1 c.cells s)

/-- This module's number (R204). -/
def myModule (s : State) : Nat := s.f F.GLB_FABID_MODULE 0

/-- The fabric header under which a completion goes back over the port by which its request came (R214). -/
def FabHdr.back (h : FabHdr) : FabHdr :=
  { h with kind := 2, hops := 7, dstMod := h.srcMod, srcMod := h.dstMod, dstPort := h.srcPort, srcPort := h.dstPort }

/-! ### Proxy tags and completion trackers (R172, R261) -/

/-- First tag of the proxy pool: the management endpoint's own tags are 0 to 63 (R188), and its proxied requests use 256 to 511
(log entry 16). -/
abbrev proxyBase : Nat := 256
/-- First tag of the read-ahead pools (R221; log entry 16). -/
abbrev aheadBase : Nat := 512

/-- The proxy entry that a completion answers: the target virtual switch and the entry. -/
def proxyOf (s : State) (t : Tlp) : Option (Nat × Proxy) :=
  if t.tag < proxyBase || t.tag ≥ aheadBase then none else
  s.host.proxy.findSome? (fun (e : Nat × List Proxy) =>
    if ridOf s e.1 fnMep = t.rid then (e.2.find? (fun x => x.tag + proxyBase == t.tag)).map (fun x => (e.1, x)) else none)

/-- The last completion of a request: all its bytes, or a status other than Successful Completion. -/
def lastCpl (t : Tlp) : Bool := t.status != 0 || t.bcount ≤ t.data.length || t.data.isEmpty

/-- Restores the original Requester ID and tag on a completion for a proxied request, and frees the proxy tag with the last
(R172). -/
def unproxy (t : Tlp) (s : State) : Tlp × State :=
  match proxyOf s t with
  | none => (t, s)
  | some (v, x) =>
    let s := if lastCpl t then
        { s with host.proxy := SMap.put [] s.host.proxy v ((SMap.get [] s.host.proxy v).erase x) } else s
    ({ t with rid := x.rid, tag := x.otag }, s)

/-- Room in the completion tracker of a port (R261). -/
def trkRoom (s : State) (p : Nat) : Bool := (s.port p).trk.length < 4096
/-- Adds a request to the tracker of the port by which it leaves. -/
def track (p : Nat) (e : Trk) (s : State) : State :=
  let l := (s.port p).trk ++ [e]
  (s.setPort p { s.port p with trk := l }).setf F.PIR_CPLTRK_USED p l.length
/-- Frees a tracker entry. -/
def untrack (p : Nat) (e : Trk) (s : State) : State :=
  let l := (s.port p).trk.erase e
  (s.setPort p { s.port p with trk := l }).setf F.PIR_CPLTRK_USED p l.length
/-- The tracker entry of a carried request; `refused` bytes follow it that the gate refused. -/
def trkOf (c : Carried) : Trk :=
  { rid := c.tlp.rid, tag := c.tlp.tag, inP := c.inP, tc := c.tlp.tc, vs := c.vs, tenant := c.tenant, left := c.tlp.len,
    addr := c.tlp.addr, fab := c.fab, refused := c.tlp.bcount, late := false }
/-- The tracker entry that a completion arriving on a port answers. -/
def trkFind (s : State) (p : Nat) (t : Tlp) : Option Trk :=
  (s.port p).trk.find? (fun (e : Trk) => e.rid == t.rid && e.tag == t.tag)

/-- A completion for a request, sent back through its ingress port, under a Completer ID: status, data, Byte Count, Lower
Address. -/
def sendCplAs (cid : Nat) (req : Tlp) (inP vs tenant : Nat) (fab : Option FabHdr) (status : Nat) (data : List Byte)
    (bcount laddr : Nat) (ep : Bool) (s : State) : State :=
  let t : Tlp := { Tlp.blank with
    tc := req.tc, data := data, len := data.length, rid := req.rid, tag := req.tag, cid := cid,
    status := status, bcount := bcount, laddr := laddr % 128, ep := ep, ro := req.ro, ido := req.ido }
  let (t, s) := if fab.isNone then unproxy t s else (t, s)
  inject ⟨t, inP, inP, tenant, vs, fab.map FabHdr.back, 0, [], 0⟩ s

/-- A completion that the SY256 generates in place of a target: the Completer ID is that of the ingress port's switch port
function (R241, R262). -/
def sendCpl (req : Tlp) (inP vs tenant : Nat) (fab : Option FabHdr) (status : Nat) (data : List Byte)
    (bcount laddr : Nat) (ep : Bool) (s : State) : State :=
  sendCplAs (completerId s inP) req inP vs tenant fab status data bcount laddr ep s

/-- The data of a read returned in Successful Completions of at most `lim` bytes that end on 64-byte boundaries; `total` is the
Byte Count from the first byte. -/
def sendReadData (cid lim : Nat) (c : Carried) (ep : Bool) : Nat → List Byte → Nat → Nat → State → State
  | 0, _, _, _, s => s
  | fuel + 1, data, addr, total, s =>
    if data.isEmpty then s else
    let n := min data.length (max 64 lim - addr % 64)
    let s := sendCplAs cid c.tlp c.inP c.vs c.tenant c.fab 0 (data.take n) total addr ep s
    sendReadData cid lim c ep fuel (data.drop n) (addr + n) (total - n) s

/-- A completion without data for a carried request, where nothing is returned. -/
def failReq (c : Carried) (status : Nat) (s : State) : State :=
  if c.tlp.nonPosted then sendCpl c.tlp c.inP c.vs c.tenant c.fab status [] c.tlp.len c.tlp.addr false s else s

/-- Successful Completion. -/
abbrev stSC : Nat := 0
/-- Unsupported Request. -/
abbrev stUR : Nat := 1
/-- Configuration Request Retry Status. -/
abbrev stCRS : Nat := 2
/-- Completer Abort. -/
abbrev stCA : Nat := 4


/-! ### MSI-X (R183, R184, R462) -/

/-- Dword `d` of entry `vec` of the MSI-X table of virtual switch `v`: address low and high, data, vector control (masked
after reset). -/
def msixRd (s : State) (v vec d : Nat) : Word :=
  SMap.get (if d = 3 then 1 else 0) s.host.msix (v * 256 + vec * 4 + d)
/-- Stores a dword of an MSI-X table. -/
def msixWr (v vec d : Nat) (w : Word) (s : State) : State :=
  { s with host.msix := SMap.put (if d = 3 then 1 else 0) s.host.msix (v * 256 + vec * 4 + d) w }

/-- Every condition of R184 holds for a vector. -/
def msixReady (s : State) (v vec : Nat) : Bool :=
  dState s v fnMep == 0 && busMaster s v fnMep && capBit s v fnMep .msi 0x0 31 && !capBit s v fnMep .msi 0x0 30 &&
    !(msixRd s v vec 3).getLsbD 0 && !inD3cold s v

/-- Sends the message of a vector upstream. -/
def msixSend (v vec : Nat) (s : State) : State :=
  match vsDef s v with
  | none => s
  | some d =>
    let a := (msixRd s v vec 0).toNat + 2 ^ 32 * (msixRd s v vec 1).toNat
    let t : Tlp := { Tlp.blank with
      kind := .memWr, addr := a, len := 4, data := leBytes (msixRd s v vec 2).toNat 4, hdr := 16, rid := ridOf s v fnMep }
    inject ⟨t, d.up, d.up, 0, v, none, 0, [], 0⟩ s

/-- A PME message of a management endpoint in D3hot (R196), with its PME_Status (log entry 9). -/
def sendPme (v : Nat) (s : State) : State :=
  match vsDef s v with
  | none => s
  | some d =>
    let t : Tlp := { Tlp.blank with kind := .msg, hdr := 16, rid := ridOf s v fnMep, code := 0x18 }
    inject ⟨t, d.up, d.up, 0, v, none, 0, [], 0⟩ (setCapF v fnMep .pm 0x4 15 15 1 s)

/-- A waking event of an endpoint in D3hot or D3cold with PME_En = 1 asserts WAKE_N, and in D3hot sends a PME message
(R196). -/
def wakeCheck (v vec : Nat) (s : State) : State :=
  if s.host.wakeVec.contains vec && pmeEn s v && (dState s v fnMep == 3 || inD3cold s v) then
    match vsDef s v with
    | some d =>
      let s := if s.env.wake.contains d.up.val then s else { s with env.wake := s.env.wake ++ [d.up.val] }
      if inD3cold s v then s else sendPme v s
    | none => s
  else s

/-- Signals a vector of a management endpoint: sent, or pending until R184 allows it; events merge while pending. -/
def msixRaise (v vec : Nat) (s : State) : State :=
  if !fnPresent s v fnMep then s else
  let s := wakeCheck v vec s
  if msixReady s v vec then msixSend v vec s
  else if s.host.pend.contains (v * 64 + vec) then s
  else { s with host.pend := s.host.pend ++ [v * 64 + vec] }

/-- Sends every pending vector that R184 now allows. -/
def msixFlush (v : Nat) (s : State) : State :=
  forEach (s.host.pend.filter (fun k => k / 64 == v && msixReady s v (k % 64)))
    (fun k s => msixSend v (k % 64) { s with host.pend := s.host.pend.erase k }) s

/-- The source number of counter overflow (R362); sources 0 to 7 are those of Table HOST-3. -/
abbrev srcCounter : Nat := 8

/-- The vector of a source: the default of Table HOST-3, where counter overflow shares that of the recorder trigger (R362, R462), or the
image's assignment (R183). -/
def vecOf (s : State) (src : Nat) : Nat := SMap.get (if src = srcCounter then 2 else src) s.host.vec src

/-- The endpoints that signal the owner's sources (R462). -/
def ownerVs (s : State) : List Nat :=
  if s.b F.GLB_OWNER_VALID 0 then [s.f F.GLB_OWNER_VS 0] else (vsList s).filter (fun v => fnPresent s v fnMep)

/-- Signals a source at the owner's endpoint. -/
def msixOwner (src : Nat) (s : State) : State := forEach (ownerVs s) (fun v s => msixRaise v (vecOf s src) s) s

end Sys2Proof.Machine
end

