-- ==== Sys2Proof/Machine/EngQueue.lean ====
section
/-! DEFINITION. Duties, event queues and flags of the pier engines (R282 to R286, R271 to R273, R296 to R298): what the
other units need to hand an event to a duty. -/

namespace Sys2Proof.Machine

/-- Key of duty `d` of pier `n`. -/
def dutyKey (n d : Nat) : Nat := 64 * n + d

/-- The duty of a kind and instance in a pier (PIR_DUTY). -/
def dutyFind (s : State) (n kind inst : Nat) : Option Nat :=
  (List.range 64).find? (fun d =>
    s.b F.PIR_DUTY_VALID (dutyKey n d) && s.f F.PIR_DUTY_KIND (dutyKey n d) == kind &&
    s.f F.PIR_DUTY_INST (dutyKey n d) == inst)

/-- The first duty of a kind in a pier. -/
def dutyOfKind (s : State) (n kind : Nat) : Option Nat :=
  (List.range 64).find? (fun d => s.b F.PIR_DUTY_VALID (dutyKey n d) && s.f F.PIR_DUTY_KIND (dutyKey n d) == kind)

/-- Engine states of ENG_STAT.STATE. -/
def engSt (s : State) (g : Nat) : Nat := s.f F.ENG_STAT_STATE g
/-- The engine is live (its cluster is on and it has not failed). -/
def engLive (s : State) (g : Nat) : Bool := domOn s (48 + g / 8) && engSt s g != 3 && engSt s g != 5
/-- The engine is live and not parked. -/
def engUp (s : State) (g : Nat) : Bool := engLive s g && engSt s g != 2 && !s.b F.ENG_CTL_PARK g

/-- An event is urgent (Table ENG-3). -/
def Ev.urgent : Ev → Bool
  | .cfg _ _ | .error _ _ _ _ => true
  | _ => false
/-- An event is flagged, not queued (Table ENG-3). -/
def Ev.flagged : Ev → Bool
  | .timer _ | .link _ | .slot _ | .lane _ | .counter _ => true
  | _ => false
/-- The event number of Table ENG-3. -/
def Ev.number : Ev → Nat
  | .start _ => 0x00 | .cfg false _ => 0x01 | .cfg true _ => 0x02 | .error _ _ _ _ => 0x03 | .command _ => 0x04
  | .message _ _ _ => 0x05 | .control _ _ _ => 0x06 | .footway _ _ => 0x07 | .tlp _ _ _ _ => 0x08 | .timer _ => 0x09
  | .link _ => 0x0A | .slot _ => 0x0B | .lane _ => 0x0C | .counter _ => 0x0D | .stop _ => 0x0E | .continue_ _ => 0x0F

/-- The event queue of an engine. -/
def engQ (s : State) (g : Nat) : List QEv := SMap.get [] s.eng.q g
/-- The state with an event queue replaced, QUEUED kept in step. -/
def setEngQ (g : Nat) (q : List QEv) (s : State) : State :=
  { s with eng.q := SMap.put [] s.eng.q g q }.setf F.ENG_STAT_QUEUED g q.length

/-- Room for an event: 256 entries, of which 16 are reserved for ERROR events (R285). -/
def engRoom (s : State) (g : Nat) (e : Ev) : Bool :=
  match e with
  | .error _ _ _ _ => (engQ s g).length < 256
  | _ => (engQ s g).length < 240

/-- The engine that holds a duty. -/
def dutyEng (s : State) (n d : Nat) : Nat := s.f F.PIR_DUTY_ENGINE (dutyKey n d)

/-- The program of an engine's pier gives the event's duty kind and number the entry 0 (R283). -/
def noHandler (s : State) (g : Nat) (x : QEv) : Bool :=
  match s.img.applied.bind (fun m => m.segs[g / 8]?) with
  | some seg => seg.noEntry.contains (16 * s.f F.PIR_DUTY_KIND (dutyKey x.pier x.duty) + x.ev.number)
  | none => false

/-- The events that an engine's program has no handler for are discarded when it takes its next event (R283). -/
def dropUnhandled (g : Nat) (s : State) : State :=
  let s := if (engQ s g).any (noHandler s g) then setEngQ g ((engQ s g).filter (fun e => !noHandler s g e)) s else s
  { s with eng.flags := s.eng.flags.filter (fun e => !(dutyEng s e.pier e.duty == g && noHandler s g e)) }

/-- Takes the next event by the order of R286 (an engine that gives up duties stays MIGRATING): ERROR, then CFG_READ and
CFG_WRITE, then queued normal events in arrival order, then pending flags in ascending event number. -/
def selectNext (g : Nat) (s : State) : State :=
  let s := dropUnhandled g s
  let st (k : Nat) : Nat := if engSt s g = 4 then 4 else k
  let q := engQ s g
  let isErr (e : QEv) : Bool := match e.ev with | .error _ _ _ _ => true | _ => false
  let pick := match q.find? isErr with
    | some e => some e
    | none => match q.find? (fun (e : QEv) => e.ev.urgent) with
      | some e => some e
      | none => q.head?
  match pick with
  | some e =>
    let s := setEngQ g (q.erase e) s
    { s with eng.cur := SMap.ins s.eng.cur g ⟨e, false, false, false⟩ }.setf F.ENG_STAT_STATE g (st 0)
  | none =>
    let mine := s.eng.flags.filter (fun (e : QEv) => dutyEng s e.pier e.duty == g)
    let best := mine.foldl (fun (b : Option QEv) e =>
      match b with | none => some e | some x => if e.ev.number < x.ev.number then some e else b) none
    match best with
    | some e =>
      { s with eng.flags := s.eng.flags.erase e, eng.cur := SMap.ins s.eng.cur g ⟨e, false, false, false⟩ }.setf F.ENG_STAT_STATE g (st 0)
    | none => ({ s with eng.cur := SMap.del s.eng.cur g }).setf F.ENG_STAT_STATE g (st 1)

/-- The engine can still run handlers: its cluster is on, or giving up its duties before it goes off, and it has neither failed
nor lost its program. -/
def engRuns (s : State) (g : Nat) : Bool :=
  (domOn s (48 + g / 8) || domState s (48 + g / 8) == 5) && engSt s g != 3 && engSt s g != 5

/-- An idle engine that can run takes the next event. -/
def wakeEng (g : Nat) (s : State) : State :=
  if (SMap.find? s.eng.cur g).isNone && engRuns s g && engSt s g != 2 then selectNext g s else s

/-- Hands an event to a duty: discarded where the image assigns no such duty, held while the duty moves, kept by its source
while the queue is full, set as a flag or queued otherwise (R284, R285, R271). -/
def offer (n d : Nat) (e : Ev) (s : State) : State :=
  let k := dutyKey n d
  if !s.b F.PIR_DUTY_VALID k then s else
  let x : QEv := ⟨n, d, e⟩
  if e.flagged then
    let s := if s.eng.flags.contains x then s else { s with eng.flags := s.eng.flags ++ [x] }
    if s.b F.PIR_DUTY_MOVING k then s else wakeEng (dutyEng s n d) s
  else if s.b F.PIR_DUTY_MOVING k then
    { s with eng.moving := SMap.put [] s.eng.moving k (SMap.get [] s.eng.moving k ++ [x]) }
  else
    let g := dutyEng s n d
    if engRoom s g e then wakeEng g (setEngQ g (engQ s g ++ [x]) s)
    else { s with eng.kept := s.eng.kept ++ [x] }

/-- Hands an event to the duty of a kind and instance, if there is one. -/
def offerKind (n kind inst : Nat) (e : Ev) (s : State) : State :=
  match dutyFind s n kind inst with | some d => offer n d e s | none => s

/-- Sets the LINK flag of a port's LINK duty. -/
def linkEvent (p : Nat) (s : State) : State := offerKind (pierOf p) 1 p (.link p) s
/-- Sets the LANE flag of a span's LANE duty. -/
def laneEvent (sp : Nat) (s : State) : State := offerKind (sp / 4) 2 sp (.lane sp) s
/-- Sets the SLOT flag of the LINK duty of a slot's port. -/
def slotEvent (k : Nat) (s : State) : State :=
  if s.b F.GLB_SLOT_BOUND k then
    let p := s.f F.GLB_SLOT_PORT k
    offerKind (pierOf p) 1 p (.slot k) s
  else s

/-- Duties an engine holds. -/
def dutiesOf (s : State) (g : Nat) : List Nat :=
  (List.range 512).filter (fun k => s.b F.PIR_DUTY_VALID k && s.f F.PIR_DUTY_ENGINE k == g)

/-- ENG_STAT.DUTIES of every engine kept in step. -/
def refreshDuties (s : State) : State := forRange 64 (fun g s => s.setf F.ENG_STAT_DUTIES g (dutiesOf s g).length) s

/-- The duties that an engine holds or is about to receive. -/
def dutiesFor (s : State) (g : Nat) : List Nat :=
  (List.range 512).filter (fun k => s.b F.PIR_DUTY_VALID k &&
    (match SMap.find? s.eng.target k with | some (t, _) => t | none => s.f F.PIR_DUTY_ENGINE k) == g)

/-- The sibling that takes a duty: live, unparked, fewest duties, lowest-numbered on a tie (R271), keeping CONFIG and
CONTAIN duties apart while a suitable engine exists (R292). -/
def siblingFor (s : State) (n : Nat) (kind : Nat) (avoid : Nat) : Option Nat :=
  let up := ((List.range 8).map (fun e => 8 * n + e)).filter (fun g => engUp s g && g != avoid)
  let holds (g k : Nat) : Bool := (dutiesFor s g).any (fun d => s.f F.PIR_DUTY_KIND d == k)
  let good := up.filter (fun g => (kind != 0 || !holds g 3) && (kind != 3 || !holds g 0))
  let pool := if good.isEmpty then up else good
  pool.foldl (fun (b : Option Nat) g =>
    match b with
    | none => some g
    | some x => if (dutiesFor s g).length < (dutiesFor s x).length then some g else b) none

/-- The SEQ of the engine command under which an engine acts (R336). -/
def engineRef (s : State) : Origin → Nat
  | .engine g _ =>
    match SMap.find? s.eng.cur g.val with
    | some ⟨⟨n, d, e⟩, true, _, _⟩ =>
      let mine := (s.eng.cmds.filter (fun (x : Nat × Nat) => x.2 == dutyKey n d)).map (·.1)
      let now := match e with | .command q => mine.filter (· == q) | _ => []
      let waits := (engQ s g.val).filterMap (fun (x : QEv) => match x.ev with | .command q => some q | _ => none)
      ((now ++ mine.filter (fun q => !waits.contains q)).head?).getD 0
    | _ => 0
  | _ => 0

/-- Starts to move a duty: it is marked MOVING with its new engine, and the events queued for it are held (R271, R296). -/
def startMove (k new reason : Nat) (s : State) : State :=
  let g := s.f F.PIR_DUTY_ENGINE k
  let mine (e : QEv) : Bool := dutyKey e.pier e.duty == k
  let q := engQ s g
  let held := SMap.get [] s.eng.moving k ++ q.filter mine
  let s := setEngQ g (q.filter (fun e => !mine e)) s
  let s := { s with eng.moving := SMap.put [] s.eng.moving k held, eng.target := SMap.ins s.eng.target k (new, reason) }
  s.setf F.PIR_DUTY_MOVING k 1

/-- Ends the move of a duty: its new engine receives START, where `start` says so, and then the held items in arrival
order (R271, R296). -/
def endMove (k : Nat) (start : Bool) (s : State) : State :=
  match SMap.find? s.eng.target k with
  | none => s
  | some (new, reason) =>
    let held := SMap.get [] s.eng.moving k
    let s := (s.setf F.PIR_DUTY_ENGINE k new).setf F.PIR_DUTY_MOVING k 0
    let s := { s with eng.moving := SMap.del s.eng.moving k, eng.target := SMap.del s.eng.target k }
    let s := if start then offer (k / 64) (k % 64) (.start reason) s else s
    let s := forEach held (fun e s => offer e.pier e.duty e.ev s) s
    refreshDuties (wakeEng new s)

end Sys2Proof.Machine
end

