-- ==== Sys2Proof/Machine/Rec.lean ====
section
/-! DEFINITION. The event recorder and the performance counters at rest (R346 to R368): rings, triggers, flushes, counter
actions, counts and wraps, and the change of mode that triggers see. -/

namespace Sys2Proof.Machine

/-! ### Records and rings -/

/-- Lines of a ring (R346). -/
def ringLines (r : Nat) : Nat := if r = 0 then 16384 else 131072

/-- The words of a record (Table REC-1). -/
def RRec.words (x : RRec) : List Word :=
  let n := x.snap.length
  let w1 := x.trigger * 2 ^ 24 + n * 2 ^ 16 + x.src * 2 ^ 12 + x.type * 2 ^ 8 + (if x.snapped then 2 else 0)
    + (if x.approx then 1 else 0)
  [BitVec.ofNat 32 x.seq, BitVec.ofNat 32 w1, BitVec.ofNat 32 x.hours, BitVec.ofNat 32 x.pcycle,
    BitVec.ofNat 32 x.time, BitVec.ofNat 32 (x.time / 2 ^ 32), BitVec.ofNat 32 (x.snapId * 2 ^ 16 + x.value % 2 ^ 16),
    BitVec.ofNat 32 (if n = 0 then x.braceRef else x.miss), BitVec.ofNat 32 (if n = 0 then 0 else x.miss / 2 ^ 32)]
  ++ x.snap ++ [BitVec.ofNat 32 x.seq]

/-- The records of a ring, oldest first. -/
def ringOf (s : State) (r : Nat) : List RRec := if r = 0 then s.rcd.kring else s.rcd.mring

/-- REC_RLINE and REC_RSEQ of a ring kept in step with it (R353). -/
def refreshRing (r head : Nat) (s : State) : State :=
  let q := ringOf s r
  let s := s.wr .REC_RLINE (2 * r) (BitVec.ofNat 32 head)
  let s := s.wr .REC_RLINE (2 * r + 1) (BitVec.ofNat 32 (match q with | x :: _ => x.line | [] => head))
  let s := s.wr .REC_RSEQ (2 * r) (BitVec.ofNat 32 (match q.getLast? with | some x => x.seq | none => 0))
  s.wr .REC_RSEQ (2 * r + 1) (BitVec.ofNat 32 (match q with | x :: _ => x.seq | [] => 0))

/-- Whole records, oldest first, that a record of `k` lines at line `head` overwrites are dropped (R346). -/
def overwriteRing (r head k : Nat) (q : List RRec) : List RRec :=
  q.dropWhile (fun x => (x.line + ringLines r - head) % ringLines r < k)

/-- Writes a record at a ring's head line, oldest records giving way, then advances the head (R346, R353). A record lost
before a flush copied it is counted in LOST (R355). -/
def appendRing (r : Nat) (x : RRec) (s : State) : State :=
  let head := (s.rd .REC_RLINE (2 * r)).toNat
  let k := recLines x.snap.length
  let q := overwriteRing r head k (ringOf s r)
  let gone := (ringOf s r).take ((ringOf s r).length - q.length)
  let lost := if r = 0 then (gone.filter (fun y => !inMram s y)).length else 0
  let q := q ++ [{ x with line := head }]
  let s := if r = 0 then { s with rcd.kring := q } else { s with rcd.mring := q }
  refreshRing r ((head + k) % ringLines r) (s.satf F.REC_STAT_LOST 0 lost)

/-- Starts a flush, or joins the one that runs, is suspended, or waits for the checkpoint of a power-fail shutdown (R355). -/
def flushStart (s : State) : State :=
  if s.rcd.flushing || s.rcd.susp then s
  else { s with rcd.flushing := true }.setf F.REC_STAT_FLUSH_BUSY 0 1

/-- The flush level in lines (Table REC-6). -/
def autoLevel (s : State) : Nat := 1024 * min 16 (max 1 (s.f F.REC_CFG_AUTO 0))

/-- A record is written to the keeper ring: it takes the next SEQ, and the flush of AUTO starts at its level (R353, R355). -/
def putRecord (x : RRec) (s : State) : State :=
  let seq := s.rcd.next
  let y := { x with
    seq := seq, hours := s.f F.REC_HOURS_VALUE 0, pcycle := s.f F.REC_PCYCLE_VALUE 0 }
  let s := refreshUnflushed (appendRing 0 y { s with rcd.next := seq % (2 ^ 32 - 1) + 1 })
  if s.b F.REC_CFG_AUTO_EN 0 && s.f F.REC_STAT_UNFLUSHED 0 ≥ autoLevel s then flushStart s else s

/-- A record with no fields set. -/
def RRec.blank : RRec :=
  { seq := 0, line := 0, trigger := 0xFF, src := 0, type := 0, snapped := false, approx := false, hours := 0, pcycle := 0,
    time := 0, snapId := 0, value := 0, miss := 0, snap := [], braceRef := 0 }

/-- Writes a system record of Table REC-2; `ref` is the SEQ of the BRACE record that a RECOVERED record closes. -/
def sysRecord (type ref : Nat) (s : State) : State :=
  putRecord { RRec.blank with type := type, time := s.stamp.1, approx := s.stamp.2, braceRef := ref } s

/-- Copies a run of records to the MRAM ring while the limit of lines holds; answers the lines copied. -/
def flushCopy : List RRec → Nat → State → State × Nat
  | [], used, s => (s, used)
  | x :: rest, used, s =>
    let k := recLines x.snap.length
    if used + k > 16384 then (s, used) else flushCopy rest (used + k) (appendRing 1 x s)

/-! ### Performance counters -/

/-- Joins an action to the pending one, or schedules it for 1,000 ns from now; FREEZE and THAW replace each other (R366,
R367). Bits as in PMC_CMD: 1 SNAP, 2 FREEZE, 4 THAW, 8 CLEAR. -/
def pmcSchedule (bits : Nat) (s : State) : State :=
  let old := if s.b F.PMC_STAT_PENDING 0 then s.pmc.action else 0
  let old := if bits.testBit 1 then old &&& 0b11011 else if bits.testBit 2 then old &&& 0b11101 else old
  let strike := if s.b F.PMC_STAT_PENDING 0 then s.pmc.strike else s.env.now + 1000
  let struck := s.b F.PMC_STAT_PENDING 0 && s.pmc.struck
  { s with pmc.action := old ||| bits, pmc.strike := strike, pmc.struck := struck }.setf F.PMC_STAT_PENDING 0 1

/-- Cycle rate of a counter block in MHz (Table REC-4). -/
def blockMHz (b : Nat) : Nat :=
  if b < 40 then 1350 else if b < 104 then 1200 else if b < 120 then 1500 else if b < 128 then 1125 else 200

/-- The domain of a counter block is on (the abutment's block always). -/
def blockOn (s : State) (b : Nat) : Bool := match blockDomain b with | some d => domOn s d | none => true

/-- The cycle counter of a block. -/
def blockCycles (s : State) (b : Nat) : Nat :=
  if !blockOn s b then 0
  else if s.pmc.frozen.contains b then SMap.get 0 s.pmc.frozenAt b
  else (s.env.now - SMap.get 0 s.pmc.cycBase b) * blockMHz b / 1000

/-- A block's counters when its domain returns: they neither counted nor kept their values (R361). -/
def blockReset (b : Nat) (s : State) : State :=
  let s := forRange 16 (fun j s => s.clearReg .PMC_CNT (16 * b + j)) s
  let s := s.setf F.PMC_BSTAT_OVF b 0
  { s with pmc.cycBase := SMap.put 0 s.pmc.cycBase b s.env.now }

/-! ### Triggers (R349, R350) -/

/-- Sources above 6 act as 0. -/
def trigSrc (s : State) (t : Nat) : Nat := if s.f F.REC_TRGCFG_SRC t > 6 then 0 else s.f F.REC_TRGCFG_SRC t

/-- A trigger fires, or is absorbed by its hold-off; firing signals vector 2 (Table HOST-3). `at_` is the stamp of the event. -/
def fire (t src v : Nat) (at_ : Nat × Bool) (s : State) : State :=
  if s.rcd.holdT.contains t || s.rcd.holdR.contains t then s.satf F.REC_TRGCNT_MERGED t 1 else
  let s := { s with rcd.build := s.rcd.build ++ [(⟨t, src, v, at_.1, at_.2⟩ : RBuild)], rcd.holdR := s.rcd.holdR ++ [t] }
  let s := msixOwner 2 s
  let s := if s.f F.REC_TRGCFG_HOLDOFF t = 0 then s else { s with rcd.holdT := s.rcd.holdT ++ [t] }
  let s := if s.b F.REC_TRGCFG_ONESHOT t then s.setf F.REC_TRGCFG_EN t 0 else s
  if s.b F.REC_TRGCFG_SNAP t then pmcSchedule 1 s else s

/-- Offers an event to the triggers in ascending order (R350): source `src`, value `v`, the stamp of the event. -/
def trigEvent (src v : Nat) (at_ : Nat × Bool) (s : State) : State :=
  forRange 32 (fun t s =>
    if s.b F.REC_TRGCFG_EN t && trigSrc s t == src &&
      (v &&& s.f F.REC_TRGMATCH_MASK t) == (s.f F.REC_TRGMATCH_VALUE t &&& s.f F.REC_TRGMATCH_MASK t)
    then fire t src v at_ s else s) s

/-! ### Modes (R400) -/

/-- The current mode: 0 Standby, 1 Configure, 2 Transparent, 3 Partitioned, 4 Fabric, 5 Reduced, 6 quarantine. -/
def mode (s : State) : Nat := s.f F.GLB_MODE_MODE 0
/-- An operating mode, Reduced included (R401). -/
def operating (s : State) : Bool := 2 ≤ mode s && mode s ≤ 5

/-- A change of mode is offered to triggers of SRC 6 (R400). -/
def setMode (m : Nat) (s : State) : State :=
  if mode s = m then s else trigEvent 6 m s.stamp (s.setf F.GLB_MODE_MODE 0 m)

/-! ### Counts (R362, R363) -/

/-- What a wrap does beside the count: the sticky OVF bit and, with INT_EN, the triggers of SRC 2, the vector of counter
overflow and the COUNTER event of the named duty. -/
def counterWrap (b k : Nat) (s : State) : State :=
  let s := s.setBitf F.PMC_BSTAT_OVF b k true
  if !s.b F.PMC_EVT_INT_EN (8 * b + k) then s else
  let s := msixOwner srcCounter (trigEvent 2 (k * 256 + b) s.stamp s)
  if s.b F.PMC_BCTL_DUTY_EN b then
    offer (s.f F.PMC_BCTL_PIER b) (s.f F.PMC_BCTL_DUTY b) (.counter b) s
  else s

/-- Counts `n` occurrences of an event in a block; `sub` says which selectors the occurrences have. -/
def count (b ev : Nat) (sub : Nat → Bool) (n : Nat) (s : State) : State :=
  if !blockOn s b || s.pmc.frozen.contains b then s else
  forRange 8 (fun k s =>
    if s.b F.PMC_EVT_EN (8 * b + k) && s.f F.PMC_EVT_EVENT (8 * b + k) == ev && sub (s.f F.PMC_EVT_SUB (8 * b + k)) then
      let v := s.rd64 .PMC_CNT (16 * b + 2 * k) + n
      let s := s.wr64 .PMC_CNT (16 * b + 2 * k) (v % 2 ^ 48)
      if v ≥ 2 ^ 48 then counterWrap b k s else s
    else s) s

/-- A selector that names a port of a span, or 4 for all. -/
def subPort (p sub : Nat) : Bool := sub == p % 4 || sub == 4
/-- A selector that names a class, or 4 for all. -/
def subClass (c sub : Nat) : Bool := sub == c || sub == 4
/-- No selector. -/
def subAny (_ : Nat) : Bool := true

end Sys2Proof.Machine
end

