-- ==== Sys2Proof/Machine/Gates.lean ====
section
/-! DEFINITION. Gates, keys and tenants (R230 to R247): tags and keys, slot limits and parts, the tenant of a requester, the
gate log, the overlap check. -/

namespace Sys2Proof.Machine

/-- A key matches a tag: key 0, tag 0, or equal (R236). -/
def keyMatches (key tag : Nat) : Bool := key == 0 || tag == 0 || key == tag

/-- Window `w` of slot `z`: base, limit, tag, DEBUG_VISIBLE, if valid (R232). -/
structure Window where
  base : Nat
  limit : Nat
  tag : Nat
  dv : Bool
  deriving DecidableEq, Repr

/-- Base of window `w` of slot `z`. -/
def winBase (s : State) (z w : Nat) : Nat := s.rd64 .GTE_WBASE (8 * z + 2 * w)
/-- Limit of window `w` of slot `z`. -/
def winLimit (s : State) (z w : Nat) : Nat := s.rd64 .GTE_WLIMIT (8 * z + 2 * w)

/-- The window, if it is in force. -/
def window (s : State) (z w : Nat) : Option Window :=
  if s.b F.GTE_WATTR_VALID (4 * z + w) then
    some ⟨winBase s z w, winLimit s z w, s.f F.GTE_WATTR_TAG (4 * z + w), s.b F.GTE_WATTR_DEBUG_VISIBLE (4 * z + w)⟩
  else none

/-- The valid windows of a slot. -/
def windows (s : State) (z : Nat) : List Window := (List.range 4).filterMap (window s z)

/-- The window that holds an address. -/
def windowAt (s : State) (z a : Nat) : Option Window := (windows s z).find? (fun w => w.base ≤ a && a ≤ w.limit)

/-- The tag of a byte: its window's, or DEFTAG for an uncovered byte (R232). -/
def tagAt (s : State) (z a : Nat) : Nat := match windowAt s z a with | some w => w.tag | none => s.f F.GTE_SLOT_DEFTAG z
/-- The DEBUG_VISIBLE attribute of a byte (R232). -/
def dvAt (s : State) (z a : Nat) : Bool := match windowAt s z a with | some w => w.dv | none => s.b F.GTE_SLOT_DEF_DV z

/-- The slot limit of an address (R233). -/
def slotLimit (s : State) (z a : Nat) : Nat :=
  match windowAt s z a with
  | some w => w.limit
  | none => ((windows s z).filter (fun w => w.base > a)).foldl (fun m w => min m (w.base - 1)) (2 ^ 64 - 1)

/-- The key of a requester: a tenant's key, the sideband's, or the debug master's own matching rule (R235, R237). -/
inductive Keyed where
  | key (k : Nat)
  | debug
  deriving DecidableEq, Repr

/-- Life-cycle states (Table KEY-6): 0 BLANK, 1 DEVELOP, 2 FIELD, 3 RETURN, 4 SCRAPPED. -/
def lcState (s : State) : Nat := s.f F.KEY_STAT_LCSTATE 0

/-- The gate's decision on a byte of a slot (R236, Table GTE-2). -/
def allowed (s : State) (k : Keyed) (z a : Nat) : Bool :=
  match k with
  | .key k => keyMatches k (tagAt s z a)
  | .debug =>
    match lcState s with
    | 2 => dvAt s z a
    | 4 => false
    | _ => true

/-- A part of a request: its offset within the request, its length, whether it is allowed, and the tag that decided. -/
structure Part where
  off : Nat
  len : Nat
  ok : Bool
  tag : Nat
  deriving DecidableEq, Repr

/-- The parts of a request of `n` bytes from `a`, cut at every slot limit (R240); at most `fuel` of them. -/
def parts (s : State) (k : Keyed) (z a : Nat) : Nat → Nat → Nat → List Part
  | 0, _, _ => []
  | fuel + 1, off, n =>
    if n = 0 then [] else
    let len := min n (slotLimit s z (a + off) + 1 - (a + off))
    let len := if len = 0 then n else len
    ⟨off, len, allowed s k z (a + off), tagAt s z (a + off)⟩ :: parts s k z a fuel (off + len) (n - len)

/-- The decision of the gate: a request that does not cross is one part decided by its first byte (main path, R239); one
that crosses is split (fall-back path, R240). A slot has at most nine ranges, so nine parts are enough. -/
def gateParts (s : State) (k : Keyed) (z a n : Nat) : List Part :=
  if a + n ≤ slotLimit s z a + 1 then [⟨0, n, allowed s k z a, tagAt s z a⟩] else parts s k z a 9 0 n

/-- The tenant of a request that enters at a port: the first matching entry of the pier's table, otherwise the port's
default (R234). -/
def tenantOf (s : State) (p rid : Nat) (pasid : Option Nat) : Nat :=
  let n := pierOf p
  let hit (i : Nat) : Bool :=
    let e := 256 * n + i
    s.b F.TNT_ENTCTL_VALID e && s.f F.TNT_ENTCTL_PORT e == p &&
      s.f F.TNT_ENTRID_RID_LO e ≤ rid && rid ≤ s.f F.TNT_ENTRID_RID_HI e &&
      (!s.b F.TNT_ENTCTL_PASID_EN e ||
        (match pasid with
         | some v => s.f F.TNT_ENTPASID_PASID (2 * e) ≤ v && v ≤ s.f F.TNT_ENTPASID_PASID (2 * e + 1)
         | none => false))
  match (List.range 256).find? hit with
  | some i => s.f F.TNT_ENTCTL_TENANT (256 * n + i)
  | none => s.f F.TNT_PORTDEF_TENANT p

/-- The key a module holds for a tenant (R235). -/
def tenantKey (s : State) (u : Nat) : Nat := s.f F.TNT_KEY_KEY u

/-- The piers that hold a requester of tenant `u`: valid entries, and the defaults of ports that exist (R158). -/
def tenantPiers (s : State) (u : Nat) : List Nat :=
  (List.range 8).filter (fun n =>
    (List.range 256).any (fun i => s.b F.TNT_ENTCTL_VALID (256 * n + i) && s.f F.TNT_ENTCTL_TENANT (256 * n + i) == u) ||
    (List.range 16).any (fun q => portExists s (16 * n + q) && s.f F.TNT_PORTDEF_TENANT (16 * n + q) == u))

/-- Every requester of a tenant enters through ports of one pier (R158). -/
def onePier (s : State) (u : Nat) : Bool := (tenantPiers s u).length ≤ 1

/-- PIR_TSCFG.ACTIVE: pier `n` is the pier of tenant `u` (Table CLS-14), by the tenant table and the ports as they stand. -/
def tenantActive (s : State) (n u : Nat) : Bool := (tenantPiers s u).head? == some n

/-- One entry of a gate log (Table GTE-17): origin 0 port, 1 sideband, 2 debug master. -/
structure GateLog where
  log : Nat
  origin : Nat
  write : Bool
  port : Nat
  tenant : Nat
  tag : Nat
  rid : Nat
  slot : Nat
  addr : Nat
  len : Nat
  off : Nat
  deriving DecidableEq, Repr

/-- Writes a refusal into its gate log, counts it in its pier, and reports it as a Contained error, cause 0x14 (R242). -/
def gateLog (g : GateLog) (s : State) : State :=
  let i := s.f F.GTE_LOGSTAT_NEXT g.log
  let total := s.f F.GTE_LOGSTAT_TOTAL g.log
  let base := 128 * g.log + 8 * i
  -- the entry sequence number counts on from the newest entry, 1 to 2^32 - 1
  let prev := (s.rd .GTE_LOGE (128 * g.log + 8 * ((i + 15) % 16))).toNat
  let seq := BitVec.ofNat 32 (if total = 0 then 1 else prev % (2 ^ 32 - 1) + 1)
  let w1 := g.origin * 2 ^ 30 + (if g.write then 2 ^ 29 else 0) + g.port % 128 * 2 ^ 22 + g.tenant % 512 * 2 ^ 12 + g.tag % 1024
  let w2 := g.rid % 65536 * 65536 + g.slot % 256
  let w5 := g.len % 8192 * 65536 + g.off % 8192
  let s := s.wr .GTE_LOGE base seq
  let s := s.wr .GTE_LOGE (base + 1) (BitVec.ofNat 32 w1)
  let s := s.wr .GTE_LOGE (base + 2) (BitVec.ofNat 32 w2)
  let s := s.wr64 .GTE_LOGE (base + 3) g.addr
  let s := s.wr .GTE_LOGE (base + 5) (BitVec.ofNat 32 w5)
  let s := s.wr .GTE_LOGE (base + 6) 0
  let s := s.wr .GTE_LOGE (base + 7) seq
  let s := s.setf F.GTE_LOGSTAT_NEXT g.log ((i + 1) % 16)
  let s := s.satf F.GTE_LOGSTAT_TOTAL g.log 1
  let s := if g.log < 8 then count (32 + g.log) 0x108 subAny 1 s else s
  pushRecVs (if g.origin = 0 then vsOfPort s g.port else none) (if g.log = 8 then 25 else g.log) 0x14 g.slot s

/-- Two windows share a byte. -/
def overlap (b1 l1 b2 l2 : Nat) : Bool := b1 ≤ l2 && b2 ≤ l1

end Sys2Proof.Machine
end

