-- ==== Sys2Proof/Machine/Caisson.lean ====
section
/-! DEFINITION. The caisson (R127 to R148): channels, spill pages, landing memory, retirement, wipes, and the completions
the SY256 makes itself. -/

namespace Sys2Proof.Machine

/-! ### Channels -/

/-- A channel is LIVE (Table CSN-14). -/
def chanLive (s : State) (c : Nat) : Bool := s.bitf F.CSN_STAT_CH_LIVE 0 c

/-- A channel's state, with CSN_STAT kept in step. -/
def setChan (c st : Nat) (s : State) : State :=
  let s := s.setf F.CSN_CHSTAT_STATE c st
  let s := s.setBitf F.CSN_STAT_CH_LIVE 0 c (st == 0)
  s.setBitf F.CSN_STAT_CH_FAILED 0 c (st == 1)

/-- Landing memory size in bytes (R129). -/
def lmBytes (s : State) : Nat := s.f F.CSN_CFG_LM_SIZE 0 * 2 ^ 28

/-- The spill pages of a channel's share of the pool (Table CSN-3). -/
def poolPages (s : State) (c : Nat) : Nat :=
  ((if c = 0 then 25165824 else 29360128) - s.f F.CSN_CFG_LM_SIZE 0 * 524288) / 64

/-- Free pages of a channel. -/
def freePages (s : State) (c : Nat) : Nat :=
  if chanLive s c then poolPages s c - SMap.get 0 s.csn.used c else 0

/-- Pages held by a pier's flows. -/
def pierPages (s : State) (n : Nat) : Nat :=
  ((s.csn.flows.filter (fun e => e.1 / 16384 == n)).map (fun e => e.2.pages.length)).sum

/-- Spilled flows of a pier. -/
def pierFlows (s : State) (n : Nat) : Nat := (s.csn.flows.filter (fun e => e.1 / 16384 == n)).length

/-- CSN_PSPILL of a pier and CSN_POOL kept in step. -/
def refreshSpill (n : Nat) (s : State) : State :=
  let s := s.setf F.CSN_PSPILL_USED n ((pierPages s n + 1023) / 1024)
  let s := s.setf F.CSN_PSPILL_FLOWS n (pierFlows s n)
  s.setf F.CSN_POOL_FREE_PAGES 0 (((List.range 8).map (freePages s)).sum)

/-! ### Spill (R133 to R135) -/

/-- The flow is SPILLED. -/
def spilled (s : State) (f : Nat) : Bool := (SMap.find? s.csn.flows f).isSome

/-- The next live channel with a free page, round-robin. -/
def nextPageChan (s : State) : Option Nat :=
  ((List.range 8).map (fun k => (s.csn.rr + k) % 8)).find? (fun c => freePages s c > 0)

/-- Whether the conditions of R133 let a TLP spill. -/
def maySpill (s : State) (c : Carried) : Bool :=
  let cls := classOf s c.tlp.tc
  let n := pierOf c.inP
  let fl := SMap.find? s.csn.flows c.flow
  let room := match fl with | some x => x.blocks + 2 * c.cells ≤ 64 * x.pages.length | none => false
  (cls ≥ 2 || (cls = 1 && spillAttr s c.tlp.tc)) && s.b F.CSN_CFG_SPILL_EN 0 && !s.csn.spillStop && !s.csn.shed &&
    !s.mode.wiping &&
    pierPages s n < s.f F.CSN_PQUOTA_PAGES n && ((nextPageChan s).isSome || room) && (fl.isSome || pierFlows s n < 2048)

/-- The first free page of a channel's pool (which free page a controller takes is a DESIGN CHOICE, log entry 80). -/
def freshPage (s : State) (ch : Nat) : Nat :=
  let used := s.csn.flows.flatMap (fun e => e.2.pages)
  ((List.range (SMap.get 0 s.csn.used ch + 1)).map (ch * 2 ^ 22 + ·)).find? (fun n => !used.contains n) |>.getD (ch * 2 ^ 22)

/-- The channel of a page. -/
def pageChan (pg : Nat) : Nat := pg / 2 ^ 22

/-- The channel and data block of block `j` of a flow's page queue (R129). -/
def spillBlock (s : State) (x : SpillFlow) (j : Nat) : Nat × Nat :=
  let pg := x.pages.getD (j / 64) 0
  (pageChan pg, s.f F.CSN_CFG_LM_SIZE 0 * 524288 + 64 * (pg % 2 ^ 22) + j % 64)

/-- Takes pages for a flow until it holds `k` of them or none is free. A TLP that needs two pages when one is free is stored on what
there is (DESIGN CHOICE, log entry 80). -/
def takePages (f : Nat) : Nat → State → State
  | 0, s => s
  | k + 1, s =>
    match nextPageChan s with
    | none => s
    | some ch =>
      let x := (SMap.find? s.csn.flows f).getD ⟨[], [], 0, 0⟩
      takePages f k { s with
        csn.flows := SMap.ins s.csn.flows f { x with pages := x.pages ++ [freshPage s ch] },
        csn.used := SMap.put 0 s.csn.used ch (SMap.get 0 s.csn.used ch + 1),
        csn.rr := (ch + 1) % 8 }

/-- Writes a TLP to the spill pool: its flow is SPILLED, two blocks to a cell (R133, R134). -/
def spill (c : Carried) (s : State) : State :=
  let x := (SMap.find? s.csn.flows c.flow).getD ⟨[], [], 0, 0⟩
  let x := { x with tlps := x.tlps ++ [c], blocks := x.blocks + 2 * c.cells }
  let need := (x.blocks + 63) / 64 - x.pages.length
  let s := { s with csn.flows := SMap.ins s.csn.flows c.flow x }
  refreshSpill (pierOf c.inP) (takePages c.flow need s)

/-- Frees every page of a flow and closes its queue (Table CSN-4). -/
def closeSpill (f : Nat) (s : State) : State :=
  match SMap.find? s.csn.flows f with
  | none => s
  | some x =>
    let used := (x.pages.map pageChan).foldl (fun m ch => SMap.put 0 m ch (SMap.get 0 m ch - 1)) s.csn.used
    refreshSpill (f / 16384) { s with csn.flows := SMap.del s.csn.flows f, csn.used := used }

/-- Some TLP of the flow is held. -/
def flowHeld (s : State) (f : Nat) : Bool := s.ports.hold.any (fun e => e.2.any (fun h => h.c.flow == f))

/-- Takes the head TLP of a spilled flow out of the pool, freeing each page as it empties; an empty queue with no TLP of the
flow held returns the flow to NORMAL (Table CSN-4). -/
def popSpill (f : Nat) (s : State) : State × Option Carried :=
  match SMap.find? s.csn.flows f with
  | none => (s, none)
  | some x =>
    match x.tlps with
    | [] => (closeSpill f s, none)
    | c :: rest =>
      let read := x.read + 2 * c.cells
      let k := if rest.isEmpty then x.pages.length else read / 64
      let used := ((x.pages.take k).map pageChan).foldl (fun m ch => SMap.put 0 m ch (SMap.get 0 m ch - 1)) s.csn.used
      let y : SpillFlow := ⟨rest, x.pages.drop k, x.blocks - 64 * k, read - 64 * k⟩
      let s := { s with csn.flows := SMap.ins s.csn.flows f y, csn.used := used }
      let s := if rest.isEmpty && !flowHeld s f then closeSpill f s else s
      (refreshSpill (f / 16384) s, some c)

/-- Discards the spilled and held TLPs of every flow of a port (Table CSN-4, step 3 of Table CONT-5). -/
def discardPortTlps (p : Nat) (s : State) : State :=
  let mine := (s.csn.flows.filter (fun e => flowHas e.1 p)).map (·.1)
  let s := forEach mine closeSpill s
  let s := { s with ports.hold := (s.ports.hold.map (fun (e : Nat × List Held) =>
      (e.1, e.2.filter (fun h => !(h.c.inP == p || h.c.outP == p))))).filter (fun e => !e.2.isEmpty) }
  let gone := s.ports.wait5.filter (fun e => flowHas e.1 p)
  let s := forEach gone (fun e s => forEach e.2 (fun c s =>
    if c.mc.isEmpty then release c.inP (classOf s c.tlp.tc) 0 c.cells s else mcDec (pierOf c.inP) c.root c s) s) s
  { s with ports.wait5 := s.ports.wait5.filter (fun e => !flowHas e.1 p) }

/-! ### Landing memory (R130, R137 to R143) -/

/-- The channel of a landing offset (R130). -/
def landChan (a : Nat) : Nat := a / 4096 % 8
/-- The data block of a landing offset within its channel (R130). -/
def landBlock (a : Nat) : Nat := 64 * (a / 32768) + a / 64 % 64

/-- A byte of landing memory; memory that nothing has written holds the zeros of the wipe (R144). -/
def landRd (s : State) (a : Nat) : Byte := SMap.get 0 s.csn.mem a
/-- Bytes of landing memory from `a`. -/
def landRdN (s : State) (a n : Nat) : List Byte := (List.range n).map (fun i => landRd s (a + i))
/-- A byte stored. -/
def landWr (a : Nat) (v : Byte) (s : State) : State := { s with csn.mem := SMap.put 0 s.csn.mem a v }
/-- Bytes stored from `a`. -/
def landWrN (a : Nat) (l : List Byte) (s : State) : State :=
  (l.foldl (fun (x : Nat × State) v => (x.1 + 1, landWr x.1 v x.2)) (a, s)).2

/-- The colour tag of the block at a landing offset. -/
def blockTag (s : State) (a : Nat) : Nat := SMap.get 0 s.csn.tag (a / 64)

/-- Zeros a block; it keeps its TAG (R143). -/
def wipeBlock (b : Nat) (s : State) : State :=
  { s with
    csn.mem := s.csn.mem.filter (fun e => e.1 / 64 != b),
    csn.poison := SMap.del s.csn.poison b,
    csn.bad := SMap.del s.csn.bad b }

/-- An access to a block that the running hot-reset scan owns and has not reached first wipes it (R143). -/
def scanTouch (b : Nat) (s : State) : State :=
  let tag := SMap.get 0 s.csn.tag b
  if tag != 0 && s.csn.scanKeys.contains tag && !s.csn.scanned.contains b then
    { wipeBlock b s with csn.scanned := s.csn.scanned ++ [b] }
  else s

/-- The scan ends: every owned block that no access has wiped is wiped (R143). -/
def scanFinish (s : State) : State :=
  let keep (b : Nat) : Bool :=
    let tag := SMap.get 0 s.csn.tag b
    !(tag != 0 && s.csn.scanKeys.contains tag) || s.csn.scanned.contains b
  { s with
    csn.mem := s.csn.mem.filter (fun e => keep (e.1 / 64)),
    csn.poison := s.csn.poison.filter (fun e => keep e.1),
    csn.bad := s.csn.bad.filter (fun e => keep e.1),
    csn.scanKeys := [], csn.scanned := [] }

/-- Landing memory can be reached at an offset: available, and the granule's channel live (R145, R147). -/
def landAvail (s : State) (a : Nat) : Bool :=
  s.f F.CSN_STAT_LM_STATE 0 != 1 && !inQuar s && chanLive s (landChan a)

/-- The spare blocks of a channel that the remap list has taken, which it takes in ascending order. -/
def sparesUsed (s : State) (ch : Nat) : Nat :=
  s.csn.remap.foldl (fun n e => if e.1 / 2 ^ 25 = ch then max n (e.2 + 1) else n) 0
/-- What CSN_CHSTAT.SPARE_LEFT reports (R132). -/
def spareLeft (s : State) (ch : Nat) : Nat := 466033 - sparesUsed s ch

/-- Retires a data block to the next free spare block of its channel, also one whose spare is bad (R131); with none left the result
says so (R132). -/
def retire (ch blk : Nat) (s : State) : State × Bool :=
  if spareLeft s ch = 0 then (s, false)
  else ({ s with csn.remap := SMap.ins s.csn.remap (ch * 2 ^ 25 + blk) (sparesUsed s ch) }, true)

/-! ### Order of service (R136, R146) -/

/-- The bytes that a landing request covers. -/
def landLen (t : Tlp) : Nat :=
  match t.kind with
  | .memRd => t.len
  | .atomic .cas => t.data.length / 2
  | _ => t.data.length

/-- The channels that a landing request touches, the first first. -/
def landChans (r : LandReq) : List Nat :=
  let a := r.c.tlp.addr
  (List.range ((a + landLen r.c.tlp - 1) / 4096 - a / 4096 + 1)).map (fun i => landChan (a + 4096 * i))

/-- The head TLP of a spilled flow may be read back: its account admits it with RB_HEADROOM slots to spare (R135). -/
def backReady (s : State) (x : SpillFlow) : Bool :=
  match x.tlps with
  | [] => false
  | c :: _ => admits s c.inP (classOf s c.tlp.tc) 0 c.cells (s.f F.CSN_CFG_RB_HEADROOM 0)

/-- The channels of the head TLP of a spilled flow. -/
def backChans (s : State) (x : SpillFlow) : List Nat :=
  match x.tlps with
  | [] => []
  | c :: _ => ((List.range (2 * c.cells)).map (fun j => (spillBlock s x (x.read + j)).1)).eraseDups

/-- A request of a class waits at a channel: 1 journal, 2 landing and read-back, 4 tag-set and retirement copies. A spill write goes
with its TLP and is seen only by the read-back behind it. -/
def chanPending (s : State) (ch k : Nat) : Bool :=
  match k with
  | 1 => ch == 0 && !s.b F.JNL_STAT_CHKPT_BUSY 0 && s.jrn.fifo.any (fun e => !e.2.isEmpty)
  | 2 => s.csn.landq.head?.any (fun r => (landChans r).contains ch)
      || s.csn.flows.any (fun e => (backChans s e.2).contains ch && backReady s e.2)
  | 4 => s.csn.tagset.isSome || s.csn.copying.any (fun k => k / 2 ^ 25 == ch)
  | _ => false

/-- A class is served at a channel: one that has waited 4 µs before all others, otherwise the first in the order of R136. -/
def granted (s : State) (ch k : Nat) : Bool :=
  let late (j : Nat) : Bool := chanPending s ch j &&
    (match SMap.find? s.csn.waitAt (8 * ch + j) with | some t => t + 4000 ≤ s.env.now | none => false)
  match [1, 2, 4].find? late with
  | some j => j == k
  | none => (List.range k).all (fun j => !chanPending s ch j)

/-- Serves a request of a class at its channels, or leaves it waiting from now. -/
def serve (chs : List Nat) (k : Nat) (go : State → State) (s : State) : State :=
  if chs.all (fun ch => granted s ch k) then
    go { s with csn.waitAt := chs.foldl (fun m ch => SMap.del m (8 * ch + k)) s.csn.waitAt }
  else { s with csn.waitAt := chs.foldl (fun m ch =>
    if (SMap.find? m (8 * ch + k)).isSome then m else SMap.ins m (8 * ch + k) s.env.now) s.csn.waitAt }

/-- A landing access gives way to a read-back that is ready at its first channel, when that has its turn or while the brace sheds the
spill pool (R136, R146). -/
def landYields (s : State) (r : LandReq) : Bool :=
  let ch := (landChans r).headD 0
  (s.csn.shed || s.csn.backTurn.contains ch) &&
    s.csn.flows.any (fun e => (backChans s e.2).head? == some ch && backReady s e.2)

/-- A read-back gives way to a landing access at its first channel that has its turn. -/
def backYields (s : State) (x : SpillFlow) : Bool :=
  let ch := (backChans s x).headD 0
  !s.csn.shed && !s.csn.backTurn.contains ch && s.csn.landq.head?.any (fun r => (landChans r).head? == some ch)

/-- The turn at a channel passes to a read-back, or to a landing access. -/
def setTurn (ch : Nat) (back : Bool) (s : State) : State :=
  let rest := s.csn.backTurn.filter (· != ch)
  { s with csn.backTurn := if back then rest ++ [ch] else rest }

/-! ### Wipes (R144) -/

/-- A channel's blocks are zero, so every TAG is 0. -/
def wipeChan (ch : Nat) (s : State) : State :=
  let keep (b : Nat) : Bool := landChan (64 * b) != ch
  { s with
    csn.mem := s.csn.mem.filter (fun e => keep (e.1 / 64)),
    csn.tag := s.csn.tag.filter (fun e => keep e.1),
    csn.poison := s.csn.poison.filter (fun e => keep e.1),
    csn.bad := s.csn.bad.filter (fun e => keep e.1),
    jrn.region := if ch = 0 then [] else s.jrn.region }

/-- Sets the TAG of a run of blocks, keeping data and POISON (R142). -/
def setTags (base n tag : Nat) (s : State) : State :=
  { s with csn.tag := ((List.range n).foldl (fun m i => SMap.put 0 m (base / 64 + i) tag) s.csn.tag) }

end Sys2Proof.Machine
end

