-- ==== Sys2Proof/Machine/Container.lean ====
section
/-! DEFINITION. What flash holds: programming and reading a bank, the Voxraup container (R304 to R307, Tables IMG-2 to IMG-5) and a
keystone stage copy (R422, Table KEY-2), read from their bytes. -/

namespace Sys2Proof.Machine

/-! ### Flash (R302, R421, R463) -/

/-- Programs bytes at an offset: programming only clears bits. An unlisted byte holds 0xFF, or in a part that still holds its
production contents that byte. -/
def Bank.program (b : Bank) (off : Nat) (data : List Byte) : Bank :=
  { b with bytes := (data.foldl (fun (a : Nat × SMap Byte) w =>
      (a.1 + 1, SMap.put 0xFF a.2 a.1 (SMap.get 0xFF a.2 a.1 &&& w))) (off, b.bytes)).2 }

/-- An erased part. -/
def Bank.erased : Bank := ⟨false, []⟩
/-- It holds nothing. -/
def Bank.empty (b : Bank) : Bool := !b.factory && b.bytes.isEmpty

/-- `n` bytes from offset `i` on, where `made` is what the part held before it was programmed and the list, ascending and from `i` on,
what was programmed. -/
def readOver (made : Nat → Byte) : Nat → Nat → List (Nat × Byte) → List Byte
  | 0, _, _ => []
  | n + 1, i, [] => made i :: readOver made n (i + 1) []
  | n + 1, i, (k, w) :: m =>
    if k = i then (made i &&& w) :: readOver made n (i + 1) m else made i :: readOver made n (i + 1) ((k, w) :: m)

/-- `n` bytes of a part from offset `i` on; `made` is what production left in it (R464). -/
def Bank.read (b : Bank) (made : Nat → Byte) (i n : Nat) : List Byte :=
  readOver (if b.factory then made else fun _ => 0xFF) n i (b.bytes.dropWhile (fun e => e.1 < i))

/-! ### Fields of a byte string -/

/-- `n` bytes at offset `i`. -/
def part (h : List Byte) (i n : Nat) : List Byte := (h.drop i).take n
/-- The little-endian number of `n` bytes at offset `i`. -/
def field (h : List Byte) (i n : Nat) : Nat := leNum (part h i n)
/-- `n` bytes at offset `i` are 0. -/
def blank (h : List Byte) (i n : Nat) : Bool := (part h i n).all (· == 0)
/-- A SHA-384 as a number, first byte lowest. -/
def hash48 (l : List Byte) : Nat := leNum (sha384 l)
/-- The signature at 0xF00 of a 4 KiB header verifies over the bytes before it, under the public key at `i` (Tables IMG-2, KEY-2). -/
def headSigned (h : List Byte) (i : Nat) : Bool := ecdsaVerify (part h i 97) (part h 0 0xF00) (part h 0xF00 96)

/-! ### The image header (R304, Table IMG-2) -/

/-- MAGIC is right. -/
def headMagic (h : List Byte) : Bool := field h 0 4 == 0x50525856
/-- SECVER. -/
def headSecver (h : List Byte) : Nat := field h 0x0F 1
/-- KEYSLOT. -/
def headSlot (h : List Byte) : Nat := field h 0x1B 1
/-- The SHA-384 of PUBKEY. -/
def headKey (h : List Byte) : Nat := hash48 (part h 0x20 97)
/-- The signature verifies. -/
def imageSigned (h : List Byte) : Bool := headSigned h 0x20

/-- A field of directory entry `i` (Table IMG-3). -/
def dirField (h : List Byte) (i o n : Nat) : Nat := field h (0x100 + 64 * i + o) n
/-- OFFSET of a section. -/
def dirOffset (h : List Byte) (i : Nat) : Nat := dirField h i 8 4
/-- LENGTH of a section. -/
def dirLength (h : List Byte) (i : Nat) : Nat := dirField h i 12 4
/-- HASH of a section. -/
def dirHash (h : List Byte) (i : Nat) : Nat := dirField h i 16 48

/-- FMT_VER, DIR_COUNT and every reserved byte of the header are right, the reserved bits of FLAGS and the reserved bytes of the
directory among them (R304; log entry 82). -/
def headForm (h : List Byte) : Bool :=
  field h 4 2 == 1 && field h 6 2 == 55 && field h 0x1C 4 < 2 && blank h 0x81 127 && blank h 0xEC0 64 && blank h 0xF60 160 &&
    (List.range 55).all (fun i => blank h (0x100 + 64 * i + 5) 3)

/-- The four letters of a section type (Table IMG-5). -/
def secType (i : Nat) : List Byte :=
  let names : List (List Nat) := [[0x56, 0x53, 0x57, 0x54], [0x52, 0x4F, 0x4D, 0x54], [0x43, 0x4C, 0x53, 0x4D],
    [0x43, 0x53, 0x4E, 0x50], [0x4B, 0x45, 0x45, 0x50], [0x52, 0x45, 0x43, 0x54], [0x54, 0x4E, 0x54, 0x4B],
    [0x53, 0x50, 0x41, 0x4E], [0x42, 0x49, 0x4E, 0x44], [0x50, 0x54, 0x42, 0x4C], [0x47, 0x41, 0x54, 0x45],
    [0x50, 0x52, 0x4F, 0x47], [0x44, 0x55, 0x54, 0x59]]
  (names.getD (if i < 7 then i else 7 + (i - 7) % 6) []).map (BitVec.ofNat 8)

/-- PIER of the section at an index of the directory (R307). -/
def secPier (i : Nat) : Nat := if i < 7 then 0xFF else (i - 7) / 6
/-- TYPE and PIER of the section at an index. -/
def secName (i : Nat) : List Byte := secType i ++ leBytes (secPier i) 1

/-- The directory keeps R305 and R307: the fixed order, sections at ascending multiples of 4,096 above the header that do not overlap
and lie within IMAGE_LEN, which is at most 64 MiB (log entry 82). -/
def dirForm (h : List Byte) : Bool :=
  field h 8 4 ≤ 64 * 2 ^ 20 && (List.range 55).all (fun i =>
    part h (0x100 + 64 * i) 5 == secName i && dirOffset h i % 4096 == 0 && 4096 ≤ dirOffset h i &&
      dirOffset h i + dirLength h i ≤ (if i < 54 then min (dirOffset h (i + 1)) (field h 8 4) else field h 8 4) &&
      (i == 54 || dirOffset h i < dirOffset h (i + 1)))

/-- The section header at an index of the directory keeps R306, with SVER 1: `d` are the section's bytes and `n` its LENGTH. -/
def sectionForm (i n : Nat) (d : List Byte) : Bool :=
  part d 0 5 == secName i && field d 5 1 == 1 && blank d 6 2 && field d 8 4 == n && field d 12 4 * field d 16 4 + 32 == n &&
    (if i ≥ 7 && (i - 7) % 6 == 4 then field d 16 4 == 1 else field d 16 4 % 4 == 0) && blank d 20 12 && d.length ≥ 32

/-! ### The stage header (R422, Table KEY-2) -/

/-- MAGIC of a stage copy is right. -/
def stageMagic (h : List Byte) : Bool := field h 0 4 == 0x4754534B
/-- STAGE_VER. -/
def stageVersion (h : List Byte) : Nat := field h 4 4
/-- BODY_LEN. -/
def stageLength (h : List Byte) : Nat := field h 8 4
/-- SECVER. -/
def stageSecver (h : List Byte) : Nat := field h 0x0C 1
/-- KEYSLOT. -/
def stageSlot (h : List Byte) : Nat := field h 0x0D 1
/-- The SHA-384 of PUBKEY. -/
def stageKey (h : List Byte) : Nat := hash48 (part h 0x10 97)
/-- BODY_HASH. -/
def stageHash (h : List Byte) : Nat := field h 0x80 48
/-- The signature verifies. -/
def stageSigned (h : List Byte) : Bool := headSigned h 0x10

end Sys2Proof.Machine
end

