-- ==== Sys2Proof/Machine/Keystone.lean ====
section
/-! DEFINITION. The keystone (R421 to R438) and the flash: what banks and stage copies hold, key slots,
authorisations, the stage-write service, the Psivin report and the life-cycle wipe. -/

namespace Sys2Proof.Machine

/-! ### Flash (R302, R421, R463) -/

/-- A flash bank: 0 A, 1 B, 2 golden. -/
def bankOf (s : State) (b : Nat) : Bank := SMap.get Bank.erased s.img.bank b
/-- The state with a bank replaced. -/
def setBank (b : Nat) (x : Bank) (s : State) : State := { s with img.bank := SMap.put Bank.erased s.img.bank b x }
/-- A bank that is written or erased shows as EMPTY until its next verification (R303). -/
def bankTouched (b : Nat) (s : State) : State := (s.wr .GLB_BANKSTAT b 0).setf F.GLB_BANKSTAT_STATE b 3
/-- `n` bytes of a bank from offset `i` on. -/
def bankBytes (s : State) (b i n : Nat) : List Byte := (bankOf s b).read Config.imageByte i n
/-- The 4 KiB header of the image in a bank. -/
def imageHead (s : State) (b : Nat) : List Byte := bankBytes s b 0 4096
/-- The bytes of a section of the image in a bank. -/
def sectionBytes (s : State) (b i : Nat) : List Byte :=
  let h := imageHead s b
  bankBytes s b (dirOffset h i) (dirLength h i)
/-- The image that a bank holds (R304 to R307; the sections' contents: log entry 6). -/
def imageIn (s : State) (b : Nat) : Image :=
  let h := imageHead s b
  { Config.contentOf ((List.range 55).map (sectionBytes s b)) with
    len := field h 8 4, mode := field h 0x0E 1, secver := headSecver h, build := field h 0x10 8, fabric := field h 0x18 2,
    module := field h 0x1A 1, developOnly := field h 0x1C 4 % 2 == 1, hashes := (List.range 55).map (dirHash h) }
/-- A stage copy. -/
def stageBank (s : State) (c : Nat) : Bank := SMap.get Bank.erased s.key.stage c
/-- `n` bytes of a stage copy from offset `i` on. -/
def stageBytes (s : State) (c i n : Nat) : List Byte := (stageBank s c).read Config.stageByte i n
/-- The 4 KiB header of a stage copy. -/
def stageHead (s : State) (c : Nat) : List Byte := stageBytes s c 0 4096

/-! ### Key slots and nonces (R426, R427) -/

/-- A slot's state: 0 EMPTY, 1 PROVISIONED, 2 REVOKED. -/
def slotState (s : State) (k : Nat) : Nat := s.f F.KEY_SLOT_STATE k
/-- A slot's key hash as a number, first byte lowest. -/
def slotHash (s : State) (k : Nat) : Nat :=
  leNum ((List.range 12).flatMap (fun i => leBytes (s.rd .KEY_SLOTHASH (12 * k + i)).toNat 4))
/-- The slot is PROVISIONED and holds this key's hash (R308, R423). -/
def slotHolds (s : State) (k h : Nat) : Bool := k < 4 && slotState s k == 1 && slotHash s k == h
/-- The anti-rollback counter. -/
def rollbackCtr (s : State) : Nat := s.f F.KEY_STAT_ROLLBACK 0
/-- The keystone draws a new nonce. -/
def drawNonce (s : State) : State :=
  let n := Config.nonce s.key.drawn % 2 ^ 256
  let s := { s with key.drawn := s.key.drawn + 1, key.nonce := n }
  forRange 8 (fun k s => s.wr .KEY_NONCE k (BitVec.ofNat 32 (n / 2 ^ (32 * k)))) s
/-- AUTHERR is set. -/
def setAuthErr (code : Nat) (s : State) : State := s.setf F.KEY_STAT_AUTHERR 0 code

/-! ### Authorisations (R427 to R429, R436) -/

/-- The 320 bytes of KEY_AUTH (Table KEY-4). -/
def authBytes (s : State) : List Byte := (List.range 80).flatMap (fun k => leBytes (s.rd .KEY_AUTH k).toNat 4)
/-- Bytes [lo, lo + n) of the authorisation. -/
def authPart (s : State) (lo n : Nat) : List Byte := ((authBytes s).drop lo).take n
/-- KIND. -/
def authKind (s : State) : Nat := leNum (authPart s 0 4)
/-- TARGET. -/
def authTarget (s : State) : Nat := leNum (authPart s 4 1)
/-- SIGNER. -/
def authSigner (s : State) : Nat := leNum (authPart s 5 1)

/-- A slot that must stay (R429): the last PROVISIONED one, or one that the active bank, the golden bank or the booted stage copy
names. -/
def slotProtected (s : State) (k : Nat) : Bool :=
  let names (b : Nat) : Bool := !(bankOf s b).empty && headMagic (imageHead s b) && headSlot (imageHead s b) == k
  !((List.range 4).any (fun j => j != k && slotState s j == 1)) || names (s.f F.GLB_IMGSTAT_ACTIVE 0) || names 2 ||
    (match s.key.booted with | some c => stageSlot (stageHead s c) == k | none => false)

/-- The checks common to every authorisation, in the order of the AUTHERR codes; 0 passes. `kind` is the KIND that the command
acts on, `signed` whether SIGNER, PUBKEY and SIGNATURE are checked, `avoid` a slot that may not sign. -/
def authCommon (s : State) (kind : Nat) (signed : Bool) (avoid : Option Nat) : Nat :=
  let zero (lo n : Nat) : Bool := (authPart s lo n).all (· == 0)
  let pub := authPart s 96 97
  if authKind s != kind || !zero 6 2 || !zero 193 31 || (kind != 2 && !zero 48 48) || (kind != 1 && authTarget s ≥ 4) then 1
  else if leNum (authPart s 8 8) != s.rd64 .KEY_SERIAL 0 then 2
  else if leNum (authPart s 16 32) != s.key.nonce then 3
  else if !signed then 0
  else if some (authSigner s) = avoid || !slotHolds s (authSigner s) (hash48 pub) then 4
  else if !ecdsaVerify pub (authPart s 0 224) (authPart s 224 96) then 5
  else 0

/-- The AUTHERR code of a provision attempt (R428). -/
def provisionCheck (s : State) : Nat :=
  let lc := lcState s
  let c := authCommon s 2 (lc != 0) none
  if c != 0 then c
  else if lc > 2 then 6
  else if slotState s (authTarget s) != 0 then 8
  else 0

/-- The AUTHERR code of a revocation attempt (R429). -/
def revokeCheck (s : State) : Nat :=
  let lc := lcState s
  let c := authCommon s 3 true (some (authTarget s))
  if c != 0 then c
  else if lc = 0 || lc = 4 || slotState s (authTarget s) != 1 then 6
  else if slotProtected s (authTarget s) then 7
  else 0

/-- The transitions of R436. -/
def lcMove (s : State) (tgt : Nat) : Bool :=
  let lc := lcState s
  (lc = 0 && tgt = 1 && (List.range 4).any (fun k => slotState s k == 1)) || (lc = 1 && tgt = 2) || (lc = 2 && tgt = 3) ||
    (lc != 4 && tgt = 4)

/-- The AUTHERR code of a life-cycle change to a state. -/
def lifecycleCheck (s : State) (tgt : Nat) : Nat :=
  let c := authCommon s 1 (!(lcState s = 0 && tgt = 4)) none
  if c != 0 then c
  else if authTarget s != tgt || !lcMove s tgt then 6
  else 0

/-! ### KEY_CMD and the stage-write service (R425, R430) -/

/-- An attempt ends: its code is set and a new nonce drawn. -/
def attempt (code : Nat) (s : State) : State := drawNonce (setAuthErr code s)

/-- Provisions slot TARGET from the authorisation; answers whether it was accepted. -/
def provision (s : State) : State × Bool :=
  let code := provisionCheck s
  if code != 0 then (attempt code s, false) else
  let k := authTarget s
  let p := authPart s 48 48
  let s := s.setf F.KEY_SLOT_STATE k 1
  let s := forRange 12 (fun i s => s.wr .KEY_SLOTHASH (12 * k + i) (BitVec.ofNat 32 (leNum ((p.drop (4 * i)).take 4)))) s
  (attempt 0 s, true)

/-- Revokes slot TARGET. -/
def revoke (s : State) : State × Bool :=
  let code := revokeCheck s
  if code != 0 then (attempt code s, false) else (attempt 0 (s.setf F.KEY_SLOT_STATE (authTarget s) 2), true)

/-- The stage-write service is open in this state. -/
def stageOpen (s : State) : Bool := lcState s ≤ 3

/-- Erases a stage copy, unless it booted. -/
def stageErase (c : Nat) (s : State) : State × Bool :=
  if !stageOpen s || s.key.booted = some c then (setAuthErr 9 s, false)
  else (setAuthErr 0 { s with key.stage := SMap.put Bank.erased s.key.stage c Bank.erased }, true)

/-- Programs 32 bits at KEY_STGADDR, which then rises by 4. -/
def stageWrite (privileged : Bool) (w : Word) (s : State) : State × Bool :=
  let a := (s.rd .KEY_STGADDR 0).toNat % 2 ^ 24
  let next (s : State) : State := setAuthErr 0 (s.wr .KEY_STGADDR 0 (BitVec.ofNat 32 ((a + 4) % 2 ^ 24)))
  let data := leBytes w.toNat 4
  if !privileged || !stageOpen s then (setAuthErr 9 s, false)
  else if a < 0x800000 then
    let c := a / 0x400000
    if s.key.booted = some c then (setAuthErr 9 s, false)
    else (next { s with
      key.stage := SMap.put Bank.erased s.key.stage c ((stageBank s c).program (a % 0x400000) data) }, true)
  else if a < 0x801000 && lcState s ≤ 1 then (next { s with key.cert := s.key.cert.program (a % 0x1000) data }, true)
  else (setAuthErr 9 s, false)

/-- A write of KEY_CMD from an origin that R425 names: 1 provisions, 2 revokes, 3 erases the stage copy COPY; any other code is
refused with AUTHERR 1 (R425, R428 to R430). -/
def keyCmd (w : Word) (s : State) : State × Bool :=
  match F.KEY_CMD_CMD.get w with
  | 1 => provision s
  | 2 => revoke s
  | 3 => stageErase (F.KEY_CMD_COPY.get w) s
  | _ => (setAuthErr 1 s, false)

/-! ### Stage verification (R423, R424) -/

/-- A stage copy passes. -/
def stagePasses (s : State) (c : Nat) : Bool :=
  let h := stageHead s c
  !(stageBank s c).empty && stageMagic h && slotHolds s (stageSlot h) (stageKey h) && stageSigned h && stageSecver h ≥ rollbackCtr s &&
    stageLength h ≤ 2 ^ 22 - 4096 && hash48 (stageBytes s c 4096 (stageLength h)) == stageHash h

/-- The copies in the order of STAGE_VER, copy 0 on a tie. -/
def stageOrder (s : State) : List Nat := if stageVersion (stageHead s 0) < stageVersion (stageHead s 1) then [1, 0] else [0, 1]

/-! ### The Psivin report (R433, R434) -/

/-- A byte of the identity certificate area. -/
def certAt (s : State) (i : Nat) : Byte :=
  let w := SMap.get 0xFF s.key.cert.bytes i
  if s.key.cert.factory then Config.certByte i &&& w else w

/-- The length of the certificate: that of its outer DER element (log entry 18). -/
def certLen (s : State) : Nat :=
  let b (i : Nat) : Nat := (certAt s i).toNat
  min 4096 (if b 0 != 0x30 then 0
    else if b 1 < 0x80 then 2 + b 1
    else if b 1 = 0x81 then 3 + b 2
    else if b 1 = 0x82 then 4 + 256 * b 2 + b 3
    else 0)

/-- The report without its signature (Table KEY-5). -/
def reportBody (s : State) (nonce : List Byte) : List Byte :=
  let applied := s.img.applied.isSome
  let n := if applied then 55 else 0
  let head := leBytes 0x4E565350 4 ++ leBytes 1 2 ++ leBytes (lcState s) 1 ++ leBytes (rollbackCtr s) 1
    ++ leBytes (s.rd64 .KEY_SERIAL 0) 8 ++ leBytes (s.f F.REC_PCYCLE_VALUE 0) 4 ++ leBytes 0 4
    ++ leBytes (s.rd64 .GLB_IMGBUILD 0) 8 ++ nonce ++ leBytes n 2
    ++ leBytes (s.f F.GLB_IMGSTAT_LOADED 0) 1 ++ leBytes (s.f F.KEY_STAT_COPY 0) 1 ++ leBytes (certLen s) 4
    ++ leBytes s.key.bootHash 48 ++ leBytes 0 8
  head ++ (List.range n).flatMap (fun i =>
    secName i ++ leBytes 0 3 ++ leBytes (s.img.hashes.getD i 0) 48)

/-- The signed report with the certificate behind it. -/
def reportOf (s : State) (nonce : List Byte) : List Byte :=
  let b := reportBody s nonce
  b ++ ecdsaSign Config.identityPrivate (Config.signNumber b) b ++ (List.range (certLen s)).map (certAt s)

/-! ### The life-cycle wipe of MRAM (R437) -/

/-- MRAM keeps HOURS, PCYCLE, the last SEQ, the sequence reserve and the bank select; the rest is cleared. -/
def mramWipe (s : State) : State :=
  let s := { s with
    rcd.kring := [], rcd.mring := [], rcd.next := 1, rcd.build := [], rcd.holdR := [], rcd.brace := none,
    jrn.ckpt := [], csn.remap := [], csn.copying := [], abt.saved := [], abt.savedEnergy := 0,
    abt.frac := 0, sb.savedLevel := none, mode.fullTest := true }
  let s := forRange 4 (fun i s => (s.wr .REC_RLINE i 0).wr .REC_RSEQ i 0) s
  let s := forRange 2048 (fun i s => s.clearReg .REC_PFLOG i) s
  let s := (s.clearReg .REC_PFSTAT 0).setf F.REC_STAT_UNFLUSHED 0 0
  (s.wr .ABT_ENERGY 0 0).wr .ABT_ENERGY 1 0

end Sys2Proof.Machine
end

