-- ==== Sys2Proof/Machine/Jrnl.lean ====
section
/-! DEFINITION. The journal at rest (R327 to R344): numbering, the ring and the keeper's copy, the threshold, command
descriptors, acceptance and the end of a command. -/

namespace Sys2Proof.Machine

/-! ### Numbering (R328, R329, R341) -/

/-- Slots of the journal region (R329). -/
abbrev slots : Nat := 4194304

/-- The oldest SEQ held, as R342 sets it. -/
def tailOf (s : State) (head : Nat) : Nat :=
  if s.b F.JNL_STAT_CH0_LOST 0 then max 1 (head + 1 - 4096) else max s.jrn.startAt (head + 1 - slots)

/-- JNL_HEAD and JNL_TAIL after a number was given. -/
def setHead (q : Nat) (s : State) : State := (s.wr64 .JNL_HEAD 0 q).wr64 .JNL_TAIL 0 (tailOf s q)

/-- Vector 1 once each time HEAD − JNL_ACK reaches THRESH × 4,096 (R344). -/
def journalThreshold (s : State) : State :=
  let diff := s.rd64 .JNL_HEAD 0 - s.rd64 .JNL_ACK 0
  let reached := s.b F.JNL_CFG_THR_EN 0 && diff ≥ 4096 * max 1 (s.f F.JNL_CFG_THRESH 0)
  if !reached then { s with jrn.thrSent := false }
  else if s.jrn.thrSent then s
  else msixOwner 1 { s with jrn.thrSent := true }

/-- The sequence reserve rises before the next number comes within 32,768 of it (R341). -/
def reserveUp (s : State) : State :=
  if s.jrn.reserve - s.jrn.next ≤ 32768 then { s with jrn.reserve := s.jrn.reserve + 65536 } else s

/-- The selector of the journal's blocks of a channel, or of all (Table REC-5). -/
def subJournal (u : Nat) : Bool := u == 2 || u == 3

/-- A numbered entry put into the keeper's copy, and into its slot of the region while channel 0 holds it (R328, R340). During the
wipe no write reaches the channel (R144); the copy is written back after it (R340). -/
def storeEntry (e : JEntry) (s : State) : State :=
  let copy := s.jrn.copy ++ [e]
  let s := { s with jrn.next := e.seq + 1, jrn.copy := copy.drop (copy.length - 4096), jrn.clean := false }
  if s.b F.JNL_STAT_CH0_LOST 0 || s.mode.wiping then s
  else count 120 0x401 subJournal 1 { s with jrn.region := SMap.put none s.jrn.region (e.seq % slots) (some e) }

/-- The keeper numbers, stamps and writes an entry: into its slot while channel 0 holds the region, and into the keeper's
copy of the newest 4,096 (R328, R329, R148). -/
def numberEntry (r : JReq) (s : State) : State :=
  let s := reserveUp s
  let e : JEntry := ⟨s.jrn.next, s.env.now, s.f F.REC_PCYCLE_VALUE 0, s.b F.CLK_OSC_SRC 0, r⟩
  journalThreshold (setHead e.seq (storeEntry e s))

/-- An entry of the keeper's own: numbered at once, or waiting in the keeper's FIFO while a checkpoint runs (R339). -/
def keeperEntry (r : JReq) (s : State) : State :=
  if s.b F.JNL_STAT_CHKPT_BUSY 0 then jPush 25 r s else numberEntry r s

/-- The keeper's copy written back into its slots; the region holds nothing older (R340, R342). -/
def writeBack (s : State) : State :=
  let region := s.jrn.copy.foldl (fun m (e : JEntry) => SMap.put none m (e.seq % slots) (some e)) []
  let start := match s.jrn.copy with | e :: _ => e.seq | [] => s.jrn.next
  let s := count 120 0x401 subJournal s.jrn.copy.length { s with jrn.region := region, jrn.startAt := start }
  s.wr64 .JNL_TAIL 0 (tailOf s (s.rd64 .JNL_HEAD 0))

/-- The entry of a sequence number's slot; while channel 0 is failed, of the keeper's copy. -/
def slotEntry (s : State) (q : Nat) : Option JEntry :=
  if s.b F.JNL_STAT_CH0_LOST 0 then s.jrn.copy.find? (fun (e : JEntry) => e.seq % slots == q % slots)
  else SMap.get none s.jrn.region (q % slots)

/-- Every held entry, ascending (R342). -/
def heldEntries (s : State) : List JEntry :=
  let t := s.rd64 .JNL_TAIL 0
  let l := if s.b F.JNL_STAT_CH0_LOST 0 then s.jrn.copy
    else ((s.jrn.region.filterMap (fun (e : Nat × Option JEntry) => e.2)).mergeSort (fun a b => a.seq ≤ b.seq))
  l.filter (fun e => t ≤ e.seq)

/-! ### Entries (Tables JNL-1 and JNL-2) -/

/-- Status codes of the journal. -/
abbrev jAccepted : Nat := 0
/-- COMPLETED. -/
abbrev jDone : Nat := 1
/-- FAILED. -/
abbrev jFailed : Nat := 2
/-- INDETERMINATE. -/
abbrev jIndet : Nat := 3
/-- PROGRESS. -/
abbrev jProgress : Nat := 4
/-- NONE. -/
abbrev jNone : Nat := 5

/-- A kind-3 entry: a register write (Table JNL-2). -/
def writeEntry (org : JOrg) (status result off ref : Nat) (val : Word) (be : Nat) (after : Word) : JReq :=
  ⟨3, status, org, result, off, ref, val.toNat + 2 ^ 32 * (be % 16) + 2 ^ 64 * after.toNat⟩

/-- A kind-7 entry: a reset. -/
def resetEntry (vs code arg : Nat) : JReq := ⟨7, jNone, { JOrg.keeper with vs := vs }, 0, code, 0, arg⟩

/-- The 64 bytes of an entry (Table JNL-1). -/
def JEntry.bytes (e : JEntry) : List Byte :=
  let o := e.req.org
  leBytes e.seq 8 ++ leBytes e.time 8 ++ leBytes e.pcycle 4 ++ leBytes (e.req.kind * 16 + e.req.status) 1
    ++ leBytes (o.iface * 32 + (if e.approx then 16 else 0)) 1 ++ leBytes o.port 1
    ++ leBytes (match o.eng with | some g => 128 + g | none => 0) 1 ++ leBytes o.duty 1 ++ leBytes o.vs 1
    ++ leBytes o.rid 2 ++ leBytes o.tenant 2 ++ leBytes e.req.result 2 ++ leBytes e.req.code 4 ++ leBytes e.req.ref 8
    ++ leBytes e.req.arg 16 ++ leBytes e.seq 4

/-! ### Commands (R332 to R338) -/

/-- A byte of a descriptor. -/
def Cmd.byte (c : Cmd) (i : Nat) : Nat := (c.desc.getD i 0).toNat
/-- Bytes [lo, lo + n) of a descriptor as a number. -/
def Cmd.num (c : Cmd) (lo n : Nat) : Nat := leNum ((c.desc.drop lo).take n)
/-- The opcode. -/
def Cmd.op (c : Cmd) : Nat := c.byte 0

/-- The command with a sequence number, if accepted and not yet final. -/
def findCmd (s : State) (q : Nat) : Option Cmd := s.jrn.cmds.find? (fun (c : Cmd) => c.seq == q)

/-- The first command of an opcode that runs. -/
def runningCmd (s : State) (op : Nat) : Option Cmd := s.jrn.cmds.find? (fun (c : Cmd) => c.op == op && c.running)

/-- Opcodes of the long class (Table JNL-4). -/
def isLong (op : Nat) : Bool := op = 0x10 || op = 0x13 || op = 0x14 || op = 0x15 || op = 0x30 || op = 0x31
/-- Opcodes of the DMA class. -/
def isDma (op : Nat) : Bool := op = 0x08 || op = 0x09 || op = 0x0A || op = 0x11
/-- Opcodes marked P. -/
def isPriv (op : Nat) : Bool :=
  (0x10 ≤ op && op ≤ 0x18) || op = 0x20 || op = 0x21 || op = 0x31
/-- Opcodes of Table JNL-4. -/
def opKnown (op : Nat) : Bool :=
  (1 ≤ op && op ≤ 4) || (8 ≤ op && op ≤ 10) || (0x10 ≤ op && op ≤ 0x18) || op = 0x20 || op = 0x21 || op = 0x28 ||
    op = 0x30 || op = 0x31 || op ≥ 0x80

/-- A long command runs. -/
def longRuns (s : State) : Bool := s.jrn.cmds.any (fun (c : Cmd) => isLong c.op && c.running)

/-- The owner's management endpoint (R173). -/
def isOwner (s : State) (v : Nat) : Bool := s.b F.GLB_OWNER_VALID 0 && s.f F.GLB_OWNER_VS 0 == v

/-- An origin that may carry out privileged commands (R334). -/
def privileged (s : State) : Origin → Bool
  | .bar0 v _ _ _ => isOwner s v.val
  | .mctp v _ _ _ => isOwner s v.val
  | .sideband | .debug | .keeper => true
  | .engine _ _ => false

/-- The virtual switch whose management endpoint submitted a command. -/
def Origin.mep : Origin → Option Nat
  | .bar0 v _ _ _ => some v.val
  | .mctp v _ _ _ => some v.val
  | _ => none

/-- A kind-2 entry of a command (Table JNL-2). -/
def statusEntry (c : Cmd) (status result arg : Nat) : JReq :=
  ⟨2, status, Origin.jorg c.org, result, c.op, c.seq, arg⟩

/-- A PROGRESS entry of a long command (R337). -/
def progress (seq result : Nat) (s : State) : State :=
  match findCmd s seq with
  | some c => keeperEntry (statusEntry c jProgress result 0) s
  | none => s

/-- The endpoints told of a command's end (Table HOST-14): with NOTIFY the submitting endpoint, or the owner's where none
submitted it; the end of LIVE_APPLY always the owner's. -/
def notifyEnd (c : Cmd) (s : State) : State :=
  let notify := (c.byte 1).testBit 1
  let s := if notify then
      match Origin.mep c.org with
      | some v => msixRaise v (vecOf s 0) s
      | none => msixOwner 0 s
    else s
  let told := notify && (match Origin.mep c.org with | some v => isOwner s v | none => true)
  if c.op = 0x15 && !told then msixOwner 0 s else s

/-- The bits of the enabled bytes of a write (R7). -/
def beBits (be : BitVec 4) : Word := BitVec.ofNat 32 (((List.range 4).map (fun k =>
  if be.getLsbD k then 255 * 256 ^ k else 0)).sum)

/-- Writes of KEY_CMD that waited for a LIFECYCLE or PSIVIN_REPORT command run when it ends, oldest first (R430). -/
def keyCmdDrain (s : State) : State :=
  forEach s.key.cmdWait (fun (w : RegW) s =>
    let x := keyCmd (w.val &&& beBits w.be) s
    keeperEntry (writeEntry (Origin.jorg w.org) (if x.2 then jDone else jFailed) 0 Reg.KEY_CMD.place.base 0 w.val
      w.be.toNat 0) x.1) { s with key.cmdWait := [] }

/-- Ends a command with its one final kind-2 entry (R337): the bank shows STATE 3 where the command is its latest, and the
endpoint is told. -/
def endCmd (seq status result arg : Nat) (s : State) : State :=
  match findCmd s seq with
  | none => s
  | some c =>
    let s := keeperEntry (statusEntry c status result arg) s
    let s := refreshPending { s with jrn.cmds := s.jrn.cmds.filter (fun (d : Cmd) => d.seq != seq) }
    let s := match c.bank with
      | some b =>
        if s.rd64 .JNL_CMDSEQ (2 * b) == seq then
          ((s.setf F.JNL_CMDRES_STATE b 3).setf F.JNL_CMDRES_STATUS b status).setf F.JNL_CMDRES_RESULT b result
        else s
      | none => s
    let s := notifyEnd c s
    if c.op = 0x30 || c.op = 0x31 then keyCmdDrain s else s

/-- Ends a command COMPLETED. -/
def okCmd (seq : Nat) (s : State) : State := endCmd seq jDone 0 0 s
/-- Ends a command FAILED with a result code of R338. -/
def failCmd (seq code : Nat) (s : State) : State := endCmd seq jFailed code 0 s
/-- ORIGIN of R338. -/
abbrev resOrigin : Nat := 0x100
/-- DUTY. -/
abbrev resDuty : Nat := 0x101
/-- DMA. -/
abbrev resDma : Nat := 0x102
/-- ARG. -/
abbrev resArg : Nat := 0x103
/-- PROGRAM. -/
abbrev resProgram : Nat := 0x104

/-- Marks a command running. -/
def runCmd (seq : Nat) (s : State) : State :=
  { s with jrn.cmds := s.jrn.cmds.map (fun (c : Cmd) => if c.seq = seq then { c with running := true } else c) }

end Sys2Proof.Machine
end

