-- ==== Sys2Proof/Machine/RegAcc.lean ====
section
/-! DEFINITION. Reaching a register by its offset (R3, R6, R36 to R40, R345): the offset map, the values that are computed
when read, the checks of an access, and a read. -/

namespace Sys2Proof.Machine

/-! ### Offsets -/

/-- The instance number of an offset within a register's place. -/
def decodeDims : Nat → List (Nat × Nat) → Nat → Option Nat
  | o, [], acc => if o = 0 then some acc else none
  | o, (n, stride) :: rest, acc => if o / stride < n then decodeDims (o % stride) rest (acc * n + o / stride) else none

/-- The instance of `r` at an offset. -/
def Reg.at_ (r : Reg) (off : Nat) : Option Nat :=
  if off < r.place.base then none else decodeDims (off - r.place.base) r.place.dims 0

/-- The register and instance at an offset of the BAR0 space (R459). -/
def regAt (off : Nat) : Option (Reg × Nat) := Reg.all.findSome? (fun r => (r.at_ off).map (fun i => (r, i)))

/-- The offset of an instance. -/
def placeOff : List (Nat × Nat) → Nat → Nat
  | [], _ => 0
  | (n, stride) :: rest, i =>
    let inner := rest.foldl (fun m d => m * d.1) 1
    (i / inner % n) * stride + placeOff rest (i % inner)
/-- The offset of instance `i` of a register. -/
def Reg.offset (r : Reg) (i : Nat) : Nat := r.place.base + placeOff r.place.dims i

/-- Registers that each interface sees in a bank of its own (R345). -/
def Reg.banked : Reg → Bool
  | .JNL_RDSEQ | .JNL_RDDATA | .JNL_CMDDESC | .JNL_CMDGO | .JNL_CMDRES | .JNL_CMDSEQ => true
  | _ => false

/-- The bank of an interface (R345). -/
def Origin.bank : Origin → Nat
  | .bar0 v _ _ _ => v.val
  | .mctp v _ _ _ => v.val
  | .sideband => 64
  | .debug => 65
  | .engine g _ => 66 + g.val
  | .keeper => 64

/-- The instance that an origin reaches: its own bank of a banked register. -/
def bankedIdx (org : Origin) (r : Reg) (i : Nat) : Nat := if r.banked then Origin.bank org * r.count + i else i

/-! ### Values computed when read -/

/-- Word `j` of a ring window (R346, REC_RINGWIN and REC_MRAMWIN). -/
def ringWord (s : State) (r j : Nat) : Word :=
  let l := j / 8
  let off (x : RRec) : Nat := (l + ringLines r - x.line) % ringLines r
  match (ringOf s r).find? (fun (x : RRec) => off x < recLines x.snap.length) with
  | some x => x.words.getD (off x * 8 + j % 8) 0
  | none => 0

/-- What a register instance reads. -/
def regValue (s : State) (r : Reg) (i : Nat) : Word :=
  match r with
  | .PIR_QTOK => (qBucket s (i / 8) (i % 8)).tokens
  | .PIR_TSCFG => F.PIR_TSCFG_ACTIVE.set (s.rd r i) (if tenantActive s (i / 512) (i % 512) then 1 else 0)
  | .PIR_TSTOK => (tBucket s (i / 512) (i % 512)).tokens
  | .CSN_CHSTAT => F.CSN_CHSTAT_SPARE_LEFT.set (s.rd r i) (spareLeft s i)
  | .PIR_BUFSTAT => F.PIR_BUFSTAT_SHARED_FREE.set (s.rd r i) (if s.img.applied.isSome then sharedFree s i else 0)
  | .SPN_CLKMODE => F.SPN_CLKMODE_SLOTCLK.set (s.rd r i) (((List.range 4).map (fun k => if slotClk s (4 * i + k) then 2 ^ k else 0)).sum)
  | .JNL_RDDATA =>
    match SMap.get none s.jrn.latch (i / 16) with
    | some e => BitVec.ofNat 32 (leNum ((e.bytes.drop (4 * (i % 16))).take 4))
    | none => 0
  | .REC_RINGWIN => ringWord s 0 i
  | .REC_MRAMWIN => ringWord s 1 i
  | .KEY_IDPUB =>
    if s.b F.KEY_STAT_IDVALID 0 then
      BitVec.ofNat 32 (leNum (((ecPublic Config.identityPrivate).drop (4 * i)).take 4)) else 0
  | .KEY_RPTWIN => BitVec.ofNat 32 (leNum ((s.key.report.drop (4 * i)).take 4))
  | .CLK_ISLSTAT =>
    if i = 25 then F.CLK_ISLSTAT_LOCK.set (F.CLK_ISLSTAT_RUN.set (s.rd r i) 1) (if s.b F.CLK_OSC_SRC 0 then 0 else 1) else s.rd r i
  | .PMC_CYC => BitVec.ofNat 32 (blockCycles s (i / 2) / 2 ^ (32 * (i % 2)))
  | _ => s.rd r i

/-! ### Checks of an access -/

/-- Access statuses (Tables CLK-4 and BRG-5). -/
abbrev accOk : Nat := 0
/-- DOMAIN_OFF. -/
abbrev accOff : Nat := 1
/-- CLOCK_LOST. -/
abbrev accLost : Nat := 2
/-- REFUSED by gate slot 129. -/
abbrev accRefused : Nat := 6

/-- An island is marked failed (R38). -/
def islandFailed (s : State) (i : Nat) : Bool := s.b F.CLK_ISLSTAT_FAILED i

/-- The status with which an access to a register is refused before it enters a joint (R36, R39); one in its joint already
(`joined`) completes while its domain powers off. -/
def accessStatus (joined : Bool) (s : State) (r : Reg) (i : Nat) : Nat :=
  match r.domain i with
  | none => accOk
  | some d => if !(domOn s d || (joined && domState s d == 5)) then accOff else if islandFailed s (islandOf (some d)) then accLost else accOk

/-- The instance of CLK_ACCSTAT and CLK_ACCADDR that keeps an interface's refusals (Table CLK-4). -/
def Origin.accIdx : Origin → Option Nat
  | .bar0 _ _ _ _ => some 0
  | .sideband => some 1
  | .debug => some 2
  | _ => none

/-- Records a refused or failed access while VALID is 0 (Table CLK-8). -/
def recordAccess (org : Origin) (r : Reg) (i off status : Nat) (s : State) : State :=
  match Origin.accIdx org with
  | none => s
  | some j =>
    if s.b F.CLK_ACCSTAT_VALID j then s else
    let s := (s.setf F.CLK_ACCSTAT_VALID j 1).setf F.CLK_ACCSTAT_DOMAIN j ((r.domain i).getD 0)
    let s := (s.setf F.CLK_ACCSTAT_ISLAND j (islandOf (r.domain i))).setf F.CLK_ACCSTAT_STATUS j status
    s.wr .CLK_ACCADDR j (BitVec.ofNat 32 off)

/-- The key that an interface presents at slot 129; engines and the keeper are not checked (R230, R237). -/
def originKey (s : State) : Origin → Option Keyed
  | .bar0 _ _ _ u => some (.key (tenantKey s u.val))
  | .sideband => some (.key (s.f F.GTE_SBKEY_KEY 0))
  | .debug => some .debug
  | _ => none

/-- Slot 129 lets an access of `n` bytes through (R230, R236). -/
def slot129 (s : State) (org : Origin) (off : Nat) : Bool :=
  match originKey s org with
  | some k => allowed s k 129 off
  | none => true

/-- Logs an access that slot 129 refuses (R242). -/
def logRefused (org : Origin) (write : Bool) (off n part : Nat) (s : State) : State :=
  let tag := tagAt s 129 off
  match org with
  | .bar0 _ p rid u =>
    gateLog ⟨pierOf p.val, 0, write, p.val, u.val, tag, rid, 129, off, n, part⟩ s
  | .sideband => gateLog ⟨8, 1, write, 0, 0, tag, 0, 129, off, n, part⟩ s
  | .debug => gateLog ⟨8, 2, write, 0, 0, tag, 0, 129, off, n, part⟩ s
  | _ => s

/-- The counter registers of R173 and R368. -/
def Reg.counters : Reg → Bool
  | .PMC_CMD | .PMC_STAT | .PMC_SNAPTIME | .PMC_BCTL | .PMC_BSTAT | .PMC_CYC | .PMC_CNT | .PMC_EVT | .PMC_SCYC | .PMC_SOVF
  | .PMC_SCNT => true
  | _ => false

/-- Who may reach them: the owner's management endpoint, the sideband and engines (R368). -/
def counterOk (s : State) : Origin → Bool
  | .bar0 v _ _ _ => isOwner s v.val
  | .mctp v _ _ _ => isOwner s v.val
  | .debug => false
  | _ => true

/-- A register read by an interface (R6, R36, R38 to R40, R242), `joined` if it is in its joint already: its status, its data,
and what it leaves. A read of an offset with no register gives 0 with good status. -/
def regReadIn (joined : Bool) (org : Origin) (off : Nat) (s : State) : Nat × Word × State :=
  if !slot129 s org off then
    let s := logRefused org false off 4 0 s
    let s := match org with
      | .debug => keeperEntry ⟨11, jFailed, Origin.jorg org, accRefused, off, 0, 0⟩ s
      | _ => s
    (accRefused, BitVec.allOnes 32, s)
  else match regAt off with
    | none => (accOk, 0, s)
    | some (r, i) =>
      let i := bankedIdx org r i
      if r.counters && !counterOk s org then (accOk, BitVec.allOnes 32, s) else
      let st := accessStatus joined s r i
      if st = accOk then (accOk, regValue s r i, s)
      else (st, BitVec.allOnes 32, recordAccess org r i off st s)

/-- A register read by an interface. -/
def regRead (org : Origin) (off : Nat) (s : State) : Nat × Word × State := regReadIn false org off s

end Sys2Proof.Machine
end

