-- ==== Sys2Proof/Machine/Dma.lean ====
section
/-! DEFINITION. The DMA engine of a management endpoint (R187 to R189): cutting, issue, the end and the failure of a job, and
what the exports of R343 and R359 write. -/

namespace Sys2Proof.Machine

/-- Max_Payload_Size that host software set for a function, at most 512 (R186). -/
def mps (s : State) (v fn : Nat) : Nat := min 512 (128 * 2 ^ capF s v fn .pcie 0x8 7 5)
/-- Max_Read_Request_Size of a function. -/
def mrrs (s : State) (v fn : Nat) : Nat := 128 * 2 ^ capF s v fn .pcie 0x8 14 12

/-- The length of the next request at an address (R187). -/
def dmaCut (limit addr left : Nat) : Nat := min left (min limit (4096 - addr % 4096))

/-- The DMA engine may issue requests (R187). -/
def dmaAllowed (s : State) (v : Nat) : Bool := busMaster s v fnMep && dState s v fnMep == 0

/-- A job that reads host memory. -/
def DmaUse.reads : DmaUse → Bool
  | .batch _ | .bankWrite _ _ _ => true
  | _ => false
/-- The command that a job serves. -/
def DmaUse.cmd : DmaUse → Nat
  | .batch c => c
  | .bankWrite c _ _ => c
  | .export_ c => c
  | .report c => c

/-- The job that runs on an endpoint. -/
def dmaJob (s : State) (v : Nat) : Option DmaJob := SMap.find? s.host.dma v
/-- The state with the job replaced; BUSY and TAGS kept in step. -/
def setJob (v : Nat) (j : DmaJob) (s : State) : State :=
  ({ s with host.dma := SMap.ins s.host.dma v j }.setf F.GLB_DMASTAT_BUSY v 1).setf F.GLB_DMASTAT_TAGS v j.reads.length

/-- A tag of 0 to 63 that no read holds, tags of failed jobs included (R188, R189). -/
def dmaTag (s : State) (v : Nat) (j : DmaJob) : Option Nat :=
  (List.range 64).find? (fun t => !(j.reads.any (fun (r : DmaRd) => r.tag == t)) && !s.host.dmaDead.contains (v, t))

/-- Sends a TLP that the management endpoint masters upstream; a read takes an entry of the port's tracker (R261). -/
def mepSend (v : Nat) (t : Tlp) (s : State) : State :=
  match vsDef s v with
  | some d =>
    let c : Carried := ⟨{ t with rid := ridOf s v fnMep }, d.up, d.up, 0, v, none, 0, [], 0⟩
    inject c (if t.nonPosted then track d.up (trkOf c) s else s)
  | none => s

/-- The bytes of a job from an offset. -/
def DmaJob.bytesAt (j : DmaJob) (off n : Nat) : List Byte := ((j.data.flatMap (·.2)).drop off).take n

/-- Issues the requests that the limits of R187 and R188 allow now. -/
def dmaIssue (v : Nat) : Nat → State → State
  | 0, s => s
  | n + 1, s =>
    match dmaJob s v with
    | none => s
    | some j =>
      if !dmaAllowed s v || j.issued ≥ j.total then s
      else if j.use.reads then
        match dmaTag s v j with
        | none => s
        | some t =>
          let a := j.addr + j.issued
          let k := dmaCut (mrrs s v fnMep) a (j.total - j.issued)
          let rd : DmaRd := ⟨t, j.issued, k, []⟩
          let s := setJob v { j with issued := j.issued + k, reads := j.reads ++ [rd] } s
          dmaIssue v n (mepSend v { Tlp.blank with kind := .memRd, addr := a, len := k, hdr := 16, tag := t } s)
      else
        let a := j.addr + j.issued
        let k := dmaCut (mps s v fnMep) a (j.total - j.issued)
        let s := setJob v { j with issued := j.issued + k } s
        dmaIssue v n (mepSend v
          { Tlp.blank with kind := .memWr, addr := a, len := k, hdr := 16, data := j.bytesAt (j.issued) k } s)

/-- The job of an endpoint ends: BUSY clears and vector 7 is sent (Table HOST-3). -/
def dmaClear (v : Nat) (s : State) : State :=
  let s := { s with host.dma := SMap.del s.host.dma v }
  msixRaise v (vecOf s 7) ((s.setf F.GLB_DMASTAT_BUSY v 0).setf F.GLB_DMASTAT_TAGS v 0)

/-- A job fails (R189): it issues nothing more, its tags wait for late completions, ERR and CAUSE are set, vector 7 is sent,
and its command ends FAILED with DMA. -/
def dmaFail (v cause : Nat) (s : State) : State :=
  match dmaJob s v with
  | none => s
  | some j =>
    let s := { s with host.dmaDead := s.host.dmaDead ++ j.reads.map (fun (r : DmaRd) => (v, r.tag)) }
    let s := if s.b F.GLB_DMASTAT_ERR v then s
      else (s.setf F.GLB_DMASTAT_ERR v 1).setf F.GLB_DMASTAT_CAUSE v cause
    failCmd j.use.cmd resDma (dmaClear v s)

/-! ### What an export writes -/

/-- The bytes of a record, whole lines (R359). -/
def RRec.bytes (x : RRec) : List Byte :=
  let b := x.words.flatMap (fun (w : Word) => leBytes w.toNat 4)
  b ++ List.replicate (32 * recLines x.snap.length - b.length) 0

/-- `a` is at or after `b` in sequence order, which wraps from 2^32 − 1 to 1 (R354). -/
def seqFrom (b a : Nat) : Bool := (a + (2 ^ 32 - 1) - b) % (2 ^ 32 - 1) < 2 ^ 31

/-- Entries of the prefetch-discard log, in SEQ order (R358). -/
def pfEntries (s : State) : List (Nat × List Byte) :=
  let l := (List.range 256).map (fun i => ((s.rd .REC_PFLOG (8 * i)).toNat,
    (List.range 8).flatMap (fun k => leBytes (s.rd .REC_PFLOG (8 * i + k)).toNat 4)))
  (l.filter (fun e => e.1 != 0)).mergeSort (fun a b => a.1 ≤ b.1)

/-- The bytes and the number of entries that an export writes (R343, R359). -/
def exportData (c : Cmd) (s : State) : List Byte × Nat :=
  if c.op = 0x08 then
    let l := ((heldEntries s).filter (fun (e : JEntry) =>
      c.num 8 8 ≤ e.seq && e.seq ≤ s.rd64 .JNL_HEAD 0 && (c.num 20 2).testBit e.req.kind)).take (c.num 16 4)
    (l.flatMap (fun (e : JEntry) => e.bytes), l.length)
  else if c.byte 8 = 2 then
    let l := ((pfEntries s).filter (fun e => seqFrom (c.num 12 4) e.1)).take (c.num 16 4)
    (l.flatMap (fun e => e.2), l.length)
  else
    let l := ((ringOf s (c.byte 8)).filter (fun (x : RRec) => seqFrom (c.num 12 4) x.seq)).take (c.num 16 4)
    (l.flatMap (fun (x : RRec) => x.bytes), l.length)

/-- A job that starts takes its data: an export what it writes now, a report the report and certificate. -/
def dmaFill (j : DmaJob) (s : State) : DmaJob :=
  match j.use with
  | .export_ q =>
    match findCmd s q with
    | some c => let (b, n) := exportData c s; { j with data := [(0, b)], total := b.length, result := n }
    | none => j
  | .report _ => { j with data := [(0, s.key.report)], total := s.key.report.length }
  | _ => j

/-- An export of the journal reads one block of channel 0 for each entry (event 0x402). -/
def dmaReads (j : DmaJob) (s : State) : State :=
  match j.use with
  | .export_ q =>
    match findCmd s q with
    | some c => if c.op = 0x08 && !s.b F.JNL_STAT_CH0_LOST 0 then count 120 0x402 subJournal j.result s else s
    | none => s
  | _ => s

/-- A write job whose writes are all issued is done: its command ends COMPLETED. -/
def dmaFinishWrite (v : Nat) (s : State) : State :=
  match dmaJob s v with
  | some j =>
    if !j.use.reads && j.issued ≥ j.total then endCmd j.use.cmd jDone j.result 0 (dmaClear v s) else s
  | none => s

/-- Starts the next job of an endpoint when none runs (R337): one job at a time. -/
def dmaNext (v : Nat) : Nat → State → State
  | 0, s => s
  | n + 1, s =>
    if (dmaJob s v).isSome then s else
    match s.host.dmaq.find? (fun (e : Nat × DmaJob) => e.1 == v) with
    | none => s
    | some e =>
      let s := { s with host.dmaq := s.host.dmaq.erase e }
      let j := dmaFill e.2 s
      let s := runCmd j.use.cmd (setJob v j (dmaReads j s))
      dmaNext v n (dmaFinishWrite v (dmaIssue v (j.total + 1) s))

/-- Issues what can go now, ends a finished write job and starts the next. -/
def dmaPump (v : Nat) (s : State) : State :=
  let n := match dmaJob s v with | some j => j.total + 1 | none => 0
  let s := dmaFinishWrite v (dmaIssue v n s)
  dmaNext v (s.host.dmaq.length + 1) s

/-- Queues a job on an endpoint. -/
def dmaQueue (v : Nat) (j : DmaJob) (s : State) : State :=
  dmaPump v { s with host.dmaq := s.host.dmaq ++ [(v, j)] }

/-- A failed job gives way to the next. -/
def dmaAbort (v cause : Nat) (s : State) : State :=
  let s := dmaFail v cause s
  dmaNext v (s.host.dmaq.length + 1) s

end Sys2Proof.Machine
end

