-- ==== Sys2Proof/Machine/Close.lean ====
section
/-! DEFINITION. Errors, link loss and closures (R62, R95, R191, R254 to R269): AER, completions synthesised for tracked
requests, link-down events, resets of a virtual switch, span, pier and tenant closure, release, plane and channel failure,
quarantine. -/

namespace Sys2Proof.Machine

/-! ### AER (R255 to R257) -/

/-- Sends an error message of a function upstream, at most one of each severity in 10 µs: 0 ERR_COR, 1 ERR_NONFATAL,
2 ERR_FATAL (R257). -/
def aerMsg (v fn sev : Nat) (s : State) : State :=
  match vsDef s v with
  | none => s
  | some d =>
    let k := (v * 64 + fn) * 4 + sev
    let ok := match SMap.find? s.err.aerLast k with | some t => t + 10000 ≤ s.env.now | none => true
    if !ok then s else
    let code := if sev = 0 then 0x30 else if sev = 1 then 0x31 else 0x33
    let t : Tlp := { Tlp.blank with kind := .msg, hdr := 16, rid := ridOf s v fn, code := code }
    inject ⟨t, d.up, d.up, 0, v, none, 0, [], 0⟩ { s with err.aerLast := SMap.ins s.err.aerLast k s.env.now }

/-- Reports an uncorrectable error at a function: its status bit, its severity, and a message unless masked or not enabled
(log entry 9). -/
def aerUnc (v fn bit : Nat) (s : State) : State :=
  if !fnPresent s v fn then s else
  let s := setCapF v fn .aer 0x4 bit bit 1 s
  let fatal := capBit s v fn .aer 0xC bit
  let s := setCapF v fn .pcie 0x8 (if fatal then 18 else 17) (if fatal then 18 else 17) 1 s
  let en := cfgBit s v fn 0x04 8 || capBit s v fn .pcie 0x8 (if fatal then 2 else 1)
  if capBit s v fn .aer 0x8 bit || !en then s else aerMsg v fn (if fatal then 2 else 1) s

/-- Reports a correctable error at a function. -/
def aerCor (v fn bit : Nat) (s : State) : State :=
  if !fnPresent s v fn then s else
  let s := setCapF v fn .pcie 0x8 16 16 1 (setCapF v fn .aer 0x10 bit bit 1 s)
  if capBit s v fn .aer 0x14 bit || !capBit s v fn .pcie 0x8 0 then s else aerMsg v fn 0 s

/-- AER bits of the standard (log entry 9). -/
abbrev aerSurprise : Nat := 5
/-- Poisoned TLP Received. -/
abbrev aerPoison : Nat := 12
/-- Completer Abort. -/
abbrev aerAbort : Nat := 15
/-- Unexpected Completion. -/
abbrev aerUnexpected : Nat := 16
/-- Malformed TLP. -/
abbrev aerMalformed : Nat := 18
/-- Unsupported Request. -/
abbrev aerUR : Nat := 20
/-- ACS Violation. -/
abbrev aerAcs : Nat := 21
/-- Uncorrectable Internal Error. -/
abbrev aerInternal : Nat := 22
/-- Corrected Internal Error. -/
abbrev aerCorInternal : Nat := 14

/-- Reports an uncorrectable error at the function of a port. -/
def aerPort (p bit : Nat) (s : State) : State :=
  match fnOfPort s p with | some (v, fn) => aerUnc v fn bit s | none => s

/-! ### Hot-plug events of a bridge (R197, R198) -/

/-- The MSI of a downstream bridge (Table HOST-13), when its MSI Enable and Bus Master Enable are 1. -/
def bridgeMsi (v fn : Nat) (s : State) : State :=
  if !capBit s v fn .msi 0x0 16 || !busMaster s v fn then s else
  match vsDef s v with
  | none => s
  | some d =>
    let a := (capRd s v fn .msi 0x4).toNat + 2 ^ 32 * (capRd s v fn .msi 0x8).toNat
    let t : Tlp := { Tlp.blank with
      kind := .memWr, addr := a, len := 4, data := leBytes ((capRd s v fn .msi 0xC).toNat % 2 ^ 16) 4, hdr := 16,
      rid := ridOf s v fn }
    inject ⟨t, d.up, d.up, 0, v, none, 0, [], 0⟩ s

/-- Sets a bit of Slot Status of the bridge that binds a slot, and signals it when Slot Control enables it: 0 Attention
Button Pressed, 1 Power Fault Detected, 3 Presence Detect Changed, 8 Data Link Layer State Changed. -/
def slotStatus (v fn bit : Nat) (s : State) : State :=
  let en := if bit = 8 then 12 else bit
  let s := setCapF v fn .pcie 0x18 (16 + bit) (16 + bit) 1 s
  if capBit s v fn .pcie 0x18 5 && capBit s v fn .pcie 0x18 en then bridgeMsi v fn s else s

/-- Data Link Layer Link Active of a bridge, with the change of state reported on a slot. -/
def linkActive (p : Nat) (up : Bool) (s : State) : State :=
  match vsOfDown s p with
  | none => s
  | some (v, j) =>
    let fn := fnBridge j
    if capBit s v fn .pcie 0x10 29 = up then s else
    let s := setCapF v fn .pcie 0x10 29 29 (if up then 1 else 0) s
    if (slotOf s p).isSome then slotStatus v fn 8 s else s

/-! ### Completions on link loss (R262) -/

/-- The link-loss status of a port. -/
def lossStatus (s : State) (p : Nat) : Nat :=
  let image := if s.b F.GLB_ERRCTL_LOSS_CA 0 then stCA else stUR
  match vsOfDown s p with
  | some (v, j) =>
    if capBit s v (fnBridge j) .dpc 0x8 0 then (if capBit s v (fnBridge j) .dpc 0x4 18 then stUR else stCA) else image
  | none => image

/-- The one Contained record with cause 0x16 of a loss, with its first completion. -/
def noteSynth (p : Nat) (s : State) : State :=
  if (s.port p).synthRec then s else pushRec (pierOf p) 0x16 p (s.setPort p { s.port p with synthRec := true })

/-- Completes one request of a lost port back to its requester. -/
def synthOne (p : Nat) (rid tag : Nat) (tc : Fin 8) (inP vs tenant : Nat) (fab : Option FabHdr) (left addr : Nat)
    (s : State) : State :=
  let s := noteSynth p (s.satf F.PIR_CPLTRK_SYNTH p 1)
  if inP = p && fab.isNone then s
  else sendCpl { Tlp.blank with rid := rid, tag := tag, tc := tc } inP vs tenant fab (lossStatus s p) [] left addr false s

/-- Every tracked request of a port is completed at once: the tracker of a PCI Express port, the fabric tags of a Floing
port (R261, R262, R215). -/
def synthPort (p : Nat) (s : State) : State :=
  let trk := (s.port p).trk
  let s := (s.setPort p { s.port p with trk := [] }).setf F.PIR_CPLTRK_USED p 0
  let s := forEach trk (fun e s => synthOne p e.rid e.tag e.tc e.inP e.vs e.tenant e.fab e.left e.addr s) s
  let tags := SMap.get [] s.fab.tags p
  let s := { s with fab.tags := SMap.put [] s.fab.tags p [] }.setf F.PIR_FBPORT_TAGS p 0
  forEach tags (fun e s =>
    synthOne p e.rid e.rtag e.tc e.inP e.vs e.tenant e.inTag e.left e.addr
      (release p (classOf s e.tc) 0 e.slots s)) s

/-- A request that arrives for a port whose link is down or closed is completed at once, or discarded and counted. -/
def lostReq (p : Nat) (c : Carried) (s : State) : State :=
  if c.tlp.nonPosted then synthOne p c.tlp.rid c.tlp.tag c.tlp.tc c.inP c.vs c.tenant c.fab c.tlp.len c.tlp.addr s
  else if c.tlp.posted then
    let s := s.satf F.PIR_CPLTRK_DROP_P p 1
    if c.fab.isSome then lostPosted p s else s
  else s

/-- The egress queues of a lost port are emptied: posted requests are counted, tracked ones were completed. -/
def flushEgress (p : Nat) (s : State) : State :=
  forRange 8 (fun t s =>
    let q := egressQ s p t
    forEach q (fun (e : QEnt) s => dropAtEgress { e.c with outP := p } s) (setEgressQ p t [] s)) s

/-! ### Read-ahead buffers (R223, R358) -/

/-- An entry of the prefetch-discard log on its way to the keeper: the FIFO of the pier holds 16. -/
def pfPush (n : Nat) (e : PfEnt) (s : State) : State :=
  let q := SMap.get [] s.rcd.pfifo n
  if q.length ≥ 16 then s.satf F.REC_PFSTAT_DROPPED 0 1
  else { s with rcd.pfifo := SMap.put [] s.rcd.pfifo n (q ++ [e]) }

/-- Discards a buffer of a target port: counted, logged with its unused bytes, and a read that waited for it goes to the
target. -/
def pfDiscard (p : Nat) (b : PfBuf) (s : State) : State :=
  let s := { s with fab.pf := SMap.put [] s.fab.pf p ((SMap.get [] s.fab.pf p).erase b) }
  let s := s.satf F.PIR_PFCNT_DISCARDS p 1
  let words := [b.vs * 2 ^ 24 + p % 128 * 2 ^ 16 + b.len % 1024, b.rid % 65536 * 65536, b.base % 2 ^ 32, b.base / 2 ^ 32,
    s.env.now % 2 ^ 32]
  let s := pfPush (pierOf p) ⟨words⟩ s
  forEach b.waiting (fun c s => inject c (track p (trkOf c) s)) s

/-- Discards the buffers of a port that satisfy a test. -/
def pfDiscardIf (p : Nat) (t : PfBuf → Bool) (s : State) : State :=
  forEach ((SMap.get [] s.fab.pf p).filter t) (fun b s => pfDiscard p b s) s

/-! ### Floing link loss (R95) -/

/-- The link record of a Floing port, by governing span. -/
def fl (s : State) (g : Nat) : FlLink := SMap.get FlLink.init s.fl.link g
/-- The state with a link record replaced. -/
def setFl (g : Nat) (l : FlLink) (s : State) : State := { s with fl.link := SMap.put FlLink.init s.fl.link g l }

/-- Requests that came over a Floing link that goes down: their completions will be late (R215). -/
def markLate (p : Nat) (s : State) : State :=
  let ports := s.ports.port.map (fun (e : Nat × Port) =>
    (e.1, { e.2 with trk := e.2.trk.map (fun (x : Trk) => if x.inP = p && x.fab.isSome then { x with late := true } else x) }))
  let tags := s.fab.tags.map (fun (e : Nat × List FTag) =>
    (e.1, e.2.map (fun (x : FTag) => if x.inP = p && x.inTag.isSome then { x with late := true } else x)))
  { s with ports.port := ports, fab.tags := tags }

/-- What a Floing port keeps over a link-down. -/
def FlLink.fresh (l : FlLink) : FlLink :=
  { FlLink.init with
    rxMap := l.rxMap, txMap := l.txMap, failAt := l.failAt, lastFlit := l.lastFlit, lastWire := l.lastWire, wasX4 := l.wasX4,
    nextId := l.nextId, delay := l.delay }

/-- Steps 1 and 2 of R95: the replay buffer and every packet in progress or held in the receive buffer are discarded, and
each discarded posted request is counted. A packet sent whole is held by the replay entry of its last flit. -/
def flDiscard (g : Nat) (s : State) : State :=
  let l := fl s g
  let p := flPort g
  let lost := l.prog.map (fun (x : Prog) => x.pkt) ++ l.replay.filterMap (fun (e : RepEnt) => e.pkt)
    ++ l.rxBuf.map (fun (x : Nat × FabPkt) => x.2)
  let s := forEach (lost.filter (fun (x : FabPkt) => x.tlp.posted)) (fun _ s => lostPosted p s) (markLate p s)
  setFl g l.fresh s

/-! ### Control packets (R205, R210, R219) -/

/-- The traffic class whose queue a control packet takes: the first Express one (log entry 15). -/
def ctlTc (s : State) : Fin 8 := Fin.ofNat 8 (((List.range 8).find? (fun t => classOf s t == 0)).getD 0)

/-- Sends a control packet towards a module through the route table of a pier (R205, R210); a route hold keeps it (R206). -/
def sendCtl (n : Nat) (h : FabHdr) (s : State) : State × Bool :=
  if s.fab.hold.contains (64 * n + h.dstMod.val) then ({ s with fab.ctl := s.fab.ctl ++ [(n, h)] }, true) else
  match routeOf s n h.dstMod with
  | none => (s, false)
  | some q =>
    let t : Tlp := { Tlp.blank with kind := .msg, tc := ctlTc s, hdr := 0 }
    (inject ⟨t, q, q, 0, h.vs, some h, 0, [], 0⟩ s, true)

/-- A control packet that this module makes by itself, of one of the kinds of `Config.ctlCode` (log entry 15): the code, a number that
its answer repeats, and what it says. -/
def ctlPkt (s : State) (what id : Nat) (m : Fin 64) (dst src : PortId) (v : VsId) (say : List Byte) : FabHdr :=
  { kind := if what = 6 then 5 else 4, hops := 7, cls := 0, dstMod := m, srcMod := Fin.ofNat 64 (myModule s), dstPort := dst,
    srcPort := src, vs := v, ftag := 0, tenant := 0, mask := 0, ctl := Config.ctlCode what :: leBytes id 2 ++ say }

/-- A control request of a virtual switch to the module that holds one of its remote ports (R219); its answer is awaited. -/
def ctlToBridge (what : Nat) (say : List Byte) (v : Nat) (m : Fin 64) (q : PortId) (s : State) : State :=
  match vsDef s v with
  | none => s
  | some d =>
    let id := s.host.ctlNext
    let x := sendCtl (pierOf d.up) (ctlPkt s what id m q d.up (Fin.ofNat 64 v) say) s
    if x.2 then { x.1 with
        host.ctlOpen := SMap.ins x.1.host.ctlOpen id ⟨v, m.val, none, none⟩, host.ctlNext := (id + 1) % 65536 }
    else x.1

/-- A link state change or slot event of a port that this module holds for another module's virtual switch reaches that module's
engines (R219). -/
def ctlTell (p : Nat) (say : List Byte) (s : State) : State :=
  match SMap.find? s.host.home p with
  | some b => (sendCtl (pierOf p) (ctlPkt s 4 0 b.module b.up (Fin.ofNat 128 p) b.vs say) s).1
  | none => s

/-- The LINK event of a port, here or at the home module. -/
def linkNote (p : Nat) (s : State) : State := ctlTell p (leBytes (s.f F.SPN_PSTAT_LTSSM p) 1) (linkEvent p s)
/-- The SLOT event of a slot, here or at the home module. -/
def slotNote (k : Nat) (s : State) : State :=
  let s := slotEvent k s
  if s.b F.GLB_SLOT_BOUND k then ctlTell (s.f F.GLB_SLOT_PORT k) (leBytes (s.rd .GLB_SLOT k).toNat 4) s else s

/-- The remote ports of a virtual switch's bridges. -/
def remotePorts (d : VsDef) : List (Fin 64 × PortId) :=
  d.bridges.filterMap (fun b => match b.tgt with | .remote m q => some (m, q) | _ => none)

/-- A control request about every remote bridge of a virtual switch: its link's hot reset starts (0) or ends (1) (R193, R219). -/
def ctlToAll (what v : Nat) (s : State) : State :=
  match vsDef s v with
  | some d => forEach (remotePorts d) (fun e s => ctlToBridge what [] v e.1 e.2 s) s
  | none => s

/-! ### Resets of a virtual switch (R191, R192) -/

/-- The functions that a reset returns to their ROMT values: 2 fundamental, 3 hot, 4 Secondary Bus Reset on the upstream
port. -/
def resetFns (s : State) (v code : Nat) : List Nat := if code = 4 then (fnsOf s v).filter (· != fnUp) else fnsOf s v

/-- Returns one function to its ROMT reset values, keeping sticky bits (Table HOST-4). -/
def resetFn (v fn : Nat) (s : State) : State :=
  let mine := s.host.cfg.filter (fun (e : Nat × Word) => e.1 / 1024 == v * 64 + fn)
  forEach mine (fun (e : Nat × Word) s =>
    let off := e.1 % 1024 * 4
    let r := romEnt s v fn off
    cfgSet v fn off ((r.reset &&& ~~~ r.sticky) ||| (e.2 &&& r.sticky)) s) s

/-- The MSI-X state of a virtual switch is cleared. -/
def clearMsix (v : Nat) (s : State) : State :=
  { s with
    host.msix := s.host.msix.filter (fun (e : Nat × Word) => e.1 / 256 != v),
    host.pend := s.host.pend.filter (fun k => k / 64 != v) }

/-- The D-state of a management endpoint as GLB_VSSTAT.MEP_D shows it (Table HOST-11). -/
def mepD (s : State) (v : Nat) : Nat :=
  if !fnPresent s v fnMep then 3 else if inD3cold s v then 2 else if dState s v fnMep = 3 then 1 else 0

/-- GLB_VSSTAT.MEP_D kept in step; an endpoint in D0, or with PME_En 0, no longer asserts WAKE_N (R196). -/
def refreshVs (v : Nat) (s : State) : State :=
  let s := s.setf F.GLB_VSSTAT_MEP_D v (mepD s v)
  match vsDef s v with
  | some d =>
    if mepD s v = 0 || !pmeEn s v then { s with env.wake := s.env.wake.filter (fun p => p != d.up.val) } else s
  | none => s

/-- The keys of the tenants whose requesters enter through the ports of a virtual switch (R143). -/
def vsKeys (s : State) (v : Nat) : List Nat :=
  let ports := vsPorts s v
  let defs := ports.map (fun p => s.f F.TNT_PORTDEF_TENANT p)
  let ents := ports.flatMap (fun p => (List.range 256).filterMap (fun i =>
    let e := 256 * pierOf p + i
    if s.b F.TNT_ENTCTL_VALID e && s.f F.TNT_ENTCTL_PORT e == p then some (s.f F.TNT_ENTCTL_TENANT e) else none))
  (((defs ++ ents).map (tenantKey s)).filter (· != 0)).eraseDups

/-- Starts the hot-reset scan of landing memory for a virtual switch (R143): LM_STATE 2 while it runs; a scan already running
starts over for the blocks of this virtual switch (R192). -/
def startScan (v : Nat) (s : State) : State :=
  let mine := vsKeys s v
  let rest := s.csn.scanned.filter (fun b => !mine.contains (SMap.get 0 s.csn.tag b))
  let s := { s with csn.scanKeys := (s.csn.scanKeys ++ mine).eraseDups, csn.scanned := rest }
  if s.f F.CSN_STAT_LM_STATE 0 = 0 then s.setf F.CSN_STAT_LM_STATE 0 2 else s

/-- A downstream link receives hot reset through its bridge. -/
def hotLink (p : Nat) (s : State) : State :=
  let s := if s.host.linkHot.contains p then s else { s with host.linkHot := s.host.linkHot ++ [p] }
  if linkUp s p then s.setf F.SPN_PSTAT_LTSSM p 0x2C else s

/-- PERST_N of the slot bound to a port asserts. -/
def slotPerst (p : Nat) (s : State) : State :=
  match slotOf s p with
  | some k => s.setf F.GLB_SLOT_PERST k 1
  | none => s

/-- The effects of a reset that is not absorbed: a Function Level Reset of the virtual switch ends unfinished (R192), and the running DMA
job fails (R189). -/
def vsResetCore (v code : Nat) (s : State) : State :=
  let s := { s with host.inReset := SMap.ins s.host.inReset v code }
  let s := (s.setf F.GLB_VSSTAT_RSTCAUSE v code).setf F.GLB_VSSTAT_NOTREADY v 1
  let s := dmaFail v 5 s
  let fns := resetFns s v code
  let s := forEach fns (resetFn v) s
  let s := { s with
    host.crs := (s.host.crs ++ fns.map (fun f => v * 64 + f)).eraseDups,
    host.flr := s.host.flr.filter (fun k => k / 64 != v) }
  let s := clearMsix v s
  let s := dmaNext v (s.host.dmaq.length + 1) s
  let s := if code = 4 then s else s.setf F.GLB_VSSTAT_BUS v 0
  let s := forEach (if code = 4 then downPorts s v else vsPorts s v) (fun p s =>
    discardPortTlps p (stopFlows p s)) s
  let s := { s with host.ctlOpen := s.host.ctlOpen.filter (fun (e : Nat × CtlWait) => e.2.vs != v) }
  let s := ctlToAll 0 v (forEach (downPorts s v) hotLink s)
  let s := forEach (vsPorts s v) (fun p s => pfDiscardIf p (fun b => b.vs == v) s) s
  let s := startScan v s
  let s := if code = 2 then forEach (downPorts s v) slotPerst s else s
  refreshVs v (keeperEntry (resetEntry v code 0) s)

/-- A reset of a virtual switch begins (Table HOST-4): absorbed where one of equal or wider scope is in progress (R192).
Its functions answer with Configuration Request Retry Status from here (R178), DMA stops, MSI-X state clears, the flows of its
ports stop, the links below receive hot reset, the landing scan starts, and the reset is journalled. -/
def vsReset (v code : Nat) (s : State) : State :=
  if !(SMap.find? s.host.vsw v).isSome then s else
  match SMap.find? s.host.inReset v with
  | some c => if c ≤ code then s else vsResetCore v code s
  | none => vsResetCore v code s

/-- A reset of a virtual switch ends: its links leave hot reset; readiness follows 1 ms later (R178). -/
def vsResetEnd (v : Nat) (s : State) : State :=
  ctlToAll 1 v { s with
    host.inReset := SMap.del s.host.inReset v,
    host.linkHot := s.host.linkHot.filter (fun p => !(downPorts s v).contains p) }

/-! ### Link-down events (R62) -/

/-- Surprise Down is reported for a downstream port unless its power-off was commanded or its bridge resets the link. -/
def surpriseDown (p : Nat) (s : State) : State :=
  if (s.port p).offCmd || s.host.linkHot.contains p || isUpstream s p then s
  else match vsOfDown s p with
    | some (v, j) => aerUnc v (fnBridge j) aerSurprise s
    | none => s

/-- A link-down event: DOWNCNT rises, LINKUP clears, the notification is raised, record 0x19 is made, tracked requests are
completed, read-ahead buffers go, the bridge reports the loss; below an upstream port the virtual switch takes a hot reset. -/
def linkDownEvent (p : Nat) (s : State) : State :=
  let s := linkGone p (s.satf F.SPN_PSTAT_DOWNCNT p 1)
  let s := s.setPort p { s.port p with cred := Credits.init, pmReply := 0, wantFull := false, pciPm := false }
  let s := pushRec (pierOf p) 0x19 p (linkNote p s)
  let s := pfDiscardIf p (fun _ => true) (synthPort p (flushEgress p s))
  let s := linkActive p false (surpriseDown p s)
  match vsOfUp s p with
  | some v => vsReset v 3 s
  | none => s

/-! ### Span closure (R263 to R266) -/

/-- A calibration visit is abandoned: the lane takes back its coefficients and ABORT is set (R66). -/
def abandonVisit (sp : Nat) (s : State) : State :=
  let v := SMap.get Visit.init s.fl.visit sp
  let s := if s.f F.SPN_CALSTAT_PHASE sp = 0 then s else
    let lane := s.f F.SPN_CALSTAT_LANE sp
    ((s.wr .SPN_COEF (9 * sp + lane) v.saved).setf F.SPN_CALSTAT_PHASE sp 0).setf F.SPN_CALSTAT_ABORT sp 1
  { s with fl.visit := SMap.put Visit.init s.fl.visit sp { Visit.init with next := v.next } }

/-- DPC of a downstream bridge: Trigger Status with Trigger Reason "unmasked uncorrectable error" (R264). -/
def dpcTrigger (p : Nat) (s : State) : State :=
  match vsOfDown s p with
  | some (v, j) => setCapF v (fnBridge j) .dpc 0x8 2 0 1 s
  | none => s

/-- The entry of a trigger that meets a closed port (R263; DESIGN CHOICE, log entry 22). -/
def closedEntry (p : Nat) (s : State) : State :=
  keeperEntry (writeEntry JOrg.keeper jFailed 0 (Reg.offset .PIR_CLOSE p) 0 1 0xF (s.rd .PIR_CLOSE p)) s

/-- Closes a port in the steps of Table CONT-5, from any state but OFF (Table SPAN-4). No record 0x20 is made under quarantine (cause 8); a
trigger that meets a closed port changes nothing and is journalled (R263), where its own register write is not (causes 1 and 5). -/
def spanClose (p cause : Nat) (s : State) : State :=
  if !portExists s p || ltssm s p = 0x30 then s else
  if s.b F.PIR_CLOSE_CLOSED p then (if cause = 1 ∨ cause = 5 ∨ cause = 8 then s else closedEntry p s) else
  let wasUp := linkUp s p
  let s := (s.setf F.SPN_PSTAT_CLOSED p 1).setf F.PIR_CLOSE_CLOSED p 1
  let s := linkGone p ((s.setf F.PIR_CLOSE_CAUSE p cause).setf F.SPN_PSTAT_LTSSM p 0x34)
  let s := s.setPort p { s.port p with cred := Credits.init, synthRec := false, wantFull := false, pciPm := false }
  let s := if isFloing s p then
      forEach (spansOf s p) abandonVisit ((flDiscard (p / 4) s).setf F.SPN_FLSTAT_STATE (p / 4) 6)
    else s
  let s := pfDiscardIf p (fun _ => true) (synthPort p (flushEgress p s))
  let s := discardPortTlps p (stopFlows p s)
  let s := if cause = 8 then s else
    let s := pushRec (pierOf p) 0x20 p s
    let s := dpcTrigger p s
    if cause = 2 || cause = 3 || cause = 4 || cause = 7 then aerPort p aerInternal s else s
  let s := linkActive p false s
  match vsOfUp s p with
  | some v => if wasUp && cause != 8 then vsReset v 3 s else s
  | none => s

/-- A port enters TRAINING: Detect, its lanes at rest, or TRAIN on Floing; with its PHY domain off it is OFF. An upstream port
whose PERST_IN_N is asserted stays in Detect.Quiet (R190). -/
def enterTraining (p : Nat) (s : State) : State :=
  let on := (spansOf s p).all (fun sp => domOn s sp)
  let s := (s.setf F.SPN_PSTAT_LTSSM p (if on then 0 else 0x30)).setf F.SPN_PSTAT_LINKUP p 0
  if isFloing s p then s.setf F.SPN_FLSTAT_STATE (p / 4) (if on then 1 else 7)
  else forEach (portLanes s p) restLane s

/-- A release of a port that is not closed changes nothing; it is refused while the pier is in pier closure, while the PHY
domain is faulted, or in quarantine (R266). -/
def releaseRefused (s : State) (p : Nat) : Bool :=
  s.f F.GLB_PIERSTAT_STATE (pierOf p) != 0 || (spansOf s p).any (fun sp => domState s sp == 6 || s.b F.PWD_STAT_FAULT sp) ||
    inQuar s

/-- A release: DPC Trigger Status and CLOSED clear, and the port enters TRAINING (R266). -/
def releasePort (p : Nat) (s : State) : State :=
  if !s.b F.PIR_CLOSE_CLOSED p then s else
  let s := (s.setf F.PIR_CLOSE_CLOSED p 0).setf F.SPN_PSTAT_CLOSED p 0
  let s := match vsOfDown s p with
    | some (v, j) => setCapF v (fnBridge j) .dpc 0x8 0 0 0 s
    | none => s
  enterTraining p (s.setPort p { s.port p with synthRec := false })

/-! ### Pier closure (R267, R268) -/

/-- The ports of a pier that exist. -/
def pierPorts (s : State) (n : Nat) : List Nat := ((List.range 16).map (fun q => 16 * n + q)).filter (portExists s)

/-- The pier's slice is empty: every account and hold queue of its ports. -/
def clearSlice (n : Nat) (s : State) : State :=
  let s := forRange 128 (fun k s => s.clearReg .PIR_BUFOCC (128 * n + k)) s
  let s := s.setf F.PIR_BUFEXP_EXP_OCC n 0
  { s with ports.hold := s.ports.hold.filter (fun (e : Nat × List Held) => e.1 / 16 != n) }

/-- Steps 1 to 4 of R267: the ports close with cause 7, record 0x21 is made, the slice is discarded, and the core and SRAM
domains are taken off. -/
def pierClose (n : Nat) (s : State) : State :=
  if s.f F.GLB_PIERSTAT_STATE n != 0 then s else
  let s := s.setf F.GLB_PIERSTAT_STATE n 1
  let s := forEach (pierPorts s n) (fun p s => spanClose p 7 s) s
  let s := clearSlice n (pushRec 25 0x21 n s)
  let s := setDom (40 + n) 5 (setDom (32 + n) 5 s)
  { s with mode.rejoin := if s.mode.rejoin.contains n then s.mode.rejoin else s.mode.rejoin ++ [n] }

/-- A register key belongs to the pier core domain of a pier. -/
def inPier (n k : Nat) : Bool := (Reg.ofNat (k % 256)).domain (k / 256) == some (32 + n)

/-- The token buckets of a pier stand at 0, as PIR_QTOK and PIR_TSTOK are reset (R169), and gain from now. -/
def emptyBuckets (n : Nat) (s : State) : State :=
  let out (k : Nat) (m : SMap Bucket) : SMap Bucket := m.filter (fun (e : Nat × Bucket) => e.1 / k != n)
  { s with
    ports.qbkt := out 128 s.ports.qbkt, ports.tbkt := out 512 s.ports.tbkt, ports.ebkt := out 16 s.ports.ebkt,
    ports.bbkt := out 16 s.ports.bbkt, env.bucketEpoch := SMap.put 0 s.env.bucketEpoch n s.env.now }

/-- The pier's registers at their Reset columns, then at the values of the pier shadow, LOCK bits included (R268). Its duties
stay on the engines that hold them (R267), and its ports stay closed. -/
def restorePier (n : Nat) (s : State) : State :=
  let old := s
  let s := emptyBuckets n { s with regs := s.regs.filter (fun (e : Nat × Word) => !inPier n e.1) }
  let s := forEach (s.img.shadow.filter (fun (e : Nat × Word) => inPier n e.1))
    (fun (e : Nat × Word) s => s.wr (Reg.ofNat (e.1 % 256)) (e.1 / 256) e.2) s
  let s := forRange 64 (fun d s =>
    let k := 64 * n + d
    (s.setf F.PIR_DUTY_ENGINE k (old.f F.PIR_DUTY_ENGINE k)).setf F.PIR_DUTY_MOVING k (old.f F.PIR_DUTY_MOVING k)) s
  let here (e : Nat × Byte) : Bool := e.1 / (4096 * 64) == n
  let rest := s.eng.record.filter (fun e => !here e)
  let rest := (s.eng.recInit.filter here).foldl (fun m e => SMap.put 0 m e.1 e.2) rest
  let s := { s with eng.record := rest }
  forRange 16 (fun q s =>
    let p := 16 * n + q
    let s := (s.wr .PIR_CLOSE p (old.rd .PIR_CLOSE p)).wr .SPN_PSTAT p (old.rd .SPN_PSTAT p)
    if s.b F.PIR_CLOSE_CLOSED p && isFloing s p then s.setf F.SPN_FLSTAT_STATE (p / 4) 6 else s) s

/-! ### Tenant closure (R269) -/

/-- A tenant is closed. -/
def tenantClosed (s : State) (u : Nat) : Bool := s.bitf F.GLB_TCLOSE_CLOSED (u / 32) (u % 32)
/-- Closes a tenant: one Contained record with cause 0x18 at each closure. -/
def tenantClose (u : Nat) (s : State) : State :=
  if tenantClosed s u then s
  else pushRec 25 0x18 u (s.setBitf F.GLB_TCLOSE_CLOSED (u / 32) (u % 32) true)
/-- Releases a tenant. -/
def tenantRelease (u : Nat) (s : State) : State := s.setBitf F.GLB_TCLOSE_CLOSED (u / 32) (u % 32) false

/-! ### Quarantine (R275, R276) -/

/-- A cluster is live: its domain is on, its island runs, and an engine of it has not failed. -/
def clusterLive (s : State) (n : Nat) : Bool :=
  domOn s (48 + n) && !islandFailed s (9 + n) && (List.range 8).any (fun e => engSt s (8 * n + e) != 3)

/-- An upstream port that keeps its link in quarantine (R276). -/
def keepsLink (s : State) (p : Nat) : Bool :=
  isUpstream s p && domOn s (32 + pierOf p) && (List.range 8).any (clusterLive s)

/-- ALERT_N of the error block: an enabled class bit, quarantine, or thermal shutdown (R260, R417). -/
def refreshAlert (s : State) : State :=
  let en := s.f F.GLB_ERRCTL_ALERT_EN 0 + 8
  let alert := (s.f F.GLB_ERRSTAT_SEEN 0 &&& en) != 0 || inQuar s
  (s.setf F.GLB_ERRSTAT_ALERT 0 (if alert then 1 else 0)).setf F.GLB_ERRSTAT_FAULT 0 (if s.err.faultN then 1 else 0)

/-- A live replacement ends under quarantine, module reset or keeper power-up (Table IMG-9): its command ends INDETERMINATE if
the commit had been done and FAILED otherwise (log entry 11). -/
def liveKill (s : State) : State :=
  match s.img.live with
  | none => s
  | some l =>
    let s := { s with img.live := none }.setf F.GLB_IMGSTAT_LIVE 0 0
    if l.committed then endCmd l.cmd jIndet 0x106 0 s else failCmd l.cmd 0x12 s

/-- Entry to quarantine with a cause. In Standby the cause stays pending (Table MODE-1). -/
def quarantine (cause : Nat) (s : State) : State :=
  if inQuar s then s
  else if mode s = 0 then { s with mode.pendCause := some (s.mode.pendCause.getD cause) }
  else
    let s := (s.setf F.GLB_QSTAT_QUAR 0 1).setf F.GLB_QSTAT_CAUSE 0 cause
    let s := setMode 6 { s with err.faultN := true }
    let s := (s.setf F.GLB_MODE_ENTERING 0 0).setf F.GLB_MODE_EXITING 0 0
    let s := liveKill { s with mode.readback := false }
    let ps := (List.range 128).filter (portExists s)
    let s := forEach (ps.filter (fun p => !keepsLink s p)) (fun p s => spanClose p 8 s) s
    let s := forEach (ps.filter (keepsLink s)) (fun p s =>
      discardPortTlps p (stopFlows p (synthPort p s))) s
    refreshAlert (flushStart s)

/-! ### Failure of planes and channels (R118, R147, R148) -/

/-- A plane fails; one that was LIVE or DRAINING leaves the map, and with no LIVE plane left the SY256 enters quarantine with
cause 0x30 (R118, R119). -/
def planeFail (m cause : Nat) (s : State) : State :=
  let st := planeSt s m
  if st = 3 then s
  else if st ≥ 2 then if !domOn s (56 + m) then s else (setPlane m 3 s).setf F.DCK_STAT_CAUSE m cause
  else
    let s := planeFailCore m cause s
    if (livePlanes s).isEmpty then quarantine 0x30 (pushRec 25 0x30 0 s) else s

/-- Spilled flows lose a page: their pages are freed and their egress ports close with cause 2 (Table CSN-4). -/
def losePages (fs : List Nat) (s : State) : State :=
  let s := forEach fs closeSpill s
  forEach (fs.map (fun f => f / 8 % 128)).eraseDups (fun p s => spanClose p 2 s) s

/-- The flows with a page in a channel. -/
def flowsOn (s : State) (ch : Nat) : List Nat :=
  (s.csn.flows.filter (fun (e : Nat × SpillFlow) => e.2.pages.any (fun pg => pageChan pg == ch))).map (·.1)

/-- A channel fails (R147): it stops, flows with a page in it lose that page, record 0x22 is made; channel 0 takes the journal
region with it (R148). -/
def channelFail (ch cause : Nat) (s : State) : State :=
  if s.f F.CSN_CHSTAT_STATE ch = 1 then s else
  let lost := flowsOn s ch
  let s := (setChan ch 1 s).setf F.CSN_CHSTAT_CAUSE ch cause
  let s := losePages lost (pushRec (17 + ch) 0x22 ch s)
  let s := forRange 8 refreshSpill s
  if ch = 0 then
    let s := { s with jrn.region := [] }.setf F.JNL_STAT_CH0_LOST 0 1
    s.wr64 .JNL_TAIL 0 (tailOf s (s.rd64 .JNL_HEAD 0))
  else s

end Sys2Proof.Machine
end

