-- ==== Sys2Proof/Machine/EngFail.lean ====
section
/-! DEFINITION. Configuration requests at the engines (R175, R176, R292), migration and parking of duties (R296 to R299), and
the failure of engines and clusters with what it does to a live replacement (R271 to R274, R295, R320, R323, R324). -/

namespace Sys2Proof.Machine

/-! ### Configuration requests (R175, R176, R292) -/

/-- The journal entry of a configuration write (R176, kind 4). -/
def cfgEntry (s : State) (r : CfgReq) (status : Nat) (after : Word) : JReq :=
  let t := r.tlp
  let o : JOrg := ⟨0, r.port, none, 0, r.vs, t.rid, tenantOf s r.port t.rid t.pasid⟩
  ⟨4, status, o, 0, t.bdf / 8 % 32 * 2 ^ 16 + t.bdf % 8 * 2 ^ 12 + t.addr % 4096, 0,
    leNum (t.data.take 4) + 2 ^ 32 * (t.code % 16) + 2 ^ 64 * after.toNat⟩

/-- Completes a configuration request; one whose control request waits for its answer is completed with that (R219). -/
def cfgComplete (r : CfgReq) (status : Nat) (data : List Byte) (s : State) : State :=
  if s.host.ctlOpen.any (fun (e : Nat × CtlWait) => e.2.req == some r) then
    { s with host.ctlOpen := s.host.ctlOpen.map (fun (e : Nat × CtlWait) =>
        if e.2.req = some r then (e.1, { e.2 with done := some status }) else e) }
  else sendCpl r.tlp r.port r.vs 0 none status data 4 0 false s

/-- The answer to a control request: with the last of its configuration write, that is completed (R219). -/
def ctlAnswered (id mod : Nat) (s : State) : State :=
  match SMap.find? s.host.ctlOpen id with
  | some e =>
    if e.mod ≠ mod then s else
    let s := { s with host.ctlOpen := SMap.del s.host.ctlOpen id }
    match e.req, e.done with
    | some r, some st => if s.host.ctlOpen.any (fun (x : Nat × CtlWait) => x.2.req == some r) then s else cfgComplete r st [] s
    | _, _ => s
  | none => s

/-- Completes a configuration request that its engine did not serve with Completer Abort; a write is journalled FAILED. -/
def cfgAbort (r : CfgReq) (s : State) : State :=
  let s := if r.tlp.kind = .cfgWr then keeperEntry (cfgEntry s r jFailed 0) s else s
  cfgComplete r stCA [] s

/-- A configuration event. -/
def Ev.isCfg : Ev → Bool
  | .cfg _ _ => true
  | _ => false

/-- Configuration requests that wait or run at an engine (R292). -/
def cfgAt (s : State) (g : Nat) : Nat :=
  ((engQ s g).filter (fun (e : QEv) => e.ev.isCfg)).length
    + (match SMap.find? s.eng.cur g with | some i => if i.q.ev.isCfg && !i.done then 1 else 0 | none => 0)

/-! ### Live replacement under failures (Table IMG-9, R323, R325) -/

/-- GLB_IMGSTAT.LIVE. -/
def liveSt (s : State) : Nat := s.f F.GLB_IMGSTAT_LIVE 0
/-- The pier of the live replacement. -/
def livePier (s : State) : Nat := s.f F.GLB_IMGSTAT_LIVE_PIER 0

/-- The state of the live replacement changes; each transition is journalled under its command's number (R320). -/
def setLive (st : Nat) (s : State) : State :=
  match s.img.live with
  | some l => progress l.cmd st (s.setf F.GLB_IMGSTAT_LIVE 0 st)
  | none => s.setf F.GLB_IMGSTAT_LIVE 0 st

/-! ### Moving duties (R271, R296, R297) -/

/-- A duty of a pier, or held by an engine of it, is migrating. -/
def pierMoving (s : State) (n : Nat) : Bool :=
  (List.range 512).any (fun k => s.b F.PIR_DUTY_MOVING k &&
    (k / 64 == n || s.f F.PIR_DUTY_ENGINE k / 8 == n))

/-- Starts a planned migration of duties off an engine (R296): each is marked MOVING to its new engine, and the old engine runs
STOP for it after its current handler. -/
def planMove (l : List (Nat × Nat)) (g reason stop : Nat) (s : State) : State :=
  if l.isEmpty then s else
  let s := forEach l (fun e s => startMove e.1 e.2 reason s) s
  let stops := l.map (fun e => (⟨e.1 / 64, e.1 % 64, .stop stop⟩ : QEv))
  wakeEng g ((setEngQ g (engQ s g ++ stops) s).setf F.ENG_STAT_STATE g 4)

/-- Assigns a new engine to each duty in turn, counting those already assigned. -/
def assign (n avoid : Nat) (s : State) : List Nat → List (Nat × Nat)
  | [] => []
  | k :: rest =>
    match siblingFor s n (s.f F.PIR_DUTY_KIND k) avoid with
    | some t => (k, t) :: assign n avoid { s with eng.target := SMap.ins s.eng.target k (t, 1) } rest
    | none => assign n avoid s rest

/-- Parks engines of a pier whose PARK bits are set (R297): their duties pass to unparked siblings by planned migration; an
engine with no duty parks at once. -/
def parkEngines (gs : List Nat) (s : State) : State :=
  let s := forEach gs (fun g s => s.setf F.ENG_CTL_PARK g 1) s
  forEach gs (fun g s =>
    if !engLive s g || engSt s g = 2 then s else
    let l := assign (g / 8) g s (dutiesOf s g)
    if l.isEmpty then s.setf F.ENG_STAT_STATE g 2 else planMove l g 1 1 s) s

/-- Unparks an engine: its clock runs again and each duty whose home it is returns (R297). -/
def unparkEngine (g : Nat) (s : State) : State :=
  let s := s.setf F.ENG_CTL_PARK g 0
  if !engLive s g then s else
  let s := if engSt s g = 2 then s.setf F.ENG_STAT_STATE g 1 else s
  let home := (List.range 64).map (fun d => 64 * (g / 8) + d) |>.filter (fun k =>
    s.b F.PIR_DUTY_VALID k && s.f F.PIR_DUTY_HOME k == g && s.f F.PIR_DUTY_ENGINE k != g && !s.b F.PIR_DUTY_MOVING k)
  forEach (home.map (fun k => s.f F.PIR_DUTY_ENGINE k)).eraseDups (fun old s =>
    planMove ((home.filter (fun k => s.f F.PIR_DUTY_ENGINE k == old)).map (fun k => (k, g))) old 2 0 s) s

/-- A park or unpark request: it waits while a migration of its pier runs (R299). -/
def parkRequest (g : Nat) (park : Bool) (s : State) : State :=
  if pierMoving s (g / 8) then { s with eng.parkWait := s.eng.parkWait ++ [(g, park)] }
  else if park then parkEngines [g] s else unparkEngine g s

/-- Takes the requests of a pier that waited, while no migration runs. -/
def parkNext (n : Nat) : Nat → State → State
  | 0, s => s
  | fuel + 1, s =>
    if pierMoving s n then s else
    match List.find? (fun (e : Nat × Bool) => e.1 / 8 == n) s.eng.parkWait with
    | none => s
    | some e =>
      let s := { s with eng.parkWait := s.eng.parkWait.erase e }
      parkNext n fuel (if e.2 then parkEngines [e.1] s else unparkEngine e.1 s)

/-- A planned migration off an engine ends (R296): each duty takes its new engine, which runs START, and the old engine is
parked or runs on. -/
def endPlanned (g : Nat) (s : State) : State :=
  let l := (dutiesOf s g).filter (fun k => s.b F.PIR_DUTY_MOVING k)
  let s := forEach l (fun k s => endMove k true s) s
  let s := if engSt s g != 4 then s
    else if s.b F.ENG_CTL_PARK g then s.setf F.ENG_STAT_STATE g 2
    else wakeEng g (s.setf F.ENG_STAT_STATE g (if (SMap.find? s.eng.cur g).isSome then 0 else 1))
  parkNext (g / 8) 16 s

/-- An engine's local memory is wiped and holds the code and initial data of its pier's program in an image (R280). -/
def loadProgram (m : Image) (g : Nat) (s : State) : State :=
  { s with eng.mem := SMap.put [] s.eng.mem g (match m.segs[g / 8]? with | some x => x.prog | none => []) }

/-- An engine's local memory is wiped: every byte reads 0. -/
def wipeLocal (g : Nat) (s : State) : State := { s with eng.mem := SMap.put [] s.eng.mem g [] }

/-! ### Live replacement: abort and rollback -/

/-- A rejection is recorded in GLB_IMGERR while that holds none (R312, Table IMG-13). -/
def imgErr (b code sec pier : Nat) (s : State) : State :=
  if s.b F.GLB_IMGERR_VALID 0 then s else
  let s := (s.setf F.GLB_IMGERR_VALID 0 1).setf F.GLB_IMGERR_BANK 0 b
  ((s.setf F.GLB_IMGERR_CODE 0 code).setf F.GLB_IMGERR_SECTION 0 sec).setf F.GLB_IMGERR_PIER 0 pier

/-- An abort before the commit (R323): engines 8n + 4 to 8n + 7 take the old program again, are unparked and take their duties
home, changed ports whose links were taken down train in their old form, and the command ends FAILED. -/
def liveAbort (code : Nat) (s : State) : State :=
  match s.img.live with
  | none => s
  | some l =>
    let n := livePier s
    let swapped := liveSt s = 4
    let s := { s with img.live := none }.setf F.GLB_IMGSTAT_LIVE 0 0
    let s := if swapped then
        forEach l.changed enterTraining (forEach [4, 5, 6, 7] (fun e s => parkRequest (8 * n + e) false (loadProgram l.old (8 * n + e) s)) s)
      else s
    failCmd l.cmd code (if code = 0x11 then s else imgErr (1 - s.f F.GLB_IMGSTAT_ACTIVE 0) code 0x3F n s)

/-- What a failure in pier `n` does to a live replacement of that pier (Table IMG-9, R324, R325): codes 0x13 ENGINE,
0x15 CLOSURE, 0x12 STATE for Reduced-mode entry. In COMMIT the rollback waits for the end of the state. -/
def liveFault (n code : Nat) (s : State) : State :=
  match s.img.live with
  | none => s
  | some l =>
    let st := liveSt s
    if livePier s != n then s
    else if st = 2 ∨ st = 3 ∨ st = 4 then liveAbort code s
    else if code = 0x13 ∧ st = 5 then { s with img.live := some { l with code := code } }
    else if code = 0x13 ∧ (st = 6 ∨ st = 7) then setLive 8 { s with img.live := some { l with code := code } }
    else s

/-! ### Engine and cluster failure (R271 to R273, R295, R298) -/

/-- The pier whose engines take duties when a pier has no live engine: the next in ascending cyclic order with a live
cluster (R273). -/
def nextPier (s : State) (n : Nat) : Option Nat :=
  ((List.range 7).map (fun k => (n + 1 + k) % 8)).find? (clusterLive s)

/-- The live parked engines of a pier. -/
def parkedOf (s : State) (n : Nat) : List Nat :=
  ((List.range 8).map (fun e => 8 * n + e)).filter (fun g => engLive s g && (engSt s g == 2 || s.b F.ENG_CTL_PARK g))

/-- Before duties of pier `n` move, its lowest-numbered live parked engine is unparked where no unparked one is live
(R298). -/
def ensureUp (n : Nat) (s : State) : State :=
  if ((List.range 8).any (fun e => engUp s (8 * n + e))) then s else
  match parkedOf s n with
  | g :: _ => (s.setf F.ENG_CTL_PARK g 0).setf F.ENG_STAT_STATE g 1
  | [] => s

/-- Marks a duty as moving away from a failed engine: to a sibling (R271, R298), otherwise to the next pier with a live
cluster (R273). -/
def failMove (g k : Nat) (s : State) : State :=
  let n := k / 64
  let kind := s.f F.PIR_DUTY_KIND k
  let s := ensureUp n s
  let new := match siblingFor s n kind g with
    | some t => some t
    | none => (nextPier s n).bind (fun m => siblingFor s m kind g)
  match new with
  | some t => startMove k t 1 s
  | none => s

/-- The commands of a duty that a failed engine had started: an idempotent one is given to the new engine again, ahead of the
held items (R272). -/
def reofferCmds (k : Nat) (s : State) : State :=
  let mine := s.eng.cmds.filter (fun (e : Nat × Nat) => e.2 == k &&
    (match findCmd s e.1 with | some c => (c.byte 1).testBit 0 | none => false))
  let evs := mine.map (fun e => (⟨k / 64, k % 64, .command e.1⟩ : QEv))
  { s with
    eng.cmds := s.eng.cmds.filter (fun (e : Nat × Nat) => !mine.contains e),
    eng.moving := SMap.put [] s.eng.moving k (evs ++ SMap.get [] s.eng.moving k) }

/-- Ends the commands of a duty that must not run twice (R272): INDETERMINATE, with a Contained record of cause 0x17. -/
def dropCmds (g k : Nat) (s : State) : State :=
  let mine := s.eng.cmds.filter (fun (e : Nat × Nat) => e.2 == k)
  let s := { s with eng.cmds := s.eng.cmds.filter (fun (e : Nat × Nat) => e.2 != k) }
  forEach mine (fun e s => pushRec (9 + g / 8) 0x17 g (endCmd e.1 jIndet 0x105 0 s)) s

/-- The handler that a failed engine ran: its event goes to no other engine, and a configuration request is completed with
Completer Abort (R295). -/
def dropCurrent (g : Nat) (s : State) : State :=
  let gone (i : Option Inv) (s : State) : State :=
    match i with
    | some ⟨⟨_, _, .cfg _ r⟩, _, false, _⟩ => cfgAbort r s
    | _ => s
  let s := gone (SMap.find? s.eng.preempted g) (gone (SMap.find? s.eng.cur g) s)
  { s with eng.cur := SMap.del s.eng.cur g, eng.preempted := SMap.del s.eng.preempted g }

/-- The register writes of a failed engine that wait in a joint are journalled INDETERMINATE (R271, R41); they have not taken effect
(DESIGN CHOICE, log entry 35). -/
def loseWrites (g : Nat) (s : State) : State :=
  let mine (h : HeldW) : Bool := match h.w.org with | .engine e _ => e.val == g | _ => false
  forEach (s.jrn.held.filter mine) (fun (h : HeldW) s =>
    let after := match regAt h.off with | some (r, i) => regValue s r (bankedIdx h.w.org r i) | none => 0
    keeperEntry (writeEntry (Origin.jorg h.w.org) jIndet 0 h.off (engineRef s h.w.org) h.w.val h.w.be.toNat after) s)
    { s with jrn.held := s.jrn.held.filter (fun h => !mine h) }

/-- The core of an engine failure: FAILED, its writes in a joint lost, its handler dropped, each of its duties marked to move with the held items, and
each duty that was moving to it given another engine. -/
def failCore (g : Nat) (s : State) : State :=
  let s := s.setf F.ENG_STAT_STATE g 3
  let s := dropCurrent g (loseWrites g s)
  let s := setEngQ g ((engQ s g).filter (fun (e : QEv) => match e.ev with | .stop _ => false | _ => true)) s
  let coming := (s.eng.target.filter (fun (e : Nat × Nat × Nat) => e.2.1 == g)).map (·.1)
  let s := forEach (dutiesOf s g ++ coming).eraseDups (fun k s => reofferCmds k (failMove g k s)) s
  setEngQ g [] s

/-- An engine fails (R271): its duties move, and a live replacement of its pier aborts or rolls back. A failed engine fails
only once. When no engine of the pier is left the cluster counts as failed. -/
def engineFail (g : Nat) (s : State) : State :=
  if engSt s g = 3 then s else
  let s := failCore g s
  let s := { s with eng.failCause := SMap.ins s.eng.failCause g 1 }
  liveFault (g / 8) 0x13 s

/-- No cluster is live: quarantine with cause 0x32 (R273, R275); in quarantine already, the upstream ports that kept their links close too
(R276). -/
def noCluster (s : State) : State :=
  if (List.range 8).any (clusterLive s) then s
  else
    let s := pushRec 25 0x32 0 s
    if inQuar s then forEach ((List.range 128).filter (portExists s)) (fun p s => spanClose p 8 s) s else quarantine 0x32 s

/-- A cluster fails (R273): every engine of it is FAILED, record 0x23 is made, and its duties pass to the next pier with a live
cluster. -/
def clusterFail (n : Nat) (s : State) : State :=
  if SMap.find? s.eng.failCause (64 + n) = some 1 then s else
  let s := forRange 8 (fun e s => s.setf F.ENG_STAT_STATE (8 * n + e) 3) s
  let s := forRange 8 (fun e s => failCore (8 * n + e) s) s
  let s := { s with eng.failCause := SMap.ins s.eng.failCause (64 + n) 1 }
  noCluster (liveFault n 0x13 (pushRec (9 + n) 0x23 n s))

/-- Every engine of a pier has failed: the cluster fails (Table CONT-6). -/
def clusterIfDead (n : Nat) (s : State) : State :=
  if (List.range 8).all (fun e => engSt s (8 * n + e) = 3) then clusterFail n s else s

/-- The failure of an engine with what follows for its cluster. -/
def engineFailed (g : Nat) (s : State) : State := clusterIfDead (g / 8) (engineFail g s)

/-- The last duty of a failed unit has moved: START and the held items go to the new engines, commands that must not run twice
end INDETERMINATE, and for an engine the Corrected record 0x03 is made (R271, R272). -/
def endFailure (u : Nat) (s : State) : State :=
  let gs := if u < 64 then [u] else (List.range 8).map (fun e => 8 * (u - 64) + e)
  let s := { s with eng.failCause := SMap.del s.eng.failCause u }
  let s := forEach gs (fun g s =>
    let ks := (dutiesOf s g).filter (fun k => s.b F.PIR_DUTY_MOVING k)
    forEach ks (fun k s => endMove k true (dropCmds g k s)) s) s
  let n := if u < 64 then u / 8 else u - 64
  parkNext n 16 (if u < 64 then pushRec (9 + n) 0x03 u s else s)

end Sys2Proof.Machine
end

