-- ==== Sys2Proof/Machine/Links.lean ====
section
/-! DEFINITION. PCI Express links (R43 to R62): training, Recovery, link power
states, slot reference clocks, adaptation and margining. -/

namespace Sys2Proof.Machine

/-! ### Training and Recovery (R43 to R48, R61, R62) -/

/-- The effective rate cap of a span (R43): MAXRATE, code 0 acting as 1, and 64 GT/s in Reduced mode. -/
def rateCap (s : State) (sp : Nat) : Nat :=
  let m := max 1 (s.f F.SPN_CTL_MAXRATE sp)
  if mode s = 5 then min 6 m else m

/-- The PHY domains of a port's spans are on. -/
def phyOn (s : State) (p : Nat) : Bool := (spansOf s p).all (fun sp => domOn s sp)

/-- An upstream port whose PERST_IN_N is asserted (R190); GLB_PERST.LEVEL bit i is 1 while input i is asserted. -/
def perstHeld (s : State) (p : Nat) : Bool :=
  (List.range 16).any (fun i => s.b F.GLB_PERSTMAP_VALID i && s.f F.GLB_PERSTMAP_PORT i == p && s.bitf F.GLB_PERST_LEVEL 0 i)

/-- A PCI Express port belongs to a virtual switch, of this module or of another (R171); one that does not stays in Detect.Quiet. -/
def portBound (s : State) (p : Nat) : Bool := (fnOfPort s p).isSome || (SMap.find? s.host.home p).isSome

/-- A PCI Express port may train: it exists and is bound, its PHYs are on, it is not closed, no reset holds its link, and the SY256
is in an operating mode or in Reduced mode (R21, R61, R171, R190, R191). -/
def mayTrain (s : State) (p : Nat) : Bool :=
  portExists s p && !isFloing s p && portBound s p && phyOn s p && !s.b F.PIR_CLOSE_CLOSED p && operating s && !perstHeld s p &&
    !s.host.linkHot.contains p

/-- What a Recovery may settle on (R43 to R45, R47): a rate up to the cap, with Flit Mode as it was fixed at training and always at
64 GT/s and above, and a width up to the form's whose lanes all work. -/
def settleOk (s : State) (p width rate : Nat) (flit reversed : Bool) : Bool :=
  1 ≤ rate && rate ≤ rateCap s (spanOf p) && 1 ≤ width && width ≤ formWidth s p && (rate < 6 || flit) &&
    (activeLanes s p width reversed).all (laneSound s)

/-- What a training from Detect may settle on (R43, R44, R47, R48): Flit Mode at the low rates only with FLIT_LOW, and reversed
lanes only where they are enabled. -/
def trainOk (s : State) (p width rate : Nat) (flit reversed : Bool) : Bool :=
  settleOk s p width rate flit reversed && (rate ≥ 6 || !flit || s.b F.SPN_CTL_FLIT_LOW (spanOf p)) &&
    (!reversed || s.bitf F.SPN_CTL_REVERSE_EN (spanOf p) (p % 4))

/-- The transmitter preset that an equalisation leaves (R55): the one of phases 2 and 3, or else the override, where values 11 to
15 act as the default, or the one of phases 0 and 1. -/
def presetOf (s : State) (p rate : Nat) (e : Equal) : Nat :=
  let own (f : Fld) (dflt : Nat) : Nat := let v := s.f f (spanOf p); if v > 10 then dflt else v
  match e.preset23 with
  | some x => x.val
  | none =>
    if !s.b F.SPN_EQCTL_PRESET_OVR (spanOf p) then e.preset01.val
    else if rate ≤ 5 then own F.SPN_EQCTL_TXPRESET_NRZ 4 else own F.SPN_EQCTL_TXPRESET_PAM 0

/-- An equalisation at 8 GT/s and above ends (R55): the preset in use, and the receiver coefficients reached on the active lanes. -/
def equalised (p width rate : Nat) (eq : Option Equal) (s : State) : State :=
  match eq with
  | some e =>
    if rate < 3 then s else
    let act := activeLanes s p width (s.b F.SPN_PSTAT_REVERSED p)
    let s := s.setPort p { s.port p with preset := presetOf s p rate e }
    forRange (min act.length e.coef.length) (fun k s => s.wr .SPN_COEF (act.getD k 0) (e.coef.getD k 0)) s
  | none => s

/-- Link Status of the port's function: Current Link Speed and Negotiated Link Width, and Flit Mode Status (log entry 9). -/
def linkStatusCfg (p : Nat) (s : State) : State :=
  match fnOfPort s p with
  | none => s
  | some (v, fn) =>
    let s := setCapF v fn .pcie 0x10 19 16 (s.f F.SPN_PSTAT_RATE p) s
    let s := setCapF v fn .pcie 0x10 25 20 (lanesOf (s.f F.SPN_PSTAT_WIDTH p)) s
    setCapF v fn .pcie 0x30 26 26 (s.f F.SPN_PSTAT_FLIT p) s

/-- Set_Slot_Power_Limit goes to the device in a slot when its link comes up (Table HOST-6; log entry 9): the value and scale of
Slot Capabilities. -/
def slotPowerLimit (p : Nat) (s : State) : State :=
  match vsOfDown s p with
  | some (v, j) =>
    if (slotOf s p).isNone then s else
    let t : Tlp := { Tlp.blank with
      kind := .msg, hdr := 16, rid := ridOf s v (fnBridge j), code := 0x50, route := 4, len := 4,
      data := leBytes (capF s v (fnBridge j) .pcie 0x14 16 7) 4 }
    inject ⟨t, p, p, 0, v, none, 0, [], 0⟩ s
  | none => s

/-- A port reaches DL_Active (R61): its lanes are mapped and inverted as training found them (R48, R49), it runs in the clock mode
that is set (R51), and its equalisation is done (R55). A hot reset of an upstream port ends here (R178, R191). -/
def dlActive (p width rate : Nat) (flit reversed : Bool) (inverted : List Bool) (eq : Option Equal) (cred : Credits)
    (s : State) : State :=
  if !(mayTrain s p && linkSt s p == .training && !linkUp s p && trainOk s p width rate flit reversed) then s else
  let s := ((s.setf F.SPN_PSTAT_LINKUP p 1).setf F.SPN_PSTAT_FLIT p (if flit then 1 else 0)).setf F.SPN_PSTAT_REVERSED p
    (if reversed then 1 else 0)
  let s := equalised p width rate eq (trainLanes p width reversed inverted (setRate p width rate s))
  let s := (s.setf F.SPN_PSTAT_PMSTATE p 0).setf F.SPN_PSTAT_LTSSM p 0x0C
  let s := s.setPort p { s.port p with
    cred := cred, rxTaken := RxCredits.zero, rxBack := RxCredits.zero, txBytes := 0,
    synthRec := false, offCmd := false, wantFull := false, pciPm := false,
    clkMode := s.f F.SPN_CLKMODE_MODE (spanOf p) / 4 ^ (p % 4) % 4 }
  let s := { s with host.l2 := s.host.l2.filter (fun q => q != p), host.toAck := s.host.toAck.filter (fun q => q != p) }
  let s := slotPowerLimit p (linkNote p (linkActive p true (linkStatusCfg p s)))
  match vsOfUp s p with
  | some v => if SMap.find? s.host.inReset v = some 3 then vsResetEnd v s else s
  | none => s

/-- DL_ACTIVE. -/
def execDlActive (p : PortId) (width rate : Fin 8) (flit reversed : Bool) (inverted : List Bool) (eq : Option Equal)
    (cred : LinkCredits) (s : State) : Out :=
  live s fun s =>
    dlActive p.val width.val rate.val flit reversed inverted eq ⟨cred.ph, cred.pd, cred.nh, cred.nd, cred.ch, cred.cd⟩ s

/-- A port is directed into Recovery: from ACTIVE, or from a low-power state that it leaves. -/
def toRecovery (p : Nat) (s : State) : State :=
  if linkSt s p == .active || linkSt s p == .lowpower then
    let s := (s.setf F.SPN_PSTAT_LTSSM p 0x10).setf F.SPN_PSTAT_PMSTATE p 0
    s.setPort p { s.port p with pciPm := false }
  else s

/-- A port that EXPRESS_HOLD takes hold of returns to full-width L0, but for PCI-PM L1 (R60). -/
def holdFull (p : Nat) (s : State) : State :=
  if !portExists s p || isFloing s p || (s.port p).pciPm then s
  else if ltssm s p = 0x18 then s.setf F.SPN_PSTAT_LTSSM p 0x0C
  else if s.f F.SPN_PSTAT_PMSTATE p = 1 then s.setPort p { s.port p with wantFull := true }
  else if ltssm s p = 0x1C then toRecovery p s
  else s

/-- Every PCI Express port of a span that runs above the cap is directed into Recovery (R45). -/
def applyCap (sp : Nat) (s : State) : State :=
  forRange 4 (fun k s =>
    let p := 4 * sp + k
    if portExists s p && !isFloing s p && s.f F.SPN_PSTAT_RATE p > rateCap s sp then toRecovery p s else s) s

/-- RECOVERY: entry for errors, a speed change or a direction (R61). -/
def execRecovery (p : PortId) (equalise : Bool) (s : State) : Out := live s fun s =>
  if portExists s p.val && !isFloing s p.val && (linkSt s p.val == .active || linkSt s p.val == .lowpower) then
    (toRecovery p.val s).setf F.SPN_PSTAT_LTSSM p.val (if equalise then 0x14 else 0x10)
  else s

/-- Recovery ends: on success the port is ACTIVE at a rate and width that the cap allows, in the Flit Mode it trained in (R44), and
its held TLPs go; on failure it takes a link-down event and trains (R61). -/
def recoveryEnd (p : Nat) (ok : Bool) (width rate : Nat) (eq : Option Equal) (s : State) : State :=
  if !(portExists s p && !isFloing s p && linkSt s p == .recovery) then s else
  if ok then
    let reversed := s.b F.SPN_PSTAT_REVERSED p
    if !settleOk s p width rate (s.b F.SPN_PSTAT_FLIT p) reversed then s else
    let inverted := (activeLanes s p width reversed).map (fun i => s.b F.SPN_LANE_POLINV i)
    let s := if s.f F.SPN_PSTAT_WIDTH p = width && s.f F.SPN_PSTAT_RATE p = rate then s.setf F.SPN_PSTAT_L0PWIDTH p width
      else trainLanes p width reversed inverted (setRate p width rate s)
    let s := equalised p width rate eq s
    linkStatusCfg p ((s.setf F.SPN_PSTAT_LTSSM p 0x0C).setf F.SPN_PSTAT_PMSTATE p 0)
  else enterTraining p (linkDownEvent p s)

/-- RECOVERY_COMPLETE. -/
def execRecoveryComplete (p : PortId) (ok : Bool) (width rate : Fin 8) (eq : Option Equal) (s : State) : Out :=
  live s fun s => recoveryEnd p.val ok width.val rate.val eq s

/-- The link of an upstream port that has sent PME_TO_Ack enters L2 (R195): it carries nothing more, what is tracked on it is completed, and
no link-down event is taken (DESIGN CHOICE, log entry 81). -/
def enterL2 (p : Nat) (s : State) : State :=
  let s := { s with host.toAck := s.host.toAck.filter (fun q => q != p), host.l2 := (s.host.l2 ++ [p]).eraseDups }
  let s := (linkGone p (synthPort p (flushEgress p s))).setf F.SPN_PSTAT_LTSSM p 0x20
  match vsOfUp s p with
  | some v => refreshVs v s
  | none => s

/-- LINK_DOWN: the LTSSM of a port whose link is up reaches Detect, or DL_Down (R61, R62). -/
def execLinkDown (p : PortId) (s : State) : Out := live s fun s =>
  if !(portExists s p.val && !isFloing s p.val && linkUp s p.val) then s
  else if s.host.toAck.contains p.val then enterL2 p.val s
  else enterTraining p.val (linkDownEvent p.val s)

/-! ### Link power states (R58 to R60) -/

/-- EXPRESS_HOLD of a port. -/
def expressHold (s : State) (p : Nat) : Bool := s.bitf F.SPN_PMCTL_EXPRESS_HOLD (spanOf p) (p % 4)

/-- The narrowest L0p width of a port: L0P_MIN with 0, 6 and 7 acting as 1, or the negotiated width if narrower (R59). -/
def l0pMin (s : State) (p : Nat) : Nat :=
  let m := s.f F.SPN_PMCTL_L0P_MIN (spanOf p)
  min (s.f F.SPN_PSTAT_WIDTH p) (if m = 0 ∨ m ≥ 6 then 1 else m)

/-- Whether a port may enter a low-power state (R58 to R60): L0p in Flit Mode, narrower than negotiated and not below the
minimum; L1 by ASPM or by PCI-PM; the substates only on a downstream port bound to a slot. -/
def lowpowerOk (s : State) (p pm width : Nat) (pci : Bool) : Bool :=
  portExists s p && !isFloing s p && linkUp s p && (!expressHold s p || (pci && pm ≥ 2)) &&
    (if pm = 1 then s.b F.SPN_PSTAT_FLIT p && l0pMin s p ≤ width && width < s.f F.SPN_PSTAT_WIDTH p
     else 2 ≤ pm && pm ≤ 4 && (pm = 2 || (slotOf s p).isSome))

/-- LOWPOWER_ENTRY. -/
def execLowpowerEntry (p : PortId) (pm width : Fin 8) (pci : Bool) (s : State) : Out := live s fun s =>
  let p := p.val
  if lowpowerOk s p pm.val width.val pci && (linkSt s p == .active || ltssm s p = 0x18) then
    if pm.val = 1 then
      ((s.setf F.SPN_PSTAT_PMSTATE p 1).setf F.SPN_PSTAT_L0PWIDTH p width.val).setf F.SPN_PSTAT_LTSSM p 0x0C
    else
      let s := (s.setf F.SPN_PSTAT_PMSTATE p pm.val).setf F.SPN_PSTAT_LTSSM p 0x1C
      s.setPort p { s.port p with pciPm := pci }
  else s

/-- LOWPOWER_EXIT: the return to full-width L0. -/
def execLowpowerExit (p : PortId) (s : State) : Out := live s fun s =>
  let p := p.val
  if portExists s p && !isFloing s p && linkSt s p == .lowpower then
    let s := (s.setf F.SPN_PSTAT_PMSTATE p 0).setf F.SPN_PSTAT_LTSSM p 0x0C
    (s.setf F.SPN_PSTAT_L0PWIDTH p (s.f F.SPN_PSTAT_WIDTH p)).setPort p { s.port p with wantFull := false, pciPm := false }
  else s

/-- L0P_NARROWING_REQUEST: the egress queues of the port have been empty for 20 µs; never while EXPRESS_HOLD is set (R59,
R60). -/
def execL0pNarrowingRequest (p : PortId) (s : State) : Out := live s fun s =>
  let p := p.val
  if portExists s p && !isFloing s p && linkSt s p == .active && s.b F.SPN_PSTAT_FLIT p && !expressHold s p &&
      egressEmpty s p && l0pMin s p < s.f F.SPN_PSTAT_WIDTH p then s.setf F.SPN_PSTAT_LTSSM p 0x18
  else s

/-- PARTNER_LOW_POWER_REQUEST (R60): under EXPRESS_HOLD L0p narrowing is refused and ASPM L1 answered with
PM_Active_State_Nak; otherwise, and always for PCI-PM L1, the request is followed. -/
def execPartnerLowPowerRequest (p : PortId) (kind : PmReq) (s : State) : Out := live s fun s =>
  let p := p.val
  if !(portExists s p && !isFloing s p && linkSt s p == .active) then s else
  let held := expressHold s p
  let reply := match kind with
    | .l0p => if held || !s.b F.SPN_PSTAT_FLIT p then 2 else 1
    | .aspmL1 => if held then 3 else 1
    | .pciPm => 1
  let s := s.setPort p { s.port p with pmReply := reply }
  if kind = .l0p && reply = 1 then s.setf F.SPN_PSTAT_LTSSM p 0x18 else s

/-! ### Slot reference clocks (R53) -/

/-- The slot's hidden state. -/
def slotSt (s : State) (k : Nat) : SlotSt := SMap.get SlotSt.init s.host.slot k
/-- The state with it replaced. -/
def setSlotSt (k : Nat) (x : SlotSt) (s : State) : State := { s with host.slot := SMap.put SlotSt.init s.host.slot k x }
/-- The slot's settings in the image. -/
def slotDef (s : State) (k : Nat) : SlotDef := SMap.get SlotDef.init s.host.slotDef k

/-- L1 PM substates are enabled on a port: L1.1 or L1.2 in the bridge's L1 PM Substates Control (log entry 9). -/
def l1ssEnabled (s : State) (p : Nat) : Bool :=
  match vsOfDown s p with
  | some (v, j) => capF s v (fnBridge j) .l1ss 0x8 3 0 != 0
  | none => false

/-- The reference clock of a slot runs inside its clock window while the port's PHY domain is on: always if the image marks
it always-clocked, otherwise while CLKREQ_N is asserted or L1 PM substates are not enabled. -/
def refreshClk (k : Nat) (s : State) : State :=
  let p := s.f F.GLB_SLOT_PORT k
  let run := s.b F.GLB_SLOT_BOUND k && (slotSt s k).window && phyOn s p &&
    ((slotDef s k).always || s.b F.GLB_SLOT_CLKREQ k || !l1ssEnabled s p)
  s.setf F.GLB_SLOT_CLKRUN k (if run then 1 else 0)

/-- The same for the slot of a port. -/
def refreshPortClk (p : Nat) (s : State) : State := match slotOf s p with | some k => refreshClk k s | none => s

/-- SLOT_CLOCK_WINDOW_OPEN: only for a slot whose power-on is commanded. -/
def execSlotClockWindowOpen (k : SlotId) (s : State) : Out := live s fun s =>
  if (slotSt s k.val).on then refreshClk k.val (setSlotSt k.val { slotSt s k.val with window := true } s) else s

/-- SLOT_CLOCK_WINDOW_CLOSE: only for a slot whose power-off is commanded. -/
def execSlotClockWindowClose (k : SlotId) (s : State) : Out := live s fun s =>
  if (slotSt s k.val).on then s else refreshClk k.val (setSlotSt k.val { slotSt s k.val with window := false } s)

/-- CLKREQ_CHANGE. -/
def execClkreqChange (k : SlotId) (asserted : Bool) (s : State) : Out := live s fun s =>
  refreshClk k.val (s.setf F.GLB_SLOT_CLKREQ k.val (if asserted then 1 else 0))

/-! ### Adaptation and margining (R56, R57) -/

/-- The port whose receiver a lane belongs to. A spare lane belongs to the Floing port of its span. -/
def lanePort (s : State) (sp l : Nat) : Nat :=
  match form s sp with
  | 2 => 4 * sp + (if l < 4 then 0 else 2)
  | 3 => 4 * sp + l / 2
  | 4 => 4 * (sp - sp % 2)
  | 6 => 4 * (sp - sp % 2)
  | _ => 4 * sp

/-- A receiver in L0: a PCI Express port in L0, a Floing port in ACTIVE. -/
def laneInL0 (s : State) (p : Nat) : Bool :=
  if isFloing s p then s.f F.SPN_FLSTAT_STATE (p / 4) = 3 else portExists s p && ltssm s p = 0x0C

/-- A coefficient moved by at most one step, staying within its eight bits: 0 down, 1 unchanged, 2 up. -/
def moveCoef (v : Nat) (d : Fin 3) : Nat := if d.val = 0 then v - 1 else if d.val = 2 then min 255 (v + 1) else v

/-- The first DFE tap, two's complement, moved by at most one step within its range. -/
def moveTap (v : Nat) (d : Fin 3) : Nat :=
  if d.val = 0 then (if v = 0x80 then v else (v + 255) % 256)
  else if d.val = 2 then (if v = 0x7F then v else (v + 1) % 256) else v

/-- The moves of one step of adaptation, and the eye-height figure that the receiver then measures (R56). -/
def adaptLane (i : Nat) (ctle dfe vga : Fin 3) (eye : Nat) (s : State) : State :=
  let s := s.setf F.SPN_COEF_CTLE i (moveCoef (s.f F.SPN_COEF_CTLE i) ctle)
  let s := s.setf F.SPN_COEF_DFE1 i (moveTap (s.f F.SPN_COEF_DFE1 i) dfe)
  let s := s.setf F.SPN_COEF_VGA i (moveCoef (s.f F.SPN_COEF_VGA i) vga)
  s.setf F.SPN_COEF_EYE i eye

/-- Steps of Table SPAN-3 at a rate. -/
def marginSteps (rate : Nat) (timing : Bool) : Nat :=
  if rate ≤ 5 then (if timing then 32 else 64) else (if timing then 16 else 32)

/-- The value of a margining parameter that a port reports at a rate (Table SPAN-3): offsets in % of UI and in 10 mV, yes as 1, the
reporting method Rate as 1, the lanes margined at once as their number (log entry 8). -/
def marginParam (s : State) (p rate : Nat) : MarginParam → Nat
  | .timingSteps => marginSteps rate true
  | .timingOffset => if rate ≤ 5 then 50 else 20
  | .timingSides | .voltage | .voltageSides | .reporting => 1
  | .voltageSteps => marginSteps rate false
  | .voltageOffset => if rate ≤ 5 then 20 else 6
  | .lanes => (portLanes s p).length

/-- The result of a margining command on a lane, shown by its Margining Lane Status (log entry 9). -/
def marginResult (p lane v : Nat) (s : State) : State :=
  let s := s.setPort p { s.port p with margin := SMap.put 0 (s.port p).margin lane v }
  match fnOfPort s p with
  | some (w, fn) => setCapF w fn .margin (8 + 4 * lane) 31 16 v s
  | none => s

/-- LANE_MARGINING: at 16 GT/s and above, within the steps of Table SPAN-3, on any lane in use (R57). The result that the auxiliary
sampler gives a step is a free value (log entry 3); the data path is not touched. -/
def execLaneMargining (p : PortId) (lane : Fin 16) (op : MarginOp) (s : State) : Out :=
  live s fun s =>
    let p := p.val
    let rate := s.f F.SPN_PSTAT_RATE p
    if !(portExists s p && !isFloing s p && linkUp s p && rate ≥ 4 && lane.val < lanesOf (s.f F.SPN_PSTAT_WIDTH p)) then s else
    match op with
    | .report x => marginResult p lane.val (marginParam s p rate x) s
    | .step timing _ n _ =>
      if n.val > marginSteps rate timing then s else
      let x := s.fresh
      marginResult p lane.val x.1 x.2

end Sys2Proof.Machine
end

