-- ==== Sys2Proof/Machine/Floing.lean ====
section
/-! DEFINITION. The Floing link (R68 to R96) and rotating calibration (R63 to R66): flits, acknowledgement and replay, credits,
the footway, lanes, widths and rates, link states. -/

namespace Sys2Proof.Machine

/-! ### Numbers -/

/-- Difference modulo 4,096. -/
def mod12 (a b : Nat) : Nat := (a + 4096 - b % 4096) % 4096
/-- The governing span carries a Floing port. -/
def flHas (s : State) (g : Nat) : Bool := isFloing s (flPort g) && govSpan s g == g
/-- The member spans of the port. -/
def flSpans (s : State) (g : Nat) : List Nat := spansOf s (flPort g)
/-- Flit time in ns (Table FLO-1): 1 ns for x16 at 128 Gbit/s. -/
def flitNs (s : State) (g : Nat) : Nat :=
  let w := s.f F.SPN_PSTAT_WIDTH (flPort g)
  (if w = 5 then 1 else if w = 4 then 2 else 4) * (if s.f F.SPN_PSTAT_RATE (flPort g) = 6 then 2 else 1)
/-- The flit index `ns` ahead. -/
def ahead (s : State) (g idx ns : Nat) : Nat := (idx + ns / flitNs s g) % 2 ^ 24
/-- N. -/
def txN (s : State) (g : Nat) : Nat := s.f F.SPN_FLSEQ_TX_NEXT g
/-- P. -/
def txP (s : State) (g : Nat) : Nat := s.f F.SPN_FLSEQ_TX_ACKED g
/-- E. -/
def rxE (s : State) (g : Nat) : Nat := s.f F.SPN_FLSEQRX_RX_EXPECT g
/-- The outstanding count O = (N − 1 − P) mod 4,096. -/
def flOut (s : State) (g : Nat) : Nat := mod12 (txN s g + 4095) (txP s g)

/-! ### Credits (R76 to R78) -/

/-- The virtual channel of a packet (Tables FLO-5 and BRG-2). -/
def pktVc (h : FabHdr) : Nat :=
  if h.kind = 4 then 0 else if h.kind = 5 then 1 else 2 * h.cls.val + (if h.kind = 2 then 1 else 0)
/-- Available transmit credit. -/
def vcCredit (s : State) (g v : Nat) : Nat := s.f F.SPN_FLVC_TX_AVAIL (8 * g + v)

/-- Units of a virtual channel freed by a packet that has left the receive buffer (R77). -/
def flFree (g v n : Nat) (s : State) : State :=
  let l := fl s g
  setFl g { l with freed := l.freed.set v ((l.freed.getD v 0 + n) % 4096) } s

/-- The virtual channel whose return goes next, in round-robin order (R78). -/
def returnVc (l : FlLink) : Option Nat :=
  ((List.range 8).map (fun k => (l.crRR + k) % 8)).find? (fun v =>
    let d := mod12 (l.freed.getD v 0) (l.returned.getD v 0)
    d ≥ 8 || (l.crForce && d > 0))

/-! ### Footway (R74, R75) -/

/-- A blank footway message. -/
def FwMsg.blank : FwMsg :=
  { ty := 0, id := 0, lane := 0, findex := 0, map := [], span := 0, width := 0, cap64 := false, alloc := [], fabric := 0,
    serial := 0, sy := true, bytes := [] }

/-- Message types that are answered, and so repeated. -/
def fwAnswered (ty : Nat) : Bool := ty = 0x01 || ty = 0x10 || ty = 0x20 || ty = 0x22 || ty = 0x30

/-- Queues a footway message under a fresh ID; a request waits for its answer. -/
def sendFw (g : Nat) (m : FwMsg) (s : State) : State :=
  let l := fl s g
  let m := { m with id := l.nextId }
  let l := { l with nextId := (l.nextId + 1) % 256, fwQ := l.fwQ ++ [m] }
  let l := if fwAnswered m.ty then { l with reqs := l.reqs ++ [⟨m, 1⟩] } else l
  setFl g l s

/-- Queues an answer, which carries the ID of its request; it is kept, and sent again when the request repeats. -/
def answerFw (g : Nat) (m : FwMsg) (s : State) : State :=
  let l := fl s g
  setFl g { l with fwQ := l.fwQ ++ [m], sentAns := l.sentAns.filter (fun a => a.ty != m.ty || a.span != m.span) ++ [m] } s

/-- The request of a type on a span is answered. -/
def answered (g ty sp : Nat) (s : State) : State :=
  let l := fl s g
  setFl g { l with reqs := l.reqs.filter (fun (r : FwReq) => !(r.msg.ty == ty && r.msg.span.val == sp)) } s

/-- A span number as a footway message carries it. -/
def spanId (sp : Nat) : SpanId := Fin.ofNat 32 sp
/-- A lane number as a footway message carries it. -/
def laneId (l : Nat) : Fin 8 := Fin.ofNat 8 l

/-! ### Lanes (R87 to R91) -/

/-- ROLE of a lane of a span. -/
def role (s : State) (sp l : Nat) : Nat := s.f F.SPN_LANE_ROLE (9 * sp + l)
/-- The state with a lane's ROLE set. -/
def setRole (sp l r : Nat) (s : State) : State := s.setf F.SPN_LANE_ROLE (9 * sp + l) r
/-- The spare's ROLE and the lane it stands for. -/
def setSpare (sp r l : Nat) (s : State) : State :=
  (setRole sp 8 r s).setf F.SPN_LANE_MAPPED (9 * sp + 8) (if 2 ≤ r && r ≤ 4 then l else 0)

/-- The lane whose data a receiver takes from a lane of its map: the lane itself, or the spare that carries it. -/
def carrier (s : State) (sp l : Nat) : Nat :=
  let r := role s sp 8
  9 * sp + (if (r == 3 || r == 4) && s.f F.SPN_LANE_MAPPED (9 * sp + 8) == l then 8 else l)
/-- The receive lanes in the order in which they hold a flit's bytes (R48, R50, R68): byte i is on lane i mod W. -/
def rxLanes (s : State) (g : Nat) : List Nat :=
  let l := fl s g
  if l.rxMap.isEmpty then
    let ls := (flSpans s g).flatMap (fun sp => (List.range 8).map (carrier s sp))
    if s.b F.SPN_PSTAT_REVERSED (flPort g) then ls.reverse else ls
  else l.rxMap.map (fun x => if x = 8 then 9 * l.rxSp + 8 else carrier s l.rxSp x.val)

/-- Failed lanes that the spare, left where it is, does not carry. -/
def uncovered (s : State) (sp : Nat) (ls : List Nat) : List Nat :=
  ls.filter (fun l => role s sp l == 5 &&
    !(role s sp 8 == 4 && s.f F.SPN_LANE_MAPPED (9 * sp + 8) == l))
/-- A lane set works with the spare left where it is. -/
def wholeLeft (s : State) (sp : Nat) (ls : List Nat) : Bool := (uncovered s sp ls).isEmpty
/-- A lane set works with the spare moved to its one failed lane. -/
def wholeMoved (s : State) (g sp : Nat) (ls : List Nat) : Bool :=
  s.b F.SPN_FLCTL_SPARE_EN g && role s sp 8 != 5 && (ls.filter (fun l => role s sp l == 5)).length ≤ 1

/-- The eight data lanes of a span. -/
def allLanes : List Nat := List.range 8
/-- The halves of spans, in the order of rule 3 of R91. -/
def halves (sps : List Nat) : List (Nat × List Nat) := sps.flatMap (fun sp => [(sp, [0, 1, 2, 3]), (sp, [4, 5, 6, 7])])

/-- The first whole set of a list: whole with the spare left, otherwise whole with the spare moved. -/
def firstWhole (s : State) (g : Nat) (l : List (Nat × List Nat)) : Option (Nat × List Nat) :=
  match l.find? (fun e => wholeLeft s e.1 e.2) with
  | some e => some e
  | none => l.find? (fun e => wholeMoved s g e.1 e.2)

/-- The member spans of the present receive set. -/
def rxSpans (s : State) (g : Nat) : List Nat :=
  if (fl s g).rxMap.isEmpty then flSpans s g else [(fl s g).rxSp]

/-- The lane set of at most a width for this end's receive direction (R91): width code, span, lanes. -/
def pickSet (s : State) (g maxW : Nat) : Option (Nat × Nat × List Nat) :=
  let x8 := if maxW ≥ 4 then (firstWhole s g ((rxSpans s g).map (fun sp => (sp, allLanes)))).map (fun e => (4, e.1, e.2)) else none
  match x8 with
  | some e => some e
  | none => (firstWhole s g (halves (rxSpans s g))).map (fun e => (3, e.1, e.2))

/-- The map of a lane set: the spare takes the place of a failed lane, and a reversed port counts from its highest lane (R50). -/
def laneMap (s : State) (g sp : Nat) (ls : List Nat) : List (Fin 9) :=
  (if s.b F.SPN_PSTAT_REVERSED (flPort g) then ls.reverse else ls).map
    (fun l => if role s sp l = 5 then 8 else Fin.ofNat 9 l)

/-- The lane whose place the spare takes in a map: the one that the map leaves out of its half or span. -/
def missing (map : List (Fin 9)) : Option Nat :=
  let half := ((map.filter (· != 8)).headD 0).val / 4
  if map.contains 8 then allLanes.find? (fun l => (map.length == 8 || l / 4 == half) && !map.contains (Fin.ofNat 9 l)) else none

/-- The receive direction has a lane that failed and that nothing stands for or is about to. -/
def rxBroken (s : State) (g : Nat) : Bool :=
  let l := fl s g
  let out (sp x : Nat) : Bool :=
    role s sp x == 5 && !(2 ≤ role s sp 8 && role s sp 8 ≤ 4 && s.f F.SPN_LANE_MAPPED (9 * sp + 8) == x) &&
      (SMap.get Visit.init s.fl.visit sp).rcl != some x
  if l.rxMap.isEmpty then (flSpans s g).any (fun sp => allLanes.any (out sp)) else l.rxMap.any (fun x => out l.rxSp x.val)

/-- The receive lanes take a narrowed map: lanes outside it are unused, the spare inside it replaces the missing lane. -/
def takeRxMap (g sp : Nat) (map : List (Fin 9)) (s : State) : State :=
  let s := forEach (flSpans s g) (fun q s =>
    forRange 9 (fun l s =>
      if role s q l = 5 then s
      else if q = sp && map.contains (Fin.ofNat 9 l) then (if l = 8 then s else setRole q l 0 s)
      else if l = 8 && q = sp then setSpare q 1 0 s
      else if l = 8 then setSpare q 7 0 s else setRole q l 7 s) s) s
  match missing map with
  | some l => setSpare sp 4 l s
  | none => s

/-! ### Entering and leaving ACTIVE (R76, R93 to R95) -/

/-- The Floing link goes down with a cause (R94, R95). -/
def flDown (g cause : Nat) (s : State) : State :=
  let p := flPort g
  let up := flUp s g
  let s := forEach (flSpans s g) abandonVisit s
  let s := (s.setf F.SPN_FLCNT_LAST_DOWN g cause).setf F.SPN_FLSTAT_STATE g 0
  let s := s.setf F.SPN_PSTAT_LTSSM p 0
  if up then linkDownEvent p (flDiscard g s) else s

/-- This end's cap is 64 Gbit/s (R68). -/
def ownCap64 (s : State) (g : Nat) : Bool := s.b F.SPN_FLCTL_RATE_CAP g || mode s == 5

/-- The LINK_PARAM message of this end (Table FLO-6). -/
def paramMsg (s : State) (g : Nat) : FwMsg :=
  { FwMsg.blank with
    ty := 0x01, span := spanId g, width := s.f F.SPN_PSTAT_WIDTH (flPort g), cap64 := ownCap64 s g,
    alloc := (List.range 8).map (fun v => allocActs (s.f F.SPN_FLVC_RX_ALLOC (8 * g + v))),
    fabric := s.f F.GLB_FABID_FABRIC 0, serial := s.rd64 .KEY_SERIAL 0 }

/-- The rate code that both caps allow. -/
def flRate (s : State) (g : Nat) : Nat := if ownCap64 s g || (fl s g).pCap64 then 6 else 7

/-- Entry to ACTIVE from PARAM: sequence state, credits and counts are initialised (Table FLO-7, R76). -/
def flActive (g : Nat) (s : State) : State :=
  let p := flPort g
  let l := fl s g
  let s := (s.wr .SPN_FLSEQ g 0x00000FFF).wr .SPN_FLSEQRX g 0x00000FFF
  let s := forRange 8 (fun v s => s.setf F.SPN_FLVC_TX_AVAIL (8 * g + v) (l.pAlloc.getD v 0)) s
  let s := setFl g { l.fresh with
    rxSp := l.rxSp, txSp := l.txSp, fwQ := l.fwQ, seen := l.seen, sentAns := l.sentAns,
    wasX4 := s.f F.SPN_PSTAT_WIDTH p = 3,
    pAlloc := l.pAlloc, pFabric := l.pFabric, pSerial := l.pSerial, pCap64 := l.pCap64, cap64 := ownCap64 s g,
    rxAlloc := (List.range 8).map (fun v => s.f F.SPN_FLVC_RX_ALLOC (8 * g + v)) } s
  let s := (s.setf F.SPN_FLSTAT_STATE g 3).setf F.SPN_PSTAT_LTSSM p 0x0C
  let s := (setRate p (s.f F.SPN_PSTAT_WIDTH p) (flRate s g) ((s.setf F.SPN_PSTAT_LINKUP p 1).setf F.SPN_PSTAT_FLIT p 1))
  linkNote p (s.setPort p { s.port p with synthRec := false, offCmd := false })

/-! ### Replay (R82, R85, R86) -/

/-- Starts a replay from P + 1, counted in REPLAYS. -/
def startReplay (g : Nat) (s : State) : State :=
  let l := fl s g
  let r := if flOut s g = 0 then none else some ((txP s g + 1) % 4096)
  let s := count g 0x005 (subPort 0) 1 (s.satf F.SPN_FLCNT_REPLAYS g 1)
  setFl g { l with r := r } s

/-- Acts on a received ACK by Table FLO-8; answers whether the link goes down. -/
def takeAck (g a : Nat) (s : State) : State × Bool :=
  let p := txP s g
  let d := mod12 a p
  let o := flOut s g
  let l := fl s g
  if d = 0 then (s, false)
  else if d ≤ o then
    let keep (e : RepEnt) : Bool := mod12 e.seq p > d
    let r := match l.r with
      | some r => if mod12 r p ≤ d then (if d = o then none else some ((a + 1) % 4096)) else some r
      | none => none
    (setFl g { l with replay := l.replay.filter keep, r := r, toRun := 0 } (s.setf F.SPN_FLSEQ_TX_ACKED g a), false)
  else
    let times := (l.oow.filter (fun t => s.env.now ≤ t + 1000000)) ++ [s.env.now]
    (setFl g { l with oow := times } (s.satf F.SPN_FLCNT_OOW_ACKS g 1), times.length ≥ 3)

/-! ### Calibration (R63 to R66, R89) -/

/-- The calibration record of a span. -/
def visit (s : State) (sp : Nat) : Visit := SMap.get Visit.init s.fl.visit sp
/-- The state with it replaced. -/
def setVisit (sp : Nat) (v : Visit) (s : State) : State := { s with fl.visit := SMap.put Visit.init s.fl.visit sp v }
/-- PHASE of a span's visit. -/
def phase (s : State) (sp : Nat) : Nat := s.f F.SPN_CALSTAT_PHASE sp
/-- The lane of a span's visit. -/
def calLane (s : State) (sp : Nat) : Nat := s.f F.SPN_CALSTAT_LANE sp

/-- Handovers agreed for one direction of a span's visit that have not come are dropped. -/
def dropVisit (g sp : Nat) (rx : Bool) (s : State) : State :=
  let gone (a : Agreed) : Bool := a.rx == rx && a.span == sp && (a.kind == 1 || a.kind == 2 || a.kind == 5)
  setFl g { fl s g with agreed := (fl s g).agreed.filter (fun a => !gone a) } s

/-- The marks of an abandoned visit (R66): the lane takes back its coefficients, ABORT is set and CAL_ABORT sent. -/
def abortMarks (g sp : Nat) (s : State) : State :=
  let l := calLane s sp
  let s := (s.wr .SPN_COEF (9 * sp + l) (visit s sp).saved).setf F.SPN_CALSTAT_ABORT sp 1
  sendFw g { FwMsg.blank with ty := 0x14, span := spanId sp, lane := laneId l } (answered g 0x10 sp s)

/-- A visit is abandoned on a link that runs on (R66). A lane that the spare carries already is handed back once relocked;
otherwise the spare is idle at once. -/
def flAbandon (sp : Nat) (s : State) : State :=
  let ph := phase s sp
  if ph = 0 || (visit s sp).aborted then s else
  let g := govSpan s sp
  let s := abortMarks g sp s
  if ph ≤ 2 then dropVisit g sp true (setSpare sp 1 0 (s.setf F.SPN_CALSTAT_PHASE sp 0))
  else setVisit sp { visit s sp with aborted := true } (s.setf F.SPN_CALSTAT_PHASE sp 4)

/-- A change of this end's cap in ACTIVE starts a rate change (R68, Table FLO-13) and abandons visits (R66). -/
def checkCap (g : Nat) (s : State) : State :=
  let cap := ownCap64 s g
  if flSt s g = 3 && (fl s g).cap64 != cap then
    let s := forEach (flSpans s g) flAbandon s
    let f := ahead s g (fl s g).rxIdx 2000
    let s := setFl g { fl s g with cap64 := cap, relock := true } s
    let s := sendFw g { FwMsg.blank with ty := 0x30, span := spanId g, cap64 := cap, findex := f } s
    (s.setf F.SPN_FLSTAT_STATE g 5).setf F.SPN_PSTAT_LTSSM (flPort g) 0x10
  else s

/-- CALIBRATION_VISIT_START: with CAL_EN 1, the spare idle and the port ACTIVE (R63). The lane visited is the next data lane in
use. -/
def execCalibrationVisitStart (sp : SpanId) (s : State) : Out := live s fun s =>
  let sp := sp.val
  let g := govSpan s sp
  let v := visit s sp
  let lane := ((List.range 8).map (fun k => (v.next + k) % 8)).find? (fun l => role s sp l == 0)
  match lane with
  | some l =>
    if isFloing s (4 * g) && flSt s g = 3 && s.b F.SPN_CALCTL_CAL_EN sp && role s sp 8 = 1 && phase s sp = 0 then
      let s := setVisit sp { v with saved := s.rd .SPN_COEF (9 * sp + l), acked := false, next := (l + 1) % 8,
                                    aborted := false, rcl := none } s
      let s := setSpare sp 2 l ((s.setf F.SPN_CALSTAT_LANE sp l).setf F.SPN_CALSTAT_PHASE sp 1)
      sendFw g { FwMsg.blank with ty := 0x10, span := spanId sp, lane := laneId l } s
    else s
  | none => s

/-- CAL_SPARE_LOCKED: the receiver has locked and deskewed the spare and sends CAL_SWAP (Table SPAN-6, step 4). -/
def execCalSpareLocked (sp : SpanId) (s : State) : Out := live s fun s =>
  let sp := sp.val
  let g := govSpan s sp
  if phase s sp = 1 && (visit s sp).acked then
    let l := calLane s sp
    let f := ahead s g (fl s g).rxIdx 100
    let s := setFl g { fl s g with agreed := (fl s g).agreed ++ [⟨true, f, 1, l, [], 0, 0, sp⟩] } s
    sendFw g { FwMsg.blank with ty := 0x12, span := spanId sp, lane := laneId l, findex := f }
      (s.setf F.SPN_CALSTAT_PHASE sp 2)
  else s

/-- CAL_WINDOW_END: the receiver judges the new coefficients (R65): kept if the last 1 µs showed no symbol error and the eye is
at least the one held before. -/
def execCalWindowEnd (sp : SpanId) (coef : Word) (clean : Bool) (s : State) : Out := live s fun s =>
  let sp := sp.val
  if phase s sp = 3 then
    let i := 9 * sp + calLane s sp
    let old := (visit s sp).saved
    let s := if clean && F.SPN_COEF_EYE.get coef ≥ F.SPN_COEF_EYE.get old then s.wr .SPN_COEF i coef
      else (s.wr .SPN_COEF i old).satf F.SPN_CALSTAT_REJECTS sp 1
    s.setf F.SPN_CALSTAT_PHASE sp 4
  else s

/-- CAL_LANE_RELOCKED: the lane is handed back with CAL_DONE (Table SPAN-6, step 7). -/
def execCalLaneRelocked (sp : SpanId) (s : State) : Out := live s fun s =>
  let sp := sp.val
  let g := govSpan s sp
  if phase s sp = 4 && flUp s g then
    let l := calLane s sp
    let f := ahead s g (fl s g).rxIdx 100
    let s := setFl g { fl s g with agreed := (fl s g).agreed ++ [⟨true, f, 2, l, [], 0, 0, sp⟩] } s
    sendFw g { FwMsg.blank with ty := 0x13, span := spanId sp, lane := laneId l, findex := f } s
  else s

/-- CAL_ACK_TIMEOUT: no CAL_ACK within 2 µs of the first CAL_REQ (R66). -/
def execCalAckTimeout (sp : SpanId) (s : State) : Out := live s fun s =>
  if phase s sp.val = 1 && !(visit s sp.val).acked then flAbandon sp.val s else s

/-! ### Lane failure and narrowing (R87 to R92) -/

/-- Points the spare at a failed lane with LANE_SWAP (R88): F is the flit index expected 1.5 µs from now. -/
def laneSwapStart (g sp l : Nat) (s : State) : State :=
  let f := ahead s g (fl s g).rxIdx 1500
  sendFw g { FwMsg.blank with ty := 0x20, span := spanId sp, lane := laneId l, findex := f } (setSpare sp 2 l s)

/-- NARROWING begins: visits are abandoned, and LANE_SWAP requests, width requests and width changes not yet reached lapse (R92).
New flits stop while it lasts. -/
def narrowing (g : Nat) (s : State) : State :=
  let s := forEach (flSpans s g) flAbandon s
  let l := fl s g
  let s := setFl g { l with
    reqs := l.reqs.filter (fun (r : FwReq) => r.msg.ty != 0x20 && r.msg.ty != 0x22),
    agreed := l.agreed.filter (fun a => a.kind != 3) } s
  (s.setf F.SPN_FLSTAT_STATE g 4).setf F.SPN_PSTAT_LTSSM (flPort g) 0x10

/-- This end names its own receive set of a width with WIDTH_CHG (R91, R92). -/
def askWidth (g nw sp : Nat) (ls : List Nat) (s : State) : State :=
  let s := narrowing g s
  sendFw g { FwMsg.blank with
    ty := 0x22, span := spanId sp, width := nw, map := laneMap s g sp ls, findex := ahead s g (fl s g).rxIdx 2000 } s

/-- A lane failed that the spare cannot cover (R91): from ACTIVE the port narrows, or goes down with no usable width. In NARROWING
and RATE_CHANGE this waits for ACTIVE, since Table FLO-13 leaves them no other way (log entry 73). -/
def narrow (g : Nat) (s : State) : State :=
  if flSt s g != 3 then s else
  let w := s.f F.SPN_PSTAT_WIDTH (flPort g)
  match (if w ≤ 3 then none else pickSet s g (w - 1)) with
  | none => flDown g 5 s
  | some (nw, sp, ls) => askWidth g nw sp ls s

/-- ACTIVE again after a narrowing or a rate change: what waited for it is done. -/
def flResume (g : Nat) (s : State) : State :=
  let p := flPort g
  let s := (s.setf F.SPN_FLSTAT_STATE g 3).setf F.SPN_PSTAT_LTSSM p 0x0C
  if rxBroken s g then narrow g s else checkCap g s

/-- A visit ends because its own lane failed while the spare carries it: the spare keeps it (Table FLO-12). -/
def spareKeeps (g sp l : Nat) (s : State) : State :=
  let s := if (visit s sp).aborted then s else abortMarks g sp s
  let s := setVisit sp { visit s sp with aborted := false } (dropVisit g sp true s)
  pushRec (sp / 4) 0x04 (flPort g) ((setSpare sp 4 l s).setf F.SPN_CALSTAT_PHASE sp 0)

/-- A failure that the spare of its span can cover (Table FLO-12 for one during a visit). -/
def coverLane (g sp l : Nat) (s : State) : State :=
  let ph := phase s sp
  let c := calLane s sp
  if ph = 0 then laneSwapStart g sp l s
  else if ph ≤ 2 then laneSwapStart g sp l (flAbandon sp s)
  else if c = l then spareKeeps g sp l s
  else
    let s := flAbandon sp s
    setVisit sp { visit s sp with rcl := some l } s

/-- A receive lane fails (R87): ROLE 5, RX_FAILED, the LANE flag, then the spare or a narrowing; two failures within 1 µs, a
spare that cannot serve, or SPARE_EN 0 narrow the port at once (R90, R91). -/
def laneFail (sp l : Nat) (s : State) : State :=
  let g := govSpan s sp
  if !isFloing s (4 * g) || !flUp s g || role s sp l = 5 || role s sp l = 7 then s else
  let two := (flSpans s g).any (fun q => (List.range 8).any (fun k =>
    match SMap.find? (fl s g).failAt (9 * q + k) with | some t => s.env.now < t + 1000 | none => false))
  let s := setRole sp l 5 ((s.setBitf F.SPN_FLSTAT_RX_FAILED sp l true).setf F.SPN_LANE_LOCK (9 * sp + l) 0)
  let s := laneEvent sp (setFl g { fl s g with failAt := SMap.ins (fl s g).failAt (9 * sp + l) s.env.now } s)
  let spareOk := s.b F.SPN_FLCTL_SPARE_EN g && role s sp 8 != 4 && role s sp 8 != 5 && role s sp 8 != 7 &&
    (visit s sp).rcl.isNone && !((fl s g).reqs.any (fun (r : FwReq) => r.msg.ty == 0x20 && r.msg.span.val == sp))
  if spareOk && !two then coverLane g sp l s else narrow g s

/-- LANE_FAILURE. -/
def execLaneFailure (sp : SpanId) (l : Fin 8) (s : State) : Out := live s fun s => laneFail sp.val l.val s

/-- The spare fails (R90): ROLE 5, and SPARE_FAIL in the governing span (R96); calibration stops, and a lane then on loan carries its
own data again (DESIGN CHOICE, log 75). A failed lane that the spare carries or was to carry narrows the port. -/
def spareFail (sp : Nat) (s : State) : State :=
  let g := govSpan s sp
  if !isFloing s (4 * g) || role s sp 8 = 5 || role s sp 8 = 7 then s else
  let s := dropVisit g sp true (flAbandon sp s)
  let i := 9 * sp + calLane s sp
  let s := if s.f F.SPN_LANE_ROLE i = 6 then s.setf F.SPN_LANE_ROLE i 0 else s
  let s := setVisit sp { visit s sp with aborted := false, rcl := none } (setSpare sp 5 0 s)
  let s := laneEvent sp ((s.setf F.SPN_FLSTAT_SPARE_FAIL g 1).setf F.SPN_CALSTAT_PHASE sp 0)
  if rxBroken s g then narrow g s else s

/-- Symbol errors on a lane, counted in ERRCNT; a rise of more than ERR_THR of the lane's own span within one millisecond fails the
lane, or the spare that carries one (R87, R96). -/
def symbolErrors (i n : Nat) (s : State) : State :=
  if n = 0 then s else
  let sp := i / 9
  let old := s.f F.SPN_LANE_ERRCNT i
  let s := s.satf F.SPN_LANE_ERRCNT i n
  let rise := s.f F.SPN_LANE_ERRCNT i - old
  let ms := s.env.now / 1000000
  let was := SMap.get (0, 0) s.fl.errWin i
  let sum := (if was.1 = ms then was.2 else 0) + rise
  let s := { s with fl.errWin := SMap.put (0, 0) s.fl.errWin i (ms, sum) }
  let thr := s.f F.SPN_FLTHR_ERR_THR sp
  if thr = 0 || sum ≤ thr then s
  else if i % 9 = 8 then (if role s sp 8 = 4 then spareFail sp s else s)
  else laneFail sp (i % 9) s

/-- SPARE_FAILURE. -/
def execSpareFailure (sp : SpanId) (s : State) : Out := live s fun s => spareFail sp.val s

/-- Changes of a kind that the port has asked for or agreed, and not yet reached. -/
def awaits (l : FlLink) (ty kind : Nat) : Bool :=
  l.reqs.any (fun (r : FwReq) => r.msg.ty == ty) || l.agreed.any (fun (a : Agreed) => a.kind == kind)

/-- A narrowing ends when both directions run the new width (R92); a rate change that has not relocked goes on. -/
def narrowDone (g w : Nat) (s : State) : State :=
  let l := fl s g
  if flSt s g != 4 || awaits l 0x22 3 then s else
  let p := flPort g
  let s := setFl g { l with wasX4 := l.wasX4 || w == 3 } s
  let s := pushRec (pierOf p) 0x05 p (setRate p w (s.f F.SPN_PSTAT_RATE p) s)
  if l.relock then s.setf F.SPN_FLSTAT_STATE g 5 else flResume g s

/-- A flit index of a rate change is reached: once both directions have reached it the port runs the rate of both caps (R68,
R72). -/
def rateReached (g : Nat) (s : State) : State :=
  if awaits (fl s g) 0x30 4 then s else setRate (flPort g) (s.f F.SPN_PSTAT_WIDTH (flPort g)) (flRate s g) s

/-! ### Receiving footway messages -/

/-- Both directions run the width of the narrower end (R68): this end's receive set of the partner's width. -/
def adoptWidth (g w : Nat) (s : State) : State :=
  let p := flPort g
  if w < 3 || s.f F.SPN_PSTAT_WIDTH p ≤ w then s else
  match pickSet s g w with
  | some (nw, sp, ls) =>
    let m := laneMap s g sp ls
    let s := setFl g { fl s g with rxMap := m, rxSp := sp } (takeRxMap g sp m s)
    (s.setf F.SPN_PSTAT_WIDTH p nw).setf F.SPN_PSTAT_L0PWIDTH p nw
  | none => s

/-- LINK_PARAM at PARAM (R93): the partner's values are taken, or the mismatch sends the port DOWN with PEERERR. -/
def fwLinkParam (g : Nat) (m : FwMsg) (s : State) : State :=
  if flSt s g != 2 then s
  else if m.fabric != s.f F.GLB_FABID_FABRIC 0 || !m.sy then
    let s := (s.setf F.SPN_FLSTAT_PEERERR g 1).setf F.SPN_FLCNT_LAST_DOWN g 6
    setFl g { fl s g with reqs := [], fwQ := [] } (s.setf F.SPN_FLSTAT_STATE g 0)
  else
    let s := setFl g { fl s g with pAlloc := m.alloc.map allocActs, pFabric := m.fabric, pSerial := m.serial,
                                   pCap64 := m.cap64, gotParam := true } s
    let s := adoptWidth g m.width s
    let s := answerFw g { FwMsg.blank with ty := 0x02, id := m.id } s
    if (fl s g).gotAck then flActive g s else s

/-- LINK_PARAM_ACK ends the exchange of the request it names. -/
def fwLinkParamAck (g : Nat) (m : FwMsg) (s : State) : State :=
  if flSt s g != 2 || !((fl s g).reqs.any (fun (r : FwReq) => r.msg.ty == 0x01 && r.msg.id == m.id)) then s else
  let s := answered g 0x01 g s
  let s := setFl g { fl s g with gotAck := true } s
  if (fl s g).gotParam then flActive g s else s

/-- CAL_REQ: the transmitter mirrors the lane on the spare and answers. -/
def fwCalReq (g : Nat) (m : FwMsg) (s : State) : State :=
  let sp := m.span.val
  let s := setVisit sp { visit s sp with txLane := some m.lane.val, txPattern := false, txSwapped := false } s
  answerFw g { FwMsg.blank with ty := 0x11, id := m.id, span := m.span, lane := m.lane } s

/-- CAL_ACK. -/
def fwCalAck (g : Nat) (m : FwMsg) (s : State) : State :=
  let sp := m.span.val
  if phase s sp = 1 && calLane s sp = m.lane.val then
    answered g 0x10 sp (setVisit sp { visit s sp with acked := true } s)
  else s

/-- A change of the transmit direction agreed for a flit index. -/
def agreeTx (g kind idx lane sp : Nat) (map : List (Fin 9)) (width : Nat) (s : State) : State :=
  setFl g { fl s g with agreed := (fl s g).agreed ++ [⟨false, idx, kind, lane, map, width, 0, sp⟩] } s

/-- CAL_ABORT: the partner's side of a visit ends; a lane that the partner takes from the spare carries data again at once and stays
mirrored until CAL_DONE (R66). -/
def fwCalAbort (g : Nat) (m : FwMsg) (s : State) : State :=
  let sp := m.span.val
  let v := visit s sp
  if v.txSwapped then setVisit sp { v with txPattern := false } s
  else dropVisit g sp false (setVisit sp { v with txLane := none } s)

/-- LANE_SWAP: mirrored, reported failed and answered; ignored if F has gone (R88). -/
def fwLaneSwap (g : Nat) (m : FwMsg) (s : State) : State :=
  let gone := (m.findex + 2 ^ 24 - (fl s g).txIdx) % 2 ^ 24 ≥ 2 ^ 23
  if gone then s else
  let sp := m.span.val
  let s := s.setBitf F.SPN_FLSTAT_TX_FAILED sp m.lane.val true
  let s := setVisit sp { visit s sp with txLane := some m.lane.val, txPattern := false } s
  answerFw g { FwMsg.blank with ty := 0x21, id := m.id, span := m.span, lane := m.lane, findex := m.findex }
    (agreeTx g 0 m.findex m.lane.val sp [] 0 s)

/-- LANE_SWAP_ACK: the receiver takes the lane from the spare at F. -/
def fwLaneSwapAck (g : Nat) (m : FwMsg) (s : State) : State :=
  let sp := m.span.val
  if !((fl s g).reqs.any (fun (r : FwReq) => r.msg.ty == 0x20 && r.msg.span == m.span && r.msg.lane == m.lane)) then s else
  let s := answered g 0x20 sp s
  setFl g { fl s g with agreed := (fl s g).agreed ++ [⟨true, m.findex, 0, m.lane.val, [], 0, 0, sp⟩] } s

/-- WIDTH_CHG: the partner's receive map becomes this end's transmit map, and the answer carries this end's own receive set of
the new width (R91, R92). Where this end has only a narrower set, or has asked for one, that width is the one both take: its own
WIDTH_CHG stands in place of an answer (log entry 73). -/
def fwWidthChg (g : Nat) (m : FwMsg) (s : State) : State :=
  if !flUp s g || (fl s g).reqs.any (fun (r : FwReq) => r.msg.ty == 0x22 && r.msg.width < m.width) then s else
  match pickSet s g m.width with
  | none => flDown g 5 s
  | some (nw, sp, ls) =>
    if nw < m.width then askWidth g nw sp ls s else
    let s := narrowing g s
    let map := laneMap s g sp ls
    let f := ahead s g (fl s g).rxIdx 2000
    let s := setFl g { fl s g with agreed := (fl s g).agreed ++ [⟨true, f, 3, 0, map, nw, 0, sp⟩] } s
    let s := agreeTx g 3 m.findex 0 m.span.val m.map nw s
    answerFw g { FwMsg.blank with ty := 0x23, id := m.id, span := spanId sp, width := nw, map := map, findex := f } s

/-- WIDTH_CHG_ACK: this end's receive map and the partner's, for the indexes each named. -/
def fwWidthChgAck (g : Nat) (m : FwMsg) (s : State) : State :=
  match (fl s g).reqs.find? (fun (r : FwReq) => r.msg.ty == 0x22 && r.msg.id == m.id) with
  | none => s
  | some r =>
    let s := setFl g { fl s g with
      reqs := (fl s g).reqs.erase r,
      agreed := (fl s g).agreed ++ [⟨true, r.msg.findex, 3, 0, r.msg.map, r.msg.width, 0, r.msg.span.val⟩] } s
    agreeTx g 3 m.findex 0 m.span.val m.map r.msg.width s

/-- Both directions change their rate at one flit index (Table FLO-6). -/
def agreeRate (g idx : Nat) (s : State) : State :=
  setFl g { fl s g with agreed := (fl s g).agreed ++ [⟨true, idx, 4, 0, [], 0, 0, g⟩, ⟨false, idx, 4, 0, [], 0, 0, g⟩] } s

/-- RATE_CHG: the partner's cap is taken and the change agreed at its flit index; visits are abandoned (R66). A narrowing runs to
its end first. -/
def fwRateChg (g : Nat) (m : FwMsg) (s : State) : State :=
  if !flUp s g then s else
  let s := forEach (flSpans s g) flAbandon s
  let s := setFl g { fl s g with pCap64 := m.cap64, relock := true } s
  let s := if flSt s g = 4 then s
    else (s.setf F.SPN_FLSTAT_STATE g 5).setf F.SPN_PSTAT_LTSSM (flPort g) 0x10
  answerFw g { FwMsg.blank with ty := 0x31, id := m.id, cap64 := ownCap64 s g } (agreeRate g m.findex s)

/-- RATE_CHG_ACK confirms the request. -/
def fwRateChgAck (g : Nat) (m : FwMsg) (s : State) : State :=
  match (fl s g).reqs.find? (fun (r : FwReq) => r.msg.ty == 0x30 && r.msg.id == m.id) with
  | none => s
  | some r => agreeRate g r.msg.findex (setFl g { fl s g with reqs := (fl s g).reqs.erase r } s)

/-- ENGINE: offered to the LINK duty of the port as a FOOTWAY event (log entry 12). -/
def fwEngine (g : Nat) (m : FwMsg) (s : State) : State :=
  offerKind (g / 4) 1 (flPort g) (.footway (flPort g) m.bytes) s

/-- Acts on a message by its type. -/
def fwAct (g : Nat) (m : FwMsg) (s : State) : State :=
  match m.ty with
  | 0x01 => fwLinkParam g m s
  | 0x02 => fwLinkParamAck g m s
  | 0x10 => fwCalReq g m s
  | 0x11 => fwCalAck g m s
  | 0x12 => agreeTx g 1 m.findex m.lane.val m.span.val [] 0 s
  | 0x13 => agreeTx g 2 m.findex m.lane.val m.span.val [] 0 s
  | 0x14 => fwCalAbort g m s
  | 0x20 => fwLaneSwap g m s
  | 0x21 => fwLaneSwapAck g m s
  | 0x22 => fwWidthChg g m s
  | 0x23 => fwWidthChgAck g m s
  | 0x30 => fwRateChg g m s
  | 0x31 => fwRateChgAck g m s
  | 0x40 => fwEngine g m s
  | _ => s

/-- A message received: a repeat, known by TYPE and ID, is not acted on again; the answer of a repeated request is sent again as it
was (log entry 13). Of each TYPE and span the newest ID is kept. -/
def fwReceive (g : Nat) (m : FwMsg) (s : State) : State :=
  let l := fl s g
  if l.seen.contains (m.ty, m.span.val, m.id) then
    match l.sentAns.find? (fun a => fwAnswered m.ty && a.ty == m.ty + 1 && a.id == m.id) with
    | some a => setFl g { l with fwQ := l.fwQ ++ [a] } s
    | none => s
  else
    let seen := (l.seen.filter (fun e => !(e.1 == m.ty && e.2.1 == m.span.val))) ++ [(m.ty, m.span.val, m.id)]
    fwAct g m (setFl g { l with seen := seen } s)

/-- A message that arrives on a Floing port that trains or runs. -/
def fwArrive (g ty : Nat) (m : FwMsg) (s : State) : State :=
  let g := govSpan s g
  if isFloing s (4 * g) && (flUp s g || flSt s g = 2) then fwReceive g { m with ty := ty } s else s

/-- LINK_PARAM. -/
def execLinkParam (g : SpanId) (m : FwMsg) (s : State) : Out := live s fun s => fwArrive g.val 0x01 m s
/-- LINK_PARAM_ACK. -/
def execLinkParamAck (g : SpanId) (m : FwMsg) (s : State) : Out := live s fun s => fwArrive g.val 0x02 m s
/-- CAL_REQ. -/
def execCalReq (g : SpanId) (m : FwMsg) (s : State) : Out := live s fun s => fwArrive g.val 0x10 m s
/-- CAL_ACK. -/
def execCalAck (g : SpanId) (m : FwMsg) (s : State) : Out := live s fun s => fwArrive g.val 0x11 m s
/-- CAL_SWAP. -/
def execCalSwap (g : SpanId) (m : FwMsg) (s : State) : Out := live s fun s => fwArrive g.val 0x12 m s
/-- CAL_DONE. -/
def execCalDone (g : SpanId) (m : FwMsg) (s : State) : Out := live s fun s => fwArrive g.val 0x13 m s
/-- CAL_ABORT. -/
def execCalAbort (g : SpanId) (m : FwMsg) (s : State) : Out := live s fun s => fwArrive g.val 0x14 m s
/-- LANE_SWAP. -/
def execLaneSwap (g : SpanId) (m : FwMsg) (s : State) : Out := live s fun s => fwArrive g.val 0x20 m s
/-- LANE_SWAP_ACK. -/
def execLaneSwapAck (g : SpanId) (m : FwMsg) (s : State) : Out := live s fun s => fwArrive g.val 0x21 m s
/-- WIDTH_CHG. -/
def execWidthChg (g : SpanId) (m : FwMsg) (s : State) : Out := live s fun s => fwArrive g.val 0x22 m s
/-- WIDTH_CHG_ACK. -/
def execWidthChgAck (g : SpanId) (m : FwMsg) (s : State) : Out := live s fun s => fwArrive g.val 0x23 m s
/-- RATE_CHG. -/
def execRateChg (g : SpanId) (m : FwMsg) (s : State) : Out := live s fun s => fwArrive g.val 0x30 m s
/-- RATE_CHG_ACK. -/
def execRateChgAck (g : SpanId) (m : FwMsg) (s : State) : Out := live s fun s => fwArrive g.val 0x31 m s
/-- ENGINE. -/
def execEngine (g : SpanId) (m : FwMsg) (s : State) : Out := live s fun s => fwArrive g.val 0x40 m s

/-- A footway request failed after eight sends (Table FLO-6). -/
def fwFailed (g : Nat) (r : FwReq) (s : State) : State :=
  let s := setFl g { fl s g with reqs := (fl s g).reqs.erase r } s
  match r.msg.ty with
  | 0x01 => setFl g { fl s g with gotParam := false, gotAck := false } (s.setf F.SPN_FLSTAT_STATE g 1)
  | 0x10 => flAbandon r.msg.span.val s
  | 0x20 => narrow g s
  | _ => flDown g 7 s

/-- A request is sent again; LANE_SWAP names a new F and so takes a new ID (R88). -/
def fwAgain (g : Nat) (r : FwReq) (s : State) : State :=
  let l := fl s g
  let m := if r.msg.ty = 0x20 then { r.msg with id := l.nextId, findex := ahead s g l.rxIdx 1500 } else r.msg
  let l := if r.msg.ty = 0x20 then { l with nextId := (l.nextId + 1) % 256 } else l
  setFl g { l with fwQ := l.fwQ ++ [m], reqs := (l.reqs.erase r) ++ [⟨m, r.sends + 1⟩] } s

/-- FOOTWAY_REPEAT: 1 µs has passed without the answers of the port's requests (R75). -/
def execFootwayRepeat (g : SpanId) (s : State) : Out := live s fun s =>
  let g := g.val
  if !flHas s g then s else
  forEach (fl s g).reqs (fun r s =>
    if !(fl s g).reqs.contains r then s else if r.sends ≥ 8 then fwFailed g r s else fwAgain g r s) s

/-! ### Agreed flit indexes (R72) -/

/-- A change takes effect at its flit index. From F on the transmitter drives the spare in place of the failed lane (R88). At
CAL_SWAP it starts the pattern, and ends it when the window of at most 4 µs has passed (steps 4 and 6 of Table SPAN-6; log entry
74). -/
def agreedNow (g : Nat) (a : Agreed) (s : State) : State :=
  let s := setFl g { fl s g with agreed := (fl s g).agreed.erase a } s
  match a.rx, a.kind with
  | true, 0 =>
    let s := setSpare a.span 4 a.lane s
    let s := setFl g { fl s g with nakPend := true, nakDue := true } s
    laneEvent a.span (pushRec (a.span / 4) 0x04 (flPort g) s)
  | true, 1 => setRole a.span a.lane 6 (setSpare a.span 3 a.lane (s.setf F.SPN_CALSTAT_PHASE a.span 3))
  | true, 2 =>
    let v := visit s a.span
    let s := setRole a.span a.lane 0 (setSpare a.span 1 0 (s.setf F.SPN_CALSTAT_PHASE a.span 0))
    let s := if v.aborted then s else s.wrapf F.SPN_CALSTAT_VISITS a.span 1
    let s := setVisit a.span { v with aborted := false, rcl := none } s
    (match v.rcl with
     | some l => laneSwapStart g a.span l s
     | none => laneEvent a.span s)
  | true, 3 =>
    let s := takeRxMap g a.span a.map s
    narrowDone g a.width (setFl g { fl s g with rxMap := a.map, rxSp := a.span } s)
  | true, 4 | false, 4 => rateReached g s
  | false, 0 => setVisit a.span { visit s a.span with txSpare := some a.lane, txLane := none } s
  | false, 1 =>
    let s := setVisit a.span { visit s a.span with txPattern := true, txSwapped := true } s
    agreeTx g 5 (ahead s g a.idx 4000) a.lane a.span [] 0 s
  | false, 2 => dropVisit g a.span false (setVisit a.span { visit s a.span with txPattern := false, txSwapped := false, txLane := none } s)
  | false, 3 =>
    let s := setVisit a.span { visit s a.span with txSpare := missing a.map, txLane := none } s
    narrowDone g a.width (setFl g { fl s g with txMap := a.map, txSp := a.span } s)
  | false, 5 => setVisit a.span { visit s a.span with txPattern := false } s
  | _, _ => s

/-- AGREED_FLIT_INDEX_REACHED: the first change of a direction whose index has come. -/
def execAgreedFlitIndexReached (g : SpanId) (rx : Bool) (s : State) : Out := live s fun s =>
  let g := g.val
  let l := fl s g
  let cur := if rx then l.rxIdx else l.txIdx
  if !flHas s g || !flUp s g then s else
  match l.agreed.find? (fun (a : Agreed) => a.rx == rx && (cur + 2 ^ 24 - a.idx) % 2 ^ 24 < 2 ^ 23) with
  | some a => agreedNow g a s
  | none => s

/-! ### Training and link states (R93, R94) -/

/-- FLOING_DOWN_TIMER: 10 ms in DOWN without PEERERR. -/
def execFloingDownTimer (g : SpanId) (s : State) : Out := live s fun s =>
  if flHas s g.val && flSt s g.val = 0 && !s.b F.SPN_FLSTAT_PEERERR g.val then s.setf F.SPN_FLSTAT_STATE g.val 1 else s

/-- One lane of a span at the end of training: locked with its polarity, or failed; lane 8 as the spare. -/
def trainLane (sp l : Nat) (bad inv : Bool) (s : State) : State :=
  let s := if l = 8 then setSpare sp (if bad then 5 else 1) 0 s else setRole sp l (if bad then 5 else 0) s
  (s.setf F.SPN_LANE_LOCK (9 * sp + l) (if bad then 0 else 1)).setf F.SPN_LANE_POLINV (9 * sp + l) (if inv then 1 else 0)

/-- A span at the end of training: its lanes, the failed-lane bits, and the spare put in for a single failed lane. -/
def trainSpan (g : Nat) (bad pol : List (SpanId × LaneId)) (sp : Nat) (s : State) : State :=
  let isBad (l : Nat) : Bool := bad.any (fun e => e.1.val == sp && e.2.val == l)
  let s := forRange 9 (fun l s => trainLane sp l (isBad l) (pol.any (fun e => e.1.val == sp && e.2.val == l)) s) s
  let failed := allLanes.filter isBad
  let s := s.setf F.SPN_FLSTAT_RX_FAILED sp ((failed.map (fun l => 2 ^ l)).sum)
  let s := s.setf F.SPN_FLSTAT_TX_FAILED sp 0
  let s := if isBad 8 then s.setf F.SPN_FLSTAT_SPARE_FAIL g 1 else s
  match failed with
  | [l] => if s.b F.SPN_FLCTL_SPARE_EN g && !isBad 8 then setSpare sp 4 l s else s
  | _ => s

/-- Lane roles as training finds them: failed lanes ROLE 5, the spare idle or replacing the one failed lane of its span, all
other lanes in use. -/
def trainSpans (g : Nat) (bad pol : List (SpanId × LaneId)) (s : State) : State :=
  forEach (flSpans s g) (trainSpan g bad pol) (s.setf F.SPN_FLSTAT_SPARE_FAIL g 0)

/-- FLOING_TRAINING_DONE: lock, polarity, reversal and deskew are done; the width is the widest usable one, and LINK_PARAM is
sent (R93). Reversal needs the REVERSE_EN bit as under R48. A port trains to x4 only where it had narrowed to x4 (R68, log entry
75); with no usable width it stays in TRAIN. -/
def execFloingTrainingDone (g : SpanId) (bad pol : List (SpanId × LaneId)) (reversed : Bool) (s : State) : Out :=
  live s fun s =>
    let g := g.val
    let p := flPort g
    if !(flHas s g && flSt s g = 1 && phyOn s p && (!reversed || s.bitf F.SPN_CTL_REVERSE_EN g 0)) then s else
    let s := trainSpans g bad pol (setFl g { (fl s g).fresh with rxMap := [], txMap := [] } s)
    let s := s.setf F.SPN_PSTAT_REVERSED p (if reversed then 1 else 0)
    let full := (flSpans s g).all (fun sp => wholeLeft s sp allLanes)
    let pick := if full then some ((if form s g = 6 then 5 else 4), g, allLanes) else pickSet s g (if form s g = 6 then 4 else 3)
    match pick.filter (fun x => x.1 ≥ 4 || (fl s g).wasX4) with
    | none => s
    | some (w, sp, ls) =>
      let m := laneMap s g sp ls
      let s := if full then s else setFl g { fl s g with rxMap := m, rxSp := sp } (takeRxMap g sp m s)
      let s := (s.setf F.SPN_PSTAT_WIDTH p w).setf F.SPN_PSTAT_L0PWIDTH p w
      let s := s.setf F.SPN_FLSTAT_STATE g 2
      sendFw g (paramMsg s g) s

/-- FLOING_TRAINING_TIMEOUT: 5 ms in TRAIN without a usable width. -/
def execFloingTrainingTimeout (g : SpanId) (s : State) : Out := live s fun s =>
  if flHas s g.val && flSt s g.val = 1 then s.setf F.SPN_FLSTAT_STATE g.val 0 else s

/-- Both directions have relocked at the new rate, which both must have reached: ACTIVE again, with sequence state, replay buffers
and credits kept. -/
def rateDone (g : Nat) (s : State) : State :=
  let l := fl s g
  if !(flHas s g && flUp s g && l.relock && !awaits l 0x30 4) then s else
  let s := setFl g { l with relock := false } s
  if flSt s g = 5 then flResume g (linkNote (flPort g) s) else s

/-- RATE_CHANGE_COMPLETE (R93). -/
def execRateChangeComplete (g : SpanId) (s : State) : Out := live s fun s => rateDone g.val s

/-- LINK_LOCK_LOSS: link lock stays lost for longer than LDT (R94). -/
def execLinkLockLoss (g : SpanId) (s : State) : Out := live s fun s =>
  if flHas s g.val && flUp s g.val then flDown g.val 1 s else s

/-- SPN_FLCTL.RETRAIN written 1: a running link goes down; a port held in DOWN by PEERERR trains (R93, R94). -/
def flRetrain (g : Nat) (s : State) : State :=
  if !flHas s g then s
  else if flUp s g then flDown g 4 s
  else if flSt s g = 0 && s.b F.SPN_FLSTAT_PEERERR g then s.setf F.SPN_FLSTAT_STATE g 1
  else s

/-! ### Timers of the sequence state -/

/-- A_rx takes E − 1 (R81). -/
def advanceArx (g : Nat) (s : State) : State :=
  let l := fl s g
  setFl g { l with accSince := 0, ackDue := true } (s.setf F.SPN_FLSEQRX_RX_ACK g (mod12 (rxE s g) 1))

/-- ACK_TIMER_EXPIRY: accepted flits are acknowledged, and units freed and not yet returned may go (R78, R81). -/
def execAckTimerExpiry (g : SpanId) (s : State) : Out := live s fun s =>
  let g := g.val
  if !(flHas s g && flUp s g) then s else
  let s := if (fl s g).accSince > 0 then advanceArx g s else s
  setFl g { fl s g with crForce := true } s

/-- NAK_TIMER_EXPIRY: E has not arrived while NAK-pending (R84). -/
def execNakTimerExpiry (g : SpanId) (s : State) : Out := live s fun s =>
  let g := g.val
  if flHas s g && flUp s g && (fl s g).nakPend then setFl g { fl s g with nakDue := true } s else s

/-- REPLAY_TIMEOUT (R86): a replay starts from P + 1; the fourth in succession takes the link down. -/
def execReplayTimeout (g : SpanId) (s : State) : Out := live s fun s =>
  let g := g.val
  if !(flHas s g && flUp s g) || flOut s g = 0 then s else
  let n := (fl s g).toRun + 1
  let s := setFl g { fl s g with toRun := n } s
  if n ≥ 4 then flDown g 3 s else startReplay g s

/-! ### Sending (R72, R73, R80, R81) -/

/-- The packet that a queued TLP becomes. -/
def QEnt.pkt (e : QEnt) : Option FabPkt := e.c.fab.map (fun h => ⟨h, e.c.tlp⟩)

/-- The virtual channel of a queued TLP. -/
def QEnt.vc (e : QEnt) : Nat := match e.c.fab with | some h => pktVc h | none => 0

/-- A queued TLP can start: its VC has the credit and no packet in progress. -/
def flStart (s : State) (g : Nat) (e : QEnt) : Bool :=
  match e.pkt with
  | none => false
  | some x => pktUnits x ≤ vcCredit s g (pktVc x.h) && !((fl s g).prog.any (fun (y : Prog) => y.vc == (pktVc x.h)))

/-- A queued TLP waits for credit of its VC: the VC is free, but has not the units. -/
def flShort (s : State) (g : Nat) (e : QEnt) : Bool :=
  match e.pkt with
  | none => false
  | some x => !(pktUnits x ≤ vcCredit s g (pktVc x.h)) && !((fl s g).prog.any (fun (y : Prog) => y.vc == (pktVc x.h)))

/-- The head of the response or request sub-queue of a TC queue, where it can start (R153). -/
def flSub (s : State) (g t : Nat) (resp : Bool) : Option (Nat × QEnt) :=
  let q := egressQ s (flPort g) t
  match q.findIdx? (fun e => e.vc % 2 == (if resp then 1 else 0)) with
  | some i => (q[i]?).bind (fun e => if flStart s g e then some (i, e) else none)
  | none => none

/-- A response of a class that can go. -/
def flResponse (s : State) (g cls : Nat) : Option (Nat × Nat × QEnt) :=
  (List.range 8).findSome? (fun t =>
    if classOf s t = cls && eligible s (flPort g) t then (flSub s g t true).map (fun x => (t, x)) else none)

/-- candidate(q) of a Floing port: a response before a request, in the queue and across the queues of one class (R73, R153). -/
def flCand (s : State) (g t : Nat) : Option (Nat × QEnt) :=
  match flSub s g t true with
  | some x => some x
  | none => if (flResponse s g (classOf s t)).isSome then none else flSub s g t false

/-- The home time that a control packet carries (R220): on a link the time itself, in a module the time less the device time. -/
def mapTime (f : Nat → Nat) (x : FabPkt) : FabPkt :=
  match x.h.ctl with
  | c :: i :: j :: t =>
    if x.h.kind = 4 ∧ c = Config.ctlCode 5 then { x with h := { x.h with ctl := c :: i :: j :: leBytes (f (leNum t) % 2 ^ 64) 8 } } else x
  | _ => x

/-- A TLP leaves its queue and becomes the packet in progress of its VC: credit is taken, shapers are charged, its egress
slots are freed. -/
def flBegin (g t i : Nat) (e : QEnt) (s : State) : State :=
  match e.pkt with
  | none => s
  | some x =>
    let p := flPort g
    let x := mapTime (· + s.env.now) x
    let s := setEgressQ p t ((egressQ s p t).eraseIdx i) s
    let s := releaseEgress e.c (chargeEgress p t e.c.tlp.size s)
    let s := s.subf F.SPN_FLVC_TX_AVAIL (8 * g + pktVc x.h) (pktUnits x)
    let s := count g 0x004 (subPort 0) e.c.tlp.size (count g 0x002 (subPort 0) 1 s)
    setFl g { fl s g with prog := (fl s g).prog ++ [⟨pktVc x.h, x, pktSize x⟩] } s

/-- Starts a chosen TLP, or nothing. -/
def flPick (g : Nat) (x : Option (Nat × Nat × QEnt)) (s : State) : State × Option Prog :=
  match x with
  | some (t, i, e) =>
    let s := flBegin g t i e s
    (s, (fl s g).prog.getLast?)
  | none => (s, none)

/-- The packet whose bytes go next, started if it is not in progress (R73): the express response, then the express request, at
every flit boundary; then a non-express response in progress, a response of the class of a request in progress, that request, and
last the scheduler's choice. -/
def flChoose (g : Nat) (s : State) : State × Option Prog :=
  let find (t : Nat → Bool) : Option Prog := (fl s g).prog.find? (fun (y : Prog) => t y.vc)
  match find (· == 1), expressPick s (fun t => flSub s g t true) with
  | some x, _ => (s, some x)
  | none, some x => flPick g (some x) s
  | none, none =>
  match find (· == 0), expressPick s (fun t => flSub s g t false) with
  | some x, _ => (s, some x)
  | none, some x => flPick g (some x) s
  | none, none =>
  match find (fun v => v ≥ 2 && v % 2 == 1), find (· ≥ 2) with
  | some x, _ => (s, some x)
  | none, some y =>
    match flResponse s g (y.vc / 2) with
    | some x => flPick g (some x) s
    | none => (s, some y)
  | none, none =>
    let x := drr s (flPort g) (flCand s g) 9
    flPick g x.2 x.1

/-- The next new flit's data: as much of a packet in progress as the flit has room for, kept for replay (R80, R83). -/
def flNew (g : Nat) (fw : Bool) (y : Prog) (s : State) : State × Option (Nat × FlitData × Bool) :=
  let room := if fw then 200 else 232
  let n := min room y.left
  let eop := n = y.left
  let done := pktSize y.pkt - y.left
  let d : FlitData := ⟨Fin.ofNat 8 y.vc, done = 0, eop, ((pktBytes y.pkt).drop done).take n⟩
  let l := fl s g
  let prog := if eop then l.prog.erase y else l.prog.map (fun z => if z = y then { y with left := y.left - n } else z)
  let q := txN s g
  let s := setFl g { l with prog := prog, replay := l.replay ++ [⟨q, d, fw, if eop then some y.pkt else none⟩] } s
  (s.setf F.SPN_FLSEQ_TX_NEXT g ((q + 1) % 4096), some (q, d, fw))

/-- The data part of the next flit: an entry to replay, or new data while the window and the width allow it; the flag says
whether the flit has room for a footway slot. -/
def flData (g : Nat) (fw : Bool) (s : State) : State × Option (Nat × FlitData × Bool) :=
  let l := fl s g
  match l.r with
  | some r =>
    match l.replay.find? (fun (e : RepEnt) => e.seq == r) with
    | some e =>
      if fw && !e.slot then (s, none) else
      let next := (r + 1) % 4096
      (setFl g { l with r := if next = txN s g then none else some next } s, some (r, e.data, e.slot))
    | none => (setFl g { l with r := none } s, none)
  | none =>
    if flSt s g = 4 || flOut s g ≥ 2047 then (s, none) else
    let x := flChoose g (countNoCredit (flPort g) (flShort s g) s)
    match x.2 with
    | none => (x.1, none)
    | some y => flNew g fw y x.1

/-- One flit time of the transmitter. A NAK carries E − 1 and so advances A_rx, which restarts the count of 16 (DESIGN CHOICE: R81
does not name a NAK; log entry 76). -/
def flitSendCore (g : Nat) (s : State) : State :=
  let s := if (fl s g).nakDue then advanceArx g s else s
  let fw := (fl s g).fwQ.head?
  let (s, d) := if flSt s g = 2 then (s, none) else flData g fw.isSome s
  let carriesFw := match d with | some (_, _, slot) => fw.isSome && slot | none => fw.isSome
  let l := fl s g
  let s := if carriesFw then setFl g { l with fwQ := l.fwQ.drop 1 } s else s
  let cr := if flSt s g = 2 then none else returnVc (fl s g)
  let s := match cr with
    | some v =>
      let l := fl s g
      let left := (List.range 8).any (fun u => u != v && mod12 (l.freed.getD u 0) (l.returned.getD u 0) > 0)
      advanceArx g (setFl g { l with returned := l.returned.set v (l.freed.getD v 0), crRR := (v + 1) % 8,
                                     crForce := l.crForce && left } s)
    | none => setFl g { fl s g with crForce := false } s
  let l := fl s g
  let arx := s.f F.SPN_FLSEQRX_RX_ACK g
  let flit : Flit :=
    { seq := Fin.ofNat 4096 (match d with | some (q, _, _) => q | none => mod12 (txN s g) 1),
      ack := Fin.ofNat 4096 arx, null := d.isNone, nak := l.nakDue,
      cr := cr.map (fun v => (Fin.ofNat 8 v, Fin.ofNat 4096 (l.freed.getD v 0))),
      fw := if carriesFw then fw else none, data := d.map (fun x => x.2.1) }
  let s := setFl g { l with txIdx := (l.txIdx + 1) % 2 ^ 24, nakDue := false, ackDue := false, lastFlit := some flit,
                            lastWire := wireOf (flitBody flit) } s
  if d.isNone then count g 0x007 subAny 1 s else s

/-- FLIT_SEND: one flit time of a running port; in PARAM only null flits with footway messages go. -/
def execFlitSend (g : SpanId) (s : State) : Out := live s fun s =>
  if flHas s g.val && (flUp s g.val || flSt s g.val = 2) then flitSendCore g.val s else s

/-! ### Receiving (R83 to R85) -/

/-- A flit that was not accepted makes the receiver NAK-pending, with a NAK at once (R83). -/
def needNak (g : Nat) (s : State) : State :=
  let l := fl s g
  if l.nakPend then s else setFl g { l with nakPend := true, nakDue := true } s

/-- The packet whose last bytes have come: it enters the receive buffer, the link's delay added to a time it carries (R220). Bytes
that are no packet are dropped and their units freed (log entry 72). -/
def endPacket (g v : Nat) (tlp : Option Tlp) (s : State) : State :=
  let l := fl s g
  let raw := l.rxBytes.getD v []
  let s := setFl g { l with rxBytes := l.rxBytes.set v [] } s
  match readPkt raw tlp with
  | some x =>
    let x := mapTime (fun t => t + (fl s g).delay + (2 ^ 64 - s.env.now % 2 ^ 64)) x
    let s := setFl g { fl s g with rxBuf := (fl s g).rxBuf ++ [(v, x)] } s
    count g 0x003 (subPort 0) x.tlp.size (count g 0x001 (subPort 0) 1 s)
  | none => flFree g v (l.rxUnits.getD v 0) s

/-- An accepted sequenced flit: E advances, the units of LEN are reserved at a first segment, a completed packet enters the receive
buffer, and sixteen accepted flits raise A_rx. A NAK that was due and not yet sent is dropped with the NAK-pending state (DESIGN
CHOICE, log entry 76). -/
def acceptFlit (g q : Nat) (d : FlitData) (tlp : Option Tlp) (s : State) : State :=
  let s := s.setf F.SPN_FLSEQRX_RX_EXPECT g ((q + 1) % 4096)
  let l := fl s g
  let v := d.vc.val
  let l := { l with nakPend := false, nakDue := false, accSince := l.accSince + 1 }
  let l := if d.sop then { l with rxUnits := l.rxUnits.set v ((sizeOf d.bytes + 63) / 64), rxBytes := l.rxBytes.set v d.bytes }
    else { l with rxBytes := l.rxBytes.set v (l.rxBytes.getD v [] ++ d.bytes) }
  let s := setFl g l s
  let s := if d.eop then endPacket g v tlp s else s
  if l.accSince ≥ 16 then advanceArx g s else s

/-- A good flit on a running link. -/
def goodFlit (g : Nat) (x : Flit) (tlp : Option Tlp) (s : State) : State :=
  let d := mod12 x.ack.val (txP s g)
  let o := flOut s g
  let down := (takeAck g x.ack.val s).2
  let s := (takeAck g x.ack.val s).1
  if down then flDown g 2 s else
  let s := if x.nak && d ≤ o then startReplay g s else s
  let s := match x.cr with
    | some (v, n) =>
      let l := fl s g
      let gain := mod12 n.val (l.cv.getD v.val 0)
      (setFl g { l with cv := l.cv.set v.val n.val } s).setf F.SPN_FLVC_TX_AVAIL (8 * g + v.val)
        (vcCredit s g v.val + gain)
    | none => s
  let s := match x.null, x.data with
    | false, some dat =>
      let e := mod12 x.seq.val (rxE s g)
      if e = 0 then acceptFlit g x.seq.val dat tlp s else if e ≥ 2048 then s else needNak g s
    | _, _ => s
  match x.fw with
  | some m => fwReceive g m s
  | none => s

/-- FLIT_RECEIVED: 256 bytes arrive, corrected and checked as R69 says; each corrected symbol counts on the lane that held it
(R68). No field of a bad flit is used. In PARAM only the footway message of a good flit is. `args` is what the argument bytes of
its footway message spell, `tlp` the TLP that the packet it ends spells (log entry 72). -/
def execFlitReceived (g : SpanId) (raw : List Byte) (args : FwMsg) (tlp : Option Tlp) (s : State) : Out := live s fun s =>
  let g := g.val
  if !(flHas s g && (flUp s g || flSt s g = 2)) then s else
  let run := flUp s g
  let s := if run then setFl g { fl s g with rxIdx := ((fl s g).rxIdx + 1) % 2 ^ 24 } s else s
  match fixFlit raw with
  | none => if run then needNak g s else s
  | some (body, wrong) =>
    let lanes := rxLanes s g
    let s := forEach wrong (fun i s =>
      let l := lanes.getD (i % lanes.length) 0
      symbolErrors l 1 (count (l / 9) 0x006 (fun u => u == l % 9 || u == 15) 1 s)) s
    let x := readFlit body args
    if run then (if flUp s g then goodFlit g x tlp s else s)
    else match x.fw with | some m => fwReceive g m s | none => s

/-- ADAPTATION_STEP: symbol errors detected in this microsecond count on the lane, and while ADAPT_CONT is 1 a receiver in L0 moves
each coefficient by at most one step (R56, R67). -/
def execAdaptationStep (sp : SpanId) (l : LaneId) (ctle dfe vga : Fin 3) (eye : Fin 256) (errs : Fin 65536) (s : State) : Out :=
  live s fun s =>
    let i := 9 * sp.val + l.val
    if s.f F.SPN_LANE_ROLE i = 7 then s else
    let s := if s.b F.SPN_EQCTL_ADAPT_CONT sp.val && laneInL0 s (lanePort s sp.val l.val) then adaptLane i ctle dfe vga eye.val s
      else s
    symbolErrors i errs.val s

end Sys2Proof.Machine
end

