-- ==== Sys2Proof/Machine/DeckRows.lean ====
section
/-! DEFINITION. The commands of the deck (R97 to R120): the cell time with its slot accounting (R364), copies, answers, timeouts,
drains and plane failure. -/

namespace Sys2Proof.Machine

/-! ### Cell time (R101, R364) -/

/-- The cause under which an output slot of a plane is filed (R364): 0 delivered, 1 back-starved, 2 wasted, 3 front-starved.
`s` is the state in which requests were latched. -/
def slotCause (s : State) (m o : Nat) (ms : List (Nat × Nat × Nat × Nat × Cell)) : Nat :=
  if ms.any (fun a => a.2.2.1 == o) then 0 else
  let reqs := (List.range 8).flatMap (fun i =>
    ((expressReq s i m o).toList ++ (plainReq s i m o).toList).map (fun e => (i, e)))
  if reqs.isEmpty then 3
  else if reqs.all (fun r => !grantOk s r.1 o r.2.1 r.2.2) then 1 else 2

/-- One plane in one cell time: matches, and the counts of its block. -/
def planeCell (m : Nat) (s0 : State) : State :=
  let (s, ms) := matchPlane m s0
  let b := 104 + m
  let sub (o : Nat) (k : Nat) : Bool := k == o || k == 8
  let s := forRange 8 (fun o s =>
    let c := slotCause s0 m o ms
    count b (if c = 0 then 0x301 else if c = 1 then 0x304 else if c = 2 then 0x302 else 0x303) (sub o) 1 s) s
  let s := forEach ms (fun a s =>
    let s := count b 0x306 (fun k => k == a.1) 1 s
    if a.2.2.2.1 = 0 then count b 0x305 (sub a.2.2.1) 1 s else s) s
  count b 0x307 subAny 1 s

/-- One cell time: every matching plane latches requests, matches in three rounds and transfers (R97 to R101). -/
def cellTime (s : State) : State :=
  let s := stampHeads s
  let s := forEach (matchingPlanes s) planeCell s
  { s with deck.ctime := s.deck.ctime + 1 }

/-- DECK_CELL_TIME. -/
def execDeckCellTime (s : State) : Out := live s cellTime

/-! ### Copies and answers (R108 to R111) -/

/-- A rise of a unit's uncorrectable count within the present 1 ms window of the keeper tick; answers the count of the
window. -/
def uncRise (unit n : Nat) (s : State) : State × Nat :=
  let w := s.env.now / 1000000
  let (w0, k) := SMap.get (0, 0) s.err.uncWin unit
  let k := if w0 = w then k + n else n
  ({ s with err.uncWin := SMap.put (0, 0) s.err.uncWin unit (w, k) }, k)

/-- An uncorrectable word met in a cell of a plane: counted, and the plane fails at its threshold in 1 ms (R118). -/
def deckUnc (m : Nat) (s : State) : State :=
  let s := s.satf F.DCK_ERR_UNCORR m 1
  let (s, k) := uncRise (512 + m) 1 s
  let thr := s.f F.DCK_THR_UNC_THR m
  if thr ≠ 0 ∧ k ≥ thr ∧ (planeSt s m = 0 ∨ planeSt s m = 1) then planeFail m 1 s else s

/-- A word of a cell that is not good: counted on the plane the cell crossed (R97, R118). -/
def hitPlane (got : List Arrival) (x : CellHit) (s : State) : State :=
  match got.find? (fun a => a.index == x.cell.val) with
  | none => s
  | some a =>
    match hitOutcome x with
    | .good => s
    | .corrected => s.satf F.DCK_ERR_CORR a.plane 1
    | .uncorrectable => deckUnc a.plane s

/-- TLP_COPY_RECEIVED: the egress pier judges a copy whose cells have all arrived; `hits` says what went wrong with their words on
the way. -/
def execTlpCopyReceived (src dst : PierId) (h : Fin 262144) (hits : List CellHit) (s : State) : Out := live s fun s =>
  match inflight s src.val dst.val h.val with
  | none => s
  | some x =>
    let got := (SMap.get Reasm.init s.deck.got (inflKey src.val dst.val h.val)).cells
    if !(List.range x.cells).all (fun i => got.any (fun a => a.index == i)) then s else
    let mine := hits.filter (fun y => y.cell.val < x.cells)
    let good := mine.all (fun y => hitOutcome y != .uncorrectable)
    forEach mine (hitPlane got) (copyReceived src.val dst.val h.val good s)

/-- The first answer of a kind for a copy that is on its way. -/
def answerFor (s : State) (src dst h : Nat) (ack : Bool) : Option Answer :=
  s.deck.answers.find? (fun a => a.src == src && a.dst == dst && a.handle == h && a.ack == ack)

/-- An acknowledged copy is freed; its planes end their run of timeouts, which a NAK does not (R108, R118; DESIGN CHOICE, log entry
78). -/
def ackTlp (src dst h : Nat) (s : State) : State :=
  match inflight s src dst h with
  | none => s
  | some x =>
    let runs := x.used.foldl (fun m p => SMap.del m p) s.deck.ackRun
    freeTlp src h x { s with deck.ackRun := runs }

/-- DECK_ACK. -/
def execDeckAck (src dst : PierId) (h : Fin 262144) (s : State) : Out := live s fun s =>
  match answerFor s src.val dst.val h.val true with
  | some a => ackTlp src.val dst.val h.val { s with deck.answers := s.deck.answers.erase a }
  | none => s

/-- DECK_NAK. -/
def execDeckNak (src dst : PierId) (h : Fin 262144) (s : State) : Out := live s fun s =>
  match answerFor s src.val dst.val h.val false with
  | some a =>
    let s := { s with deck.answers := s.deck.answers.erase a }
    if (inflight s src.val dst.val h.val).isSome then
      count (32 + src.val) 0x106 subAny 1 (resendOrVoid src.val dst.val h.val s) else s
  | none => s

/-- No answer within ACK_TIME (R108): the planes that carried cells of the TLP count a timeout in succession, the eighth fails a
plane (R118), and the TLP is resent, or replaced by a void after nine sends (R109), unless the plane's failure has just done so. -/
def ackTimeout (src dst h : Nat) (s : State) : State :=
  match inflight s src dst h with
  | none => s
  | some x =>
    let s := forEach x.used (fun m s =>
      let n := SMap.get 0 s.deck.ackRun m + 1
      let s := { s with deck.ackRun := SMap.put 0 s.deck.ackRun m n }
      if n ≥ 8 ∧ (planeSt s m = 0 ∨ planeSt s m = 1) then planeFail m 3 s else s) s
    count (32 + src) 0x106 subAny 1 (if inflight s src dst h = some x then resendOrVoid src dst h s else s)

/-- DECK_ACK_TIMEOUT. -/
def execDeckAckTimeout (src dst : PierId) (h : Fin 262144) (s : State) : Out :=
  live s fun s => ackTimeout src.val dst.val h.val s

/-- FLOW_DRAIN_END: 64 cell times after the flows of a port were stopped (R113). -/
def execFlowDrainEnd (p : PortId) (s : State) : Out := live s fun s =>
  if s.deck.stopped.contains p.val then drainFlows p.val s else s

/-! ### Planes (R117 to R120) -/

/-- PLANE_DRAINED. -/
def execPlaneDrained (m : PlaneId) (s : State) : Out := live s fun s => drainIfEmpty m.val s

/-- PLANE_FAILURE, by a cause of R118: 1 uncorrectable threshold, 2 cell not delivered, 3 acknowledgement timeouts, 4 self-test
failure, 5 power fault. -/
def execPlaneFailure (m : PlaneId) (cause : Fin 6) (s : State) : Out := live s fun s =>
  if (planeSt s m.val = 0 ∨ planeSt s m.val = 1) ∧ cause.val ≠ 0 then planeFail m.val cause.val s else s

end Sys2Proof.Machine
end

