-- ==== Sys2Proof/Machine/Landing.lean ====
section
/-! DEFINITION. Landing memory and channels at work (R131, R137 to R143, R147): landing requests, AtomicOps, tag-sets, the
hot-reset scan, retirement and channel failure. -/

namespace Sys2Proof.Machine

/-! ### Errors of a channel (R131, R147) -/

/-- Retires a block; with no spare left the channel fails (R131, R132). -/
def retireBlock (ch blk : Nat) (s : State) : State :=
  let (s, ok) := retire ch blk s
  if ok then count (120 + ch) 0x405 subAny 1 s else channelFail ch 5 s

/-- An uncorrectable word was read in a block: counted, retired, and the channel fails at its threshold in 1 ms. -/
def uncWord (ch blk : Nat) (s : State) : State :=
  let s := s.satf F.CSN_CHERR_UNCORR ch 1
  let (s, k) := uncRise (256 + ch) 1 s
  let s := retireBlock ch blk s
  let thr := s.f F.CSN_CHTHR_UNC_THR ch
  if thr ≠ 0 ∧ k ≥ thr then channelFail ch 1 s else s

/-- A word of a block was corrected: the second correction of one block within 1 s starts a retirement copy. -/
def corrWord (ch blk : Nat) (s : State) : State :=
  let k := ch * 2 ^ 25 + blk
  let s := count (120 + ch) 0x403 subAny 1 (s.satf F.CSN_CHERR_CORR ch 1)
  match SMap.find? s.csn.corrAt k with
  | some t =>
    if s.env.now ≤ t + 1000000000 ∧ !s.csn.copying.contains k then
      { s with csn.copying := s.csn.copying ++ [k], csn.corrAt := SMap.del s.csn.corrAt k }
    else { s with csn.corrAt := SMap.ins s.csn.corrAt k s.env.now }
  | none => { s with csn.corrAt := SMap.ins s.csn.corrAt k s.env.now }

/-- RETIREMENT_COPY_DONE: the copy of a correctable block to its spare has ended, and the map takes effect (R131). -/
def execRetirementCopyDone (ch : ChanId) (blk : Nat) (s : State) : Out := live s fun s =>
  let k := ch.val * 2 ^ 25 + blk
  if s.csn.copying.contains k then
    serve [ch.val] 4 (fun s => retireBlock ch.val blk { s with csn.copying := s.csn.copying.erase k }) s
  else s

/-- CHANNEL_FAILURE, by a cause of R147: 1 uncorrectable threshold, 2 interface retries, 3 clock loss, 4 power fault, 5 spares
exhausted, 6 self-test failure. Channel 0 fails also in state REDUCED. -/
def execChannelFailure (ch : ChanId) (cause : Fin 7) (s : State) : Out := live s fun s =>
  if (chanLive s ch.val ∨ s.f F.CSN_CHSTAT_STATE ch.val = 4) ∧ cause.val ≠ 0 then channelFail ch.val cause.val s else s

/-! ### Landing requests (R138 to R141) -/

/-- A block that a landing request touches: offset in the request, length, whether slot 128 allowed it, whether its granule can
be reached, whether its TAG matches. -/
structure LandBlk where
  off : Nat
  len : Nat
  slot : Bool
  avail : Bool
  tag : Bool
  deriving DecidableEq, Repr

/-- Every condition of a block access. -/
def LandBlk.ok (b : LandBlk) : Bool := b.slot && b.avail && b.tag

/-- The blocks of a request of `n` bytes from landing offset `a`, cut at every 64-byte block and every range of slot 128. -/
def landBlks (s : State) (r : LandReq) (key a : Nat) : Nat → Nat → Nat → List LandBlk
  | 0, _, _ => []
  | fuel + 1, off, n =>
    if n = 0 then [] else
    let part := r.parts.find? (fun x => x.1 ≤ off && off < x.1 + x.2.1)
    let lim := match part with | some x => x.1 + x.2.1 - off | none => n
    let len := min n (min lim (64 - (a + off) % 64))
    let len := if len = 0 then n else len
    let b : LandBlk := ⟨off, len, (match part with | some x => x.2.2.1 | none => true), landAvail s (a + off),
      keyMatches key (blockTag s (a + off))⟩
    b :: landBlks s r key a fuel (off + len) (n - len)

/-- Logs a block that the controllers refuse (R138, R145); a part that slot 128 refused was logged by the gate. -/
def logBlk (c : Carried) (write : Bool) (a : Nat) (b : LandBlk) (s : State) : State :=
  if !b.slot then s else
  let n := pierOf c.inP
  aerPort c.inP aerAbort
    (gateLog ⟨n, 0, write, c.inP, c.tenant, blockTag s (a + b.off), c.tlp.rid, 128, a + b.off, b.len, b.off⟩ s)

/-- Reads a block: wiped first if the scan owns it, with the check symbols that this read meets: `bad` blocks have an
uncorrectable word, `corr` blocks a corrected one. -/
def readBlk (bad corr : List Nat) (a : Nat) (b : LandBlk) (s : State) : State :=
  let k := (a + b.off) / 64
  let ch := landChan (a + b.off)
  let wiped := SMap.get 0 s.csn.tag k != 0 && s.csn.scanKeys.contains (SMap.get 0 s.csn.tag k) && !s.csn.scanned.contains k
  let s := scanTouch k s
  let s := count (120 + ch) 0x402 (fun u => u == 1 || u == 3) 1 s
  if wiped then s
  else if bad.contains k then
    uncWord ch (landBlock (a + b.off)) { s with csn.bad := SMap.put false s.csn.bad k true }
  else if corr.contains k then corrWord ch (landBlock (a + b.off)) s
  else s

/-- Writes a block: an owned block that the scan has not reached is wiped first (R143), a write of a part reads the block before
(R139), then the bytes land and POISON follows the TLP (R140). -/
def writeBlk (bad corr : List Nat) (c : Carried) (a : Nat) (b : LandBlk) (s : State) : State :=
  let k := (a + b.off) / 64
  let s := if b.len = 64 then scanTouch k s else readBlk bad corr a b s
  let s := landWrN (a + b.off) ((c.tlp.data.drop b.off).take b.len) s
  let s := { s with
    csn.poison := SMap.put false s.csn.poison k c.tlp.ep,
    csn.bad := if b.len = 64 then SMap.del s.csn.bad k else s.csn.bad }
  count (120 + landChan (a + b.off)) 0x401 (fun u => u == 1 || u == 3) 1 s

/-- A block reads poisoned (R140). -/
def blkPoison (s : State) (k : Nat) : Bool := SMap.get false s.csn.poison k || SMap.get false s.csn.bad k

/-- The Completer ID of a virtual switch's landing function. -/
def landCid (s : State) (v : Nat) : Nat := ridOf s v fnLand

/-- A landing write: its matching blocks are written, every other is logged. -/
def landWrite (c : Carried) (bad corr : List Nat) (a : Nat) (bs : List LandBlk) (s : State) : State :=
  forEach bs (fun b s => if b.ok then writeBlk bad corr c a b s else logBlk c true a b s) s

/-- The data of a landing read in Successful Completions as `sendReadData` cuts them; one that holds a poisoned block is cut at its
first such block, and the rest of it is poisoned (R140). -/
def sendLanding (cid lim : Nat) (c : Carried) (pois : Nat → Bool) : Nat → List Byte → Nat → Nat → State → State
  | 0, _, _, _, s => s
  | fuel + 1, data, addr, total, s =>
    if data.isEmpty then s else
    let n := min data.length (max 64 lim - addr % 64)
    let k := ((List.range n).find? (fun i => pois ((addr + i) / 64))).getD n
    let send (lo m : Nat) (ep : Bool) (s : State) : State :=
      if m = 0 then s else
      sendCplAs cid c.tlp c.inP c.vs c.tenant c.fab 0 ((data.drop lo).take m) (total - lo) (addr + lo) ep s
    sendLanding cid lim c pois fuel (data.drop n) (addr + n) (total - n) (send k (n - k) true (send 0 k false s))

/-- A landing read: data in address order up to the first block that does not match, then Completer Abort for the rest (R138,
R140). -/
def landRead (c : Carried) (bad corr : List Nat) (a : Nat) (bs : List LandBlk) (s : State) : State :=
  let good := bs.takeWhile LandBlk.ok
  let rest := bs.drop good.length
  let s := forEach rest (fun b s => if b.ok then s else logBlk c false a b s) s
  let s := forEach good (readBlk bad corr a) s
  let n := (good.map (fun b => b.len)).sum
  let s := sendLanding (landCid s c.vs) (mps s c.vs fnLand) c (blkPoison s) (n + 1) (landRdN s a n) a c.tlp.len s
  if rest.isEmpty then s
  else sendCpl c.tlp c.inP c.vs c.tenant c.fab stCA [] (c.tlp.len - n) (a + n) false s

/-- The value an AtomicOp leaves (R141): FetchAdd wraps at its width, CAS compares with the first half of its payload. -/
def atomicNew (op : AtOp) (w old : Nat) (data : List Byte) : Nat :=
  match op with
  | .fetchAdd => (old + leNum data) % 256 ^ w
  | .swap => leNum data % 256 ^ w
  | .cas => if old = leNum (data.take w) then leNum (data.drop w) % 256 ^ w else old

/-- A landing AtomicOp: 32-bit and 64-bit FetchAdd, Swap and CAS, the old value returned; a 128-bit CAS is completed with UR
(log entry 14 for a block that reads poisoned). -/
def landAtomic (c : Carried) (op : AtOp) (bad corr : List Nat) (a : Nat) (bs : List LandBlk) (s : State) : State :=
  let w := if op = .cas then c.tlp.data.length / 2 else c.tlp.data.length
  match bs with
  | [b] =>
    if w != 4 && w != 8 then failReq c stUR s
    else if !b.ok then failReq c stCA (logBlk c true a b s)
    else
      let s := readBlk bad corr a b s
      let k := a / 64
      let pois := blkPoison s k
      let old := landRdN s a w
      let s := landWrN a (leBytes (atomicNew op w (leNum old) c.tlp.data) w) s
      let s := { s with csn.poison := SMap.put false s.csn.poison k (pois || c.tlp.ep) }
      let s := count (120 + landChan a) 0x401 (fun u => u == 1 || u == 3) 1 s
      sendCplAs (landCid s c.vs) c.tlp c.inP c.vs c.tenant c.fab stSC old w 0 pois s
  | _ => failReq c (if w != 4 && w != 8 then stUR else stCA) s

/-- A Deferrable Memory Write: applied to its matching blocks, Completer Abort if any part is forbidden (Table GTE-3). -/
def landDef (c : Carried) (bad corr : List Nat) (a : Nat) (bs : List LandBlk) (s : State) : State :=
  let s := landWrite c bad corr a bs s
  if bs.all LandBlk.ok then sendCplAs (landCid s c.vs) c.tlp c.inP c.vs c.tenant c.fab stSC [] 4 0 false s
  else failReq c stCA s

/-- Carries out a landing request. Its address is the landing offset. -/
def landExec (r : LandReq) (bad corr : List Nat) (s : State) : State :=
  let c := r.c
  let a := c.tlp.addr
  let n := landLen c.tlp
  let bs := landBlks s r (tenantKey s c.tenant) a (n + 1) 0 n
  match c.tlp.kind with
  | .memWr => landWrite c bad corr a bs s
  | .defWr => landDef c bad corr a bs s
  | .memRd => landRead c bad corr a bs s
  | .atomic op => landAtomic c op bad corr a bs s
  | _ => failReq c stUR s

/-- A block that a landing request touches is being copied to its spare: the access waits (R131). -/
def landCopying (s : State) (r : LandReq) : Bool :=
  let a := r.c.tlp.addr
  (List.range ((a + landLen r.c.tlp - 1) / 64 - a / 64 + 1)).any (fun i =>
    s.csn.copying.contains (landChan (a + 64 * i) * 2 ^ 25 + landBlock (a + 64 * i)))

/-- LANDING_REQUEST: the controllers take the oldest landing request that the gate let through, in the order of R136; none while the
wipe runs (R144). A request that must wait is taken by a later command. -/
def execLandingRequest (bad corr : List Nat) (s : State) : Out := live s fun s =>
  match s.csn.landq with
  | [] => s
  | r :: rest =>
    if s.mode.wiping || landCopying s r || landYields s r then s else
    serve (landChans r) 2 (fun s =>
      landExec r bad corr (setTurn ((landChans r).headD 0) true { s with csn.landq := rest })) s

/-! ### Tag-sets and the scan (R142, R143) -/

/-- The tag-set has rewritten every block of its range. -/
def tagSetDone (s : State) : State :=
  match s.csn.tagset with
  | none => s
  | some (base, n, tag) =>
    let s := setTags base n tag { s with csn.tagset := none }
    (s.setf F.CSN_TAGSTAT_BUSY 0 0).setf F.CSN_TAGSTAT_DONE 0 n

/-- TAG_SET_DONE: at the live channels, in the order of R136. -/
def execTagSetDone (s : State) : Out := live s fun s =>
  if s.csn.tagset.isNone then s else serve ((List.range 8).filter (chanLive s)) 4 tagSetDone s

/-- LANDING_SCAN_DONE. -/
def execLandingScanDone (s : State) : Out := live s fun s =>
  if s.csn.scanKeys.isEmpty then s else
  let s := scanFinish s
  if s.f F.CSN_STAT_LM_STATE 0 = 2 then s.setf F.CSN_STAT_LM_STATE 0 0 else s

end Sys2Proof.Machine
end

