-- ==== Sys2Proof/Machine/Domains.lean ====
section
/-! DEFINITION. Power domains (R20 to R22, R412 to R415), the domain cycle of a closed pier (R267), Reduced mode (R407 to R411)
and thermal limits (R416, R417). -/

namespace Sys2Proof.Machine

/-! ### Domains (Table MODE-9) -/

/-- The pier that a domain belongs to: PHYs, pier cores, SRAM banks and engine clusters. -/
def domPier (d : Nat) : Option Nat := if d < 32 then some (d / 4) else if d < 56 then some (d % 8) else none

/-- The counter blocks that lie in a domain (Table REC-4). -/
def domBlocks (d : Nat) : List Nat :=
  if 32 ≤ d ∧ d < 40 then [4 * (d - 32), 4 * (d - 32) + 1, 4 * (d - 32) + 2, 4 * (d - 32) + 3, d]
  else if 48 ≤ d ∧ d < 56 then (List.range 8).map (fun e => 40 + 8 * (d - 48) + e)
  else if 56 ≤ d ∧ d < 80 then [d + 48]
  else []

/-- The regulator stage of a domain is raised (R412): POWERING_UP, counted; the full test of Table MODE-6 will run where FULL
asks for it, or where a life-cycle change has wiped MRAM (R406, R414). -/
def powerOn (d : Nat) (s : State) : State :=
  let s := ((setDom d 1 s).setf F.PWD_STAT_FAULT d 0).satf F.PWD_STAT_CYCLES d 1
  let full := s.b F.PWD_CTL_FULL d || (s.mode.fullTest && d ≥ 72)
  { s with mode.full := s.mode.full.filter (· != d) ++ (if full then [d] else []) }

/-- The ports that use a span's lanes. -/
def portsOn (s : State) (sp : Nat) : List Nat :=
  ((List.range 128).filter (portExists s)).filter (fun p => (spansOf s p).contains sp)

/-- A port of a span whose PHY is turned off goes to OFF (R21, Tables SPAN-4 and FLO-13): a link that was up takes a link-down
event without a Surprise Down report. A closed port stays closed. -/
def portOff (p : Nat) (s : State) : State :=
  let s := s.setPort p { s.port p with offCmd := true }
  let s := if isFloing s p then
      let g := p / 4
      let up := flUp s g
      let s := forEach (spansOf s p) abandonVisit s
      let s := s.setf F.SPN_FLSTAT_STATE g 7
      if up then linkDownEvent p (flDiscard g s) else s
    else if linkUp s p then linkDownEvent p s else s
  refreshPortClk p (linkGone p (s.setf F.SPN_PSTAT_LTSSM p 0x30))

/-- A port whose PHY has returned: TRAINING, or CLOSED where its closure has not been released. Its slot's clock may run again
(R53). -/
def portReturn (p : Nat) (s : State) : State :=
  let s := refreshPortClk p s
  if s.b F.PIR_CLOSE_CLOSED p then
    let s := if (spansOf s p).all (domOn s) then s.setf F.SPN_PSTAT_LTSSM p 0x34 else s
    if isFloing s p then s.setf F.SPN_FLSTAT_STATE (p / 4) 6 else s
  else enterTraining p s

/-- The duties of a pier leave the engines of its cluster for the next pier with a live cluster, by planned migration (Table
MODE-7). -/
def leaveCluster (n : Nat) (s : State) : State :=
  match nextPier s n with
  | none => s
  | some m =>
    forRange 8 (fun e s =>
      let g := 8 * n + e
      planMove (assign m g s ((dutiesOf s g).filter (fun k => !s.b F.PIR_DUTY_MOVING k))) g 1 0 s) s

/-- What the unit of a domain does on leaving (Table MODE-7), once its off request is accepted. -/
def leaveUnit (d : Nat) (s : State) : State :=
  if d < 32 then forEach (portsOn s d) portOff s
  else if d < 40 then forEach (pierPorts s (d - 32)) stopFlows s
  else if d < 48 then s
  else if d < 56 then leaveCluster (d - 48) s
  else if d < 72 then s
  else setChan (d - 72) 2 s

/-- A domain leaves ON (Table MODE-9): POWERING_OFF, and its unit leaves. -/
def powerOff (d : Nat) (s : State) : State := leaveUnit d (setDom d 5 s)

/-- The condition of Table MODE-7 for an off request. -/
def offCondition (s : State) (d : Nat) : Bool :=
  if d < 32 then true
  else if d < 40 then (List.range 4).all (fun j => domState s (4 * (d - 32) + j) == 0)
  else if d < 48 then domState s (d - 8) == 0
  else if d < 56 then
    (List.range 8).any (fun m => m != d - 48 && clusterLive s m && (List.range 8).any (fun e => engUp s (8 * m + e)))
  else if d < 72 then planeSt s (d - 56) == 2 || planeSt s (d - 56) == 3
  else d != 72

/-- The condition of Table MODE-7 for an on request. -/
def onCondition (s : State) (d : Nat) : Bool :=
  if d < 32 then domOn s (32 + d / 4)
  else if d < 40 then domOn s (d + 8)
  else if d < 72 then true
  else mode s != 5

/-- A load or commit runs (R413): from the header of the first candidate to the end of the commit. -/
def loadRuns (s : State) : Bool := s.img.loading.isSome || s.img.accepted.isSome || s.mode.commitWait

/-- Why a domain request is refused, as PWD_STAT.LASTERR codes it; 0 accepts it (R413). While MODULE_RST_N is low every domain
stays off (R402; log entry 17). -/
def domRefusal (s : State) (d : Nat) (on off : Bool) : Nat :=
  let st := domState s d
  let liveHere := match domPier d with | some n => liveSt s != 0 && livePier s == n | none => false
  if on && off then 5
  else if mode s = 0 || (mode s = 1 && loadRuns s) || s.env.rstLow then 2
  else if liveHere then 3
  else if on && mode s = 5 && 73 ≤ d then 4
  else if on then
    (if 1 ≤ st && st ≤ 4 then 0 else if st = 5 || st = 6 then 6 else if onCondition s d then 0 else 1)
  else
    (if st = 0 || st = 5 || st = 6 then 0 else if 1 ≤ st && st ≤ 3 then 6 else if offCondition s d then 0 else 1)

/-- Carries out an accepted request: it changes nothing for a domain that is there or on its way; a FAILED domain goes OFF at
once (Table MODE-9), and a plane's FAILED bit goes with it (Table DECK-5). -/
def domRequest (d : Nat) (on : Bool) (s : State) : State :=
  let st := domState s d
  if on then (if st = 0 then powerOn d s else s)
  else if st = 6 then setDom d 0 (if 56 ≤ d && d < 72 then setPlane (d - 56) 2 s else s)
  else if st = 4 then powerOff d s
  else s

/-! ### Off, powered, tested, wiped -/

/-- A channel's spilled flows whose pages were not read back in time are handled as a lost page (Table MODE-7). -/
def chanGone (c : Nat) (s : State) : State := forRange 8 refreshSpill (losePages (flowsOn s c) s)

/-- What a domain takes with it when its regulator stage is lowered. -/
def unitGone (d : Nat) (s : State) : State :=
  if d < 32 then s
  else if d < 40 then
    let n := d - 32
    clearSlice n (forEach (pierPorts s n) (fun p s => discardPortTlps p (flushEgress p s)) s)
  else if d < 48 then s
  else if d < 56 then
    forRange 8 (fun e s =>
      let g := 8 * (d - 48) + e
      let s := wipeLocal g (endPlanned g s)
      let s := setEngQ g [] { s with eng.cur := SMap.del s.eng.cur g, eng.preempted := SMap.del s.eng.preempted g }
      s.setf F.ENG_STAT_STATE g 5) s
  else if d < 72 then setPlane (d - 56) 2 s
  else chanGone (d - 72) s

/-- Both domains of a closed pier are off: they are raised again (R267, step 4). -/
def closureCycle (n : Nat) (s : State) : State :=
  if s.mode.rejoin.contains n && domState s (32 + n) = 0 && domState s (40 + n) = 0 then
    (powerOn (32 + n) (powerOn (40 + n) s)).setf F.GLB_PIERSTAT_STATE n 2
  else s

/-- In Reduced mode, every one of domains 73 to 79 is off or FAILED. -/
def chansOff (s : State) : Bool := (List.range 7).all (fun j => domState s (73 + j) == 0 || domState s (73 + j) == 6)
/-- None of them is on its way up. -/
def chansUp (s : State) : Bool := (List.range 7).all (fun j => domState s (73 + j) == 4 || domState s (73 + j) == 6)

/-- A Reduced cause holds (R407). -/
def causeHolds (s : State) : Bool :=
  s.b F.GLB_MODE_CAUSE_CMD 0 || s.b F.GLB_MODE_CAUSE_THERM 0 || s.b F.GLB_MODE_CAUSE_VOLT 0

/-- The exit from Reduced mode starts (Table MODE-4, step 1): domains 73 to 79 are powered. -/
def reducedExit (s : State) : State :=
  forRange 7 (fun j s => if domState s (73 + j) = 0 then powerOn (73 + j) s else s) (s.setf F.GLB_MODE_EXITING 0 1)

/-- The entry ends when domains 73 to 79 are off; where no cause holds any more the exit follows (R408, R411). -/
def entryEnd (s : State) : State :=
  if mode s = 5 && s.b F.GLB_MODE_ENTERING 0 && !s.mode.readback && chansOff s then
    let s := s.setf F.GLB_MODE_ENTERING 0 0
    if causeHolds s then s else reducedExit s
  else s

/-- An access is still inside a joint of a domain (R36): a write that waits for its journal FIFO, or the sideband's access. -/
def jointBusy (s : State) (d : Nat) : Bool :=
  let at_ (off : Nat) : Bool := match regAt off with | some (r, i) => r.domain i == some d | none => false
  s.jrn.held.any (fun (h : HeldW) => at_ h.off) || (match s.sb.access with | some (_, off, _) => at_ off | none => false)

/-- DOMAIN_POWER_OFF_COMPLETE: every access in the domain's joints is done and the regulator stage is lowered. The faulted domain
of a closing pier goes the same way. -/
def execDomainPowerOffComplete (d : DomId) (s : State) : Out := live s fun s =>
  let d := d.val
  let st := domState s d
  let faulted := st = 6 && 32 ≤ d && d < 48 && s.mode.rejoin.contains (d % 8)
  if (st = 5 && !jointBusy s d) || faulted then
    let s := setDom d 0 (unitGone d s)
    entryEnd (if 32 ≤ d && d < 48 then closureCycle (d % 8) s else s)
  else s

/-- DOMAIN_POWERED: the regulator output is in range and the PLL locked; the test starts. The island runs again and loses its
failed mark, but for the deck island, whose mark only a module reset clears (R39, R412). A plane is TESTING. -/
def execDomainPowered (d : DomId) (s : State) : Out := live s fun s =>
  let d := d.val
  if domState s d != 1 then s else
  let i := islandOf (some d)
  let s := (setDom d 2 s).setf F.PWD_STAT_BIST d 3
  let s := if 32 ≤ d && !(40 ≤ d && d < 48) then (s.setf F.CLK_ISLSTAT_RUN i 1).setf F.CLK_ISLSTAT_LOCK i 1 else s
  let s := if 32 ≤ d && !(40 ≤ d && d < 48) && !(56 ≤ d && d < 72) then s.setf F.CLK_ISLSTAT_FAILED i 0 else s
  let s := forEach (domBlocks d) blockReset s
  if 56 ≤ d && d < 72 then setPlane (d - 56) 4 s
  else if 72 ≤ d then setChan (d - 72) 3 s
  else s

/-- Duties of a pier that its cluster takes back: each to its home engine, or, while that one is parked or failed, to a sibling in
the pier where another pier's engine holds it (Table MODE-7, R273). -/
def dutiesHome (n : Nat) (s : State) : State :=
  let ks := ((List.range 64).map (fun d => 64 * n + d)).filter (fun k =>
    s.b F.PIR_DUTY_VALID k && !s.b F.PIR_DUTY_MOVING k && s.f F.PIR_DUTY_ENGINE k != s.f F.PIR_DUTY_HOME k)
  let tgt (k : Nat) : Option Nat :=
    if engUp s (s.f F.PIR_DUTY_HOME k) then some (s.f F.PIR_DUTY_HOME k)
    else if s.f F.PIR_DUTY_ENGINE k / 8 = n then none
    else siblingFor s n (s.f F.PIR_DUTY_KIND k) 64
  let moves := ks.filterMap (fun k => (tgt k).map (fun t => (k, t)))
  forEach (moves.map (fun m => s.f F.PIR_DUTY_ENGINE m.1)).eraseDups (fun old s =>
    planMove (moves.filter (fun m => s.f F.PIR_DUTY_ENGINE m.1 == old)) old 2 0 s) s

/-- The landing tags that the image gives, for the granules that a test names (R315, Table MODE-7). -/
def applyTags (sel : Nat → Bool) (s : State) : State :=
  match s.img.applied with
  | none => s
  | some m => forEach m.tags (fun (r : TagRange) s =>
      if r.tag = 0 then s else
      forRange (r.len / 64) (fun i s => if sel (landChan (r.base + 64 * i)) then setTags (r.base + 64 * i) 1 r.tag s else s) s) s

/-- The engines of Reduced mode's upper group that stay parked. -/
def upper (g : Nat) : Bool := g % 8 ≥ 4

/-- An engine of a cluster that is on again: FAILED as its test left it, or with its program loaded, running or parked, or with no
program (Table MODE-7). -/
def engineBack (g : Nat) (s : State) : State :=
  if engSt s g = 3 then s else
  match s.img.applied with
  | some m => (loadProgram m g s).setf F.ENG_STAT_STATE g (if s.b F.ENG_CTL_PARK g then 2 else 1)
  | none => s.setf F.ENG_STAT_STATE g 5

/-- The unit of a domain rejoins as the domain passes to ON (Table MODE-7). A channel that failed in its test or wipe stays FAILED
(R147). -/
def rejoinUnit (d : Nat) (s : State) : State :=
  if d < 32 then forEach (portsOn s d) portReturn s
  else if d < 40 then
    let n := d - 32
    let s := restorePier n s
    let s := forRange 64 (fun k s => if s.b F.PIR_DUTY_VALID (64 * n + k) then offer n k (.start 3) s else s) s
    if s.f F.GLB_PIERSTAT_STATE n = 3 && domOn s (40 + n) then s.setf F.GLB_PIERSTAT_STATE n 0 else s
  else if d < 48 then s
  else if d < 56 then
    let n := d - 48
    let s := { s with eng.failCause := SMap.del s.eng.failCause (64 + n) }
    let s := forRange 8 (fun e s => engineBack (8 * n + e) s) s
    let s := if mode s = 5 then parkEngines ((List.range 4).map (fun e => 8 * n + 4 + e)) s else s
    dutiesHome n s
  else if d < 72 then setPlane (d - 56) 2 s
  else
    let c := d - 72
    let s := if s.mode.wiping || (List.range 8).any (fun k => domState s (72 + k) == 3) then s else s.setf F.CSN_STAT_WIPE_BUSY 0 0
    if s.f F.CSN_CHSTAT_STATE c = 1 then s else
    let s := wipeChan c (setChan c (if c = 0 && mode s = 5 then 4 else 0) s)
    let s := if s.img.applied.isSome then (applyTags (· == c) s).setf F.CSN_STAT_LM_LOST 0 1 else s
    let s := forRange 8 refreshSpill s
    if c = 0 && s.b F.JNL_STAT_CH0_LOST 0 then writeBack (s.setf F.JNL_STAT_CH0_LOST 0 0) else s

/-- A domain test fails (Table MODE-6): FAILED, and its unit is a failed unit. -/
def testFails (d : Nat) (s : State) : State :=
  let s := (setDom d 6 s).setf F.PWD_STAT_BIST d 2
  if d < 32 then s
  else if d < 48 then
    let n := d % 8
    let s := forEach (pierPorts s n) (fun p s => spanClose p 7 s) s
    { s with mode.rejoin := s.mode.rejoin.erase n }.setf F.GLB_PIERSTAT_STATE n 3
  else if d < 56 then clusterFail (d - 48) s
  else if d < 72 then planeFail (d - 56) 4 s
  else channelFail (d - 72) 6 s

/-- DOMAIN_TEST_COMPLETE. `bad` lists the units that a passing test found bad: lanes of a span (8 = the spare), engines of a
cluster, or blocks of a channel under the full test, which it retires (R131, R406, Table MODE-6). -/
def execDomainTestComplete (d : DomId) (pass : Bool) (bad : List Nat) (s : State) : Out := live s fun s =>
  let d := d.val
  if domState s d != 2 then s else
  let full := s.mode.full.contains d
  let s := { s with mode.full := s.mode.full.erase d }
  let dead := 48 ≤ d && d < 56 && (List.range 8).all (fun e => bad.contains e)
  if !pass || dead then testFails d s else
  let s := s.setf F.PWD_STAT_BIST d 1
  if d < 32 then
    let s := forEach (bad.filter (· < 8)) (fun l s => setRole d l 5 s) s
    let s := if bad.contains 8 then (setRole d 8 5 s).setf F.SPN_FLSTAT_SPARE_FAIL (govSpan s d) 1 else s
    rejoinUnit d (setDom d 4 s)
  else if d < 48 then setDom d 3 s
  else if d < 56 then
    forEach (bad.filter (· < 8)) (fun e s => s.setf F.ENG_STAT_STATE (8 * (d - 48) + e) 3) (setDom d 3 s)
  else if d < 72 then rejoinUnit d (setDom d 4 s)
  else
    let s := (setChan (d - 72) 2 (setDom d 3 s)).setf F.CSN_STAT_WIPE_BUSY 0 1
    if full then forEach bad (fun b s => retireBlock (d - 72) b s) s else s

/-- DOMAIN_WIPE_COMPLETE: the memories are zero with valid check symbols, and the unit rejoins. -/
def execDomainWipeComplete (d : DomId) (s : State) : Out := live s fun s =>
  if domState s d.val = 3 then rejoinUnit d.val (setDom d.val 4 s) else s

/-- PIER_CLOSURE: a table memory of the pier has an uncorrectable word (R267); the other causes of a pier closure come with
their own events. -/
def execPierClosure (n : PierId) (s : State) : Out := live s fun s =>
  liveFault n.val 0x15 (pierClose n.val s)

/-- PIER_SELF_TEST_DONE: the self-test of a closed pier has ended (R267): its ports are released, or the pier is FAILED and they
stay closed. -/
def execPierSelfTestDone (n : PierId) (ok : Bool) (s : State) : Out := live s fun s =>
  let n := n.val
  if s.f F.GLB_PIERSTAT_STATE n != 2 then s
  else if !ok then { s with mode.rejoin := s.mode.rejoin.erase n }.setf F.GLB_PIERSTAT_STATE n 3
  else if domOn s (32 + n) && domOn s (40 + n) then
    let s := { s with mode.rejoin := s.mode.rejoin.erase n }.setf F.GLB_PIERSTAT_STATE n 0
    forEach (pierPorts s n) releasePort s
  else s

/-- The fault of a domain's regulator (R415): off within 1 µs, FAULT set, FAILED, and its unit fails. -/
def regulatorFault (d : Nat) (s : State) : State :=
  let st := domState s d
  if !(1 ≤ st && st ≤ 4) then s else
  let s := s.setf F.PWD_STAT_FAULT d 1
  let s := { s with mode.full := s.mode.full.erase d }
  if d < 32 then setDom d 6 (forEach (portsOn s d) (fun p s => spanClose p 4 s) s)
  else if d < 48 then
    let n := d % 8
    if s.f F.GLB_PIERSTAT_STATE n = 2 then
      setDom d 6 ({ s with mode.rejoin := s.mode.rejoin.erase n }.setf F.GLB_PIERSTAT_STATE n 3)
    else setDom d 6 (liveFault n 0x15 (pierClose n s))
  else if d < 56 then clusterFail (d - 48) (setDom d 6 s)
  else if d < 72 then planeFail (d - 56) 5 (setDom d 6 s)
  else channelFail (d - 72) 4 (setDom d 6 s)

/-- REGULATOR_FAULT: over-current or under-voltage of a regulator stage. -/
def execRegulatorFault (d : DomId) (s : State) : Out := live s fun s => regulatorFault d.val s

/-! ### Reduced mode (R407 to R411) -/

/-- The engines of a pier that the Reduced entry parks (R297): the upper four, but for the lowest live one where none of the lower
four is live. -/
def reducedParks (s : State) (n : Nat) : List Nat :=
  let up := (List.range 4).map (fun e => 8 * n + 4 + e)
  if (List.range 4).any (fun e => engLive s (8 * n + e)) then up else
  match up.find? (engLive s) with
  | some g => up.erase g
  | none => up

/-- The upper engines are parked, at once or when the migration of their pier has ended (R299). -/
def parkUpper (s : State) : State :=
  forRange 8 (fun n s =>
    if pierMoving s n then { s with eng.parkWait := s.eng.parkWait ++ (reducedParks s n).map (fun g => (g, true)) }
    else parkEngines (reducedParks s n) s) s

/-- The caps of Reduced mode take effect or lift: PCI Express ports above the cap go to Recovery, Floing ports change rate (R45,
R68). -/
def applyCaps (s : State) : State :=
  forRange 32 (fun sp s => if isFloing s (4 * sp) then checkCap sp s else applyCap sp s) s

/-- Entry into Reduced mode (Table MODE-3). -/
def reducedEnter (s : State) : State :=
  let s := ((setMode 5 s).setf F.GLB_MODE_ENTERING 0 1).setf F.GLB_MODE_EXITING 0 0
  let s := { s with csn.spillStop := true, mode.readback := true }
  parkUpper (applyCaps s)

/-- A live replacement makes the entry wait (R325). -/
def entryWaits (s : State) : Bool := liveSt s = 5 || liveSt s = 6 || liveSt s = 8

/-- Weighs the Reduced causes after a change of one (Table MODE-1, R411). -/
def weighCauses (s : State) : State :=
  let m := mode s
  if 2 ≤ m && m ≤ 4 && causeHolds s then
    if entryWaits s then
      match s.img.live with
      | some l => { s with img.live := some { l with waitReduced := true } }
      | none => reducedEnter s
    else reducedEnter (liveFault (livePier s) 0x12 s)
  else if m = 5 && causeHolds s && s.b F.GLB_MODE_EXITING 0 then reducedEnter s
  else if m = 5 && !causeHolds s && !s.b F.GLB_MODE_ENTERING 0 && !s.b F.GLB_MODE_EXITING 0 then reducedExit s
  else s

/-- SPILL_DRAIN_TIMEOUT: RDRAIN runs out (R145): flows still spilled lose their pages, channels 1 to 7 are powered off, and landing
memory is unavailable. -/
def execSpillDrainTimeout (s : State) : Out := live s fun s =>
  if !(mode s = 5 && s.b F.GLB_MODE_ENTERING 0 && s.mode.readback) then s else
  let s := losePages (s.csn.flows.map (fun (e : Nat × SpillFlow) => e.1)) { s with mode.readback := false }
  let s := forRange 7 (fun j s =>
    let st := domState s (73 + j)
    if 1 ≤ st && st ≤ 4 then powerOff (73 + j) s else s) s
  let s := if chanLive s 0 then setChan 0 4 s else s
  entryEnd (forRange 8 refreshSpill (s.setf F.CSN_STAT_LM_STATE 0 1))

/-- REDUCED_EXIT_COMPLETE: the channels are wiped; landing tags, spill, engines, the image's mode and the rates return (Table
MODE-4, steps 3 to 5). -/
def execReducedExitComplete (s : State) : Out := live s fun s =>
  if !(mode s = 5 && s.b F.GLB_MODE_EXITING 0 && chansUp s) then s else
  let s := if domOn s 72 && s.f F.CSN_CHSTAT_STATE 0 = 4 then setChan 0 0 s else s
  let s := ((applyTags (fun _ => true) s).setf F.CSN_STAT_LM_LOST 0 1).setf F.CSN_STAT_LM_STATE 0 0
  let s := forRange 8 refreshSpill { s with csn.spillStop := false }
  let s := forRange 64 (fun g s => if upper g then parkRequest g false s else s) s
  let s := setMode (s.f F.GLB_MODE_IMAGE_MODE 0) (s.setf F.GLB_MODE_EXITING 0 0)
  applyCaps { s with ports.power := false }

/-! ### Everything off -/

/-- The units behind the switched domains hold nothing: queues, slices, the deck, links, engines, caisson memory. The remap lists
lie in MRAM (R132). -/
def emptyUnits (s : State) : State :=
  let s := { s with
    ports := { Ports.init with order := s.ports.order, brace := s.ports.brace },
    deck := { Deck.init with ctime := s.deck.ctime },
    csn := { Csn.init with remap := s.csn.remap, shed := s.csn.shed },
    fl := Floing.init, fab := Fab.init, eng := Eng.init }
  { s with regs := s.regs.filter (fun (e : Nat × Word) => ((Reg.ofNat (e.1 % 256)).domain (e.1 / 256)).isNone) }

/-- Every power domain is off. -/
def allOff (s : State) : State :=
  let s := forRange 80 (fun d s => setDom d 0 s) (emptyUnits s)
  let s := ((s.setf F.CSN_STAT_CH_LIVE 0 0).setf F.CSN_STAT_CH_FAILED 0 0).setf F.CSN_POOL_FREE_PAGES 0 0
  let s := s.setf F.CSN_STAT_WIPE_BUSY 0 0
  let s := s.wr .GLB_PLANES 0 0
  { s with mode.full := [], mode.rejoin := [], mode.readback := false, mode.verifying := false, mode.wiping := false,
           mode.commitWait := false, img.loading := none, img.accepted := none, img.cand := [] }

/-! ### Thermal limits (R416, R417) -/

/-- A temperature of 1/16 °C in two's complement. -/
def tempOf (w : BitVec 16) : Int := w.toInt

/-- The hottest sensor: its index and reading; the lowest index on a tie. -/
def hottest (t : List (BitVec 16)) : Nat × BitVec 16 :=
  (t.foldl (fun (a : Nat × Nat × BitVec 16) w => if tempOf a.2.2 < tempOf w then (a.1 + 1, a.1, w) else (a.1 + 1, a.2))
    (0, 0, t.headD 0)).2

/-- WARN_T, REDUCE_T (70 to 104) and HYST_T (0 acts as 1) in °C. -/
def warnT (s : State) : Int := s.f F.GLB_THERM_WARN_T 0
/-- REDUCE_T in force. -/
def reduceT (s : State) : Int := (max 70 (min 104 (s.f F.GLB_THERM_REDUCE_T 0)) : Nat)
/-- HYST_T in force. -/
def hystT (s : State) : Int := (max 1 (s.f F.GLB_THERM_HYST_T 0) : Nat)
/-- The hottest sensor's latest reading. -/
def tempMax (s : State) : Int := (BitVec.ofNat 16 (s.f F.GLB_TEMPMAX_TEMP 0)).toInt

/-- Quarantine gives way to Standby: its cause stays pending until a module reset or keeper power-up (R277, Table MODE-1). -/
def leaveQuarantine (s : State) : State :=
  if !inQuar s then s else
  { s with mode.pendCause := some (s.f F.GLB_QSTAT_CAUSE 0) }.wr .GLB_QSTAT 0 0

/-- Thermal shutdown (R417): tracked requests are completed, every domain goes off, FAULT_N asserts, the recorder is flushed and
the SY256 rests in Standby behind the latch. -/
def thermalShutdown (s : State) : State :=
  let s := forEach ((List.range 128).filter (portExists s)) synthPort s
  let s := leaveQuarantine (allOff (liveKill { s with err.faultN := true }))
  let s := ((s.setf F.GLB_MODE_THERM_SD 0 1).setf F.GLB_MODE_THERM_LATCH 0 1).setf F.GLB_MODE_ENTERING 0 0
  refreshAlert (flushStart (setMode 0 (s.setf F.GLB_MODE_EXITING 0 0)))

/-- THERMAL_SAMPLE: the ten sensors. -/
def execThermalSample (t : List (BitVec 16)) (s : State) : Out := live s fun s =>
  if t.length != 10 then s else
  let s := forRange 10 (fun i s => s.setf F.GLB_TEMP_TEMP i (t.getD i 0).toNat) s
  let h := hottest t
  let s := (s.setf F.GLB_TEMPMAX_SENSOR 0 h.1).setf F.GLB_TEMPMAX_TEMP 0 h.2.toNat
  let v := tempOf h.2
  let s := if v ≥ 16 * warnT s then s.setf F.GLB_TEMPMAX_WARN 0 1
    else if v < 16 * (warnT s - hystT s) then s.setf F.GLB_TEMPMAX_WARN 0 0 else s
  let s := { s with
    mode.thermN := if v ≥ 16 * reduceT s then min 10 (s.mode.thermN + 1) else 0,
    mode.shutN := if v ≥ 16 * 110 then min 2 (s.mode.shutN + 1) else 0 }
  if s.mode.shutN ≥ 2 && mode s != 0 then thermalShutdown s
  else if s.mode.thermN ≥ 10 && !s.b F.GLB_MODE_CAUSE_THERM 0 then weighCauses (s.setf F.GLB_MODE_CAUSE_THERM 0 1)
  else s

/-- THERMAL_CAUSE_DROP: the hottest sensor has stayed below REDUCE_T − HYST_T for 100 ms. -/
def execThermalCauseDrop (s : State) : Out := live s fun s =>
  if s.b F.GLB_MODE_CAUSE_THERM 0 && tempMax s < 16 * (reduceT s - hystT s) then
    weighCauses (s.setf F.GLB_MODE_CAUSE_THERM 0 0)
  else s

end Sys2Proof.Machine
end

