-- ==== Sys2Proof/Machine/Abut.lean ====
section
/-! DEFINITION. The abutment (R370 to R397): feeds, trips, switchover, PG_OUT, brace, power-fail shutdown, energy and hours. -/

namespace Sys2Proof.Machine

/-! ### Settings in force (R378, R387, R399) -/

/-- A threshold in units of 10 mV, clamped to 540 to 5,800, in the 2 mV units of a sample. -/
def voltU (v : Nat) : Nat := 5 * max 540 (min 5800 v)
/-- WARN_V in 2 mV. -/
def warnU (s : State) : Nat := voltU (s.f F.ABT_VTHR0_WARN_V 0)
/-- REDUCE_V in 2 mV. -/
def reduceU (s : State) : Nat := voltU (s.f F.ABT_VTHR0_REDUCE_V 0)
/-- RESET_V in 2 mV. -/
def resetU (s : State) : Nat := voltU (s.f F.ABT_VTHR1_RESET_V 0)
/-- HYST in 2 mV: 0 acts as 1 (10 mV). -/
def hystU (s : State) : Nat := 5 * max 1 (s.f F.ABT_VTHR1_HYST 0)
/-- ILIM in units of 0.25 A: 20 to 280. -/
def ilim (s : State) : Nat := max 20 (min 280 (s.f F.ABT_ILIM_ILIM 0))
/-- TPASS_MAX in °C: 85 to 150. -/
def tpassMax (s : State) : Nat := max 85 (min 150 (s.f F.ABT_TLIM_TPASS_MAX 0))

/-! ### Feeds and the supply -/

/-- The hidden state of a feed. -/
def feed (s : State) (f : Nat) : Feed := SMap.get Feed.init s.abt.feed f
/-- The state with it replaced. -/
def setFeed (f : Nat) (x : Feed) (s : State) : State := { s with abt.feed := SMap.put Feed.init s.abt.feed f x }
/-- ABT_FEED.STATE: 0 OFF, 1 STANDBY, 2 RAMP, 3 ON, 4 LIMIT, 5 RETRY_WAIT, 6 LATCHED, 7 UNUSABLE. -/
def feedSt (s : State) (f : Nat) : Nat := s.f F.ABT_FEED_STATE f
/-- The state with it set. -/
def setFeedSt (f st : Nat) (s : State) : State := s.setf F.ABT_FEED_STATE f st
/-- The latest input voltage of a feed in 2 mV. -/
def vinOf (s : State) (f : Nat) : Nat := s.f F.ABT_VIN_VOLTS f
/-- A usable feed (R373). -/
def usable (s : State) (f : Nat) : Bool :=
  s.b F.ABT_FCTL_EN f && (feedSt s f == 1 || feedSt s f == 3 || feedSt s f == 4)
/-- Its pass transistors are driven. -/
def driven (s : State) (f : Nat) : Bool := feedSt s f == 2 || feedSt s f == 3 || feedSt s f == 4
/-- ABT_STAT.SUPPLY: 0 NO_FEED, 1 RAMPING, 2 NORMAL, 3 BRACE, 4 SHUTDOWN. -/
def supply (s : State) : Nat := s.f F.ABT_STAT_SUPPLY 0
/-- The state with it set. -/
def setSupply (k : Nat) (s : State) : State := s.setf F.ABT_STAT_SUPPLY 0 k
/-- The feed of ABT_STAT.ACTIVE: it supplies the output, or is selected. -/
def activeFeed (s : State) : Nat := s.f F.ABT_STAT_ACTIVE 0
/-- A feed supplies the output. -/
def supplied (s : State) : Bool := s.b F.ABT_STAT_ACTIVE_VALID 0
/-- The supply input (R371); from the decision of a switchover it is the new feed's (Table ABT-3, rank 8). -/
def supplyIn (s : State) : Nat :=
  match s.abt.switch with | some w => vinOf s w.dst | none => vinOf s (activeFeed s)

/-- ABT_EVENT bits that ABT_ALERTEN lets through (R397). -/
def alertBits (s : State) : Nat := s.f F.ABT_EVENT_EVENT 0 &&& s.f F.ABT_ALERTEN_EN 0
/-- A bit has come through since `old`: the abutment alert vector is raised. -/
def alertNew (old : Nat) (s : State) : State :=
  if alertBits s &&& old = alertBits s then s else msixOwner 6 s
/-- ALERT_N as the pin stands: the error block's sources (R260), brace and enabled events (R397), WARN_T (R416) and thermal
shutdown (R417). -/
def alertN (s : State) : Bool :=
  s.b F.GLB_ERRSTAT_ALERT 0 || supply s == 3 || alertBits s != 0 || s.b F.GLB_TEMPMAX_WARN 0 ||
    (mode s == 0 && s.b F.GLB_MODE_THERM_SD 0)

/-- The sticky bit of STATUS_INPUT that an event sets (R398, Table ABT-10). -/
def stickyBit (code : Nat) : Nat :=
  if code = 0x0E then 2 ^ 7 else if code = 0x01 then 2 ^ 5 else if code = 0x04 then 2 ^ 4
  else if code = 0x09 || code = 0x0A then 2 ^ 2 else 0

/-- An abutment event of Table ABT-9, with its feed where it concerns one (R396). -/
def abtEvent (code f : Nat) (s : State) : State :=
  let old := alertBits s
  let s := { s with abt.sticky := s.abt.sticky ||| stickyBit code }
  alertNew old (trigEvent 3 (code + 256 * f) s.stamp (s.setBitf F.ABT_EVENT_EVENT 0 (code - 1) true))

/-- The fault timer of a feed returns to idle. -/
def timerIdle (f : Nat) (s : State) : State :=
  let s := setFeed f { feed s f with timer := false, low := 0 } s
  if activeFeed s = f then s.setf F.ABT_STAT_FAULT_PENDING 0 0 else s

/-- A feed that ramped has switched off: no domain was on (Table ABT-6). -/
def rampLost (f : Nat) (s : State) : State :=
  if supply s = 1 && activeFeed s = f then setSupply 0 { s with abt.firstRamp := false } else s

/-- A feed switches off with a cause of Table ABT-2 into a state. -/
def feedOff (f st cause : Nat) (s : State) : State :=
  let ramping := feedSt s f = 2
  let s := timerIdle f ((setFeedSt f st s).setf F.ABT_FEED_LASTOFF f cause)
  if ramping then rampLost f s else s

/-- A trip (R380, R382): RETRY_WAIT while RETRY is 1 and fewer than three retries have run, otherwise LATCHED. Causes 1 fast trip,
2 timer expiry, 4 over-temperature. -/
def feedTrip (f cause : Nat) (s : State) : State :=
  let again := s.b F.ABT_CFG_RETRY 0 && s.f F.ABT_FEED_RETRIES f < 3
  let s := feedOff f (if again then 5 else 6) cause s
  let s := if cause = 4 then s else s.satf F.ABT_FEED_TRIPS f 1
  let s := abtEvent (if cause = 1 then 0x0A else if cause = 2 then 0x09 else 0x0F) f s
  if again then s else abtEvent 0x0C f s

/-! ### Power-fail shutdown (R339, R352, R390) -/

/-- The part of brace that its end undoes, whether or not a shutdown ends it. -/
def braceRelease (s : State) : State := { s with ports.brace := false, csn.shed := false }

/-- Power-fail shutdown starts: domains and feeds off, PG_OUT low, the kind-10 entry, the POWERFAIL record and the records of
triggers with SRC 5, then the checkpoint; flushes are suspended until it ends (R355). The mode is Standby (Table MODE-1). -/
def shutdown (s : State) : State :=
  let s := numberEntry ⟨10, jNone, JOrg.keeper, 0, 1, 0, 0⟩ s
  let s := leaveQuarantine (allOff (liveKill (braceRelease s)))
  let s := forRange 2 (fun f s => if driven s f then feedOff f 1 8 s else s) s
  let s := (s.setf F.ABT_STAT_PG 0 0).setf F.ABT_STAT_ACTIVE_VALID 0 0
  let s := setSupply 4 ((s.setf F.ABT_STAT_SWITCHING 0 0).setf F.ABT_STAT_FAULT_PENDING 0 0)
  let s := { s with abt.switch := none, abt.shutdown := true, rcd.brace := none, rcd.susp := true }
  let s := ((setMode 0 s).setf F.GLB_MODE_ENTERING 0 0).setf F.GLB_MODE_EXITING 0 0
  let s := trigEvent 5 0 s.stamp (sysRecord 2 0 (s.setf F.GLB_MODE_THERM_SD 0 0))
  s.setf F.JNL_STAT_CHKPT_BUSY 0 1

/-- The supplying feed has switched off with no usable feed to switch to (R385, R390). -/
def supplyLost (s : State) : State :=
  let s := (s.setf F.ABT_STAT_ACTIVE_VALID 0 0).setf F.ABT_STAT_PG 0 0
  if supply s = 2 || supply s = 3 then shutdown s else s

/-! ### Switchover (Table ABT-1) -/

/-- Steps 1 and 2: the switchover is decided and both transistors of X are commanded off. -/
def startSwitch (y : Nat) (s : State) : State :=
  let x := activeFeed s
  let s := if feedSt s x = 3 || feedSt s x = 4 then feedOff x 1 7 s else s
  { s with abt.switch := some ⟨x, y, 2⟩, abt.warnN := 0, abt.resetN := 0, abt.okN := 0 }.setf F.ABT_STAT_SWITCHING 0 1

/-- The supplying feed has left ON and LIMIT (R374): the other feed takes over where it is usable. -/
def feedLeft (s : State) : State :=
  let y := 1 - activeFeed s
  if usable s y then startSwitch y s else supplyLost s

/-- The check of rank 5 after a feed switched off between samples. -/
def checkLeft (s : State) : State :=
  let x := activeFeed s
  if supplied s && s.abt.switch.isNone && feedSt s x != 3 && feedSt s x != 4 && feedSt s x != 7 then feedLeft s else s

/-- A switchover to feed Y is allowed for a dip, SELECT or failback (R374, R376). -/
def switchable (s : State) (y : Nat) : Bool :=
  let x := activeFeed s
  supplied s && s.abt.switch.isNone && x != y && (feedSt s x == 3 || feedSt s x == 4) && usable s y &&
    vinOf s y ≥ warnU s + hystU s

/-! ### Selection (R373) -/

/-- A usable feed whose input has held for 10 ms. -/
def qualified (s : State) (f : Nat) : Bool := usable s f && (feed s f).qual

/-- Starts the ramp of a feed (R377). -/
def startRamp (f : Nat) (s : State) : State :=
  setSupply 1 ((setFeedSt f 2 s).setf F.ABT_STAT_ACTIVE 0 f)

/-- With no feed supplying the output, the selected feed is ramped. -/
def selectFeed (s : State) : State :=
  if supply s != 0 || supplied s || s.abt.firstRamp then s else
  let p := s.f F.ABT_CFG_PRIMARY 0
  if qualified s p then startRamp p s
  else if qualified s (1 - p) then startRamp (1 - p) s
  else s

/-! ### Brace (R388) -/

/-- Enters brace: ALERT_N, the BRACE record, a flush, and the brace action. -/
def braceEnter (s : State) : State :=
  let s := count 128 0x505 subAny 1 (abtEvent 0x01 0 (setSupply 3 s))
  let seq := s.rcd.next
  let s := flushStart (sysRecord 3 0 s)
  let s := { s with rcd.brace := some seq, abt.okN := 0 }
  match s.f F.ABT_CFG_BRACE_ACT 0 with
  | 1 => { (if s.ports.power then s else emptyBraceLimiters s) with ports.brace := true }
  | 2 => { s with csn.shed := true }
  | _ => s

/-- Leaves brace without a reset: the RECOVERED record (R356). -/
def braceExit (s : State) : State :=
  let s := abtEvent 0x02 0 (setSupply 2 (braceRelease s))
  sysRecord 4 (s.rcd.brace.getD 0) { s with rcd.brace := none }

/-! ### Energy (R395, R348) -/

/-- Adds the power of one 1 µs sample, in units of 25 nJ; 40,000 of them are 1 mJ. The 48-bit count wraps and sets WRAPPED. -/
def addEnergy (w : Nat) (s : State) : State :=
  let t := s.abt.frac + w
  let e := s.f F.ABT_ENERGY_ENERGY_LO 0 + 2 ^ 32 * s.f F.ABT_ENERGY_ENERGY_HI 1 + t / 40000
  let s := { s with abt.frac := t % 40000 }
  let s := (s.setf F.ABT_ENERGY_ENERGY_LO 0 e).setf F.ABT_ENERGY_ENERGY_HI 1 (e / 2 ^ 32)
  if e ≥ 2 ^ 48 then s.setf F.ABT_ENERGY_WRAPPED 1 1 else s

/-- The energy count with WRAPPED as its two words stand. -/
def saveEnergy (s : State) : State := { s with abt.savedEnergy := s.rd64 .ABT_ENERGY 0 }

/-- HOUR_TICK: 3,600 s of device time have passed. -/
def execHourTick (s : State) : Out := live s fun s =>
  { saveEnergy (s.satf F.REC_HOURS_VALUE 0 1) with mode.secs := 0 }

/-! ### The sample (R371, Table ABT-3) -/

/-- Power of a feed in units of 25 mW: 2 mV × 4 mA is 8 µW. A negative power counts as 0. -/
def feedPower (x : FeedSample) : Int := (x.vin.toNat : Int) * x.iin.toInt

/-- The thermal model of a pass-transistor pair 1 µs on (R382), in 2^−20 of 1/16 °C: the sensor's reading with I² × 0.6 mΩ × 1.2 K/W on
top (I in 4 mA), filtered with a time constant of 50,000 samples (log entry 85). -/
def heatNext (heat temp amps : Int) : Int :=
  heat + (2 ^ 20 * temp + amps * amps * 2 ^ 20 * 18432 / 10 ^ 11 - heat) / 50000

/-- The measurements are registered (R394). -/
def sampleRegs (x : AbtSample) (s : State) : State :=
  let one (f : Nat) (y : FeedSample) (s : State) : State :=
    let s := (s.setf F.ABT_VIN_VOLTS f y.vin.toNat).setf F.ABT_IIN_AMPS f y.iin.toNat
    let h := heatNext (feed s f).heat y.temp.toInt y.iin.toInt
    let s := setFeed f { feed s f with heat := h } s
    let t : BitVec 16 := if s.b F.ABT_CFG_TEMP_SRC 0 then BitVec.ofInt 16 (h / 2 ^ 20) else y.temp
    (s.setf F.ABT_TEMP_TEMP f t.toNat).setf F.ABT_TEMP_SRC f (s.f F.ABT_CFG_TEMP_SRC 0)
  let w := min 0xFFFF ((feedPower x.a + feedPower x.b) / 3125).toNat
  let s := (one 1 x.b (one 0 x.a s)).setf F.ABT_VOUT_VOLTS 0 x.vout.toNat
  let s := (s.setf F.ABT_RES_VOLTS 0 x.res.toNat).setf F.ABT_PIN_WATTS 0 w
  count 128 0x501 subAny 1 (addEnergy w { s with abt.pinSum := s.abt.pinSum + w, abt.pinN := s.abt.pinN + 1 })

/-- Presence (R370, Table ABT-2) and the selection condition of R373. -/
def presence (f : Nat) (s : State) : State :=
  let v := vinOf s f
  let s := if v < 3000 || v < resetU s + 150 then setFeed f { feed s f with qual := false } s else s
  if feedSt s f = 0 && v ≥ 500 && s.b F.ABT_FCTL_EN f && !(feed s f).ov then setFeedSt f 1 s
  else if feedSt s f = 1 && v < 500 then setFeedSt f 0 s
  else s

/-- Rank 2: a shorted pass transistor, its midpoint above 2 V on ten samples while commanded off (R384). -/
def rankShort (f : Nat) (y : FeedSample) (s : State) : State :=
  let off := !driven s f && feedSt s f != 7 && (feedSt s f != 0 || (feed s f).ov)
  let n := if off && y.mid.toNat > 1000 then (feed s f).short + 1 else 0
  let s := setFeed f { feed s f with short := n } s
  if n ≥ 10 then
    let s := setFeed f { feed s f with short := 0, ov := false } s
    abtEvent 0x0D f (feedOff f 7 5 s)
  else s

/-- Rank 3: the input above 63 V on two consecutive samples (R381). -/
def rankOver (f : Nat) (s : State) : State :=
  let n := if feedSt s f != 0 && feedSt s f != 7 && vinOf s f > 31500 then (feed s f).ovr + 1 else 0
  let s := setFeed f { feed s f with ovr := n } s
  if n ≥ 2 then
    let s := setFeed f { feed s f with ovr := 0, ov := true } s
    abtEvent 0x0E f (feedOff f 0 3 s)
  else s

/-- The pass-transistor temperature of a feed in 1/16 °C, from the source that is chosen (R382). -/
def passTemp (s : State) (f : Nat) : Int := (BitVec.ofNat 16 (s.f F.ABT_TEMP_TEMP f)).toInt

/-- Rank 4: over-temperature (R382), then the current limit with its fault timer (R378). -/
def rankLimit (f : Nat) (y : FeedSample) (s : State) : State :=
  if !driven s f then s
  else if passTemp s f > 16 * (tpassMax s : Int) then feedTrip f 4 s
  else if 2 * y.iin.toInt ≥ 125 * (ilim s : Int) then
    if (feed s f).timer then setFeed f { feed s f with low := 0 } s else
    let s := setFeed f { feed s f with timer := true, low := 0 } s
    let s := if feedSt s f = 3 then setFeedSt f 4 s else s
    let s := if s.b F.ABT_STAT_PG 0 && activeFeed s = f then s.setf F.ABT_STAT_FAULT_PENDING 0 1 else s
    count 128 0x503 subAny 1 (abtEvent 0x08 f s)
  else if (feed s f).timer then
    let n := if 400 * y.iin.toInt < 23750 * (ilim s : Int) then (feed s f).low + 1 else 0
    if n ≥ 10 then
      let s := timerIdle f s
      if feedSt s f = 4 then setFeedSt f 3 s else s
    else setFeed f { feed s f with low := n } s
  else s

/-- Rank 5: the switchover decisions (R374). A feed that a module reset took from UNUSABLE to STANDBY still supplies the output
through its short. -/
def rankSwitch (x : AbtSample) (s : State) : State :=
  let a := activeFeed s
  let mid := (if a = 0 then x.a.mid else x.b.mid).toNat
  let here := feedSt s a = 3 || feedSt s a = 4 || feedSt s a = 7 || (feedSt s a = 1 && mid > 1000)
  let s := { s with abt.warnN := if supplyIn s < warnU s then s.abt.warnN + 1 else 0 }
  if supplied s && s.abt.switch.isNone && !here then feedLeft s
  else if switchable s (1 - a) && s.abt.warnN ≥ 2 then startSwitch (1 - a) s
  else s

/-- Rank 6: PG_OUT (R385). -/
def rankPg (s : State) : State :=
  if s.abt.switch.isSome then s else
  let a := activeFeed s
  let good := s.f F.ABT_VOUT_VOLTS 0 * 100 ≥ 93 * supplyIn s
  let idle := !(feed s a).timer
  if s.b F.ABT_STAT_PG 0 then
    let n := if !good && idle then s.abt.pgN + 1 else 0
    if n ≥ 10 then { s with abt.pgN := 0 }.setf F.ABT_STAT_PG 0 0 else { s with abt.pgN := n }
  else if supplied s && feedSt s a = 3 && good && idle then { s with abt.pgN := 0 }.setf F.ABT_STAT_PG 0 1
  else s

/-- Rank 7: RESET_V on two consecutive samples, or the reservoir below 16 V (R390). -/
def rankReset (s : State) : State :=
  let n := if supplyIn s < resetU s then s.abt.resetN + 1 else 0
  let s := { s with abt.resetN := n }
  if supply s != 2 && supply s != 3 then s else
  let low := s.f F.ABT_RES_VOLTS 0 < 8000
  let s := if n ≥ 2 then abtEvent 0x04 0 s else s
  let s := if low then abtEvent 0x05 0 s else s
  if n ≥ 2 || low then shutdown s else s

/-- Rank 8: brace and its recovery (R388). -/
def rankBrace (s : State) : State :=
  if supply s = 2 && s.abt.switch.isNone && s.abt.warnN ≥ 2 then braceEnter s
  else if supply s = 3 then
    let n := if supplyIn s ≥ warnU s + hystU s then s.abt.okN + 1 else 0
    if n ≥ 20 then braceExit { s with abt.okN := 0 } else { s with abt.okN := n }
  else s

/-- The power limiter of Reduced mode, from step 5 of its entry until exit: ABT_PIN averaged over 1 ms exceeds 290 W (R409). -/
def powerLimit (s : State) : State :=
  if s.abt.pinN < 1000 then s else
  let sum := s.abt.pinSum
  let s := { s with abt.pinSum := 0, abt.pinN := 0 }
  if mode s = 5 && !s.b F.GLB_MODE_ENTERING 0 && sum > 290 * 40 * 1000 && !s.ports.power then
    let s := if s.ports.brace then s else emptyBraceLimiters s
    { s with ports.power := true }
  else s

/-- ABUTMENT_SAMPLE: one tick of the 1 MHz sample clock. -/
def execAbutmentSample (x : AbtSample) (s : State) : Out := live s fun s =>
  let s := presence 1 (presence 0 (sampleRegs x s))
  let s := if supplyIn s < warnU s then count 128 0x502 subAny 1 s else s
  let s := s.setf F.ABT_VMIN_VMIN 0 (min (s.f F.ABT_VMIN_VMIN 0) (supplyIn s))
  let s := rankOver 1 (rankOver 0 (rankShort 1 x.b (rankShort 0 x.a s)))
  let s := rankSwitch x (rankLimit 1 x.b (rankLimit 0 x.a s))
  powerLimit (selectFeed (rankBrace (rankReset (rankPg s))))

/-- POWER_LIMITER_RELEASE: the average has stayed below 270 W for 10 ms. -/
def execPowerLimiterRelease (s : State) : Out := live s fun s => { s with ports.power := false }

/-! ### Feed events between samples -/

/-- FEED_QUALIFIED: the input of a usable feed has been high enough for 10 ms (R373). -/
def execFeedQualified (f : FeedId) (s : State) : Out := live s fun s =>
  let f := f.val
  if usable s f && vinOf s f ≥ 3000 && vinOf s f ≥ resetU s + 150 then
    selectFeed (setFeed f { feed s f with qual := true } s)
  else s

/-- RAMP_END: the reference has reached the input (R377): ON, and the supply is NORMAL. -/
def execRampEnd (f : FeedId) (s : State) : Out := live s fun s =>
  let f := f.val
  if feedSt s f != 2 || (feed s f).timer then s else
  let s := ((setFeedSt f 3 s).setf F.ABT_STAT_ACTIVE 0 f).setf F.ABT_STAT_ACTIVE_VALID 0 1
  setSupply 2 { s with abt.firstRamp := false, abt.warnN := 0, abt.resetN := 0, abt.pgN := 0 }

/-- FAST_TRIP: the comparator of a driven feed (R379). -/
def execFastTrip (f : FeedId) (s : State) : Out := live s fun s =>
  if driven s f.val then checkLeft (feedTrip f.val 1 s) else s

/-- FAULT_TIMER_EXPIRY: the fault timer of a feed in RAMP or LIMIT reaches FAULT_TIME (R378). -/
def execFaultTimerExpiry (f : FeedId) (s : State) : Out := live s fun s =>
  if (feedSt s f.val = 2 || feedSt s f.val = 4) && (feed s f.val).timer then checkLeft (feedTrip f.val 2 s) else s

/-- RETRY_WAIT_EXPIRY: 1 s in RETRY_WAIT; the feed ramps again if selected, otherwise it is in STANDBY (R380). -/
def execRetryWaitExpiry (f : FeedId) (s : State) : Out := live s fun s =>
  let f := f.val
  if feedSt s f != 5 then s else
  let s := selectFeed ((setFeedSt f 1 s).setf F.ABT_FEED_RETRIES f (s.f F.ABT_FEED_RETRIES f + 1))
  if feedSt s f = 2 then abtEvent 0x0B f s else s

/-- RETRIES_CLEAR: 60 s of continuous ON (R380). -/
def execRetriesClear (f : FeedId) (s : State) : Out := live s fun s =>
  if feedSt s f.val = 3 then s.setf F.ABT_FEED_RETRIES f.val 0 else s

/-- OVERVOLTAGE_RECOVERY: the input has been at or below 61 V for 1 ms (R381). -/
def execOvervoltageRecovery (f : FeedId) (s : State) : Out := live s fun s =>
  let f := f.val
  if !(feed s f).ov || vinOf s f > 30500 then s else
  let s := setFeed f { feed s f with ov := false } s
  if s.b F.ABT_FCTL_EN f && vinOf s f ≥ 500 then setFeedSt f 1 s else s

/-- SWITCHOVER_OFF_CONFIRMED: step 3 of Table ABT-1. -/
def execSwitchoverOffConfirmed (s : State) : Out := live s fun s =>
  match s.abt.switch with
  | some w => if w.step = 2 then { s with abt.switch := some { w with step := 3 } } else s
  | none => s

/-- SWITCHOVER_CLOSE: steps 4 and 5: the new feed closes without a ramp and carries the load. A feed that is no longer usable is
not closed: the output has lost its supply. -/
def execSwitchoverClose (s : State) : Out := live s fun s =>
  match s.abt.switch with
  | some w =>
    if w.step != 3 then s else
    let s := { s with abt.switch := none }.setf F.ABT_STAT_SWITCHING 0 0
    if !usable s w.dst then supplyLost s else
    let s := ((setFeedSt w.dst 3 s).setf F.ABT_STAT_ACTIVE 0 w.dst).setf F.ABT_STAT_ACTIVE_VALID 0 1
    count 128 0x504 subAny 1 (abtEvent (if w.dst = 1 then 0x06 else 0x07) w.dst s)
  | none => s

/-- SWITCHOVER_CONFIRM_TIMEOUT: the old feed is UNUSABLE, the new one stays open, and PG_OUT falls (R375, R385). -/
def execSwitchoverConfirmTimeout (s : State) : Out := live s fun s =>
  match s.abt.switch with
  | some w =>
    if w.step != 2 then s else
    let s := { s with abt.switch := none }.setf F.ABT_STAT_SWITCHING 0 0
    (abtEvent 0x0D w.src (feedOff w.src 7 5 s)).setf F.ABT_STAT_PG 0 0
  | none => s

/-- FAILBACK_TIMER: the conditions of R376 have held for 100 ms. -/
def execFailbackTimer (s : State) : Out := live s fun s =>
  let p := s.f F.ABT_CFG_PRIMARY 0
  if s.b F.ABT_CFG_FAILBACK 0 && switchable s p then startSwitch p s else s

/-! ### The voltage cause (R389) -/

/-- VOLTAGE_CAUSE_RAISE: more than 1 ms below REDUCE_V. -/
def execVoltageCauseRaise (s : State) : Out := live s fun s =>
  if s.b F.ABT_STAT_REDUCE_REQ 0 || supplyIn s ≥ reduceU s then s else
  weighCauses ((abtEvent 0x03 0 (s.setf F.ABT_STAT_REDUCE_REQ 0 1)).setf F.GLB_MODE_CAUSE_VOLT 0 1)

/-- VOLTAGE_CAUSE_DROP: 100 ms at or above REDUCE_V + HYST. -/
def execVoltageCauseDrop (s : State) : Out := live s fun s =>
  if s.b F.ABT_STAT_REDUCE_REQ 0 && supplyIn s ≥ reduceU s + hystU s then
    weighCauses ((s.setf F.ABT_STAT_REDUCE_REQ 0 0).setf F.GLB_MODE_CAUSE_VOLT 0 0)
  else s

/-! ### The end of shutdown, and the keeper's stop -/

/-- SHUTDOWN_COMPLETE: the order of Table ABT-5 is done: HOURS and the energy count are saved (R348, R395), and a feed may be
selected again (R392). -/
def execShutdownComplete (s : State) : Out := live s fun s =>
  if supply s = 4 && !s.b F.JNL_STAT_CHKPT_BUSY 0 && !s.rcd.flushing then
    selectFeed (setSupply 0 { saveEnergy s with
      abt.shutdown := false, mode.secs := s.env.now / 1000000000 % 3600 })
  else s

/-- KEEPER_STOP: the reservoir has reached 6 V (R391). -/
def execKeeperStop (s : State) : Out := live s fun s => { s with env.keeperOn := false }

/-- FIRST_RAMP_STOP: the input falls below 5.8 V during the first ramp (R418). -/
def execFirstRampStop (s : State) : Out := live s fun s =>
  if s.abt.firstRamp && supply s = 1 then
    setSupply 0 (setFeedSt (activeFeed s) 1 { s with abt.firstRamp := false })
  else s

end Sys2Proof.Machine
end

