-- ==== Sys2Proof/Machine/CmdBase.lean ====
section
/-! DEFINITION. Submitting commands (R332 to R335) and choosing the one to run (R337). -/

namespace Sys2Proof.Machine

/-- The argument bytes that an opcode names (Table JNL-16), as ranges [lo, hi). -/
def namedArgs (op : Nat) : List (Nat × Nat) :=
  match op with
  | 0x03 => [(8, 24)]
  | 0x04 => [(8, 16)]
  | 0x08 => [(8, 22), (24, 32)]
  | 0x09 => [(8, 9), (12, 20), (24, 32)]
  | 0x0A => [(8, 18)]
  | 0x10 | 0x13 | 0x14 | 0x15 | 0x18 | 0x31 => [(8, 9)]
  | 0x11 => [(8, 9), (12, 28)]
  | 0x12 => [(8, 9), (12, 64)]
  | 0x30 => [(8, 48)]
  | _ => if op ≥ 0x80 then [(8, 64)] else []

/-- A reserved bit or byte of a descriptor is not 0 (R333, R463). -/
def badFormat (d : List Byte) : Bool :=
  let b (i : Nat) : Nat := (d.getD i 0).toNat
  b 1 ≥ 4 || [4, 5, 6, 7].any (fun i => b i != 0) ||
    (opKnown (b 0) && (List.range 56).any (fun k =>
      b (8 + k) != 0 && !(namedArgs (b 0)).any (fun r => r.1 ≤ 8 + k && 8 + k < r.2)))

/-- Why a descriptor is rejected: 1 BUSY, 2 FORMAT, 3 OPCODE; 0 accepts it (R333). -/
def rejection (s : State) (d : List Byte) : Nat :=
  if s.jrn.cmds.length ≥ 256 then 1
  else if badFormat d then 2
  else if !opKnown (d.getD 0 0).toNat then 3
  else 0

/-- Accepts a descriptor: its kind-1 entry is written at once, and its SEQ is the command's number (R333; log entry 19). -/
def acceptCmd (org : Origin) (bank : Option Nat) (batch : Nat) (d : List Byte) (s : State) : State :=
  let seq := s.jrn.next
  let s := numberEntry ⟨1, jAccepted, Origin.jorg org, 0, (d.getD 0 0).toNat, batch, hash48 d % 2 ^ 128⟩ s
  refreshPending { s with jrn.cmds := s.jrn.cmds ++ [(⟨seq, d, org, bank, batch, false⟩ : Cmd)] }

/-- The mask ROM serves commands to nobody where no stage copy has passed (R424). -/
def serves (s : State) : Bool := s.f F.KEY_STAT_BOOT 0 < 3

/-- A submission through the window of a bank or as an MCTP message (R332, R333, Table JNL-14): STATE 2 with the number, or 4
with the reason. -/
def submit (org : Origin) (d : List Byte) (s : State) : State :=
  let b := Origin.bank org
  let s := (s.setf F.JNL_CMDRES_STATUS b 0).setf F.JNL_CMDRES_RESULT b 0
  if !serves s then s.setf F.JNL_CMDRES_STATE b 1 else
  let r := rejection s d
  if r != 0 then (s.setf F.JNL_CMDRES_STATE b 4).setf F.JNL_CMDRES_RESULT b r else
  let seq := s.jrn.next
  acceptCmd org (some b) 0 d ((s.setf F.JNL_CMDRES_STATE b 2).wr64 .JNL_CMDSEQ (2 * b) seq)

/-- The 64 bytes of a bank's descriptor. -/
def bankDesc (s : State) (b : Nat) : List Byte :=
  (List.range 16).flatMap (fun k => leBytes (s.rd .JNL_CMDDESC (16 * b + k)).toNat 4)

/-- A short command. -/
def Cmd.short (c : Cmd) : Bool := !isLong c.op && !isDma c.op && c.op < 0x80
/-- The oldest short command, if none runs: the one that runs next (R337). -/
def nextShort (s : State) : Option Cmd :=
  if s.jrn.cmds.any (fun (c : Cmd) => c.short && c.running) then none else s.jrn.cmds.find? (fun (c : Cmd) => c.short)
/-- The oldest long command, if none runs. -/
def nextLong (s : State) : Option Cmd := if longRuns s then none else s.jrn.cmds.find? (fun (c : Cmd) => isLong c.op)
/-- The oldest DMA command that has no job yet. -/
def nextDma (s : State) : Option Cmd :=
  s.jrn.cmds.find? (fun (c : Cmd) => isDma c.op && !c.running &&
    !s.host.dmaq.any (fun (e : Nat × DmaJob) => e.2.use.cmd == c.seq))

/-- Runs the oldest waiting command of a class if it has this opcode; a privileged one from an origin that R334 names, else it
ends FAILED with ORIGIN. -/
def withCmd (next : State → Option Cmd) (op : Nat) (f : Cmd → State → State) (s : State) : State :=
  match next s with
  | some c =>
    if c.op != op then s
    else if isPriv op && !privileged s c.org then failCmd c.seq resOrigin s
    else f c s
  | none => s

end Sys2Proof.Machine
end

