-- ==== Sys2Proof/Machine/RegSpace.lean ====
section
/-! DEFINITION. Writing a register (R4 to R7, R36 to R41, R52, R173, R246, R288, R327, R330, R360): the order of the checks, the
new value by access code and byte enable, what a write of each register does, and its journal entry. -/

namespace Sys2Proof.Machine

/-! ### The new value (R4, R5, R7) -/

/-- The bits of an instance that a write can act on: the masks of Tables REG-4 to REG-15, less the six fixed bits of the low
words of window bounds and of the tag-set base (Tables CSN-12, GTE-7, GTE-8). -/
def writable (r : Reg) (i : Nat) : Masks :=
  let m := r.masks
  match r with
  | .GTE_WBASE | .GTE_WLIMIT => if i % 2 = 0 then { m with rwl := 0xFFFFFFC0 } else m
  | .CSN_TAGBASE => if i % 2 = 0 then { m with rw := 0xFFFFFFC0 } else m
  | _ => m

/-- The registers that the sections of an image give (Table IMG-5). -/
def Reg.inImage : Reg → Bool
  | .GLB_OWNER | .GLB_PERSTMAP | .GLB_SLOT | .GLB_SPANFORM | .GLB_SBCFG | .GLB_IOCFG | .GLB_ERRCTL | .ABT_CFG | .ABT_ILIM
  | .ABT_VTHR0 | .ABT_VTHR1 | .ABT_ALERTEN | .ABT_TLIM | .ABT_PMB | .REC_CFG | .REC_TRGCFG | .REC_TRGMATCH | .REC_TRGLIST
  | .PMC_BCTL | .PMC_EVT | .SPN_CTL | .SPN_CLKMODE | .SPN_EQCTL | .SPN_CALCTL | .SPN_PMCTL | .SPN_FLCTL | .SPN_FLLDT
  | .SPN_FLTHR | .SPN_FLVC | .PIR_DKCTL | .PIR_PMAP | .PIR_BUFCFG | .PIR_BUFTHR | .PIR_CLSMAP | .PIR_SCHCTL | .PIR_EPCFG
  | .PIR_QCFG | .PIR_QRATE | .PIR_TSCFG | .PIR_TSRATE | .PIR_FROUTE | .PIR_FBCTL | .PIR_ERRTHR | .PIR_DUTY | .DCK_THR
  | .CSN_CFG | .CSN_PQUOTA | .CSN_CHTHR | .GTE_SLOT | .GTE_SBKEY | .GTE_WBASE | .GTE_WLIMIT | .GTE_WATTR | .TNT_KEY
  | .TNT_PORTDEF | .TNT_ENTCTL | .TNT_ENTRID | .TNT_ENTPASID => true
  | _ => false

/-- The bits of an instance that an image gives: what a write may set, and the read-only fields whose value an image determines
(the RO rows of their tables). WO and Reserved bits of an image's word have no effect (R4, R5). -/
def given (r : Reg) (i : Nat) : Word :=
  let m := writable r i
  let ro : Nat := match r with
    | .GLB_OWNER => 0x8000003F
    | .GLB_PERSTMAP => 0x8000007F
    | .GLB_SLOT => 0xFF000000
    | .GLB_SPANFORM => 0xF7
    | .GLB_SBCFG => 0xF07F
    | .GLB_IOCFG => 0xC03F
    | .GLB_ERRCTL => 0x80000000
    | .ABT_CFG => 0x8
    | .ABT_PMB => 0xFF
    | .PIR_CLSMAP => 0x77777777
    | .PIR_DUTY => 0xB80FE03F
    | .CSN_CFG => 0x3F
    | _ => 0
  if r.inImage then BitVec.ofNat 32 (m.rw ||| m.rwl ||| m.w1s ||| ro) else 0

/-- A write that has passed its checks: the instance, what it holds, what it would hold by access code and byte enable, the word
written in its enabled bytes, the enabled bits, and the origin. -/
structure WrCtx where
  i : Nat
  old : Word
  new : Word
  put : Word
  bits : Word
  org : Origin
  deriving DecidableEq, Repr

/-- The value by access code: enabled RW bits take the word written, RW1C bits written 1 clear, RW1S bits written 1 set; a WO
bit is not stored (R4, R7). -/
def applyWrite (m : Masks) (old val bits : Word) : Word :=
  let rw := (m.rw ||| m.rwl) &&& bits
  (((old &&& ~~~rw) ||| (val &&& rw)) &&& ~~~(val &&& m.w1c &&& bits)) ||| (val &&& m.w1s &&& bits)

/-- A write enables a byte of a field. -/
def WrCtx.enables (c : WrCtx) (f : Fld) : Bool := (f.mask &&& c.bits) != 0
/-- A field of the word written, in its enabled bytes. -/
def WrCtx.wrote (c : WrCtx) (f : Fld) : Nat := f.get c.put

/-- What a write does: the state it leaves, and whether its entry says COMPLETED. -/
abbrev Wrote := State × Bool
/-- Refused whole: nothing changes. -/
def refuse (s : State) : Wrote := (s, false)

/-! ### Locks (R246) -/

/-- The register whose LOCK bit covers an instance. -/
def lockOf (r : Reg) (i : Nat) : Option (Fld × Nat) :=
  match r with
  | .GTE_SLOT => some (F.GTE_SLOT_LOCK, i)
  | .GTE_SBKEY => some (F.GTE_SBKEY_LOCK, i)
  | .GTE_WBASE | .GTE_WLIMIT => some (F.GTE_WATTR_LOCK, i / 2)
  | .GTE_WATTR => some (F.GTE_WATTR_LOCK, i)
  | .TNT_KEY => some (F.TNT_KEY_LOCK, i)
  | .TNT_PORTDEF => some (F.TNT_PORTDEF_LOCK, i)
  | .TNT_ENTCTL | .TNT_ENTRID => some (F.TNT_ENTCTL_LOCK, i)
  | .TNT_ENTPASID => some (F.TNT_ENTCTL_LOCK, i / 2)
  | _ => none
/-- The entry is locked. -/
def locked (s : State) (r : Reg) (i : Nat) : Bool := match lockOf r i with | some (f, k) => s.b f k | none => false

/-! ### Module registers -/

/-- GLB_ERRCTL: QUAR enters quarantine with cause 0x3F (R275). -/
def wrErrctl (c : WrCtx) (s : State) : Wrote :=
  let s := refreshAlert (s.wr .GLB_ERRCTL c.i c.new)
  if c.wrote F.GLB_ERRCTL_QUAR = 1 then (quarantine 0x3F (pushRec 25 0x3F 0 s), true) else (s, true)

/-- GLB_TCLOSE and GLB_TRELEASE: each bit written 1 closes or releases its tenant (R269). -/
def wrTenants (act : Nat → State → State) (c : WrCtx) (s : State) : Wrote :=
  (forRange 32 (fun k s => if c.put.getLsbD k then act (32 * c.i + k) s else s) s, true)

/-- GLB_THERM: refused if WARN_T would exceed REDUCE_T as it acts (R416). -/
def wrTherm (c : WrCtx) (s : State) : Wrote :=
  if F.GLB_THERM_WARN_T.get c.new > max 70 (min 104 (F.GLB_THERM_REDUCE_T.get c.new)) then refuse s
  else (s.wr .GLB_THERM c.i c.new, true)

/-! ### Abutment -/

/-- ABT_VTHR0 and ABT_VTHR1: refused if RESET_V would not lie below WARN_V and REDUCE_V (R387). -/
def wrVthr (r : Reg) (c : WrCtx) (s : State) : Wrote :=
  let t := s.wr r c.i c.new
  if resetU t ≥ warnU t || resetU t ≥ reduceU t then refuse s else (t, true)

/-- ABT_FCTL (R374, R380, R384): EN = 0 switches the feed off and is refused for the feed that supplies the output; RESTART
returns a LATCHED feed to STANDBY; SELECT starts a switchover where it may. -/
def wrFctl (c : WrCtx) (s : State) : Wrote :=
  let f := c.i
  let off := F.ABT_FCTL_EN.get c.old = 1 && F.ABT_FCTL_EN.get c.new = 0
  if off && supplied s && activeFeed s = f then refuse s else
  let s := s.wr .ABT_FCTL f (F.ABT_FCTL_EN.set 0 (F.ABT_FCTL_EN.get c.new))
  let s := if off && feedSt s f != 7 then setFeed f { feed s f with ov := false } (feedOff f 0 6 s) else s
  let s := if c.wrote F.ABT_FCTL_RESTART = 1 && feedSt s f = 6 then (setFeedSt f 1 s).setf F.ABT_FEED_RETRIES f 0 else s
  (if c.wrote F.ABT_FCTL_SELECT = 1 && switchable s f then startSwitch f s else s, true)

/-! ### Keystone (R425, R430) -/

/-- A command that KEY_CMD waits for runs. -/
def keyBusy (s : State) : Bool := (runningCmd s 0x30).isSome || (runningCmd s 0x31).isSome

/-! ### Spans -/

/-- SPN_CTL: RETRAIN directs its PCI Express ports into Recovery; a lower MAXRATE acts at once (R45). -/
def wrSpnCtl (c : WrCtx) (s : State) : Wrote :=
  let s := s.wr .SPN_CTL c.i c.new
  let s := forRange 4 (fun k s =>
    let p := 4 * c.i + k
    if (c.wrote F.SPN_CTL_RETRAIN).testBit k && portExists s p && !isFloing s p then toRecovery p s else s) s
  (applyCap c.i s, true)

/-- SPN_PMCTL: a port that EXPRESS_HOLD takes hold of returns to full-width L0: narrowing is called off, full width is requested from
L0p, and ASPM L1 ends; PCI-PM L1 is not held (R60). -/
def wrPmctl (c : WrCtx) (s : State) : Wrote :=
  let s := s.wr .SPN_PMCTL c.i c.new
  let took (k : Nat) : Bool := (F.SPN_PMCTL_EXPRESS_HOLD.get c.new).testBit k && !(F.SPN_PMCTL_EXPRESS_HOLD.get c.old).testBit k
  (forRange 4 (fun k s => if took k then holdFull (4 * c.i + k) s else s) s, true)

/-- SPN_CLKMODE: a port without SLOTCLK keeps its mode where COMMON is written, and the entry says FAILED (R52). -/
def wrClkmode (c : WrCtx) (s : State) : Wrote :=
  let bad (k : Nat) : Bool :=
    c.put.toNat / 4 ^ k % 4 == 2 && (c.bits.getLsbD 0) && !slotClk s (4 * c.i + k)
  let w := (List.range 4).foldl (fun (w : Word) k =>
    if bad k then Fld.set ⟨.SPN_CLKMODE, 2 * k + 1, 2 * k⟩ w (Fld.get ⟨.SPN_CLKMODE, 2 * k + 1, 2 * k⟩ c.old) else w) c.new
  (s.wr .SPN_CLKMODE c.i w, !(List.range 4).any bad)

/-- SPN_LANE: ERRCLR clears the error count (R67). -/
def wrLane (c : WrCtx) (s : State) : Wrote :=
  (if c.wrote F.SPN_LANE_ERRCLR = 1 then s.setf F.SPN_LANE_ERRCNT c.i 0 else s, true)

/-- SPN_CALCTL: clearing CAL_EN abandons a visit (R66). -/
def wrCalctl (c : WrCtx) (s : State) : Wrote :=
  let s := s.wr .SPN_CALCTL c.i c.new
  (if F.SPN_CALCTL_CAL_EN.get c.old = 1 && F.SPN_CALCTL_CAL_EN.get c.new = 0 then flAbandon c.i s else s, true)

/-- SPN_FLCTL: RETRAIN declares the link down (R94); a change of RATE_CAP starts a rate change (R93). -/
def wrFlctl (c : WrCtx) (s : State) : Wrote :=
  let s := s.wr .SPN_FLCTL c.i c.new
  let s := if F.SPN_FLCTL_RATE_CAP.get c.old != F.SPN_FLCTL_RATE_CAP.get c.new then checkCap c.i s else s
  (if c.wrote F.SPN_FLCTL_RETRAIN = 1 then flRetrain c.i s else s, true)

/-- SPN_FLVC: without effect on a span that governs no Floing port (R96); on one, refused if the allocations of the
port would exceed its limit (R79), or if they would leave the pier's pool below 16,384 slots (R121). -/
def wrFlvc (c : WrCtx) (s : State) : Wrote :=
  let g := c.i / 8
  let t := s.wr .SPN_FLVC c.i c.new
  let sum := ((List.range 8).map (fun v => allocActs (t.f F.SPN_FLVC_RX_ALLOC (8 * g + v)))).sum
  let taken := setFl g { fl t g with rxAlloc := [] } t
  if flHas s g && (sum > (if form s g = 6 then 32768 else 16384) || poolSize taken (g / 4) < 16384) then refuse s
  else (t, true)

/-! ### Engines -/

/-- ENG_CTL.PARK: refused where the pier would be left without a live unparked engine, and for an unpark that Reduced mode
forbids, which spares the engine that R297 and R298 leave running (R297, R299, R411). -/
def wrEngCtl (c : WrCtx) (s : State) : Wrote :=
  let g := c.i
  let park := F.ENG_CTL_PARK.get c.new = 1
  if park && !(List.range 8).any (fun e => 8 * (g / 8) + e != g && engUp s (8 * (g / 8) + e)) then refuse s
  else if !park && mode s = 5 && (reducedParks s (g / 8)).contains g then refuse s
  else (parkRequest g park (s.wr .ENG_CTL g c.new), true)

/-! ### Piers -/

/-- PIR_PMAP: refused whole if an entry in an enabled byte would name a plane that is not LIVE (R106). -/
def wrPmap (c : WrCtx) (s : State) : Wrote :=
  if (List.range 8).any (fun e => c.bits.getLsbD (4 * e) && !planeLive s (c.new.toNat / 16 ^ e % 16)) then refuse s
  else (s.wr .PIR_PMAP c.i c.new, true)

/-- PIR_BUFCFG and PIR_BUFTHR of pier `n`: refused if the shared pool would fall below 16,384 slots (R121). -/
def wrReserve (r : Reg) (n : Nat) (c : WrCtx) (s : State) : Wrote :=
  let t := s.wr r c.i c.new
  if poolSize t n < 16384 then refuse s else (t, true)

/-- PIR_SCHCTL: the brace limiters take the new fraction from now on (R160). -/
def wrSchctl (c : WrCtx) (s : State) : Wrote :=
  ((forRange 16 (fun q s => settleBrace (16 * c.i + q) s) s).wr .PIR_SCHCTL c.i c.new, true)

/-- PIR_FROUTE: an entry may name only a Floing port; a change starts the route hold (R206). -/
def wrFroute (c : WrCtx) (s : State) : Wrote :=
  if !isFloing s (F.PIR_FROUTE_PORT.get c.new) then refuse s else
  let s := s.wr .PIR_FROUTE c.i c.new
  (if c.new = c.old || s.fab.hold.contains c.i then s else { s with fab.hold := s.fab.hold ++ [c.i] }, true)

/-- PIR_CLOSE: CLOSE closes the port with cause 5 and prevails over RELEASE (R263, R266). -/
def wrClose (c : WrCtx) (s : State) : Wrote :=
  if c.wrote F.PIR_CLOSE_CLOSE = 1 then (spanClose c.i 5 s, true)
  else if c.wrote F.PIR_CLOSE_RELEASE = 1 then
    if releaseRefused s c.i then refuse s else (releasePort c.i s, true)
  else (s, true)

/-! ### Deck and caisson -/

/-- The applied image's map entry (R106): the default map where the image gives none. -/
def imagePmap (s : State) (n h : Nat) : Nat :=
  let seg := match s.img.applied with | some m => m.segs.drop n | none => []
  match seg with
  | x :: _ =>
    (match x.ptbl.find? (fun (v : RegSet) => v.reg == .PIR_PMAP && v.idx == 8 * n + h / 8) with
    | some v => v.val.toNat / 16 ^ (h % 8) % 16
    | none => h % 16)
  | [] => h % 16

/-- FENCE of a LIVE plane (Table DECK-5): DRAINING, its entries rewritten, its queued cells sent elsewhere; with no plane left the
module enters quarantine (R274). -/
def fence (m : Nat) (s : State) : State :=
  let s := drainIfEmpty m (moveUnsent m (remapPlane m (setPlane m 1 s)))
  if (livePlanes s).isEmpty then quarantine 0x30 (pushRec 25 0x30 0 s) else s

/-- UNFENCE of a FENCED plane: LIVE, with the image's map entries for it restored in every pier. -/
def unfence (m : Nat) (s : State) : State :=
  forRange 8 (fun n s => forRange 64 (fun h s => if imagePmap s n h = m then setPmapEntry n h m s else s) s) (setPlane m 0 s)

/-- DCK_CTL: a FENCE of a plane that is not LIVE or an UNFENCE of one that is not FENCED is ignored (R117). -/
def wrDckCtl (c : WrCtx) (s : State) : Wrote :=
  let fe := c.wrote F.DCK_CTL_FENCE = 1
  let un := c.wrote F.DCK_CTL_UNFENCE = 1
  if (fe && planeSt s c.i != 0) || (un && planeSt s c.i != 2) then refuse s
  else if fe then (fence c.i s, true)
  else if un then (unfence c.i s, true)
  else (s, true)

/-- CSN_TAGCMD: GO starts a tag-set; a range beyond landing memory, or a GO while one runs, sets ERR (R142). -/
def wrTagcmd (c : WrCtx) (s : State) : Wrote :=
  if c.wrote F.CSN_TAGCMD_GO != 1 then (s, true) else
  let base := s.rd64 .CSN_TAGBASE 0
  let n := max 1 (s.f F.CSN_TAGLEN_BLOCKS 0)
  if base + 64 * n > lmBytes s || s.b F.CSN_TAGSTAT_BUSY 0 then (s.setf F.CSN_TAGSTAT_ERR 0 1, false)
  else (({ s with csn.tagset := some (base, n, c.wrote F.CSN_TAGCMD_TAG) }.setf F.CSN_TAGSTAT_BUSY 0 1).setf
    F.CSN_TAGSTAT_DONE 0 0, true)

/-! ### Gates and tenants (R158, R244) -/

/-- The slots whose windows may not share a byte with those of slot `z`. -/
def slotGroup (s : State) (z : Nat) : List Nat :=
  if z ≥ 128 then [z] else
  match vsOfDown s z with
  | some (v, _) => downPorts s v
  | none =>
    match SMap.find? s.host.home z with
    | some h => (s.host.home.filter (fun (e : Nat × HomeBind) => e.2.module == h.module && e.2.vs == h.vs)).map (·.1)
    | none => [z]

/-- Window `w` of slot `z` shares a byte with another valid window of its group. -/
def windowClash (s : State) (z w : Nat) : Bool :=
  (z :: slotGroup s z).any (fun q => (List.range 4).any (fun x =>
    (q != z || x != w) && s.b F.GTE_WATTR_VALID (4 * q + x) &&
      overlap (winBase s z w) (winLimit s z w) (winBase s q x) (winLimit s q x)))

/-- GTE_WATTR: VALID is refused with BASE above LIMIT or on overlap (R244). -/
def wrWattr (c : WrCtx) (s : State) : Wrote :=
  let z := c.i / 4
  let w := c.i % 4
  if F.GTE_WATTR_VALID.get c.new = 1 && (winBase s z w > winLimit s z w || windowClash s z w) then refuse s
  else (s.wr .GTE_WATTR c.i c.new, true)

/-- GTE_WBASE and GTE_WLIMIT: refused while the window is valid (R244). -/
def wrBounds (r : Reg) (c : WrCtx) (s : State) : Wrote :=
  if s.b F.GTE_WATTR_VALID (c.i / 2) then refuse s else (s.wr r c.i c.new, true)

/-- TNT_PORTDEF: refused if the tenant's requesters would enter through two piers (R158). -/
def wrPortdef (c : WrCtx) (s : State) : Wrote :=
  let t := s.wr .TNT_PORTDEF c.i c.new
  let u := F.TNT_PORTDEF_TENANT.get c.new
  if portExists s c.i && !onePier t u then refuse s
  else (t, true)

/-- TNT_ENTCTL: PORT names a port of the pier (Table GTE-13), and the one-pier rule holds (R158). -/
def wrEntctl (c : WrCtx) (s : State) : Wrote :=
  let t := s.wr .TNT_ENTCTL c.i c.new
  let u := F.TNT_ENTCTL_TENANT.get c.new
  if c.enables F.TNT_ENTCTL_PORT && F.TNT_ENTCTL_PORT.get c.new / 16 != c.i / 256 then refuse s
  else if F.TNT_ENTCTL_VALID.get c.new = 1 && !onePier t u then refuse s
  else (t, true)

/-! ### Recorder and counters -/

/-- REC_FIRE: each bit written 1 fires its trigger of SRC 4 (R349). -/
def wrFire (c : WrCtx) (s : State) : Wrote :=
  (forRange 32 (fun t s =>
    if c.put.getLsbD t && s.b F.REC_TRGCFG_EN t && trigSrc s t == 4 &&
      (s.f F.REC_TRGMATCH_VALUE t &&& s.f F.REC_TRGMATCH_MASK t) == 0
    then fire t 4 0 s.stamp s else s) s, true)

/-- PMC_CMD: schedules the actions written; FREEZE with THAW is ignored (R366, R367). -/
def wrPmcCmd (c : WrCtx) (s : State) : Wrote :=
  let bits := c.put.toNat % 16
  if bits.testBit 1 && bits.testBit 2 then refuse s
  else if bits = 0 then (s, true)
  else (pmcSchedule bits s, true)

/-- PMC_BCTL: CLEAR zeroes the block's counters at once (R369). -/
def wrBctl (c : WrCtx) (s : State) : Wrote :=
  let b := c.i
  let s := s.wr .PMC_BCTL b c.new
  if c.wrote F.PMC_BCTL_CLEAR != 1 then (s, true) else
  let s := blockReset b s
  ({ s with pmc.frozenAt := SMap.put 0 s.pmc.frozenAt b 0 }, true)

/-- PMC_EVT: a write that enables a byte of EVENT or SUB zeroes the counter and its OVF bit (R362). -/
def wrEvt (c : WrCtx) (s : State) : Wrote :=
  let b := c.i / 8
  let k := c.i % 8
  let s := s.wr .PMC_EVT c.i c.new
  if c.enables F.PMC_EVT_EVENT || c.enables F.PMC_EVT_SUB then
    ((s.wr64 .PMC_CNT (16 * b + 2 * k) 0).setBitf F.PMC_BSTAT_OVF b k false, true)
  else (s, true)

/-! ### Domains -/

/-- PWD_CTL: a request is carried out, or refused with its reason in LASTERR and nothing else changed (R413). -/
def wrPwdCtl (c : WrCtx) (s : State) : Wrote :=
  let d := c.i
  let on := c.wrote F.PWD_CTL_ON = 1
  let off := c.wrote F.PWD_CTL_OFF = 1
  if !on && !off then (s.wr .PWD_CTL d c.new, true) else
  let e := domRefusal s d on off
  if e != 0 then (s.setf F.PWD_STAT_LASTERR d e, false)
  else (domRequest d on (s.wr .PWD_CTL d c.new), true)

/-! ### The write -/

/-- What a write of a register does once nothing refuses it. -/
def regEffect (r : Reg) (c : WrCtx) (s : State) : Wrote :=
  match r with
  | .GLB_ERRCTL => wrErrctl c s
  | .GLB_ERRSTAT => (refreshAlert (s.wr r c.i c.new), true)
  | .GLB_TCLOSE => wrTenants tenantClose c s
  | .GLB_TRELEASE => wrTenants tenantRelease c s
  | .GLB_THERM => wrTherm c s
  | .ABT_VTHR0 | .ABT_VTHR1 => wrVthr r c s
  | .ABT_FCTL => wrFctl c s
  | .ABT_ALERTEN => (alertNew (alertBits s) (s.wr r c.i c.new), true)
  | .ABT_VMIN => (if c.wrote F.ABT_VMIN_CLR = 1 then s.setf F.ABT_VMIN_VMIN 0 0xFFFF else s, true)
  | .KEY_CMD => if privileged s c.org then keyCmd c.put s else refuse s
  | .KEY_STGDATA => stageWrite (privileged s c.org) (c.put ||| ~~~c.bits) s
  | .JNL_ACK | .JNL_CFG => (journalThreshold (s.wr r c.i c.new), true)
  | .JNL_RDSEQ =>
    let s := s.wr r c.i c.new
    (if c.i % 2 = 0 then
      let s := if s.b F.JNL_STAT_CH0_LOST 0 then s else count 120 0x402 subJournal 1 s
      { s with jrn.latch := SMap.put none s.jrn.latch (c.i / 2) (slotEntry s (c.new.toNat % slots)) } else s, true)
  | .JNL_CMDGO => (if c.wrote F.JNL_CMDGO_GO = 1 then submit c.org (bankDesc s c.i) s else s, true)
  | .REC_FIRE => wrFire c s
  | .SPN_CTL => wrSpnCtl c s
  | .SPN_CLKMODE => wrClkmode c s
  | .SPN_PMCTL => wrPmctl c s
  | .SPN_LANE => wrLane c s
  | .SPN_CALCTL => wrCalctl c s
  | .SPN_FLCTL => wrFlctl c s
  | .SPN_FLVC => wrFlvc c s
  | .ENG_CTL => wrEngCtl c s
  | .PIR_PMAP => wrPmap c s
  | .PIR_BUFCFG => wrReserve r c.i c s
  | .PIR_BUFTHR => wrReserve r (c.i / 128) c s
  | .PIR_SCHCTL => wrSchctl c s
  | .PIR_EPCFG => (fillPolicer c.i (s.wr r c.i c.new), true)
  | .PIR_QCFG =>
    let s := s.wr r c.i c.new
    (if c.enables F.PIR_QCFG_BURST then resetQBucket (c.i / 8) (c.i % 8) s else s, true)
  | .PIR_QRATE => (resetQBucket (c.i / 8) (c.i % 8) (s.wr r c.i c.new), true)
  | .PIR_TSCFG =>
    let s := s.wr r c.i c.new
    (if c.enables F.PIR_TSCFG_BURST then resetTBucket (c.i / 512) (c.i % 512) s else s, true)
  | .PIR_TSRATE => (resetTBucket (c.i / 512) (c.i % 512) (s.wr r c.i c.new), true)
  | .PIR_FROUTE => wrFroute c s
  | .PIR_CLOSE => wrClose c s
  | .DCK_CTL => wrDckCtl c s
  | .CSN_TAGCMD => wrTagcmd c s
  | .GTE_WATTR => wrWattr c s
  | .GTE_WBASE | .GTE_WLIMIT => wrBounds r c s
  | .TNT_PORTDEF => wrPortdef c s
  | .TNT_ENTCTL => wrEntctl c s
  | .PMC_CMD => wrPmcCmd c s
  | .PMC_BCTL => wrBctl c s
  | .PMC_EVT => wrEvt c s
  | .PWD_CTL => wrPwdCtl c s
  | _ => (s.wr r c.i c.new, true)

/-- Registers whose writes are not journalled: the descriptor words and GO of a command window (R327). -/
def Reg.silent : Reg → Bool
  | .JNL_CMDDESC | .JNL_CMDGO => true
  | _ => false

/-- Recorder registers whose writes follow the owner rule (R360). -/
def Reg.ownerWrites : Reg → Bool
  | .REC_CFG | .REC_FIRE | .REC_TRGCFG | .REC_TRGMATCH | .REC_TRGLIST => true
  | r => r.counters

/-- The kind-3 entry of a write that had no effect. -/
def failedWrite (org : Origin) (off result : Nat) (w : RegW) (after : Word) (s : State) : State :=
  keeperEntry (writeEntry (Origin.jorg org) jFailed result off (engineRef s org) w.val w.be.toNat after) s

/-- The entry of a write goes into its island's FIFO; the keeper's own are numbered at once (R330). -/
def islandEntry (isl : Nat) (e : JReq) (s : State) : State := if isl = 25 then keeperEntry e s else jPush isl e s

/-- A write to an island must wait: its FIFO is full, or an earlier one waits (R330). -/
def mustHold (s : State) (isl : Nat) : Bool :=
  (if isl = 25 then s.b F.JNL_STAT_CHKPT_BUSY 0 && !jRoom s 25 else !jRoom s isl) ||
    s.jrn.held.any (fun (h : HeldW) => h.island == isl)

/-- The pier shadow holds what the registers of a pier core domain hold (R268). -/
def shadowed (r : Reg) (i : Nat) (s : State) : State :=
  match r.domain i with
  | some d => if 32 ≤ d ∧ d < 40 then { s with img.shadow := SMap.ins s.img.shadow (regKey r i) (s.rd r i) } else s
  | none => s

/-- What a write brings to the effect of its register. -/
def wrCtx (r : Reg) (i : Nat) (w : RegW) (s : State) : WrCtx :=
  let bits := beBits w.be
  let m := writable r i
  let old := s.rd r i
  ⟨i, old, applyWrite m old w.val bits, w.val &&& bits &&& (m.rw ||| m.rwl ||| m.w1c ||| m.w1s ||| m.wo), bits, w.org⟩

/-- A write that has passed the checks takes effect and is journalled. -/
def regApply (r : Reg) (i off : Nat) (w : RegW) (s : State) : State :=
  let ref := engineRef s w.org
  let x := regEffect r (wrCtx r i w s) s
  let s := if x.2 then shadowed r i x.1 else x.1
  if r.silent then s else
  islandEntry (islandOf (r.domain i)) (writeEntry (Origin.jorg w.org) (if x.2 then jDone else jFailed) 0 off ref w.val
    w.be.toNat (regValue s r i)) s

/-- A write that reaches a register past slot 129: the owner rule, the domain and clock check, locks, writable bits, the island's
FIFO, and KEY_CMD's wait. `joined` says that it is in its joint already. Answers the access status. -/
def regWriteAt (joined : Bool) (r : Reg) (i off : Nat) (w : RegW) (s : State) : Nat × State :=
  let bits := beBits w.be
  let st := accessStatus joined s r i
  let m := writable r i
  let fail (s : State) : Nat × State :=
    (accOk, if r.silent then s else failedWrite w.org off 0 w (regValue s r i) s)
  if r.ownerWrites && !counterOk s w.org then fail s
  else if st != accOk then
    let v := s.fresh
    (st, failedWrite w.org off st w (BitVec.ofNat 32 v.1) (recordAccess w.org r i off st v.2))
  else if locked s r i then fail s
  else if (m.rw ||| m.rwl ||| m.w1c ||| m.w1s ||| m.wo) &&& bits = 0 then fail s
  else if r = .KEY_CMD && privileged s w.org && keyBusy s then
    (accOk, { s with key.cmdWait := s.key.cmdWait ++ [w] })
  else if !r.silent && mustHold s (islandOf (r.domain i)) then
    (accOk, { s with jrn.held := s.jrn.held ++ [(⟨islandOf (r.domain i), off, w⟩ : HeldW)] })
  else (accOk, regApply r i off w s)

/-- A write that slot 129 refuses: logged with its place in the request, and journalled FAILED (R242). -/
def regRefuse (off part : Nat) (w : RegW) (s : State) : State :=
  let v := s.fresh
  let after := match regAt off with
    | some (r, i) =>
      let i := bankedIdx w.org r i
      if accessStatus false s r i = accOk then regValue s r i else BitVec.ofNat 32 v.1
    | none => 0
  failedWrite w.org off accRefused w after (logRefused w.org true off 4 part v.2)

/-- A register write at a BAR0 offset, `joined` if it is in its joint already. -/
def regWriteIn (joined : Bool) (off : Nat) (w : RegW) (s : State) : Nat × State :=
  if !slot129 s w.org off then (accRefused, regRefuse off 0 w s)
  else match regAt off with
    | none => (accOk, failedWrite w.org off 0 w 0 s)
    | some (r, i) => regWriteAt joined r (bankedIdx w.org r i) off w s

/-- A register write by an interface, an engine or the keeper at a BAR0 offset (R4 to R7, R36, R41, R242, R327). -/
def regWrite (off : Nat) (w : RegW) (s : State) : Nat × State := regWriteIn false off w s

/-- A write of instance `i` of a register, whole. -/
def regWriteReg (r : Reg) (i : Nat) (w : RegW) (s : State) : State := (regWrite (r.offset i) w s).2

end Sys2Proof.Machine
end

