-- ==== Sys2Proof/Machine/Route.lean ====
section
/-! DEFINITION. Stage 3 routing (R114, R172, R177 to R182, R200, R201, R207): windows, BARs and bus ranges of a virtual switch,
ACS, and the requests that are not carried out. -/

namespace Sys2Proof.Machine

/-- Where a TLP goes: a port of this module, a port of another module, the landing function, a BAR of the management endpoint,
the management endpoint as a message target, an engine, the CONFIG duty, a multicast group, every bridge; or nowhere: UR, an ACS
violation, silence. -/
inductive Dest where
  | port (p : Nat)
  | remote (m q : Nat)
  | land
  | bar0
  | bar4
  | mep
  | engine
  | config
  | mcast (g : Nat)
  | broadcast
  | ur
  | acs
  | silent
  deriving DecidableEq, Repr

/-- A routed TLP: its destination, the TLP with the address as the target sees it, the virtual switch it travels in, and the target
virtual switch whose proxy ID it takes (R172). -/
structure Routed where
  dest : Dest
  tlp : Tlp
  vs : Nat
  proxy : Option Nat
  deriving DecidableEq, Repr

/-- What a binding names: a bridge that binds no port has no target (R322). -/
def BindTo.dest : BindTo → Dest
  | .unbound => .ur
  | .local_ p => .port p
  | .remote m p => .remote m p

/-- The function of a bridge. -/
def BridgeDef.fn (b : BridgeDef) : Nat := fnBridge b.dev

/-! ### Windows, BARs and bus ranges (R179) -/

/-- The non-prefetchable window of a bridge. -/
def memWindow (s : State) (v fn : Nat) : Nat × Nat :=
  let r := (cfgRd s v fn 0x20).toNat
  (r % 65536 / 16 * 2 ^ 20, r / 2 ^ 20 * 2 ^ 20 + (2 ^ 20 - 1))
/-- The prefetchable window of a bridge. -/
def prefWindow (s : State) (v fn : Nat) : Nat × Nat :=
  let r := (cfgRd s v fn 0x24).toNat
  (r % 65536 / 16 * 2 ^ 20 + (cfgRd s v fn 0x28).toNat * 2 ^ 32,
    r / 2 ^ 20 * 2 ^ 20 + (2 ^ 20 - 1) + (cfgRd s v fn 0x2C).toNat * 2 ^ 32)
/-- An address lies in a window. -/
def inWindow (w : Nat × Nat) (a : Nat) : Bool := w.1 ≤ a && a ≤ w.2
/-- The window of a bridge that holds an address. -/
def windowHit (s : State) (v fn a : Nat) : Option (Nat × Nat) :=
  if inWindow (memWindow s v fn) a then some (memWindow s v fn)
  else if inWindow (prefWindow s v fn) a then some (prefWindow s v fn) else none

/-- Size of BAR2 of the landing function: the smallest power of two that is at least LM (R137). -/
def landBarSize (s : State) : Nat :=
  2 ^ ((List.range 64).find? (fun k => 2 ^ k ≥ lmBytes s)).getD 0
/-- Base of BAR0 of the management endpoint. -/
def bar0Base (s : State) (v : Nat) : Nat := (cfgRd s v fnMep 0x10).toNat / 2 ^ 26 * 2 ^ 26
/-- Base of BAR4 of the management endpoint. -/
def bar4Base (s : State) (v : Nat) : Nat := (cfgRd s v fnMep 0x20).toNat / 2 ^ 13 * 2 ^ 13
/-- Base of BAR2 of the landing function. -/
def bar2Base (s : State) (v : Nat) : Nat :=
  ((cfgRd s v fnLand 0x18).toNat + 2 ^ 32 * (cfgRd s v fnLand 0x1C).toNat) / landBarSize s * landBarSize s

/-- What an address of a virtual switch names. -/
inductive Hit where
  | bar0
  | bar4
  | land
  | bridge (b : BridgeDef)
  | peer (w : Peer)
  deriving DecidableEq, Repr

/-- What an address names on the internal bus of a virtual switch: a BAR or a bridge window (R179). -/
def busHit (s : State) (v : Nat) (d : VsDef) (a : Nat) : Option Hit :=
  if fnPresent s v fnMep && bar0Base s v ≤ a && a < bar0Base s v + 2 ^ 26 then some .bar0
  else if fnPresent s v fnMep && bar4Base s v ≤ a && a < bar4Base s v + 2 ^ 13 then some .bar4
  else if fnPresent s v fnLand && bar2Base s v ≤ a && a < bar2Base s v + landBarSize s then some .land
  else (d.bridges.find? (fun b => (windowHit s v b.fn a).isSome)).map .bridge

/-- What an address names for a request that enters through function `fn`: a request from above reaches the internal bus only inside the
upstream port's own Base and Limit windows (R179); then the peer windows, which lie in the host's space (R172). -/
def memHit (s : State) (v fn a : Nat) : Option Hit :=
  match vsDef s v with
  | none => none
  | some d =>
    let hit := if fn = fnUp && (windowHit s v fnUp a).isNone then none else busHit s v d a
    hit.or ((d.peers.find? (fun w => w.base ≤ a && a ≤ w.limit)).map .peer)

/-- A bridge whose Secondary to Subordinate range holds a bus (R177, R179). -/
def busBridge (s : State) (v bus : Nat) : Option BridgeDef :=
  match vsDef s v with
  | none => none
  | some d => d.bridges.find? (fun b =>
      let sec := cfgF s v b.fn 0x18 15 8
      let sub := cfgF s v b.fn 0x18 23 16
      sec != 0 && sec ≤ bus && bus ≤ sub)

/-! ### ACS (R200; log entry 9) -/

/-- A bit of a bridge's ACS control: 0 Source Validation, 1 Translation Blocking, 2 P2P Request Redirect, 3 P2P Completion
Redirect, 4 Upstream Forwarding, 5 P2P Egress Control, 6 Direct Translated P2P, 12 Unclaimed Request Redirect. The controls of DSP and
USP Memory Target Access act on requests to BARs of a downstream or the upstream port, and these have none (Table HOST-13). -/
def acsBit (s : State) (v fn k : Nat) : Bool := capBit s v fn .acs 0x4 (16 + k)
/-- Bit `j` of its Egress Control Vector. -/
def acsVector (s : State) (v fn j : Nat) : Bool := capBit s v fn .acs 0x8 j

/-- The Requester ID lies in the bus range of the ingress bridge. -/
def sourceValid (s : State) (v fn rid : Nat) : Bool :=
  cfgF s v fn 0x18 15 8 ≤ rid / 256 && rid / 256 ≤ cfgF s v fn 0x18 23 16

/-- ACS refuses a memory request that enters through a bridge, before its target counts. -/
def acsRefuses (s : State) (v fn : Nat) (t : Tlp) : Bool :=
  (acsBit s v fn 0 && !sourceValid s v fn t.rid) || (acsBit s v fn 1 && t.at_ != 0)

/-- What ACS makes of a request from bridge `fn` to bridge `b` of its virtual switch: direct, upstream, or a violation. -/
inductive AcsSays where
  | direct | upstream | violation | own
  deriving DecidableEq, Repr

/-- The ACS decision on a peer-to-peer request. -/
def acsPeer (s : State) (v fn : Nat) (b : BridgeDef) (t : Tlp) : AcsSays :=
  if b.fn = fn then (if acsBit s v fn 4 then .upstream else .own)
  else if t.at_ = 2 && acsBit s v fn 6 then .direct
  else if acsBit s v fn 5 then
    (if !acsVector s v fn b.dev then .direct else if acsBit s v fn 2 then .upstream else .violation)
  else if acsBit s v fn 2 then .upstream else .direct

/-! ### Memory requests -/

/-- The bytes that a memory request names. -/
def tlpSpan (t : Tlp) : Nat :=
  match t.kind with
  | .memRd | .memRdLk => t.len
  | .atomic .cas => t.data.length / 2
  | _ => t.data.length

/-- A function answers memory requests: Memory Space Enable is 1 and it is not in D3hot (Table HOST-2). -/
def memReady (s : State) (v fn : Nat) : Bool := memEn s v fn && dState s v fn != 3

/-- An AtomicOp or a Deferrable Memory Write. -/
def tlpSpecial (t : Tlp) : Bool := match t.kind with | .atomic _ | .defWr => true | _ => false

/-- A request from below that no window or BAR claims goes upstream (R181); inside the upstream port's own window it goes upstream only
with Unclaimed Request Redirect, and is otherwise UR (R200; log entry 9). -/
def unclaimed (s : State) (v fn : Nat) (t : Tlp) (up : Dest) : Dest :=
  if fn = fnUp || ((windowHit s v fnUp t.addr).isSome && !acsBit s v fn 12) then .ur else up

/-- A memory request to an endpoint function or bridge that its address names, from function `fn`. -/
def routeHit (s : State) (v fn : Nat) (t : Tlp) (up : Dest) : Option Hit → Routed
  | none => ⟨unclaimed s v fn t up, t, v, none⟩
  | some .bar0 =>
    let off := t.addr - bar0Base s v
    let bad := !memReady s v fnMep || tlpSpecial t || t.at_ == 1 || tlpSpan t > 8 || tlpSpan t % 4 != 0 || t.addr % 4 != 0
    ⟨if bad then .ur else .bar0, { t with addr := off }, v, none⟩
  | some .bar4 =>
    let bad := !memReady s v fnMep || tlpSpecial t || t.at_ == 1
    ⟨if bad then .ur else .bar4, { t with addr := t.addr - bar4Base s v }, v, none⟩
  | some .land =>
    let off := t.addr - bar2Base s v
    let bad := !memReady s v fnLand || t.at_ == 1 || off + tlpSpan t > lmBytes s
    ⟨if bad then .ur else .land, { t with addr := off }, v, none⟩
  | some (.bridge b) =>
    if !memReady s v b.fn then ⟨.ur, t, v, none⟩
    else if fn = fnUp then ⟨b.tgt.dest, t, v, none⟩
    else match acsPeer s v fn b t with
      | .direct => ⟨b.tgt.dest, t, v, none⟩
      | .upstream => ⟨up, t, v, none⟩
      | .violation => ⟨.acs, t, v, none⟩
      | .own => ⟨.ur, t, v, none⟩
  | some (.peer w) =>
    if fn != fnUp && acsBit s v fn 2 && !(t.at_ == 2 && acsBit s v fn 6) then ⟨up, t, v, none⟩ else
    let t := { t with addr := (t.addr + w.offset) % 2 ^ 64 }
    let d := match w.tport with
      | some b => b.dest
      | none => match vsDef s w.tvs with | some d => .port d.up | none => .ur
    ⟨d, t, w.tvs, if t.nonPosted then some w.tvs else none⟩

/-- The multicast window of a function: base, index position, groups (R114; log entry 9). -/
def mcWindow (s : State) (v fn : Nat) : Nat × Nat × Nat :=
  let lo := (capRd s v fn .mcast 0x8).toNat
  ((lo / 4096 * 4096 + (capRd s v fn .mcast 0xC).toNat * 2 ^ 32), lo % 64, capF s v fn .mcast 0x4 21 16 + 1)

/-- MC_Enable. -/
def mcEnable (s : State) (v fn : Nat) : Bool := capBit s v fn .mcast 0x4 31

/-- The multicast group that a Memory Write hits at its ingress function. -/
def mcGroup (s : State) (v fn : Nat) (t : Tlp) : Option Nat :=
  let (b, p, n) := mcWindow s v fn
  if t.kind == .memWr && mcEnable s v fn && 12 ≤ p && b ≤ t.addr && t.addr < b + n * 2 ^ p
  then some ((t.addr - b) / 2 ^ p) else none

/-- A 64-bit group mask of a function: 0x10 MC_Receive, 0x18 MC_Block_All, 0x20 MC_Block_Untranslated. -/
def mcMask (s : State) (v fn rel g : Nat) : Bool := capBit s v fn .mcast (rel + 4 * (g / 32)) (g % 32)

/-- A function of the virtual switch receives a multicast request: MC_Enable, MC_Receive, and neither MC_Block_All nor, for an
untranslated address, MC_Block_Untranslated (R114). -/
def mcReceives (s : State) (v fn g : Nat) (t : Tlp) : Bool :=
  mcEnable s v fn && mcMask s v fn 0x10 g && !mcMask s v fn 0x18 g && !(t.at_ == 0 && mcMask s v fn 0x20 g)

/-- Routes a memory request that enters through function `fn` of virtual switch `v` (R177 to R182, R200, R201). A bridge forwards a
request upward only with its Bus Master Enable, and the upstream port likewise (R175). Every UR row of Table HOST-2 comes before the
ACS row. -/
def routeMem (s : State) (v fn : Nat) (t : Tlp) : Routed :=
  match vsDef s v with
  | none => ⟨.ur, t, v, none⟩
  | some d =>
    let up : Dest := if busMaster s v fnUp then .port d.up else .ur
    let hit := memHit s v fn t.addr
    let bar := match hit with | some .bar0 | some .bar4 => true | _ => false
    let r : Routed :=
      if fn != fnUp && (t.at_ = 1 || (t.at_ = 2 && !acsBit s v fn 6)) then ⟨up, t, v, none⟩
      else match mcGroup s v fn t with
        | some g => ⟨.mcast g, t, v, none⟩
        | none => routeHit s v fn t up hit
    if inQuar s && !bar then ⟨.ur, t, v, none⟩
    else if fn = fnUp then (if memReady s v fnUp then r else ⟨.ur, t, v, none⟩)
    else if !busMaster s v fn || r.dest = .ur then ⟨.ur, t, v, none⟩
    else if acsRefuses s v fn t then ⟨.acs, t, v, none⟩
    else r

/-! ### Messages (R180, R201, R224, R284) -/

/-- Codes of vendor-defined messages. -/
def isVdm (t : Tlp) : Bool := t.code == 0x7E || t.code == 0x7F
/-- An MCTP message: a vendor-defined message with the vendor ID of DSP0238. -/
def isMctp (t : Tlp) : Bool := isVdm t && t.laddr == 0x1AB4
/-- PME and error messages, which the engines of the virtual switch take from below (R284). -/
def engineMsg (t : Tlp) : Bool := t.code == 0x18 || t.code == 0x30 || t.code == 0x31 || t.code == 0x33

/-- Routes by ID: a function of the internal bus, a bridge, or upstream. -/
def routeId (s : State) (v fn : Nat) (t : Tlp) (up : Dest) : Dest :=
  if t.bdf / 256 = internalBus s v then
    (if fnPresent s v fnMep && t.bdf = ridOf s v fnMep then .mep else .silent)
  else match busBridge s v (t.bdf / 256) with
    | some b => b.tgt.dest
    | none => if fn = fnUp then .ur else up

/-- Routes a message. -/
def routeMsg (s : State) (v fn : Nat) (t : Tlp) : Dest :=
  match vsDef s v with
  | none => .silent
  | some d =>
    let up : Dest := .port d.up
    if inQuar s && !isMctp t then .silent
    else if isVdm t && !isMctp t then (if d.vdm then .engine else if t.code = 0x7E then .ur else .silent)
    else if t.route = 2 then routeId s v fn t up
    else if t.route = 3 then (if fn = fnUp then .broadcast else .silent)
    else if t.route = 0 || t.route = 5 then
      (if fn = fnUp then .silent else if engineMsg t then .engine else up)
    else if t.route = 1 then (routeHit s v fn t up (memHit s v fn t.addr)).dest
    else .silent

/-- Routes a configuration request (R175, R177): to the engines for the upstream port and the internal bus, through a bridge whose
bus range holds the target; UR where no range does, or where the link behind the bridge is down. -/
def routeCfg (s : State) (v fn : Nat) (t : Tlp) : Dest :=
  if fn != fnUp then .ur
  else if t.route = 0 || t.bdf / 256 = internalBus s v then .config
  else match busBridge s v (t.bdf / 256) with
    | some b => (match b.tgt with
      | .local_ p => if linkUp s p then .port p else .ur
      | .remote m p => .remote m p
      | .unbound => .ur)
    | none => .ur

/-- A Type 1 request that leaves through a bridge becomes Type 0 on the bridge's secondary bus (R177). -/
def cfgConvert (s : State) (v : Nat) (t : Tlp) : Tlp :=
  match busBridge s v (t.bdf / 256) with
  | some b => if t.route = 1 && cfgF s v b.fn 0x18 15 8 = t.bdf / 256 then { t with route := 0 } else t
  | none => t

/-- Routes a request that enters through function `fn` of virtual switch `v` (Table HOST-2). -/
def route (s : State) (v fn : Nat) (t : Tlp) : Routed :=
  match t.kind with
  | .ioRd | .ioWr | .memRdLk => ⟨.ur, t, v, none⟩
  | .cfgRd | .cfgWr => ⟨routeCfg s v fn t, cfgConvert s v t, v, none⟩
  | .msg => ⟨routeMsg s v fn t, t, v, none⟩
  | .cpl => ⟨.silent, t, v, none⟩
  | .memRd | .memWr | .defWr | .atomic _ => routeMem s v fn t

/-- The address that a multicast write carries out of a downstream function: MC_Overlay_BAR replaces its upper bits where the
overlay size is 6 or more (R114; log entry 9). -/
def mcOverlay (s : State) (v fn : Nat) (a : Nat) : Nat :=
  let lo := (capRd s v fn .mcast 0x28).toNat
  let k := lo % 64
  if fn = fnUp || k < 6 then a
  else (lo / 64 * 64 + (capRd s v fn .mcast 0x2C).toNat * 2 ^ 32) / 2 ^ k * 2 ^ k + a % 2 ^ k

end Sys2Proof.Machine
end

