-- ==== Sys2Proof/Machine/BarAccess.lean ====
section
/-! DEFINITION. Accesses to the BARs of a management endpoint (R37, R182, R183). -/

namespace Sys2Proof.Machine

/-! ### BAR0: the register space (R37, R182, Table GTE-3) -/

/-- The interface that a BAR0 request stands for. -/
def bar0Org (c : Carried) : Origin :=
  .bar0 (Fin.ofNat 64 c.vs) (Fin.ofNat 128 c.inP) c.tlp.rid (Fin.ofNat 512 c.tenant)

/-- Writes register `j` of a BAR0 request. -/
def bar0Put (c : Carried) (j : Nat) (s : State) : State :=
  let org := bar0Org c
  let off := c.tlp.addr + 4 * j
  let be := BitVec.ofNat 4 (15 - c.tlp.code / 16 ^ j % 16)
  let w : RegW := ⟨org, be, BitVec.ofNat 32 (leNum ((c.tlp.data.drop (4 * j)).take 4))⟩
  if slot129 s org off then (regWrite off w s).2 else aerPort c.inP aerAbort (regRefuse off (4 * j) w s)

/-- Reads register `j` of a BAR0 request; after a refused register nothing more is read, and each refused one is logged. -/
def bar0Get (c : Carried) (j : Nat) (a : List Byte × Bool × State) : List Byte × Bool × State :=
  let org := bar0Org c
  let off := c.tlp.addr + 4 * j
  let s := a.2.2
  if !slot129 s org off then (a.1, true, aerPort c.inP aerAbort (logRefused org false off 4 (4 * j) s))
  else if a.2.1 then a
  else
    let x := regRead org off s
    (a.1 ++ leBytes x.2.1.toNat 4, false, x.2.2)

/-- A BAR0 read: its registers one at a time, each as `get` reads it, and the completions. -/
def bar0Read (get : Nat → List Byte × Bool × State → List Byte × Bool × State) (c : Carried) (s : State) : State :=
  let x := (List.range (c.tlp.len / 4)).foldl (fun a j => get j a) ([], false, s)
  let s := sendReadData (ridOf s c.vs fnMep) (mps s c.vs fnMep) c false (c.tlp.len + 1) x.1 c.tlp.addr c.tlp.len x.2.2
  if !x.2.1 then s
  else sendCpl c.tlp c.inP c.vs c.tenant c.fab stCA [] (c.tlp.len - x.1.length) (c.tlp.addr + x.1.length) false s

/-- A BAR0 access: one register at a time (R37), each judged by slot 129 for itself. A poisoned write is discarded. -/
def bar0Access (c : Carried) (s : State) : State :=
  if c.tlp.kind = .memRd then bar0Read (bar0Get c) c s
  else if c.tlp.ep then s
  else forRange (c.tlp.len / 4) (bar0Put c) s

/-! ### BAR4: the MSI-X table and the Pending Bit Array (R183) -/

/-- A byte of BAR4. -/
def bar4Byte (s : State) (v a : Nat) : Byte :=
  if a < 0x400 then BitVec.ofNat 8 ((msixRd s v (a / 16) (a / 4 % 4)).toNat / 256 ^ (a % 4))
  else if 0x1000 ≤ a && a < 0x1008 then
    BitVec.ofNat 8 (((List.range 8).map (fun k =>
      if s.host.pend.contains (v * 64 + 8 * (a - 0x1000) + k) then 2 ^ k else 0)).sum)
  else 0

/-- Writes a byte of the MSI-X table. -/
def bar4Put (v a : Nat) (b : Byte) (s : State) : State :=
  if a < 0x400 then
    let w := (msixRd s v (a / 16) (a / 4 % 4)).toNat
    let old := w / 256 ^ (a % 4) % 256
    msixWr v (a / 16) (a / 4 % 4) (BitVec.ofNat 32 (w + b.toNat * 256 ^ (a % 4) - old * 256 ^ (a % 4))) s
  else s

/-- An access to BAR4: a write acts on the bytes it enables and may unmask vectors, and what is pending then goes (R184). -/
def bar4Access (c : Carried) (s : State) : State :=
  let v := c.vs
  let a := c.tlp.addr
  if c.tlp.kind = .memRd then
    sendReadData (ridOf s v fnMep) (mps s v fnMep) c false (c.tlp.len + 1)
      ((List.range c.tlp.len).map (fun i => bar4Byte s v (a + i))) a c.tlp.len s
  else if c.tlp.ep then s
  else
    msixFlush v (forRange c.tlp.data.length (fun i s =>
      if c.tlp.code.testBit i then s else bar4Put v (a + i) (c.tlp.data.getD i 0) s) s)

end Sys2Proof.Machine
end

