-- ==== Sys2Proof/Machine/Clocks.lean ====
section
/-! DEFINITION. Clock islands (R27 to R42): the loss of an island's clock with the accesses in its joints, and the loss, the test
and the return of the 100 MHz oscillator. -/

namespace Sys2Proof.Machine

/-! ### Accesses in the joints of a lost island (R38, R40) -/

/-- The island whose joint an access is in. -/
def accIsland (a : JointAcc) : Option Nat := (regAt a.off).map (fun x => islandOf (x.1.domain x.2))

/-- The host's read through BAR0 of which a lost access is one register: that register reads all ones, each other one as it is read
now (R37, Table CLK-5). -/
def lostRead (a : JointAcc) (s : State) : State :=
  match a.org, a.req with
  | .bar0 v p _ u, some t =>
    if a.w.isSome || t.kind != .memRd then s else
    let c : Carried := ⟨t, p, p, u, v, none, 0, [], 0⟩
    bar0Read (fun j x =>
      if t.addr + 4 * j = a.off && !x.2.1 then (x.1 ++ leBytes (BitVec.allOnes 32).toNat 4, x.2.1, x.2.2) else bar0Get c j x) c s
  | _, _ => s

/-- An access that waits in the joint of a lost island completes with CLOCK_LOST (R38, R40): its interface records it, a host's read
is answered, a write is journalled INDETERMINATE with a free value after it (R41; log entry 35), an engine intrinsic returns
the status. -/
def lostAccess (a : JointAcc) (s : State) : State :=
  let s := match regAt a.off with
    | some (r, i) => recordAccess a.org r i a.off accLost s
    | none => s
  let s := match a.org with
    | .engine g _ => { s with eng.lastStatus := SMap.put 0 s.eng.lastStatus g.val accLost }
    | .sideband => { s with sb.access := none, sb.data := BitVec.allOnes 32 }.setf F.GLB_SBSTAT_LAST 0 accLost
    | _ => s
  match a.w with
  | some (be, v) =>
    let x := s.fresh
    keeperEntry (writeEntry (Origin.jorg a.org) jIndet accLost a.off 0 v be.toNat (BitVec.ofNat 32 x.1)) x.2
  | none => lostRead a s

/-- The accesses that the state holds in joints: writes that wait for their island's journal FIFO (R330), and the sideband's
(R226). -/
def waitingAccs (s : State) : List JointAcc :=
  s.jrn.held.map (fun (h : HeldW) => ⟨h.w.org, h.off, some (h.w.be, h.w.val), none⟩) ++
    (match s.sb.access with
     | some (write, off, v) => [⟨.sideband, off, if write then some (0xF, v) else none, none⟩]
     | none => [])

/-- Every access in the joints of an island completes with CLOCK_LOST. -/
def loseJoint (i : Nat) (accs : List JointAcc) (s : State) : State :=
  let here (a : JointAcc) : Bool := accIsland a == some i
  let lost := (waitingAccs s ++ accs).filter here
  let s := { s with jrn.held := s.jrn.held.filter (fun (h : HeldW) => !here ⟨h.w.org, h.off, none, none⟩) }
  forEach lost lostAccess s

/-! ### Clock loss (R29, R38, R274) -/

/-- A failed island is handled by its unit (R274). -/
def islandLost (i : Nat) (s : State) : State :=
  if i < 8 then liveFault i 0x15 (pierClose i s)
  else if i = 8 then forRange 16 (fun m s => planeFail m 6 s) s
  else if i < 17 then clusterFail (i - 9) s
  else if i < 25 then channelFail (i - 17) 3 s
  else s

/-- The mark of a failed island. -/
def markLost (i : Nat) (s : State) : State :=
  ((s.setf F.CLK_ISLSTAT_FAILED i 1).setf F.CLK_ISLSTAT_RUN i 0).setf F.CLK_ISLSTAT_LOCK i 0

/-- The detector of an island fires (R29, R38): never on the keeper, nor on an island whose clock does not run. LOSSCNT rises,
the island is marked failed, accesses in its joint complete, and its unit is handled. -/
def clockLoss (i : Nat) (accs : List JointAcc) (s : State) : State :=
  if i = 25 ∨ !s.b F.CLK_ISLSTAT_RUN i then s else
  islandLost i (loseJoint i accs (markLost i (s.satf F.CLK_ISLSTAT_LOSSCNT i 1)))

/-- CLOCK_LOSS_DETECTION. -/
def execClockLossDetection (i : IslandId) (accs : List JointAcc) (s : State) : Out := live s fun s =>
  clockLoss i.val accs s

/-! ### The oscillator (R30) -/

/-- The 100 MHz oscillator stops (R30): the keeper takes the ring oscillator, every other island is reported failed with the
accesses in its joints, LOSSCNT standing as it is (DESIGN CHOICE, log entry 63), the record 0x31 is made, and the SY256 enters
quarantine. In Standby no island runs: FAULT_N asserts, the recorder is flushed and the cause stays pending. -/
def oscLoss (accs : List JointAcc) (s : State) : State :=
  if !s.env.oscRun then s else
  let s := { s with env.oscRun := false, env.oscGood := 0 }
  if s.b F.CLK_OSC_SRC 0 then s else
  let s := (s.setf F.CLK_OSC_SRC 0 1).setf F.CLK_OSC_OSC_FAIL 0 1
  if mode s = 0 then
    flushStart (refreshAlert { quarantine 0x31 (pushRec 25 0x31 0 s) with err.faultN := true })
  else
    let s := forRange 25 (fun i s => loseJoint i accs (markLost i s)) s
    quarantine 0x31 (pushRec 25 0x31 0 s)

/-- OSCILLATOR_LOSS. -/
def execOscillatorLoss (accs : List JointAcc) (s : State) : Out := live s (oscLoss accs)

/-- OSCILLATOR_TEST: a 1 ms test while the keeper runs on the ring oscillator (R30). -/
def execOscillatorTest (good : Bool) (s : State) : Out := live s fun s =>
  if !s.b F.CLK_OSC_SRC 0 then s
  else { s with env.oscRun := good, env.oscGood := if good then s.env.oscGood + 1 else 0 }

/-- OSCILLATOR_RESTORE: after 10 ms within tolerance the keeper switches back and SRC clears; OSC_FAIL stays (R30). -/
def execOscillatorRestore (s : State) : Out := live s fun s =>
  if s.b F.CLK_OSC_SRC 0 && s.env.oscRun && s.env.oscGood ≥ 10 then s.setf F.CLK_OSC_SRC 0 0 else s

end Sys2Proof.Machine
end

