-- ==== Sys2Proof/Machine/Path.lean ====
section
/-! DEFINITION. The TLP path inside the module (R19, R114 to R116, R122 to R124, R133, R156 to R162, R212, R213, R239 to R243,
R261, R262): the gate's cut, the decision at stage 3, admission, spill, hold, and the way to the egress queue. -/

namespace Sys2Proof.Machine

/-- The landing function as a target. -/
abbrev landPort : Nat := 200
/-- BAR0 of the management endpoint as a target. -/
abbrev bar0Port : Nat := 201
/-- BAR4 of the management endpoint as a target. -/
abbrev bar4Port : Nat := 202

/-- A TLP as its ingress saw it: the completion for it goes back under the header by which it came. -/
def Held.req (h : Held) : Carried := { h.c with fab := h.inc }

/-- The switch port function by which a request enters its virtual switch at this module, where that is its home: a remote
bridge bound to the port it came from (R207). -/
def homeFn (s : State) (h : FabHdr) : Option Nat :=
  match vsDef s h.vs with
  | none => none
  | some d => (d.bridges.find? (fun b => match b.tgt with
      | .remote m q => m == h.srcMod && q == h.srcPort
      | _ => false)).map (fun b => b.fn)

/-- An error of a request reported at the function by which it came (DESIGN CHOICE, log entry 15: a module that has no function of its
virtual switch shows none). -/
def aerIngress (c : Carried) (bit : Nat) (s : State) : State :=
  match c.fab with
  | none => aerPort c.inP bit s
  | some h => match homeFn s h with | some fn => aerUnc h.vs fn bit s | none => s

/-! ### The gate (R239 to R243) -/

/-- Logs the forbidden parts of a request in the gate log of the pier where it entered (R242). -/
def logParts (z : Nat) (c : Carried) (ps : List Part) (s : State) : State :=
  let n := pierOf c.inP
  let write := c.tlp.kind != .memRd
  forEach (ps.filter (fun p => !p.ok)) (fun p s =>
    aerIngress c aerAbort (gateLog ⟨n, 0, write, c.inP, c.tenant, p.tag, c.tlp.rid, z, c.tlp.addr + p.off, p.len, p.off⟩ s)) s

/-- The parts of a request at a slot, the fall-back path counted. -/
def gateDecide (z : Nat) (c : Carried) (s : State) : State × List Part :=
  let n := tlpSpan c.tlp
  let ps := gateParts s (.key (tenantKey s c.tenant)) z c.tlp.addr n
  let s := if c.tlp.addr + n ≤ slotLimit s z c.tlp.addr + 1 then s else count (32 + pierOf c.inP) 0x107 subAny 1 s
  (logParts z c ps s, ps)

/-- One part of a write as a TLP of its own bytes. -/
def cutWrite (t : Tlp) (p : Part) (refused : Nat) : Tlp :=
  { t with addr := t.addr + p.off, len := p.len, data := (t.data.drop p.off).take p.len, bcount := refused }

/-- What the gate lets through of a request (Table GTE-3): the TLPs to issue; none where the whole request is refused. -/
def gateCut (t : Tlp) (ps : List Part) : List Tlp :=
  let bad := ((ps.filter (fun p => !p.ok)).map (fun p => p.len)).sum
  if ps.all (fun p => p.ok) then [t]
  else match t.kind with
    | .memWr => (ps.filter (fun p => p.ok)).map (fun p => cutWrite t p 0)
    | .defWr => (ps.filter (fun p => p.ok)).map (fun p => cutWrite t p bad)
    | .memRd =>
      let n := ((ps.takeWhile (fun p => p.ok)).map (fun p => p.len)).sum
      if n = 0 then [] else [{ t with len := n, bcount := t.len - n }]
    | _ => []

/-! ### Refusals at stage 3 -/

/-- An Unsupported Request: a non-posted request is completed with UR, a posted one discarded and reported at its ingress
function (R180). -/
def urReq (v fn : Nat) (c : Carried) (s : State) : State :=
  if c.tlp.posted then aerUnc v fn aerUR s else failReq c stUR s

/-- An ACS violation: reported, a non-posted request completed with Completer Abort (Table HOST-2). -/
def acsReq (v fn : Nat) (c : Carried) (s : State) : State := failReq c stCA (aerUnc v fn aerAcs s)

/-- A request with no route through the fabric (R205). -/
def noRoute (c : Carried) (s : State) : State := if c.tlp.posted then aerIngress c aerUR s else failReq c stUR s

/-- A request of a closed tenant (R269). -/
def tenantRefuse (c : Carried) (s : State) : State := failReq c stCA (s.satf F.PIR_ERRCNT2_TREFUSED (pierOf c.inP) 1)

/-- An excess express request: discarded, a non-posted one answered Completer Abort, counted, logged in PIR_EPLOG while that holds
nothing, and reported with cause 0x13 (R162). -/
def excessReq (reserve : Bool) (c : Carried) (s : State) : State :=
  let p := c.inP
  let n := pierOf p
  let s := count (spanOf p) 0x00A (subPort p) 1 s
  let s := if c.tlp.posted then s.satf F.PIR_EPCNT_DROP_P p 1 else s.satf F.PIR_EPCNT_DROP_NP p 1
  let s := if s.b F.PIR_EPLOG_VALID n then s else
    let s := (s.setf F.PIR_EPLOG_VALID n 1).setf F.PIR_EPLOG_NP n (if c.tlp.nonPosted then 1 else 0)
    let s := (s.setf F.PIR_EPLOG_RESERVE n (if reserve then 1 else 0)).setf F.PIR_EPLOG_PORT n (p % 16)
    s.setf F.PIR_EPLOG_RID n c.tlp.rid
  failReq c stCA (pushRec n 0x13 p s)

/-! ### Resources -/

/-- S = B + 1 slots for a fabric tag: B aligned 64-byte blocks of the request's data (R213). -/
def tagSlots (t : Tlp) : Nat :=
  let n := tlpSpan t
  if n = 0 then 1 else (t.addr + n - 1) / 64 - t.addr / 64 + 2

/-- A free fabric tag of a Floing port, from the next one tried (R212). -/
def freeTag (s : State) (p : Nat) : Nat :=
  let used := SMap.get [] s.fab.tags p
  let n := SMap.get 0 s.fab.nextTag p
  ((List.range (used.length + 1)).map (fun k => (n + k) % 16384)).find? (fun t => !used.any (fun (e : FTag) => e.tag == t))
    |>.getD n

/-- A TLP leaves by a Floing port as a request: its packet carries a destination module. -/
def toFabric (s : State) (c : Carried) : Bool := c.outP < 128 && isFloing s c.outP && !c.tlp.isCpl

/-- The modules that a request is bound for. -/
def dstMods (c : Carried) : List Nat :=
  match c.fab with
  | none => []
  | some h => if h.kind = 3 then (List.range 64).filter (fun d => h.mask.getLsbD d) else [h.dstMod]

/-- The route table as it stands decides the port (R205, R206). -/
def reroute (s : State) (h : Held) : Held :=
  match h.c.fab with
  | none => h
  | some x =>
    if h.c.tlp.isCpl then h
    else if x.kind = 3 then
      let up := ((dstMods h.c).filterMap (fun d => routeOf s (pierOf h.c.inP) d)).filter (fun p => p != h.c.inP)
      let mc := h.c.mc.filter (fun p => !isFloing s p) ++ up
      let mc := sortPorts mc
      { h with c := { h.c with mc := mc, outP := mc.headD h.c.outP } }
    else match routeOf s (pierOf h.c.inP) x.dstMod with
      | some p => { h with c := { h.c with outP := p } }
      | none => { h with c := { h.c with outP := 255 } }

/-- A resource that the TLP needs and that is exhausted: the route hold of R206, a proxy tag, a fabric tag or its reservation, an
entry of the egress port's tracker. -/
def lacks (s : State) (h : Held) : Option HoldWhy :=
  let c := h.c
  let n := pierOf c.inP
  if (dstMods c).any (fun d => s.fab.hold.contains (64 * n + d)) && !c.tlp.isCpl then some .route
  else if !c.tlp.nonPosted || c.outP ≥ 128 then none
  else if (match h.proxy with | some v => decide ((SMap.get [] s.host.proxy v).length ≥ 256) | none => false) then some .proxyTag
  else if isFloing s c.outP then
    if (SMap.get [] s.fab.tags c.outP).length ≥ 16384 || !admits s c.outP (classOf s c.tlp.tc) 0 (tagSlots c.tlp) 0
    then some .fabricTag else none
  else if !trkRoom s c.outP then some .tracker else none

/-- Takes a proxy tag (R172). -/
def takeProxy (h : Held) (s : State) : Held × State :=
  match h.proxy with
  | none => (h, s)
  | some v =>
    let used := SMap.get [] s.host.proxy v
    let k := ((List.range 256).find? (fun k => !used.any (fun (x : Proxy) => x.tag == k))).getD 0
    let x : Proxy := ⟨k, h.c.tlp.rid, h.c.tlp.tag, h.c.inP, h.c.vs⟩
    let s := { s with host.proxy := SMap.put [] s.host.proxy v (used ++ [x]) }
    ({ h with proxy := none, c := { h.c with tlp := { h.c.tlp with rid := ridOf s v fnMep, tag := proxyBase + k } } }, s)

/-- Records a non-posted request at its egress: a fabric tag with its reserved slots (R212, R213), or a tracker entry (R261). -/
def takeRecord (h : Held) (s : State) : Held × State :=
  let c := h.c
  if !c.tlp.nonPosted || c.outP ≥ 128 then (h, s)
  else if isFloing s c.outP then
    let p := c.outP
    let t := freeTag s p
    let k := tagSlots c.tlp
    let e : FTag := ⟨t, c.inP, h.inc, c.tlp.rid, c.tlp.tag, c.tlp.tc, c.vs, c.tenant, c.tlp.len, c.tlp.addr, k, false⟩
    let l := SMap.get [] s.fab.tags p ++ [e]
    let s := { s with fab.tags := SMap.put [] s.fab.tags p l, fab.nextTag := SMap.put 0 s.fab.nextTag p ((t + 1) % 16384) }
    let s := charge p (classOf s c.tlp.tc) 0 k (s.setf F.PIR_FBPORT_TAGS p l.length)
    ({ h with c := { c with fab := c.fab.map (fun (x : FabHdr) => { x with ftag := Fin.ofNat 16384 t }) } }, s)
  else (h, track c.outP (trkOf h.req) s)

/-! ### Stage 5 and on -/

/-- A same-pier descriptor moves to the egress queue (R122, R124). A local target of a multicast TLP takes no slot of its own. -/
def moveLocal (c : Carried) (s : State) : State :=
  let cls := classOf s c.tlp.tc
  let s := count (32 + pierOf c.inP) 0x103 (subClass cls) 1 s
  if c.mc.isEmpty then enqueueEgress c (charge c.outP cls 1 c.cells (release c.inP cls 0 c.cells s))
  else enqueueEgress c s

/-- A same-pier TLP at stage 5: behind its flow, and admitted to its egress account (R124). -/
def toLocal (c : Carried) (s : State) : State :=
  let w := SMap.get [] s.ports.wait5 c.flow
  if w.isEmpty && (!c.mc.isEmpty || admits s c.outP (classOf s c.tlp.tc) 1 c.cells 0) then moveLocal c s
  else { s with ports.wait5 := SMap.put [] s.ports.wait5 c.flow (w ++ [c]) }

/-- Moves what waits at stage 5 in a flow and is admitted now. -/
def drainFlow5 (f : Nat) : Nat → State → State
  | 0, s => s
  | k + 1, s =>
    match SMap.get [] s.ports.wait5 f with
    | [] => s
    | c :: rest =>
      if !c.mc.isEmpty || admits s c.outP (classOf s c.tlp.tc) 1 c.cells 0 then
        drainFlow5 f k (moveLocal c { s with ports.wait5 := SMap.put [] s.ports.wait5 f rest })
      else s

/-- Moves what waits at stage 5 in every flow of a pier. -/
def drain5 (n : Nat) (s : State) : State :=
  forEach (s.ports.wait5.filter (fun (e : Nat × List Carried) => e.1 / 16384 == n))
    (fun (e : Nat × List Carried) s => drainFlow5 e.1 e.2.length s) s

/-- A cross-pier TLP at stage 6, counted. -/
def toDeck (c : Carried) (s : State) : State :=
  let b := 32 + pierOf c.inP
  let sub := subClass (classOf s c.tlp.tc)
  deckSend c (count b 0x102 sub (c.cells * c.dsts.length) (count b 0x101 sub c.dsts.length s))

/-- A multicast TLP is stored once, with a count of local targets and other piers (R115), and goes to each. -/
def storeMc (c : Carried) (s : State) : State :=
  let src := pierOf c.inP
  let root := freshHandle s src
  let c := { c with root := root }
  let here := c.mc.filter (fun p => pierOf p == src)
  let s := { s with
    deck.handle := SMap.put 0 s.deck.handle src root,
    deck.mcRef := SMap.put 0 s.deck.mcRef (storeKey src root) (here.length + c.dsts.length) }
  let s := if c.dsts.isEmpty then s else toDeck c s
  forEach here (fun p s => toLocal (copyFor s c p) s) s

/-- A TLP that its ingress account holds goes on (stages 5 and 6). -/
def proceed (c : Carried) (s : State) : State :=
  if !c.mc.isEmpty then storeMc c s
  else if pierOf c.inP = pierOf c.outP then toLocal c s
  else toDeck c s

/-- One block of a spilled flow counted in the block of its channel. -/
def countBlock (ev : Nat) (x : SpillFlow) (b : Nat) (s : State) : State :=
  match x.pages[b / 64]? with
  | some pg => count (120 + pageChan pg) ev (fun u => u == 0 || u == 3) 1 s
  | none => s

/-- Counts the blocks of a run of a flow's pages at their channels (events 0x401 and 0x402, spill). -/
def countBlocks (ev : Nat) (x : SpillFlow) (lo n : Nat) (s : State) : State :=
  forRange n (fun i => countBlock ev x (lo + i)) s

/-- Spills a TLP (R133, R134). -/
def spillTlp (c : Carried) (s : State) : State :=
  let s := count (32 + pierOf c.inP) 0x104 (subClass (classOf s c.tlp.tc)) 1 (spill c s)
  match SMap.find? s.csn.flows c.flow with
  | some x => countBlocks 0x401 x (x.blocks - 2 * c.cells) (2 * c.cells) s
  | none => s

/-- A decided request reaches the landing function or a BAR. -/
def toTarget (h : Held) (s : State) : State :=
  let c := h.req
  if c.outP = landPort then { s with csn.landq := s.csn.landq ++ [⟨c, h.parts⟩] }
  else if c.outP = bar0Port then bar0Access c s
  else bar4Access c s

/-! ### The decision (R123, R133, R156 to R162) -/

/-- The shaper of the TLP's tenant acts on it: a non-express request of the module where it entered, EN and ACTIVE (R158). -/
def shaped (s : State) (h : Held) : Bool :=
  let k := 512 * pierOf h.c.inP + h.c.tenant
  classOf s h.c.tlp.tc != 0 && !h.c.tlp.isCpl && h.inc.isNone && s.b F.PIR_TSCFG_EN k &&
    tenantActive s (pierOf h.c.inP) h.c.tenant

/-- Charges the express policer or the tenant shaper (R156, R158, R162). -/
def chargeIngress (h : Held) (s : State) : State :=
  let c := h.c
  if classOf s c.tlp.tc = 0 then
    { s with ports.ebkt := SMap.put Bucket.init s.ports.ebkt c.inP ((eBucket s c.inP).charge c.tlp.size) }
  else if shaped s h then
    let n := pierOf c.inP
    { s with ports.tbkt := SMap.put Bucket.init s.ports.tbkt (512 * n + c.tenant) ((tBucket s n c.tenant).charge c.tlp.size) }
  else s

/-- A TLP that is let through: charged, recorded, and stored, spilled or handed to its target. A posted request discards the
read-ahead buffers of its virtual switch at its target port (R223). -/
def letGo (spills : Bool) (h : Held) (s : State) : State :=
  let s := chargeIngress h s
  let (h, s) := takeProxy h s
  let (h, s) := takeRecord h s
  let s := if h.c.tlp.posted then
      forEach (if h.c.mc.isEmpty then [h.c.outP] else h.c.mc) (fun p s => pfDiscardIf p (fun b => b.vs == h.c.vs) s) s
    else s
  if h.c.outP ≥ 128 then toTarget h s
  else if spills then spillTlp h.c s
  else proceed h.c (charge h.c.inP (classOf s h.c.tlp.tc) 0 h.c.cells s)

/-- A spilled flow whose queue is empty and of which no TLP is held is NORMAL again (Table CSN-4). -/
def settleSpill (f : Nat) (s : State) : State :=
  match SMap.find? s.csn.flows f with
  | some x => if x.tlps.isEmpty && !flowHeld s f then closeSpill f s else s
  | none => s

/-- Admission of a non-express TLP to its ingress account, spill or hold (R123, R133, Table CSN-4). -/
def admitPlain (h : Held) (s : State) : Except HoldWhy State :=
  let c := h.c
  let queued := match SMap.find? s.csn.flows c.flow with | some x => !x.tlps.isEmpty | none => false
  if h.c.outP ≥ 128 then .ok (letGo false h s)
  else if !queued && admits s c.inP (classOf s c.tlp.tc) 0 c.cells 0 then .ok (settleSpill c.flow (letGo false h s))
  else if maySpill s c then .ok (letGo true h s)
  else .error .admission

/-- The express reserve has room for a TLP, or it takes none. -/
def expressRoom (s : State) (c : Carried) : Bool := c.outP ≥ 128 || admits s c.inP 0 0 c.cells 0

/-- A request is excess (R162): at the policer (`some false`), or for want of express reserve (`some true`). -/
def excessNow (s : State) (c : Carried) : Option Bool :=
  if classOf s c.tlp.tc != 0 || c.tlp.isCpl then none
  else if (eBucket s c.inP).tok < 0 then some false
  else if expressRoom s c then none else some true

/-- The decision on an express TLP: an excess request is charged and ends here, an excess completion is never discarded (R162). -/
def admitExpress (h : Held) (s : State) : Except HoldWhy State :=
  let c := h.c
  if c.tlp.isCpl then
    if expressRoom s c || sharedFree s (pierOf c.inP) ≥ c.cells then .ok (letGo false h s) else .error .expressCpl
  else match excessNow s c with
    | some r => .ok (excessReq r h.req (chargeIngress h s))
    | none => match lacks s h with
      | some w => .error w
      | none => .ok (letGo false h s)

/-- The decision of stage 3 on a TLP: it goes, ends here, or is held for the reason given. -/
def judge (h : Held) (s : State) : Except HoldWhy State :=
  let h := reroute s h
  let c := h.c
  if !c.tlp.isCpl && h.inc.isNone && tenantClosed s c.tenant then .ok (tenantRefuse h.req s)
  else if c.outP = 255 || (c.outP < 128 && isFloing s c.outP && !flUp s (c.outP / 4) && c.mc.isEmpty) then
    .ok (if c.tlp.isCpl then s else noRoute h.req s)
  else if (match c.fab with | some x => x.kind == 3 && c.mc.isEmpty | none => false) then .ok (noRoute h.req s)
  else if c.outP < 128 && !isFloing s c.outP && !linkUp s c.outP && c.mc.isEmpty then .ok (lostReq c.outP h.req s)
  else if classOf s c.tlp.tc = 0 then admitExpress h s
  else if shaped s h && (tBucket s (pierOf c.inP) c.tenant).tok < 0 then .error .shaper
  else match lacks s h with
    | some w => .error w
    | none => admitPlain h s

/-! ### Hold queues (R124, R158, R159) -/

/-- The hold queue of a TLP: its ingress span and class. -/
def holdKey (s : State) (c : Carried) : Nat := 4 * spanOf c.inP + classOf s c.tlp.tc

/-- The reasons that later posted requests pass. -/
def HoldWhy.resource : HoldWhy → Bool
  | .proxyTag | .fabricTag | .tracker => true
  | _ => false

/-- A later TLP of the class may pass a held one (R159). -/
def passes (c : Carried) (h : Held) : Bool :=
  (c.tlp.isCpl && !h.c.tlp.isCpl) || (c.tlp.posted && h.c.tlp.nonPosted && h.why.resource)

/-- A TLP that arrives: behind a held TLP that it may not pass, or judged. A request that is excess as it arrives is never held
(R162). -/
def arrive (h : Held) (s : State) : State :=
  let k := holdKey s h.c
  let q := SMap.get [] s.ports.hold k
  let put (w : HoldWhy) : State := { s with ports.hold := SMap.put [] s.ports.hold k (q ++ [{ h with why := w }]) }
  match q.find? (fun x => !passes h.c x), excessNow s h.c with
  | some _, some r => excessReq r h.req (chargeIngress h s)
  | some x, none => put x.why
  | none, _ => match judge h s with
    | .ok s => s
    | .error w => put w

/-- Judges a hold queue again from its head: a TLP goes when no TLP left before it blocks it and the decision lets it. -/
def retryHold (k : Nat) : List Held → List Held → State → State
  | kept, [], s => { s with ports.hold := SMap.put [] s.ports.hold k kept }
  | kept, h :: rest, s =>
    if kept.any (fun x => !passes h.c x) then retryHold k (kept ++ [h]) rest s
    else
      let s := { s with ports.hold := SMap.put [] s.ports.hold k (kept ++ rest) }
      match judge h s with
      | .ok s => retryHold k kept rest s
      | .error w => retryHold k (kept ++ [{ h with why := w }]) rest s

/-! ### Receive credits of a PCI Express port (R124) -/

/-- Credits that a TLP takes at its receiver. -/
def RxCredits.of (t : Tlp) : RxCredits :=
  if t.posted then { RxCredits.zero with ph := 1, pd := dataUnits t }
  else if t.isCpl then { RxCredits.zero with ch := 1, cd := dataUnits t }
  else { RxCredits.zero with nh := 1, nd := dataUnits t }

/-- Two sets of credits together. -/
def RxCredits.plus (a b : RxCredits) : RxCredits :=
  ⟨a.ph + b.ph, a.pd + b.pd, a.nh + b.nh, a.nd + b.nd, a.ch + b.ch, a.cd + b.cd⟩

/-- One set less another. -/
def RxCredits.minus (a b : RxCredits) : RxCredits :=
  ⟨a.ph - b.ph, a.pd - b.pd, a.nh - b.nh, a.nd - b.nd, a.ch - b.ch, a.cd - b.cd⟩

/-- The credit of the TLPs that a span holds for a port (R124, R158). -/
def withheld (s : State) (p : Nat) : RxCredits :=
  ((List.range 4).flatMap (fun cls => SMap.get [] s.ports.hold (4 * spanOf p + cls))).foldl
    (fun a h => if h.c.inP = p then a.plus (RxCredits.of h.c.tlp) else a) RxCredits.zero

/-- A live replacement drains a changed port: it takes no TLP from its partner and returns no credit (Table IMG-9, R324). -/
def ingressStopped (s : State) (p : Nat) : Bool :=
  match s.img.live with
  | some l => (liveSt s == 3 || liveSt s == 8) && l.changed.contains p
  | none => false

/-- A PCI Express port returns all credit but that of the TLPs it holds. -/
def returnCredit (p : Nat) (s : State) : State :=
  if ingressStopped s p then s else
  let x := s.port p
  s.setPort p { x with rxBack := x.rxTaken.minus (withheld s p) }

/-- A received TLP takes credit. -/
def takeCredit (p : Nat) (t : Tlp) (s : State) : State :=
  s.setPort p { s.port p with rxTaken := (s.port p).rxTaken.plus (RxCredits.of t) }

/-- HELD_TLP_RETRY: the TLPs that a span holds for a class, and what waits at stage 5 of its pier, are judged again; the ports of the
span return the credit of those that go. -/
def execHeldTlpRetry (sp : SpanId) (cls : Fin 4) (s : State) : Out := live s fun s =>
  let k := 4 * sp.val + cls.val
  let s := drain5 (sp.val / 4) (retryHold k [] (SMap.get [] s.ports.hold k) s)
  forRange 4 (fun q s => returnCredit (4 * sp.val + q) s) s

/-! ### Read-back (R135) -/

/-- The SY256 poisons a TLP itself: a Contained event with cause 0x10, reported at the function of its ingress port (R254). -/
def poisonTlp (c : Carried) (s : State) : Carried × State :=
  ({ c with tlp := { c.tlp with ep := true } }, aerPort c.inP aerInternal (pushRec (pierOf c.inP) 0x10 c.inP s))

/-- The blocks of a flow's head TLP, by channel and data block. -/
def headBlocks (s : State) (x : SpillFlow) (c : Carried) : List (Nat × Nat) :=
  (List.range (2 * c.cells)).map (fun j => spillBlock s x (x.read + j))

/-- Takes the head TLP of a flow out of the pool and on to stage 5: poisoned where a block of it read with an uncorrectable word,
which is retired (R131, R135). `bad` and `corr` name blocks of the TLP by their place in it. -/
def readBack (f : Nat) (x : SpillFlow) (c : Carried) (bad corr : List Nat) (s : State) : State :=
  let blocks := headBlocks s x c
  let s := countBlocks 0x402 x x.read (2 * c.cells) s
  let s := count (32 + pierOf c.inP) 0x105 (subClass (classOf s c.tlp.tc)) 1 (popSpill f s).1
  let at_ (l : List Nat) : List (Nat × Nat) := l.filterMap (fun j => blocks[j]?)
  let (c, s) := if (at_ bad).isEmpty then (c, s) else poisonTlp c s
  let s := forEach (at_ bad) (fun b s => uncWord b.1 b.2 s) s
  let s := forEach (at_ (corr.filter (fun j => !bad.contains j))) (fun b s => corrWord b.1 b.2 s) s
  proceed c (charge c.inP (classOf s c.tlp.tc) 0 c.cells s)

/-- SPILL_READ_BACK: the head TLP of a flow is read back when its account admits it with RB_HEADROOM slots to spare, in the order of
R136. One of whose blocks is being copied waits (R131). -/
def execSpillReadBack (i e : PortId) (t : Fin 8) (bad corr : List Nat) (s : State) : Out := live s fun s =>
  let f := flowId i.val e.val t.val
  match SMap.find? s.csn.flows f with
  | none => s
  | some x =>
    match x.tlps with
    | [] => settleSpill f s
    | c :: _ =>
      let copying := (headBlocks s x c).any (fun b => s.csn.copying.contains (b.1 * 2 ^ 25 + b.2))
      if s.mode.wiping || copying || !backReady s x || backYields s x then s else
      serve (backChans s x) 2 (fun s => readBack f x c bad corr (setTurn ((backChans s x).headD 0) false s)) s

end Sys2Proof.Machine
end

