-- ==== Sys2Proof/Machine/Deliver.lean ====
section
/-! DEFINITION. From a routed TLP to the TLPs that stage 3 judges: gate, multicast targets, fabric headers, messages for the
engines (R114, R115, R180, R207 to R210, R218, R230, R243, R284). -/

namespace Sys2Proof.Machine

/-- Where a TLP enters a virtual switch: port, fabric header if it came over Floing, tenant, and the switch port function. -/
structure Entry where
  inP : Nat
  inc : Option FabHdr
  tenant : Nat
  v : Nat
  fn : Nat
  deriving DecidableEq, Repr

/-- The TLP as it stands at its entry. -/
def Entry.carried (e : Entry) (t : Tlp) : Carried := ⟨t, e.inP, e.inP, e.tenant, e.v, e.inc, 0, [], 0⟩

/-- A TLP to judge. -/
def Entry.held (e : Entry) (t : Tlp) (vs outP : Nat) (fab : Option FabHdr) (proxy : Option Nat)
    (parts : List (Nat × Nat × Bool × Nat)) : Held :=
  ⟨⟨t, e.inP, outP, e.tenant, vs, fab, 0, [], 0⟩, e.inc, proxy, parts, .admission⟩

/-- A message that a virtual switch routes to its engines: TLP events of up to 64 bytes at its CONFIG duty, the last marked
(R284). -/
def tlpEvent (v inP : Nat) (t : Tlp) (s : State) : State :=
  match vsDef s v with
  | none => s
  | some d =>
    let n := max 1 ((t.data.length + 63) / 64)
    forRange n (fun i s =>
      offerKind (pierOf d.up) 0 v (.tlp inP i (i + 1 == n) { t with data := (t.data.drop (64 * i)).take 64 }) s) s

/-! ### Gate -/

/-- The request kinds that the gate checks (R230). -/
def gated (t : Tlp) : Bool :=
  match t.kind with
  | .memRd | .memWr | .defWr | .atomic _ => t.at_ != 1
  | _ => false

/-- A request to a local port: the gate of a downstream port cuts it (R230, R241). -/
def toPort (e : Entry) (t : Tlp) (vs p : Nat) (proxy : Option Nat) (s : State) : State × List Held :=
  if isUpstream s p || !gated t then (s, [e.held t vs p none proxy []]) else
  let c := { e.carried t with vs := vs }
  let (s, ps) := gateDecide p c s
  let s := if t.posted && e.inc.isSome && ps.any (fun x => !x.ok) then lostPosted e.inP s else s
  match gateCut t ps with
  | [] => (failReq c stCA s, [])
  | l => (s, l.map (fun t => e.held t vs p none proxy []))

/-- The ranges into which a slot cuts a request. -/
def Part.tuple (p : Part) : Nat × Nat × Bool × Nat := (p.off, p.len, p.ok, p.tag)

/-! ### Fabric headers (Table BRG-1) -/

/-- The fabric header of a request that this module sends: HOPS 7 and its own module number where it entered here, one hop fewer where
it came over Floing (R208). -/
def fabHdr (s : State) (e : Entry) (t : Tlp) (vs m q : Nat) : FabHdr :=
  { kind := if t.posted then 0 else 1, hops := match e.inc with | some h => h.hops - 1 | none => 7,
    cls := Fin.ofNat 4 (classOf s t.tc), dstMod := Fin.ofNat 64 m,
    srcMod := match e.inc with | some h => h.srcMod | none => Fin.ofNat 64 (myModule s),
    dstPort := Fin.ofNat 128 q,
    srcPort := match e.inc with | some h => h.srcPort | none => Fin.ofNat 128 e.inP,
    vs := Fin.ofNat 64 vs, ftag := 0, tenant := Fin.ofNat 512 e.tenant, mask := 0, ctl := [] }

/-- A request that hops no further: a non-posted one is completed with UR, a posted one is lost (R208). -/
def hopsOut (c : Carried) (s : State) : State := if c.tlp.posted then lostPosted c.inP s else failReq c stUR s

/-- It came over Floing with no hop left (R208; log entry 15 for one whose home is here). -/
def Entry.spent (e : Entry) : Bool := match e.inc with | some h => h.hops == 0 | none => false

/-- A request to a port of another module. -/
def toRemote (e : Entry) (t : Tlp) (vs m q : Nat) (proxy : Option Nat) (s : State) : State × List Held :=
  if e.spent then (hopsOut (e.carried t) s, []) else (s, [e.held t vs 255 (some (fabHdr s e t vs m q)) proxy []])

/-! ### Multicast (R114, R218, R243) -/

/-- A write at one local target of its group: joins the multicast copy where its gate lets it whole, otherwise the parts let
through go by themselves (R243). -/
def mcTarget (e : Entry) (vs : Nat) (t : Tlp) (p : Nat) (x : State × List Nat × List Held) : State × List Nat × List Held :=
  let (s, ps, hs) := x
  if isUpstream s p then (s, ps ++ [p], hs) else
  let fn := match fnOfPort s p with | some (_, fn) => fn | none => fnUp
  let t := { t with addr := mcOverlay s vs fn t.addr }
  let (s, parts) := gateDecide p { e.carried t with vs := vs } s
  if parts.all (fun x => x.ok) then (s, ps ++ [p], hs)
  else (s, ps, hs ++ (gateCut t parts).map (fun t => e.held t vs p none none []))

/-- The modules of a mask to which a pier's route table has a route. -/
def maskRouted (s : State) (n : Nat) (mask : BitVec 64) : BitVec 64 :=
  (List.range 64).foldl (fun (m : BitVec 64) d =>
    if mask.getLsbD d && (routeOf s n d).isSome then m ||| BitVec.ofNat 64 (2 ^ d) else m) 0

/-- A multicast write to local targets and a mask of modules: what has no hop left (R208) or no route (R205) is lost. -/
def mcSend (e : Entry) (vs g : Nat) (t : Tlp) (ports : List Nat) (mask : BitVec 64) (s : State) : State × List Held :=
  let s := if mask ≠ 0 && e.spent then hopsOut (e.carried t) s else s
  let mask := if e.spent then 0 else mask
  let there := maskRouted s (pierOf e.inP) mask
  let s := if mask = there then s else noRoute (e.carried t) s
  let mask := there
  let (s, ps, hs) := ports.foldl (fun x p => mcTarget e vs t p x) (s, [], [])
  if ps.isEmpty && mask = 0 then (s, hs) else
  let hdr := { fabHdr s e t vs 0 (g % 64) with kind := 3, mask := mask }
  let ps := sortPorts ps
  let h := e.held t vs (ps.headD e.inP) (if mask = 0 then none else some hdr) none []
  (s, hs ++ [{ h with c := { h.c with grp := g, mc := ps } }])

/-- The targets of a multicast group of a virtual switch: local ports, and the modules of remote ports, other than the ingress
function (R114). -/
def mcTargets (s : State) (v fn g : Nat) (t : Tlp) : List Nat × BitVec 64 :=
  match vsDef s v with
  | none => ([], 0)
  | some d =>
    let bs := d.bridges.filter (fun b => b.fn != fn && mcReceives s v b.fn g t)
    let ups := if fn != fnUp && mcReceives s v fnUp g t then [d.up.val] else []
    let ports := ups ++ bs.filterMap (fun b => match b.tgt with
      | .local_ p => some p.val
      | .remote x q => if x.val = myModule s then some q.val else none
      | .unbound => none)
    let mask := bs.foldl (fun (m : BitVec 64) b =>
      match b.tgt with | .remote x _ => if x.val = myModule s then m else m ||| BitVec.ofNat 64 (2 ^ x.val) | _ => m) 0
    (ports, mask)

/-! ### Every destination -/

/-- Turns a request into the TLPs that stage 3 judges, after the refusals, gate decisions and messages to engines that end
here. A configuration request for the engines is the caller's. -/
def plan (e : Entry) (t : Tlp) (s : State) : State × List Held :=
  let c := e.carried t
  if e.inc.isNone && tenantClosed s e.tenant then (tenantRefuse c s, []) else
  let r := route s e.v e.fn t
  match r.dest with
  | .ur => (urReq e.v e.fn c s, [])
  | .acs => (acsReq e.v e.fn c s, [])
  | .silent | .config => (s, [])
  | .mep | .engine => (tlpEvent e.v e.inP t s, [])
  | .port p => toPort e r.tlp r.vs p r.proxy s
  | .remote m q => if m = myModule s then toPort e r.tlp r.vs q r.proxy s else toRemote e r.tlp r.vs m q r.proxy s
  | .land =>
    let (s, ps) := gateDecide 128 (e.carried r.tlp) s
    (s, [e.held r.tlp r.vs landPort none none (ps.map Part.tuple)])
  | .bar0 => (s, [e.held r.tlp r.vs bar0Port none none []])
  | .bar4 => (s, [e.held r.tlp r.vs bar4Port none none []])
  | .mcast g =>
    let (ports, mask) := mcTargets s e.v e.fn g r.tlp
    if ports.isEmpty && mask = 0 then (s.satf F.PIR_DKSTAT_MCEMPTY (pierOf e.inP) 1, [])
    else mcSend e e.v g r.tlp ports mask s
  | .broadcast =>
    match vsDef s e.v with
    | none => (s, [])
    | some d => d.bridges.foldl (fun x b => match b.tgt with
        | .unbound => x
        | .local_ p => (x.1, x.2 ++ [e.held t e.v p none none []])
        | .remote m q =>
          let y := toRemote e t e.v m q none x.1
          (y.1, x.2 ++ y.2)) (s, [])

/-- Judges each of a list in turn, all or none: a TLP from a Floing receive buffer stays there whole while any part of it would be
held. -/
def judgeAll : List Held → State → Except HoldWhy State
  | [], s => .ok s
  | h :: rest, s => match judge h s with
    | .ok s => judgeAll rest s
    | .error w => .error w

end Sys2Proof.Machine
end

