-- ==== Sys2Proof/Machine/Remote.lean ====
section
/-! DEFINITION. What a bridge commands at the port below it, here or for the home module (R197 to R199, R219): slot power, hot reset,
Link Control; and the control requests by which a home module commands them. -/

namespace Sys2Proof.Machine

/-! ### Slots (R197 to R199) -/

/-- The bridge that binds a slot. -/
def slotFn (s : State) (k : Nat) : Option (Nat × Nat) :=
  if s.b F.GLB_SLOT_BOUND k then (vsOfDown s (s.f F.GLB_SLOT_PORT k)).map (fun e => (e.1, fnBridge e.2)) else none

/-- Power Controller Control of a slot's bridge: 0 on, 1 off. -/
def setPcc (k val : Nat) (s : State) : State :=
  match slotFn s k with | some (v, fn) => setCapF v fn .pcie 0x18 10 10 val s | none => s

/-- Slot power is commanded on (Table HOST-6). -/
def slotOn (k : Nat) (s : State) : State :=
  let p := s.f F.GLB_SLOT_PORT k
  let s := s.setPort p { s.port p with offCmd := false }
  setPcc k 0 (setSlotSt k { slotSt s k with on := true } s)

/-- Slot power is commanded off: PERST_N is asserted at once, and the link-down that follows is no Surprise Down (R199). -/
def slotOff (k : Nat) (s : State) : State :=
  let p := s.f F.GLB_SLOT_PORT k
  let s := s.setPort p { s.port p with offCmd := true }
  setPcc k 1 (setSlotSt k { slotSt s k with on := false, stable := false } (s.setf F.GLB_SLOT_PERST k 1))

/-- A power fault, or a removal with AUTO_OFF: PERST_N asserted, PWREN deasserted, Power Controller Control 1 (R198), and the clock
window closes (R53). -/
def slotFail (k : Nat) (s : State) : State :=
  let s := (s.setf F.GLB_SLOT_PERST k 1).setf F.GLB_SLOT_PWREN k 0
  setPcc k 1 (refreshClk k (setSlotSt k { slotSt s k with on := false, stable := false, window := false } s))

/-- The slot of a bridge. -/
def fnSlot (s : State) (v fn : Nat) : Option Nat :=
  (List.range 32).find? (fun k => slotFn s k == some (v, fn))

/-! ### What a bridge's registers command -/

/-- A hot reset of the link below a port ends: its LTSSM goes to Detect. -/
def hotEnd (p : Nat) (s : State) : State :=
  { s with host.linkHot := s.host.linkHot.filter (fun q => q != p) }

/-- Link Control of the bridge of a port (log entry 9): Link Disable takes the link to Disabled and back, Retrain Link directs it into
Recovery. -/
def linkCtlAt (p : Nat) (was now retrain : Bool) (s : State) : State :=
  if s.b F.PIR_CLOSE_CLOSED p then s
  else if !was && now then
    let s := s.setPort p { s.port p with offCmd := true }
    let s := if linkUp s p then linkDownEvent p s else s
    s.setf F.SPN_PSTAT_LTSSM p 0x24
  else if was && !now then enterTraining p s
  else if retrain then toRecovery p s
  else s

/-- Power Controller Control starts power-up or power-off where it differs from the state commanded. -/
def slotCtlAt (k : Nat) (off : Bool) (s : State) : State :=
  if !off && !(slotSt s k).on then slotOn k s
  else if off && (slotSt s k).on then slotOff k s
  else s

/-- The first byte of what a control request says, as bits. -/
def sayBit (say : List Byte) (k : Nat) : Bool := (say.headD 0).getLsbD k

/-- A packet is a control request of its port's home module (R219): its code, and what it says. -/
def ctlRequest (s : State) (x : FabHdr) : Option (Nat × List Byte) :=
  match SMap.find? s.host.home x.dstPort.val, x.ctl with
  | some b, c :: _ :: _ :: say =>
    if b.module ≠ x.srcMod ∨ b.vs ≠ x.vs then none
    else ((List.range 4).find? (fun k => c = Config.ctlCode k)).map (fun k => (k, say))
  | _, _ => none

/-- What a control request does at its port (R219): a hot reset, its end, link control, or slot power. -/
def ctlAct (p v k : Nat) (say : List Byte) (s : State) : State :=
  match k with
  | 0 => pfDiscardIf p (fun b => b.vs == v) (hotLink p s)
  | 1 => hotEnd p s
  | 2 => linkCtlAt p (sayBit say 0) (sayBit say 1) (sayBit say 2) s
  | _ => match slotOf s p with
    | some i => slotCtlAt i (sayBit say 0) s
    | none => s

/-- The hardware's part in a control packet for this module (R219, R220; log entry 15): an answer; the home's time; or a command to a port,
which is answered. -/
def ctlServe (n : Nat) (x : FabHdr) (s : State) : State :=
  match x.ctl with
  | c :: i :: j :: say =>
    let id := leNum [i, j]
    if x.kind = 5 then (if c = Config.ctlCode 6 then ctlAnswered id x.srcMod s else s) else
    match ctlRequest s x with
    | some (k, say) =>
      let s := ctlAct x.dstPort.val x.vs.val k say s
      (sendCtl n (ctlPkt s 6 id x.srcMod x.srcPort x.dstPort x.vs []) s).1
    | none =>
      if c = Config.ctlCode 5 then
        { s with fab.time := SMap.ins s.fab.time (64 * x.srcMod.val + x.vs.val) (leNum say % 2 ^ 64) }
      else s
  | _ => s

end Sys2Proof.Machine
end

