-- ==== Sys2Proof/Machine/FabRows.lean ====
section
/-! DEFINITION. Fabric bridging at work (R204 to R223): fabric packets, completions by tag, read-ahead, tag timeouts, route holds,
delay measurement and time distribution. -/

namespace Sys2Proof.Machine

/-! ### Read-ahead (R221 to R223) -/

/-- The virtual switch has a management endpoint, in this module or at its home. -/
def vsHasMep (s : State) (v p : Nat) : Bool :=
  fnPresent s v fnMep || (match SMap.find? s.host.home p with | some b => b.vs.val == v && b.mep | none => false)

/-- The proxy ID of a virtual switch (R172, R221; log entry 15 for one homed on another module). -/
def proxyId (s : State) (v : Nat) : Nat := if (vsDef s v).isSome then ridOf s v fnMep else Config.remoteProxy v % 2 ^ 16

/-- The end of the PREFETCH window of a target port that holds an address (R221). -/
def pfWindow (s : State) (v p a : Nat) : Option Nat :=
  let bridge := match vsDef s v with
    | none => none
    | some d => d.bridges.findSome? (fun b =>
        if b.prefetch && b.isLocal p then (windowHit s v b.fn a).map (·.2) else none)
  let peer := s.host.vsw.findSome? (fun (e : Nat × VsDef) => e.2.peers.findSome? (fun w =>
    let here := w.tvs.val == v && (match w.tport with | some (.local_ q) => q.val == p | _ => false)
    if w.prefetch && here && w.base + w.offset ≤ a && a ≤ w.limit + w.offset then some (w.limit + w.offset) else none))
  let remote := match SMap.find? s.host.home p with
    | some b => if b.vs.val = v then (b.prefetch.find? (fun w => w.1 ≤ a && a ≤ w.2)).map (·.2) else none
    | none => none
  match bridge, peer with
  | some e, _ => some e
  | none, some e => some e
  | none, none => remote

/-- The end of a read-ahead range that starts at `a`: 512 bytes on, the first 4 KiB boundary at or above `a`, or the end of the
window (R221). -/
def pfEnd (a top : Nat) : Nat := min (a + 512) (min ((a + 4095) / 4096 * 4096) (top + 1))

/-- The read-ahead buffers of a port. -/
def pfBufs (s : State) (p : Nat) : List PfBuf := SMap.get [] s.fab.pf p
/-- The state with them replaced. -/
def setPf (p : Nat) (l : List PfBuf) (s : State) : State := { s with fab.pf := SMap.put [] s.fab.pf p l }

/-- A tag of the read-ahead pool of a port that no request uses: 32 for each target port. -/
def pfTag (s : State) (p : Nat) : Option Nat :=
  (List.range 32).find? (fun k => !((s.port p).trk.any (fun (e : Trk) => e.tag == aheadBase + k)))

/-- Starts a read-ahead from `a` for a requester, where the range is not empty and the pool has a tag; the 33rd buffer replaces the
oldest (R221, R223). -/
def pfStart (p v rid : Nat) (tc : Fin 8) (a top : Nat) (s : State) : State :=
  let e := pfEnd a top
  if e ≤ a || !trkRoom s p then s else
  match pfTag s p with
  | none => s
  | some k =>
    let s := if (pfBufs s p).length ≥ 32 then (match pfBufs s p with | b :: _ => pfDiscard p b s | [] => s) else s
    let b : PfBuf := ⟨v, rid, a, e - a, k, top, [], false, []⟩
    let s := setPf p (pfBufs s p ++ [b]) s
    let t : Tlp := { Tlp.blank with
      kind := .memRd, tc := tc, addr := a, len := e - a, hdr := 16, rid := proxyId s v, tag := aheadBase + k }
    let c : Carried := ⟨t, p, p, 0, v, none, 0, [], 0⟩
    inject c (track p (trkOf c) s)

/-- Read-ahead is on for a read that came over Floing (R221). -/
def pfOn (s : State) (p : Nat) (c : Carried) : Bool :=
  s.b F.PIR_FBCTL_PF_EN (pierOf p) && c.tlp.kind == .memRd && c.fab.isSome && vsHasMep s c.vs p

/-- Max_Payload_Size at a target port: of its bridge (Device Control), or where that lies in another module a free value. -/
def portMps (s : State) (p : Nat) : Nat :=
  match fnOfPort s p with
  | some (v, fn) => 128 * 2 ^ min 5 (capF s v fn .pcie 0x8 7 5)
  | none => 128 * 2 ^ (Config.remoteMps p).val

/-- Answers a read from a buffer that holds its data: the bytes used leave the buffer, HITS counts, and the next read-ahead starts
from the end of the read (R222). -/
def pfAnswer (p : Nat) (b : PfBuf) (c : Carried) (s : State) : State :=
  let a := c.tlp.addr
  let n := c.tlp.len
  let s := sendReadData (completerId s c.inP) (portMps s p) c false (n + 1) ((b.data.drop (a - b.base)).take n) a n s
  let left := b.base + b.len - (a + n)
  let s := setPf p ((pfBufs s p).erase b ++
    (if left = 0 then [] else [{ b with base := a + n, len := left, data := b.data.drop (a + n - b.base) }])) s
  pfStart p c.vs c.tlp.rid c.tlp.tc (a + n) b.top (s.satf F.PIR_PFCNT_HITS p 1)

/-- The buffers of a requester that a read meets. -/
def pfMeets (c : Carried) (b : PfBuf) : Bool :=
  b.vs == c.vs && b.rid == c.tlp.rid && c.tlp.addr < b.base + b.len && b.base < c.tlp.addr + c.tlp.len
/-- A read lies wholly inside a buffer. -/
def pfInside (c : Carried) (b : PfBuf) : Bool :=
  b.vs == c.vs && b.rid == c.tlp.rid && b.base ≤ c.tlp.addr && c.tlp.addr + c.tlp.len ≤ b.base + b.len

/-- A remote read at its target port: answered from a buffer, waiting for one in flight, or for the target after it has discarded
the buffers that it overlaps in part (R222). The flag says that it is dealt with. -/
def pfRead (p : Nat) (c : Carried) (s : State) : State × Bool :=
  match (pfBufs s p).find? (pfInside c) with
  | some b =>
    if b.full then (pfAnswer p b c s, true)
    else (setPf p ((pfBufs s p).map (fun x => if x = b then { x with waiting := x.waiting ++ [c] } else x)) s, true)
  | none => (pfDiscardIf p (pfMeets c) s, false)

/-- A read that waited is answered, or goes to the target if the buffer no longer holds its bytes. -/
def pfWake (p : Nat) (c : Carried) (s : State) : State :=
  match (pfBufs s p).find? (fun b => b.full && pfInside c b) with
  | some b => pfAnswer p b c s
  | none => inject { c with outP := p } (track p (trkOf c) s)

/-- A completion of a read-ahead: poison or a status other than Successful Completion discards the buffer, and no error is
reported (R223); with the last byte the reads that wait are answered. -/
def pfCpl (p : Nat) (t : Tlp) (s : State) : State :=
  match (pfBufs s p).find? (fun b => b.tag + aheadBase == t.tag && !b.full) with
  | none => s
  | some b =>
    if t.ep || t.status != 0 then pfDiscard p b s
    else
      let x := { b with data := b.data ++ t.data, full := lastCpl t, waiting := if lastCpl t then [] else b.waiting }
      let s := setPf p ((pfBufs s p).map (fun y => if y = b then x else y)) s
      if x.full then forEach b.waiting (fun c s => pfWake p c s) s else s

/-- PREFETCH_BUFFER_DISCARD: PF_HOLD has run out for the k-th buffer of a port. -/
def execPrefetchBufferDiscard (p : PortId) (k : Fin 32) (s : State) : Out := live s fun s =>
  match (pfBufs s p)[k.val]? with
  | some b => pfDiscard p b s
  | none => s

/-! ### Completions -/

/-- A completion that the module forwards towards its requester (R162, R213): `reserved` slots of its ingress account already hold
it; it is charged at the policer and takes what is missing. -/
def forwardCpl (c : Carried) (reserved : Nat) (s : State) : State :=
  let cls := classOf s c.tlp.tc
  let s := chargeIngress ⟨c, none, none, [], .admission⟩ s
  let dead := if isFloing s c.outP then !flUp s (c.outP / 4) else !linkUp s c.outP
  if dead then release c.inP cls 0 reserved s
  else proceed c (charge c.inP cls 0 (c.cells - reserved) s)

/-- A completion that arrives over a Floing port goes back by the record of its tag (R213 to R215); one with no hop left whose module this
is not is discarded (R208). -/
def fabCpl (p : Nat) (x : FabPkt) (s : State) : State :=
  if x.h.hops = 0 && x.h.dstMod.val != myModule s then s else
  let tags := SMap.get [] s.fab.tags p
  match tags.find? (fun (e : FTag) => e.tag == x.h.ftag.val) with
  | none => s.satf F.PIR_FBPORT_LATE p 1
  | some e =>
    let t := x.tlp
    let cls := classOf s e.tc
    let k := cellsOf t false
    let used := min k e.slots
    let done := lastCpl t
    let e' := { e with left := e.left - t.data.length, addr := e.addr + t.data.length, slots := e.slots - used }
    let l := if done then tags.erase e else tags.map (fun y => if y = e then e' else y)
    let s := { s with fab.tags := SMap.put [] s.fab.tags p l }.setf F.PIR_FBPORT_TAGS p l.length
    let s := if done then release p cls 0 (e.slots - used) s else s
    if e.late then release p cls 0 used (s.satf F.PIR_FBPORT_LATE e.inP 1)
    else
      let (t, s) := if e.inTag.isNone then unproxy { t with rid := e.rid, tag := e.rtag } s else ({ t with rid := e.rid, tag := e.rtag }, s)
      let fab := e.inTag.map (fun (h : FabHdr) => { FabHdr.back h with hops := x.h.hops - 1 })
      forwardCpl ⟨t, p, e.inP, e.tenant, e.vs, fab, 0, [], 0⟩ used s

/-- FABRIC_TAG_TIMEOUT: a tag that has waited longer than CPL_TIME is completed back with the link-loss status, and freed (R215). -/
def execFabricTagTimeout (p : PortId) (tag : Fin 16384) (s : State) : Out := live s fun s =>
  let tags := SMap.get [] s.fab.tags p
  match tags.find? (fun (e : FTag) => e.tag == tag.val) with
  | none => s
  | some e =>
    let l := tags.erase e
    let s := { s with fab.tags := SMap.put [] s.fab.tags p l }.setf F.PIR_FBPORT_TAGS p l.length
    let s := release p (classOf s e.tc) 0 e.slots s
    sendCpl { Tlp.blank with rid := e.rid, tag := e.rtag, tc := e.tc } e.inP e.vs e.tenant e.inTag (lossStatus s p) [] e.left e.addr
      false s

/-! ### Packets (R207 to R211, R218) -/

/-- The FABRIC duty that takes a control packet: of the pier of arrival, otherwise of the first pier that has one. -/
def fabricDuty (s : State) (n : Nat) : Option (Nat × Nat) :=
  ((n :: List.range 8).filterMap (fun k => (dutyOfKind s k 5).map (fun d => (k, d)))).head?

/-- A control packet: forwarded, or the hardware's part in it and a CONTROL event of the FABRIC duty; it stays in the receive buffer while
the event queue is full (R285). -/
def fabCtl (p : Nat) (x : FabPkt) (s : State) : Except HoldWhy State :=
  if x.h.dstMod.val ≠ myModule s then
    .ok (if x.h.hops = 0 then s else (sendCtl (pierOf p) { x.h with hops := x.h.hops - 1 } s).1)
  else match fabricDuty s (pierOf p) with
    | none => .ok (ctlServe (pierOf p) x.h s)
    | some (n, d) =>
      let e : Ev := .control x.h.srcMod x.h.kind x.h.ctl
      if !s.b F.PIR_DUTY_MOVING (dutyKey n d) && !engRoom s (dutyEng s n d) e then .error .admission
      else .ok (offer n d e (ctlServe (pierOf p) x.h s))

/-- A multicast packet: delivered to the members of the group here, and sent on to the rest of its mask, none back through the port of
arrival (R218). -/
def fabMcast (p : Nat) (x : FabPkt) (s : State) : Except HoldWhy State :=
  let me := myModule s
  let n := pierOf p
  let v := x.h.vs.val
  let g := x.h.dstPort.val % 64
  let tbl := SMap.get 0 s.fab.mcast ((64 * n + v) * 64 + g)
  let ports := if x.h.mask.getLsbD me then (List.range 128).filter (fun q => tbl.testBit q && portExists s q) else []
  let rest := x.h.mask &&& ~~~ BitVec.ofNat 64 (2 ^ me)
  let e : Entry := ⟨p, some x.h, x.h.tenant, v, fnUp⟩
  let (s, hs) := mcSend e v g x.tlp ports rest s
  judgeAll hs s

/-- A request for a port of this module, or for a virtual switch homed here (R207, R221, R222). -/
def fabHere (p : Nat) (x : FabPkt) (s : State) : Except HoldWhy State :=
  let v := x.h.vs.val
  match homeFn s x.h with
  | some fn =>
    let (s, hs) := plan ⟨p, some x.h, x.h.tenant, v, fn⟩ x.tlp s
    judgeAll hs s
  | none =>
    let q := x.h.dstPort.val
    let e : Entry := ⟨p, some x.h, x.h.tenant, v, fnUp⟩
    let c := e.carried x.tlp
    if !portExists s q || isFloing s q then .ok (noRoute c s) else
    let (s, hs) := toPort e x.tlp v q none s
    let whole := hs.any (fun h => h.c.tlp == x.tlp)
    if whole && pfOn s q c then
      match pfRead q c s with
      | (s, true) => .ok s
      | (s, false) =>
        match judgeAll hs s with
        | .error w => .error w
        | .ok s => .ok (match pfWindow s v q x.tlp.addr with
          | some top => pfStart q v x.tlp.rid x.tlp.tc (x.tlp.addr + x.tlp.len) top s
          | none => s)
    else judgeAll hs s

/-- A packet that leaves the receive buffer, or an error where it must stay. -/
def fabPacket (p : Nat) (x : FabPkt) (s : State) : Except HoldWhy State :=
  let k := x.h.kind
  if k ≥ 6 then .ok (lostPosted p s)
  else if k = 2 then .ok (fabCpl p x s)
  else if k = 4 || k = 5 then fabCtl p x s
  else if k = 3 then fabMcast p x s
  else if x.h.dstMod.val = myModule s then fabHere p x s
  else if x.h.hops = 0 then .ok (hopsOut ⟨x.tlp, p, p, x.h.tenant, x.h.vs, some x.h, 0, [], 0⟩ s)
  else
    let h : FabHdr := { x.h with hops := x.h.hops - 1 }
    judge ⟨⟨x.tlp, p, 255, x.h.tenant, x.h.vs, some h, 0, [], 0⟩, some x.h, none, [], .admission⟩ s

/-- A packet that stays in the receive buffer lets a later one of its virtual channel by: a posted request passes a non-posted one
that R123 cannot admit (R211) or that lacks a tag or a tracker entry (R159). -/
def fabPasses (why : HoldWhy) (y x : FabPkt) : Bool :=
  y.h.kind == 1 && (x.h.kind == 0 || x.h.kind == 3) && (why.resource || why == .admission)

/-- The first packet of the receive buffer that can go: in arrival order within a virtual channel, but for what `fabPasses`. -/
def fabFirst (p : Nat) (s : State) :
    List (HoldWhy × Nat × FabPkt) → List (Nat × FabPkt) → Option ((Nat × FabPkt) × State)
  | _, [] => none
  | stuck, x :: rest =>
    match stuck.find? (fun y => y.2.1 == x.1 && !fabPasses y.1 y.2.2 x.2) with
    | some y => fabFirst p s (stuck ++ [(y.1, x)]) rest
    | none => match fabPacket p x.2 s with
      | .ok s' => some (x, s')
      | .error w => fabFirst p s (stuck ++ [(w, x)]) rest

/-- Poison of a packet on the slice: what the check symbols show (R250, R251, R254). -/
def sliceErr (p : Nat) (e : WordErr) (s : State) : State :=
  let n := pierOf p
  match e with
  | .none => s
  | .corrected => s.satf F.PIR_ERRCNT_SRAM_CORR n 1
  | .payload | .header =>
    let s := s.satf F.PIR_ERRCNT_SRAM_UNC n 1
    let (s, k) := uncRise n 1 s
    let thr := s.f F.PIR_ERRTHR_UNC_THR n
    if thr ≠ 0 && k ≥ thr then liveFault n 0x15 (pierClose n s) else s

/-- FABRIC_PACKET_RECEIVED: a packet leaves the receive buffer of a Floing port; its units are freed (R77, R211). -/
def execFabricPacketReceived (g : SpanId) (s : State) : Out := live s fun s =>
  let g := g.val
  if !flHas s g then s else
  match fabFirst (flPort g) s [] (fl s g).rxBuf with
  | none => s
  | some (x, s) => flFree g x.1 (pktUnits x.2) (setFl g { fl s g with rxBuf := (fl s g).rxBuf.erase x } s)

/-! ### Routes and time (R206, R220) -/

/-- ROUTE_HOLD_END: the packets held for a module may go on by the new entry; held control packets go first. -/
def execRouteHoldEnd (n : PierId) (d : Fin 64) (s : State) : Out := live s fun s =>
  let mine (e : Nat × FabHdr) : Bool := e.1 == n.val && e.2.dstMod == d
  let held := s.fab.ctl.filter mine
  forEach held (fun (e : Nat × FabHdr) s => (sendCtl e.1 e.2 s).1)
    { s with fab.hold := s.fab.hold.erase (64 * n.val + d.val), fab.ctl := s.fab.ctl.filter (fun e => !mine e) }

/-- LINK_DELAY_MEASUREMENT: the one-way delay of a running Floing link, in ns. -/
def execLinkDelayMeasurement (g : SpanId) (ns : Nat) (s : State) : Out := live s fun s =>
  if flHas s g.val && flUp s g.val then setFl g.val { fl s g.val with delay := ns } s else s

/-- The modules that hold remote ports of a virtual switch. -/
def remoteMods (d : VsDef) : List Nat :=
  (d.bridges.filterMap (fun b => match b.tgt with | .remote m _ => some m.val | _ => none)).eraseDups

/-- TIME_DISTRIBUTION: the home module of each virtual switch sends its device time in a control request to each module that holds a
remote port of it (log entry 15 for the bytes); in the module the packet carries it less the device time (R220). -/
def execTimeDistribution (s : State) : Out := live s fun s =>
  forEach s.host.vsw (fun (e : Nat × VsDef) s =>
    forEach (remoteMods e.2) (fun m s =>
      (sendCtl (pierOf e.2.up) (ctlPkt s 5 0 (Fin.ofNat 64 m) 0 0 (Fin.ofNat 64 e.1) (leBytes 0 8)) s).1) s) s

end Sys2Proof.Machine
end

