-- ==== Sys2Proof/Machine/EgressRows.lean ====
section
/-! DEFINITION. The egress of a PCI Express port (R153 to R156, R253): credits that come back, and a TLP that starts on the
link. -/

namespace Sys2Proof.Machine

/-- The downstream bridge of a port blocks poisoned TLPs: Poisoned TLP Egress Blocking Enable of its DPC capability (R253; log
entry 9). -/
def blocksPoison (s : State) (p : Nat) : Option (Nat × Nat) :=
  match vsOfDown s p with
  | some (v, j) => if capBit s v (fnBridge j) .dpc 0x4 21 then some (v, fnBridge j) else none
  | none => none

/-- Poisoned TLP Egress Blocked (log entry 9). -/
abbrev aerEgressBlocked : Nat := 26

/-- A poisoned TLP that its bridge blocks (R253): discarded and reported; where DPC is enabled for the error the port closes, which
completes what is tracked, otherwise its own request is completed. -/
def blockPoison (p v fn : Nat) (c : Carried) (s : State) : State :=
  let s := aerUnc v fn aerEgressBlocked s
  let trig := capF s v fn .dpc 0x4 17 16 != 0 && !capBit s v fn .aer 0x8 aerEgressBlocked
  if trig then spanClose p 1 s
  else if c.tlp.nonPosted then
    match trkFind s p c.tlp with
    | some e =>
      sendCpl { Tlp.blank with rid := e.rid, tag := e.tag, tc := e.tc } e.inP e.vs e.tenant e.fab (lossStatus s p) [] e.left e.addr
        false (untrack p e s)
    | none => s
  else s

/-- The TLP as it leaves on the link: a multicast copy takes the overlay address of a downstream port (R114). -/
def onLink (s : State) (c : Carried) : Tlp :=
  if c.mc.isEmpty then c.tlp else
  match fnOfPort s c.outP with
  | some (v, fn) => { c.tlp with addr := mcOverlay s v fn c.tlp.addr }
  | none => c.tlp

/-- A chosen TLP starts on the link: its queue, shaper, credit, slots and counters move, and what waits at stage 5 of the pier is
tried again. -/
def startTlp (p t i : Nat) (c : Carried) (s : State) : State :=
  let q := egressQ s p t
  let s := setEgressQ p t (q.take i ++ q.drop (i + 1)) s
  match (if c.tlp.ep then blocksPoison s p else none) with
  | some (v, fn) => blockPoison p v fn c (drain5 (pierOf p) (releaseEgress c s))
  | none =>
    let n := c.tlp.size
    let s := chargeEgress p t n s
    let pt := s.port p
    let express := if classOf s t = 0 then n else 0
    let s := s.setPort p { pt with
      cred := pt.cred.spend c.tlp, lastOut := some (onLink s c), txBytes := express, txAt := s.env.now }
    let s := count (spanOf p) 0x004 (subPort p) n (count (spanOf p) 0x002 (subPort p) 1 s)
    drain5 (pierOf p) (releaseEgress c s)

/-- A PCI Express link carries TLPs: in L0, in L0p, and on its way into L0p (R59). -/
def carries (s : State) (p : Nat) : Bool := ltssm s p == 0x0C || ltssm s p == 0x18

/-- EGRESS_TLP_BOUNDARY: a PCI Express port whose link is up chooses its next TLP (R154). -/
def execEgressTlpBoundary (p : PortId) (s : State) : Out := live s fun s =>
  let p := p.val
  if isFloing s p || !linkUp s p || !carries s p then s else
  let s := countNoCredit p (fun e => !(s.port p).cred.covers e.c.tlp) s
  match choose s p (candidate s p) with
  | (s, none) => s
  | (s, some (t, i, e)) => startTlp p t i e.c s

/-- Credits returned by the partner. -/
def Credits.add (c : Credits) (r : LinkCredits) : Credits :=
  { ph := credAdd c.ph (r.ph.getD 0), pd := credAdd c.pd (r.pd.getD 0), nh := credAdd c.nh (r.nh.getD 0),
    nd := credAdd c.nd (r.nd.getD 0), ch := credAdd c.ch (r.ch.getD 0), cd := credAdd c.cd (r.cd.getD 0) }

/-- FLOW_CONTROL_UPDATE: the partner of a PCI Express port returns credit (R153). -/
def execFlowControlUpdate (p : PortId) (r : LinkCredits) (s : State) : Out := live s fun s =>
  let x := s.port p.val
  if isFloing s p.val || !linkUp s p.val then s else s.setPort p.val { x with cred := x.cred.add r }

end Sys2Proof.Machine
end

