-- ==== Sys2Proof/Machine/HostCfg.lean ====
section
/-! DEFINITION. Configuration writes and their hardware effects (R174 to R177, R184, R189, R191 to R199, R219, R266). -/

namespace Sys2Proof.Machine

/-! ### Resets by Bridge Control and Device Control (R191, R192) -/

/-- Secondary Bus Reset of a function of a virtual switch is set: the internal bus, the link below a bridge, or a remote bridge. One of a
bridge is absorbed while a wider reset runs (R192). -/
def sbrSet (v fn : Nat) (s : State) : State :=
  if fn = fnUp then vsReset v 4 s else
  if (SMap.find? s.host.inReset v).isSome then s else
  match vsDef s v with
  | none => s
  | some d =>
    match d.bridges.find? (fun b => b.fn == fn) with
    | none => s
    | some b =>
      let s := keeperEntry (resetEntry v 0x11 b.dev) s
      match b.tgt with
      | .unbound => s
      | .local_ p => hotLink p s
      | .remote m q => ctlToBridge 0 [] v m q s

/-- Secondary Bus Reset of a function is cleared. -/
def sbrClear (v fn : Nat) (s : State) : State :=
  if fn = fnUp then (if SMap.find? s.host.inReset v = some 4 then vsResetEnd v s else s) else
  if (SMap.find? s.host.inReset v).isSome then s else
  match vsDef s v with
  | none => s
  | some d =>
    match d.bridges.find? (fun b => b.fn == fn) with
    | none => s
    | some b =>
      let s := keeperEntry (resetEntry v 0x12 b.dev) s
      match b.tgt with
      | .unbound => s
      | .local_ p => hotEnd p s
      | .remote m q => ctlToBridge 1 [] v m q s

/-- A Function Level Reset of the management endpoint or the landing function: absorbed in a wider reset (R192); otherwise the
function returns to its ROMT values with sticky bits kept, and answers with Configuration Request Retry Status. -/
def flr (v fn : Nat) (s : State) : State :=
  if !fnPresent s v fn || (SMap.find? s.host.inReset v).isSome || s.host.flr.contains (v * 64 + fn) then s else
  let s := { s with host.flr := s.host.flr ++ [v * 64 + fn], host.crs := (s.host.crs ++ [v * 64 + fn]).eraseDups }
  let s := (if fn = fnMep then dmaFail v 5 s else s).setf F.GLB_VSSTAT_NOTREADY v 1
  let s := resetFn v fn s
  let s := if fn = fnMep then dmaNext v (s.host.dmaq.length + 1) (clearMsix v s) else s
  refreshVs v (keeperEntry (resetEntry v 0x10 (fn - 1)) s)

/-! ### Effects of a configuration write -/

/-- A power-management write of an endpoint (R194 to R196): pending vectors and DMA
requests go in D0. -/
def pmWritten (v : Nat) (s : State) : State :=
  dmaPump v (msixFlush v (refreshVs v s))

/-- A link-control write of a bridge: at its port, or by a control request at its remote port (R219). -/
def linkCtl (v fn : Nat) (old new : Word) (retrain : Bool) (s : State) : State :=
  match vsDef s v with
  | none => s
  | some d =>
    match d.bridges.find? (fun b => b.fn == fn) with
    | none => s
    | some b =>
      match b.tgt with
      | .unbound => s
      | .remote m q =>
        let bit (b : Bool) (w : Nat) : Nat := if b then w else 0
        ctlToBridge 2 (leBytes (bit (old.getLsbD 4) 1 + bit (new.getLsbD 4) 2 + bit retrain 4) 1) v m q s
      | .local_ p => linkCtlAt p (old.getLsbD 4) (new.getLsbD 4) retrain s

/-- A slot-control write of a bridge: at its slot, or by a control request at its remote port (R219). -/
def slotCtl (v fn : Nat) (new : Word) (s : State) : State :=
  match fnSlot s v fn with
  | some k => slotCtlAt k (new.getLsbD 10) s
  | none =>
    match vsDef s v with
    | none => s
    | some d => match d.bridges.find? (fun b => b.fn == fn) with
      | some ⟨_, .remote m q, _⟩ => ctlToBridge 3 (leBytes (if new.getLsbD 10 then 1 else 0) 1) v m q s
      | _ => s

/-- The effects of a register's new value: `old` and `new` its values, `w` the bits that the write enables, as written. -/
def cfgEffect (v fn off : Nat) (old new w : Word) (s : State) : State :=
  let rose (k : Nat) : Bool := !old.getLsbD k && new.getLsbD k
  let fell (k : Nat) : Bool := old.getLsbD k && !new.getLsbD k
  let at_ (c : CfgCap) (rel : Nat) : Bool := off == capOff s v fn c + rel
  let bridge := 1 ≤ fn && fn ≤ 30
  if off = 0x04 && fn = fnMep then
    if fell 2 then dmaAbort v 4 s else if rose 2 then dmaPump v (msixFlush v s) else s
  else if at_ .pm 4 then (if fn = fnMep then pmWritten v s else s)
  else if at_ .msi 0 && fn = fnMep then msixFlush v s
  else if off = 0x3C && fn ≤ 30 then (if rose 22 then sbrSet v fn s else if fell 22 then sbrClear v fn s else s)
  else if at_ .pcie 8 && (fn = fnMep || fn = fnLand) then (if w.getLsbD 15 then flr v fn s else s)
  else if at_ .pcie 0x10 && bridge then linkCtl v fn old new (w.getLsbD 5) s
  else if at_ .pcie 0x18 && bridge then slotCtl v fn new s
  else if at_ .dpc 4 && bridge then
    match vsDef s v with
    | some d => (match d.bridges.find? (fun b => b.fn == fn) with
      | some ⟨_, .local_ p, _⟩ => if w.getLsbD 22 && capF s v fn .dpc 0x4 17 16 != 0 then spanClose p 1 s else s
      | _ => s)
    | none => s
  else if at_ .dpc 8 && fell 0 then
    match vsDef s v with
    | some d => (match d.bridges.find? (fun b => b.fn == fn) with
      | some ⟨_, .local_ p, _⟩ => releasePort p s
      | _ => s)
    | none => s
  else if at_ .l1ss 8 then
    match fnSlot s v fn with | some k => refreshClk k s | none => s
  else s

/-- Bits that act when written and read as 0: Initiate Function Level Reset, Retrain Link, DPC Software Trigger. -/
def cfgActs (s : State) (v fn off : Nat) : Nat :=
  if off = capOff s v fn .pcie + 8 && (fn = fnMep || fn = fnLand) then 0x8000
  else if off = capOff s v fn .pcie + 0x10 then 0x20
  else if off = capOff s v fn .dpc + 4 then 0x400000 else 0

/-- The bits that byte enables select. -/
def beMask (be : Nat) : Word :=
  BitVec.ofNat 32 (((List.range 4).map (fun k => if be.testBit k then 0xFF * 256 ^ k else 0)).sum)

/-- A register after a write under its ROMT masks (R174). A D-state that the function does not support is not taken. -/
def cfgNew (s : State) (e : RomEnt) (v fn off : Nat) (old w m : Word) : Word :=
  let rw := e.wmask &&& m &&& ~~~ BitVec.ofNat 32 (cfgActs s v fn off)
  let n := ((old &&& ~~~ rw) ||| (w &&& rw)) &&& ~~~ (w &&& e.w1c &&& m)
  if off = capOff s v fn .pm + 4 && (n.toNat % 4 = 1 || n.toNat % 4 = 2) then (n &&& ~~~ 3) ||| (old &&& 3) else n

/-- A host's clearing of DPC Trigger Status that R266 refuses. -/
def dpcRefused (s : State) (v fn off : Nat) (w m : Word) : Bool :=
  off = capOff s v fn .dpc + 8 && (w &&& m).getLsbD 0 && capBit s v fn .dpc 0x8 0 &&
    (match vsDef s v with
     | some d => (match d.bridges.find? (fun b => b.fn == fn) with
       | some ⟨_, .local_ p, _⟩ => s.b F.PIR_CLOSE_CLOSED p && releaseRefused s p
       | _ => false)
     | none => false)

/-- The function that a configuration request names (Table HOST-1): none for a function number other than 0. -/
def cfgFn (t : Tlp) : Option Nat :=
  if t.bdf % 8 ≠ 0 then none else if t.route = 0 then (if t.bdf / 8 % 32 = 0 then some fnUp else none) else some (1 + t.bdf / 8 % 32)

/-- The register word that a configuration request names. -/
def cfgOff (t : Tlp) : Nat := t.addr % 4096 / 4 * 4

/-- The value and the byte mask of a configuration write. -/
def cfgWord (t : Tlp) : Word × Word := (BitVec.ofNat 32 (leNum (t.data.take 4)), beMask (t.code % 16))

/-- The function at which a configuration write is applied (R176): none where it is absent, answers with Configuration Request Retry
Status, its masks leave nothing to change, or a release is refused (R266). -/
def cfgTakes (s : State) (r : CfgReq) : Option Nat :=
  let (w, m) := cfgWord r.tlp
  (cfgFn r.tlp).bind (fun fn =>
    let e := romEnt s r.vs fn (cfgOff r.tlp)
    if !fnPresent s r.vs fn || s.host.crs.contains (r.vs * 64 + fn) || (e.wmask ||| e.w1c) &&& m = 0 ||
        dpcRefused s r.vs fn (cfgOff r.tlp) w m then none
    else some fn)

/-- The bridge of a function is bound to a port of another module. -/
def remoteFn (s : State) (v fn : Nat) : Bool :=
  match vsDef s v with
  | some d => d.bridges.any (fun b => b.fn == fn && (match b.tgt with | .remote _ _ => true | _ => false))
  | none => false

/-- A write to a remote bridge waits for the answers to the control requests that it started, those from number `id` on (R219). -/
def awaitCtl (id : Nat) (r : CfgReq) (fn : Nat) (s : State) : State :=
  if s.host.ctlNext = id || !remoteFn s r.vs fn then s else
  { s with host.ctlOpen := s.host.ctlOpen.map (fun (e : Nat × CtlWait) =>
      if e.1 = id ∧ e.2.req = none then (e.1, { e.2 with req := some r }) else e) }

/-- Carries out a configuration write (R174 to R176): applied with its hardware effects and journalled COMPLETED, or journalled FAILED.
The upstream port takes its bus number from a Type 0 write. -/
def cfgWriteServe (r : CfgReq) (s : State) : State :=
  let t := r.tlp
  let v := r.vs
  let off := cfgOff t
  let (w, m) := cfgWord t
  let old := match cfgFn t with | some fn => if fnPresent s v fn then cfgRd s v fn off else 0 | none => 0
  let takes := cfgTakes s r
  let s := if t.route = 0 && cfgFn t = some fnUp then s.setf F.GLB_VSSTAT_BUS v (t.bdf / 256) else s
  match takes with
  | none => keeperEntry (cfgEntry s r jFailed old) s
  | some fn =>
    let e := romEnt s v fn off
    let new := cfgNew s e v fn off old w m
    let id := s.host.ctlNext
    let s := awaitCtl id r fn (cfgEffect v fn off old new (w &&& m &&& e.wmask) (cfgSet v fn off new s))
    keeperEntry (cfgEntry s r jDone (cfgRd s v fn off)) s

/-! ### Admission (R175, R292) -/

/-- The CONFIG duty of a virtual switch: its pier and number. -/
def cfgDuty (s : State) (v : Nat) : Option (Nat × Nat) :=
  match vsDef s v with
  | some d => (dutyFind s (pierOf d.up) 0 v).map (fun k => (pierOf d.up, k))
  | none => none

/-- A waiting configuration request may be admitted: its duty is not migrating, and fewer than three wait or run at its engine. -/
def cfgMay (s : State) (r : CfgReq) : Bool :=
  match cfgDuty s r.vs with
  | some (n, d) =>
    let g := dutyEng s n d
    !s.b F.PIR_DUTY_MOVING (dutyKey n d) && engLive s g && cfgAt s g < 3 && engRoom s g (.cfg (r.tlp.kind == .cfgWr) r)
  | none => false

/-- Admits the first waiting request of a pier that may be admitted. -/
def cfgAdmit (n : Nat) (s : State) : State :=
  let q := SMap.get [] s.eng.cfgWait n
  match q.find? (cfgMay s) with
  | none => s
  | some r =>
    let s := { s with eng.cfgWait := SMap.put [] s.eng.cfgWait n (q.erase r) }
    match cfgDuty s r.vs with
    | some (m, d) => offer m d (.cfg (r.tlp.kind == .cfgWr) r) s
    | none => s

/-- A configuration request for the engines arrives at the pier of its upstream port: behind what waits there, or admitted. -/
def cfgArrive (r : CfgReq) (s : State) : State :=
  let n := pierOf r.port
  let q := SMap.get [] s.eng.cfgWait n
  let s := { s with eng.cfgWait := SMap.put [] s.eng.cfgWait n (q ++ [r]) }
  if q.any (fun x => x.vs == r.vs) then s else cfgAdmit n s

/-- A configuration request that enters a virtual switch (R175, R177); a write that it completes with UR is journalled FAILED (R176). -/
def configRequest (e : Entry) (t : Tlp) (s : State) : State :=
  if e.inc.isNone && tenantClosed s e.tenant then tenantRefuse (e.carried t) s else
  match (route s e.v e.fn t).dest with
  | .config => cfgArrive ⟨t, e.inP, e.v⟩ s
  | .ur => urReq e.v e.fn (e.carried t) (if t.kind = .cfgWr then keeperEntry (cfgEntry s ⟨t, e.inP, e.v⟩ jFailed 0) s else s)
  | _ =>
    let (s, hs) := plan e t s
    hs.foldl (fun s h => arrive h s) s

end Sys2Proof.Machine
end

