-- ==== Sys2Proof/Machine/HostRows.lean ====
section
/-! DEFINITION. The host face at work (R175, R178, R190 to R192, R196 to R199, R202, R220): configuration requests, resets,
hot-plug, PTM. -/

namespace Sys2Proof.Machine

/-- The entry of a TLP that arrives on a PCI Express port of this module's virtual switches, and its tenant. -/
def entryOf (s : State) (p : Nat) (t : Tlp) : Option Entry :=
  (fnOfPort s p).map (fun e => ⟨p, none, tenantOf s p t.rid t.pasid, e.1, e.2⟩)

/-- CONFIGURATION_REQUEST: a configuration request arrives on a port (R175). -/
def execConfigurationRequest (p : PortId) (t : Tlp) (s : State) : Out := live s fun s =>
  match entryOf s p.val t with
  | some e => if (t.kind = .cfgRd ∨ t.kind = .cfgWr) && linkUp s p.val then configRequest e t s else s
  | none => s

/-- CONFIG_ADMISSION: a waiting configuration request of a pier is admitted (R292). -/
def execConfigAdmission (n : PierId) (s : State) : Out := live s fun s => cfgAdmit n.val s

/-- A Readiness Notification of an upstream port whose ROMT enables them (R178): the standard gives its bytes (log entry 9). -/
def sendReady (v : Nat) (s : State) : State :=
  match vsDef s v with
  | some d =>
    if !d.ready then s else
    let t : Tlp := { Tlp.blank with
      kind := .msg, hdr := 16, rid := ridOf s v fnUp, code := 0x7F, route := 4, laddr := 1,
      len := 4, data := (List.range 4).map Config.readiness }
    inject ⟨t, d.up, d.up, 0, v, none, 0, [], 0⟩ s
  | none => s

/-- FUNCTION_READY: 1 ms after the end of a reset, the functions of a virtual switch that no reset holds are ready (R178). -/
def execFunctionReady (v : VsId) (s : State) : Out := live s fun s =>
  let v := v.val
  if (SMap.find? s.host.inReset v).isSome then s else
  let was := s.host.crs.any (fun k => k / 64 == v)
  let s := { s with host.crs := s.host.crs.filter (fun k => k / 64 != v || s.host.flr.contains k) }
  let left := s.host.crs.any (fun k => k / 64 == v)
  let s := s.setf F.GLB_VSSTAT_NOTREADY v (if left then 1 else 0)
  if was && !left then sendReady v s else s

/-! ### Resets -/

/-- The virtual switch whose upstream port an input resets. -/
def perstVs (s : State) (i : Nat) : Option (Nat × Nat) :=
  if s.b F.GLB_PERSTMAP_VALID i then
    (vsOfUp s (s.f F.GLB_PERSTMAP_PORT i)).map (fun v => (v, s.f F.GLB_PERSTMAP_PORT i))
  else none

/-- The D-state shown for every management endpoint kept in step with its link and its PERST_IN_N. -/
def refreshAllVs (s : State) : State := forEach (vsList s) refreshVs s

/-- PERST_IN_ASSERT: an input goes low for 100 ns; assigned, its virtual switch takes a fundamental reset and its link drops
(R190). -/
def execPerstInAssert (i : Fin 16) (s : State) : Out := live s fun s =>
  if s.bitf F.GLB_PERST_LEVEL 0 i then s else
  let s := s.setBitf F.GLB_PERST_LEVEL 0 i true
  match perstVs s i with
  | none => s
  | some (v, p) =>
    let s := vsReset v 2 s
    let s := if linkUp s p then linkDownEvent p s else s
    refreshVs v (if s.b F.PIR_CLOSE_CLOSED p then s else enterTraining p s)

/-- PERST_N of the slot bound to a port deasserts where its power is stable. -/
def releaseSlot (p : Nat) (s : State) : State :=
  match slotOf s p with
  | some k => if (slotSt s k).stable then s.setf F.GLB_SLOT_PERST k 0 else s
  | none => s

/-- The slots of a virtual switch leave PERST_N where their power is stable. -/
def releaseSlots (v : Nat) (s : State) : State :=
  forEach (downPorts s v) releaseSlot s

/-- PERST_IN_DEASSERT: the fundamental reset ends, slots leave PERST_N, and the upstream port trains when the mode allows
(R178, R190). -/
def execPerstInDeassert (i : Fin 16) (s : State) : Out := live s fun s =>
  if !s.bitf F.GLB_PERST_LEVEL 0 i then s else
  let s := s.setBitf F.GLB_PERST_LEVEL 0 i false
  match perstVs s i with
  | none => s
  | some (v, p) =>
    let s := { s with host.l2 := s.host.l2.filter (fun q => q != p) }
    let s := if SMap.find? s.host.inReset v = some 2 then releaseSlots v (vsResetEnd v s) else s
    refreshVs v (if s.b F.PIR_CLOSE_CLOSED p then s else enterTraining p s)

/-- HOT_RESET: an upstream port receives hot reset (R191). -/
def execHotReset (p : PortId) (s : State) : Out := live s fun s =>
  match vsOfUp s p.val with
  | some v =>
    if linkUp s p.val then (vsReset v 3 s).setf F.SPN_PSTAT_LTSSM p.val 0x2C else s
  | none => s

/-- SECONDARY_BUS_RESET: the bit of a port's function is set; a port bound to a virtual switch of another module receives the hot
reset that its home sends (R191, R219). -/
def execSecondaryBusReset (p : PortId) (s : State) : Out := live s fun s =>
  match fnOfPort s p.val with
  | some (v, fn) => if cfgBit s v fn 0x3C 22 then s else sbrSet v fn (cfgSetF v fn 0x3C 22 22 1 s)
  | none => if (SMap.find? s.host.home p.val).isSome then hotLink p.val s else s

/-- SECONDARY_BUS_RESET_CLEAR: the bit is cleared. -/
def execSecondaryBusResetClear (p : PortId) (s : State) : Out := live s fun s =>
  match fnOfPort s p.val with
  | some (v, fn) => if cfgBit s v fn 0x3C 22 then sbrClear v fn (cfgSetF v fn 0x3C 22 22 0 s) else s
  | none => hotEnd p.val s

/-- FUNCTION_LEVEL_RESET of the management endpoint, or of the landing function (R192). -/
def execFunctionLevelReset (v : VsId) (landing : Bool) (s : State) : Out := live s fun s =>
  flr v.val (if landing then fnLand else fnMep) s

/-- FLR_COMPLETE: the function level reset ends (R192). -/
def execFlrComplete (v : VsId) (landing : Bool) (s : State) : Out := live s fun s =>
  { s with host.flr := s.host.flr.erase (v.val * 64 + (if landing then fnLand else fnMep)) }

/-! ### Hot-plug (R198, R199, Table HOST-6) -/

/-- A status bit of a slot's bridge, with the SLOT event of its port's engine. -/
def slotReport (k bit : Nat) (s : State) : State :=
  let s := match slotFn s k with | some (v, fn) => slotStatus v fn bit s | none => s
  slotNote k s

/-- PRESENCE_DETECT_CHANGED: a debounced change of PRSNT_N; a removal turns the slot off where AUTO_OFF is set. -/
def execPresenceDetectChanged (k : SlotId) (present : Bool) (s : State) : Out := live s fun s =>
  let k := k.val
  if s.b F.GLB_SLOT_PRSNT k = present then s else
  let v := if present then 1 else 0
  let s := s.setf F.GLB_SLOT_PRSNT k v
  let s := match slotFn s k with | some (vs, fn) => setCapF vs fn .pcie 0x18 22 22 v s | none => s
  let s := if !present && (slotDef s k).autoOff then slotFail k s else s
  slotReport k 3 s

/-- ATTENTION_BUTTON_PRESSED: ATTN_N is asserted for 10 ms, or released. -/
def execAttentionButtonPressed (k : SlotId) (down : Bool) (s : State) : Out := live s fun s =>
  let s := s.setf F.GLB_SLOT_ATTN k.val (if down then 1 else 0)
  if down then slotReport k.val 0 s else s

/-- POWER_FAULT_DETECTED: PWRFLT_N is asserted for 1 µs, or released. -/
def execPowerFaultDetected (k : SlotId) (low : Bool) (s : State) : Out := live s fun s =>
  let s := s.setf F.GLB_SLOT_PWRFLT k.val (if low then 1 else 0)
  if low then slotReport k.val 1 (slotFail k.val s) else s

/-- SLOT_POWER_ON: Power Controller Control is written 0. -/
def execSlotPowerOn (k : SlotId) (s : State) : Out := live s fun s =>
  if s.b F.GLB_SLOT_BOUND k.val && !(slotSt s k.val).on then slotOn k.val s else s

/-- SLOT_PWREN_ON: 10 µs after the write, PWREN is asserted. -/
def execSlotPwrenOn (k : SlotId) (s : State) : Out := live s fun s =>
  if (slotSt s k.val).on then s.setf F.GLB_SLOT_PWREN k.val 1 else s

/-- The virtual switch that binds a port is under fundamental reset. -/
def vsPerst (s : State) (p : Nat) : Bool :=
  match vsOfDown s p with | some (v, _) => SMap.find? s.host.inReset v = some 2 | none => false

/-- SLOT_PERST_RELEASE: at POWER_STABLE the slot leaves PERST_N, unless a fundamental reset holds it, and the link trains. -/
def execSlotPerstRelease (k : SlotId) (s : State) : Out := live s fun s =>
  let k := k.val
  let p := s.f F.GLB_SLOT_PORT k
  if !((slotSt s k).on && s.b F.GLB_SLOT_PWREN k) then s else
  let s := setSlotSt k { slotSt s k with stable := true } s
  if vsPerst s p then s else
  let s := s.setf F.GLB_SLOT_PERST k 0
  if linkUp s p || s.b F.PIR_CLOSE_CLOSED p then s else enterTraining p s

/-- SLOT_POWER_OFF: Power Controller Control is written 1. -/
def execSlotPowerOff (k : SlotId) (s : State) : Out := live s fun s =>
  if s.b F.GLB_SLOT_BOUND k.val && (slotSt s k.val).on then slotOff k.val s else s

/-- SLOT_PWREN_OFF: 100 µs after the write, PWREN is deasserted. -/
def execSlotPwrenOff (k : SlotId) (s : State) : Out := live s fun s =>
  if (slotSt s k.val).on then s else s.setf F.GLB_SLOT_PWREN k.val 0

/-! ### PTM (R202, R220) -/

/-- The upstream port of a virtual switch is selected as PTM root (R202). -/
def ptmRoot (s : State) (v : Nat) : Bool :=
  (match vsDef s v with | some d => d.ptmRoot | none => false) && capBit s v fnUp .ptm 0x8 1

/-- The time that a PTM response gives: device time at a root; otherwise the host's time as the last dialogue left it, none before. -/
def ptmTime (s : State) (v : Nat) : Option Nat :=
  if ptmRoot s v then some s.env.now else (SMap.find? s.host.ptmHost v).map (fun e => e.1 + (s.env.now - e.2))

/-- The time at a remote port: its home's, as it last came with the path's delay added (R202, R220). -/
def ptmRemote (s : State) (b : HomeBind) : Option Nat :=
  (SMap.find? s.fab.time (64 * b.module.val + b.vs.val)).map (fun x => (x + s.env.now) % 2 ^ 64)

/-- Answers a PTM request: a ResponseD with the time, or a Response where there is none (log entry 9). -/
def ptmAnswer (p v rid : Nat) (time : Option Nat) (s : State) : State :=
  let t : Tlp := { Tlp.blank with kind := .msg, hdr := 16, rid := rid, code := 0x53, route := 4 }
  match time with
  | some x =>
    inject ⟨{ t with len := 12, data := leBytes x 8 ++ leBytes 0 4 }, p, p, 0, v, none, 0, [], 0⟩
      { s with host.ptmLast := x % 2 ^ 64 }
  | none => inject ⟨t, p, p, 0, v, none, 0, [], 0⟩ s

/-- The upstream port as a PTM Requester: it asks its host for the time, unless it is the root (R202). -/
def ptmAsk (v : Nat) (s : State) : State :=
  match vsDef s v with
  | some d =>
    if ptmRoot s v || !capBit s v fnUp .ptm 0x8 0 || !linkUp s d.up then s else
    let t : Tlp := { Tlp.blank with kind := .msg, hdr := 16, rid := ridOf s v fnUp, code := 0x52, route := 4 }
    inject ⟨t, d.up, d.up, 0, v, none, 0, [], 0⟩ { s with host.ptmAsked := SMap.ins s.host.ptmAsked v s.env.now }
  | none => s

/-- A PTM ResponseD from the host: its time t2, what it took to answer, and half of what is left of the round trip (log entry 9). -/
def ptmResponse (v : Nat) (t : Tlp) (s : State) : State :=
  match SMap.find? s.host.ptmAsked v with
  | some t1 =>
    let held := leNum ((t.data.drop 8).take 4)
    let x := leNum (t.data.take 8) + held + (s.env.now - t1 - held) / 2
    { s with host.ptmAsked := SMap.del s.host.ptmAsked v, host.ptmHost := SMap.ins s.host.ptmHost v (x, s.env.now) }
  | none => s

/-- PTM_REQUEST: a PTM request from below a downstream port (R202), or below a remote port that this module holds (R220). -/
def execPtmRequest (p : PortId) (s : State) : Out := live s fun s =>
  let p := p.val
  if !linkUp s p then s else
  match vsOfDown s p with
  | some (v, j) =>
    if !capBit s v (fnBridge j) .ptm 0x8 0 then s else
    ptmAsk v (ptmAnswer p v (ridOf s v (fnBridge j)) (ptmTime s v) s)
  | none =>
    match SMap.find? s.host.home p with
    | some b => ptmAnswer p b.vs (completerId s p) (ptmRemote s b) s
    | none => s

end Sys2Proof.Machine
end

