-- ==== Sys2Proof/Machine/WriteRows.lean ====
section
/-! DEFINITION. The register writes that have a row of their own, and every other register write. Each is a write of its
register by the interface that makes it, with the bits of the row written 1 and their bytes enabled; the other bits and
enables are the writer's. What each does is in `regEffect`. -/

namespace Sys2Proof.Machine

/-- A write with the bytes of a mask enabled as well. -/
def RegW.touching (w : RegW) (m : Nat) : RegW :=
  { w with be := w.be ||| BitVec.ofNat 4 (((List.range 4).map (fun k => if m / 256 ^ k % 256 != 0 then 2 ^ k else 0)).sum) }
/-- A write with some bits written 1. -/
def RegW.with1 (w : RegW) (m : Nat) : RegW := RegW.touching { w with val := w.val ||| BitVec.ofNat 32 m } m
/-- A write of a whole word by an interface. -/
def wordW (org : Origin) (v : Nat) : RegW := ⟨org, 0xF, BitVec.ofNat 32 v⟩

/-- REGISTER_WRITE (R7): a write at any offset. -/
def execRegisterWrite (off : Nat) (w : RegW) (s : State) : Out := live s fun s => (regWrite off w s).2

/-! ### Spans -/

/-- RETRAIN (R45): SPN_CTL.RETRAIN of a port written 1. -/
def execRetrain (p : PortId) (w : RegW) (s : State) : Out := live s fun s =>
  regWriteReg .SPN_CTL (p.val / 4) (RegW.with1 w (2 ^ (12 + p.val % 4))) s
/-- CLOCK_MODE_WRITE (R52). -/
def execClockModeWrite (sp : SpanId) (w : RegW) (s : State) : Out := live s fun s =>
  regWriteReg .SPN_CLKMODE sp.val (RegW.touching w 0xFF) s
/-- ERRCLR (R67): SPN_LANE.ERRCLR written 1. -/
def execErrclr (sp : SpanId) (l : LaneId) (w : RegW) (s : State) : Out := live s fun s =>
  regWriteReg .SPN_LANE (9 * sp.val + l.val) (RegW.with1 w 0x8000) s
/-- FLOING_RETRAIN (R94): SPN_FLCTL.RETRAIN written 1. -/
def execFloingRetrain (g : SpanId) (w : RegW) (s : State) : Out := live s fun s =>
  regWriteReg .SPN_FLCTL g.val (RegW.with1 w 1) s
/-- RX_ALLOC_WRITE (R79): a write of a virtual channel's receive allocation. -/
def execRxAllocWrite (g : SpanId) (v : Fin 8) (w : RegW) (s : State) : Out := live s fun s =>
  regWriteReg .SPN_FLVC (8 * g.val + v.val) (RegW.touching w 0xFFF0000) s

/-! ### Deck, buffers, shapers -/

/-- FENCE (R117). -/
def execFence (m : PlaneId) (org : Origin) (s : State) : Out := live s fun s => regWriteReg .DCK_CTL m.val (wordW org 1) s
/-- UNFENCE (R117). -/
def execUnfence (m : PlaneId) (org : Origin) (s : State) : Out := live s fun s => regWriteReg .DCK_CTL m.val (wordW org 2) s
/-- PMAP_WRITE (R106): eight entries of a pier's plane map. -/
def execPmapWrite (n : PierId) (k : Fin 8) (w : RegW) (s : State) : Out := live s fun s =>
  regWriteReg .PIR_PMAP (8 * n.val + k.val) w s
/-- BUFFER_RESERVE_WRITE (R121): the express reserve of a pier, or the reserve of an account. -/
def execBufferReserveWrite (n : PierId) (a : Option (Fin 128)) (w : RegW) (s : State) : Out := live s fun s =>
  match a with
  | none => regWriteReg .PIR_BUFCFG n.val w s
  | some a => regWriteReg .PIR_BUFTHR (128 * n.val + a.val) w s
/-- SHAPER_RATE_WRITE (R157). -/
def execShaperRateWrite (r : ShaperReg) (w : RegW) (s : State) : Out := live s fun s =>
  match r with
  | .qcfg i => regWriteReg .PIR_QCFG i.val (RegW.touching w 0xFFFF) s
  | .qrate i => regWriteReg .PIR_QRATE i.val (RegW.touching w 0xFF) s
  | .tscfg i => regWriteReg .PIR_TSCFG i.val (RegW.touching w 0xFFFF) s
  | .tsrate i => regWriteReg .PIR_TSRATE i.val (RegW.touching w 0xFF) s
/-- EXPRESS_POLICER_WRITE (R161). -/
def execExpressPolicerWrite (p : PortId) (w : RegW) (s : State) : Out := live s fun s => regWriteReg .PIR_EPCFG p.val w s
/-- TAG_SET (R142): GO with a tag. -/
def execTagSet (tag : Fin 1024) (org : Origin) (s : State) : Out := live s fun s =>
  regWriteReg .CSN_TAGCMD 0 (wordW org (2 ^ 31 + tag.val)) s
/-- FROUTE_WRITE (R206). -/
def execFrouteWrite (n : PierId) (d : Fin 64) (w : RegW) (s : State) : Out := live s fun s =>
  regWriteReg .PIR_FROUTE (64 * n.val + d.val) w s

/-! ### Gates and tenants -/

/-- WINDOW_VALID_WRITE (R244): VALID written 1. -/
def execWindowValidWrite (z : Fin 130) (x : Fin 4) (w : RegW) (s : State) : Out := live s fun s =>
  regWriteReg .GTE_WATTR (4 * z.val + x.val) (RegW.with1 w 0x40000000) s
/-- WINDOW_BOUNDS_WRITE (R244): a word of a window's base or limit. -/
def execWindowBoundsWrite (z : Fin 130) (x : Fin 4) (limit high : Bool) (w : RegW) (s : State) : Out := live s fun s =>
  regWriteReg (if limit then .GTE_WLIMIT else .GTE_WBASE) (8 * z.val + 2 * x.val + high.toNat) w s
/-- ENTRY_LOCK (R246): LOCK written 1. -/
def execEntryLock (e : LockEnt) (w : RegW) (s : State) : Out := live s fun s =>
  let w := RegW.with1 w 0x80000000
  match e with
  | .slot z => regWriteReg .GTE_SLOT z.val w s
  | .sbkey => regWriteReg .GTE_SBKEY 0 w s
  | .window z x => regWriteReg .GTE_WATTR (4 * z.val + x.val) w s
  | .tenantKey u => regWriteReg .TNT_KEY u.val w s
  | .portDefault p => regWriteReg .TNT_PORTDEF p.val w s
  | .entry i => regWriteReg .TNT_ENTCTL i.val w s
/-- TENANT_ENTRY_WRITE (R158). -/
def execTenantEntryWrite (r : TenantReg) (w : RegW) (s : State) : Out := live s fun s =>
  match r with
  | .portDefault p => regWriteReg .TNT_PORTDEF p.val w s
  | .ctl i => regWriteReg .TNT_ENTCTL i.val w s
  | .rid i => regWriteReg .TNT_ENTRID i.val w s
  | .pasid i top => regWriteReg .TNT_ENTPASID (2 * i.val + top.toNat) w s

/-! ### Containment -/

/-- CLOSE (R263). -/
def execClose (p : PortId) (org : Origin) (s : State) : Out := live s fun s => regWriteReg .PIR_CLOSE p.val (wordW org 1) s
/-- RELEASE (R266). -/
def execRelease (p : PortId) (org : Origin) (s : State) : Out := live s fun s => regWriteReg .PIR_CLOSE p.val (wordW org 2) s
/-- TENANT_CLOSE (R269). -/
def execTenantClose (u : TenantId) (org : Origin) (s : State) : Out := live s fun s =>
  regWriteReg .GLB_TCLOSE (u.val / 32) (wordW org (2 ^ (u.val % 32))) s
/-- TENANT_RELEASE (R269). -/
def execTenantRelease (u : TenantId) (org : Origin) (s : State) : Out := live s fun s =>
  regWriteReg .GLB_TRELEASE (u.val / 32) (wordW org (2 ^ (u.val % 32))) s
/-- QUAR (R275): GLB_ERRCTL.QUAR written 1, its byte alone enabled. -/
def execQuar (org : Origin) (s : State) : Out := live s fun s => regWriteReg .GLB_ERRCTL 0 ⟨org, 2, 0x100⟩ s

/-! ### Engines -/

/-- PARK (R297). -/
def execPark (g : EngId) (org : Origin) (s : State) : Out := live s fun s => regWriteReg .ENG_CTL g.val (wordW org 1) s
/-- UNPARK (R297). -/
def execUnpark (g : EngId) (org : Origin) (s : State) : Out := live s fun s => regWriteReg .ENG_CTL g.val (wordW org 0) s

/-! ### Journal and command window -/

/-- JOURNAL_READ_LATCH (R342): a write of the low word of JNL_RDSEQ. -/
def execJournalReadLatch (w : RegW) (s : State) : Out := live s fun s => regWriteReg .JNL_RDSEQ 0 w s
/-- COMMAND_SUBMIT (R333): JNL_CMDGO.GO written 1. -/
def execCommandSubmit (org : Origin) (s : State) : Out := live s fun s => regWriteReg .JNL_CMDGO 0 (wordW org 1) s

/-! ### Recorder and counters -/

/-- REC_FIRE (R349): triggers fired by software. -/
def execRecFire (bits : Word) (org : Origin) (s : State) : Out := live s fun s => regWriteReg .REC_FIRE 0 ⟨org, 0xF, bits⟩ s
/-- SNAP (R366). -/
def execSnap (org : Origin) (s : State) : Out := live s fun s => regWriteReg .PMC_CMD 0 (wordW org 1) s
/-- FREEZE (R366). -/
def execFreeze (org : Origin) (s : State) : Out := live s fun s => regWriteReg .PMC_CMD 0 (wordW org 2) s
/-- THAW (R366). -/
def execThaw (org : Origin) (s : State) : Out := live s fun s => regWriteReg .PMC_CMD 0 (wordW org 4) s
/-- CLEAR (R366). -/
def execClear (org : Origin) (s : State) : Out := live s fun s => regWriteReg .PMC_CMD 0 (wordW org 8) s
/-- BLOCK_CLEAR (R369): PMC_BCTL.CLEAR written 1, its byte alone enabled. -/
def execBlockClear (b : BlockId) (org : Origin) (s : State) : Out := live s fun s => regWriteReg .PMC_BCTL b.val ⟨org, 1, 1⟩ s
/-- EVENT_SELECT_WRITE (R362): a write that enables bytes of EVENT and SUB. -/
def execEventSelectWrite (b : BlockId) (k : Fin 8) (w : RegW) (s : State) : Out := live s fun s =>
  regWriteReg .PMC_EVT (8 * b.val + k.val) (RegW.touching w 0xF0FFF) s

/-! ### Abutment -/

/-- SELECT (R374): ABT_FCTL.SELECT written 1. -/
def execSelect (f : FeedId) (w : RegW) (s : State) : Out := live s fun s =>
  regWriteReg .ABT_FCTL f.val (RegW.with1 w 4) s
/-- RESTART (R380): ABT_FCTL.RESTART written 1. -/
def execRestart (f : FeedId) (w : RegW) (s : State) : Out := live s fun s =>
  regWriteReg .ABT_FCTL f.val (RegW.with1 w 2) s
/-- FEED_ENABLE_WRITE (R384): ABT_FCTL.EN written. -/
def execFeedEnableWrite (f : FeedId) (en : Bool) (org : Origin) (s : State) : Out := live s fun s =>
  regWriteReg .ABT_FCTL f.val (wordW org en.toNat) s
/-- VMIN_CLEAR (R399): ABT_VMIN.CLR written 1. -/
def execVminClear (org : Origin) (s : State) : Out := live s fun s => regWriteReg .ABT_VMIN 0 (wordW org (2 ^ 31)) s
/-- THRESHOLD_WRITE (R387): ABT_VTHR0 (WARN_V, REDUCE_V) or ABT_VTHR1 (RESET_V, HYST). -/
def execThresholdWrite (reset : Bool) (w : RegW) (s : State) : Out := live s fun s =>
  regWriteReg (if reset then .ABT_VTHR1 else .ABT_VTHR0) 0 w s

/-! ### Domains and temperature -/

/-- DOMAIN_ON_REQUEST (R413): PWD_CTL.ON written 1. -/
def execDomainOnRequest (d : DomId) (w : RegW) (s : State) : Out := live s fun s =>
  regWriteReg .PWD_CTL d.val (RegW.with1 w 1) s
/-- DOMAIN_OFF_REQUEST (R413): PWD_CTL.OFF written 1. -/
def execDomainOffRequest (d : DomId) (w : RegW) (s : State) : Out := live s fun s =>
  regWriteReg .PWD_CTL d.val (RegW.with1 w 2) s
/-- THERMAL_THRESHOLD_WRITE (R416). -/
def execThermalThresholdWrite (w : RegW) (s : State) : Out := live s fun s => regWriteReg .GLB_THERM 0 w s

/-! ### Keystone -/

/-- PROVISION (R428): KEY_CMD code 1. -/
def execProvision (org : Origin) (s : State) : Out := live s fun s => regWriteReg .KEY_CMD 0 (wordW org 1) s
/-- REVOKE (R429): KEY_CMD code 2. -/
def execRevoke (org : Origin) (s : State) : Out := live s fun s => regWriteReg .KEY_CMD 0 (wordW org 2) s
/-- STAGE_ERASE (R425): KEY_CMD code 3. -/
def execStageErase (copy : Bool) (org : Origin) (s : State) : Out := live s fun s =>
  regWriteReg .KEY_CMD 0 (wordW org (3 + 256 * copy.toNat)) s
/-- STAGE_WRITE (R425): a write of KEY_STGDATA. -/
def execStageWrite (w : RegW) (s : State) : Out := live s fun s => regWriteReg .KEY_STGDATA 0 w s

end Sys2Proof.Machine
end

