-- ==== Sys2Proof/Machine/TlpRows.lean ====
section
/-! DEFINITION. TLPs that arrive on PCI Express ports (R19, R172, R188, R189, R207, R223, R230 to R243, R250 to R254, R261, R262),
and the completions of DMA reads. -/

namespace Sys2Proof.Machine

/-! ### DMA reads (R188, R189, R303, R335) -/

/-- Submits a batch's descriptors in order until one is rejected; answers how many were accepted (R335). -/
def batchSubmit (org : Origin) (q : Nat) : List (List Byte) → Nat → State → State × Nat
  | [], n, s => (s, n)
  | d :: rest, n, s =>
    if rejection s d != 0 then (s, n) else batchSubmit org q rest (n + 1) (acceptCmd org none q d s)

/-- The bytes of a job cut into 64-byte descriptors. -/
def descriptors (b : List Byte) : List (List Byte) := (List.range (b.length / 64)).map (fun i => (b.drop (64 * i)).take 64)

/-- The data of a read job in order of offset. -/
def DmaJob.whole (j : DmaJob) : List Byte :=
  (j.data.mergeSort (fun a b => a.1 ≤ b.1)).flatMap (fun (e : Nat × List Byte) => e.2)

/-- A read job has all its data: a batch is submitted, flash is programmed, and the command ends COMPLETED. -/
def dmaReadDone (v : Nat) (j : DmaJob) (s : State) : State :=
  let s := dmaClear v s
  let s := match j.use with
    | .batch q =>
      (match findCmd s q with
      | some c =>
        let x := batchSubmit c.org q (descriptors j.whole) 0 s
        endCmd q jDone x.2 0 x.1
      | none => s)
    | .bankWrite q b off => okCmd q (bankTouched b (setBank b ((bankOf s b).program off j.whole) s))
    | _ => s
  dmaNext v (s.host.dmaq.length + 1) s

/-- The Read Completion Boundary that host software has set (Link Control). -/
def dmaRcb (s : State) (v : Nat) : Nat := if capBit s v fnMep .pcie 0x10 3 then 128 else 64

/-- A completion fits its read: next in address order, no longer than what is left, and ending on the Read Completion Boundary or at
the end of the read (R188). -/
def dmaFits (s : State) (v : Nat) (j : DmaJob) (r : DmaRd) (t : Tlp) : Bool :=
  let a := j.addr + r.off + r.got.length
  let n := t.data.length
  n != 0 && t.laddr == a % 128 && r.got.length + n ≤ r.len &&
    (r.got.length + n == r.len || (a + n) % dmaRcb s v == 0)

/-- A completion for a tag of the DMA engine: discarded for a failed job, whose tag it frees with the last part; a failure of R189; or
the next part of its read. -/
def dmaCpl (v : Nat) (t : Tlp) (s : State) : State :=
  if s.host.dmaDead.contains (v, t.tag) then
    if lastCpl t then { s with host.dmaDead := s.host.dmaDead.erase (v, t.tag) } else s
  else match dmaJob s v with
    | none => s
    | some j =>
      match j.reads.find? (fun (r : DmaRd) => r.tag == t.tag) with
      | none => s
      | some r =>
        if t.status != 0 then dmaAbort v 2 s
        else if t.ep then dmaAbort v 3 s
        else if !dmaFits s v j r t then
          let x := s.fresh
          dmaAbort v (1 + x.1 % 5) x.2
        else
          let r' := { r with got := r.got ++ t.data }
          let rest := j.reads.erase r
          let j' := if r'.got.length = r.len then { j with reads := rest, data := j.data ++ [(r.off, r'.got)] }
            else { j with reads := j.reads.map (fun (x : DmaRd) => if x.tag = t.tag then r' else x) }
          let s := setJob v j' s
          if j'.reads.isEmpty && j'.issued ≥ j'.total then dmaReadDone v j' s else dmaPump v s

/-- DMA_COMPLETION_TIMEOUT: the job of a read fails, or a failed job's tag is freed (R189). -/
def execDmaCompletionTimeout (v : VsId) (tag : Fin 64) (s : State) : Out := live s fun s =>
  let v := v.val
  let free (s : State) : State := { s with host.dmaDead := s.host.dmaDead.erase (v, tag.val) }
  if s.host.dmaDead.contains (v, tag.val) then free s
  else match dmaJob s v with
    | none => s
    | some j =>
      if j.reads.any (fun (r : DmaRd) => r.tag == tag.val) then
        let s := free (dmaFail v 1 s)
        dmaNext v (s.host.dmaq.length + 1) s
      else s

/-! ### Completions -/

/-- A completion between two downstream ports of a virtual switch goes by the upstream port where its ingress bridge redirects peer
completions (R179; log entry 9). -/
def cplRedirect (s : State) (p : Nat) (e : Trk) (t : Tlp) : Option Nat :=
  match vsOfDown s p with
  | some (v, j) =>
    match vsDef s v, vsOfDown s e.inP with
    | some d, some (w, _) =>
      if w = v && e.fab.isNone && !t.ro && acsBit s v (fnBridge j) 3 && (proxyOf s t).isNone then some d.up.val else none
    | _, _ => none
  | none => none

/-- Sends a completion on towards its requester, in the order of its flow. -/
def cplSend (p outP : Nat) (e : Trk) (fab : Option FabHdr) (t : Tlp) (s : State) : State :=
  arrive ⟨⟨t, p, outP, e.tenant, e.vs, fab, 0, [], 0⟩, none, none, [], .admission⟩ s

/-- A completion goes back to its requester: its own Requester ID and tag where they were proxied, its Byte Count raised by what the
gate refused, and behind the last part of a cut read a Completer Abort for the bytes refused (R172, R213, R241). A Deferrable
Memory Write of which a part was refused is answered once, with Completer Abort (Table GTE-3). -/
def cplForward (p : Nat) (e : Trk) (t : Tlp) (s : State) : State :=
  let more := (s.port p).trk.any (fun (x : Trk) => x.rid == e.rid && x.tag == e.tag)
  let write := e.refused != 0 && t.status = 0 && t.data.isEmpty
  if write && more then s else
  let cut := e.refused != 0 && t.status = 0 && !t.data.isEmpty
  let last := lastCpl t
  let t1 := if cut then { t with bcount := t.bcount + e.refused } else if write then { t with status := stCA } else t
  let tail : Tlp := { t with
    data := [], len := 0, status := stCA, bcount := e.refused, laddr := (e.addr + t.data.length) % 128,
    cid := completerId s e.inP, ep := false }
  match cplRedirect s p e t with
  | some up =>
    let known := ((s.port up).trk.any (fun (x : Trk) => x.rid == e.rid && x.tag == e.tag && x.inP == e.inP))
    cplSend p up e none t1 (if known then s else track up { e with refused := 0 } s)
  | none =>
    let (t2, s) := if e.fab.isNone then unproxy t1 s else (t1, s)
    let fab := e.fab.map FabHdr.back
    let s := cplSend p e.inP e fab t2 s
    if cut && last then cplSend p e.inP e fab { tail with rid := t2.rid, tag := t2.tag } s else s

/-- A completion that arrives on a port: by its tracker entry (R261). One that answers no entry is discarded (R262), one for a request
whose Floing link has gone down is counted in LATE (R215). -/
def cplArrive (p : Nat) (t : Tlp) (s : State) : State :=
  match trkFind s p t with
  | none =>
    (match vsOfUp s p with
    | some v => if t.rid = ridOf s v fnMep && t.tag < 64 then dmaCpl v t s else s
    | none => s)
  | some e =>
    let e' := { e with left := e.left - t.data.length, addr := e.addr + t.data.length }
    let s := if lastCpl t then untrack p e s
      else s.setPort p { s.port p with trk := (s.port p).trk.map (fun (x : Trk) => if x = e then e' else x) }
    match vsOfUp s p with
    | some v =>
      if t.rid = ridOf s v fnMep && t.tag < 64 then dmaCpl v t s
      else if e.late then s.satf F.PIR_FBPORT_LATE e.inP 1
      else if t.tag ≥ aheadBase && e.inP = p then pfCpl p t s
      else cplForward p e t s
    | none =>
      if e.late then s.satf F.PIR_FBPORT_LATE e.inP 1
      else if t.tag ≥ aheadBase && e.inP = p then pfCpl p t s
      else cplForward p e t s

/-- DMA_COMPLETION: a completion for a read of a management endpoint arrives on its upstream port. -/
def execDmaCompletion (v : VsId) (t : Tlp) (s : State) : Out := live s fun s =>
  match vsDef s v.val with
  | some d =>
    if linkUp s d.up && t.tag < 64 then cplArrive d.up { t with kind := .cpl, rid := ridOf s v.val fnMep } s else s
  | none => s

/-! ### Requests -/

/-- A request enters its virtual switch: a configuration request goes to the engines, another is routed and judged; at a port that a
virtual switch of another module binds it goes to that module (R207). -/
def reqArrive (p : Nat) (t : Tlp) (s : State) : State :=
  let u := tenantOf s p t.rid t.pasid
  match fnOfPort s p with
  | some (v, fn) =>
    let e : Entry := ⟨p, none, u, v, fn⟩
    match t.kind with
    | .cfgRd | .cfgWr => configRequest e t s
    | _ =>
      let x := plan e t s
      forEach x.2 arrive x.1
  | none =>
    match SMap.find? s.host.home p with
    | some b =>
      let e : Entry := ⟨p, none, u, b.vs, fnUp⟩
      if tenantClosed s u then tenantRefuse (e.carried t) s
      else
        let x := toRemote e t b.vs b.module b.up none s
        forEach x.2 arrive x.1
    | none => failReq ⟨t, p, p, u, 0, none, 0, [], 0⟩ stUR s

/-- A virtual switch answers PME_Turn_Off with PME_TO_Ack on its upstream port, whose link may now enter L2 (R195; log entry 9). -/
def turnOffAck (v : Nat) (s : State) : State :=
  match vsDef s v with
  | some d =>
    let t : Tlp := { Tlp.blank with kind := .msg, hdr := 16, rid := ridOf s v fnUp, code := 0x1B, route := 5 }
    inject ⟨t, d.up, d.up, 0, v, none, 0, [], 0⟩
      { s with host.toWait := SMap.del s.host.toWait v, host.toAck := (s.host.toAck ++ [d.up.val]).eraseDups }
  | none => s

/-- Link messages that end at this port: PME_Turn_Off from above starts the exchange, which the acknowledgement of every link below ends;
a PTM ResponseD sets the host's time. The flag says that the message goes no further. -/
def linkMsg (p : Nat) (t : Tlp) (s : State) : State × Bool :=
  if t.kind != .msg then (s, false) else
  match vsOfUp s p, vsOfDown s p with
  | some v, _ =>
    if t.code = 0x19 then
      let below := (downPorts s v).filter (linkUp s)
      (if below.isEmpty then turnOffAck v s else { s with host.toWait := SMap.ins s.host.toWait v below }, false)
    else if t.code = 0x53 && t.data.length ≥ 12 then (ptmResponse v t s, true)
    else (s, false)
  | none, some (v, _) =>
    if t.code != 0x1B then (s, false) else
    match SMap.find? s.host.toWait v with
    | none => (s, true)
    | some l =>
      let l := l.filter (fun q => q != p)
      (if l.isEmpty then turnOffAck v s else { s with host.toWait := SMap.ins s.host.toWait v l }, true)
  | none, none => (s, false)

/-- TLP_RECEIVED: a whole TLP from a PCI Express link that is up. An uncorrectable word in both copies of its header discards it, one
in its payload poisons it (R251); a TLP that arrives poisoned is reported (R254). -/
def execTlpReceived (p : PortId) (t : Tlp) (err : WordErr) (s : State) : Out := live s fun s =>
  let p := p.val
  if !(portExists s p && !isFloing s p && linkUp s p) || ingressStopped s p then s else
  let t := if t.isCpl then t else { t with bcount := 0 }
  let s := count (spanOf p) 0x003 (subPort p) t.size (count (spanOf p) 0x001 (subPort p) 1 s)
  let s := sliceErr p err (takeCredit p t s)
  returnCredit p <| match err with
  | .header => pushRec (pierOf p) 0x11 p (s.satf F.PIR_ERRCNT_HDR_LOST (pierOf p) 1)
  | _ =>
    let s := if t.ep then aerPort p aerPoison s else s
    let x := if err == .payload then poisonTlp ⟨t, p, p, 0, 0, none, 0, [], 0⟩ s else (⟨t, p, p, 0, 0, none, 0, [], 0⟩, s)
    let t := x.1.tlp
    let y := linkMsg p t x.2
    if y.2 then y.1 else if t.isCpl then cplArrive p t y.1 else reqArrive p t y.1

end Sys2Proof.Machine
end

