-- ==== Sys2Proof/Machine/SideRows.lean ====
section
/-! DEFINITION. The sideband bridge (R225 to R228), the level of its I/O bank (R445), and the MCTP endpoint of each management
endpoint (R224). -/

namespace Sys2Proof.Machine

/-! ### Sideband commands (Tables BRG-4, BRG-5) -/

/-- Status codes of Table BRG-5 beyond those of an access. -/
abbrev sbPending : Nat := 3
/-- RANGE. -/
abbrev sbRange : Nat := 4
/-- PEC. -/
abbrev sbPec : Nat := 5
/-- FORMAT. -/
abbrev sbFormat : Nat := 7

/-- The bytes RESULT returns for a status other than OK. -/
abbrev sbNoData : Word := BitVec.allOnes 32

/-- The bridge ends a command with a status; data other than all ones only with OK. -/
def sbSet (st : Nat) (data : Word) (s : State) : State :=
  { s with sb.data := if st = 0 then data else sbNoData }.setf F.GLB_SBSTAT_LAST 0 st

/-- The bridge answers a transaction of this form (R225, Table BRG-7). -/
def sbAnswers (s : State) (pec : Option Bool) : Bool :=
  match pec with
  | none => s.b F.GLB_SBCFG_I3C_EN 0
  | some _ => s.b F.GLB_SBCFG_SMB_EN 0

/-- A command other than RESULT: refused by NACK while an access is pending, discarded with PEC or FORMAT, else counted and carried
out (R226, R227). -/
def sbCommand (n : Nat) (x : SbTx) (f : State → State) (s : State) : State :=
  if !sbAnswers s x.pec then s
  else if s.sb.access.isSome then s.satf F.GLB_SBSTAT_NACKS 0 1
  else if x.pec = some false then sbSet sbPec 0 (s.satf F.GLB_SBSTAT_PECERR 0 1)
  else if x.bytes.length != n then sbSet sbFormat 0 s
  else f { s with sb.count := (s.sb.count + 1) % 256 }

/-- An access takes effect, from its joint or on its way there, and the bridge shows its status. -/
def sbDone (joined write : Bool) (off : Nat) (v : Word) (s : State) : State :=
  if write then
    let x := regWriteIn joined off ⟨.sideband, 0xF, v⟩ s
    sbSet x.1 0 x.2
  else
    let x := regReadIn joined .sideband off s
    sbSet x.1 x.2.1 x.2.2

/-- An access that slot 129 allows is refused before it enters a joint (R36, R39). -/
def sbRefused (s : State) (off : Nat) : Bool :=
  slot129 s .sideband off && (match regAt off with | some (r, i) => accessStatus false s r i != accOk | none => false)

/-- A register access at the pointer, which then rises by 4 where the command says so; past the register space it is RANGE, and a
write is journalled FAILED (R227). -/
def sbAccess (write inc : Bool) (x : SbTx) (s : State) : State :=
  let off := s.sb.ptr
  let v := BitVec.ofNat 32 (leNum x.bytes)
  let s := if inc then { s with sb.ptr := off + 4 } else s
  if off ≥ 0x04000000 then
    sbSet sbRange 0 (if write then failedWrite .sideband off 0 ⟨.sideband, 0xF, v⟩ 0 s else s)
  else if sbRefused s off then sbDone false write off v s
  else sbSet sbPending 0 { s with sb.access := some (write, off, v) }

/-- SETADDR. -/
def execSetaddr (x : SbTx) (s : State) : Out := live s fun s => sbCommand 4 x (fun s =>
  let a := leNum x.bytes
  if a ≥ 0x04000000 || a % 4 != 0 then sbSet sbRange 0 s else sbSet 0 0 { s with sb.ptr := a }) s
/-- WRITE. -/
def execWrite (x : SbTx) (s : State) : Out := live s fun s => sbCommand 4 x (sbAccess true false x) s
/-- WRITE_INC. -/
def execWriteInc (x : SbTx) (s : State) : Out := live s fun s => sbCommand 4 x (sbAccess true true x) s
/-- READ. -/
def execRead (x : SbTx) (s : State) : Out := live s fun s => sbCommand 0 x (sbAccess false false x) s
/-- READ_INC. -/
def execReadInc (x : SbTx) (s : State) : Out := live s fun s => sbCommand 0 x (sbAccess false true x) s

/-- RESULT: the status of the last command, the count of commands accepted and the read data. -/
def execResult (pec : Option Bool) (s : State) : Out := live s fun s =>
  if !sbAnswers s pec then s else
  { s with sb.reply := leBytes (s.f F.GLB_SBSTAT_LAST 0) 1 ++ leBytes s.sb.count 1 ++ leBytes s.sb.data.toNat 4 }

/-- SIDEBAND_ACCESS_DONE: the pending access takes effect and its status replaces PENDING (R226). -/
def execSidebandAccessDone (s : State) : Out := live s fun s =>
  match s.sb.access with
  | none => s
  | some (write, off, v) =>
    sbDone true write off v { s with sb.access := none }

/-- DYNAMIC_ADDRESS_ASSIGNMENT: ENTDAA or SETDASA gives the I3C target its dynamic address (R225). -/
def execDynamicAddressAssignment (addr : Fin 128) (s : State) : Out := live s fun s =>
  if s.b F.GLB_SBCFG_I3C_EN 0 then { s with sb.dyn := some addr.val } else s

/-- IO_BANK_SWITCH: the level that waits for the I3C bus is applied to bank 0 (R445). -/
def execIoBankSwitch (s : State) : Out := live s fun s =>
  match s.sb.levelWait with
  | some l => { s with sb.levelWait := none }.setBitf F.GLB_IOCFG_LEVEL 0 0 (l % 2 == 1)
  | none => s

/-! ### MCTP (R224; log entry 20) -/

/-- The endpoint receives MCTP: it exists and its upstream link is up. -/
def mctpUp (s : State) (v : Nat) : Bool :=
  fnPresent s v fnMep && (match vsDef s v with | some d => linkUp s d.up | none => false)

/-- The endpoint ID of a management endpoint. -/
def mctpEid (s : State) (v : Nat) : Nat := SMap.get 0 s.sb.eid v

/-- Sends an MCTP message to a requester: the DSP0236 header of a single packet and the body. -/
def mctpSend (v : Nat) (tgt : MctpFrom) (body : List Byte) (s : State) : State :=
  let data := leBytes 1 1 ++ [tgt.eid] ++ leBytes (mctpEid s v) 1 ++ leBytes (0xC0 + tgt.tag.val) 1 ++ body
  mepSend v { Tlp.blank with
    kind := .msg, hdr := 16, code := 0x7F, route := 2, bdf := tgt.rid, laddr := 0x1AB4, data := data, len := data.length } s

/-- A response to a control command: completion code and data. -/
def mctpReply (v : Nat) (from_ : MctpFrom) (cmd cc : Nat) (data : List Byte) (s : State) : State :=
  mctpSend v from_ ([0] ++ leBytes from_.inst.val 1 ++ leBytes cmd 1 ++ leBytes cc 1 ++ data) s

/-- SET_ENDPOINT_ID: the bus owner assigns the endpoint ID; 0x00 and 0xFF are refused as invalid data. -/
def execSetEndpointId (v : VsId) (from_ : MctpFrom) (eid : Byte) (s : State) : Out := live s fun s =>
  let v := v.val
  if !mctpUp s v then s
  else if eid = 0 || eid = 0xFF then mctpReply v from_ 0x01 0x02 [] s
  else
    let s := { s with sb.eid := SMap.put 0 s.sb.eid v eid.toNat }
    mctpReply v from_ 0x01 0 [0, eid, 0] s
/-- GET_ENDPOINT_ID. -/
def execGetEndpointId (v : VsId) (from_ : MctpFrom) (s : State) : Out := live s fun s =>
  let v := v.val
  if mctpUp s v then mctpReply v from_ 0x02 0 (leBytes (mctpEid s v) 1 ++ [0, 0]) s else s
/-- GET_ENDPOINT_UUID. -/
def execGetEndpointUuid (v : VsId) (from_ : MctpFrom) (s : State) : Out := live s fun s =>
  let v := v.val
  if mctpUp s v then mctpReply v from_ 0x03 0 (leBytes (Config.mctpUuid v) 16) s else s
/-- GET_MCTP_VERSION_SUPPORT: of the base specification (0xFF), of control (0x00) and of type 0x7E. -/
def execGetMctpVersionSupport (v : VsId) (from_ : MctpFrom) (ty : Byte) (s : State) : Out := live s fun s =>
  let v := v.val
  if !mctpUp s v then s
  else if ty = 0xFF || ty = 0 || ty = 0x7E then
    mctpReply v from_ 0x04 0 ([1] ++ leBytes (Config.mctpVersion ty.toNat) 4) s
  else mctpReply v from_ 0x04 0x80 [] s
/-- GET_MESSAGE_TYPE_SUPPORT: type 0x7E. -/
def execGetMessageTypeSupport (v : VsId) (from_ : MctpFrom) (s : State) : Out := live s fun s =>
  let v := v.val
  if mctpUp s v then mctpReply v from_ 0x05 0 [1, 0x7E] s else s

/-- MCTP_VENDOR_MESSAGE: a message of type 0x7E with GLB_ID.VENDOR submits its descriptor as a command; the response carries the
outcome of acceptance and the sequence number (R224, R332). -/
def execMctpVendorMessage (v : VsId) (from_ : MctpFrom) (vendor : BitVec 16) (desc : List Byte) (s : State) : Out :=
  live s fun s =>
  let w := v.val
  if !mctpUp s w || vendor.toNat != s.f F.GLB_ID_VENDOR 0 || desc.length != 64 then s else
  match vsDef s w with
  | none => s
  | some d =>
    let org : Origin := .mctp v d.up from_.rid (Fin.ofNat 512 (tenantOf s d.up from_.rid none))
    let s := submit org desc s
    mctpSend w from_ ([0x7E] ++ leBytes (s.f F.JNL_CMDRES_STATE w) 1 ++ leBytes (s.f F.JNL_CMDRES_RESULT w) 2
      ++ leBytes (s.rd64 .JNL_CMDSEQ (2 * w)) 8) s

end Sys2Proof.Machine
end

