-- ==== Sys2Proof/Machine/ContainRows.lean ====
section
/-! DEFINITION. Error records at the keeper, span closures by their cause, and the failure of engines and clusters (R255 to R260,
R263, R264, R271 to R273). -/

namespace Sys2Proof.Machine

/-! ### Error records at the keeper (R255 to R260) -/

/-- The number after a record number or a log entry number: 1 to 2^32 − 1. -/
def nextSeq32 (n : Nat) : Nat := n % (2 ^ 32 - 1) + 1

/-- Writes the newest record of a class (Table CONT-10). -/
def errLast (c num : Nat) (r : ErrRec) (s : State) : State :=
  let s := s.wr .GLB_ERRLAST (4 * c) (BitVec.ofNat 32 num)
  let s := s.wr .GLB_ERRLAST (4 * c + 1) (BitVec.ofNat 32 (r.cause * 2 ^ 24 + r.unit % 65536))
  let s := s.wr .GLB_ERRLAST (4 * c + 2) (BitVec.ofNat 32 r.time)
  s.wr .GLB_ERRLAST (4 * c + 3) (BitVec.ofNat 32 num)

/-- The virtual switches that a record affects, beside the configuration owner (R256): a refusal of a gate affects that of the TLP's
ingress port. -/
def errVs (s : State) (r : ErrRec) : List Nat :=
  let c := r.cause
  let present := (vsList s).filter (fun v => fnPresent s v fnMep)
  if c = 0x02 || c = 0x03 || c = 0x17 || (0x21 ≤ c && c ≤ 0x23) || causeClass c = 3 then present
  else if c = 0x18 then []
  else if c = 0x14 then r.vs.toList.filter (fun v => present.contains v)
  else ((vsOfPort s r.unit).toList).filter (fun v => present.contains v)

/-- The AER report of a record where its source has not made one (R254, R256): unit failures at every upstream port, link repairs and
closures of a link at its port, TLP losses at the ingress port. -/
def errAer (r : ErrRec) (s : State) : State :=
  match r.cause with
  | 0x02 | 0x03 => forEach (vsList s) (fun v s => aerCor v fnUp aerCorInternal s) s
  | 0x04 | 0x05 => match fnOfPort s r.unit with
    | some (v, fn) => aerCor v fn aerCorInternal s
    | none => s
  | 0x21 | 0x22 | 0x23 => forEach (vsList s) (fun v s => aerUnc v fnUp aerInternal s) s
  | 0x11 | 0x12 | 0x15 | 0x16 => aerPort r.unit aerInternal s
  | 0x13 => aerPort r.unit aerAbort s
  | _ => s

/-- The default vector of a class (Table CONT-2). -/
def classVec (c : Nat) : Nat := if c = 0 then 3 else if c = 1 then 4 else 5

/-- The pier in which a record's unit lies, if it is a port, a pier or an engine. -/
def errPier (r : ErrRec) : Option Nat :=
  match r.cause with
  | 0x03 | 0x17 => some (r.unit / 8)
  | 0x21 | 0x23 => some r.unit
  | 0x04 | 0x05 | 0x10 | 0x11 | 0x12 | 0x13 | 0x15 | 0x16 | 0x19 | 0x20 => some (r.unit / 16)
  | 0x14 => if r.unit < 128 then some (r.unit / 16) else none
  | _ => none

/-- The CONTAIN duty that takes the ERROR event of a record: that of the unit's pier, otherwise the first pier's that has one
(log entry 21). -/
def errDuty (s : State) (r : ErrRec) : Option (Nat × Nat) :=
  let own := (errPier r).bind (fun n => (dutyOfKind s (n % 8) 3).map (fun d => (n % 8, d)))
  match own with
  | some e => some e
  | none => (List.range 8).findSome? (fun n => (dutyOfKind s n 3).map (fun d => (n, d)))

/-- A record that reaches the keeper: numbered, held as the newest of its class, journalled (kind 6), offered to the triggers, and
reported through AER, MSI-X, ALERT_N and the ERROR event (R255, R256, R258 to R260, R355). -/
def keeperRecord (r : ErrRec) (s : State) : State :=
  let num := nextSeq32 s.err.num
  let c := causeClass r.cause
  let s := errLast c num r { s with err.num := num }
  let s := s.setBitf F.GLB_ERRSTAT_SEEN 0 c true
  let s := keeperEntry ⟨6, jNone, JOrg.keeper, 0, r.cause, num, r.unit % 65536 + 2 ^ 64 * r.time⟩ s
  let s := trigEvent 1 r.cause (r.time, r.approx) s
  let s := if c ≥ 2 then flushStart s else s
  let s := errAer r s
  let src := classVec c
  let s := forEach (errVs s r ++ ownerVs s).eraseDups (fun v s => msixRaise v (vecOf s src) s) s
  let s := refreshAlert s
  match errDuty s r with
  | some (n, d) => offer n d (.error num r.cause r.unit r.time) s
  | none => s

/-- ERROR_RECORD: the oldest record of an island's FIFO reaches the keeper. -/
def execErrorRecord (isl : IslandId) (s : State) : Out := live s fun s =>
  match SMap.get [] s.err.fifo isl.val with
  | [] => s
  | r :: rest => keeperRecord r { s with err.fifo := SMap.put [] s.err.fifo isl.val rest }

/-! ### Closures and failures -/

/-- SPAN_CLOSURE: a port closes with a cause 1 to 7 of Table CONT-4; a trigger on a closed port is journalled (R263; log entry 22). -/
def execSpanClosure (p : PortId) (cause : Fin 7) (s : State) : Out := live s fun s =>
  if s.b F.PIR_CLOSE_CLOSED p.val then closedEntry p.val s else spanClose p.val (cause.val + 1) s

/-- ENGINE_FAILURE: the supervisor marks an engine failed (R271). -/
def execEngineFailure (g : EngId) (s : State) : Out := live s fun s =>
  if domOn s (48 + g.val / 8) then engineFailed g.val s else s

/-- ENGINE_CLUSTER_FAILURE: a cluster fails (R273). -/
def execEngineClusterFailure (n : PierId) (s : State) : Out := live s fun s => clusterFail n.val s

/-- FAILURE_MIGRATION_COMPLETE: the last duty of a failed engine (0 to 63) or cluster (64 + n) has moved (R271). -/
def execFailureMigrationComplete (u : Fin 72) (s : State) : Out := live s fun s =>
  if (SMap.find? s.eng.failCause u.val).isSome then endFailure u.val s else s

end Sys2Proof.Machine
end

