-- ==== Sys2Proof/Machine/RecRows.lean ====
section
/-! DEFINITION. Events of the recorder and of the performance counters (R350, R351, R355, R358, R362, R366, R367). -/

namespace Sys2Proof.Machine

/-! ### Records (R350, R351) -/

/-- Reads entry `i` of a trigger's list as the keeper: the word and whether it could not be read (R351). -/
def listWord (t i : Nat) (a : List Word × Nat × State) : List Word × Nat × State :=
  let x := regRead .keeper (a.2.2.f F.REC_TRGLIST_OFFSET (64 * t + i)) a.2.2
  if x.1 = 0 then (a.1 ++ [x.2.1], a.2.1, x.2.2) else (a.1 ++ [BitVec.allOnes 32], a.2.1 + 2 ^ i, x.2.2)

/-- The snapshot words of a trigger. -/
def listWords (t : Nat) (s : State) : List Word × Nat × State :=
  (List.range (min 64 (s.f F.REC_TRGCFG_WORDS t))).foldl (fun a i => listWord t i a) ([], 0, s)

/-- Builds the record of a firing and writes it (R351, R353). -/
def buildRecord (b : RBuild) (s : State) : State :=
  let t := b.trigger
  let snapped := s.b F.REC_TRGCFG_SNAP t
  let id := if snapped then s.f F.PMC_STAT_SNAPID 0 else 0
  let x := listWords t s
  let r : RRec := { RRec.blank with
    trigger := t, src := b.src, type := 0, snapped := snapped, snapId := id, value := b.value % 2 ^ 16, time := b.time, approx := b.approx,
    miss := x.2.1, snap := x.1 }
  let s := (putRecord r x.2.2).satf F.REC_TRGCNT_RECORDS t 1
  let s := { s with rcd.holdR := s.rcd.holdR.filter (· != t) }
  if s.b F.REC_TRGCFG_FLUSH t then flushStart s else s

/-- Two firings are of one event. -/
def sameEvent (a b : RBuild) : Bool := a.src == b.src && a.value == b.value && a.time == b.time

/-- RECORD_COMPLETE: the records of the oldest event whose records are being built are written, in ascending trigger number with
consecutive SEQ (R350); where one has SNAP they wait for the snapshot to end (R351). -/
def execRecordComplete (s : State) : Out := live s fun s =>
  match s.rcd.build with
  | [] => s
  | b :: _ =>
    let group := s.rcd.build.takeWhile (sameEvent b)
    if group.any (fun x => s.b F.REC_TRGCFG_SNAP x.trigger) && s.b F.PMC_STAT_PENDING 0 then s
    else forEach group buildRecord { s with rcd.build := s.rcd.build.dropWhile (sameEvent b) }

/-- HOLDOFF_EXPIRY: the hold-off time of a trigger has passed (R350). -/
def execHoldoffExpiry (t : TrigId) (s : State) : Out := live s fun s =>
  { s with rcd.holdT := s.rcd.holdT.filter (· != t.val) }

/-! ### Flushes (R355) -/

/-- Ends a flush. -/
def endFlush (s : State) : State := { s with rcd.flushing := false }.setf F.REC_STAT_FLUSH_BUSY 0 0

/-- FLUSH_COMPLETE: the flush has caught up with the keeper ring or copied 512 KiB; a suspended flush does not end. -/
def execFlushComplete (s : State) : Out := live s fun s =>
  if !s.rcd.flushing || s.rcd.susp then s
  else endFlush (refreshUnflushed (flushCopy (unflushed s) 0 s).1)

/-! ### The prefetch-discard log (R358) -/

/-- PREFETCH_DISCARD_ENTRY: the oldest entry of a pier's FIFO takes the place of the oldest of the log. -/
def execPrefetchDiscardEntry (n : PierId) (s : State) : Out := live s fun s =>
  match SMap.get [] s.rcd.pfifo n.val with
  | [] => s
  | e :: rest =>
    let s := { s with rcd.pfifo := SMap.put [] s.rcd.pfifo n.val rest }
    let i := s.f F.REC_PFSTAT_NEXT 0
    let seq := BitVec.ofNat 32 (nextSeq32 (s.rd .REC_PFLOG (8 * ((i + 255) % 256))).toNat)
    let s := s.wr .REC_PFLOG (8 * i) seq
    let s := forRange 6 (fun k s => s.wr .REC_PFLOG (8 * i + 1 + k) (BitVec.ofNat 32 (e.words.getD k 0))) s
    (s.wr .REC_PFLOG (8 * i + 7) seq).setf F.REC_PFSTAT_NEXT 0 ((i + 1) % 256)

/-! ### Counters (R362, R366, R367) -/

/-- The number of the snapshot that an action takes: from 1, wrapping from 0xFFFF to 1. -/
def nextSnap (s : State) : Nat := s.f F.PMC_STAT_SNAPID 0 % 65535 + 1

/-- The cycle counter of a block set to a value from now on. -/
def setCycles (b v : Nat) (s : State) : State :=
  if s.pmc.frozen.contains b then { s with pmc.frozenAt := SMap.put 0 s.pmc.frozenAt b v }
  else
    let mhz := blockMHz b
    { s with pmc.cycBase := SMap.put 0 s.pmc.cycBase b (s.env.now - (v * 1000 + mhz - 1) / mhz) }

/-- A block copies its live counters, its cycle counter and its OVF bits to its shadow. -/
def blockSnap (b : Nat) (s : State) : State :=
  let s := forRange 16 (fun j s => s.wr .PMC_SCNT (16 * b + j) (s.rd .PMC_CNT (16 * b + j))) s
  let s := s.wr64 .PMC_SCYC (2 * b) (blockCycles s b)
  (s.setf F.PMC_SOVF_OVF b (s.f F.PMC_BSTAT_OVF b)).setf F.PMC_BSTAT_SNAPID b (nextSnap s)

/-- A block acts on the bits of PMC_CMD: 0 SNAP, 1 FREEZE, 2 THAW, 3 CLEAR. -/
def blockAct (bits b : Nat) (s : State) : State :=
  if !blockOn s b then s else
  let s := if bits.testBit 0 || bits.testBit 1 then blockSnap b s else s
  let s := if bits.testBit 1 && !s.pmc.frozen.contains b then
      let c := blockCycles s b
      setCycles b c { s with pmc.frozen := s.pmc.frozen ++ [b] }
    else s
  let s := if bits.testBit 2 && s.pmc.frozen.contains b then
      let c := blockCycles s b
      let s := { s with pmc.frozen := s.pmc.frozen.filter (· != b), pmc.frozenAt := SMap.put 0 s.pmc.frozenAt b 0 }
      setCycles b c s
    else s
  if bits.testBit 3 then
    let s := forRange 16 (fun j s => s.clearReg .PMC_CNT (16 * b + j)) s
    setCycles b 0 (s.setf F.PMC_BSTAT_OVF b 0)
  else s

/-- Every block acts, and FROZEN follows. A block that is off when the counters thaw is thawed with them. -/
def pmcAct (bits : Nat) (s : State) : State :=
  let s := forRange 129 (blockAct bits) s
  let s := if bits.testBit 1 then s.setf F.PMC_STAT_FROZEN 0 1 else s
  if bits.testBit 2 then { s with pmc.frozen := [], pmc.frozenAt := [] }.setf F.PMC_STAT_FROZEN 0 0 else s

/-- An action holds a snapshot: bits 0 and 1, or 4 once it has struck. -/
def tookSnap (bits : Nat) : Bool := bits.testBit 0 || bits.testBit 1 || bits.testBit 4

/-- STRIKE_TIME: the pending action strikes (R366). -/
def execStrikeTime (s : State) : Out := live s fun s =>
  if !s.b F.PMC_STAT_PENDING 0 || s.pmc.struck then s else
  let bits := s.pmc.action
  let s := pmcAct bits s
  { s with pmc.struck := true, pmc.action := if tookSnap bits then 16 else 0 }

/-- SNAPSHOT_DONE: every block has acted, on what joined since the strike too; PENDING clears, and a snapshot shows its number and
its time (R366, R367). -/
def execSnapshotDone (s : State) : Out := live s fun s =>
  if !s.b F.PMC_STAT_PENDING 0 || !s.pmc.struck then s else
  let bits := s.pmc.action
  let s := if bits % 16 = 0 then s else pmcAct (bits % 16) s
  let s := s.setf F.PMC_STAT_PENDING 0 0
  let s := { s with pmc.struck := false, pmc.action := 0 }
  if tookSnap bits then (s.setf F.PMC_STAT_SNAPID 0 (nextSnap s)).wr64 .PMC_SNAPTIME 0 s.pmc.strike else s

/-- COUNTER_OVERFLOW: counter `k` of a block passes its top and wraps to 0 (R362). -/
def execCounterOverflow (b : BlockId) (k : Fin 8) (s : State) : Out := live s fun s =>
  if !blockOn s b.val || s.pmc.frozen.contains b.val || !s.b F.PMC_EVT_EN (8 * b.val + k.val) then s
  else counterWrap b.val k.val (s.wr64 .PMC_CNT (16 * b.val + 2 * k.val) 0)

end Sys2Proof.Machine
end

