-- ==== Sys2Proof/Machine/EngRows.lean ====
section
/-! DEFINITION. The pier engines: handlers, traps and watchdogs, timers, kept events and the intrinsics (R283 to R296, R336). What
a program does between its intrinsics is the image's own. -/

namespace Sys2Proof.Machine

/-! ### Handlers (R283, R286) -/

/-- The handler of the selected event runs, if the event is of the kind named (event 0x206). -/
def enterHandler (g num : Nat) (s : State) : State :=
  match SMap.find? s.eng.cur g with
  | some ⟨q, false, d, a⟩ =>
    if q.ev.number = num && engRuns s g then
      let s := count (40 + g) 0x206 (fun u => u == 0 || (u == 1 && q.ev.urgent)) 1 s
      { s with eng.cur := SMap.ins s.eng.cur g ⟨q, true, d, a⟩ }
    else s
  | _ => s

/-- The configuration request whose handler is about to be entered. -/
def enteringCfg (s : State) (g : Nat) : Option CfgReq :=
  match SMap.find? s.eng.cur g with
  | some ⟨⟨_, _, .cfg true r⟩, false, _, _⟩ => if engRuns s g then some r else none
  | _ => none

/-- The engine notes whether the write of its configuration request was applied. -/
def noteApplied (g : Nat) (done : Bool) (s : State) : State :=
  match SMap.find? s.eng.cur g with
  | some i => { s with eng.cur := SMap.ins s.eng.cur g { i with applied := done } }
  | none => s

/-- START. -/
def execStart (g : EngId) (s : State) : Out := live s fun s => enterHandler g.val 0x00 s
/-- CFG_READ. -/
def execCfgRead (g : EngId) (s : State) : Out := live s fun s => enterHandler g.val 0x01 s
/-- CFG_WRITE: the write and its hardware effects are carried out (R175, R176). -/
def execCfgWrite (g : EngId) (s : State) : Out := live s fun s =>
  match enteringCfg s g.val with
  | some r => cfgWriteServe r (noteApplied g.val (cfgTakes s r).isSome (enterHandler g.val 0x02 s))
  | none => s
/-- ERROR. -/
def execError (g : EngId) (s : State) : Out := live s fun s => enterHandler g.val 0x03 s
/-- COMMAND. -/
def execCommand (g : EngId) (s : State) : Out := live s fun s => enterHandler g.val 0x04 s
/-- MESSAGE. -/
def execMessage (g : EngId) (s : State) : Out := live s fun s => enterHandler g.val 0x05 s
/-- CONTROL. -/
def execControl (g : EngId) (s : State) : Out := live s fun s => enterHandler g.val 0x06 s
/-- FOOTWAY. -/
def execFootway (g : EngId) (s : State) : Out := live s fun s => enterHandler g.val 0x07 s
/-- TLP. -/
def execTlp (g : EngId) (s : State) : Out := live s fun s => enterHandler g.val 0x08 s
/-- TIMER. -/
def execTimer (g : EngId) (s : State) : Out := live s fun s => enterHandler g.val 0x09 s
/-- LINK. -/
def execLink (g : EngId) (s : State) : Out := live s fun s => enterHandler g.val 0x0A s
/-- SLOT. -/
def execSlot (g : EngId) (s : State) : Out := live s fun s => enterHandler g.val 0x0B s
/-- LANE. -/
def execLane (g : EngId) (s : State) : Out := live s fun s => enterHandler g.val 0x0C s
/-- COUNTER. -/
def execCounter (g : EngId) (s : State) : Out := live s fun s => enterHandler g.val 0x0D s
/-- STOP. -/
def execStop (g : EngId) (s : State) : Out := live s fun s => enterHandler g.val 0x0E s
/-- CONTINUE. -/
def execContinue (g : EngId) (s : State) : Out := live s fun s => enterHandler g.val 0x0F s

/-- What the configuration space answers to a request (R174, R177, R178): status and data. A write that was applied is answered so, even
where it started a reset of its function (R176). -/
def cfgAnswer (s : State) (r : CfgReq) (applied : Bool) : Nat × List Byte :=
  if applied then (stSC, []) else
  match cfgFn r.tlp with
  | none => (stUR, [])
  | some fn =>
    if !fnPresent s r.vs fn then (stUR, [])
    else if s.host.crs.contains (r.vs * 64 + fn) then (stCRS, [])
    else (stSC, if r.tlp.kind = .cfgWr then [] else leBytes (cfgRd s r.vs fn (cfgOff r.tlp)).toNat 4)

/-- The engine leaves its handler: a preempted one resumes, otherwise the next event is taken (R286). -/
def nextHandler (g : Nat) (s : State) : State :=
  match SMap.find? s.eng.preempted g with
  | some j => { s with eng.cur := SMap.ins s.eng.cur g j, eng.preempted := SMap.del s.eng.preempted g }
  | none => selectNext g s

/-- HANDLER_END: a configuration request that the program has not completed through eng_cfg_done is answered from the configuration
space (log entry 24). -/
def execHandlerEnd (g : EngId) (s : State) : Out := live s fun s =>
  match SMap.find? s.eng.cur g.val with
  | some ⟨q, true, d, a⟩ =>
    if !engRuns s g.val then s else
    nextHandler g.val (match q.ev with
      | .cfg _ r => if d then s else
        let x := cfgAnswer s r a
        cfgComplete r x.1 x.2 s
      | _ => s)
  | _ => s

/-- URGENT_PREEMPTION: a normal handler makes way for an urgent event (R286). -/
def execUrgentPreemption (g : EngId) (s : State) : Out := live s fun s =>
  match SMap.find? s.eng.cur g.val with
  | some i =>
    if engRuns s g.val && !i.q.ev.urgent && (SMap.find? s.eng.preempted g.val).isNone &&
        (engQ s g.val).any (fun (e : QEv) => e.ev.urgent && !noHandler s g.val e) then
      selectNext g.val { s with eng.preempted := SMap.ins s.eng.preempted g.val i }
    else s
  | none => s

/-- EVENT_QUEUE_ROOM: the source that has waited longest for room at an engine offers its event again (R285). -/
def execEventQueueRoom (g : EngId) (s : State) : Out := live s fun s =>
  match s.eng.kept.find? (fun (e : QEv) => dutyEng s e.pier e.duty == g.val && engRoom s g.val e.ev) with
  | some e => offer e.pier e.duty e.ev { s with eng.kept := s.eng.kept.erase e }
  | none => s

/-- PLANNED_MIGRATION_COMPLETE: the STOP handlers have run and the duties take their new engine (R296). -/
def execPlannedMigrationComplete (g : EngId) (s : State) : Out := live s fun s =>
  let isStop (e : QEv) : Bool := match e.ev with | .stop _ => true | _ => false
  let running := match SMap.find? s.eng.cur g.val with | some i => isStop i.q | none => false
  if engSt s g.val != 4 || running || (engQ s g.val).any isStop then s else endPlanned g.val s

/-! ### Traps and watchdogs (R294, R295) -/

/-- The cause code of Table ENG-7. -/
def Trap.code : Trap → Nat
  | .undefined => 0x01 | .fetch => 0x02 | .store => 0x03 | .localWord => 0x04
  | .address => 0x10 | .misaligned => 0x11 | .divide => 0x12 | .dutyWord => 0x13

/-- A trap of these codes is fatal. -/
def trapFatal (code : Nat) : Bool := code < 0x10

/-- Records a trap (Tables ENG-10 and ENG-11). -/
def recordTrap (g code : Nat) (pc : Word) (s : State) : State :=
  let s := s.satf F.ENG_TRAP_COUNT g 1
  if s.b F.ENG_TRAP_VALID g then s else
  let s := (s.setf F.ENG_TRAP_VALID g 1).setf F.ENG_TRAP_FATAL g (if trapFatal code then 1 else 0)
  (s.setf F.ENG_TRAP_CAUSE g code).wr .ENG_TRAPPC g pc

/-- A non-fatal trap ends the handler's event: a configuration request with Completer Abort, a command FAILED, any other discarded. -/
def trapEvent (i : Inv) (s : State) : State :=
  match i.q.ev with
  | .cfg _ r => if i.done then s else cfgAbort r s
  | .command q =>
    if s.eng.cmds.any (fun (e : Nat × Nat) => e.1 == q) then
      failCmd q resProgram { s with eng.cmds := s.eng.cmds.filter (fun (e : Nat × Nat) => e.1 != q) }
    else s
  | _ => s

/-- A non-fatal trap; the sixteenth within 1 ms fails the engine. -/
def softTrap (g : Nat) (i : Inv) (code : Nat) (s : State) : State :=
  let recent := (SMap.get [] s.eng.traps g).filter (fun t => s.env.now < t + 1000000) ++ [s.env.now]
  let s := { s with eng.traps := SMap.put [] s.eng.traps g recent }
  let s := nextHandler g (trapEvent i s)
  let s := if code = 0x13 then liveFault i.q.pier 0x15 (pierClose i.q.pier s) else s
  if recent.length ≥ 16 then engineFailed g s else s

/-- ENGINE_TRAP: the instruction at `pc` of a running handler traps; an uncorrectable local-memory word traps at any time. -/
def execEngineTrap (g : EngId) (t : Trap) (pc : Word) (s : State) : Out := live s fun s =>
  let g := g.val
  if !engRuns s g then s else
  if trapFatal (Trap.code t) then
    if t = .localWord || (SMap.find? s.eng.cur g).any (·.entered) then engineFailed g (recordTrap g (Trap.code t) pc s) else s
  else match SMap.find? s.eng.cur g with
    | some ⟨q, true, d, a⟩ => softTrap g ⟨q, true, d, a⟩ (Trap.code t) (recordTrap g (Trap.code t) pc s)
    | _ => s

/-- WATCHDOG_EXPIRY: the running handler exceeds its limit, cause 0x05 for an urgent and 0x06 for a normal one. -/
def execWatchdogExpiry (g : EngId) (pc : Word) (s : State) : Out := live s fun s =>
  match SMap.find? s.eng.cur g.val with
  | some ⟨q, true, _, _⟩ =>
    if engRuns s g.val then engineFailed g.val (recordTrap g.val (if q.ev.urgent then 0x05 else 0x06) pc s) else s
  | _ => s

/-- DUTY_TIMER_EXPIRY: an armed timer sets its duty's flag; a periodic one runs on (R289). -/
def execDutyTimerExpiry (n : PierId) (d : DutyId) (t : Fin 4) (s : State) : Out := live s fun s =>
  let k := 4 * dutyKey n.val d.val + t.val
  match SMap.find? s.eng.timer k with
  | none => s
  | some x =>
    let tm := if x.period = 0 then SMap.del s.eng.timer k else SMap.ins s.eng.timer k ⟨x.due + x.period, x.period⟩
    offer n.val d.val (.timer t.val) { s with eng.timer := tm }

/-! ### Intrinsics (R287, Tables ENG-4 and ENG-5) -/

/-- Status codes of Table ENG-5. -/
abbrev engOk : Nat := 0
/-- LOCKED. -/
abbrev engLocked : Nat := 3
/-- REFUSED. -/
abbrev engRefused : Nat := 4
/-- BUSY. -/
abbrev engBusy : Nat := 5
/-- BADARG. -/
abbrev engBad : Nat := 6
/-- NOLINK. -/
abbrev engNolink : Nat := 7

/-- An intrinsic of a running handler: its status is what the program sees. -/
def intrinsic (g : EngId) (f : QEv → State → Nat × State) (s : State) : State :=
  match SMap.find? s.eng.cur g.val with
  | some ⟨q, true, _, _⟩ =>
    if !engRuns s g.val then s else
    let x := f q s
    { x.2 with eng.lastStatus := SMap.put 0 x.2.eng.lastStatus g.val x.1 }
  | _ => s

/-- The value that an intrinsic returns. -/
def engValue (g : EngId) (v : Nat) (s : State) : State :=
  { s with eng.lastValue := SMap.put 0 s.eng.lastValue g.val v }

/-- The origin of an engine's accesses (R288). -/
def engOrg (g : EngId) (q : QEv) : Origin := .engine g (Fin.ofNat 64 q.duty)

/-- eng_reg_read. -/
def execEngRegRead (g : EngId) (off : Nat) (s : State) : Out := live s <| intrinsic g fun q s =>
  if (regAt off).isNone then (engBad, s) else
  let x := regRead (engOrg g q) off s
  (x.1, engValue g x.2.1.toNat x.2.2)

/-- The status of a register write by an engine (Table ENG-5). -/
def regWriteStatus (off : Nat) (w : RegW) (s : State) : Nat :=
  match regAt off with
  | none => engBad
  | some (r, i) =>
    let i := bankedIdx w.org r i
    let m := writable r i
    let st := accessStatus false s r i
    if st != accOk then st
    else if locked s r i then engLocked
    else if (m.rw ||| m.rwl ||| m.w1c ||| m.w1s ||| m.wo) &&& beBits w.be = 0 then engRefused
    else if !r.silent && mustHold s (islandOf (r.domain i)) then engOk
    else if (regEffect r (wrCtx r i w s) s).2 then engOk else engRefused

/-- eng_reg_write: journalled whatever its status (R288). -/
def execEngRegWrite (g : EngId) (off : Nat) (val : Word) (be : BitVec 4) (s : State) : Out :=
  live s <| intrinsic g fun q s =>
    let w : RegW := ⟨engOrg g q, be, val⟩
    (regWriteStatus off w s, (regWrite off w s).2)

/-- The status with which a pier's tables answer (R36, R38). -/
def pierAccess (s : State) (n : Nat) : Nat :=
  if !domOn s (32 + n) then accOff else if islandFailed s n then accLost else accOk

/-- A pier has the table entry: the configuration store holds the functions of the virtual switches it serves. -/
def EngTab.has (t : EngTab) (s : State) (n : Nat) : Bool :=
  match t with
  | .config v fn _ => fnPresent s v.val fn.val && (match vsDef s v.val with | some d => pierOf d.up == n | none => false)
  | .mcast _ _ => (dutyOfKind s n 6).isSome
  | .image _ _ => true

/-- The value of a table entry. -/
def EngTab.read (t : EngTab) (s : State) (n : Nat) : Nat :=
  match t with
  | .config v fn dw => (cfgRd s v.val fn.val (4 * dw.val)).toNat
  | .mcast v grp => SMap.get 0 s.fab.mcast ((64 * n + v.val) * 64 + grp.val)
  | .image tab i => SMap.get 0 s.eng.table ((n * 256 + tab.val) * 65536 + i.val)

/-- A table entry written. -/
def EngTab.write (t : EngTab) (n v : Nat) (s : State) : State :=
  match t with
  | .config vs fn dw => cfgSet vs.val fn.val (4 * dw.val) (BitVec.ofNat 32 v) s
  | .mcast vs grp => { s with fab.mcast := SMap.put 0 s.fab.mcast ((64 * n + vs.val) * 64 + grp.val) (v % 2 ^ 128) }
  | .image tab i => { s with eng.table := SMap.put 0 s.eng.table ((n * 256 + tab.val) * 65536 + i.val) v }

/-- Bits [23:0] of the journal's CODE for a table entry (Table JNL-2; log entry 23). -/
def EngTab.code (t : EngTab) : Nat :=
  match t with
  | .config v fn dw => Config.tableCode ((v.val * 64 + fn.val) * 1024 + dw.val) % 2 ^ 24
  | .mcast v grp => Config.tableCode (2 ^ 24 + v.val * 64 + grp.val) % 2 ^ 24
  | .image tab i => tab.val * 65536 + i.val

/-- eng_tbl_read. -/
def execEngTblRead (g : EngId) (n : PierId) (t : EngTab) (s : State) : Out := live s <| intrinsic g fun _ s =>
  let st := pierAccess s n.val
  if st != accOk then (st, s)
  else if !EngTab.has t s n.val then (engBad, s)
  else (engOk, engValue g (EngTab.read t s n.val) s)

/-- The kind-5 entry of a table write: the first 16 bytes of the new entry (Table JNL-2). -/
def tableEntry (s : State) (org : Origin) (n : Nat) (t : EngTab) (status result v : Nat) : JReq :=
  ⟨5, status, Origin.jorg org, result, n * 2 ^ 24 + EngTab.code t, engineRef s org, v % 2 ^ 128⟩

/-- eng_tbl_write: it waits while its island's journal FIFO is full (R330), and is journalled whatever its status (R288). -/
def execEngTblWrite (g : EngId) (n : PierId) (t : EngTab) (data : List Byte) (s : State) : Out := live s fun s =>
  if mustHold s n.val then s else
  intrinsic g (fun q s =>
    let v := leNum data
    let org := engOrg g q
    let st := pierAccess s n.val
    if st != accOk then (st, keeperEntry (tableEntry s org n.val t jFailed st v) s)
    else if !EngTab.has t s n.val then (engBad, keeperEntry (tableEntry s org n.val t jFailed 0 v) s)
    else (engOk, jPush n.val (tableEntry s org n.val t jDone 0 v) (EngTab.write t n.val v s))) s

/-- The completion status of eng_cfg_done. -/
def CfgEnd.status : CfgEnd → Nat
  | .success => stSC | .unsupported => stUR | .abort => stCA | .retry => stCRS

/-- eng_cfg_done: once in each CFG handler. -/
def execEngCfgDone (g : EngId) (st : CfgEnd) (data : Word) (s : State) : Out := live s <| intrinsic g fun q s =>
  match q.ev, SMap.find? s.eng.cur g.val with
  | .cfg wr r, some ⟨q, e, false, a⟩ =>
    let s := { s with eng.cur := SMap.ins s.eng.cur g.val ⟨q, e, true, a⟩ }
    (engOk, cfgComplete r (CfgEnd.status st) (if st = .success && !wr then leBytes data.toNat 4 else []) s)
  | _, _ => (engBad, s)

/-- A queued event for a duty would find no room. -/
def dutyFull (s : State) (n d : Nat) (e : Ev) : Bool :=
  !s.b F.PIR_DUTY_MOVING (dutyKey n d) && !engRoom s (dutyEng s n d) e

/-- eng_msg_send: 32 bytes to a duty of any pier (R289). -/
def execEngMsgSend (g : EngId) (n : PierId) (d : DutyId) (bytes : List Byte) (s : State) : Out :=
  live s <| intrinsic g fun q s =>
    let e : Ev := .message g.val q.duty bytes
    if bytes.length != 32 || !s.b F.PIR_DUTY_VALID (dutyKey n.val d.val) then (engBad, s)
    else if dutyFull s n.val d.val e then (engBusy, s)
    else (engOk, offer n.val d.val e s)

/-- The header of a control packet of an engine: its first duty operand rides in DST_PORT (log entry 23). -/
def ctlHdr (s : State) (m : Fin 64) (d : DutyId) (response : Bool) (bytes : List Byte) : FabHdr :=
  { kind := if response then 5 else 4, hops := 7, cls := 0, dstMod := m, srcMod := Fin.ofNat 64 (myModule s),
    dstPort := Fin.ofNat 128 d.val, srcPort := 0, vs := 0, ftag := 0, tenant := 0, mask := 0, ctl := bytes }

/-- eng_ctl_send: a control request (KIND 4) or response (KIND 5) of up to 96 bytes to another module. -/
def execEngCtlSend (g : EngId) (m : Fin 64) (d : DutyId) (bytes : List Byte) (response : Bool) (s : State) : Out :=
  live s <| intrinsic g fun q s =>
    if bytes.length > 96 || m.val = myModule s then (engBad, s) else
    match routeOf s q.pier m.val with
    | none => (engNolink, s)
    | some p =>
      if !admits s p (classOf s (ctlTc s)) 1 1 0 then (engBusy, s)
      else (engOk, (sendCtl q.pier (ctlHdr s m d response bytes) s).1)

/-- eng_fw_send: an ENGINE footway message of 28 bytes (R75). -/
def execEngFwSend (g : EngId) (p : PortId) (bytes : List Byte) (s : State) : Out := live s <| intrinsic g fun _ s =>
  if !isFloing s p.val || bytes.length != 28 then (engBad, s)
  else if !flUp s (p.val / 4) then (engNolink, s)
  else (engOk, sendFw (p.val / 4) { FwMsg.blank with ty := 0x40, span := Fin.ofNat 32 (p.val / 4), bytes := bytes } s)

/-- eng_tlp_send: a TLP of up to 256 payload bytes enters the egress queue of its TC, charged to the port's egress account; it meets
no shaper, policer or gate (R290). -/
def execEngTlpSend (g : EngId) (p : PortId) (t : Tlp) (s : State) : Out := live s <| intrinsic g fun _ s =>
  let c : Carried := ⟨t, p.val, p.val, 0, (vsOfPort s p.val).getD 0, none, 0, [], 0⟩
  if !portExists s p.val || isFloing s p.val || t.data.length > 256 then (engBad, s)
  else if !linkUp s p.val || s.b F.PIR_CLOSE_CLOSED p.val then (engNolink, s)
  else if !admits s p.val (classOf s t.tc) 1 c.cells 0 then (engBusy, s)
  else (engOk, inject c s)

/-- eng_timer_set: timer `t` of the current duty, 10 ns to 42.9 s in steps of 10 ns. -/
def execEngTimerSet (g : EngId) (t : Fin 4) (ns : Nat) (periodic : Bool) (s : State) : Out := live s <| intrinsic g fun q s =>
  if ns < 10 || ns > 42900000000 || ns % 10 != 0 then (engBad, s) else
  let k := 4 * dutyKey q.pier q.duty + t.val
  (engOk, { s with eng.timer := SMap.ins s.eng.timer k ⟨s.env.now + ns, if periodic then ns else 0⟩ })

/-- eng_timer_cancel: the timer stops and its pending flag clears. -/
def execEngTimerCancel (g : EngId) (t : Fin 4) (s : State) : Out := live s <| intrinsic g fun q s =>
  let k := 4 * dutyKey q.pier q.duty + t.val
  (engOk, { s with
    eng.timer := SMap.del s.eng.timer k,
    eng.flags := s.eng.flags.filter (fun (e : QEv) => e != (⟨q.pier, q.duty, .timer t.val⟩ : QEv)) })

/-- A counter as eng_cnt_read numbers it (R368). -/
def counterOf (s : State) (b c : Nat) : Option Nat :=
  if c < 8 then some (s.rd64 .PMC_CNT (16 * b + 2 * c))
  else if c = 8 then some (blockCycles s b)
  else if 16 ≤ c && c < 24 then some (s.rd64 .PMC_SCNT (16 * b + 2 * (c - 16)))
  else if c = 24 then some (s.rd64 .PMC_SCYC (2 * b))
  else none

/-- eng_cnt_read. -/
def execEngCntRead (g : EngId) (b : BlockId) (c : Fin 32) (s : State) : Out := live s <| intrinsic g fun _ s =>
  let st := accessStatus false s .PMC_CYC (2 * b.val)
  match counterOf s b.val c.val with
  | none => (engBad, s)
  | some v => if st != accOk then (st, s) else (engOk, engValue g v s)

/-- eng_port_close: span closure with cause 6; a trigger on a closed port is journalled (R263), and a port that is OFF refuses. -/
def execEngPortClose (g : EngId) (p : PortId) (s : State) : Out := live s <| intrinsic g fun q s =>
  if !portExists s p.val then (engBad, s)
  else if s.b F.PIR_CLOSE_CLOSED p.val then
    (engOk, keeperEntry (writeEntry (Origin.jorg (engOrg g q)) jFailed 0 (Reg.offset .PIR_CLOSE p.val)
      (engineRef s (engOrg g q)) 1 0xF (s.rd .PIR_CLOSE p.val)) s)
  else if ltssm s p.val = 0x30 then (engRefused, s)
  else (engOk, spanClose p.val 6 s)

/-- eng_port_release: release under R266; a refused one is journalled FAILED. -/
def execEngPortRelease (g : EngId) (p : PortId) (s : State) : Out := live s <| intrinsic g fun q s =>
  if !portExists s p.val then (engBad, s)
  else if releaseRefused s p.val then
    (engRefused, keeperEntry (writeEntry (Origin.jorg (engOrg g q)) jFailed 0 (Reg.offset .PIR_CLOSE p.val)
      (engineRef s (engOrg g q)) 2 0xF (s.rd .PIR_CLOSE p.val)) s)
  else (engOk, releasePort p.val s)

/-- eng_tenant_close. -/
def execEngTenantClose (g : EngId) (u : TenantId) (s : State) : Out := live s <| intrinsic g fun _ s =>
  (engOk, tenantClose u.val s)
/-- eng_tenant_release. -/
def execEngTenantRelease (g : EngId) (u : TenantId) (s : State) : Out := live s <| intrinsic g fun _ s =>
  (engOk, tenantRelease u.val s)

/-- The steps of a lane margin at a port's rate: those of Table SPAN-3; a Floing port margins as at its rate. -/
def marginOk (s : State) (p lane : Nat) (timing : Bool) (step : Nat) : Bool :=
  let fl := isFloing s p
  let rate := s.f F.SPN_PSTAT_RATE p
  let lanes := if fl then 9 * (spansOf s p).length else lanesOf (s.f F.SPN_PSTAT_WIDTH p)
  lane < lanes && step ≤ marginSteps rate timing && (fl || rate ≥ 4)

/-- eng_margin: one step of the auxiliary sampler, busy while a calibration visit of the span uses it; the result is a free value
(log entry 3). -/
def execEngMargin (g : EngId) (p : PortId) (lane : Fin 18) (timing : Bool) (step : Fin 128) (s : State) : Out :=
  live s <| intrinsic g fun _ s =>
    if !portExists s p.val || !marginOk s p.val lane.val timing step.val then (engBad, s)
    else if !(if isFloing s p.val then flUp s (p.val / 4) else linkUp s p.val) then (engNolink, s)
    else if isFloing s p.val && (spansOf s p.val).any (fun sp => phase s sp != 0) then (engBusy, s)
    else
      let x := s.fresh
      (engOk, engValue g x.1 x.2)

/-- eng_msix: vectors 8 to 63 of a management endpoint (R183, R184). -/
def execEngMsix (g : EngId) (v : VsId) (vec : Fin 64) (s : State) : Out := live s <| intrinsic g fun _ s =>
  if vec.val < 8 || !fnPresent s v.val fnMep then (engBad, s) else (engOk, msixRaise v.val vec.val s)

/-- eng_cmd_done: the duty ends one of its commands COMPLETED or FAILED (R336). -/
def execEngCmdDone (g : EngId) (seq : Nat) (ok : Bool) (s : State) : Out := live s <| intrinsic g fun q s =>
  let e := (seq, dutyKey q.pier q.duty)
  if !s.eng.cmds.contains e then (engBad, s) else
  let s := { s with eng.cmds := s.eng.cmds.filter (fun (x : Nat × Nat) => x != e) }
  (engOk, if ok then okCmd seq s else failCmd seq resProgram s)

/-- eng_continue: CONTINUE is queued for the current duty and the handler ends; without room it does not. -/
def execEngContinue (g : EngId) (value : Word) (s : State) : Out := live s fun s =>
  match SMap.find? s.eng.cur g.val with
  | some ⟨q, true, d, a⟩ =>
    let e : Ev := .continue_ value.toNat
    if !engRuns s g.val then s
    else if dutyFull s q.pier q.duty e then { s with eng.lastStatus := SMap.put 0 s.eng.lastStatus g.val engBusy }
    else
      let s := { s with eng.lastStatus := SMap.put 0 s.eng.lastStatus g.val engOk }
      let s := match q.ev with
        | .cfg _ r => if d then s else
          let x := cfgAnswer s r a
          cfgComplete r x.1 x.2 s
        | _ => s
      nextHandler g.val (offer q.pier q.duty e s)
  | _ => s

end Sys2Proof.Machine
end

