-- ==== Sys2Proof/Machine/Loader.lean ====
section
/-! DEFINITION. The checks of a Voxraup image (R308 to R312), the choice of a bank (R313), and the commit (R315). -/

namespace Sys2Proof.Machine

/-! ### What an image gives -/

/-- Index of the header in GLB_IMGERR.SECTION. -/
abbrev secHead : Nat := 0x3F
/-- Index of section k of pier n (R307): 0 SPAN, 1 BIND, 2 PTBL, 3 GATE, 4 PROG, 5 DUTY. -/
def secOf (n k : Nat) : Nat := 7 + 6 * n + k

/-- The word that a register holds when it takes an image's value: only the bits that an image gives change (R4, R5). -/
def RegSet.word (x : RegSet) : Word :=
  (x.reg.reset x.idx &&& ~~~given x.reg x.idx) ||| (x.val &&& given x.reg x.idx)

/-- The register values of a pier section: PIR_CLSMAP belongs to CLSM alone (R150, Table IMG-5). -/
def pierSets (l : List RegSet) : List RegSet := l.filter (fun (x : RegSet) => x.reg.inImage && x.reg != .PIR_CLSMAP)

/-- The register values of the global sections: the one class map goes to all eight piers (R150). -/
def globalSets (l : List RegSet) : List RegSet := (l.filter (fun (x : RegSet) => x.reg.inImage)).flatMap (fun x =>
  if x.reg == .PIR_CLSMAP then (if x.idx = 0 then (List.range 8).map (fun n => { x with idx := n }) else []) else [x])

/-- The register values of a segment. -/
def Segment.sets (g : Segment) : List RegSet := pierSets (g.span ++ g.ptbl ++ g.gate ++ g.duty)

/-- Every register value of an image. -/
def Image.sets (m : Image) : List RegSet := globalSets m.global ++ m.segs.flatMap Segment.sets

/-- The value that an image gives a register instance, or its Reset column. -/
def Image.val (m : Image) (r : Reg) (i : Nat) : Word :=
  match m.sets.find? (fun (x : RegSet) => x.reg == r && x.idx == i) with | some x => x.word | none => r.reset i

/-- A field of it. -/
def Image.fld (m : Image) (f : Fld) (i : Nat) : Nat := f.get (m.val f.reg i)

/-- The pier-local ports of a span by its form (Table ARCH-1): only the even span of a pair carries a x16 port. -/
def formPorts (sp form : Nat) : List Nat :=
  match form with
  | 1 | 5 => [0]
  | 2 => [0, 2]
  | 3 => [0, 1, 2, 3]
  | 4 | 6 => if sp % 2 = 0 then [0] else []
  | _ => []

/-- The form that an image gives a span. -/
def Image.form (m : Image) (sp : Nat) : Nat := m.fld F.GLB_SPANFORM_FORM sp
/-- The ports that an image gives. -/
def Image.ports (m : Image) : List Nat := (List.range 32).flatMap (fun sp => (formPorts sp (m.form sp)).map (4 * sp + ·))
/-- A port that an image gives is upstream. -/
def Image.up (m : Image) (p : Nat) : Bool := (m.fld F.GLB_SPANFORM_UPSTREAM (p / 4)).testBit (p % 4)
/-- A port that an image gives runs Floing. -/
def Image.floing (m : Image) (p : Nat) : Bool := m.form (p / 4) == 5 || m.form (p / 4) == 6
/-- The ports of a pier that an image gives. -/
def Image.pier (m : Image) (n : Nat) : List Nat := m.ports.filter (fun p => p / 16 == n)
/-- The local ports that an image binds to bridges, with repeats. -/
def Image.bound (m : Image) : List Nat := m.vsw.flatMap (fun e => e.2.bridges.filterMap (fun b =>
  match b.tgt with | .local_ p => some p.val | _ => none))
/-- The duties that an image assigns a pier. -/
def Image.duties (m : Image) (n : Nat) : List Nat := (List.range 64).filter (fun d => m.fld F.PIR_DUTY_VALID (64 * n + d) == 1)
/-- The kind of a duty. -/
def Image.kind (m : Image) (n d : Nat) : Nat := m.fld F.PIR_DUTY_KIND (64 * n + d)

/-! ### Content checks (Table IMG-6): each answers the directory indices at which it fails -/

/-- 0x0A STRUCTURE: R12, R25, the rules of the modes and R106. An UPSTREAM bit of a sub-port that the form does not give counts as
a broken R25 too (DESIGN CHOICE, log entry 58). -/
def checkStructure (s : State) (m : Image) : List Nat :=
  let spans := (List.range 32).filter (fun sp =>
    let f := m.form sp
    let pair := m.form (if sp % 2 = 0 then sp + 1 else sp - 1)
    let ups := m.fld F.GLB_SPANFORM_UPSTREAM sp
    let ok := (List.range 4).filter (fun k => (formPorts sp f).contains k && f != 5 && f != 6)
    f > 6 || ((f == 4 || f == 6) && pair != f) || ((f == 5 || f == 6) && m.mode != 3) ||
      (List.range 4).any (fun k => ups.testBit k && !ok.contains k))
  let ups := m.ports.filter m.up
  let planes := (List.range 8).filter (fun n => (List.range 64).any (fun h =>
    let x := Fld.get ⟨.PIR_PMAP, 4 * (h % 8) + 3, 4 * (h % 8)⟩ (m.val .PIR_PMAP (8 * n + h / 8))
    !m.planes.any (fun q => q.val == x) || domState s (56 + x) == 6))
  spans.map (fun sp => secOf (sp / 4) 0) ++ (if ups.length > 64 then [secOf (ups.headD 0 / 16) 0] else [])
    ++ (if m.mode = 1 && m.vsw.length != 1 then [0] else [])
    ++ (if m.mode = 3 && !m.ports.any m.floing then [secHead] else [])
    ++ (if 1 ≤ m.mode && m.mode ≤ 3 then [] else [secHead]) ++ planes.map (fun n => secOf n 2)

/-- The receive allocations of a Floing port of an image (R79). -/
def Image.alloc (m : Image) (sp : Nat) : Nat :=
  ((List.range 8).map (fun v => max 80 (m.fld F.SPN_FLVC_RX_ALLOC (8 * sp + v)))).sum

/-- The slots that an image sets aside in a pier (R121). -/
def Image.aside (m : Image) (n : Nat) : Nat :=
  ((m.pier n).filter m.floing |>.map (fun p => (m.alloc (p / 4) + 1) / 2 + 4096)).sum
    + m.fld F.PIR_BUFCFG_EXP_RSV n
    + ((m.pier n).map (fun p => ((List.range 6).map (fun k => m.fld F.PIR_BUFTHR_RSV (acct p 1 0 + k))).sum)).sum

/-- The duty table of a pier keeps R282. -/
def dutiesOk (m : Image) (n : Nat) : Bool :=
  let ds := m.duties n
  let inst (d : Nat) : Nat := m.fld F.PIR_DUTY_INST (64 * n + d)
  let home (d : Nat) : Nat := m.fld F.PIR_DUTY_HOME (64 * n + d)
  let has (k i : Nat) : Bool := (ds.filter (fun d => m.kind n d == k && inst d == i)).length == 1
  let num (k : Nat) : Nat := (ds.filter (fun d => m.kind n d == k)).length
  let configs (g : Nat) : Nat := (ds.filter (fun d => m.kind n d == 0 && home d == g)).length
  (m.vsw.filter (fun e => e.2.up.val / 16 == n)).all (fun e => has 0 e.1) && (m.pier n).all (has 1) &&
    (List.range 4).all (fun j => has 2 (4 * n + j)) && num 3 == 1 && num 5 ≤ 1 && num 6 ≤ 1 &&
    ds.all (fun d => home d / 8 == n && configs (home d) ≤ 4 && !(m.kind n d == 3 && configs (home d) > 0))

/-- The input thresholds of a KEEP section keep R387, as they act. -/
def thresholdsOk (m : Image) : Bool :=
  let v (f : Fld) : Nat := voltU (m.fld f 0)
  v F.ABT_VTHR1_RESET_V < v F.ABT_VTHR0_WARN_V && v F.ABT_VTHR1_RESET_V < v F.ABT_VTHR0_REDUCE_V

/-- 0x0B LIMIT. Thresholds that break R387 count here, under KEEP (DESIGN CHOICE, log entry 58). -/
def checkLimit (m : Image) : List Nat :=
  let piers := List.range 8
  (piers.filter (fun n => ((m.pier n).filter m.floing).any (fun p =>
      m.alloc (p / 4) > (if m.form (p / 4) = 6 then 32768 else 16384)))).map (fun n => secOf n 0)
    ++ (piers.filter (fun n => m.aside n + 16384 > 196608)).map (fun n => secOf n 2)
    ++ (if m.fld F.CSN_CFG_LM_SIZE 0 > 47 then [3] else []) ++ (if thresholdsOk m then [] else [4])
    ++ (if m.vsw.any (fun e => e.2.bridges.length > 30 || e.2.peers.length > 16) then [0] else [])
    ++ (piers.filter (fun n => !dutiesOk m n)).map (fun n => secOf n 5) ++ (if m.module > 63 then [secHead] else [])

/-- The valid windows of a slot of an image: first and last byte. -/
def Image.windows (m : Image) (z : Nat) : List (Nat × Nat) :=
  ((List.range 4).filter (fun w => m.fld F.GTE_WATTR_VALID (4 * z + w) == 1)).map (fun w =>
    let i := 2 * (4 * z + w)
    let lo (r : Reg) : Nat := (m.val r i).toNat + 2 ^ 32 * (m.val r (i + 1)).toNat
    (lo .GTE_WBASE / 64 * 64, lo .GTE_WLIMIT / 64 * 64 + 63))

/-- The slots of a set, each with its windows, in which two windows share a byte: the slots concerned (R244). -/
def clash (m : Image) (zs : List Nat) : List Nat :=
  let ws := zs.flatMap (fun z => (m.windows z).map (fun w => (z, w)))
  let at_ (i : Nat) : Nat × Nat × Nat := ws.getD i (0, 0, 0)
  (List.range ws.length).flatMap (fun i => (List.range i).flatMap (fun j =>
    if overlap (at_ i).2.1 (at_ i).2.2 (at_ j).2.1 (at_ j).2.2 then [(at_ i).1, (at_ j).1] else []))

/-- The reset value of a configuration register in an image. -/
def Image.cfg (m : Image) (v fn off : Nat) : Nat :=
  match m.rom with
  | some r => match SMap.find? r (cfgKey v fn off) with | some e => e.reset.toNat | none => 0
  | none => if off = 0x24 && fn ≤ 30 then 0x00010001 else 0

/-- The windows that the reset values of an image give a bridge: a base above its limit gives none. -/
def Image.bridgeWindows (m : Image) (v fn : Nat) : List (Nat × Nat) :=
  let r := m.cfg v fn 0x20
  let q := m.cfg v fn 0x24
  [(r % 65536 / 16 * 2 ^ 20, r / 2 ^ 20 * 2 ^ 20 + (2 ^ 20 - 1)),
   (q % 65536 / 16 * 2 ^ 20 + m.cfg v fn 0x28 * 2 ^ 32, q / 2 ^ 20 * 2 ^ 20 + (2 ^ 20 - 1) + m.cfg v fn 0x2C * 2 ^ 32)]
    |>.filter (fun w => w.1 ≤ w.2)

/-- Two peer windows of a virtual switch share a byte, or one and a bridge window that ROMT gives it (R172). -/
def peersClash (m : Image) (v : Nat) (d : VsDef) : Bool :=
  (List.range d.peers.length).any (fun i => (List.range i).any (fun j =>
    match d.peers[i]?, d.peers[j]? with
    | some a, some b => overlap a.base a.limit b.base b.limit
    | _, _ => false)) ||
  d.peers.any (fun a => d.bridges.any (fun b => (m.bridgeWindows v (fnBridge b.dev)).any (fun w => overlap a.base a.limit w.1 w.2)))

/-- A peer window whose target virtual switch has no management endpoint (R172). -/
def Image.peerless (m : Image) : Bool :=
  m.vsw.any (fun e => e.2.peers.any (fun w => !m.vsw.any (fun x => x.1 == w.tvs.val && x.2.mep)))

/-- Every capability list of an image's ROMT keeps R174. -/
def Image.chainsOk (m : Image) : Bool :=
  m.rom.isNone || m.vsw.all (fun e =>
    let fns := [fnUp] ++ e.2.bridges.map (fun b => fnBridge b.dev) ++ (if e.2.mep then [fnMep] else []) ++
      (if e.2.landing then [fnLand] else [])
    fns.all (fun fn =>
      lowChainOk (m.cfg e.1 fn) 49 (m.cfg e.1 fn 0x34 % 256) &&
        (m.cfg e.1 fn 0x100 = 0 || extChainOk (m.cfg e.1 fn) 961 0x100)))

/-- 0x0C OVERLAP. -/
def checkOverlap (m : Image) : List Nat :=
  let slots := ((List.range 130).flatMap (fun z => clash m [z])) ++ m.vsw.flatMap (fun e =>
    clash m (e.2.bridges.filterMap (fun b => match b.tgt with | .unbound => none | .local_ p => some p.val | .remote _ p => some p.val)))
  slots.map (fun z => if z < 128 then secOf (z / 16) 3 else 6) ++ (if m.vsw.any (fun e => peersClash m e.1 e.2) then [0] else [])

/-- The events that a program must have an entry for, by duty kind (Table ENG-3). -/
def needs (kind : Nat) : List Nat :=
  [0x00, 0x0E] ++ (match kind with
    | 0 => [0x01, 0x02] | 1 => [0x0A, 0x0B] | 2 => [0x0C] | 3 => [0x03] | 4 => [0x04] | 5 => [0x06] | _ => [])

/-- 0x0D PROGRAM: R283 and R300. -/
def checkProgram (m : Image) : List Nat :=
  let kinds := ((List.range 8).flatMap (fun n => (m.duties n).map (m.kind n))).eraseDups
  ((List.range 8).filter (fun n =>
    match m.segs[n]? with
    | some g => !g.entriesOk || g.code > 192 * 1024 || g.data > 64 * 1024 ||
        kinds.any (fun k => (needs k).any (fun e => g.noEntry.contains (16 * k + e)))
    | none => true)).map (fun n => secOf n 4)

/-- The tenants that enter by a pier in an image (R158). -/
def Image.tenants (m : Image) (n : Nat) : List Nat :=
  (m.pier n).map (fun p => m.fld F.TNT_PORTDEF_TENANT p) ++
    ((List.range 2048).filter (fun e => m.fld F.TNT_ENTCTL_VALID e == 1 && m.fld F.TNT_ENTCTL_PORT e / 16 == n)).map
      (fun e => m.fld F.TNT_ENTCTL_TENANT e)

/-- 0x0E BINDING. A peer window whose target has no management endpoint is counted here, under VSWT (DESIGN CHOICE, log entry 58). -/
def checkBinding (m : Image) : List Nat :=
  let ports := m.ports
  let bound := m.bound
  let heads := m.vsw.map (fun e => e.2.up.val)
  let ups := ports.filter m.up
  let bad := bound.filter (fun p => (bound.filter (· == p)).length > 1 || !ports.contains p || m.up p || m.floing p)
  let perst := ((List.range 16).filter (fun i => m.fld F.GLB_PERSTMAP_VALID i == 1)).map (fun i => m.fld F.GLB_PERSTMAP_PORT i)
  let owner := m.fld F.GLB_OWNER_VALID 0 == 1 && !m.vsw.any (fun e => e.1 == m.fld F.GLB_OWNER_VS 0)
  let slots := ((List.range 32).filter (fun k => m.fld F.GLB_SLOT_BOUND k == 1)).map (fun k => m.fld F.GLB_SLOT_PORT k)
  let badSlots := slots.filter (fun p => (slots.filter (· == p)).length > 1 || !ports.contains p || m.up p || m.floing p)
  let shared := (List.range 8).filter (fun n => (List.range 8).any (fun k =>
    k > n && (m.tenants n).any (fun u => (m.tenants k).contains u)))
  bad.map (fun p => secOf (p / 16 % 8) 1)
    ++ (if ups.any (fun p => !heads.contains p) || heads.any (fun p => !ups.contains p) || heads.eraseDups.length != heads.length ||
          owner || !m.remoteOk || m.peerless || perst.eraseDups.length != perst.length || perst.any (fun p => !ups.contains p) then [0] else [])
    ++ badSlots.map (fun p => secOf (p / 16 % 8) 0) ++ shared.map (fun n => secOf n 3) ++ (if m.chainsOk then [] else [1])

/-! ### The checks in order (R308, R312) -/

/-- Steps 1 to 4 of R308 on a bank: 0 passes. -/
def headCheck (s : State) (b : Nat) : Nat :=
  let h := imageHead s b
  if (bankOf s b).empty || !headMagic h then 0x01
  else if !headForm h then 0x02
  else if field h 0x0C 2 != 0x256 then 0x03
  else if !slotHolds s (headSlot h) (headKey h) then 0x04
  else if !imageSigned h then 0x05
  else 0

/-- The first of the sections [0, k) of a bank's image whose hash or header fails (R308, step 8). -/
def sectionCheck (s : State) (b k : Nat) : Option (Nat × Nat) :=
  let h := imageHead s b
  (List.range k).findSome? (fun i =>
    let d := sectionBytes s b i
    if hash48 d != dirHash h i then some (0x08, i) else if !sectionForm i (dirLength h i) d then some (0x09, i) else none)

/-- The segment of a pier is oversized (R307). -/
def oversized (h : List Byte) (n : Nat) : Bool :=
  ((List.range 6).map (fun k => dirLength h (secOf n k))).sum > 2 * 2 ^ 20 || dirLength h (secOf n 4) > 288 * 1024

/-- The lowest index of a list of failures, under a code. -/
def firstOf (code : Nat) : List Nat → Option (Nat × Nat)
  | [] => none
  | i :: l => some (code, l.foldl min i)

/-- The content checks of a bank's image in ascending code. -/
def contentCheck (s : State) (b : Nat) : Option (Nat × Nat) :=
  let m := imageIn s b
  let big := (List.range 8).filter (oversized (imageHead s b))
  ((((firstOf 0x09 (big.map (fun n => secOf n 4))).or (firstOf 0x0A (checkStructure s m))).or (firstOf 0x0B (checkLimit m))).or
    (firstOf 0x0C (checkOverlap m))).or ((firstOf 0x0D (checkProgram m)).or (firstOf 0x0E (checkBinding m)))

/-- The outcome of R308 on a bank: the code and index of the first failure, none where it passes. `fault` is the directory index at
which flash did not complete a read, 55 for the header. -/
def imageCheck (s : State) (b : Nat) (fault : Option (Fin 56)) : Option (Nat × Nat) :=
  let m := imageIn s b
  let h := headCheck s b
  if lcState s = 4 then some (0x07, secHead)
  else if fault = some 55 then some (0x0F, secHead)
  else if h != 0 then some (h, secHead)
  else if m.secver < rollbackCtr s then some (0x06, secHead)
  else if m.developOnly && lcState s > 1 then some (0x07, secHead)
  else if !dirForm (imageHead s b) then some (0x02, secHead)
  else match sectionCheck s b (match fault with | some i => i.val | none => 55), fault with
    | some e, _ => some e
    | none, some i => some (0x0F, i.val)
    | none, none => contentCheck s b

/-- Records the outcome in GLB_BANKSTAT, and a rejection in GLB_IMGERR while that holds none (R312, Tables IMG-13 and IMG-14). -/
def judgeBank (b pier : Nat) (r : Option (Nat × Nat)) (s : State) : State :=
  let sv := if (bankOf s b).empty then 0 else headSecver (imageHead s b)
  let s := (s.setf F.GLB_BANKSTAT_STATE b (if r.isNone then 1 else 2)).setf F.GLB_BANKSTAT_SECVER b sv
  match r with
  | none => s.setf F.GLB_BANKSTAT_CODE b 0
  | some (c, i) => imgErr b c i pier (s.setf F.GLB_BANKSTAT_CODE b c)

/-- The active bank. -/
def activeBank (s : State) : Nat := s.f F.GLB_IMGSTAT_ACTIVE 0

/-- Bank A or B becomes the active bank, journalled as the keeper's (R313). -/
def selectBank (b ref : Nat) (s : State) : State :=
  if b ≥ 2 || activeBank s = b then s else
  let s := s.setf F.GLB_IMGSTAT_ACTIVE 0 b
  let v := s.rd .GLB_IMGSTAT 0
  keeperEntry (writeEntry JOrg.keeper jDone 0 0x800 ref v 0xF v) s

/-! ### Loading (Tables IMG-7 and IMG-8) -/

/-- The next candidate bank is read, or all have been rejected. -/
def nextBank (s : State) : State :=
  match s.img.cand with
  | b :: rest => { s with img.loading := some b, img.cand := rest }.setf F.GLB_IMGSTAT_LOAD 0 1
  | [] => { s with img.loading := none }.setf F.GLB_IMGSTAT_LOAD 0 6

/-- The load starts with the banks in the order of Table IMG-7. -/
def startLoad (s : State) : State :=
  let a := activeBank s
  nextBank { s with img.cand := if s.mode.recovery then [2] else [a, 1 - a, 2], img.accepted := none }

/-- The span PHY and deck plane domains that an image uses (Table MODE-2, step 9). -/
def Image.domains (m : Image) : List Nat :=
  (List.range 32).filter (fun sp => m.form sp != 0) ++ m.planes.map (fun q => 56 + q.val)

/-- An accepted image: the bank select follows, and the domains it uses are powered. -/
def accept (b : Nat) (s : State) : State :=
  let m := imageIn s b
  let s := selectBank b 0 s
  let s := { s with img.accepted := some m, mode.commitWait := true }.setf F.GLB_IMGSTAT_LOAD 0 4
  forEach m.domains (fun d s => if domState s d = 0 then powerOn d s else s) s

/-- IMAGE_STREAM_DONE: the candidate has been read, or rejected on its header; the content checks decide (R312, R313, Table IMG-8).
`fault` names a flash read that did not complete. -/
def execImageStreamDone (fault : Option (Fin 56)) (s : State) : Out := live s fun s =>
  match s.img.loading, s.img.accepted with
  | some b, none =>
    let r := imageCheck s b fault
    let s := judgeBank b 0 r s
    if r.isNone then accept b s else nextBank s
  | _, _ => s

/-! ### The commit (R315) -/

/-- The settings of a KEEP section that MRAM keeps (R399). -/
def abtRegs : List Reg := [.ABT_CFG, .ABT_ILIM, .ABT_VTHR0, .ABT_VTHR1, .ABT_TLIM, .ABT_ALERTEN, .ABT_PMB]

/-- The pull-ups and bank levels of an image are applied and saved; a change of bank 0 waits for the I3C bus (R445, R446, R458). -/
def commitLevels (m : Image) (s : State) : State :=
  let v := m.val .GLB_IOCFG 0
  let l := F.GLB_IOCFG_LEVEL.get v
  let old := s.f F.GLB_IOCFG_LEVEL 0
  let s := (s.wr .GLB_IOCFG 0 v).setf F.GLB_IOCFG_LEVEL 0 (l / 2 * 2 + old % 2)
  { s with sb.savedLevel := some v.toNat, sb.levelWait := if l % 2 = old % 2 then none else some l }

/-- The KEEP section's abutment settings are written and saved (R399). -/
def commitKeep (m : Image) (s : State) : State :=
  let s := forEach abtRegs (fun r s => s.wr r 0 (m.val r 0)) s
  commitLevels m { s with abt.saved := abtRegs.map (fun r => (⟨r, 0, m.val r 0⟩ : RegSet)) }

/-- Writes one register value of an image. Span forms come last, the pins of a slot stay, and a duty starts on its home engine. -/
def commitSet (x : RegSet) (s : State) : State :=
  match x.reg with
  | .GLB_SPANFORM | .GLB_IOCFG => s
  | .GLB_SLOT =>
    (s.setf F.GLB_SLOT_BOUND x.idx (F.GLB_SLOT_BOUND.get x.val)).setf F.GLB_SLOT_PORT x.idx (F.GLB_SLOT_PORT.get x.val)
  | .PIR_DUTY =>
    let s := s.wr .PIR_DUTY x.idx x.word
    (s.setf F.PIR_DUTY_ENGINE x.idx (F.PIR_DUTY_HOME.get x.val)).setf F.PIR_DUTY_MOVING x.idx 0
  | r => if abtRegs.contains r then s else s.wr r x.idx x.word

/-- The pier shadow takes the image's values of a register in a pier core domain (R268). -/
def shadowSet (x : RegSet) (s : State) : State :=
  match x.reg.domain x.idx with
  | some d => if 32 ≤ d ∧ d < 40 then { s with img.shadow := SMap.ins s.img.shadow (regKey x.reg x.idx) (s.rd x.reg x.idx) } else s
  | none => s

/-- The span forms of a pier change together (R18). -/
def commitForms (m : Image) (n : Nat) (s : State) : State :=
  forRange 4 (fun j s =>
    let sp := 4 * n + j
    let present := ((formPorts sp (m.form sp)).map (fun k => 2 ^ k)).sum
    let s := (s.setf F.GLB_SPANFORM_FORM sp (m.form sp)).setf F.GLB_SPANFORM_UPSTREAM sp (m.fld F.GLB_SPANFORM_UPSTREAM sp)
    s.setf F.GLB_SPANFORM_PRESENT sp present) s

/-- The virtual switches of an image stand, not yet ready (R178, Table HOST-11). -/
def commitHost (m : Image) (s : State) : State :=
  let s := { s with
    host.vsw := m.vsw, host.home := m.homes, host.rom := m.rom, host.vec := m.vec, host.wakeVec := m.wakeVec, host.cfg := [],
    host.slotDef := m.segs.flatMap (fun g => g.slots) }
  forEach m.vsw (fun (e : Nat × VsDef) s =>
    let v := e.1
    let s := (s.setf F.GLB_VSSTAT_PRESENT v 1).setf F.GLB_VSSTAT_UPORT v e.2.up.val
    let s := (s.setf F.GLB_VSSTAT_NDS v e.2.bridges.length).setf F.GLB_VSSTAT_RSTCAUSE v 1
    let s := (s.setf F.GLB_VSSTAT_NOTREADY v 1).setf F.GLB_VSSTAT_BUS v 0
    let s := { s with host.crs := (s.host.crs ++ (fnsOf s v).map (fun f => v * 64 + f)).eraseDups }
    let s := if perstHeld s e.2.up.val then { s with host.inReset := SMap.ins s.host.inReset v 2 } else s
    refreshVs v s) s

/-- Slot power follows the reset value of Slot Control from the commit on (R402). -/
def commitSlot (k : Nat) (s : State) : State :=
  if !s.b F.GLB_SLOT_BOUND k then s.setf F.GLB_SLOT_PWREN k 0 else
  match slotFn s k with
  | some (v, fn) => if capBit s v fn .pcie 0x18 10 then (slotOff k s).setf F.GLB_SLOT_PWREN k 0 else slotOn k s
  | none => s.setf F.GLB_SLOT_PWREN k 0

/-- A bucket whose setting asks for it starts full. -/
def commitBucket (x : RegSet) (s : State) : State :=
  match x.reg with
  | .PIR_QCFG => if F.PIR_QCFG_RESET_TO.get x.val = 1 then resetQBucket (x.idx / 8) (x.idx % 8) s else s
  | .PIR_TSCFG => if F.PIR_TSCFG_RESET_TO.get x.val = 1 then resetTBucket (x.idx / 512) (x.idx % 512) s else s
  | _ => s

/-- The shapers of every queue and tenant are loaded as by a write: 0 tokens, or the burst with RESET_TO (R157). -/
def commitShapers (m : Image) (s : State) : State :=
  let s := if s.ports.brace || s.ports.power then forRange 128 settleBrace s else s
  let s := { s with ports.qbkt := [], ports.tbkt := [], env.bucketEpoch := bucketsFrom s }
  forEach m.sets commitBucket s

/-- The engine that a duty starts on: its home, or as after a failure where that one is not live (R271, R273, R406). -/
def startEngine (s : State) (k : Nat) : Nat :=
  let home := s.f F.PIR_DUTY_HOME k
  if engUp s home then home else
  ((siblingFor s (k / 64) (s.f F.PIR_DUTY_KIND k) 64).or
    ((nextPier s (k / 64)).bind (fun m => siblingFor s m (s.f F.PIR_DUTY_KIND k) 64))).getD home

/-- The engines hold their program and each duty receives START with reason 0 (R300, R315). -/
def commitEngines (m : Image) (s : State) : State :=
  let s := forRange 64 (fun g s => if domOn s (48 + g / 8) && engSt s g != 3 then s.setf F.ENG_STAT_STATE g 1 else s) s
  let recs := (List.range 8).flatMap (fun n =>
    match m.segs[n]? with | some g => g.record.map (fun e => (4096 * 64 * n + e.1, e.2)) | none => [])
  let s := forRange 64 (fun g s => if domOn s (48 + g / 8) then loadProgram m g s else s) s
  let recs := recs.foldl (fun a e => SMap.put 0 a e.1 e.2) []
  let s := { s with eng.record := recs, eng.recInit := recs }
  let s := forRange 512 (fun k s => if s.b F.PIR_DUTY_VALID k then s.setf F.PIR_DUTY_ENGINE k (startEngine s k) else s) s
  forRange 512 (fun k s => if s.b F.PIR_DUTY_VALID k then offer (k / 64) (k % 64) (.start 0) s else s) (refreshDuties s)

/-- The planes that the image uses and that passed their test are LIVE; entries of the others are rewritten with a Corrected record
(R106). -/
def commitPlanes (m : Image) (s : State) : State :=
  let used := m.planes.map (fun q => q.val)
  let s := forEach used (fun q s => if domOn s (56 + q) then setPlane q 0 s else s) s
  let s := forEach (used.filter (fun q => !domOn s (56 + q))) (fun q s => planeFailCore q 4 s) s
  if (livePlanes s).isEmpty then quarantine 0x30 (pushRec 25 0x30 0 s) else s

/-- A port of a commit trains, or stays closed where its pier has FAILED (R406). -/
def commitPort (p : Nat) (s : State) : State :=
  if s.f F.GLB_PIERSTAT_STATE (pierOf p) = 3 then
    let s := ((s.setf F.PIR_CLOSE_CLOSED p 1).setf F.PIR_CLOSE_CAUSE p 7).setf F.SPN_PSTAT_CLOSED p 1
    let s := s.setf F.SPN_PSTAT_LTSSM p 0x34
    if isFloing s p then s.setf F.SPN_FLSTAT_STATE (p / 4) 6 else s
  else enterTraining p s

/-- What the image registers show of the applied image (Tables IMG-11, IMG-12 and IMG-15). -/
def showImage (m : Image) (b : Nat) (s : State) : State :=
  let s := (s.setf F.GLB_IMGSTAT_LOADED 0 b).setf F.GLB_IMGSTAT_LOAD 0 5
  let s := (s.setf F.GLB_IMGSTAT_RECOVERY 0 (if s.mode.recovery then 1 else 0)).setf F.GLB_IMGSTAT_SECVER 0 m.secver
  let s := forRange 8 (fun n s => s.wr .GLB_SEGBUILD n (BitVec.ofNat 32 m.build)) (s.wr64 .GLB_IMGBUILD 0 m.build)
  let s := (s.setf F.GLB_FABID_FABRIC 0 m.fabric).setf F.GLB_FABID_MODULE 0 m.module
  s.setf F.GLB_MODE_IMAGE_MODE 0 (m.mode + 1)

/-- The commit of an accepted image, and the mode it enters (R315, Table MODE-1). -/
def commit (m : Image) (b : Nat) (s : State) : State :=
  let s := { s with img.loading := none, img.accepted := none, img.cand := [], mode.commitWait := false,
                    img.applied := some m, img.hashes := m.hashes, img.shadow := [] }
  let s := forEach m.sets shadowSet (forEach m.sets commitSet s)
  let s := commitHost m (commitKeep m (commitShapers m s))
  let s := commitEngines m (showImage m b s)
  let s := (applyTags (fun _ => true) s).setf F.CSN_STAT_LM_STATE 0 0
  let s := forRange 8 (fun n s => commitForms m n s) (forRange 8 refreshSpill s)
  let s := forRange 32 commitSlot s
  let s := commitPlanes m s
  if inQuar s then s else
  let s := noCluster s
  if inQuar s then s else
  let s := if causeHolds s then reducedEnter s else setMode (m.mode + 1) s
  forEach m.ports commitPort s

/-- The image is streamed a second time inside the commit, because it could not be staged (R314). -/
def secondStream (s : State) : Bool := ((List.range 7).filter (fun j => chanLive s (1 + j))).length < 4

/-- IMAGE_COMMIT: once the domains that the image uses are powered and tested. `fault` is a section whose flash read (true) or hash
fails in a second stream (R314). -/
def execImageCommit (fault : Option (Bool × Fin 55)) (s : State) : Out := live s fun s =>
  match s.img.loading, s.img.accepted with
  | some b, some m =>
    if m.domains.any (fun d => 1 ≤ domState s d && domState s d ≤ 3) then s else
    match fault with
    | some (flash, i) =>
      if secondStream s then
        nextBank (judgeBank b 0 (some (if flash then 0x0F else 0x08, i.val))
          { s with img.accepted := none, mode.commitWait := false })
      else commit m b s
    | none => commit m b s
  | _, _ => s

end Sys2Proof.Machine
end

