-- ==== Sys2Proof/Machine/ModeRows.lean ====
section
/-! DEFINITION. Resets of the whole module and start-up (R402 to R406, Table MODE-2), keeper power-up (R341, R348, R357, R404, R431,
R438), stage verification (R423, R424) and the wipe (R144). -/

namespace Sys2Proof.Machine

/-! ### What a module reset keeps (R4, R399, R402, R460) -/

/-- A register that a module reset leaves as it is: the abutment, OTP and MRAM values, rings of the recorder, levels of pins, measurements
and what is counted or shown since keeper power-up (log entry 25). -/
def Reg.kept : Reg → Bool
  | .ABT_CFG | .ABT_ILIM | .ABT_VTHR0 | .ABT_VTHR1 | .ABT_STAT | .ABT_FEED | .ABT_FCTL | .ABT_EVENT | .ABT_ALERTEN
  | .ABT_VIN | .ABT_VOUT | .ABT_IIN | .ABT_PIN | .ABT_ENERGY | .ABT_TEMP | .ABT_VMIN | .ABT_RES | .ABT_TLIM | .ABT_PMB
  | .KEY_SLOT | .KEY_SERIAL | .KEY_NONCE | .KEY_SLOTHASH | .KEY_IDPUB | .JNL_HEAD | .JNL_TAIL | .REC_STAT | .REC_HOURS
  | .REC_PCYCLE | .REC_RLINE | .REC_RSEQ | .REC_PFLOG | .GLB_BANKSTAT | .GLB_IOCFG | .GLB_PERST | .GLB_TEMP
  | .GLB_TEMPMAX | .CLK_OSC => true
  | _ => false

/-- The fields that a module reset keeps of a register that it otherwise returns to its Reset column. -/
def Reg.keptFields : Reg → List Fld
  | .CLK_ISLSTAT => [F.CLK_ISLSTAT_LOSSCNT]
  | .GLB_IMGSTAT => [F.GLB_IMGSTAT_ACTIVE]
  | .GLB_MODE => [F.GLB_MODE_THERM_SD, F.GLB_MODE_CAUSE_THERM, F.GLB_MODE_CAUSE_VOLT]
  | .GLB_SLOT => [F.GLB_SLOT_CLKREQ, F.GLB_SLOT_ATTN, F.GLB_SLOT_PWRFLT, F.GLB_SLOT_PWREN, F.GLB_SLOT_PRSNT]
  | .KEY_STAT => [F.KEY_STAT_IDVALID, F.KEY_STAT_ROLLBACK, F.KEY_STAT_LCSTATE]
  | .JNL_STAT => [F.JNL_STAT_CHKPT_BUSY, F.JNL_STAT_GAP, F.JNL_STAT_CLEAN]
  | .REC_PFSTAT => [F.REC_PFSTAT_NEXT]
  | _ => []

/-- The value of a register instance after a module reset. -/
def resetWord (r : Reg) (i : Nat) (w : Word) : Word :=
  if r.kept then w else r.keptFields.foldl (fun a f => f.set a (f.get w)) (r.reset i)

/-- The register file with every entry passed through a function; what equals its Reset column is not listed. -/
def mapRegs (g : Reg → Nat → Word → Word) (m : SMap Word) : SMap Word :=
  m.foldr (fun (e : Nat × Word) out =>
    SMap.put ((Reg.ofNat (e.1 % 256)).reset (e.1 / 256)) out e.1 (g (Reg.ofNat (e.1 % 256)) (e.1 / 256) e.2)) []

/-! ### Module reset (R402) -/

/-- Every command that is accepted and not final ends INDETERMINATE, cut off (R338, R340). -/
def cutCommands (s : State) : State := forEach s.jrn.cmds (fun (c : Cmd) s => endCmd c.seq jIndet 0x106 0 s) s

/-- Entries that wait in the FIFOs of the islands are numbered before the islands stop, so that every write that took effect has its
entry (R330); those of a running checkpoint keep waiting (R339). -/
def drainFifos (s : State) : State :=
  if s.b F.JNL_STAT_CHKPT_BUSY 0 then s else
  forRange 25 (fun i s =>
    forEach (SMap.get [] s.jrn.fifo i) numberEntry { s with jrn.fifo := SMap.del s.jrn.fifo i }) s

/-- Units, hosts, commands and registers as a module reset leaves them. The keeper, the journal, the recorder and the abutment run
on (R340, R357, R402). -/
def resetUnits (s : State) : State :=
  let s := allOff (liveKill { s with host := HostS.init })
  let s := drainFifos (cutCommands s)
  let errs := s.err.fifo.filter (fun (e : Nat × List ErrRec) => e.1 == 25)
  { s with
    regs := mapRegs resetWord s.regs,
    jrn.held := [], jrn.latch := [], jrn.ckptWait := [], jrn.thrSent := false,
    err.fifo := errs, err.aerLast := [], err.uncWin := [],
    img := { Img.init with bank := s.img.bank },
    rcd.holdT := [], rcd.pfifo := [],
    pmc := { Pmc.init with cycBase := SMap.put 0 [] 128 s.env.now },
    key.booted := none, key.bootHash := 0, key.change := none, key.cmdWait := [], key.report := [],
    sb := { Side.init with levelWait := s.sb.levelWait, savedLevel := s.sb.savedLevel },
    env.wake := [], env.bucketEpoch := bucketsFrom s }

/-- LATCHED and UNUSABLE feeds return (R399, Table ABT-2). -/
def feedsReturn (s : State) : State :=
  forRange 2 (fun f s =>
    if feedSt s f = 6 then (setFeedSt f 1 s).setf F.ABT_FEED_RETRIES f 0
    else if feedSt s f = 7 then setFeed f { feed s f with short := 0 } (setFeedSt f (if vinOf s f ≥ 500 then 1 else 0) s)
    else s) s

/-- A module reset in Standby: it is journalled, acts on the abutment, clears THERM_LATCH and the marks of
failed islands (R39), and clears a pending cause unless that is the loss of an oscillator that is still lost (R30, R402, Table
MODE-1). -/
def standbyReset (s : State) : State :=
  let s := feedsReturn (keeperEntry (resetEntry 0 1 0) (s.setf F.GLB_MODE_THERM_LATCH 0 0))
  let s := forRange 25 (fun i s => s.setf F.CLK_ISLSTAT_FAILED i 0) s
  let stays := s.mode.pendCause == some 0x31 && s.b F.CLK_OSC_SRC 0
  let s := { s with
    mode.pendCause := if stays then s.mode.pendCause else none,
    err.faultN := s.err.faultN && (stays || s.b F.GLB_MODE_THERM_SD 0) }
  refreshAlert s

/-- A module reset: journalled, everything off, the mode Configure; on the ring oscillator quarantine again at once (R30, R277). -/
def moduleReset (s : State) : State :=
  if mode s = 0 then standbyReset s else
  let s := feedsReturn (resetUnits (keeperEntry (resetEntry 0 1 0) s))
  let s := refreshAlert { s with err.faultN := false, mode.pendCause := none }
  if s.b F.CLK_OSC_SRC 0 then quarantine 0x31 (pushRec 25 0x31 0 s) else s

/-! ### Start-up (Table MODE-2) -/

/-- The domains of step 3: pier cores, SRAM banks, engine clusters and caisson channels. -/
def bootDomains : List Nat := (List.range 24).map (32 + ·) ++ (List.range 8).map (72 + ·)

/-- Step 3: RECOVERY_N is sampled, stage verification starts, and the domains that the wipe needs power up (R403, R405). -/
def startUp (recovery : Bool) (s : State) : State :=
  if s.b F.CLK_OSC_SRC 0 then quarantine 0x31 (pushRec 25 0x31 0 s) else
  let s := { s with mode.recovery := recovery, mode.verifying := true }
  forEach bootDomains powerOn (s.setf F.KEY_STAT_BOOT 0 1)

/-- A module reset that the SY256 itself performs: start-up follows at once, unless MODULE_RST_N is low. -/
def resetAndStart (recovery : Bool) (s : State) : State :=
  let s := moduleReset s
  if mode s = 1 && !s.env.rstLow then startUp recovery s else s

/-- MODULE_RESET: MODULE_RST_N has been low for long enough to be acted on (R402). A reset while it stays low is absorbed (R192). -/
def execModuleReset (s : State) : Out := live s fun s =>
  if s.env.rstLow then s else moduleReset { s with env.rstLow := true }

/-- MODULE_RESET_DEASSERT: MODULE_RST_N is released, with RECOVERY_N as sampled (R403, R405); in Standby the Standby row of Table
MODE-1 decides. -/
def execModuleResetDeassert (recovery : Bool) (s : State) : Out := live s fun s =>
  if !s.env.rstLow then s else
  let s := { s with env.rstLow := false, env.recoveryLow := recovery }
  if mode s = 1 && s.f F.KEY_STAT_BOOT 0 = 0 then startUp recovery s else s

/-- The Standby rows of Table MODE-1 hold. -/
def mayLeaveStandby (s : State) : Bool :=
  mode s == 0 && supply s == 2 && !s.env.rstLow && !s.b F.GLB_MODE_THERM_LATCH 0 && tempMax s < 16 * warnT s

/-- CONFIGURE_ENTRY: Standby gives way to Configure; FAULT_N is released (R417). A pending Device-fatal cause enters quarantine
instead of start-up. After a shutdown the units are as after a module reset (R392); the command cause stays (R407). -/
def execConfigureEntry (recovery : Bool) (s : State) : Out := live s fun s =>
  if !mayLeaveStandby s then s else
  let s := setMode 1 s
  let cause := s.f F.GLB_MODE_CAUSE_CMD 0
  let s := if s.mode.startup then s else (resetUnits s).setf F.GLB_MODE_CAUSE_CMD 0 cause
  let s := { s with err.faultN := false, env.recoveryLow := recovery }
  match s.mode.pendCause with
  | some q => quarantine q { s with mode.pendCause := none }
  | none => startUp recovery (refreshAlert s)

/-! ### Stage verification (R423, R424, R426) and the wipe (R144) -/

/-- STAGE_VERIFICATION_DONE: the first copy that passes runs; in SCRAPPED none is tried and every bank is recorded with LIFECYCLE. The
wipe starts. -/
def execStageVerificationDone (s : State) : Out := live s fun s =>
  if !s.mode.verifying then s else
  let s := { s with mode.verifying := false, mode.wiping := true }.setf F.CSN_STAT_WIPE_BUSY 0 1
  if lcState s = 4 then
    let first := if s.mode.recovery then 2 else activeBank s
    forEach (first :: [0, 1, 2].filter (· != first)) (fun b s => judgeBank b 0 (some (0x07, secHead)) s)
      (s.setf F.KEY_STAT_BOOT 0 5)
  else match (stageOrder s).find? (stagePasses s) with
    | some c =>
      let s := { s with key.booted := some c, key.bootHash := stageHash (stageHead s c) }
      (s.setf F.KEY_STAT_BOOT 0 2).setf F.KEY_STAT_COPY 0 c
    | none => s.setf F.KEY_STAT_BOOT 0 (if (List.range 4).any (fun k => slotState s k == 1) then 4 else 3)

/-- The final kind-2 entries that a keeper power-up owes: of each command of the checkpoint that has none (R340). -/
def owedEntries (s : State) : List JReq :=
  let old := s.jrn.copy.filter (fun (e : JEntry) => e.seq ≤ s.jrn.ckptSeq)
  let ended (q : Nat) : Bool := old.any (fun e =>
    e.req.kind == 2 && e.req.ref == q && 1 ≤ e.req.status && e.req.status ≤ 3)
  (old.filter (fun e => e.req.kind == 1 && !ended e.seq)).map (fun e => ⟨2, jIndet, e.req.org, 0x106, e.req.code, e.seq, 0⟩)

/-- WIPE_DONE: the channels hold zeros, the journal is restored, after a keeper power-up the owed entries and the kind-10 entry are
written (R340, Table MODE-2, step 5), and a load starts where a stage copy runs. -/
def execWipeDone (s : State) : Out := live s fun s =>
  if !s.mode.wiping || (List.range 8).any (fun c => 1 ≤ domState s (72 + c) && domState s (72 + c) ≤ 3) then s else
  let s := forRange 8 (fun c s => if chanLive s c then wipeChan c s else s) s
  let s := writeBack ({ s with mode.wiping := false, mode.fullTest := false }.setf F.CSN_STAT_WIPE_BUSY 0 0)
  let s := if s.mode.startup then
      let s := forEach (owedEntries s) keeperEntry { s with mode.startup := false }
      keeperEntry ⟨10, jNone, JOrg.keeper, 0, 0, 0, 0⟩ s
    else s
  if s.f F.KEY_STAT_BOOT 0 = 2 then startLoad s else s

/-! ### Keeper power-up (R404, Table MODE-2, steps 1 and 2) -/

/-- The value of a register instance after keeper power-up: OTP, and what MRAM holds as it changes. -/
def powerWord (r : Reg) (i : Nat) (w : Word) : Word :=
  let keep (fs : List Fld) : Word := fs.foldl (fun a f => f.set a (f.get w)) (r.reset i)
  match r with
  | .KEY_SLOT | .KEY_SERIAL | .KEY_SLOTHASH | .KEY_IDPUB | .REC_HOURS | .REC_PCYCLE => w
  | .REC_RLINE | .REC_RSEQ => if i ≥ 2 then w else r.reset i
  | .KEY_STAT => keep [F.KEY_STAT_ROLLBACK, F.KEY_STAT_LCSTATE]
  | .GLB_IMGSTAT => keep [F.GLB_IMGSTAT_ACTIVE]
  | _ => r.reset i

/-- What outlives the keeper's stop: flash, OTP, MRAM. -/
def coldState (s : State) (low : Bool) : State :=
  let j := s.jrn
  let next := if j.clean then j.ckptSeq + 1 else j.reserve
  { State.reset with
    regs := mapRegs powerWord s.regs,
    env := { Env.init with free := s.env.free, rstLow := low },
    jrn := { Jrn.init with
      copy := j.ckpt, ckpt := j.ckpt, ckptSeq := j.ckptSeq, reserve := j.reserve, clean := j.clean, next := next,
      startAt := match j.ckpt with | e :: _ => e.seq | [] => next },
    csn := { Csn.init with remap := s.csn.remap },
    img := { Img.init with bank := s.img.bank },
    rcd := { Recd.init with
      mring := s.rcd.mring, next := match s.rcd.mring.getLast? with | some x => x.seq % (2 ^ 32 - 1) + 1 | none => 1 },
    abt := { Abt.init with saved := s.abt.saved, savedEnergy := s.abt.savedEnergy },
    mode := { ModeS.init with startup := true, fullTest := s.mode.fullTest, secs := s.mode.secs },
    key := { KeyS.init with stage := s.key.stage, cert := s.key.cert, drawn := s.key.drawn, fuse := s.key.fuse },
    sb := { Side.init with savedLevel := s.sb.savedLevel },
    pending := s.pending }

/-- A fuse step that was interrupted is completed, with its wipe and module reset (R438). -/
def finishFuse (s : State) : State :=
  match s.key.fuse with
  | none => s
  | some tgt =>
    let s := (mramWipe { s with key.fuse := none }).setf F.KEY_STAT_LCSTATE 0 tgt
    standbyReset s

/-- The identity: valid but in SCRAPPED, where the seed is destroyed (R431, R435). KEY_IDPUB shows its public key when read. -/
def showIdentity (s : State) : State :=
  s.setf F.KEY_STAT_IDVALID 0 (if lcState s = 4 then 0 else 1)

/-- Keeper power-up: the values of MRAM and OTP are loaded, PCYCLE rises, numbering resumes, with a gap entry after a loss of power
without a clean checkpoint (R341), the POWERUP record is written, and the start circuit ramps its feed (R372). -/
def keeperPowerUp (feedB low : Bool) (s : State) : State :=
  let clean := s.jrn.clean
  let s := coldState s low
  let s := s.setf F.GLB_MODE_MODE 0 0
  let s := forEach s.abt.saved (fun (x : RegSet) s => s.wr x.reg x.idx x.val) s
  let s := (s.wr .GLB_IOCFG 0 (BitVec.ofNat 32 (s.sb.savedLevel.getD 0))).wr64 .ABT_ENERGY 0 s.abt.savedEnergy
  let s := (s.satf F.REC_PCYCLE_VALUE 0 1).setf F.JNL_STAT_CLEAN 0 (if clean then 1 else 0)
  let s := (s.wr64 .JNL_HEAD 0 s.jrn.ckptSeq).wr64 .JNL_TAIL 0 (tailOf s s.jrn.ckptSeq)
  let s := if clean then s
    else (numberEntry ⟨8, jNone, JOrg.keeper, 0, 0, s.jrn.ckptSeq, 0⟩ s).setf F.JNL_STAT_GAP 0 1
  let s := drawNonce (showIdentity (finishFuse s))
  let s := startRamp (if feedB then 1 else 0) { s with abt.firstRamp := true }
  sysRecord 1 0 s

/-- KEEPER_POWER_UP: the keeper tap reaches 5.8 V. `feedB` says that FEED_A's input lies below 5.8 V, `low` the level of
MODULE_RST_N. -/
def execKeeperPowerUp (feedB low : Bool) (s : State) : Out :=
  if s.env.keeperOn then .next s else .next (finish s.pending (keeperPowerUp feedB low s))

end Sys2Proof.Machine
end

