-- ==== Sys2Proof/Machine/ImageRows.lean ====
section
/-! DEFINITION. The image commands (R303, R309, R316, R463) and live replacement (R317 to R325, Table IMG-9). -/

namespace Sys2Proof.Machine

/-! ### Writing banks (R303, R463) -/

/-- Why a write or erase of a bank is refused, as its RESULT; 0 accepts it. -/
def bankRefusal (s : State) (b : Nat) : Nat :=
  if b > 2 then resArg
  else if b = 2 && lcState s > 1 then 0x07
  else if b = activeBank s || liveSt s != 0 then 0x12
  else 0

/-- An offset and length that lie in a bank. -/
def inBank (off len : Nat) : Bool := off % 4 == 0 && off + len ≤ 64 * 2 ^ 20

/-- BANK_ERASE: the erase of a bank starts. -/
def startErase (c : Cmd) (s : State) : State :=
  let b := c.byte 8
  let r := bankRefusal s b
  if r != 0 then failCmd c.seq r s else runCmd c.seq (bankTouched b s)

/-- BANK_ERASE: the oldest long command is one, and starts. -/
def execBankErase (s : State) : Out := live s (withCmd nextLong 0x10 startErase)

/-- BANK_ERASE_DONE: the bank holds nothing. -/
def execBankEraseDone (s : State) : Out := live s fun s =>
  match runningCmd s 0x10 with
  | some c => okCmd c.seq (bankTouched (c.byte 8) (setBank (c.byte 8) Bank.erased s))
  | none => s

/-- BANK_WRITE_INLINE: 48 bytes of the descriptor. -/
def execBankWriteInline (s : State) : Out := live s (withCmd nextShort 0x12 fun c s =>
  let b := c.byte 8
  let off := c.num 12 4
  let r := bankRefusal s b
  if r != 0 then failCmd c.seq r s
  else if !inBank off 48 then failCmd c.seq resArg s
  else okCmd c.seq (bankTouched b (setBank b ((bankOf s b).program off (c.desc.drop 16)) s)))

/-- The DMA command that runs next has this opcode: from an endpoint it is carried out, else it ends FAILED with ORIGIN (R334). -/
def withDma (op : Nat) (f : Cmd → Nat → State → State) (s : State) : State :=
  withCmd nextDma op (fun c s => match Origin.mep c.org with | some v => f c v s | none => failCmd c.seq resOrigin s) s

/-- A DMA job of a command that has moved nothing yet. -/
def newJob (use : DmaUse) (addr total : Nat) : DmaJob := ⟨use, addr, total, 0, [], [], 0⟩

/-- BANK_WRITE: from host memory. -/
def execBankWrite (s : State) : Out := live s (withDma 0x11 fun c v s =>
  let b := c.byte 8
  let off := c.num 12 4
  let len := c.num 24 4
  let r := bankRefusal s b
  if r != 0 then failCmd c.seq r s
  else if !inBank off len || len % 4 != 0 || len < 4 || len > 2 ^ 20 then failCmd c.seq resArg s
  else dmaQueue v (newJob (.bankWrite c.seq b off) (c.num 16 8) len) (bankTouched b s))

/-! ### The anti-rollback counter (R309) -/

/-- An image bounds the counter only where its bank passes steps 1 to 4 of R308. -/
def boundsRollback (s : State) (v b : Nat) : Bool := headCheck s b == 0 && v > headSecver (imageHead s b)

/-- ROLLBACK_ADVANCE. -/
def execRollbackAdvance (s : State) : Out := live s (withCmd nextShort 0x18 fun c s =>
  let v := c.byte 8
  if v > 64 || v < rollbackCtr s then failCmd c.seq resArg s
  else if v = rollbackCtr s then okCmd c.seq s
  else if boundsRollback s v (activeBank s) || boundsRollback s v 2 then failCmd c.seq 0x06 s
  else okCmd c.seq (s.setf F.KEY_STAT_ROLLBACK 0 v))

/-! ### VERIFY and RELOAD (R316) -/

/-- VERIFY and RELOAD start reading a bank; not in Standby, where they are refused with STATE. -/
def startVerify (c : Cmd) (s : State) : State :=
  if c.byte 8 > 2 then failCmd c.seq resArg s
  else if mode s = 0 then failCmd c.seq 0x12 s
  else runCmd c.seq s

/-- VERIFY. -/
def execVerify (s : State) : Out := live s (withCmd nextLong 0x13 startVerify)
/-- RELOAD. -/
def execReload (s : State) : Out := live s (withCmd nextLong 0x14 startVerify)

/-- The end of a RELOAD whose bank is accepted: the bank becomes active, or the golden image is to load, and the module resets. -/
def reload (c : Cmd) (s : State) : State :=
  let golden := c.byte 8 = 2
  resetAndStart (golden || s.env.recoveryLow) (okCmd c.seq (selectBank (c.byte 8) c.seq s))

/-- BANK_VERIFY_DONE: the checks of R308 end. `fault` names a flash read that did not complete. -/
def execBankVerifyDone (fault : Option (Fin 56)) (s : State) : Out := live s fun s =>
  match (runningCmd s 0x13).or (runningCmd s 0x14) with
  | none => s
  | some c =>
    let r := imageCheck s (c.byte 8) fault
    let s := judgeBank (c.byte 8) 0 r s
    match r with
    | some (code, _) => failCmd c.seq code s
    | none => if c.op = 0x14 then reload c s else okCmd c.seq s

/-! ### What a live replacement changes (R317, R318) -/

/-- The slot that an image binds to a port. -/
def Image.slotOf (m : Image) (p : Nat) : Option Nat :=
  (List.range 32).find? (fun k => m.fld F.GLB_SLOT_BOUND k == 1 && m.fld F.GLB_SLOT_PORT k == p)
/-- The virtual switch and bridge that an image binds to a port. -/
def Image.bridgeOf (m : Image) (p : Nat) : Option (Nat × Nat) :=
  m.vsw.findSome? (fun e => (e.2.bridges.find? (fun b => b.isLocal p)).map (fun b => (e.1, b.dev.val)))
/-- What takes effect only at training (log entry 26): lane reversal, Flit Mode at low rates, the clock mode. -/
def Image.training (m : Image) (p : Nat) : Bool × Nat × Nat :=
  ((m.fld F.SPN_CTL_REVERSE_EN (p / 4)).testBit (p % 4), m.fld F.SPN_CTL_FLIT_LOW (p / 4),
    m.fld F.SPN_CLKMODE_MODE (p / 4) / 4 ^ (p % 4) % 4)

/-- A port is kept by a change from one image to another. -/
def keptPort (a b : Image) (p : Nat) : Bool :=
  a.ports.contains p && b.ports.contains p && a.form (p / 4) == b.form (p / 4) && a.up p == b.up p &&
    a.slotOf p == b.slotOf p && a.bridgeOf p == b.bridgeOf p && a.training p == b.training p

/-- The changed ports of a pier. -/
def changedPorts (a b : Image) (n : Nat) : List Nat :=
  (a.pier n ++ b.pier n).eraseDups.filter (fun p => !keptPort a b p)

/-- The section that a live replacement of a pier may not change so (R318). -/
def scopeCheck (s : State) (a b : Image) (n : Nat) : Option (Nat × Nat) :=
  let outside := (List.range 55).filter (fun i =>
    !(secOf n 0 ≤ i && i ≤ secOf n 5) && b.hashes.getD i 0 != s.img.hashes.getD i 0)
  let fixed (m : Image) (p : Nat) : Bool := m.up p || m.floing p
  let ports := if (changedPorts a b n).any (fun p => (a.ports.contains p && fixed a p) || (b.ports.contains p && fixed b p))
    then [secOf n 0] else []
  (firstOf 0x10 (outside ++ ports)).or
    (if a.mode != b.mode || a.fabric != b.fabric || a.module != b.module then some (0x10, secHead) else none)

/-- The register instances that the commit of a segment writes, but for its duty table and the class map (R150): what
either image gives for the pier, and the pier's tables that were written at run time (R321). -/
def segKeys (s : State) (a b : Image) (n : Nat) : List Nat :=
  let given (m : Image) : List Nat := match m.segs[n]? with
    | some g => g.sets.map (fun x => regKey x.reg x.idx)
    | none => []
  let run := (s.img.shadow.map (fun (e : Nat × Word) => e.1)).filter (inPier n)
  (given a ++ given b ++ run).eraseDups.filter (fun k =>
    (Reg.ofNat (k % 256)).inImage && Reg.ofNat (k % 256) != .PIR_DUTY && Reg.ofNat (k % 256) != .PIR_CLSMAP)

/-- A tenant of the new segment that a requester of another pier has, by the tables as they stand: the replacement is rejected with
BINDING (R158). -/
def bindingCheck (s : State) (b : Image) (n : Nat) : Option (Nat × Nat) :=
  if (b.tenants n).any (fun u => (tenantPiers s u).any (fun k => k != n)) then some (0x0E, secOf n 3) else none

/-- An entry that the segment would change is locked (R246, R321). -/
def lockedChange (s : State) (b : Image) (keys : List Nat) : Bool :=
  keys.any (fun k => locked s (Reg.ofNat (k % 256)) (k / 256) &&
    s.rd (Reg.ofNat (k % 256)) (k / 256) != b.val (Reg.ofNat (k % 256)) (k / 256))

/-! ### The swap (R321) -/

/-- A shaper whose rate or burst changes, and a policer whose register changes, is treated as written, and a changed route holds new
packets (R157, R161, R206). -/
def retime (old : State) (k : Nat) (s : State) : State :=
  let i := k / 256
  let changed (f : Fld) : Bool := old.f f i != s.f f i
  match Reg.ofNat (k % 256) with
  | .PIR_QCFG => if changed F.PIR_QCFG_BURST then resetQBucket (i / 8) (i % 8) s else s
  | .PIR_QRATE => if changed F.PIR_QRATE_RATE then resetQBucket (i / 8) (i % 8) s else s
  | .PIR_TSCFG => if changed F.PIR_TSCFG_BURST then resetTBucket (i / 512) (i % 512) s else s
  | .PIR_EPCFG => if old.rd .PIR_EPCFG i = s.rd .PIR_EPCFG i then s else fillPolicer i s
  | .PIR_TSRATE => if changed F.PIR_TSRATE_RATE then resetTBucket (i / 512) (i % 512) s else s
  | .PIR_FROUTE =>
    if old.rd .PIR_FROUTE i = s.rd .PIR_FROUTE i || s.fab.hold.contains i then s else { s with fab.hold := s.fab.hold ++ [i] }
  | _ => s

/-- One port's bridge that the new segment binds otherwise. -/
def unbindBridge (a b : Image) (p : Nat) (s : State) : State :=
  match a.bridgeOf p with
  | some (v, j) =>
    if b.bridgeOf p = some (v, j) then s else slotStatus v (fnBridge j) 3 (setCapF v (fnBridge j) .pcie 0x18 22 22 0 s)
  | none => s

/-- A bridge that the new image leaves without its port reports an empty slot (R322). -/
def unbindBridges (a b : Image) (n : Nat) (s : State) : State :=
  forEach (a.pier n) (unbindBridge a b) s

/-- The tables of a pier, its SPN_ values, slot bindings, span forms, shadow and measurements take the values of an image. -/
def swapTables (a b : Image) (n : Nat) (s : State) : State :=
  let old := s
  let keys := segKeys s a b n
  let s := if s.ports.brace || s.ports.power then forRange 16 (fun q s => settleBrace (16 * n + q) s) s else s
  let s := forEach keys (fun k s =>
    let x : RegSet := ⟨Reg.ofNat (k % 256), k / 256, b.val (Reg.ofNat (k % 256)) (k / 256)⟩
    shadowSet x (commitSet x s)) s
  let s := forEach keys (retime old) s
  let s := unbindBridges a b n s
  let s := { s with
    host.vsw := b.vsw, host.home := b.homes, host.slotDef := b.segs.flatMap (fun g => g.slots),
    img.applied := some b, img.hashes := b.hashes }
  let s := refreshSpill n (commitForms b n s)
  forRange 32 (fun k s =>
    if old.f F.GLB_SLOT_BOUND k = s.f F.GLB_SLOT_BOUND k && old.f F.GLB_SLOT_PORT k = s.f F.GLB_SLOT_PORT k then s
    else commitSlot k s) s

/-- The initial duty records of an image's pier are those that a closure restores (R281); the records themselves stay (R296). -/
def swapRecords (b : Image) (n : Nat) (s : State) : State :=
  let rest := s.eng.recInit.filter (fun (e : Nat × Byte) => e.1 / (4096 * 64) != n)
  let mine : List (Nat × Byte) :=
    match b.segs[n]? with
    | some g => g.record.map (fun (e : Nat × Byte) => (4096 * 64 * n + e.1, e.2))
    | none => []
  { s with eng.recInit := mine.foldl (fun m (e : Nat × Byte) => SMap.put 0 m e.1 e.2) rest }

/-- Appends events to the queue of an engine. -/
def queueAll (g : Nat) (l : List QEv) (s : State) : State := wakeEng g (setEngQ g (engQ s g ++ l) s)

/-- The old program runs STOP with reason 0 for every duty of the pier, and the duty table of an image is placed, each duty with
START reason 0 on an engine that takes one now (Table IMG-9, COMMIT). `tgt` names the engine of a duty. -/
def swapDuties (b : Image) (n : Nat) (tgt : State → Nat → Option Nat) (s : State) : State :=
  let keys := (List.range 64).map (64 * n + ·)
  let was := keys.filter (fun k => s.b F.PIR_DUTY_VALID k)
  let will := keys.filter (fun k => F.PIR_DUTY_VALID.get (b.val .PIR_DUTY k) = 1)
  let eng (k : Nat) : Nat := s.f F.PIR_DUTY_ENGINE k
  let s := forEach (was.filter (fun k => !will.contains k))
    (fun k s => queueAll (eng k) [⟨n, k % 64, .stop 0⟩] s) s
  let s := forEach keys (fun k s =>
    let e := eng k
    let mv := s.f F.PIR_DUTY_MOVING k
    let x : RegSet := ⟨.PIR_DUTY, k, b.val .PIR_DUTY k⟩
    shadowSet x (((s.wr .PIR_DUTY k x.val).setf F.PIR_DUTY_ENGINE k e).setf F.PIR_DUTY_MOVING k mv)) s
  let s := forEach (was.filter (fun k => will.contains k)) (fun k s =>
    match tgt s k with
    | some t =>
      if t = eng k then queueAll t [⟨n, k % 64, .stop 0⟩, ⟨n, k % 64, .start 0⟩] s
      else planMove [(k, t)] (eng k) 0 0 s
    | none => s) s
  refreshDuties (forEach (will.filter (fun k => !was.contains k)) (fun k s =>
    let s := s.setf F.PIR_DUTY_ENGINE k ((tgt s k).getD (s.f F.PIR_DUTY_HOME k))
    offer n (k % 64) (.start 0) s) s)

/-! ### The states of Table IMG-9 -/

/-- A changed port loses its link without a Surprise Down report: its flows stop and are discarded, tracked requests are completed,
and the link goes to Disabled (R322). -/
def liveDown (p : Nat) (s : State) : State :=
  if !portExists s p || s.b F.PIR_CLOSE_CLOSED p then s else
  let s := s.setPort p { s.port p with offCmd := true }
  let s := if linkUp s p then linkDownEvent p s else s
  let s := discardPortTlps p (stopFlows p (flushEgress p (synthPort p s)))
  linkGone p (s.setf F.SPN_PSTAT_LTSSM p 0x24)

/-- Parks engines of a pier, at once or when its migration has ended (R299). -/
def parkGroup (n : Nat) (gs : List Nat) (s : State) : State :=
  if pierMoving s n then { s with eng.parkWait := s.eng.parkWait ++ gs.map (fun g => (g, true)) } else parkEngines gs s

/-- Unparks engines where they stand: their clocks run again (R297). -/
def wakeGroup (gs : List Nat) (s : State) : State :=
  forEach gs (fun g s =>
    let s := s.setf F.ENG_CTL_PARK g 0
    if engSt s g = 2 then wakeEng g (s.setf F.ENG_STAT_STATE g 1) else s) s

/-- The lower and the upper four engines of a pier. -/
def lowerFour (n : Nat) : List Nat := (List.range 4).map (fun e => 8 * n + e)
/-- The upper four. -/
def upperFour (n : Nat) : List Nat := (List.range 4).map (fun e => 8 * n + 4 + e)
/-- An engine is parked, or has failed. -/
def atRest (s : State) (g : Nat) : Bool := engSt s g == 2 || engSt s g == 3

/-- LIVE_APPLY is allowed on a pier (R319). -/
def liveAllowed (s : State) (n : Nat) : Bool :=
  2 ≤ mode s && mode s ≤ 4 && liveSt s == 0 && (List.range 8).all (fun e => engUp s (8 * n + e)) &&
    s.f F.GLB_PIERSTAT_STATE n == 0

/-- LIVE_APPLY starts (Table IMG-9, IDLE). -/
def startLive (c : Cmd) (s : State) : State :=
  let n := c.byte 8
  match s.img.applied with
  | some m =>
    if n > 7 then failCmd c.seq resArg s
    else if !liveAllowed s n then failCmd c.seq 0x12 (imgErr (1 - activeBank s) 0x12 secHead n s)
    else
      let s := (runCmd c.seq s).setf F.GLB_IMGSTAT_LIVE_PIER 0 n
      setLive 1 { s with img.live := some ⟨c.seq, false, m, m, [], 0, false⟩ }
  | none => if n > 7 then failCmd c.seq resArg s else failCmd c.seq 0x12 (imgErr (1 - activeBank s) 0x12 secHead n s)

/-- LIVE_APPLY. -/
def execLiveApply (s : State) : Out := live s (withCmd nextLong 0x15 startLive)

/-- Does something in a state of Table IMG-9. -/
def inLive (st : Nat) (f : Live → Nat → State → State) (s : State) : State :=
  match s.img.live with
  | some l => if liveSt s = st then f l (livePier s) s else s
  | none => s

/-- LIVE_VERIFY_DONE: the inactive bank passes R308 and R318, or the command ends FAILED. -/
def execLiveVerifyDone (fault : Option (Fin 56)) (s : State) : Out := live s (inLive 1 fun l n s =>
  let b := 1 - activeBank s
  let m := imageIn s b
  let r := ((imageCheck s b fault).or (bindingCheck s m n)).or (scopeCheck s l.old m n)
  let s := judgeBank b n r s
  match r with
  | some (code, _) => failCmd l.cmd code ({ s with img.live := none }.setf F.GLB_IMGSTAT_LIVE 0 0)
  | none => setLive 2 { s with img.live := some { l with image := m, changed := changedPorts l.old m n } })

/-- A locked entry ends the replacement FAILED with LOCKED. -/
def liveLocked (n : Nat) (s : State) : State :=
  liveAbort 0x11 (judgeBank (1 - activeBank s) n (some (0x11, secOf n 3)) s)

/-- LIVE_STAGE_DONE: the segment is staged; ingress on the changed ports stops. -/
def execLiveStageDone (s : State) : Out := live s (inLive 2 fun l n s =>
  if lockedChange s l.image (segKeys s l.old l.image n) then liveLocked n s else setLive 3 s)

/-- LIVE_DRAIN_DONE: the queues of the changed ports are empty or DRAIN has run out. -/
def execLiveDrainDone (s : State) : Out := live s (inLive 3 fun l n s =>
  forEach (upperFour n) (loadProgram l.image) (setLive 4 (parkGroup n (upperFour n) (forEach l.changed liveDown s))))

/-- LIVE_SWAP_A_DONE: the upper engines hold the new program; the table commit runs (R321). -/
def execLiveSwapADone (s : State) : Out := live s (inLive 4 fun l n s =>
  if pierMoving s n || !(upperFour n).all (atRest s) then s
  else if lockedChange s l.image (segKeys s l.old l.image n) then liveLocked n s
  else
    let s := setLive 5 { s with img.live := some { l with committed := true } }
    let s := wakeGroup (upperFour n) (swapRecords l.image n (swapTables l.old l.image n s))
    let s := forEach (lowerFour n) (fun g s => s.setf F.ENG_CTL_PARK g 1) s
    let s := swapDuties l.image n (fun s k => siblingFor s n (s.f F.PIR_DUTY_KIND k) 64) s
    forEach (lowerFour n) (fun g s =>
      if !engLive s g then s
      else
        let l := assign n g s ((dutiesOf s g).filter (fun k => !s.b F.PIR_DUTY_MOVING k))
        if !l.isEmpty then planMove l g 1 1 s
        else if (dutiesOf s g).isEmpty then s.setf F.ENG_STAT_STATE g 2 else s) s)

/-- LIVE_COMMIT_DONE: every duty runs the new program on the upper engines; the lower four are loaded and unparked. -/
def execLiveCommitDone (s : State) : Out := live s (inLive 5 fun l n s =>
  if pierMoving s n || !(lowerFour n).all (atRest s) then s
  else if l.code != 0 then setLive 8 s
  else setLive 6 (dutiesHome n (wakeGroup (lowerFour n) (forEach (lowerFour n) (loadProgram l.image) s))))

/-- A Reduced entry that waited for a live replacement is weighed again (R325). -/
def liveWaited (l : Live) (s : State) : State := if l.waitReduced then weighCauses s else s

/-- LIVE_SWAP_B_DONE: the duties are home; changed ports of the new segment train; probation begins. -/
def execLiveSwapBDone (s : State) : Out := live s (inLive 6 fun l n s =>
  if pierMoving s n then s else
  let s := forEach (l.changed.filter (portExists s)) portReturn s
  liveWaited l (setLive 7 { s with img.live := some { l with waitReduced := false } }))

/-- Probation ends without failure: the inactive bank becomes active (Table IMG-9). -/
def confirmLive (l : Live) (n : Nat) (s : State) : State :=
  let s := selectBank (1 - activeBank s) l.cmd s
  let s := s.wr .GLB_SEGBUILD n (BitVec.ofNat 32 l.image.build)
  okCmd l.cmd ({ s with img.live := none }.setf F.GLB_IMGSTAT_LIVE 0 0)

/-- PROBATION_END: GLB_LIVECFG.PROBATION has run out since the commit. -/
def execProbationEnd (s : State) : Out := live s (inLive 7 confirmLive)

/-- LIVE_CONFIRM: refused outside PROBATION (R325). -/
def execLiveConfirm (s : State) : Out := live s (withCmd nextShort 0x16 fun c s =>
  if liveSt s = 7 then okCmd c.seq (inLive 7 confirmLive s) else failCmd c.seq 0x12 s)

/-- LIVE_ROLLBACK: refused outside SWAP_B and PROBATION (R325). -/
def execLiveRollback (s : State) : Out := live s (withCmd nextShort 0x17 fun c s =>
  match s.img.live with
  | some l =>
    if liveSt s = 6 || liveSt s = 7 then okCmd c.seq (setLive 8 { s with img.live := some { l with code := 0x14 } })
    else failCmd c.seq 0x12 s
  | none => failCmd c.seq 0x12 s)

/-- ROLLBACK_DONE: the old segment is applied again on the engines that remain live, changed ports train in their old form, and the
command ends FAILED with ENGINE or PROBATION (R324). -/
def execRollbackDone (s : State) : Out := live s (inLive 8 fun l n s =>
  if pierMoving s n then s else
  let s := swapRecords l.old n (swapTables l.image l.old n (forEach l.changed liveDown s))
  let s := wakeGroup (lowerFour n ++ upperFour n) (forEach (lowerFour n ++ upperFour n) (loadProgram l.old) s)
  let s := swapDuties l.old n (fun s k =>
    if engUp s (s.f F.PIR_DUTY_HOME k) then some (s.f F.PIR_DUTY_HOME k) else siblingFor s n (s.f F.PIR_DUTY_KIND k) 64) s
  let s := forEach (l.changed.filter (portExists s)) portReturn s
  let code := if l.code = 0 then 0x14 else l.code
  let s := imgErr (1 - activeBank s) code secHead n ({ s with img.live := none }.setf F.GLB_IMGSTAT_LIVE 0 0)
  liveWaited l (failCmd l.cmd code s))

end Sys2Proof.Machine
end

