-- ==== Sys2Proof/Machine/CmdRows.lean ====
section
/-! DEFINITION. The commands of the journal, the modes, the recorder, the keystone and the engines (R334 to R343, R355, R359, R407, R433,
R436), the checkpoint (R339), and the journal FIFOs (R328, R330). -/

namespace Sys2Proof.Machine

/-! ### The journal FIFOs (R328, R330) -/

/-- The oldest of an island's writes that wait takes effect now that its FIFO has room; the others wait on in order. -/
def retryHeld (isl : Nat) (s : State) : State :=
  let mine := s.jrn.held.filter (fun (h : HeldW) => h.island == isl)
  let s := { s with jrn.held := s.jrn.held.filter (fun (h : HeldW) => h.island != isl) }
  forEach mine (fun (h : HeldW) s =>
    match regAt h.off with
    | some (r, i) => (regWriteAt true r (bankedIdx h.w.org r i) h.off h.w s).2
    | none => s) s

/-- JOURNAL_ENTRY: the keeper takes the oldest entry of an island's FIFO, unless a checkpoint runs (R339); its write to channel 0 goes
first there but for a class that has waited 4 µs (R136). -/
def execJournalEntry (isl : IslandId) (s : State) : Out := live s fun s =>
  if s.b F.JNL_STAT_CHKPT_BUSY 0 then s else
  match SMap.get [] s.jrn.fifo isl.val with
  | e :: rest =>
    serve (if s.b F.JNL_STAT_CH0_LOST 0 then [] else [0]) 1 (fun s =>
      retryHeld isl.val (numberEntry e { s with jrn.fifo := SMap.put [] s.jrn.fifo isl.val rest })) s
  | [] => s

/-! ### Short commands (Table JNL-4) -/

/-- NOP. -/
def execNop (s : State) : Out := live s (withCmd nextShort 0x01 fun c s => okCmd c.seq s)

/-- JNL_CHECKPOINT: a checkpoint starts, or the command joins the one that runs; it ends with it. -/
def execJnlCheckpoint (s : State) : Out := live s (withCmd nextShort 0x02 fun c s =>
  (runCmd c.seq { s with jrn.ckptWait := s.jrn.ckptWait ++ [c.seq] }).setf F.JNL_STAT_CHKPT_BUSY 0 1)

/-- JNL_MARK: a kind-9 entry with the command's bytes. -/
def execJnlMark (s : State) : Out := live s (withCmd nextShort 0x03 fun c s =>
  okCmd c.seq (keeperEntry ⟨9, jNone, Origin.jorg c.org, 0, 0, 0, c.num 8 16⟩ s))

/-- What QUERY reports of a command with a kind-1 entry: its newest status as RESULT, and ARG (R338). -/
def queryAnswer (s : State) (k1 : JEntry) : Nat × Nat :=
  match ((heldEntries s).filter (fun (e : JEntry) => e.req.kind == 2 && e.req.ref == k1.seq)).getLast? with
  | some e => (e.req.status, e.req.result + 2 ^ 16 * (k1.req.code % 256) + 2 ^ 64 * e.seq)
  | none => (jAccepted, 2 ^ 16 * (k1.req.code % 256))

/-- QUERY: COMPLETED where the named command's kind-1 entry is held, else FAILED with ARG. -/
def execQuery (s : State) : Out := live s (withCmd nextShort 0x04 fun c s =>
  match (heldEntries s).find? (fun (e : JEntry) => e.req.kind == 1 && e.seq == c.num 8 8) with
  | some e => endCmd c.seq jDone (queryAnswer s e).1 (queryAnswer s e).2 s
  | none => failCmd c.seq resArg s)

/-- REDUCE_ENTER: the command cause holds (R407). -/
def execReduceEnter (s : State) : Out := live s (withCmd nextShort 0x20 fun c s =>
  okCmd c.seq (weighCauses (s.setf F.GLB_MODE_CAUSE_CMD 0 1)))

/-- REDUCE_LEAVE: the command cause is dropped. -/
def execReduceLeave (s : State) : Out := live s (withCmd nextShort 0x21 fun c s =>
  okCmd c.seq (weighCauses (s.setf F.GLB_MODE_CAUSE_CMD 0 0)))

/-- REC_FLUSH: a flush starts, or the request joins one (R355). -/
def execRecFlush (s : State) : Out := live s (withCmd nextShort 0x28 fun c s => okCmd c.seq (flushStart s))

/-! ### DMA commands (R335, R343, R359) -/

/-- EXPORT_JOURNAL. -/
def execExportJournal (s : State) : Out := live s (withDma 0x08 fun c v s =>
  if c.num 16 4 < 1 || c.num 16 4 > slots then failCmd c.seq resArg s
  else dmaQueue v (newJob (.export_ c.seq) (c.num 24 8) 0) s)

/-- EXPORT_RECORDER. -/
def execExportRecorder (s : State) : Out := live s (withDma 0x09 fun c v s =>
  if c.byte 8 > 2 || c.num 16 4 < 1 || c.num 16 4 > 131072 then failCmd c.seq resArg s
  else dmaQueue v (newJob (.export_ c.seq) (c.num 24 8) 0) s)

/-- BATCH: descriptors of 64 bytes. -/
def execBatch (s : State) : Out := live s (withDma 0x0A fun c v s =>
  if c.num 16 2 < 1 || c.num 16 2 > 256 then failCmd c.seq resArg s
  else dmaQueue v (newJob (.batch c.seq) (c.num 8 8) (64 * c.num 16 2)) s)

/-! ### Engine commands (R336) -/

/-- ENGINE_COMMANDS: the oldest engine command that no duty has yet goes to the duty it names, or ends FAILED with DUTY. -/
def execEngineCommands (s : State) : Out := live s fun s =>
  match s.jrn.cmds.find? (fun (c : Cmd) => c.op ≥ 0x80 && !c.running) with
  | none => s
  | some c =>
    let n := c.byte 2
    let d := c.byte 3
    if n > 7 || d > 63 || !s.b F.PIR_DUTY_VALID (dutyKey n d) || s.f F.PIR_DUTY_KIND (dutyKey n d) != 4 then
      failCmd c.seq resDuty s
    else
      let s := runCmd c.seq s
      offer n d (.command c.seq) { s with eng.cmds := s.eng.cmds ++ [(c.seq, dutyKey n d)] }

/-! ### The Psivin report (R433) -/

/-- PSIVIN_REPORT starts, or fails with ARG. -/
def startReport (c : Cmd) (s : State) : State :=
  if !s.b F.KEY_STAT_IDVALID 0 || (c.num 40 8 != 0 && (Origin.mep c.org).isNone) then failCmd c.seq resArg s
  else runCmd c.seq s

/-- PSIVIN_REPORT. -/
def execPsivinReport (s : State) : Out := live s (withCmd nextLong 0x30 startReport)

/-- A DMA job of a command runs or waits. -/
def hasJob (s : State) (q : Nat) : Bool :=
  s.host.dma.any (fun (e : Nat × DmaJob) => e.2.use.cmd == q) || s.host.dmaq.any (fun (e : Nat × DmaJob) => e.2.use.cmd == q)

/-- PSIVIN_REPORT_DONE: the report is signed and stands in KEY_RPTWIN; with a host address it goes out by DMA. -/
def execPsivinReportDone (s : State) : Out := live s fun s =>
  match runningCmd s 0x30 with
  | none => s
  | some c =>
    if hasJob s c.seq then s else
    let s := { s with key.report := reportOf s ((c.desc.drop 8).take 32) }
    match Origin.mep c.org with
    | some v => if c.num 40 8 = 0 then okCmd c.seq s else dmaQueue v (newJob (.report c.seq) (c.num 40 8) 0) s
    | none => okCmd c.seq s

/-! ### The life cycle (R436, Table KEY-7) -/

/-- LIFECYCLE: the authorisation is checked; an accepted change is journalled and its checkpoint starts. RESULT of the PROGRESS entry is
free: no rule states it. -/
def startLifecycle (c : Cmd) (s : State) : State :=
  let code := lifecycleCheck s (c.byte 8)
  let s := attempt code s
  if code != 0 then failCmd c.seq resArg s else
  let x := s.fresh
  let s := progress c.seq (x.1 % 2 ^ 16) (runCmd c.seq x.2)
  { s with key.change := some (c.seq, c.byte 8) }.setf F.JNL_STAT_CHKPT_BUSY 0 1

/-- LIFECYCLE. -/
def execLifecycle (s : State) : Out := live s (withCmd nextLong 0x31 startLifecycle)

/-- Steps 3 and 4 of Table KEY-7: the fuses are blown, the identity of a scrapped part is destroyed, and the command ends. -/
def blowFuses (s : State) : State :=
  match s.key.change with
  | none => s
  | some (q, tgt) =>
    let s := { s with key.change := none, key.fuse := some tgt }.setf F.KEY_STAT_LCSTATE 0 tgt
    okCmd q (if tgt = 4 then showIdentity s else s)

/-- MRAM_WIPE_COMPLETE: steps 5 and 6 of Table KEY-7: the wipe ends and a module reset follows. -/
def execMramWipeComplete (s : State) : Out := live s fun s =>
  if s.key.fuse.isNone then s
  else resetAndStart s.env.recoveryLow (mramWipe { s with key.fuse := none })

/-! ### The checkpoint (R339) -/

/-- The keeper's copy, the last SEQ and CLEAN stand in MRAM. -/
def saveCheckpoint (s : State) : State :=
  { s with jrn.ckpt := s.jrn.copy, jrn.ckptSeq := s.rd64 .JNL_HEAD 0, jrn.clean := true }

/-- The flush of power-fail shutdown starts, or a suspended one resumes (R355). -/
def shutdownFlush (s : State) : State :=
  if s.abt.shutdown && s.rcd.susp then flushStart { s with rcd.susp := false } else s

/-- Entries of the keeper that waited are taken. -/
def drainKeeper (s : State) : State :=
  forEach (SMap.get [] s.jrn.fifo 25) numberEntry { s with jrn.fifo := SMap.del s.jrn.fifo 25 }

/-- CHECKPOINT_COMPLETE: the commands that asked for it end, a life-cycle change goes on, and waiting entries are taken. At power-fail
shutdown the records of triggers with SRC 5 come before its end (R352), and the flush after it. -/
def execCheckpointComplete (s : State) : Out := live s fun s =>
  if !s.b F.JNL_STAT_CHKPT_BUSY 0 || (s.abt.shutdown && s.rcd.build.any (fun (b : RBuild) => b.src == 5)) then s else
  let s := drainKeeper ((saveCheckpoint s).setf F.JNL_STAT_CHKPT_BUSY 0 0)
  let w := s.jrn.ckptWait
  let s := forEach w okCmd { s with jrn.ckptWait := [] }
  shutdownFlush (retryHeld 25 (blowFuses s))

/-! ### Long commands (R337) -/

/-- LONG_COMMAND_START: the oldest long command starts when none runs. -/
def execLongCommandStart (s : State) : Out := live s fun s =>
  match nextLong s with
  | none => s
  | some c =>
    if isPriv c.op && !privileged s c.org then failCmd c.seq resOrigin s else
    match c.op with
    | 0x10 => startErase c s
    | 0x13 | 0x14 => startVerify c s
    | 0x15 => startLive c s
    | 0x30 => startReport c s
    | _ => startLifecycle c s

end Sys2Proof.Machine
end

