-- ==== Sys2Proof/Machine/PmbusRows.lean ====
section
/-! DEFINITION. The PMBus view of the abutment (R398, Table ABT-10). -/

namespace Sys2Proof.Machine

/-! ### LINEAR11 -/

/-- A LINEAR11 word with a fixed exponent: the value `num / den` in units of 2^`e`. An inexact value takes a neighbour that no rule fixes; one
outside 11 bits a mantissa that none fixes (log entry 27). -/
def toLinear (e num den : Int) (s : State) : Nat × State :=
  let q := num.fdiv den
  let x := s.fresh
  let m : Int := if num.fmod den = 0 then q else q + ((x.1 % 2 : Nat) : Int)
  let m : Int := if -1024 ≤ m && m < 1024 then m else ((x.1 : Nat) : Int)
  ((e % 32).toNat * 2048 + (m % 2048).toNat, x.2)

/-- The exponent of a LINEAR11 word. -/
def linExp (w : BitVec 16) : Int := (w.extractLsb' 11 5).toInt
/-- Its mantissa. -/
def linMant (w : BitVec 16) : Int := (w.extractLsb' 0 11).toInt

/-- A written limit, `per` units to the volt or ampere, rounded to the nearest unit; a tie takes either side, and a value that the
register's field cannot hold one that no rule fixes (log entry 27). -/
def fromLinear (w : BitVec 16) (per : Int) (width : Nat) (s : State) : Nat × State :=
  let e := linExp w
  let num := linMant w * per * 2 ^ e.toNat
  let den : Int := 2 ^ (-e).toNat
  let q := num.fdiv den
  let r := 2 * num.fmod den
  let x := s.fresh
  let v := if r < den then q else if r > den then q + 1 else q + ((x.1 % 2 : Nat) : Int)
  (if 0 ≤ v && v < 2 ^ width then v.toNat else x.1 % 2 ^ width, x.2)

/-! ### Transactions -/

/-- The PMBus device answers while ABT_PMB.EN is 1. -/
def pmb (f : State → State) (s : State) : State := if s.b F.ABT_PMB_EN 0 then f s else s
/-- A reply of some bytes. -/
def pmbReply (l : List Byte) (s : State) : State := { s with sb.reply := l }
/-- A reply of a LINEAR11 word. -/
def pmbLinear (e num den : Int) (s : State) : State :=
  let x := toLinear e num den s
  pmbReply (leBytes x.1 2) x.2
/-- A write: a sideband write of the low half of a register; one whose PEC fails is discarded. Answers the access status. -/
def pmbWrite (r : Reg) (v : Nat) (s : State) : Nat × State := regWrite (r.offset 0) ⟨.sideband, 0b0011, BitVec.ofNat 32 v⟩ s

/-- A limit: read in LINEAR11 with exponent `e` as `num / den`, or written in a field of `width` bits, `per` units to the volt or ampere. -/
def pmbLimit (r : Reg) (e num den per : Int) (width : Nat) (w : Option (BitVec 16)) (pecOk : Bool) (s : State) : State :=
  match w with
  | none => pmbLinear e num den s
  | some x =>
    if !pecOk then s else
    let v := fromLinear x per width s
    (pmbWrite r v.1 v.2).2

/-- The feed of the page; none for the module. -/
def pmbFeed (s : State) : Option Nat := if s.abt.page < 2 then some s.abt.page else none

/-- The bits of STATUS_INPUT. -/
def statusInput (s : State) : Nat := s.abt.sticky ||| (if s.b F.ABT_STAT_FAULT_PENDING 0 then 2 else 0)

/-- A two's complement field of 16 bits. -/
def signed16 (v : Nat) : Int := (BitVec.ofNat 16 v).toInt
/-- The latest current of a feed in units of 4 mA. -/
def iinOf (s : State) (f : Nat) : Int := signed16 (s.f F.ABT_IIN_AMPS f)

/-- PAGE: 0 FEED_A, 1 FEED_B, 0xFF the module; a write of any other value leaves it (log entry 27). -/
def execPage (w : Option Byte) (pecOk : Bool) (s : State) : Out := live s (pmb fun s =>
  match w with
  | none => pmbReply (leBytes s.abt.page 1) s
  | some x => if pecOk && (x = 0 || x = 1 || x = 0xFF) then { s with abt.page := x.toNat } else s)

/-- CLEAR_FAULTS: every ABT_EVENT bit and the sticky bits of STATUS_INPUT clear. -/
def execClearFaults (pecOk : Bool) (s : State) : Out := live s (pmb fun s =>
  if !pecOk then s else
  let x := pmbWrite .ABT_EVENT 0xFFFE s
  if x.1 = accOk then { x.2 with abt.sticky := 0 } else x.2)

/-- CAPABILITY: PEC, 1 MHz, no SMBALERT# (the byte's layout is log entry 27's). -/
def execCapability (s : State) : Out := live s (pmb fun s => pmbReply [0xC0] s)

/-- VIN_UV_WARN_LIMIT: WARN_V as it acts, in 2^−4 V. -/
def execVinUvWarnLimit (w : Option (BitVec 16)) (pecOk : Bool) (s : State) : Out := live s (pmb fun s =>
  pmbLimit .ABT_VTHR0 (-4) (16 * (warnU s / 5 : Nat)) 100 100 13 w pecOk s)

/-- VIN_UV_FAULT_LIMIT: RESET_V. -/
def execVinUvFaultLimit (w : Option (BitVec 16)) (pecOk : Bool) (s : State) : Out := live s (pmb fun s =>
  pmbLimit .ABT_VTHR1 (-4) (16 * (resetU s / 5 : Nat)) 100 100 13 w pecOk s)

/-- IIN_OC_FAULT_LIMIT: ILIM, in 2^−3 A. -/
def execIinOcFaultLimit (w : Option (BitVec 16)) (pecOk : Bool) (s : State) : Out := live s (pmb fun s =>
  pmbLimit .ABT_ILIM (-3) (8 * (ilim s : Nat)) 4 4 9 w pecOk s)

/-- STATUS_WORD: bit 13 INPUT, bit 11 POWER_GOOD#, bit 3 VIN_UV_FAULT (log entry 27). -/
def execStatusWord (s : State) : Out := live s (pmb fun s =>
  pmbReply (leBytes ((if statusInput s != 0 then 2 ^ 13 else 0) + (if s.b F.ABT_STAT_PG 0 then 0 else 2 ^ 11) +
    (if s.abt.sticky.testBit 4 then 8 else 0)) 2) s)

/-- STATUS_INPUT. -/
def execStatusInput (s : State) : Out := live s (pmb fun s => pmbReply (leBytes (statusInput s) 1) s)

/-- READ_VIN: samples are in 2 mV. -/
def execReadVin (s : State) : Out := live s (pmb fun s =>
  pmbLinear (-4) (16 * ((match pmbFeed s with | some f => vinOf s f | none => supplyIn s : Nat) : Int)) 500 s)

/-- READ_IIN: samples are in 4 mA. -/
def execReadIin (s : State) : Out := live s (pmb fun s =>
  pmbLinear (-3) (8 * (match pmbFeed s with | some f => iinOf s f | none => iinOf s 0 + iinOf s 1)) 250 s)

/-- READ_TEMPERATURE_1: samples are in 1/16 °C; for the module no rule states a value. -/
def execReadTemperature1 (s : State) : Out := live s (pmb fun s =>
  match pmbFeed s with
  | some f => pmbLinear (-2) (signed16 (s.f F.ABT_TEMP_TEMP f)) 4 s
  | none => let x := s.fresh; pmbReply (leBytes (0b11110 * 2048 + x.1 % 2048) 2) x.2)

/-- READ_PIN: 2 mV × 4 mA is 8 µW; ABT_PIN is in 25 mW. -/
def execReadPin (s : State) : Out := live s (pmb fun s =>
  match pmbFeed s with
  | some f => pmbLinear 0 (8 * (vinOf s f : Int) * iinOf s f) 1000000 s
  | none => pmbLinear 0 (s.f F.ABT_PIN_WATTS 0) 40 s)

/-- PMBUS_REVISION. -/
def execPmbusRevision (s : State) : Out := live s (pmb fun s => pmbReply [0x44] s)

/-- MFR_READ_ENERGY: the count of 7, the energy count, and WRAPPED. -/
def execMfrReadEnergy (s : State) : Out := live s (pmb fun s =>
  pmbReply (leBytes 7 1 ++ leBytes (s.rd64 .ABT_ENERGY 0 % 2 ^ 48) 6 ++ leBytes (s.f F.ABT_ENERGY_WRAPPED 1) 1) s)

end Sys2Proof.Machine
end

