-- ==== Sys2Proof/Machine/Dispatch.lean ====
section
/-! DEFINITION. Which meaning each command has: one direct call per constructor of `Instr`. -/

namespace Sys2Proof.Machine

/-- The effect of a command on everything but the queue of waiting commands. -/
def exec (i : Instr) (s : State) : Host.Outcome State Fault Refusal :=
  match i with
  | .registerWrite off w => Sys2Proof.Machine.execRegisterWrite off w s
  | .clockLossDetection i1 accs => Sys2Proof.Machine.execClockLossDetection i1 accs s
  | .oscillatorLoss accs => Sys2Proof.Machine.execOscillatorLoss accs s
  | .oscillatorTest good => Sys2Proof.Machine.execOscillatorTest good s
  | .oscillatorRestore => Sys2Proof.Machine.execOscillatorRestore s
  | .dlActive p width rate flit reversed inverted eq cred => Sys2Proof.Machine.execDlActive p width rate flit reversed inverted eq cred s
  | .recovery p equalise => Sys2Proof.Machine.execRecovery p equalise s
  | .recoveryComplete p ok width rate eq => Sys2Proof.Machine.execRecoveryComplete p ok width rate eq s
  | .linkDown p => Sys2Proof.Machine.execLinkDown p s
  | .lowpowerEntry p pm width pci => Sys2Proof.Machine.execLowpowerEntry p pm width pci s
  | .lowpowerExit p => Sys2Proof.Machine.execLowpowerExit p s
  | .l0pNarrowingRequest p => Sys2Proof.Machine.execL0pNarrowingRequest p s
  | .partnerLowPowerRequest p kind => Sys2Proof.Machine.execPartnerLowPowerRequest p kind s
  | .retrain p w => Sys2Proof.Machine.execRetrain p w s
  | .clockModeWrite sp w => Sys2Proof.Machine.execClockModeWrite sp w s
  | .slotClockWindowOpen k => Sys2Proof.Machine.execSlotClockWindowOpen k s
  | .slotClockWindowClose k => Sys2Proof.Machine.execSlotClockWindowClose k s
  | .clkreqChange k asserted => Sys2Proof.Machine.execClkreqChange k asserted s
  | .adaptationStep sp l ctle dfe vga eye errs => Sys2Proof.Machine.execAdaptationStep sp l ctle dfe vga eye errs s
  | .laneMargining p lane op => Sys2Proof.Machine.execLaneMargining p lane op s
  | .errclr sp l w => Sys2Proof.Machine.execErrclr sp l w s
  | .calibrationVisitStart sp => Sys2Proof.Machine.execCalibrationVisitStart sp s
  | .calSpareLocked sp => Sys2Proof.Machine.execCalSpareLocked sp s
  | .calWindowEnd sp coef clean => Sys2Proof.Machine.execCalWindowEnd sp coef clean s
  | .calLaneRelocked sp => Sys2Proof.Machine.execCalLaneRelocked sp s
  | .calAckTimeout sp => Sys2Proof.Machine.execCalAckTimeout sp s
  | .flitSend g => Sys2Proof.Machine.execFlitSend g s
  | .flitReceived g raw args tlp => Sys2Proof.Machine.execFlitReceived g raw args tlp s
  | .ackTimerExpiry g => Sys2Proof.Machine.execAckTimerExpiry g s
  | .nakTimerExpiry g => Sys2Proof.Machine.execNakTimerExpiry g s
  | .replayTimeout g => Sys2Proof.Machine.execReplayTimeout g s
  | .footwayRepeat g => Sys2Proof.Machine.execFootwayRepeat g s
  | .linkParam g m => Sys2Proof.Machine.execLinkParam g m s
  | .linkParamAck g m => Sys2Proof.Machine.execLinkParamAck g m s
  | .calReq g m => Sys2Proof.Machine.execCalReq g m s
  | .calAck g m => Sys2Proof.Machine.execCalAck g m s
  | .calSwap g m => Sys2Proof.Machine.execCalSwap g m s
  | .calDone g m => Sys2Proof.Machine.execCalDone g m s
  | .calAbort g m => Sys2Proof.Machine.execCalAbort g m s
  | .laneSwap g m => Sys2Proof.Machine.execLaneSwap g m s
  | .laneSwapAck g m => Sys2Proof.Machine.execLaneSwapAck g m s
  | .widthChg g m => Sys2Proof.Machine.execWidthChg g m s
  | .widthChgAck g m => Sys2Proof.Machine.execWidthChgAck g m s
  | .rateChg g m => Sys2Proof.Machine.execRateChg g m s
  | .rateChgAck g m => Sys2Proof.Machine.execRateChgAck g m s
  | .engine g m => Sys2Proof.Machine.execEngine g m s
  | .agreedFlitIndexReached g rx => Sys2Proof.Machine.execAgreedFlitIndexReached g rx s
  | .laneFailure sp l => Sys2Proof.Machine.execLaneFailure sp l s
  | .spareFailure sp => Sys2Proof.Machine.execSpareFailure sp s
  | .floingDownTimer g => Sys2Proof.Machine.execFloingDownTimer g s
  | .floingTrainingDone g bad pol reversed => Sys2Proof.Machine.execFloingTrainingDone g bad pol reversed s
  | .floingTrainingTimeout g => Sys2Proof.Machine.execFloingTrainingTimeout g s
  | .rateChangeComplete g => Sys2Proof.Machine.execRateChangeComplete g s
  | .linkLockLoss g => Sys2Proof.Machine.execLinkLockLoss g s
  | .floingRetrain g w => Sys2Proof.Machine.execFloingRetrain g w s
  | .rxAllocWrite g v w => Sys2Proof.Machine.execRxAllocWrite g v w s
  | .deckCellTime => Sys2Proof.Machine.execDeckCellTime s
  | .tlpCopyReceived src dst h hits => Sys2Proof.Machine.execTlpCopyReceived src dst h hits s
  | .deckAck src dst h => Sys2Proof.Machine.execDeckAck src dst h s
  | .deckNak src dst h => Sys2Proof.Machine.execDeckNak src dst h s
  | .deckAckTimeout src dst h => Sys2Proof.Machine.execDeckAckTimeout src dst h s
  | .flowDrainEnd p => Sys2Proof.Machine.execFlowDrainEnd p s
  | .fence m org => Sys2Proof.Machine.execFence m org s
  | .unfence m org => Sys2Proof.Machine.execUnfence m org s
  | .planeDrained m => Sys2Proof.Machine.execPlaneDrained m s
  | .planeFailure m cause => Sys2Proof.Machine.execPlaneFailure m cause s
  | .pmapWrite n k w => Sys2Proof.Machine.execPmapWrite n k w s
  | .bufferReserveWrite n a w => Sys2Proof.Machine.execBufferReserveWrite n a w s
  | .tlpReceived p t err => Sys2Proof.Machine.execTlpReceived p t err s
  | .heldTlpRetry sp cls => Sys2Proof.Machine.execHeldTlpRetry sp cls s
  | .spillReadBack i1 e t bad corr => Sys2Proof.Machine.execSpillReadBack i1 e t bad corr s
  | .egressTlpBoundary p => Sys2Proof.Machine.execEgressTlpBoundary p s
  | .landingRequest bad corr => Sys2Proof.Machine.execLandingRequest bad corr s
  | .tagSet tag org => Sys2Proof.Machine.execTagSet tag org s
  | .tagSetDone => Sys2Proof.Machine.execTagSetDone s
  | .landingScanDone => Sys2Proof.Machine.execLandingScanDone s
  | .wipeDone => Sys2Proof.Machine.execWipeDone s
  | .spillDrainTimeout => Sys2Proof.Machine.execSpillDrainTimeout s
  | .channelFailure ch cause => Sys2Proof.Machine.execChannelFailure ch cause s
  | .shaperRateWrite r w => Sys2Proof.Machine.execShaperRateWrite r w s
  | .expressPolicerWrite p w => Sys2Proof.Machine.execExpressPolicerWrite p w s
  | .configurationRequest p t => Sys2Proof.Machine.execConfigurationRequest p t s
  | .configAdmission n => Sys2Proof.Machine.execConfigAdmission n s
  | .functionReady v => Sys2Proof.Machine.execFunctionReady v s
  | .dmaCompletion v t => Sys2Proof.Machine.execDmaCompletion v t s
  | .dmaCompletionTimeout v tag => Sys2Proof.Machine.execDmaCompletionTimeout v tag s
  | .perstInAssert i1 => Sys2Proof.Machine.execPerstInAssert i1 s
  | .perstInDeassert i1 => Sys2Proof.Machine.execPerstInDeassert i1 s
  | .hotReset p => Sys2Proof.Machine.execHotReset p s
  | .secondaryBusReset p => Sys2Proof.Machine.execSecondaryBusReset p s
  | .secondaryBusResetClear p => Sys2Proof.Machine.execSecondaryBusResetClear p s
  | .functionLevelReset v landing => Sys2Proof.Machine.execFunctionLevelReset v landing s
  | .flrComplete v landing => Sys2Proof.Machine.execFlrComplete v landing s
  | .presenceDetectChanged k present => Sys2Proof.Machine.execPresenceDetectChanged k present s
  | .attentionButtonPressed k down => Sys2Proof.Machine.execAttentionButtonPressed k down s
  | .powerFaultDetected k low => Sys2Proof.Machine.execPowerFaultDetected k low s
  | .slotPowerOn k => Sys2Proof.Machine.execSlotPowerOn k s
  | .slotPwrenOn k => Sys2Proof.Machine.execSlotPwrenOn k s
  | .slotPerstRelease k => Sys2Proof.Machine.execSlotPerstRelease k s
  | .slotPowerOff k => Sys2Proof.Machine.execSlotPowerOff k s
  | .slotPwrenOff k => Sys2Proof.Machine.execSlotPwrenOff k s
  | .ptmRequest p => Sys2Proof.Machine.execPtmRequest p s
  | .fabricPacketReceived g => Sys2Proof.Machine.execFabricPacketReceived g s
  | .frouteWrite n d w => Sys2Proof.Machine.execFrouteWrite n d w s
  | .routeHoldEnd n d => Sys2Proof.Machine.execRouteHoldEnd n d s
  | .fabricTagTimeout p tag => Sys2Proof.Machine.execFabricTagTimeout p tag s
  | .linkDelayMeasurement g ns => Sys2Proof.Machine.execLinkDelayMeasurement g ns s
  | .timeDistribution => Sys2Proof.Machine.execTimeDistribution s
  | .prefetchBufferDiscard p k => Sys2Proof.Machine.execPrefetchBufferDiscard p k s
  | .setEndpointId v from_ eid => Sys2Proof.Machine.execSetEndpointId v from_ eid s
  | .getEndpointId v from_ => Sys2Proof.Machine.execGetEndpointId v from_ s
  | .getEndpointUuid v from_ => Sys2Proof.Machine.execGetEndpointUuid v from_ s
  | .getMctpVersionSupport v from_ ty => Sys2Proof.Machine.execGetMctpVersionSupport v from_ ty s
  | .getMessageTypeSupport v from_ => Sys2Proof.Machine.execGetMessageTypeSupport v from_ s
  | .mctpVendorMessage v from_ vendor desc => Sys2Proof.Machine.execMctpVendorMessage v from_ vendor desc s
  | .setaddr x => Sys2Proof.Machine.execSetaddr x s
  | .write x => Sys2Proof.Machine.execWrite x s
  | .writeInc x => Sys2Proof.Machine.execWriteInc x s
  | .read x => Sys2Proof.Machine.execRead x s
  | .readInc x => Sys2Proof.Machine.execReadInc x s
  | .result pec => Sys2Proof.Machine.execResult pec s
  | .sidebandAccessDone => Sys2Proof.Machine.execSidebandAccessDone s
  | .dynamicAddressAssignment addr => Sys2Proof.Machine.execDynamicAddressAssignment addr s
  | .windowValidWrite z x w => Sys2Proof.Machine.execWindowValidWrite z x w s
  | .windowBoundsWrite z x limit high w => Sys2Proof.Machine.execWindowBoundsWrite z x limit high w s
  | .entryLock e w => Sys2Proof.Machine.execEntryLock e w s
  | .tenantEntryWrite r w => Sys2Proof.Machine.execTenantEntryWrite r w s
  | .errorRecord isl => Sys2Proof.Machine.execErrorRecord isl s
  | .spanClosure p cause => Sys2Proof.Machine.execSpanClosure p cause s
  | .close p org => Sys2Proof.Machine.execClose p org s
  | .release p org => Sys2Proof.Machine.execRelease p org s
  | .pierClosure n => Sys2Proof.Machine.execPierClosure n s
  | .pierSelfTestDone n ok => Sys2Proof.Machine.execPierSelfTestDone n ok s
  | .tenantClose u org => Sys2Proof.Machine.execTenantClose u org s
  | .tenantRelease u org => Sys2Proof.Machine.execTenantRelease u org s
  | .engineFailure g => Sys2Proof.Machine.execEngineFailure g s
  | .engineClusterFailure n => Sys2Proof.Machine.execEngineClusterFailure n s
  | .quar org => Sys2Proof.Machine.execQuar org s
  | .handlerEnd g => Sys2Proof.Machine.execHandlerEnd g s
  | .urgentPreemption g => Sys2Proof.Machine.execUrgentPreemption g s
  | .start g => Sys2Proof.Machine.execStart g s
  | .cfgRead g => Sys2Proof.Machine.execCfgRead g s
  | .cfgWrite g => Sys2Proof.Machine.execCfgWrite g s
  | .error g => Sys2Proof.Machine.execError g s
  | .command g => Sys2Proof.Machine.execCommand g s
  | .message g => Sys2Proof.Machine.execMessage g s
  | .control g => Sys2Proof.Machine.execControl g s
  | .footway g => Sys2Proof.Machine.execFootway g s
  | .tlp g => Sys2Proof.Machine.execTlp g s
  | .timer g => Sys2Proof.Machine.execTimer g s
  | .link g => Sys2Proof.Machine.execLink g s
  | .slot g => Sys2Proof.Machine.execSlot g s
  | .lane g => Sys2Proof.Machine.execLane g s
  | .counter g => Sys2Proof.Machine.execCounter g s
  | .stop g => Sys2Proof.Machine.execStop g s
  | .continue_ g => Sys2Proof.Machine.execContinue g s
  | .engRegRead g off => Sys2Proof.Machine.execEngRegRead g off s
  | .engRegWrite g off val be => Sys2Proof.Machine.execEngRegWrite g off val be s
  | .engTblRead g n t => Sys2Proof.Machine.execEngTblRead g n t s
  | .engTblWrite g n t data => Sys2Proof.Machine.execEngTblWrite g n t data s
  | .engCfgDone g st data => Sys2Proof.Machine.execEngCfgDone g st data s
  | .engMsgSend g n d bytes => Sys2Proof.Machine.execEngMsgSend g n d bytes s
  | .engCtlSend g m d bytes response => Sys2Proof.Machine.execEngCtlSend g m d bytes response s
  | .engFwSend g p bytes => Sys2Proof.Machine.execEngFwSend g p bytes s
  | .engTlpSend g p t => Sys2Proof.Machine.execEngTlpSend g p t s
  | .engTimerSet g t ns periodic => Sys2Proof.Machine.execEngTimerSet g t ns periodic s
  | .engTimerCancel g t => Sys2Proof.Machine.execEngTimerCancel g t s
  | .engCntRead g b c => Sys2Proof.Machine.execEngCntRead g b c s
  | .engPortClose g p => Sys2Proof.Machine.execEngPortClose g p s
  | .engPortRelease g p => Sys2Proof.Machine.execEngPortRelease g p s
  | .engTenantClose g u => Sys2Proof.Machine.execEngTenantClose g u s
  | .engTenantRelease g u => Sys2Proof.Machine.execEngTenantRelease g u s
  | .engMargin g p lane timing step => Sys2Proof.Machine.execEngMargin g p lane timing step s
  | .engMsix g v vec => Sys2Proof.Machine.execEngMsix g v vec s
  | .engCmdDone g seq ok => Sys2Proof.Machine.execEngCmdDone g seq ok s
  | .engContinue g value => Sys2Proof.Machine.execEngContinue g value s
  | .dutyTimerExpiry n d t => Sys2Proof.Machine.execDutyTimerExpiry n d t s
  | .engineTrap g t pc => Sys2Proof.Machine.execEngineTrap g t pc s
  | .watchdogExpiry g pc => Sys2Proof.Machine.execWatchdogExpiry g pc s
  | .eventQueueRoom g => Sys2Proof.Machine.execEventQueueRoom g s
  | .park g org => Sys2Proof.Machine.execPark g org s
  | .unpark g org => Sys2Proof.Machine.execUnpark g org s
  | .plannedMigrationComplete g => Sys2Proof.Machine.execPlannedMigrationComplete g s
  | .imageStreamDone fault => Sys2Proof.Machine.execImageStreamDone fault s
  | .imageCommit fault => Sys2Proof.Machine.execImageCommit fault s
  | .bankErase => Sys2Proof.Machine.execBankErase s
  | .bankWrite => Sys2Proof.Machine.execBankWrite s
  | .bankWriteInline => Sys2Proof.Machine.execBankWriteInline s
  | .verify => Sys2Proof.Machine.execVerify s
  | .reload => Sys2Proof.Machine.execReload s
  | .liveApply => Sys2Proof.Machine.execLiveApply s
  | .liveConfirm => Sys2Proof.Machine.execLiveConfirm s
  | .liveRollback => Sys2Proof.Machine.execLiveRollback s
  | .rollbackAdvance => Sys2Proof.Machine.execRollbackAdvance s
  | .liveVerifyDone fault => Sys2Proof.Machine.execLiveVerifyDone fault s
  | .liveStageDone => Sys2Proof.Machine.execLiveStageDone s
  | .liveDrainDone => Sys2Proof.Machine.execLiveDrainDone s
  | .liveSwapADone => Sys2Proof.Machine.execLiveSwapADone s
  | .liveCommitDone => Sys2Proof.Machine.execLiveCommitDone s
  | .liveSwapBDone => Sys2Proof.Machine.execLiveSwapBDone s
  | .probationEnd => Sys2Proof.Machine.execProbationEnd s
  | .rollbackDone => Sys2Proof.Machine.execRollbackDone s
  | .journalEntry isl => Sys2Proof.Machine.execJournalEntry isl s
  | .journalReadLatch w => Sys2Proof.Machine.execJournalReadLatch w s
  | .commandSubmit org => Sys2Proof.Machine.execCommandSubmit org s
  | .longCommandStart => Sys2Proof.Machine.execLongCommandStart s
  | .nop => Sys2Proof.Machine.execNop s
  | .jnlCheckpoint => Sys2Proof.Machine.execJnlCheckpoint s
  | .checkpointComplete => Sys2Proof.Machine.execCheckpointComplete s
  | .jnlMark => Sys2Proof.Machine.execJnlMark s
  | .query => Sys2Proof.Machine.execQuery s
  | .exportJournal => Sys2Proof.Machine.execExportJournal s
  | .exportRecorder => Sys2Proof.Machine.execExportRecorder s
  | .batch => Sys2Proof.Machine.execBatch s
  | .reduceEnter => Sys2Proof.Machine.execReduceEnter s
  | .reduceLeave => Sys2Proof.Machine.execReduceLeave s
  | .recFlush => Sys2Proof.Machine.execRecFlush s
  | .psivinReport => Sys2Proof.Machine.execPsivinReport s
  | .lifecycle => Sys2Proof.Machine.execLifecycle s
  | .engineCommands => Sys2Proof.Machine.execEngineCommands s
  | .mramWipeComplete => Sys2Proof.Machine.execMramWipeComplete s
  | .recordComplete => Sys2Proof.Machine.execRecordComplete s
  | .flushComplete => Sys2Proof.Machine.execFlushComplete s
  | .holdoffExpiry t => Sys2Proof.Machine.execHoldoffExpiry t s
  | .recFire bits org => Sys2Proof.Machine.execRecFire bits org s
  | .prefetchDiscardEntry n => Sys2Proof.Machine.execPrefetchDiscardEntry n s
  | .snap org => Sys2Proof.Machine.execSnap org s
  | .freeze org => Sys2Proof.Machine.execFreeze org s
  | .thaw org => Sys2Proof.Machine.execThaw org s
  | .clear org => Sys2Proof.Machine.execClear org s
  | .strikeTime => Sys2Proof.Machine.execStrikeTime s
  | .snapshotDone => Sys2Proof.Machine.execSnapshotDone s
  | .blockClear b org => Sys2Proof.Machine.execBlockClear b org s
  | .eventSelectWrite b k w => Sys2Proof.Machine.execEventSelectWrite b k w s
  | .counterOverflow b k => Sys2Proof.Machine.execCounterOverflow b k s
  | .hourTick => Sys2Proof.Machine.execHourTick s
  | .keeperPowerUp feedB low => Sys2Proof.Machine.execKeeperPowerUp feedB low s
  | .firstRampStop => Sys2Proof.Machine.execFirstRampStop s
  | .abutmentSample x => Sys2Proof.Machine.execAbutmentSample x s
  | .powerLimiterRelease => Sys2Proof.Machine.execPowerLimiterRelease s
  | .feedQualified f => Sys2Proof.Machine.execFeedQualified f s
  | .rampEnd f => Sys2Proof.Machine.execRampEnd f s
  | .fastTrip f => Sys2Proof.Machine.execFastTrip f s
  | .faultTimerExpiry f => Sys2Proof.Machine.execFaultTimerExpiry f s
  | .retryWaitExpiry f => Sys2Proof.Machine.execRetryWaitExpiry f s
  | .retriesClear f => Sys2Proof.Machine.execRetriesClear f s
  | .overvoltageRecovery f => Sys2Proof.Machine.execOvervoltageRecovery f s
  | .switchoverOffConfirmed => Sys2Proof.Machine.execSwitchoverOffConfirmed s
  | .switchoverClose => Sys2Proof.Machine.execSwitchoverClose s
  | .switchoverConfirmTimeout => Sys2Proof.Machine.execSwitchoverConfirmTimeout s
  | .failbackTimer => Sys2Proof.Machine.execFailbackTimer s
  | .voltageCauseRaise => Sys2Proof.Machine.execVoltageCauseRaise s
  | .voltageCauseDrop => Sys2Proof.Machine.execVoltageCauseDrop s
  | .shutdownComplete => Sys2Proof.Machine.execShutdownComplete s
  | .keeperStop => Sys2Proof.Machine.execKeeperStop s
  | .select f w => Sys2Proof.Machine.execSelect f w s
  | .restart f w => Sys2Proof.Machine.execRestart f w s
  | .feedEnableWrite f en org => Sys2Proof.Machine.execFeedEnableWrite f en org s
  | .vminClear org => Sys2Proof.Machine.execVminClear org s
  | .thresholdWrite reset w => Sys2Proof.Machine.execThresholdWrite reset w s
  | .page w pecOk => Sys2Proof.Machine.execPage w pecOk s
  | .clearFaults pecOk => Sys2Proof.Machine.execClearFaults pecOk s
  | .capability => Sys2Proof.Machine.execCapability s
  | .vinUvWarnLimit w pecOk => Sys2Proof.Machine.execVinUvWarnLimit w pecOk s
  | .vinUvFaultLimit w pecOk => Sys2Proof.Machine.execVinUvFaultLimit w pecOk s
  | .iinOcFaultLimit w pecOk => Sys2Proof.Machine.execIinOcFaultLimit w pecOk s
  | .statusWord => Sys2Proof.Machine.execStatusWord s
  | .statusInput => Sys2Proof.Machine.execStatusInput s
  | .readVin => Sys2Proof.Machine.execReadVin s
  | .readIin => Sys2Proof.Machine.execReadIin s
  | .readTemperature1 => Sys2Proof.Machine.execReadTemperature1 s
  | .readPin => Sys2Proof.Machine.execReadPin s
  | .pmbusRevision => Sys2Proof.Machine.execPmbusRevision s
  | .mfrReadEnergy => Sys2Proof.Machine.execMfrReadEnergy s
  | .moduleReset => Sys2Proof.Machine.execModuleReset s
  | .moduleResetDeassert recovery => Sys2Proof.Machine.execModuleResetDeassert recovery s
  | .configureEntry recovery => Sys2Proof.Machine.execConfigureEntry recovery s
  | .stageVerificationDone => Sys2Proof.Machine.execStageVerificationDone s
  | .reducedExitComplete => Sys2Proof.Machine.execReducedExitComplete s
  | .domainOnRequest d w => Sys2Proof.Machine.execDomainOnRequest d w s
  | .domainOffRequest d w => Sys2Proof.Machine.execDomainOffRequest d w s
  | .domainPowered d => Sys2Proof.Machine.execDomainPowered d s
  | .domainTestComplete d pass bad => Sys2Proof.Machine.execDomainTestComplete d pass bad s
  | .domainWipeComplete d => Sys2Proof.Machine.execDomainWipeComplete d s
  | .domainPowerOffComplete d => Sys2Proof.Machine.execDomainPowerOffComplete d s
  | .regulatorFault d => Sys2Proof.Machine.execRegulatorFault d s
  | .thermalSample t => Sys2Proof.Machine.execThermalSample t s
  | .thermalCauseDrop => Sys2Proof.Machine.execThermalCauseDrop s
  | .thermalThresholdWrite w => Sys2Proof.Machine.execThermalThresholdWrite w s
  | .provision org => Sys2Proof.Machine.execProvision org s
  | .revoke org => Sys2Proof.Machine.execRevoke org s
  | .stageErase copy org => Sys2Proof.Machine.execStageErase copy org s
  | .stageWrite w => Sys2Proof.Machine.execStageWrite w s
  | .ioBankSwitch => Sys2Proof.Machine.execIoBankSwitch s
  | .flowControlUpdate p r => Sys2Proof.Machine.execFlowControlUpdate p r s
  | .failureMigrationComplete u => Sys2Proof.Machine.execFailureMigrationComplete u s
  | .bankVerifyDone fault => Sys2Proof.Machine.execBankVerifyDone fault s
  | .bankEraseDone => Sys2Proof.Machine.execBankEraseDone s
  | .psivinReportDone => Sys2Proof.Machine.execPsivinReportDone s
  | .retirementCopyDone ch blk => Sys2Proof.Machine.execRetirementCopyDone ch blk s

end Sys2Proof.Machine
end

