-- ==== Sys2Proof/Machine/Ticks.lean ====
section
/-! DEFINITION. What the passing of time counts (R361 to R365): the cycles of each counter block, the cycles in which a condition of
Table REC-5 holds, and the issue slots of the engines. -/

namespace Sys2Proof.Machine

/-! ### Conditions that are counted by the cycle (Table REC-5) -/

/-- The ports of a span whose link is up. -/
def upPorts (s : State) (sp : Nat) : List Nat := ((List.range 4).map (4 * sp + ·)).filter (fun p => portExists s p && linkUp s p)

/-- The partner has given no credit of a PCI Express type: 0 posted, 1 non-posted, 2 completion; headers or data (log entry 84). -/
def Credits.none_ (c : Credits) (type : Nat) : Bool :=
  match type with
  | 0 => c.ph == some 0 || c.pd == some 0
  | 1 => c.nh == some 0 || c.nd == some 0
  | _ => c.ch == some 0 || c.cd == some 0

/-- A span has a port without transmit credit of a Floing virtual channel or a PCI Express credit type (event 0x008). -/
def noCredit (s : State) (sp k : Nat) : Bool :=
  (upPorts s sp).any (fun p => if isFloing s p then k < 8 && vcCredit s sp k == 0 else k < 3 && (s.port p).cred.none_ k)

/-- A span's hold queue of a class is not empty (event 0x009). -/
def holds (s : State) (sp cls : Nat) : Bool := cls < 4 && !(SMap.get [] s.ports.hold (4 * sp + cls)).isEmpty

/-! ### Engines (R365) -/

/-- A handler runs on an engine. -/
def handling (s : State) (g : Nat) : Bool := match SMap.find? s.eng.cur g with | some i => i.entered | none => false

/-- Cuts free numbers from a total: what is left of it for each of `n` causes but the last, then the rest. -/
def freeSplit : Nat → Nat → State → List Nat × State
  | 0, left, s => ([left], s)
  | n + 1, left, s =>
    let x := s.fresh
    let k := x.1 % (left + 1)
    let y := freeSplit n (left - k) x.2
    (k :: y.1, y.2)

/-- The issue slots of `n` busy cycles, two a cycle, are filed under the four causes, and the cycles stalled in intrinsics, whose slots
are all back-starved, counted. How many fall under each is the program's and stays free (log entry 84). -/
def issueSlots (g n : Nat) (s : State) : State :=
  let x := freeSplit 3 (2 * n) s
  let back := x.1.getD 2 0
  let y := x.2.fresh
  let s := count (40 + g) 0x201 subAny (x.1.getD 0 0) y.2
  let s := count (40 + g) 0x202 subAny (x.1.getD 1 0) s
  let s := count (40 + g) 0x204 subAny back s
  let s := count (40 + g) 0x203 subAny (x.1.getD 3 0) s
  count (40 + g) 0x207 subAny (y.1 % (back / 2 + 1)) s

/-! ### Time -/

/-- `n` cycles of a counter block pass. -/
def blockTick (b n : Nat) (s : State) : State :=
  if n = 0 then s
  else if b < 32 then count b 0x009 (holds s b) n (count b 0x008 (noCredit s b) n s)
  else if b < 40 then (if sharedFree s (b - 32) < 16384 then count b 0x109 subAny n s else s)
  else if b < 104 then (if handling s (b - 40) then issueSlots (b - 40) n s else count b 0x205 subAny n s)
  else s

/-- The cycle counter of a parked engine stands while `ns` pass (R365). -/
def cyclesStand (ns g : Nat) (s : State) : State :=
  if engSt s g = 2 then { s with pmc.cycBase := SMap.put 0 s.pmc.cycBase (40 + g) (SMap.get 0 s.pmc.cycBase (40 + g) + ns) } else s

/-- Device time goes on by `ns`: the clocks of parked engines stand (R365), and every block that runs counts its cycles. -/
def timePasses (ns : Nat) (s : State) : State :=
  let s := forRange 64 (cyclesStand ns) s
  let was := s
  forRange 104 (fun b s => blockTick b (blockCycles s b - blockCycles was b) s) (s.tick ns)

/-- With no command waiting, device time goes on by one period of its 200 MHz counter while the keeper runs (log entry 5). -/
def idle (s : State) : State := if s.env.keeperOn then finish s.pending (timePasses 5 s) else s

end Sys2Proof.Machine
end

