-- ==== Sys2Proof/Safety.lean ====
section
/-! DEFINITION. The terms in which claims are made: how an outcome completes, and the views that agree after every step. -/

namespace Sys2Proof.Machine

/-- An outcome is a next state of which `P` holds. -/
def Completes (o : Out) (P : State → Prop) : Prop := ∃ t, o = .next t ∧ P t

/-! ### What a command leaves alone -/

/-- Two fields of any registers are different places: another register, or no bit in common. -/
def Fld.apart (f g : Fld) : Bool :=
  f.reg != g.reg || (f.lo ≤ f.hi && f.hi < 32 && g.lo ≤ g.hi && g.hi < 32 && (g.hi < f.lo || f.hi < g.lo))

/-- A field that is no view. -/
def Fld.plain (g : Fld) : Bool :=
  g.reg != .JNL_HEAD && F.JNL_STAT_PENDING.apart g && F.REC_STAT_UNFLUSHED.apart g && F.GLB_PLANES_LIVE.apart g &&
    F.GLB_PLANES_FAILED.apart g && F.CSN_STAT_CH_LIVE.apart g && F.CSN_STAT_CH_FAILED.apart g

/-- The parts of the state beside the registers and the queue. -/
inductive Piece where
  | env | jrn | err | ports | deck | csn | fl | host | fab | eng | img | rcd | pmc | abt | mode | key | sb
  deriving DecidableEq, Repr

/-- A part is the same in two states. -/
def Piece.same (p : Piece) (s t : State) : Prop :=
  match p with
  | .env => t.env = s.env
  | .jrn => t.jrn = s.jrn
  | .err => t.err = s.err
  | .ports => t.ports = s.ports
  | .deck => t.deck = s.deck
  | .csn => t.csn = s.csn
  | .fl => t.fl = s.fl
  | .host => t.host = s.host
  | .fab => t.fab = s.fab
  | .eng => t.eng = s.eng
  | .img => t.img = s.img
  | .rcd => t.rcd = s.rcd
  | .pmc => t.pmc = s.pmc
  | .abt => t.abt = s.abt
  | .mode => t.mode = s.mode
  | .key => t.key = s.key
  | .sb => t.sb = s.sb

/-- From `s` to `t` no part of the state but those listed has changed, and no field of a register but those of the registers
listed. The views (`ViewsAgree`) follow what they show and are not said here. -/
structure Only (ps : List Piece) (rs : List Reg) (s t : State) : Prop where
  parts : ∀ p, p ∉ ps → p.same s t
  fields : ∀ (g : Fld) (i : Nat), g.plain = true → g.reg ∉ rs → t.f g i = s.f g i

/-- From `s` to `t` the parts listed have not changed, and no field of the registers listed. -/
structure Leaves (ps : List Piece) (rs : List Reg) (s t : State) : Prop where
  parts : ∀ p ∈ ps, p.same s t
  fields : ∀ (g : Fld) (i : Nat), g.plain = true → g.reg ∈ rs → t.f g i = s.f g i

/-- An outcome, if it is a next state, is one of which `P` holds. -/
def Keeps (o : Out) (P : State → Prop) : Prop := ∀ t, o = .next t → P t

/-- The keeper runs (R391). -/
abbrev On (s : State) : Prop := s.env.keeperOn = true

/-- JNL_STAT.PENDING counts the commands that are accepted and not final (Table JNL-9). -/
def PendingAgrees (s : State) : Prop := s.f F.JNL_STAT_PENDING 0 = s.jrn.cmds.length % 2 ^ 9
/-- JNL_HEAD holds the number given last (R342). -/
def HeadAgrees (s : State) : Prop := s.rd64 .JNL_HEAD 0 = (s.jrn.next - 1) % 2 ^ 64
/-- Bit m of GLB_PLANES says whether plane m is LIVE, and whether it is FAILED (Table DECK-7). -/
def PlanesAgree (s : State) : Prop :=
  ∀ m < 16, s.bitf F.GLB_PLANES_LIVE 0 m = (s.f F.DCK_STAT_STATE m == 0) ∧
    s.bitf F.GLB_PLANES_FAILED 0 m = (s.f F.DCK_STAT_STATE m == 3)
/-- Bit c of CSN_STAT.CH_LIVE and CH_FAILED says whether channel c is LIVE, and whether it has FAILED (Table CSN-6). -/
def ChannelsAgree (s : State) : Prop :=
  ∀ c < 8, s.bitf F.CSN_STAT_CH_LIVE 0 c = (s.f F.CSN_CHSTAT_STATE c == 0) ∧
    s.bitf F.CSN_STAT_CH_FAILED 0 c = (s.f F.CSN_CHSTAT_STATE c == 1)
/-- REC_STAT.UNFLUSHED counts the lines of the keeper ring that no flush has copied (R355). -/
def UnflushedAgrees (s : State) : Prop :=
  s.f F.REC_STAT_UNFLUSHED 0 = ((unflushed s).map (fun x => recLines x.snap.length)).sum % 2 ^ 15

/-- The read-only views show what they stand for. -/
structure ViewsAgree (s : State) : Prop where
  pending : PendingAgrees s
  head : HeadAgrees s
  planes : PlanesAgree s
  channels : ChannelsAgree s
  unflushed : UnflushedAgrees s

/-! ### What statements about a command say -/

/-- A write of an interface reaches instance `i` of register `r` and takes effect: the offset map gives the register at its
offset, slot 129 lets the write through, the owner rule and the register's domain and clock allow it, its entry is not locked, an
enabled byte holds a bit that can be written, and neither KEY_CMD's wait nor the island's journal FIFO holds it (R4 to R7, R36,
R242, R246, R330, R360, R430). -/
structure Lands (r : Reg) (i : Nat) (w : RegW) (s : State) : Prop where
  on : On s
  found : regAt (r.offset i) = some (r, i)
  gate : slot129 s w.org (r.offset i) = true
  owner : r.ownerWrites = true → counterOk s w.org = true
  access : accessStatus false s r (bankedIdx w.org r i) = accOk
  unlocked : locked s r (bankedIdx w.org r i) = false
  bits : (((writable r (bankedIdx w.org r i)).rw ||| (writable r (bankedIdx w.org r i)).rwl |||
    (writable r (bankedIdx w.org r i)).w1c ||| (writable r (bankedIdx w.org r i)).w1s |||
    (writable r (bankedIdx w.org r i)).wo) &&& beBits w.be) ≠ 0
  command : r = .KEY_CMD → privileged s w.org = true → keyBusy s = false
  room : r.silent = true ∨ mustHold s (islandOf (r.domain (bankedIdx w.org r i))) = false

/-- What a write of register `r` leaves in instance `i` by access code and byte enable. -/
abbrev newOf (s : State) (r : Reg) (i : Nat) (w : RegW) : Word := (wrCtx r i w s).new

/-- A duty has an event: pending as a flag, held while the duty moves, kept by its source, queued, or taken by an engine; or its
engine had nothing else to do and discarded it, its program having no handler for it (R283). -/
def Has (s : State) (x : QEv) : Prop :=
  x ∈ s.eng.flags ∨ x ∈ s.eng.kept ∨ (∃ k, x ∈ SMap.get [] s.eng.moving k) ∨
    (∃ g, x ∈ engQ s g ∨ ∃ i, SMap.find? s.eng.cur g = some i ∧ i.q = x) ∨ noHandler s (dutyEng s x.pier x.duty) x = true

/-- The keeper has journalled an entry: under the next number, or in its FIFO while a checkpoint runs (R328, R339). -/
structure Journalled (r : JReq) (s t : State) : Prop where
  numbered : s.b F.JNL_STAT_CHKPT_BUSY 0 = false → ∃ e ∈ t.jrn.copy, e.req = r ∧ e.seq = s.jrn.next
  waiting : s.b F.JNL_STAT_CHKPT_BUSY 0 = true → r ∈ SMap.get [] t.jrn.fifo 25

/-- The registers whose writes do more than store the new value (the arms of `regEffect`). -/
def Reg.acts (r : Reg) : Bool :=
  [Reg.GLB_ERRCTL, .GLB_ERRSTAT, .GLB_TCLOSE, .GLB_TRELEASE, .GLB_THERM, .ABT_VTHR0, .ABT_VTHR1, .ABT_FCTL, .ABT_ALERTEN,
    .ABT_VMIN, .KEY_CMD, .KEY_STGDATA, .JNL_ACK, .JNL_CFG, .JNL_RDSEQ, .JNL_CMDGO, .REC_FIRE, .SPN_CTL, .SPN_CLKMODE, .SPN_LANE,
    .SPN_CALCTL, .SPN_PMCTL, .SPN_FLCTL, .SPN_FLVC, .ENG_CTL, .PIR_PMAP, .PIR_BUFCFG, .PIR_BUFTHR, .PIR_SCHCTL, .PIR_EPCFG, .PIR_QCFG,
    .PIR_QRATE, .PIR_TSCFG, .PIR_TSRATE, .PIR_FROUTE, .PIR_CLOSE, .DCK_CTL, .CSN_TAGCMD, .GTE_WATTR, .GTE_WBASE, .GTE_WLIMIT,
    .TNT_PORTDEF, .TNT_ENTCTL, .PMC_CMD, .PMC_BCTL, .PMC_EVT, .PWD_CTL].contains r

/-- No counter of a block interrupts (R362). -/
def Quiet (s : State) (b : Nat) : Prop := ∀ k < 8, s.b F.PMC_EVT_INT_EN (8 * b + k) = false

/-- Writes to channel 0 are not counted: its block of counters is off or frozen (R361, R366). -/
def Uncounted (s : State) : Prop := blockOn s 120 = false ∨ s.pmc.frozen.contains 120 = true

/-- A footway message arrives that is no repeat, on a port that trains (`st` 2) or runs. -/
structure NewMsg (s : State) (g ty : Nat) (m : FwMsg) : Prop where
  on : On s
  floing : isFloing s (4 * govSpan s g) = true
  runs : flUp s (govSpan s g) = true ∨ flSt s (govSpan s g) = 2
  fresh : (ty, m.span.val, m.id) ∉ (fl s (govSpan s g)).seen

/-- The change that AGREED_FLIT_INDEX_REACHED takes: the first of its direction whose index has come (R72). -/
abbrev dueChange (s : State) (g : Nat) (rx : Bool) : Option Agreed :=
  (fl s g).agreed.find? (fun (a : Agreed) => a.rx == rx &&
    ((if rx then (fl s g).rxIdx else (fl s g).txIdx) + 2 ^ 24 - a.idx) % 2 ^ 24 < 2 ^ 23)

/-- Every cell of a copy of a TLP in flight has arrived at its egress pier. -/
def Arrived (s : State) (src dst h : Nat) (x : InFlight) : Prop :=
  ∀ k < x.cells, ∃ a ∈ (SMap.get Reasm.init s.deck.got (inflKey src dst h)).cells, a.index = k

/-- A copy in flight is held under its destination pier (log entry 79). -/
def InFlightAt (s : State) (src dst h : Nat) (x : InFlight) : Prop := inflight s src dst h = some x ∧ x.dst = dst

/-- The base flow and SEQ by which an egress pier checks a copy: those of its first entry (Table DECK-4). -/
abbrev copyCheck (s : State) (x : InFlight) : Nat :=
  seqCheck s (flowId x.c.inP (x.seqs.headD (x.c.outP, 0)).1 x.c.tlp.tc) (x.seqs.headD (x.c.outP, 0)).2

/-- An answer for a copy has joined the answers on their way, on a live plane. -/
def Answered (s t : State) (src dst h : Nat) (ack : Bool) : Prop :=
  ∃ m, planeLive s m = true ∧ t.deck.answers = s.deck.answers ++ [⟨src, dst, h, ack, m⟩]

/-- A landing request at the front may be taken now, in the order of R136 (R131, R144, R146). -/
structure LandTurn (s : State) (r : LandReq) (rest : List LandReq) : Prop where
  on : On s
  front : s.csn.landq = r :: rest
  wiped : s.mode.wiping = false
  copied : landCopying s r = false
  first : landYields s r = false
  turn : ∀ ch ∈ landChans r, granted s ch 2 = true

/-- The block that a landing request of one block names. -/
abbrev landBlk (r : LandReq) : Nat := r.c.tlp.addr / 64

/-- A handler waits at an engine that can run it (R283, R286). -/
structure Waits (s : State) (g : EngId) (q : QEv) (d : Bool) : Prop where
  on : On s
  cur : ∃ a, SMap.find? s.eng.cur g.val = some ⟨q, false, d, a⟩
  runs : engRuns s g.val = true

/-- An engine runs the handler of an event (R283). -/
structure Runs (s : State) (g : EngId) (q : QEv) (d : Bool) : Prop where
  on : On s
  cur : ∃ a, SMap.find? s.eng.cur g.val = some ⟨q, true, d, a⟩
  runs : engRuns s g.val = true

/-- An engine enters the handler of the event it has selected. -/
def Enters (o : Out) (g : EngId) (q : QEv) (d : Bool) : Prop :=
  Completes o fun t => ∃ a, SMap.find? t.eng.cur g.val = some ⟨q, true, d, a⟩

/-- An intrinsic returns a status to its program, and the state it leaves has `P`. -/
def Returns (o : Out) (g : EngId) (st : Nat) (P : State → Prop) : Prop :=
  Completes o fun t => SMap.get 0 t.eng.lastStatus g.val = st ∧ P t

/-- The command that runs next of a class has an opcode, and an origin that may carry it out (R334, R337). -/
structure Front (s : State) (next : State → Option Cmd) (op : Nat) (c : Cmd) : Prop where
  on : On s
  next : next s = some c
  code : c.op = op
  found : findCmd s c.seq = some c
  may : isPriv op = true → privileged s c.org = true

/-- A command has its final status (R337, R338): it is no longer among those accepted, its kind-2 entry is journalled, and its bank
shows STATE 3 where it is the bank's latest. -/
structure Ended (c : Cmd) (status result : Nat) (s t : State) : Prop where
  gone : ∀ d ∈ t.jrn.cmds, d.seq ≠ c.seq
  shown : ∀ b, c.bank = some b → s.rd64 .JNL_CMDSEQ (2 * b) = c.seq → t.f F.JNL_CMDRES_STATE b = 3 ∧
    t.f F.JNL_CMDRES_STATUS b = status ∧ t.f F.JNL_CMDRES_RESULT b = result % 2 ^ F.JNL_CMDRES_RESULT.width
  logged : s.b F.JNL_STAT_CHKPT_BUSY 0 = false → ∃ e ∈ t.jrn.copy, e.req.kind = 2 ∧ e.req.status = status ∧
    e.req.result = result ∧ e.req.ref = c.seq

/-- The bridge takes a command (R225 to R227): it answers the form, no access is pending, and PEC and length are right. -/
structure Taken (s : State) (x : SbTx) (n : Nat) : Prop where
  on : On s
  answers : sbAnswers s x.pec = true
  idle : s.sb.access = none
  pec : x.pec ≠ some false
  form : x.bytes.length = n

/-- From `s` to `t` an MCTP packet with a body has been queued, to the requester, at the upstream port of a virtual switch (R224). -/
def McTp (s t : State) (v : Nat) (from_ : MctpFrom) (body : List Byte) : Prop :=
  ∃ d l e, vsDef s v = some d ∧ egressQ t d.up.val 0 = egressQ s d.up.val 0 ++ l ++ [e] ∧ e.c.tlp.kind = .msg ∧
    e.c.tlp.bdf = from_.rid ∧
    e.c.tlp.data = leBytes 1 1 ++ [from_.eid] ++ leBytes (mctpEid t v) 1 ++ leBytes (0xC0 + from_.tag.val) 1 ++ body

/-- The body of a response to an MCTP control command: its instance, command, completion code and data (log entry 20). -/
abbrev mcBody (from_ : MctpFrom) (cmd cc : Nat) (data : List Byte) : List Byte :=
  [0] ++ leBytes from_.inst.val 1 ++ leBytes cmd 1 ++ leBytes cc 1 ++ data

/-- The SLOT event of the LINK duty of a slot's port has been given (R199, Table ENG-3). -/
def SlotTold (s t : State) (k : Nat) : Prop :=
  s.b F.GLB_SLOT_BOUND k = true →
    ∀ d, dutyFind s (pierOf (s.f F.GLB_SLOT_PORT k)) 1 (s.f F.GLB_SLOT_PORT k) = some d →
      Has t ⟨pierOf (s.f F.GLB_SLOT_PORT k), d, .slot k⟩

/-! ### Groups of registers and parts that change together -/

/-- The registers that may change when a vector, a message or a completion is queued at a port. -/
abbrev Reg.queueing : List Reg := [.PIR_BUFEXP, .PIR_BUFOCC, .PIR_CPLTRK, .PIR_ERRCNT2, .PIR_EXPMON, .PIR_FBPORT]

/-- The parts that may change then. -/
abbrev Piece.queueing : List Piece := [.env, .err, .ports, .deck, .host]

/-- The registers that may change when the keeper journals an entry, which may raise the vector of the journal threshold. -/
abbrev Reg.entry : List Reg := Reg.queueing ++ [.ENG_STAT, .JNL_HEAD, .JNL_TAIL, .PMC_BSTAT, .PMC_CNT, .PMC_STAT,
    .REC_TRGCFG, .REC_TRGCNT]

/-- The parts that may change then. -/
abbrev Piece.entry : List Piece := Piece.queueing ++ [.jrn, .eng, .rcd, .pmc]

/-- The registers that may change when a command takes its final status. -/
abbrev Reg.ending : List Reg := Reg.entry ++ [.JNL_CMDRES, .JNL_STAT, .KEY_NONCE, .KEY_SLOT, .KEY_SLOTHASH, .KEY_STAT]

/-- The parts that may change then. -/
abbrev Piece.ending : List Piece := Piece.entry ++ [.key]

/-- The registers that may change when a DMA job ends. -/
abbrev Reg.aborting : List Reg := Reg.ending ++ [.GLB_DMASTAT]

/-- The parts that may change then. -/
abbrev Piece.aborting : List Piece := Piece.ending

/-- The registers that may change when an event is offered to the triggers of the recorder. -/
abbrev Reg.triggering : List Reg := Reg.queueing ++ [.PMC_STAT, .REC_TRGCFG, .REC_TRGCNT]

/-- The parts that may change then. -/
abbrev Piece.triggering : List Piece := Piece.queueing ++ [.rcd, .pmc]

/-- The registers that may change when occurrences are counted. -/
abbrev Reg.counting : List Reg := Reg.triggering ++ [.ENG_STAT, .PMC_BSTAT, .PMC_CNT]

/-- The parts that may change then. -/
abbrev Piece.counting : List Piece := Piece.triggering ++ [.eng]

/-- The registers that may change when a link goes down. -/
abbrev Reg.linkLoss : List Reg := Reg.aborting ++ [.CSN_POOL, .CSN_PSPILL, .CSN_STAT, .GLB_SLOT, .GLB_VSSTAT, .PIR_PFCNT,
    .REC_PFSTAT, .SPN_PSTAT]

/-- The parts that may change then. -/
abbrev Piece.linkLoss : List Piece := Piece.aborting ++ [.csn, .fab]

/-- The registers that may change when a port is closed. -/
abbrev Reg.closing : List Reg := Reg.aborting ++ [.CSN_POOL, .CSN_PSPILL, .CSN_STAT, .GLB_SLOT, .GLB_VSSTAT, .PIR_CLOSE,
    .PIR_PFCNT, .REC_PFSTAT, .SPN_CALSTAT, .SPN_COEF, .SPN_FLSTAT, .SPN_PSTAT]

/-- The parts that may change then. -/
abbrev Piece.closing : List Piece := Piece.aborting ++ [.csn, .fl, .fab]

/-- The registers that may change when the module enters quarantine. -/
abbrev Reg.quarantining : List Reg := Reg.closing ++ [.GLB_ERRSTAT, .GLB_IMGSTAT, .GLB_MODE, .GLB_QSTAT, .REC_STAT]

/-- The parts that may change then. -/
abbrev Piece.quarantining : List Piece := Piece.closing ++ [.img, .mode]

/-- The registers that any register write may change besides those it acts on: the journal, its vector, and the logs of refused
accesses. -/
abbrev Reg.writing : List Reg := Reg.entry ++ [.CLK_ACCADDR, .CLK_ACCSTAT, .GTE_LOGE, .GTE_LOGSTAT]

/-- The parts that may change then. -/
abbrev Piece.writing : List Piece := Piece.entry ++ [.fab, .img]

/-- A next state that a command answers differs only in the parts and the registers listed. -/
def ChangesOnly (c : Instr) (ps : List Piece) (rs : List Reg) : Prop := ∀ s : State, Keeps (exec c s) (Only ps rs s)

/-- Read-only registers that no effect of a register write reaches. -/
abbrev Reg.shown : List Reg := [.ABT_ENERGY, .ABT_IIN, .ABT_PIN, .ABT_PMB, .ABT_RES, .ABT_TEMP, .ABT_VIN, .ABT_VOUT,
    .CLK_OSC, .CSN_CHERR, .DCK_ERR, .ENG_TRAPPC, .GLB_ERRLAST, .GLB_FABID, .GLB_ID, .GLB_IMGBUILD, .GLB_IOCFG, .GLB_OWNER,
    .GLB_PERST, .GLB_PERSTMAP, .GLB_SBCFG, .GLB_SEGBUILD, .GLB_SPANFORM, .GLB_TEMP, .GLB_TEMPMAX, .GLB_TOPO, .JNL_RDDATA,
    .KEY_IDPUB, .KEY_RPTWIN, .KEY_SERIAL, .PIR_BUFSTAT, .PIR_CLSMAP, .PIR_QTOK, .PIR_TSTOK, .PMC_CYC, .PMC_SCNT, .PMC_SCYC,
    .PMC_SNAPTIME, .PMC_SOVF, .REC_HOURS, .REC_MRAMWIN, .REC_PCYCLE, .REC_PFLOG, .REC_RINGWIN, .REC_RLINE, .REC_RSEQ,
    .SPN_FLSEQ, .SPN_FLSEQRX]

/-- Registers outside the switched domains that a loss of the supply, a thermal shutdown and a cycle of a domain leave alone. -/
abbrev Reg.unswitched : List Reg := [.ABT_ALERTEN, .ABT_CFG, .ABT_FCTL, .ABT_ILIM, .ABT_PMB, .ABT_TLIM, .ABT_VTHR0,
    .ABT_VTHR1, .CLK_ACCADDR, .CLK_ACCSTAT, .CLK_OSC, .CSN_CFG, .CSN_PQUOTA, .CSN_TAGBASE, .CSN_TAGCMD, .CSN_TAGLEN,
    .CSN_TAGSTAT, .GLB_BANKSTAT, .GLB_ERRCTL, .GLB_ERRLAST, .GLB_FABID, .GLB_ID, .GLB_IMGBUILD, .GLB_IOCFG, .GLB_LIVECFG,
    .GLB_OWNER, .GLB_PERST, .GLB_PERSTMAP, .GLB_SBCFG, .GLB_SBSTAT, .GLB_SEGBUILD, .GLB_SPANFORM, .GLB_TCLOSE, .GLB_THERM,
    .GLB_TOPO, .GLB_TRELEASE, .GTE_SBKEY, .GTE_SLOT, .JNL_ACK, .JNL_CFG, .JNL_CMDDESC, .JNL_CMDGO, .JNL_CMDSEQ, .JNL_RDDATA,
    .JNL_RDSEQ, .KEY_AUTH, .KEY_CMD, .KEY_IDPUB, .KEY_RPTWIN, .KEY_SERIAL, .KEY_STGADDR, .KEY_STGDATA, .PMC_CMD,
    .PMC_SNAPTIME, .PWD_CTL, .REC_CFG, .REC_FIRE, .REC_HOURS, .REC_MRAMWIN, .REC_PCYCLE, .REC_PFLOG, .REC_RINGWIN,
    .REC_TRGLIST, .REC_TRGMATCH, .TNT_KEY]

/-- Registers that resets keep (log entry 25). -/
abbrev Reg.lasting : List Reg := [.ABT_ALERTEN, .ABT_CFG, .ABT_EVENT, .ABT_FCTL, .ABT_IIN, .ABT_ILIM, .ABT_PIN, .ABT_PMB,
    .ABT_RES, .ABT_STAT, .ABT_TEMP, .ABT_TLIM, .ABT_VIN, .ABT_VMIN, .ABT_VOUT, .ABT_VTHR0, .ABT_VTHR1, .CLK_OSC, .GLB_IOCFG,
    .GLB_PERST, .GLB_TEMP, .GLB_TEMPMAX, .KEY_IDPUB, .KEY_SERIAL, .REC_HOURS, .REC_PCYCLE]

/-- A next state that a command answers has kept the parts and the registers listed. -/
def LeavesAlone (c : Instr) (ps : List Piece) (rs : List Reg) : Prop := ∀ s : State, Keeps (exec c s) (Leaves ps rs s)

/-- It has kept the banks, the stage copies and the certificate area. -/
def LeavesStores (c : Instr) : Prop :=
  ∀ s : State, Keeps (exec c s) fun t => t.img.bank = s.img.bank ∧ t.key.stage = s.key.stage ∧ t.key.cert = s.key.cert

end Sys2Proof.Machine
end

