-- ==== Sys2Proof/Certificates/Slice0/Obligations.lean ====
section
/-! DEFINITION. The statements for the provers: what each command does, what it leaves alone, and what every step keeps. -/

open Sys2Proof Sys2Proof.Machine

/-- A step runs the command at the front of the queue on the state whose queue is the rest; with none waiting and the keeper
running device time goes on by one period of its counter, and the counters of cycles with it (log entry 5: the model's choice).
-/
def Obligations.StepRunsFront : Prop :=
  (∀ (c : Instr) (rest : List Instr) (s : State), s.pending = c :: rest → step s = exec c { s with pending := rest }) ∧
  (∀ s : State, s.pending = [] → On s → Completes (step s) fun t =>
    t.env.now = s.env.now + 5 ∧ Only Piece.counting Reg.counting s t) ∧
  (∀ s : State, s.pending = [] → ¬On s → step s = .next s)

/-- Every command answers a next state, with the queue of waiting commands as it was. -/
def Obligations.EveryCommandAnswers : Prop :=
  ∀ (c : Instr) (s : State), Completes (exec c s) fun t => t.pending = s.pending

/-- After the keeper's stop no command has an effect but keeper power-up (R391). -/
def Obligations.KeeperStopped : Prop :=
  ∀ (c : Instr) (s : State), ¬On s → (∀ feedB low, c ≠ .keeperPowerUp feedB low) → exec c s = .next s

/-- Every step keeps the read-only views in agreement with what they show: JNL_STAT.PENDING, JNL_HEAD, GLB_PLANES, CSN_STAT and
REC_STAT.UNFLUSHED. -/
def Obligations.ViewsKept : Prop :=
  ∀ s t : State, ViewsAgree s → step s = .next t → ViewsAgree t

/-- The state after reset: every register at its Reset column, or at what log entries 1 and 2 name where the column gives none;
the views agree, every domain is off, and no command waits. -/
def Obligations.ResetState : Prop :=
  (∀ (r : Reg) (i : Nat), State.reset.rd r i = r.reset i) ∧ ViewsAgree State.reset ∧ On State.reset ∧
    mode State.reset = 1 ∧ (∀ d < 80, domState State.reset d = 0) ∧ (∀ p < 128, ltssm State.reset p = 0x30) ∧
    State.reset.jrn.cmds = [] ∧ State.reset.pending = []

/-- The register map and its inverse agree: the offset of every instance of every register is a word of the register space, and
the map gives that instance at it, so that no two registers share an offset. -/
def Obligations.RegisterMapInverts : Prop :=
  ∀ (r : Reg) (i : Nat), i < r.count →
    r.offset i % 4 = 0 ∧ r.offset i < 0x04000000 ∧ regAt (r.offset i) = some (r, i)

/-- A key matches a tag when the key is 0, when the tag is 0, or when they are equal; no other pair matches (R236). -/
def Obligations.KeysMatch : Prop :=
  ∀ key tag : Nat, keyMatches key tag = true ↔ key = 0 ∨ tag = 0 ∨ key = tag

/-- An image with DEVELOP_ONLY = 1 is rejected in every life-cycle state other than BLANK (0) and DEVELOP (1) (R310): as a
candidate of a load, by VERIFY and RELOAD, and by a live replacement. -/
def Obligations.DevelopOnlyRejected : Prop :=
  ∀ (s : State) (b : Nat) (fault : Option (Fin 56)), On s → (imageIn s b).developOnly = true → lcState s ≠ 0 → lcState s ≠ 1 →
    (s.img.loading = some b → s.img.accepted = none → Completes (exec (.imageStreamDone fault) s) fun t =>
      t.img.accepted = none ∧ t.f F.GLB_BANKSTAT_STATE b = 2) ∧
    (∀ c, (runningCmd s 0x13).or (runningCmd s 0x14) = some c → c.byte 8 = b → findCmd s c.seq = some c →
      Completes (exec (.bankVerifyDone fault) s) fun t => t.f F.GLB_BANKSTAT_STATE b = 2 ∧
        ∀ d ∈ t.jrn.cmds, d.seq ≠ c.seq) ∧
    (∀ l, s.img.live = some l → liveSt s = 1 → b = 1 - activeBank s →
      Completes (exec (.liveVerifyDone fault) s) fun t => t.f F.GLB_BANKSTAT_STATE b = 2 ∧ t.img.live = none ∧
        liveSt t = 0)

/-- CLOCK_LOSS_DETECTION, OSCILLATOR_LOSS, OSCILLATOR_TEST and OSCILLATOR_RESTORE have their effect (R29, R30, R38, R40): a
lost island is marked and the accesses in its joint complete with CLOCK_LOST, none of them staying held; in Standby, where no
island runs, the loss of the oscillator stays pending as a Device-fatal cause. SLOT_CLOCK_WINDOW_OPEN, SLOT_CLOCK_WINDOW_CLOSE
and CLKREQ_CHANGE: the clock of a slot runs inside its window as R53 says. -/
def Obligations.ClocksComplete : Prop :=
  (∀ (s : State) (i : IslandId) (accs : List JointAcc), On s → i.val ≠ 25 → s.b F.CLK_ISLSTAT_RUN i.val = true →
    Completes (exec (.clockLossDetection i accs) s) fun t =>
      t.f F.CLK_ISLSTAT_FAILED i.val = 1 ∧ t.f F.CLK_ISLSTAT_RUN i.val = 0 ∧ t.f F.CLK_ISLSTAT_LOCK i.val = 0 ∧
        t.f F.CLK_ISLSTAT_LOSSCNT i.val = min (2 ^ F.CLK_ISLSTAT_LOSSCNT.width - 1) (s.f F.CLK_ISLSTAT_LOSSCNT i.val + 1)) ∧
  (∀ (s : State) (i : IslandId) (g : EngId) (b : DutyId) (off : Nat) (w : Option (BitVec 4 × Word)), On s → i.val ≠ 25 →
    s.b F.CLK_ISLSTAT_RUN i.val = true → i.val < 8 → accIsland ⟨.engine g b, off, w, none⟩ = some i.val → waitingAccs s = [] →
    Completes (exec (.clockLossDetection i [⟨.engine g b, off, w, none⟩]) s) fun t =>
      SMap.get 0 t.eng.lastStatus g.val = accLost) ∧
  (∀ (s : State) (accs : List JointAcc), On s → s.env.oscRun = true → s.b F.CLK_OSC_SRC 0 = false →
    Completes (exec (.oscillatorLoss accs) s) fun t =>
      t.f F.CLK_OSC_SRC 0 = 1 ∧ t.f F.CLK_OSC_OSC_FAIL 0 = 1 ∧ t.env.oscRun = false ∧
        (mode s ≠ 0 → ∀ i < 25, t.f F.CLK_ISLSTAT_FAILED i = 1 ∧ t.f F.CLK_ISLSTAT_RUN i = 0) ∧
        (mode s = 0 → s.mode.pendCause = none → t.mode.pendCause = some 0x31)) ∧
  (∀ (s : State) (good : Bool), On s → s.b F.CLK_OSC_SRC 0 = true →
    Completes (exec (.oscillatorTest good) s) fun t =>
      t.env.oscRun = good ∧ t.env.oscGood = (if good then s.env.oscGood + 1 else 0) ∧ Only [.env] [] s t) ∧
  (∀ s : State, On s → s.b F.CLK_OSC_SRC 0 = true → s.env.oscRun = true → 10 ≤ s.env.oscGood →
    Completes (exec .oscillatorRestore s) fun t =>
      t.f F.CLK_OSC_SRC 0 = 0 ∧ t.f F.CLK_OSC_OSC_FAIL 0 = s.f F.CLK_OSC_OSC_FAIL 0 ∧ Only [] [.CLK_OSC] s t) ∧
  (∀ (s : State) (k : SlotId), On s → (slotSt s k.val).on = true →
    Completes (exec (.slotClockWindowOpen k) s) fun t =>
      slotSt t k.val = { slotSt s k.val with window := true } ∧
        t.b F.GLB_SLOT_CLKRUN k.val = (s.b F.GLB_SLOT_BOUND k.val && phyOn s (s.f F.GLB_SLOT_PORT k.val) &&
          ((slotDef s k.val).always || s.b F.GLB_SLOT_CLKREQ k.val || !l1ssEnabled s (s.f F.GLB_SLOT_PORT k.val))) ∧
        Only [.host] [.GLB_SLOT] s t) ∧
  (∀ (s : State) (k : SlotId), On s → (slotSt s k.val).on = false →
    Completes (exec (.slotClockWindowClose k) s) fun t =>
      slotSt t k.val = { slotSt s k.val with window := false } ∧ t.b F.GLB_SLOT_CLKRUN k.val = false ∧
        Only [.host] [.GLB_SLOT] s t) ∧
  (∀ (s : State) (k : SlotId) (asserted : Bool), On s →
    Completes (exec (.clkreqChange k asserted) s) fun t =>
      t.b F.GLB_SLOT_CLKREQ k.val = asserted ∧
        t.b F.GLB_SLOT_CLKRUN k.val = (s.b F.GLB_SLOT_BOUND k.val && (slotSt s k.val).window &&
          phyOn s (s.f F.GLB_SLOT_PORT k.val) &&
          ((slotDef s k.val).always || asserted || !l1ssEnabled s (s.f F.GLB_SLOT_PORT k.val))) ∧
        Only [] [.GLB_SLOT] s t)

/-- DL_ACTIVE, RECOVERY, RECOVERY_COMPLETE and LINK_DOWN have their effect on a PCI Express port (R43, R47 to R49, R51, R61,
R62, R195): the link is up at the width, rate, order of lanes and polarities found, in the clock mode set. ADAPTATION_STEP
counts the symbol errors of a lane in use and moves each coefficient by at most one step; LANE_MARGINING leaves at its lane the
result of the auxiliary sampler, a free value (log entry 3), or the parameter that the partner asks for, and no trace on the
data path (R56, R57, R67). -/
def Obligations.LinkTrainingCompletes : Prop :=
  (∀ (s : State) (p : PortId) (width rate : Fin 8) (flit reversed : Bool) (inverted : List Bool) (eq : Option Equal) (cred : LinkCredits),
    On s →
    mayTrain s p.val = true → linkSt s p.val = .training → linkUp s p.val = false →
    trainOk s p.val width.val rate.val flit reversed = true →
    Completes (exec (.dlActive p width rate flit reversed inverted eq cred) s) fun t =>
      linkUp t p.val = true ∧ linkSt t p.val = .active ∧ t.f F.SPN_PSTAT_WIDTH p.val = width.val ∧
        t.f F.SPN_PSTAT_RATE p.val = rate.val ∧ t.b F.SPN_PSTAT_FLIT p.val = flit ∧
        t.b F.SPN_PSTAT_REVERSED p.val = reversed ∧
        (t.port p.val).clkMode = s.f F.SPN_CLKMODE_MODE (spanOf p.val) / 4 ^ (p.val % 4) % 4 ∧
        ∀ k i, (activeLanes s p.val width.val reversed)[k]? = some i → t.f F.SPN_LANE_ROLE i = 0 ∧
          t.b F.SPN_LANE_POLINV i = inverted.getD k false) ∧
  (∀ (s : State) (p : PortId) (equalise : Bool), On s → portExists s p.val = true → isFloing s p.val = false →
    linkSt s p.val = .active ∨ linkSt s p.val = .lowpower →
    Completes (exec (.recovery p equalise) s) fun t =>
      t.f F.SPN_PSTAT_LTSSM p.val = (if equalise then 0x14 else 0x10) ∧ t.f F.SPN_PSTAT_PMSTATE p.val = 0 ∧
        linkSt t p.val = .recovery ∧ Only [.ports] [.SPN_PSTAT] s t) ∧
  (∀ (s : State) (p : PortId) (width rate : Fin 8) (eq : Option Equal), On s → portExists s p.val = true → isFloing s p.val = false →
    linkSt s p.val = .recovery →
    (settleOk s p.val width.val rate.val (s.b F.SPN_PSTAT_FLIT p.val) (s.b F.SPN_PSTAT_REVERSED p.val) = true →
      Completes (exec (.recoveryComplete p true width rate eq) s) fun t =>
        linkSt t p.val = .active ∧ t.f F.SPN_PSTAT_WIDTH p.val = width.val ∧ t.f F.SPN_PSTAT_RATE p.val = rate.val ∧
          linkUp t p.val = linkUp s p.val) ∧
    Completes (exec (.recoveryComplete p false width rate eq) s) fun t =>
      linkUp t p.val = false ∧ t.f F.SPN_PSTAT_LTSSM p.val = (if phyOn s p.val then 0 else 0x30)) ∧
  (∀ (s : State) (p : PortId), On s → portExists s p.val = true → isFloing s p.val = false → linkUp s p.val = true →
    Completes (exec (.linkDown p) s) fun t =>
      linkUp t p.val = false ∧ t.f F.SPN_PSTAT_LTSSM p.val =
        (if p.val ∈ s.host.toAck then 0x20 else if phyOn s p.val then 0 else 0x30)) ∧
  (∀ (s : State) (sp : SpanId) (l : LaneId) (ctle dfe vga : Fin 3) (eye : Fin 256) (errs : Fin 65536), On s →
    s.f F.SPN_LANE_ROLE (9 * sp.val + l.val) ≠ 7 →
    (s.b F.SPN_EQCTL_ADAPT_CONT sp.val = true → laneInL0 s (lanePort s sp.val l.val) = true →
      Completes (exec (.adaptationStep sp l ctle dfe vga eye 0) s) fun t =>
        t.f F.SPN_COEF_CTLE (9 * sp.val + l.val) = moveCoef (s.f F.SPN_COEF_CTLE (9 * sp.val + l.val)) ctle ∧
          t.f F.SPN_COEF_DFE1 (9 * sp.val + l.val) = moveTap (s.f F.SPN_COEF_DFE1 (9 * sp.val + l.val)) dfe ∧
          t.f F.SPN_COEF_VGA (9 * sp.val + l.val) = moveCoef (s.f F.SPN_COEF_VGA (9 * sp.val + l.val)) vga ∧
          t.f F.SPN_COEF_EYE (9 * sp.val + l.val) = eye.val ∧ Only [] [.SPN_COEF] s t) ∧
    (s.b F.SPN_EQCTL_ADAPT_CONT sp.val = false ∨ laneInL0 s (lanePort s sp.val l.val) = false →
      s.f F.SPN_FLTHR_ERR_THR sp.val = 0 →
      Completes (exec (.adaptationStep sp l ctle dfe vga eye errs) s) fun t =>
        t.rd .SPN_COEF (9 * sp.val + l.val) = s.rd .SPN_COEF (9 * sp.val + l.val) ∧
          t.f F.SPN_LANE_ERRCNT (9 * sp.val + l.val) =
            min (2 ^ F.SPN_LANE_ERRCNT.width - 1) (s.f F.SPN_LANE_ERRCNT (9 * sp.val + l.val) + errs.val))) ∧
  (∀ (s : State) (p : PortId) (lane : Fin 16), On s →
    portExists s p.val = true → isFloing s p.val = false → linkUp s p.val = true → 4 ≤ s.f F.SPN_PSTAT_RATE p.val →
    lane.val < lanesOf (s.f F.SPN_PSTAT_WIDTH p.val) →
    (∀ (timing far : Bool) (n : Fin 128) (limit : Fin 64), n.val ≤ marginSteps (s.f F.SPN_PSTAT_RATE p.val) timing →
      Completes (exec (.laneMargining p lane (.step timing far n limit)) s) fun t =>
        SMap.get 0 (t.port p.val).margin lane.val = Config.freeNat s.env.free ∧ Only [.env, .ports, .host] [] s t) ∧
    ∀ x : MarginParam, Completes (exec (.laneMargining p lane (.report x)) s) fun t =>
      SMap.get 0 (t.port p.val).margin lane.val = marginParam s p.val (s.f F.SPN_PSTAT_RATE p.val) x ∧
        Only [.ports, .host] [] s t)

/-- LOWPOWER_ENTRY, LOWPOWER_EXIT, L0P_NARROWING_REQUEST and PARTNER_LOW_POWER_REQUEST have their effect (R58 to R60). -/
def Obligations.LinkPowerCompletes : Prop :=
  (∀ (s : State) (p : PortId) (pm width : Fin 8) (pci : Bool), On s → lowpowerOk s p.val pm.val width.val pci = true →
    linkSt s p.val = .active ∨ ltssm s p.val = 0x18 →
    Completes (exec (.lowpowerEntry p pm width pci) s) fun t =>
      t.f F.SPN_PSTAT_PMSTATE p.val = pm.val ∧
        t.f F.SPN_PSTAT_LTSSM p.val = (if pm.val = 1 then 0x0C else 0x1C) ∧
        t.f F.SPN_PSTAT_L0PWIDTH p.val = (if pm.val = 1 then width.val else s.f F.SPN_PSTAT_L0PWIDTH p.val) ∧
        Only (if pm.val = 1 then [] else [.ports]) [.SPN_PSTAT] s t) ∧
  (∀ (s : State) (p : PortId), On s → portExists s p.val = true → isFloing s p.val = false →
    linkSt s p.val = .lowpower →
    Completes (exec (.lowpowerExit p) s) fun t =>
      linkSt t p.val = .active ∧ t.f F.SPN_PSTAT_L0PWIDTH p.val = s.f F.SPN_PSTAT_WIDTH p.val ∧
        Only [.ports] [.SPN_PSTAT] s t) ∧
  (∀ (s : State) (p : PortId), On s → portExists s p.val = true → isFloing s p.val = false →
    linkSt s p.val = .active → s.b F.SPN_PSTAT_FLIT p.val = true → expressHold s p.val = false →
    egressEmpty s p.val = true → l0pMin s p.val < s.f F.SPN_PSTAT_WIDTH p.val →
    Completes (exec (.l0pNarrowingRequest p) s) fun t =>
      t.f F.SPN_PSTAT_LTSSM p.val = 0x18 ∧ Only [] [.SPN_PSTAT] s t) ∧
  (∀ (s : State) (p : PortId), On s → portExists s p.val = true → isFloing s p.val = false →
    linkSt s p.val = .active → expressHold s p.val = true →
    (Completes (exec (.partnerLowPowerRequest p .l0p) s) fun t =>
      (t.port p.val).pmReply = 2 ∧ Only [.ports] [] s t) ∧
    (Completes (exec (.partnerLowPowerRequest p .aspmL1) s) fun t =>
      (t.port p.val).pmReply = 3 ∧ Only [.ports] [] s t) ∧
    (Completes (exec (.partnerLowPowerRequest p .pciPm) s) fun t =>
      (t.port p.val).pmReply = 1 ∧ Only [.ports] [] s t)) ∧
  (∀ (s : State) (p : PortId), On s → portExists s p.val = true → isFloing s p.val = false →
    linkSt s p.val = .active → expressHold s p.val = false →
    (Completes (exec (.partnerLowPowerRequest p .l0p) s) fun t =>
      (t.port p.val).pmReply = (if s.b F.SPN_PSTAT_FLIT p.val then 1 else 2) ∧
        t.f F.SPN_PSTAT_LTSSM p.val = (if s.b F.SPN_PSTAT_FLIT p.val then 0x18 else s.f F.SPN_PSTAT_LTSSM p.val)) ∧
    (∀ k, k ≠ .l0p → Completes (exec (.partnerLowPowerRequest p k) s) fun t =>
      (t.port p.val).pmReply = 1 ∧ Only [.ports] [] s t))

/-- RETRAIN, CLOCK_MODE_WRITE, ERRCLR, FLOING_RETRAIN and RX_ALLOC_WRITE, where the write lands, do what R45, R52, R53, R67,
R79, R94 and R121 say: Recovery of an active port; each clock mode taken but COMMON on a port without a slot clock; the error
count 0; a Floing link that is up goes down with cause 4; an allocation that exceeds no limit is taken, and one that would
leaves the register as it was. -/
def Obligations.SpanWritesComplete : Prop :=
  (∀ (s : State) (p : PortId) (w : RegW), Lands .SPN_CTL (p.val / 4) (RegW.with1 w (2 ^ (12 + p.val % 4))) s →
    portExists s p.val = true → isFloing s p.val = false → linkSt s p.val = .active ∨ linkSt s p.val = .lowpower →
    Completes (exec (.retrain p w) s) fun t => t.f F.SPN_PSTAT_LTSSM p.val = 0x10 ∧ t.f F.SPN_PSTAT_PMSTATE p.val = 0) ∧
  (∀ (s : State) (sp : SpanId) (w : RegW), Lands .SPN_CLKMODE sp.val (RegW.touching w 0xFF) s →
    Completes (exec (.clockModeWrite sp w) s) fun t => ∀ k < 4,
      t.f ⟨.SPN_CLKMODE, 2 * k + 1, 2 * k⟩ sp.val =
        if w.val.toNat / 4 ^ k % 4 = 2 ∧ slotClk s (4 * sp.val + k) = false then
          s.f ⟨.SPN_CLKMODE, 2 * k + 1, 2 * k⟩ sp.val
        else w.val.toNat / 4 ^ k % 4) ∧
  (∀ (s : State) (sp : SpanId) (l : LaneId) (w : RegW), Lands .SPN_LANE (9 * sp.val + l.val) (RegW.with1 w 0x8000) s →
    Completes (exec (.errclr sp l w) s) fun t => t.f F.SPN_LANE_ERRCNT (9 * sp.val + l.val) = 0) ∧
  (∀ (s : State) (g : SpanId) (w : RegW), Lands .SPN_FLCTL g.val (RegW.with1 w 1) s → flHas s g.val = true →
    flUp s g.val = true →
    Completes (exec (.floingRetrain g w) s) fun t =>
      t.f F.SPN_FLCNT_LAST_DOWN g.val = 4 ∧ t.f F.SPN_FLSTAT_STATE g.val = 0) ∧
  (∀ (s : State) (g : SpanId) (v : Fin 8) (w : RegW), Lands .SPN_FLVC (8 * g.val + v.val) (RegW.touching w 0xFFF0000) s →
    let new := (wrCtx .SPN_FLVC (8 * g.val + v.val) (RegW.touching w 0xFFF0000) s).new
    let taken := s.wr .SPN_FLVC (8 * g.val + v.val) new
    let sum := ((List.range 8).map (fun x => allocActs (taken.f F.SPN_FLVC_RX_ALLOC (8 * g.val + x)))).sum
    let limit := if form s g.val = 6 then 32768 else 16384
    let pool := poolSize (setFl g.val { fl taken g.val with rxAlloc := [] } taken) (g.val / 4)
    (flHas s g.val = false ∨ (sum ≤ limit ∧ 16384 ≤ pool) →
      Completes (exec (.rxAllocWrite g v w) s) fun t =>
        t.f F.SPN_FLVC_RX_ALLOC (8 * g.val + v.val) = F.SPN_FLVC_RX_ALLOC.get new) ∧
    (flHas s g.val = true → limit < sum ∨ pool < 16384 → Completes (exec (.rxAllocWrite g v w) s) fun t =>
      t.f F.SPN_FLVC_RX_ALLOC (8 * g.val + v.val) = s.f F.SPN_FLVC_RX_ALLOC (8 * g.val + v.val)))

/-- FENCE, UNFENCE, PMAP_WRITE, BUFFER_RESERVE_WRITE, TAG_SET and FROUTE_WRITE, where the write lands and nothing of R106,
R117, R121, R142 and R206 refuses it, have their effect. SHAPER_RATE_WRITE and EXPRESS_POLICER_WRITE leave the value written in
the shaper's register (R157, R161). -/
def Obligations.DeckWritesComplete : Prop :=
  (∀ (s : State) (m : PlaneId) (org : Origin), Lands .DCK_CTL m.val (wordW org 1) s → planeSt s m.val = 0 →
    Completes (exec (.fence m org) s) fun t => planeSt t m.val = 1 ∨ planeSt t m.val = 2) ∧
  (∀ (s : State) (m : PlaneId) (org : Origin), Lands .DCK_CTL m.val (wordW org 2) s → planeSt s m.val = 2 →
    Completes (exec (.unfence m org) s) fun t => planeSt t m.val = 0) ∧
  (∀ (s : State) (m : PlaneId) (org : Origin), Lands .DCK_CTL m.val (wordW org 1) s → planeSt s m.val ≠ 0 →
    Completes (exec (.fence m org) s) fun t => planeSt t m.val = planeSt s m.val) ∧
  (∀ (s : State) (n : PierId) (k : Fin 8) (w : RegW), Lands .PIR_PMAP (8 * n.val + k.val) w s →
    (∀ e < 8, (beBits w.be).getLsbD (4 * e) = true →
      planeLive s ((newOf s .PIR_PMAP (8 * n.val + k.val) w).toNat / 16 ^ e % 16) = true) →
    Completes (exec (.pmapWrite n k w) s) fun t =>
      t.rd .PIR_PMAP (8 * n.val + k.val) = newOf s .PIR_PMAP (8 * n.val + k.val) w) ∧
  (∀ (s : State) (n : PierId) (w : RegW), Lands .PIR_BUFCFG n.val w s →
    16384 ≤ poolSize (s.wr .PIR_BUFCFG n.val (newOf s .PIR_BUFCFG n.val w)) n.val →
    Completes (exec (.bufferReserveWrite n none w) s) fun t => t.rd .PIR_BUFCFG n.val = newOf s .PIR_BUFCFG n.val w) ∧
  (∀ (s : State) (n : PierId) (a : Fin 128) (w : RegW), Lands .PIR_BUFTHR (128 * n.val + a.val) w s →
    16384 ≤ poolSize (s.wr .PIR_BUFTHR (128 * n.val + a.val) (newOf s .PIR_BUFTHR (128 * n.val + a.val) w)) n.val →
    Completes (exec (.bufferReserveWrite n (some a) w) s) fun t =>
      t.rd .PIR_BUFTHR (128 * n.val + a.val) = newOf s .PIR_BUFTHR (128 * n.val + a.val) w) ∧
  (∀ (s : State) (tag : Fin 1024) (org : Origin), Lands .CSN_TAGCMD 0 (wordW org (2 ^ 31 + tag.val)) s →
    let base := s.rd64 .CSN_TAGBASE 0
    let n := max 1 (s.f F.CSN_TAGLEN_BLOCKS 0)
    (base + 64 * n ≤ lmBytes s → s.b F.CSN_TAGSTAT_BUSY 0 = false →
      Completes (exec (.tagSet tag org) s) fun t => t.csn.tagset = some (base, n, tag.val) ∧
        t.b F.CSN_TAGSTAT_BUSY 0 = true ∧ t.b F.CSN_TAGSTAT_DONE 0 = false) ∧
    (lmBytes s < base + 64 * n ∨ s.b F.CSN_TAGSTAT_BUSY 0 = true →
      Completes (exec (.tagSet tag org) s) fun t => t.csn = s.csn ∧ t.b F.CSN_TAGSTAT_ERR 0 = true)) ∧
  (∀ (s : State) (n : PierId) (d : Fin 64) (w : RegW), Lands .PIR_FROUTE (64 * n.val + d.val) w s →
    let new := newOf s .PIR_FROUTE (64 * n.val + d.val) w
    (isFloing s (F.PIR_FROUTE_PORT.get new) = true →
      Completes (exec (.frouteWrite n d w) s) fun t => t.rd .PIR_FROUTE (64 * n.val + d.val) = new ∧
        (new ≠ s.rd .PIR_FROUTE (64 * n.val + d.val) → 64 * n.val + d.val ∈ t.fab.hold)) ∧
    (isFloing s (F.PIR_FROUTE_PORT.get new) = false →
      Completes (exec (.frouteWrite n d w) s) fun t =>
        t.rd .PIR_FROUTE (64 * n.val + d.val) = s.rd .PIR_FROUTE (64 * n.val + d.val) ∧ t.fab = s.fab)) ∧
  (∀ (s : State) (i : Fin 1024) (w : RegW), Lands .PIR_QCFG i.val (RegW.touching w 0xFFFF) s →
    Completes (exec (.shaperRateWrite (.qcfg i) w) s) fun t =>
      t.rd .PIR_QCFG i.val = newOf s .PIR_QCFG i.val (RegW.touching w 0xFFFF)) ∧
  (∀ (s : State) (i : Fin 1024) (w : RegW), Lands .PIR_QRATE i.val (RegW.touching w 0xFF) s →
    Completes (exec (.shaperRateWrite (.qrate i) w) s) fun t =>
      t.rd .PIR_QRATE i.val = newOf s .PIR_QRATE i.val (RegW.touching w 0xFF)) ∧
  (∀ (s : State) (i : Fin 4096) (w : RegW), Lands .PIR_TSCFG i.val (RegW.touching w 0xFFFF) s →
    Completes (exec (.shaperRateWrite (.tscfg i) w) s) fun t =>
      t.rd .PIR_TSCFG i.val = newOf s .PIR_TSCFG i.val (RegW.touching w 0xFFFF)) ∧
  (∀ (s : State) (i : Fin 4096) (w : RegW), Lands .PIR_TSRATE i.val (RegW.touching w 0xFF) s →
    Completes (exec (.shaperRateWrite (.tsrate i) w) s) fun t =>
      t.rd .PIR_TSRATE i.val = newOf s .PIR_TSRATE i.val (RegW.touching w 0xFF)) ∧
  (∀ (s : State) (p : PortId) (w : RegW), Lands .PIR_EPCFG p.val w s →
    Completes (exec (.expressPolicerWrite p w) s) fun t => t.rd .PIR_EPCFG p.val = newOf s .PIR_EPCFG p.val w)

/-- WINDOW_VALID_WRITE, WINDOW_BOUNDS_WRITE, ENTRY_LOCK and TENANT_ENTRY_WRITE, where the write lands and nothing of R158 and
R244 refuses it, leave the value written; a valid window whose bases cross, or whose bounds are written, stays as it was. -/
def Obligations.GateWritesComplete : Prop :=
  (∀ (s : State) (z : Fin 130) (x : Fin 4) (w : RegW),
    Lands .GTE_WATTR (4 * z.val + x.val) (RegW.with1 w 0x40000000) s →
    (winBase s z.val x.val ≤ winLimit s z.val x.val → windowClash s z.val x.val = false →
      Completes (exec (.windowValidWrite z x w) s) fun t => t.b F.GTE_WATTR_VALID (4 * z.val + x.val) = true) ∧
    (winLimit s z.val x.val < winBase s z.val x.val →
      Completes (exec (.windowValidWrite z x w) s) fun t =>
        t.rd .GTE_WATTR (4 * z.val + x.val) = s.rd .GTE_WATTR (4 * z.val + x.val))) ∧
  (∀ (s : State) (z : Fin 130) (x : Fin 4) (limit high : Bool) (w : RegW),
    let r := if limit then Reg.GTE_WLIMIT else Reg.GTE_WBASE
    let i := 8 * z.val + 2 * x.val + high.toNat
    Lands r i w s →
    (s.b F.GTE_WATTR_VALID (4 * z.val + x.val) = false →
      Completes (exec (.windowBoundsWrite z x limit high w) s) fun t => t.rd r i = newOf s r i w) ∧
    (s.b F.GTE_WATTR_VALID (4 * z.val + x.val) = true →
      Completes (exec (.windowBoundsWrite z x limit high w) s) fun t => t.rd r i = s.rd r i)) ∧
  (∀ (s : State) (z : Fin 130) (w : RegW), Lands .GTE_SLOT z.val (RegW.with1 w 0x80000000) s →
    Completes (exec (.entryLock (.slot z) w) s) fun t => t.b F.GTE_SLOT_LOCK z.val = true) ∧
  (∀ (s : State) (w : RegW), Lands .GTE_SBKEY 0 (RegW.with1 w 0x80000000) s →
    Completes (exec (.entryLock .sbkey w) s) fun t => t.b F.GTE_SBKEY_LOCK 0 = true) ∧
  (∀ (s : State) (z : Fin 130) (x : Fin 4) (w : RegW),
    Lands .GTE_WATTR (4 * z.val + x.val) (RegW.with1 w 0x80000000) s →
    winBase s z.val x.val ≤ winLimit s z.val x.val → windowClash s z.val x.val = false →
    Completes (exec (.entryLock (.window z x) w) s) fun t => t.b F.GTE_WATTR_LOCK (4 * z.val + x.val) = true) ∧
  (∀ (s : State) (u : TenantId) (w : RegW), Lands .TNT_KEY u.val (RegW.with1 w 0x80000000) s →
    Completes (exec (.entryLock (.tenantKey u) w) s) fun t => t.b F.TNT_KEY_LOCK u.val = true) ∧
  (∀ (s : State) (p : PortId) (w : RegW), Lands .TNT_PORTDEF p.val (RegW.with1 w 0x80000000) s →
    let new := newOf s .TNT_PORTDEF p.val (RegW.with1 w 0x80000000)
    (portExists s p.val = true → onePier (s.wr .TNT_PORTDEF p.val new) (F.TNT_PORTDEF_TENANT.get new) = true) →
    Completes (exec (.entryLock (.portDefault p) w) s) fun t => t.b F.TNT_PORTDEF_LOCK p.val = true) ∧
  (∀ (s : State) (p : PortId) (w : RegW), Lands .TNT_PORTDEF p.val w s →
    let new := newOf s .TNT_PORTDEF p.val w
    (portExists s p.val = true → onePier (s.wr .TNT_PORTDEF p.val new) (F.TNT_PORTDEF_TENANT.get new) = true) →
    Completes (exec (.tenantEntryWrite (.portDefault p) w) s) fun t => t.rd .TNT_PORTDEF p.val = new) ∧
  (∀ (s : State) (i : Fin 2048) (w : RegW), Lands .TNT_ENTCTL i.val w s →
    let new := newOf s .TNT_ENTCTL i.val w
    F.TNT_ENTCTL_PORT.get new / 16 = i.val / 256 →
    (F.TNT_ENTCTL_VALID.get new = 1 → onePier (s.wr .TNT_ENTCTL i.val new) (F.TNT_ENTCTL_TENANT.get new) = true) →
    Completes (exec (.tenantEntryWrite (.ctl i) w) s) fun t => t.rd .TNT_ENTCTL i.val = new) ∧
  (∀ (s : State) (i : Fin 2048) (w : RegW), Lands .TNT_ENTCTL i.val (RegW.with1 w 0x80000000) s →
    let new := newOf s .TNT_ENTCTL i.val (RegW.with1 w 0x80000000)
    F.TNT_ENTCTL_PORT.get new / 16 = i.val / 256 →
    (F.TNT_ENTCTL_VALID.get new = 1 → onePier (s.wr .TNT_ENTCTL i.val new) (F.TNT_ENTCTL_TENANT.get new) = true) →
    Completes (exec (.entryLock (.entry i) w) s) fun t => t.b F.TNT_ENTCTL_LOCK i.val = true) ∧
  (∀ (s : State) (i : Fin 2048) (w : RegW), Lands .TNT_ENTRID i.val w s →
    Completes (exec (.tenantEntryWrite (.rid i) w) s) fun t => t.rd .TNT_ENTRID i.val = newOf s .TNT_ENTRID i.val w) ∧
  (∀ (s : State) (i : Fin 2048) (top : Bool) (w : RegW), Lands .TNT_ENTPASID (2 * i.val + top.toNat) w s →
    Completes (exec (.tenantEntryWrite (.pasid i top) w) s) fun t =>
      t.rd .TNT_ENTPASID (2 * i.val + top.toNat) = newOf s .TNT_ENTPASID (2 * i.val + top.toNat) w)

/-- CLOSE, RELEASE, TENANT_CLOSE, TENANT_RELEASE and QUAR, where the write lands: a port that is open closes with cause 5; a
closed port opens unless R266 refuses it; the tenant's bit of GLB_TCLOSE is set and cleared; and the module enters quarantine
with cause 0x3F (R263, R266, R269, R275). -/
def Obligations.ContainmentWritesComplete : Prop :=
  (∀ (s : State) (p : PortId) (org : Origin), Lands .PIR_CLOSE p.val (wordW org 1) s → portExists s p.val = true →
    s.b F.PIR_CLOSE_CLOSED p.val = false → ltssm s p.val ≠ 0x30 →
    Completes (exec (.close p org) s) fun t => t.b F.PIR_CLOSE_CLOSED p.val = true ∧ t.f F.PIR_CLOSE_CAUSE p.val = 5) ∧
  (∀ (s : State) (p : PortId) (org : Origin), Lands .PIR_CLOSE p.val (wordW org 2) s → releaseRefused s p.val = false →
    Completes (exec (.release p org) s) fun t => t.b F.PIR_CLOSE_CLOSED p.val = false) ∧
  (∀ (s : State) (p : PortId) (org : Origin), Lands .PIR_CLOSE p.val (wordW org 2) s → releaseRefused s p.val = true →
    Completes (exec (.release p org) s) fun t => t.rd .PIR_CLOSE p.val = s.rd .PIR_CLOSE p.val) ∧
  (∀ (s : State) (u : TenantId) (org : Origin), Lands .GLB_TCLOSE (u.val / 32) (wordW org (2 ^ (u.val % 32))) s →
    Completes (exec (.tenantClose u org) s) fun t => tenantClosed t u.val = true ∧
      ∀ v < 512, v ≠ u.val → tenantClosed t v = tenantClosed s v) ∧
  (∀ (s : State) (u : TenantId) (org : Origin), Lands .GLB_TRELEASE (u.val / 32) (wordW org (2 ^ (u.val % 32))) s →
    Completes (exec (.tenantRelease u org) s) fun t => tenantClosed t u.val = false ∧
      ∀ v < 512, v ≠ u.val → tenantClosed t v = tenantClosed s v) ∧
  (∀ (s : State) (org : Origin), Lands .GLB_ERRCTL 0 ⟨org, 2, 0x100⟩ s → inQuar s = false → mode s ≠ 0 →
    Completes (exec (.quar org) s) fun t => t.b F.GLB_QSTAT_QUAR 0 = true ∧ t.f F.GLB_QSTAT_CAUSE 0 = 0x3F ∧ mode t = 6) ∧
  (∀ (s : State) (g : EngId) (org : Origin), Lands .ENG_CTL g.val (wordW org 1) s →
    (∃ e < 8, 8 * (g.val / 8) + e ≠ g.val ∧ engUp s (8 * (g.val / 8) + e) = true) →
    Completes (exec (.park g org) s) fun t => t.b F.ENG_CTL_PARK g.val = true) ∧
  (∀ (s : State) (g : EngId) (org : Origin), Lands .ENG_CTL g.val (wordW org 1) s →
    (∀ e < 8, 8 * (g.val / 8) + e ≠ g.val → engUp s (8 * (g.val / 8) + e) = false) →
    Completes (exec (.park g org) s) fun t => t.rd .ENG_CTL g.val = s.rd .ENG_CTL g.val) ∧
  (∀ (s : State) (g : EngId) (org : Origin), Lands .ENG_CTL g.val (wordW org 0) s →
    (mode s ≠ 5 ∨ g.val ∉ reducedParks s (g.val / 8) →
      Completes (exec (.unpark g org) s) fun t => t.b F.ENG_CTL_PARK g.val = false) ∧
    (mode s = 5 → g.val ∈ reducedParks s (g.val / 8) →
      Completes (exec (.unpark g org) s) fun t => t.rd .ENG_CTL g.val = s.rd .ENG_CTL g.val))

/-- JOURNAL_READ_LATCH and COMMAND_SUBMIT, where the write lands: the entry of the slot named is latched for the interface; a
descriptor that is well formed and known is accepted with the next number, and another one is answered with the reason (R333,
R342, Table JNL-14). REC_FIRE, SNAP, FREEZE, THAW, CLEAR, BLOCK_CLEAR and EVENT_SELECT_WRITE, where the write lands: each
trigger named that listens to source 4 and matches fires; the action is scheduled; the counters of the block, or the one whose
selection is written, are 0 (in block 120, of channel 0, where the write's own entry is not counted there) (R349, R350, R362,
R366, R369). -/
def Obligations.WindowWritesComplete : Prop :=
  (∀ (s : State) (w : RegW), Lands .JNL_RDSEQ 0 w s →
    let i := bankedIdx w.org .JNL_RDSEQ 0
    let new := newOf s .JNL_RDSEQ i w
    Completes (exec (.journalReadLatch w) s) fun t => t.rd .JNL_RDSEQ i = new ∧
      SMap.get none t.jrn.latch (Origin.bank w.org) = slotEntry (s.wr .JNL_RDSEQ i new) (new.toNat % slots)) ∧
  (∀ (s : State) (org : Origin), Lands .JNL_CMDGO 0 (wordW org 1) s →
    serves s = true → rejection s (bankDesc s (Origin.bank org)) = 0 →
    Completes (exec (.commandSubmit org) s) fun t => t.f F.JNL_CMDRES_STATE (Origin.bank org) = 2 ∧
      t.rd64 .JNL_CMDSEQ (2 * Origin.bank org) = s.jrn.next % 2 ^ 64 ∧
      t.jrn.cmds = s.jrn.cmds ++
        [⟨s.jrn.next, bankDesc s (Origin.bank org), org, some (Origin.bank org), 0, false⟩]) ∧
  (∀ (s : State) (org : Origin), Lands .JNL_CMDGO 0 (wordW org 1) s →
    serves s = true → rejection s (bankDesc s (Origin.bank org)) ≠ 0 →
    Completes (exec (.commandSubmit org) s) fun t => t.f F.JNL_CMDRES_STATE (Origin.bank org) = 4 ∧
      t.f F.JNL_CMDRES_RESULT (Origin.bank org) = rejection s (bankDesc s (Origin.bank org)) ∧ t.jrn = s.jrn) ∧
  (∀ (s : State) (org : Origin), Lands .JNL_CMDGO 0 (wordW org 1) s → serves s = false →
    Completes (exec (.commandSubmit org) s) fun t => t.f F.JNL_CMDRES_STATE (Origin.bank org) = 1 ∧ t.jrn = s.jrn) ∧
  (∀ (s : State) (bits : Word) (org : Origin) (k : Nat), Lands .REC_FIRE 0 ⟨org, 0xF, bits⟩ s → k < 32 →
    bits.getLsbD k = true → s.b F.REC_TRGCFG_EN k = true → trigSrc s k = 4 →
    (s.f F.REC_TRGMATCH_VALUE k &&& s.f F.REC_TRGMATCH_MASK k) = 0 →
    Completes (exec (.recFire bits org) s) fun t => k ∈ t.rcd.holdT ∨ k ∈ t.rcd.holdR) ∧
  (∀ (s : State) (org : Origin), Lands .PMC_CMD 0 (wordW org 1) s →
    Completes (exec (.snap org) s) fun t => t.b F.PMC_STAT_PENDING 0 = true ∧ t.pmc.action.testBit 0 = true) ∧
  (∀ (s : State) (org : Origin), Lands .PMC_CMD 0 (wordW org 2) s →
    Completes (exec (.freeze org) s) fun t => t.b F.PMC_STAT_PENDING 0 = true ∧ t.pmc.action.testBit 1 = true ∧
      t.pmc.action.testBit 2 = false) ∧
  (∀ (s : State) (org : Origin), Lands .PMC_CMD 0 (wordW org 4) s →
    Completes (exec (.thaw org) s) fun t => t.b F.PMC_STAT_PENDING 0 = true ∧ t.pmc.action.testBit 2 = true ∧
      t.pmc.action.testBit 1 = false) ∧
  (∀ (s : State) (org : Origin), Lands .PMC_CMD 0 (wordW org 8) s →
    Completes (exec (.clear org) s) fun t => t.b F.PMC_STAT_PENDING 0 = true ∧ t.pmc.action.testBit 3 = true) ∧
  (∀ (s : State) (b : BlockId) (org : Origin), Lands .PMC_BCTL b.val ⟨org, 1, 1⟩ s → (b.val = 120 → Uncounted s) →
    Completes (exec (.blockClear b org) s) fun t => t.f F.PMC_BSTAT_OVF b.val = 0 ∧
      SMap.get 0 t.pmc.cycBase b.val = s.env.now ∧ ∀ j < 16, t.rd .PMC_CNT (16 * b.val + j) = 0) ∧
  (∀ (s : State) (b : BlockId) (k : Fin 8) (w : RegW), Lands .PMC_EVT (8 * b.val + k.val) (RegW.touching w 0xF0FFF) s →
    (b.val = 120 → Uncounted s) → Completes (exec (.eventSelectWrite b k w) s) fun t =>
      t.rd .PMC_EVT (8 * b.val + k.val) = newOf s .PMC_EVT (8 * b.val + k.val) (RegW.touching w 0xF0FFF) ∧
        t.rd64 .PMC_CNT (16 * b.val + 2 * k.val) = 0 ∧ t.bitf F.PMC_BSTAT_OVF b.val k.val = false)

/-- SELECT, RESTART, FEED_ENABLE_WRITE, VMIN_CLEAR, THRESHOLD_WRITE and THERMAL_THRESHOLD_WRITE, where the write lands and
R374, R384, R387 and R416 allow it: a switchover starts; a latched feed returns to STANDBY with no retries; EN takes the value
and a feed whose EN falls is OFF; VMIN is 0xFFFF; the thresholds take their values. DOMAIN_ON_REQUEST and DOMAIN_OFF_REQUEST,
where the write lands: an OFF domain is POWERING_UP and counted, an ON domain starts to power off; a request that R413 refuses
leaves its reason and the domain as it was. A domain request's LASTERR codes follow log entry 17 where R413 leaves the order
open. -/
def Obligations.SupplyWritesComplete : Prop :=
  (∀ (s : State) (f : FeedId) (w : RegW), Lands .ABT_FCTL f.val (RegW.with1 w 4) s →
    F.ABT_FCTL_EN.get (newOf s .ABT_FCTL f.val (RegW.with1 w 4)) = 1 →
    switchable s f.val = true →
    Completes (exec (.select f w) s) fun t => t.abt.switch = some ⟨activeFeed s, f.val, 2⟩ ∧
      t.b F.ABT_STAT_SWITCHING 0 = true) ∧
  (∀ (s : State) (f : FeedId) (w : RegW), Lands .ABT_FCTL f.val (RegW.with1 w 2) s → w.val.getLsbD 2 = false →
    F.ABT_FCTL_EN.get (newOf s .ABT_FCTL f.val (RegW.with1 w 2)) = 1 → feedSt s f.val = 6 →
    Completes (exec (.restart f w) s) fun t => feedSt t f.val = 1 ∧ t.f F.ABT_FEED_RETRIES f.val = 0) ∧
  (∀ (s : State) (f : FeedId) (org : Origin), Lands .ABT_FCTL f.val (wordW org 1) s →
    Completes (exec (.feedEnableWrite f true org) s) fun t => t.b F.ABT_FCTL_EN f.val = true) ∧
  (∀ (s : State) (f : FeedId) (org : Origin), Lands .ABT_FCTL f.val (wordW org 0) s → s.b F.ABT_FCTL_EN f.val = true →
    (supplied s = false ∨ activeFeed s ≠ f.val → feedSt s f.val ≠ 7 →
      Completes (exec (.feedEnableWrite f false org) s) fun t => t.b F.ABT_FCTL_EN f.val = false ∧ feedSt t f.val = 0 ∧
        t.f F.ABT_FEED_LASTOFF f.val = 6) ∧
    (supplied s = true → activeFeed s = f.val →
      Completes (exec (.feedEnableWrite f false org) s) fun t => t.b F.ABT_FCTL_EN f.val = true)) ∧
  (∀ (s : State) (org : Origin), Lands .ABT_VMIN 0 (wordW org (2 ^ 31)) s →
    Completes (exec (.vminClear org) s) fun t => t.f F.ABT_VMIN_VMIN 0 = 0xFFFF) ∧
  (∀ (s : State) (reset : Bool) (w : RegW), Lands (if reset then .ABT_VTHR1 else .ABT_VTHR0) 0 w s →
    let r := if reset then Reg.ABT_VTHR1 else .ABT_VTHR0
    let u := s.wr r 0 (newOf s r 0 w)
    (resetU u < warnU u → resetU u < reduceU u →
      Completes (exec (.thresholdWrite reset w) s) fun t => t.rd r 0 = newOf s r 0 w) ∧
    (warnU u ≤ resetU u ∨ reduceU u ≤ resetU u →
      Completes (exec (.thresholdWrite reset w) s) fun t => t.rd r 0 = s.rd r 0)) ∧
  (∀ (s : State) (w : RegW), Lands .GLB_THERM 0 w s →
    let new := newOf s .GLB_THERM 0 w
    let reduce := max 70 (min 104 (F.GLB_THERM_REDUCE_T.get new))
    (F.GLB_THERM_WARN_T.get new ≤ reduce →
      Completes (exec (.thermalThresholdWrite w) s) fun t => t.rd .GLB_THERM 0 = new) ∧
    (reduce < F.GLB_THERM_WARN_T.get new →
      Completes (exec (.thermalThresholdWrite w) s) fun t => t.rd .GLB_THERM 0 = s.rd .GLB_THERM 0)) ∧
  (∀ (s : State) (d : DomId) (w : RegW), Lands .PWD_CTL d.val (RegW.with1 w 1) s → w.val.getLsbD 1 = false →
    domRefusal s d.val true false = 0 → domState s d.val = 0 →
    Completes (exec (.domainOnRequest d w) s) fun t => domState t d.val = 1 ∧ t.f F.PWD_STAT_FAULT d.val = 0 ∧
      t.f F.PWD_STAT_CYCLES d.val = min (2 ^ F.PWD_STAT_CYCLES.width - 1) (s.f F.PWD_STAT_CYCLES d.val + 1)) ∧
  (∀ (s : State) (d : DomId) (w : RegW), Lands .PWD_CTL d.val (RegW.with1 w 1) s → w.val.getLsbD 1 = false →
    domRefusal s d.val true false ≠ 0 →
    Completes (exec (.domainOnRequest d w) s) fun t =>
      t.f F.PWD_STAT_LASTERR d.val = domRefusal s d.val true false ∧ domState t d.val = domState s d.val) ∧
  (∀ (s : State) (d : DomId) (w : RegW), Lands .PWD_CTL d.val (RegW.with1 w 2) s → w.val.getLsbD 0 = false →
    domRefusal s d.val false true = 0 → domState s d.val = 4 →
    Completes (exec (.domainOffRequest d w) s) fun t => domState t d.val = 5) ∧
  (∀ (s : State) (d : DomId) (w : RegW), Lands .PWD_CTL d.val (RegW.with1 w 2) s → w.val.getLsbD 0 = false →
    domRefusal s d.val false true ≠ 0 →
    Completes (exec (.domainOffRequest d w) s) fun t =>
      t.f F.PWD_STAT_LASTERR d.val = domRefusal s d.val false true ∧ domState t d.val = domState s d.val) ∧
  (∀ (s : State) (d : DomId) (w : RegW), Lands .PWD_CTL d.val (RegW.with1 w 1) s → w.val.getLsbD 1 = true →
    Completes (exec (.domainOnRequest d w) s) fun t => t.f F.PWD_STAT_LASTERR d.val = 5 ∧ domState t d.val = domState s d.val)

/-- PROVISION, REVOKE, STAGE_ERASE and STAGE_WRITE, where the write lands from a privileged origin (R425, R428 to R430): the
authorisation's slot is PROVISIONED with its key's hash, or REVOKED, and AUTHERR says 0; an attempt that fails its checks
leaves the slot and its code; a stage copy that did not boot is erased or programmed, and KEY_STGADDR rises by 4. -/
def Obligations.KeystoneWritesComplete : Prop :=
  (∀ (s : State) (org : Origin), Lands .KEY_CMD 0 (wordW org 1) s → privileged s org = true → provisionCheck s = 0 →
    Completes (exec (.provision org) s) fun t => slotState t (authTarget s) = 1 ∧ t.f F.KEY_STAT_AUTHERR 0 = 0 ∧
      ∀ i < 12, t.rd .KEY_SLOTHASH (12 * authTarget s + i) =
        BitVec.ofNat 32 (leNum (((authPart s 48 48).drop (4 * i)).take 4))) ∧
  (∀ (s : State) (org : Origin), Lands .KEY_CMD 0 (wordW org 1) s → privileged s org = true → provisionCheck s ≠ 0 →
    Completes (exec (.provision org) s) fun t => t.f F.KEY_STAT_AUTHERR 0 = provisionCheck s ∧
      (∀ k < 4, slotState t k = slotState s k)) ∧
  (∀ (s : State) (org : Origin), Lands .KEY_CMD 0 (wordW org 2) s → privileged s org = true → revokeCheck s = 0 →
    Completes (exec (.revoke org) s) fun t => slotState t (authTarget s) = 2 ∧ t.f F.KEY_STAT_AUTHERR 0 = 0) ∧
  (∀ (s : State) (copy : Bool) (org : Origin), Lands .KEY_CMD 0 (wordW org (3 + 256 * copy.toNat)) s →
    privileged s org = true → stageOpen s = true → s.key.booted ≠ some copy.toNat →
    Completes (exec (.stageErase copy org) s) fun t => stageBank t copy.toNat = Bank.erased ∧ t.f F.KEY_STAT_AUTHERR 0 = 0) ∧
  (∀ (s : State) (copy : Bool) (org : Origin), Lands .KEY_CMD 0 (wordW org (3 + 256 * copy.toNat)) s →
    privileged s org = true → s.key.booted = some copy.toNat →
    Completes (exec (.stageErase copy org) s) fun t =>
      stageBank t copy.toNat = stageBank s copy.toNat ∧ t.f F.KEY_STAT_AUTHERR 0 = 9) ∧
  (∀ (s : State) (w : RegW), Lands .KEY_STGDATA 0 w s → privileged s w.org = true → stageOpen s = true →
    let a := (s.rd .KEY_STGADDR 0).toNat % 2 ^ 24
    a < 0x800000 → s.key.booted ≠ some (a / 0x400000) →
    Completes (exec (.stageWrite w) s) fun t => stageBank t (a / 0x400000) =
        (stageBank s (a / 0x400000)).program (a % 0x400000) (leBytes (w.val ||| ~~~(beBits w.be)).toNat 4) ∧
      (t.rd .KEY_STGADDR 0).toNat = (a + 4) % 2 ^ 24 ∧ t.f F.KEY_STAT_AUTHERR 0 = 0)

/-- The calibration rows move a visit through its phases (R63 to R66, Table SPAN-6): it starts at phase 1 with the spare on
loan, is at phase 2 once the spare has locked, judges the new coefficients, hands the lane back with CAL_DONE, and is abandoned
at phase 1 without an answer. The link-state and lane rows (R64, R66, R72, R87 to R94, Tables SPAN-6 and FLO-13). At an agreed
flit index the spare takes a failed lane's data (and at the transmitter the failed lane is driven no more), a lane goes on loan
to the spare and comes back, a direction takes its new lanes, or the port its new rate. When the pattern of a visit ends, and
training of a narrow port, are log entries 74 and 75's choices. -/
def Obligations.CalibrationComplete : Prop :=
  (∀ (s : State) (sp : SpanId), On s → isFloing s (4 * govSpan s sp.val) = true → flSt s (govSpan s sp.val) = 3 →
    s.b F.SPN_CALCTL_CAL_EN sp.val = true → role s sp.val 8 = 1 → phase s sp.val = 0 → (∃ l < 8, role s sp.val l = 0) →
    Completes (exec (.calibrationVisitStart sp) s) fun t =>
      phase t sp.val = 1 ∧ role t sp.val 8 = 2 ∧ role s sp.val (calLane t sp.val) = 0) ∧
  (∀ (s : State) (sp : SpanId), On s → phase s sp.val = 1 → (visit s sp.val).acked = true →
    Completes (exec (.calSpareLocked sp) s) fun t => phase t sp.val = 2 ∧ Only [.fl] [.SPN_CALSTAT] s t) ∧
  (∀ (s : State) (sp : SpanId) (coef : Word) (clean : Bool), On s → phase s sp.val = 3 →
    Completes (exec (.calWindowEnd sp coef clean) s) fun t =>
      phase t sp.val = 4 ∧ t.rd .SPN_COEF (9 * sp.val + calLane s sp.val) =
        (if clean = true ∧ F.SPN_COEF_EYE.get (visit s sp.val).saved ≤ F.SPN_COEF_EYE.get coef then coef
         else (visit s sp.val).saved) ∧ Only [] [.SPN_COEF, .SPN_CALSTAT] s t) ∧
  (∀ (s : State) (sp : SpanId), On s → phase s sp.val = 4 → flUp s (govSpan s sp.val) = true →
    Completes (exec (.calLaneRelocked sp) s) fun t => Only [.fl] [] s t ∧
      ∃ m, (fl t (govSpan s sp.val)).fwQ = (fl s (govSpan s sp.val)).fwQ ++ [m] ∧ m.ty = 0x13 ∧ m.span.val = sp.val ∧
        m.lane = laneId (calLane s sp.val)) ∧
  (∀ (s : State) (sp : SpanId), On s → phase s sp.val = 1 → (visit s sp.val).acked = false →
    (visit s sp.val).aborted = false →
    Completes (exec (.calAckTimeout sp) s) fun t =>
      phase t sp.val = 0 ∧ t.b F.SPN_CALSTAT_ABORT sp.val = true ∧ role t sp.val 8 = 1 ∧
        t.rd .SPN_COEF (9 * sp.val + calLane s sp.val) = (visit s sp.val).saved) ∧
  (∀ (s : State) (g : SpanId) (a : Agreed), On s → flHas s g.val = true → flUp s g.val = true →
    dueChange s g.val true = some a → a.lane < 8 →
    (a.kind = 0 → Completes (exec (.agreedFlitIndexReached g true) s) fun t => role t a.span 8 = 4 ∧
      t.f F.SPN_LANE_MAPPED (9 * a.span + 8) = a.lane ∧ (fl t g.val).nakDue = true) ∧
    (a.kind = 1 → Completes (exec (.agreedFlitIndexReached g true) s) fun t => role t a.span 8 = 3 ∧ role t a.span a.lane = 6 ∧
      phase t a.span = 3) ∧
    (a.kind = 2 → (visit s a.span).rcl = none → Completes (exec (.agreedFlitIndexReached g true) s) fun t =>
      role t a.span 8 = 1 ∧ role t a.span a.lane = 0 ∧ phase t a.span = 0)) ∧
  (∀ (s : State) (g : SpanId) (a : Agreed), On s → flHas s g.val = true → flUp s g.val = true →
    dueChange s g.val false = some a →
    (a.kind = 0 → Completes (exec (.agreedFlitIndexReached g false) s) fun t => Only [.fl] [] s t ∧
      (visit t a.span).txSpare = some a.lane ∧ (visit t a.span).txLane = none) ∧
    (a.kind = 1 → Completes (exec (.agreedFlitIndexReached g false) s) fun t => Only [.fl] [] s t ∧
      (visit t a.span).txPattern = true ∧ (visit t a.span).txSwapped = true) ∧
    (a.kind = 2 → Completes (exec (.agreedFlitIndexReached g false) s) fun t => Only [.fl] [] s t ∧
      (visit t a.span).txPattern = false ∧ (visit t a.span).txSwapped = false ∧ (visit t a.span).txLane = none) ∧
    (a.kind = 5 → Completes (exec (.agreedFlitIndexReached g false) s) fun t => Only [.fl] [] s t ∧
      (visit t a.span).txPattern = false)) ∧
  (∀ (s : State) (g : SpanId) (rx : Bool) (a : Agreed), On s → flHas s g.val = true → flUp s g.val = true →
    dueChange s g.val rx = some a →
    (a.kind = 3 → (∃ b ∈ (fl s g.val).agreed.erase a, b.kind = 3) →
      Completes (exec (.agreedFlitIndexReached g rx) s) fun t => if rx then (fl t g.val).rxMap = a.map ∧ (fl t g.val).rxSp = a.span
        else (fl t g.val).txMap = a.map ∧ (fl t g.val).txSp = a.span) ∧
    (a.kind = 4 → (∀ r ∈ (fl s g.val).reqs, r.msg.ty ≠ 0x30) → (∀ b ∈ (fl s g.val).agreed.erase a, b.kind ≠ 4) →
      Completes (exec (.agreedFlitIndexReached g rx) s) fun t => t.f F.SPN_PSTAT_RATE (flPort g.val) = flRate s g.val)) ∧
  (∀ (s : State) (sp : SpanId) (l : Fin 8), On s → isFloing s (4 * govSpan s sp.val) = true →
    flUp s (govSpan s sp.val) = true → role s sp.val l.val ≠ 5 → role s sp.val l.val ≠ 7 →
    Completes (exec (.laneFailure sp l) s) fun t => role t sp.val l.val = 5 ∧
      t.bitf F.SPN_FLSTAT_RX_FAILED sp.val l.val = true) ∧
  (∀ (s : State) (sp : SpanId), On s → isFloing s (4 * govSpan s sp.val) = true → role s sp.val 8 ≠ 5 →
    role s sp.val 8 ≠ 7 →
    Completes (exec (.spareFailure sp) s) fun t => role t sp.val 8 = 5 ∧ t.b F.SPN_FLSTAT_SPARE_FAIL (govSpan s sp.val) = true ∧
      phase t sp.val = 0) ∧
  (∀ (s : State) (g : SpanId), On s → flHas s g.val = true → flSt s g.val = 0 →
    s.b F.SPN_FLSTAT_PEERERR g.val = false →
    Completes (exec (.floingDownTimer g) s) fun t => flSt t g.val = 1 ∧ Only [] [.SPN_FLSTAT] s t) ∧
  (∀ (s : State) (g : SpanId) (pol : List (SpanId × LaneId)) (reversed : Bool), On s → flHas s g.val = true →
    flSt s g.val = 1 → phyOn s (flPort g.val) = true → (reversed = true → s.bitf F.SPN_CTL_REVERSE_EN g.val 0 = true) →
    Completes (exec (.floingTrainingDone g [] pol reversed) s) fun t => flSt t g.val = 2 ∧
      t.f F.SPN_PSTAT_WIDTH (flPort g.val) = (if form s g.val = 6 then 5 else 4) ∧
      t.b F.SPN_PSTAT_REVERSED (flPort g.val) = reversed ∧ ∃ m, (fl t g.val).fwQ = [m] ∧ m.ty = 0x01) ∧
  (∀ (s : State) (g : SpanId), On s → flHas s g.val = true → flSt s g.val = 1 →
    Completes (exec (.floingTrainingTimeout g) s) fun t => flSt t g.val = 0 ∧ Only [] [.SPN_FLSTAT] s t) ∧
  (∀ (s : State) (g : SpanId), On s → flHas s g.val = true → flSt s g.val = 5 → (fl s g.val).relock = true →
    awaits (fl s g.val) 0x30 4 = false → rxBroken s g.val = false → (fl s g.val).cap64 = ownCap64 s g.val →
    Completes (exec (.rateChangeComplete g) s) fun t => flSt t g.val = 3 ∧ t.f F.SPN_PSTAT_LTSSM (flPort g.val) = 0x0C ∧
      (fl t g.val).relock = false) ∧
  (∀ (s : State) (g : SpanId), On s → flHas s g.val = true → flUp s g.val = true →
    Completes (exec (.linkLockLoss g) s) fun t => flSt t g.val = 0 ∧ t.f F.SPN_FLCNT_LAST_DOWN g.val = 1)

/-- FLIT_SEND, FLIT_RECEIVED and the timers of a running Floing link (R69, R72, R80 to R86): a flit time passes and a flit
goes, its 256 bytes those of Tables FLO-2 to FLO-4 with its CRC and check symbols; a received flit that the FEC does not mend,
or that fails its CRC, makes the receiver NAK-pending; the flit expected advances E, whatever acknowledgement, NAK and credit
it carries and whichever symbols were corrected; the ACK timer acknowledges what was accepted and lets credit go; the NAK timer
asks for a NAK; the replay timeout starts a replay from P + 1, and the fourth takes the link down. The check bytes of a flit
are free (log entry 72); what a NAK does to the counts is log entry 76's choice. -/
def Obligations.FlitsComplete : Prop :=
  (∀ (s : State) (g : SpanId), On s → flHas s g.val = true → flUp s g.val = true →
    Completes (exec (.flitSend g) s) fun t => (fl t g.val).txIdx = ((fl s g.val).txIdx + 1) % 2 ^ 24 ∧
      (fl t g.val).nakDue = false ∧ ∃ x, (fl t g.val).lastFlit = some x ∧ (fl t g.val).lastWire = wireOf (flitBody x) ∧
        x.nak = (fl s g.val).nakDue ∧ x.ack.val = t.f F.SPN_FLSEQRX_RX_ACK g.val) ∧
  (∀ (s : State) (g : SpanId) (raw : List Byte) (args : FwMsg) (tlp : Option Tlp), On s → flHas s g.val = true →
    flUp s g.val = true → fixFlit raw = none →
    Completes (exec (.flitReceived g raw args tlp) s) fun t => (fl t g.val).nakPend = true ∧
      (fl t g.val).rxIdx = ((fl s g.val).rxIdx + 1) % 2 ^ 24 ∧ Only [.fl] [] s t) ∧
  (∀ (s : State) (g : SpanId) (raw body : List Byte) (wrong : List Nat) (args : FwMsg) (tlp : Option Tlp) (x : Flit) (d : FlitData),
    On s → flHas s g.val = true → flUp s g.val = true → fixFlit raw = some (body, wrong) →
    (∀ i ∈ wrong, s.f F.SPN_FLTHR_ERR_THR ((rxLanes s g.val).getD (i % (rxLanes s g.val).length) 0 / 9) = 0) →
    readFlit body args = x → x.null = false → x.data = some d → x.fw = none → mod12 x.ack.val (txP s g.val) ≤ flOut s g.val →
    x.seq.val = rxE s g.val →
    Completes (exec (.flitReceived g raw args tlp) s) fun t => rxE t g.val = (rxE s g.val + 1) % 4096 ∧
      (fl t g.val).nakPend = false ∧ (fl t g.val).rxIdx = ((fl s g.val).rxIdx + 1) % 2 ^ 24) ∧
  (∀ (s : State) (g : SpanId), On s → flHas s g.val = true → flUp s g.val = true →
    Completes (exec (.ackTimerExpiry g) s) fun t => (fl t g.val).crForce = true ∧
      t.f F.SPN_FLSEQRX_RX_ACK g.val = (if 0 < (fl s g.val).accSince then mod12 (rxE s g.val) 1
        else s.f F.SPN_FLSEQRX_RX_ACK g.val) ∧ Only [.fl] [.SPN_FLSEQRX] s t) ∧
  (∀ (s : State) (g : SpanId), On s → flHas s g.val = true → flUp s g.val = true → (fl s g.val).nakPend = true →
    Completes (exec (.nakTimerExpiry g) s) fun t => fl t g.val = { fl s g.val with nakDue := true } ∧ Only [.fl] [] s t) ∧
  (∀ (s : State) (g : SpanId), On s → flHas s g.val = true → flUp s g.val = true → flOut s g.val ≠ 0 →
    ((fl s g.val).toRun < 3 → Completes (exec (.replayTimeout g) s) fun t =>
      (fl t g.val).r = some ((txP s g.val + 1) % 4096) ∧ (fl t g.val).toRun = (fl s g.val).toRun + 1) ∧
    (3 ≤ (fl s g.val).toRun → Completes (exec (.replayTimeout g) s) fun t =>
      flSt t g.val = 0 ∧ t.f F.SPN_FLCNT_LAST_DOWN g.val = 3)) ∧
  (∀ (s : State) (g : SpanId) (r : FwReq), On s → flHas s g.val = true → (fl s g.val).reqs = [r] → r.sends < 8 →
    Completes (exec (.footwayRepeat g) s) fun t => ∃ m, (fl t g.val).fwQ = (fl s g.val).fwQ ++ [m] ∧ m.ty = r.msg.ty ∧
      (fl t g.val).reqs = [⟨m, r.sends + 1⟩] ∧ Only [.fl] [] s t)

/-- Each footway message acts as Table FLO-6 says on a port that has not seen it (R74, R75, R88, R91 to R93). -/
def Obligations.FootwayComplete : Prop :=
  (∀ (s : State) (g : SpanId) (m : FwMsg), NewMsg s g.val 0x01 m → flSt s (govSpan s g.val) = 2 →
    (m.fabric = s.f F.GLB_FABID_FABRIC 0 → m.sy = true →
      Completes (exec (.linkParam g m) s) fun t => (fl t (govSpan s g.val)).pFabric = m.fabric ∧
        (fl t (govSpan s g.val)).pCap64 = m.cap64 ∧ (fl t (govSpan s g.val)).pAlloc = m.alloc.map allocActs ∧
        flSt t (govSpan s g.val) = (if (fl s (govSpan s g.val)).gotAck then 3 else 2)) ∧
    (m.fabric ≠ s.f F.GLB_FABID_FABRIC 0 ∨ m.sy = false →
      Completes (exec (.linkParam g m) s) fun t => flSt t (govSpan s g.val) = 0 ∧
        t.b F.SPN_FLSTAT_PEERERR (govSpan s g.val) = true ∧ t.f F.SPN_FLCNT_LAST_DOWN (govSpan s g.val) = 6)) ∧
  (∀ (s : State) (g : SpanId) (m : FwMsg), NewMsg s g.val 0x02 m → flSt s (govSpan s g.val) = 2 →
    (∃ r ∈ (fl s (govSpan s g.val)).reqs, r.msg.ty = 0x01 ∧ r.msg.id = m.id) →
    Completes (exec (.linkParamAck g m) s) fun t =>
      ((fl s (govSpan s g.val)).gotParam = false → (fl t (govSpan s g.val)).gotAck = true ∧ flSt t (govSpan s g.val) = 2) ∧
      ((fl s (govSpan s g.val)).gotParam = true → flSt t (govSpan s g.val) = 3)) ∧
  (∀ (s : State) (g : SpanId) (m : FwMsg), NewMsg s g.val 0x10 m →
    Completes (exec (.calReq g m) s) fun t => (visit t m.span.val).txLane = some m.lane.val ∧
      (visit t m.span.val).txPattern = false ∧ Only [.fl] [] s t ∧
      ∃ a, (fl t (govSpan s g.val)).fwQ = (fl s (govSpan s g.val)).fwQ ++ [a] ∧ a.ty = 0x11 ∧ a.id = m.id) ∧
  (∀ (s : State) (g : SpanId) (m : FwMsg), NewMsg s g.val 0x11 m → phase s m.span.val = 1 →
    calLane s m.span.val = m.lane.val →
    Completes (exec (.calAck g m) s) fun t => (visit t m.span.val).acked = true ∧ Only [.fl] [] s t) ∧
  (∀ (s : State) (g : SpanId) (m : FwMsg), NewMsg s g.val 0x12 m →
    Completes (exec (.calSwap g m) s) fun t => Only [.fl] [] s t ∧ (fl t (govSpan s g.val)).agreed =
      (fl s (govSpan s g.val)).agreed ++ [⟨false, m.findex, 1, m.lane.val, [], 0, 0, m.span.val⟩]) ∧
  (∀ (s : State) (g : SpanId) (m : FwMsg), NewMsg s g.val 0x13 m →
    Completes (exec (.calDone g m) s) fun t => Only [.fl] [] s t ∧ (fl t (govSpan s g.val)).agreed =
      (fl s (govSpan s g.val)).agreed ++ [⟨false, m.findex, 2, m.lane.val, [], 0, 0, m.span.val⟩]) ∧
  (∀ (s : State) (g : SpanId) (m : FwMsg), NewMsg s g.val 0x14 m →
    Completes (exec (.calAbort g m) s) fun t => Only [.fl] [] s t ∧
      ((visit s m.span.val).txSwapped = false → (visit t m.span.val).txLane = none) ∧
      ((visit s m.span.val).txSwapped = true →
        visit t m.span.val = { visit s m.span.val with txPattern := false })) ∧
  (∀ (s : State) (g : SpanId) (m : FwMsg), NewMsg s g.val 0x20 m →
    (m.findex + 2 ^ 24 - (fl s (govSpan s g.val)).txIdx) % 2 ^ 24 < 2 ^ 23 →
    Completes (exec (.laneSwap g m) s) fun t => t.bitf F.SPN_FLSTAT_TX_FAILED m.span.val m.lane.val = true ∧
      (visit t m.span.val).txLane = some m.lane.val ∧ Only [.fl] [.SPN_FLSTAT] s t) ∧
  (∀ (s : State) (g : SpanId) (m : FwMsg), NewMsg s g.val 0x21 m →
    (∃ r ∈ (fl s (govSpan s g.val)).reqs, r.msg.ty = 0x20 ∧ r.msg.span = m.span ∧ r.msg.lane = m.lane) →
    Completes (exec (.laneSwapAck g m) s) fun t => Only [.fl] [] s t ∧ (fl t (govSpan s g.val)).agreed =
      (fl s (govSpan s g.val)).agreed ++ [⟨true, m.findex, 0, m.lane.val, [], 0, 0, m.span.val⟩]) ∧
  (∀ (s : State) (g : SpanId) (m : FwMsg), NewMsg s g.val 0x22 m → flUp s (govSpan s g.val) = true →
    ((∀ r ∈ (fl s (govSpan s g.val)).reqs, r.msg.ty = 0x22 → m.width ≤ r.msg.width) →
      Completes (exec (.widthChg g m) s) fun t => flSt t (govSpan s g.val) =
        (if (pickSet s (govSpan s g.val) m.width).isSome then 4 else 0)) ∧
    ((∃ r ∈ (fl s (govSpan s g.val)).reqs, r.msg.ty = 0x22 ∧ r.msg.width < m.width) →
      Completes (exec (.widthChg g m) s) fun t => Only [.fl] [] s t ∧
        (fl t (govSpan s g.val)).agreed = (fl s (govSpan s g.val)).agreed)) ∧
  (∀ (s : State) (g : SpanId) (m : FwMsg) (r : FwReq), NewMsg s g.val 0x23 m →
    (fl s (govSpan s g.val)).reqs.find? (fun (r : FwReq) => r.msg.ty == 0x22 && r.msg.id == m.id) = some r →
    Completes (exec (.widthChgAck g m) s) fun t => Only [.fl] [] s t ∧
      (fl t (govSpan s g.val)).reqs = (fl s (govSpan s g.val)).reqs.erase r ∧ (fl t (govSpan s g.val)).agreed =
      (fl s (govSpan s g.val)).agreed ++ [⟨true, r.msg.findex, 3, 0, r.msg.map, r.msg.width, 0, r.msg.span.val⟩,
        ⟨false, m.findex, 3, 0, m.map, r.msg.width, 0, m.span.val⟩]) ∧
  (∀ (s : State) (g : SpanId) (m : FwMsg), NewMsg s g.val 0x30 m → flUp s (govSpan s g.val) = true →
    Completes (exec (.rateChg g m) s) fun t => (fl t (govSpan s g.val)).pCap64 = m.cap64 ∧
      flSt t (govSpan s g.val) = (if flSt s (govSpan s g.val) = 4 then 4 else 5)) ∧
  (∀ (s : State) (g : SpanId) (m : FwMsg) (r : FwReq), NewMsg s g.val 0x31 m →
    (fl s (govSpan s g.val)).reqs.find? (fun (r : FwReq) => r.msg.ty == 0x30 && r.msg.id == m.id) = some r →
    Completes (exec (.rateChgAck g m) s) fun t => Only [.fl] [] s t ∧
      (fl t (govSpan s g.val)).reqs = (fl s (govSpan s g.val)).reqs.erase r ∧ (fl t (govSpan s g.val)).agreed =
      (fl s (govSpan s g.val)).agreed ++ [⟨true, r.msg.findex, 4, 0, [], 0, 0, govSpan s g.val⟩,
        ⟨false, r.msg.findex, 4, 0, [], 0, 0, govSpan s g.val⟩]) ∧
  (∀ (s : State) (g : SpanId) (m : FwMsg) (d : Nat), NewMsg s g.val 0x40 m →
    dutyFind s (govSpan s g.val / 4) 1 (flPort (govSpan s g.val)) = some d →
    Completes (exec (.engine g m) s) fun t =>
      Has t ⟨govSpan s g.val / 4, d, .footway (flPort (govSpan s g.val)) m.bytes⟩)

/-- DECK_CELL_TIME, TLP_COPY_RECEIVED, DECK_ACK, DECK_NAK and DECK_ACK_TIMEOUT (R97, R100, R107 to R110, R118): a cell time
passes; a copy that is complete is answered on a live plane, NAK where one of its words cannot be corrected, which counts at
the plane that carried it and fails that plane at its threshold; an answer ends a TLP or has it sent again, and so does want of
one, which at the eighth time in succession fails the plane. FLOW_DRAIN_END, PLANE_DRAINED and PLANE_FAILURE (R113, R117 to
R119): the flows of a stopped port start again at SEQ 0; an empty DRAINING plane is FENCED; a plane that fails leaves every
plane map while another plane lives. The code of a control word and the order of symbols are log entry 77's, what the counts
start from log entry 78's. -/
def Obligations.CopiesComplete : Prop :=
  (∀ s : State, On s → Completes (exec .deckCellTime s) fun t =>
    t.deck.ctime = s.deck.ctime + 1 ∧ t.deck.infl = s.deck.infl ∧ t.deck.sf = s.deck.sf ∧ t.deck.rf = s.deck.rf) ∧
  (∀ (s : State) (src dst : PierId) (h : Fin 262144) (hits : List CellHit) (x : InFlight), On s →
    InFlightAt s src.val dst.val h.val x → Arrived s src.val dst.val h.val x → livePlanes s ≠ [] →
    ((∃ y ∈ hits, y.cell.val < x.cells ∧ hitOutcome y = .uncorrectable) → (∀ a ∈ (SMap.get Reasm.init s.deck.got (inflKey src.val dst.val h.val)).cells, s.f F.DCK_THR_UNC_THR a.plane = 0) →
      Completes (exec (.tlpCopyReceived src dst h hits) s) fun t =>
        Answered s t src.val dst.val h.val false ∧ t.deck.rf = s.deck.rf ∧ t.ports.q = s.ports.q) ∧
    ((∀ y ∈ hits, y.cell.val < x.cells → hitOutcome y ≠ .uncorrectable) → copyCheck s x ≠ 2 →
      Completes (exec (.tlpCopyReceived src dst h hits) s) fun t => Answered s t src.val dst.val h.val true) ∧
    ((∀ y ∈ hits, y.cell.val < x.cells → hitOutcome y ≠ .uncorrectable) → copyCheck s x = 2 →
      Completes (exec (.tlpCopyReceived src dst h hits) s) fun t =>
        t.deck.answers = s.deck.answers ∧ t.deck.rf = s.deck.rf ∧ t.f F.PIR_DKSTAT_BADSEQ x.dst =
          min (2 ^ F.PIR_DKSTAT_BADSEQ.width - 1) (s.f F.PIR_DKSTAT_BADSEQ x.dst + 1))) ∧
  (∀ (s : State) (src dst : PierId) (h : Fin 262144) (y : CellHit) (a : Arrival) (x : InFlight), On s →
    InFlightAt s src.val dst.val h.val x → Arrived s src.val dst.val h.val x → y.cell.val < x.cells →
    (SMap.get Reasm.init s.deck.got (inflKey src.val dst.val h.val)).cells.find? (fun b => b.index == y.cell.val) = some a →
    (hitOutcome y = .corrected →
      Completes (exec (.tlpCopyReceived src dst h [y]) s) fun t =>
        t.f F.DCK_ERR_CORR a.plane = min (2 ^ F.DCK_ERR_CORR.width - 1) (s.f F.DCK_ERR_CORR a.plane + 1)) ∧
    (hitOutcome y = .uncorrectable → s.f F.DCK_THR_UNC_THR a.plane = 1 → planeSt s a.plane = 0 ∨ planeSt s a.plane = 1 →
      liveAfter s a.plane ≠ [] →
      Completes (exec (.tlpCopyReceived src dst h [y]) s) fun t =>
        planeSt t a.plane = 3 ∧ t.f F.DCK_STAT_CAUSE a.plane = 1 ∧
          t.f F.DCK_ERR_UNCORR a.plane = min (2 ^ F.DCK_ERR_UNCORR.width - 1) (s.f F.DCK_ERR_UNCORR a.plane + 1))) ∧
  (∀ (s : State) (src dst : PierId) (h : Fin 262144) (x : InFlight) (a : Answer), On s →
    InFlightAt s src.val dst.val h.val x → answerFor s src.val dst.val h.val true = some a → SMap.get [] s.deck.wait src.val = [] →
    Completes (exec (.deckAck src dst h) s) fun t =>
      inflight t src.val dst.val h.val = none ∧ t.deck.answers = s.deck.answers.erase a) ∧
  (∀ (s : State) (src dst : PierId) (h : Fin 262144) (x : InFlight) (a : Answer), On s →
    InFlightAt s src.val dst.val h.val x → answerFor s src.val dst.val h.val false = some a → x.sends < 9 →
    Completes (exec (.deckNak src dst h) s) fun t =>
      inflight t src.val dst.val h.val = some { x with sends := x.sends + 1, planes := planesFor s x.c } ∧
        t.deck.answers = s.deck.answers.erase a ∧
        t.f F.PIR_DKSTAT_RESENDS src.val = min (2 ^ F.PIR_DKSTAT_RESENDS.width - 1) (s.f F.PIR_DKSTAT_RESENDS src.val + 1)) ∧
  (∀ (s : State) (src dst : PierId) (h : Fin 262144) (x : InFlight), On s → InFlightAt s src.val dst.val h.val x →
    x.sends < 9 → (∀ m ∈ x.used, SMap.get 0 s.deck.ackRun m < 7) →
    Completes (exec (.deckAckTimeout src dst h) s) fun t =>
      inflight t src.val dst.val h.val = some { x with sends := x.sends + 1, planes := planesFor s x.c } ∧
        ∀ m ∈ x.used, SMap.get 0 t.deck.ackRun m = SMap.get 0 s.deck.ackRun m + 1) ∧
  (∀ (s : State) (src dst : PierId) (h : Fin 262144) (x : InFlight) (m : PlaneId), On s →
    InFlightAt s src.val dst.val h.val x → x.used = [m.val] → SMap.get 0 s.deck.ackRun m.val = 7 →
    planeSt s m.val = 0 ∨ planeSt s m.val = 1 → liveAfter s m.val ≠ [] →
    Completes (exec (.deckAckTimeout src dst h) s) fun t => planeSt t m.val = 3 ∧ t.f F.DCK_STAT_CAUSE m.val = 3) ∧
  (∀ (s : State) (p : PortId), On s → p.val ∈ s.deck.stopped →
    (∀ n, ∀ c ∈ SMap.get [] s.deck.wait n, c.inP < 128 ∧ ∀ e ∈ c.targets, e < 128) →
    Completes (exec (.flowDrainEnd p) s) fun t => t.deck.stopped = s.deck.stopped.erase p.val ∧
      ∀ f, flowHas f p.val = true → SMap.get 0 t.deck.sf f = 0 ∧ SMap.get 0 t.deck.rf f = 0) ∧
  (∀ (s : State) (m : PlaneId), On s → planeSt s m.val = 1 →
    Completes (exec (.planeDrained m) s) fun t =>
      planeSt t m.val = (if planeBusy s m.val then 1 else 2) ∧ Only [] [.DCK_STAT] s t) ∧
  (∀ (s : State) (m : PlaneId) (cause : Fin 6), On s → planeSt s m.val = 0 ∨ planeSt s m.val = 1 → cause.val ≠ 0 →
    liveAfter s m.val ≠ [] →
    Completes (exec (.planeFailure m cause) s) fun t =>
      planeSt t m.val = 3 ∧ t.f F.DCK_STAT_CAUSE m.val = cause.val ∧
        ∀ n < 8, ∀ h < 64, pmapEntry t n h ≠ m.val ∧
          (pmapEntry s n h ≠ m.val → pmapEntry t n h = pmapEntry s n h))

/-- RETIREMENT_COPY_DONE, CHANNEL_FAILURE, LANDING_REQUEST, TAG_SET_DONE and LANDING_SCAN_DONE (R131, R132, R136, R138 to R143,
R147): each waits for its turn at its channels, and then leaves in the map, the channel, and landing memory what its rule says.
How many pages a TLP takes when none has room is log entry 80's choice. -/
def Obligations.LandingCompletes : Prop :=
  (∀ (s : State) (ch : ChanId) (blk : Nat), On s → ch.val * 2 ^ 25 + blk ∈ s.csn.copying →
    (granted s ch.val 4 = true → spareLeft s ch.val ≠ 0 →
      Completes (exec (.retirementCopyDone ch blk) s) fun t =>
        SMap.find? t.csn.remap (ch.val * 2 ^ 25 + blk) = some (sparesUsed s ch.val) ∧
          t.csn.copying = s.csn.copying.erase (ch.val * 2 ^ 25 + blk)) ∧
    (granted s ch.val 4 = true → spareLeft s ch.val = 0 → s.f F.CSN_CHSTAT_STATE ch.val ≠ 1 →
      Completes (exec (.retirementCopyDone ch blk) s) fun t =>
        t.f F.CSN_CHSTAT_STATE ch.val = 1 ∧ t.f F.CSN_CHSTAT_CAUSE ch.val = 5) ∧
    (granted s ch.val 4 = false →
      Completes (exec (.retirementCopyDone ch blk) s) fun t =>
        t.csn.copying = s.csn.copying ∧ t.csn.remap = s.csn.remap ∧ Only [.csn] [] s t)) ∧
  (∀ (s : State) (ch : ChanId) (cause : Fin 7), On s → chanLive s ch.val = true ∨ s.f F.CSN_CHSTAT_STATE ch.val = 4 →
    s.f F.CSN_CHSTAT_STATE ch.val ≠ 1 → cause.val ≠ 0 →
    Completes (exec (.channelFailure ch cause) s) fun t =>
      t.f F.CSN_CHSTAT_STATE ch.val = 1 ∧ t.f F.CSN_CHSTAT_CAUSE ch.val = cause.val ∧
        (ch.val = 0 → t.b F.JNL_STAT_CH0_LOST 0 = true ∧ t.jrn.region = [])) ∧
  (∀ (s : State) (bad corr : List Nat) (r : LandReq) (rest : List LandReq), LandTurn s r rest →
    r.c.tlp.kind = .memWr → r.parts = [] → 0 < r.c.tlp.data.length → r.c.tlp.addr % 64 + r.c.tlp.data.length ≤ 64 →
    (landAvail s r.c.tlp.addr = true → keyMatches (tenantKey s r.c.tenant) (blockTag s r.c.tlp.addr) = true →
      r.c.tlp.data.length = 64 ∨ landBlk r ∉ bad →
      Completes (exec (.landingRequest bad corr) s) fun t => t.csn.landq = rest ∧
        landRdN t r.c.tlp.addr r.c.tlp.data.length = r.c.tlp.data ∧ t.csn.tag = s.csn.tag ∧
        SMap.get false t.csn.poison (landBlk r) = r.c.tlp.ep ∧
        (∀ a, a / 64 ≠ landBlk r → landRd t a = landRd s a) ∧
        (s.csn.scanKeys = [] → ∀ a, a < r.c.tlp.addr ∨ r.c.tlp.addr + r.c.tlp.data.length ≤ a → landRd t a = landRd s a)) ∧
    (landAvail s r.c.tlp.addr = true → keyMatches (tenantKey s r.c.tenant) (blockTag s r.c.tlp.addr) = true →
      r.c.tlp.data.length < 64 → landBlk r ∈ bad → s.csn.scanKeys = [] →
      spareLeft s (landChan r.c.tlp.addr) ≠ 0 → s.f F.CSN_CHTHR_UNC_THR (landChan r.c.tlp.addr) = 0 →
      Completes (exec (.landingRequest bad corr) s) fun t => t.csn.landq = rest ∧
        landRdN t r.c.tlp.addr r.c.tlp.data.length = r.c.tlp.data ∧ SMap.get false t.csn.bad (landBlk r) = true ∧
        t.f F.CSN_CHERR_UNCORR (landChan r.c.tlp.addr) =
          min (2 ^ F.CSN_CHERR_UNCORR.width - 1) (s.f F.CSN_CHERR_UNCORR (landChan r.c.tlp.addr) + 1)) ∧
    (keyMatches (tenantKey s r.c.tenant) (blockTag s r.c.tlp.addr) = false →
      Completes (exec (.landingRequest bad corr) s) fun t => t.csn.landq = rest ∧ t.csn.mem = s.csn.mem)) ∧
  (∀ (s : State) (bad corr : List Nat) (r : LandReq) (rest : List LandReq), On s → s.csn.landq = r :: rest →
    s.mode.wiping = true ∨ landCopying s r = true ∨ landYields s r = true ∨ (∃ ch ∈ landChans r, granted s ch 2 = false) →
    Completes (exec (.landingRequest bad corr) s) fun t => t.csn.landq = s.csn.landq ∧ t.csn.mem = s.csn.mem ∧
      Only [.csn] [] s t) ∧
  (∀ (s : State) (base n tag : Nat), On s → s.csn.tagset = some (base, n, tag) →
    ((∀ ch < 8, chanLive s ch = true → granted s ch 4 = true) →
      Completes (exec .tagSetDone s) fun t => t.csn.tagset = none ∧ t.b F.CSN_TAGSTAT_BUSY 0 = false ∧
        t.f F.CSN_TAGSTAT_DONE 0 = n % 2 ^ F.CSN_TAGSTAT_DONE.width ∧ t.csn.mem = s.csn.mem ∧ t.csn.poison = s.csn.poison ∧
        (∀ b, SMap.get 0 t.csn.tag b = if base / 64 ≤ b ∧ b < base / 64 + n then tag else SMap.get 0 s.csn.tag b) ∧
        Only [.csn] [.CSN_TAGSTAT] s t) ∧
    ((∃ ch < 8, chanLive s ch = true ∧ granted s ch 4 = false) →
      Completes (exec .tagSetDone s) fun t => t.csn.tagset = s.csn.tagset ∧ t.csn.tag = s.csn.tag ∧ Only [.csn] [] s t)) ∧
  (∀ s : State, On s → s.csn.scanKeys ≠ [] →
    Completes (exec .landingScanDone s) fun t => t.csn.scanKeys = [] ∧ t.csn.tag = s.csn.tag ∧
      t.f F.CSN_STAT_LM_STATE 0 = (if s.f F.CSN_STAT_LM_STATE 0 = 2 then 0 else s.f F.CSN_STAT_LM_STATE 0) ∧
      ∀ a, landRd t a = if blockTag s a ≠ 0 ∧ blockTag s a ∈ s.csn.scanKeys ∧ a / 64 ∉ s.csn.scanned then 0 else landRd s a)

/-- EGRESS_TLP_BOUNDARY and FLOW_CONTROL_UPDATE (R153 to R155): the earliest express TLP with credit starts on the link;
without one the queue at the pointer sends once its deficit covers its candidate; returned credit is added. HELD_TLP_RETRY and
SPILL_READ_BACK (R124, R135, R159): a held TLP that a resource still lacks stays held, one for landing memory that nothing
holds back goes; the head of a spilled flow, in its turn at its channels (R136), leaves the pool for its ingress account. -/
def Obligations.EgressCompletes : Prop :=
  (∀ (s : State) (p : PortId) (k i : Nat) (e : QEnt), On s → isFloing s p.val = false → linkUp s p.val = true →
    carries s p.val = true → e.c.tlp.ep = false → e.c.mc = [] →
    expressPick s (candidate s p.val) = some (k, i, e) →
    Completes (exec (.egressTlpBoundary p) s) fun t => (t.port p.val).lastOut = some e.c.tlp ∧
      (∃ l, (egressQ t p.val k).map (·.c) = ((egressQ s p.val k).take i ++ (egressQ s p.val k).drop (i + 1)).map (·.c) ++ l) ∧
      (t.port p.val).cred = (s.port p.val).cred.spend e.c.tlp ∧ t.ports.deficit = s.ports.deficit) ∧
  (∀ (s : State) (p : PortId) (i : Nat) (e : QEnt), On s → isFloing s p.val = false → linkUp s p.val = true →
    carries s p.val = true → e.c.tlp.ep = false → e.c.mc = [] →
    expressPick s (candidate s p.val) = none →
    let k := (s.port p.val).ptr
    let have_ := (if (s.port p.val).fresh then quantum s p.val k else 0) + SMap.get 0 s.ports.deficit (8 * p.val + k)
    classOf s k ≠ 0 → eligible s p.val k = true → candidate s p.val k = some (i, e) → e.c.tlp.size ≤ have_ →
    Completes (exec (.egressTlpBoundary p) s) fun t => (t.port p.val).lastOut = some e.c.tlp ∧
      (∃ l, (egressQ t p.val k).map (·.c) = ((egressQ s p.val k).take i ++ (egressQ s p.val k).drop (i + 1)).map (·.c) ++ l) ∧
      SMap.get 0 t.ports.deficit (8 * p.val + k) = have_ - e.c.tlp.size ∧ (t.port p.val).fresh = false) ∧
  (∀ (s : State) (p : PortId) (r : LinkCredits), On s → isFloing s p.val = false → linkUp s p.val = true →
    Completes (exec (.flowControlUpdate p r) s) fun t =>
      t.port p.val = { s.port p.val with cred := (s.port p.val).cred.add r } ∧ Only [.ports] [] s t) ∧
  (∀ (s : State) (sp : SpanId) (cls : Fin 4) (h : Held) (w : HoldWhy), On s →
    SMap.get [] s.ports.hold (4 * sp.val + cls.val) = [h] →
    judge h { s with ports.hold := SMap.put [] s.ports.hold (4 * sp.val + cls.val) [] } = .error w →
    Completes (exec (.heldTlpRetry sp cls) s) fun t =>
      SMap.get [] t.ports.hold (4 * sp.val + cls.val) = [{ h with why := w }]) ∧
  (∀ (s : State) (sp : SpanId) (cls : Fin 4) (h : Held), On s →
    SMap.get [] s.ports.hold (4 * sp.val + cls.val) = [h] → h.c.outP = landPort → h.c.fab = none → h.inc = none →
    h.proxy = none → h.c.tlp.isCpl = false → tenantClosed s h.c.tenant = false → classOf s h.c.tlp.tc ≠ 0 →
    s.b F.PIR_TSCFG_EN (512 * pierOf h.c.inP + h.c.tenant) = false →
    Completes (exec (.heldTlpRetry sp cls) s) fun t =>
      SMap.get [] t.ports.hold (4 * sp.val + cls.val) = [] ∧ t.csn.landq = s.csn.landq ++ [⟨h.c, h.parts⟩]) ∧
  (∀ (s : State) (i e : PortId) (tc : Fin 8) (x : SpillFlow) (c : Carried) (rest : List Carried), On s → (∀ b, Quiet s b) →
    SMap.find? s.csn.flows (flowId i.val e.val tc.val) = some x → x.tlps = c :: rest → s.mode.wiping = false →
    (∀ b ∈ headBlocks s x c, b.1 * 2 ^ 25 + b.2 ∉ s.csn.copying) → backReady s x = true → backYields s x = false →
    (∀ ch ∈ backChans s x, granted s ch 2 = true) →
    c.mc = [] → pierOf c.inP ≠ pierOf c.outP → SMap.get [] s.deck.wait (pierOf c.inP) = [] → canSend s c = true →
    Completes (exec (.spillReadBack i e tc [] []) s) fun t =>
      (rest ≠ [] → ∃ y, SMap.find? t.csn.flows (flowId i.val e.val tc.val) = some y ∧ y.tlps = rest) ∧
      (rest = [] → flowHeld s (flowId i.val e.val tc.val) = false →
        SMap.find? t.csn.flows (flowId i.val e.val tc.val) = none) ∧
      ∃ h y, inflight t (pierOf c.inP) (pierOf c.outP) h = some y ∧ y.c = c ∧ y.sends = 1) ∧
  (∀ (s : State) (i e : PortId) (tc : Fin 8) (bad corr : List Nat) (x : SpillFlow) (c : Carried) (rest : List Carried), On s →
    SMap.find? s.csn.flows (flowId i.val e.val tc.val) = some x → x.tlps = c :: rest →
    s.mode.wiping = true ∨ (∃ b ∈ headBlocks s x c, b.1 * 2 ^ 25 + b.2 ∈ s.csn.copying) ∨ backReady s x = false ∨
      backYields s x = true ∨ (∃ ch ∈ backChans s x, granted s ch 2 = false) →
    Completes (exec (.spillReadBack i e tc bad corr) s) fun t => t.csn.flows = s.csn.flows ∧ Only [.csn] [] s t)

/-- DOMAIN_POWER_OFF_COMPLETE, DOMAIN_POWERED, DOMAIN_TEST_COMPLETE, DOMAIN_WIPE_COMPLETE and REGULATOR_FAULT move a domain
through Table MODE-9, and its unit with it (R412 to R415, Table MODE-7); a domain does not go off while an access is still
inside a joint of it (R36). PIER_CLOSURE and PIER_SELF_TEST_DONE (R267): a pier that runs closes, with its domains on their way
off; a closed pier that passes its self-test with both domains on runs again, one that fails stays closed. -/
def Obligations.DomainsComplete : Prop :=
  (∀ (s : State) (d : DomId), On s → domState s d.val = 5 → jointBusy s d.val = true →
    Completes (exec (.domainPowerOffComplete d) s) fun t => Only [] [] s t) ∧
  (∀ (s : State) (d : DomId), On s → domState s d.val = 5 → jointBusy s d.val = false →
    (32 ≤ d.val ∧ d.val < 48 → d.val % 8 ∉ s.mode.rejoin) → (73 ≤ d.val → mode s ≠ 5) →
    Completes (exec (.domainPowerOffComplete d) s) fun t => domState t d.val = 0 ∧
      (56 ≤ d.val ∧ d.val < 72 → planeSt t (d.val - 56) = 2) ∧
      ∀ d' < 80, d' ≠ d.val → mode s ≠ 5 → domState t d' = domState s d') ∧
  (∀ (s : State) (d : DomId), On s → domState s d.val = 1 →
    Completes (exec (.domainPowered d) s) fun t => domState t d.val = 2 ∧ t.f F.PWD_STAT_BIST d.val = 3 ∧
      (32 ≤ d.val ∧ ¬(40 ≤ d.val ∧ d.val < 48) →
        t.b F.CLK_ISLSTAT_RUN (islandOf (some d.val)) = true ∧ t.b F.CLK_ISLSTAT_LOCK (islandOf (some d.val)) = true) ∧
      (56 ≤ d.val ∧ d.val < 72 → planeSt t (d.val - 56) = 4) ∧
      (72 ≤ d.val → t.f F.CSN_CHSTAT_STATE (d.val - 72) = 3)) ∧
  (∀ (s : State) (d : DomId), On s → domState s d.val = 2 →
    (Completes (exec (.domainTestComplete d true []) s) fun t => t.f F.PWD_STAT_BIST d.val = 1 ∧
      domState t d.val = (if d.val < 32 ∨ (56 ≤ d.val ∧ d.val < 72) then 4 else 3) ∧
      (56 ≤ d.val ∧ d.val < 72 → planeSt t (d.val - 56) = 2) ∧
      (72 ≤ d.val → t.f F.CSN_CHSTAT_STATE (d.val - 72) = 2)) ∧
    ∀ bad, Completes (exec (.domainTestComplete d false bad) s) fun t =>
      t.f F.PWD_STAT_BIST d.val = 2 ∧ domState t d.val = 6 ∧
        (32 ≤ d.val ∧ d.val < 48 → t.f F.GLB_PIERSTAT_STATE (d.val % 8) = 3)) ∧
  (∀ (s : State) (d : DomId), On s → domState s d.val = 3 →
    Completes (exec (.domainWipeComplete d) s) fun t => domState t d.val = 4 ∧
      (32 ≤ d.val ∧ d.val < 40 → s.f F.GLB_PIERSTAT_STATE (d.val - 32) = 3 → domOn s (d.val + 8) = true →
        t.f F.GLB_PIERSTAT_STATE (d.val - 32) = 0) ∧
      (72 ≤ d.val → s.f F.CSN_CHSTAT_STATE (d.val - 72) = 1 → t.f F.CSN_CHSTAT_STATE (d.val - 72) = 1) ∧
      (72 ≤ d.val → s.f F.CSN_CHSTAT_STATE (d.val - 72) ≠ 1 →
        t.f F.CSN_CHSTAT_STATE (d.val - 72) = (if d.val = 72 ∧ mode s = 5 then 4 else 0) ∧
          ∀ a, landChan a = d.val - 72 → landRd t a = 0)) ∧
  (∀ (s : State) (d : DomId), On s → 1 ≤ domState s d.val → domState s d.val ≤ 4 →
    Completes (exec (.regulatorFault d) s) fun t => domState t d.val = 6 ∧ t.b F.PWD_STAT_FAULT d.val = true) ∧
  (∀ (s : State) (n : PierId), On s → s.f F.GLB_PIERSTAT_STATE n.val = 0 →
    Completes (exec (.pierClosure n) s) fun t => t.f F.GLB_PIERSTAT_STATE n.val = 1 ∧ domState t (32 + n.val) = 5 ∧
      domState t (40 + n.val) = 5 ∧ n.val ∈ t.mode.rejoin) ∧
  (∀ (s : State) (n : PierId), On s → s.f F.GLB_PIERSTAT_STATE n.val = 2 →
    (Completes (exec (.pierSelfTestDone n false) s) fun t => t.f F.GLB_PIERSTAT_STATE n.val = 3 ∧
      Only [.mode] [.GLB_PIERSTAT] s t) ∧
    (domOn s (32 + n.val) = true → domOn s (40 + n.val) = true →
      Completes (exec (.pierSelfTestDone n true) s) fun t => t.f F.GLB_PIERSTAT_STATE n.val = 0 ∧
        ∀ p ∈ pierPorts s n.val, t.b F.PIR_CLOSE_CLOSED p = false))

/-- SPILL_DRAIN_TIMEOUT, REDUCED_EXIT_COMPLETE, THERMAL_SAMPLE and THERMAL_CAUSE_DROP (R145, R408 to R411, R416, R417). -/
def Obligations.ReducedAndThermalComplete : Prop :=
  (∀ s : State, On s → mode s = 5 → s.b F.GLB_MODE_ENTERING 0 = true → s.mode.readback = true →
    Completes (exec .spillDrainTimeout s) fun t => t.csn.flows = [] ∧ t.mode.readback = false ∧
      t.f F.CSN_STAT_LM_STATE 0 = 1 ∧ ∀ j < 7, domState s (73 + j) = 4 → domState t (73 + j) = 5) ∧
  (∀ s : State, On s → mode s = 5 → s.b F.GLB_MODE_EXITING 0 = true → chansUp s = true →
    Completes (exec .reducedExitComplete s) fun t => mode t = s.f F.GLB_MODE_IMAGE_MODE 0 ∧
      t.b F.GLB_MODE_EXITING 0 = false ∧ t.csn.spillStop = false ∧ t.f F.CSN_STAT_LM_STATE 0 = 0 ∧
      t.b F.CSN_STAT_LM_LOST 0 = true) ∧
  (∀ (s : State) (l : List (BitVec 16)), On s → l.length = 10 →
    (Completes (exec (.thermalSample l) s) fun t =>
      (∀ k < 10, t.f F.GLB_TEMP_TEMP k = (l.getD k 0).toNat) ∧ t.f F.GLB_TEMPMAX_TEMP 0 = (hottest l).2.toNat ∧
        t.f F.GLB_TEMPMAX_SENSOR 0 = (hottest l).1) ∧
    (tempOf (hottest l).2 < 16 * reduceT s → Completes (exec (.thermalSample l) s) fun t =>
      t.mode.thermN = 0 ∧ t.mode.shutN = 0 ∧ Only [.mode] [.GLB_TEMP, .GLB_TEMPMAX] s t) ∧
    (16 * 110 ≤ tempOf (hottest l).2 → 1 ≤ s.mode.shutN → mode s ≠ 0 →
      Completes (exec (.thermalSample l) s) fun t => mode t = 0 ∧ t.b F.GLB_MODE_THERM_LATCH 0 = true ∧
        t.err.faultN = true ∧ ∀ d < 80, domState t d = 0)) ∧
  (∀ s : State, On s → s.b F.GLB_MODE_CAUSE_THERM 0 = true → tempMax s < 16 * (reduceT s - hystT s) →
    Completes (exec .thermalCauseDrop s) fun t => t.b F.GLB_MODE_CAUSE_THERM 0 = false)

/-- ERROR_RECORD, SPAN_CLOSURE, ENGINE_FAILURE, ENGINE_CLUSTER_FAILURE and FAILURE_MIGRATION_COMPLETE (R255, R259, R263, R271,
R273): a record is numbered, journalled and held as the newest of its class; a port closes; a failed engine holds nothing, and
its duties move. Which duty receives an ERROR event is log entry 21's choice. -/
def Obligations.FailuresComplete : Prop :=
  (∀ (s : State) (isl : IslandId) (r : ErrRec) (rest : List ErrRec), On s →
    SMap.get [] s.err.fifo isl.val = r :: rest →
    Completes (exec (.errorRecord isl) s) fun t => SMap.get [] t.err.fifo isl.val = rest ∧
      t.err.num = nextSeq32 s.err.num ∧ t.bitf F.GLB_ERRSTAT_SEEN 0 (causeClass r.cause) = true ∧
      t.rd .GLB_ERRLAST (4 * causeClass r.cause) = BitVec.ofNat 32 (nextSeq32 s.err.num) ∧
      t.rd .GLB_ERRLAST (4 * causeClass r.cause + 1) = BitVec.ofNat 32 (r.cause * 2 ^ 24 + r.unit % 65536) ∧
      t.rd .GLB_ERRLAST (4 * causeClass r.cause + 2) = BitVec.ofNat 32 r.time ∧
      Journalled ⟨6, jNone, JOrg.keeper, 0, r.cause, nextSeq32 s.err.num, r.unit % 65536 + 2 ^ 64 * r.time⟩ s t) ∧
  (∀ (s : State) (p : PortId) (cause : Fin 7), On s →
    (s.b F.PIR_CLOSE_CLOSED p.val = false → portExists s p.val = true → ltssm s p.val ≠ 0x30 →
      Completes (exec (.spanClosure p cause) s) fun t => t.b F.PIR_CLOSE_CLOSED p.val = true ∧
        t.f F.PIR_CLOSE_CAUSE p.val = cause.val + 1 ∧ t.b F.SPN_PSTAT_CLOSED p.val = true ∧ ltssm t p.val = 0x34 ∧
        linkUp t p.val = false ∧ egressEmpty t p.val = true) ∧
    (s.b F.PIR_CLOSE_CLOSED p.val = true → Completes (exec (.spanClosure p cause) s) fun t =>
      t.rd .PIR_CLOSE p.val = s.rd .PIR_CLOSE p.val ∧ t.rd .SPN_PSTAT p.val = s.rd .SPN_PSTAT p.val)) ∧
  (∀ (s : State) (g : EngId), On s → domOn s (48 + g.val / 8) = true → engSt s g.val ≠ 3 → s.img.live = none →
    Completes (exec (.engineFailure g) s) fun t => engSt t g.val = 3 ∧ SMap.find? t.eng.cur g.val = none ∧
      SMap.find? t.eng.preempted g.val = none ∧ engQ t g.val = [] ∧ SMap.find? t.eng.failCause g.val = some 1 ∧
      ∀ k ∈ dutiesOf s g.val, (∃ g' < 64, g' ≠ g.val ∧ g' / 8 = k / 64 ∧ engUp s g' = true) →
        t.b F.PIR_DUTY_MOVING k = true) ∧
  (∀ (s : State) (n : PierId), On s → SMap.find? s.eng.failCause (64 + n.val) ≠ some 1 → s.img.live = none →
    Completes (exec (.engineClusterFailure n) s) fun t => ∀ e < 8, engSt t (8 * n.val + e) = 3 ∧
      SMap.find? t.eng.cur (8 * n.val + e) = none) ∧
  (∀ (s : State) (u : Fin 72), On s → (SMap.find? s.eng.failCause u.val).isSome = true →
    Completes (exec (.failureMigrationComplete u) s) fun t => SMap.find? t.eng.failCause u.val = none ∧
      ∀ k ∈ dutiesOf s u.val, u.val < 64 → s.b F.PIR_DUTY_MOVING k = true →
        ∀ g' r, g' < 64 → SMap.find? s.eng.target k = some (g', r) → t.f F.PIR_DUTY_ENGINE k = g')

/-- START, CFG_READ, CFG_WRITE, ERROR, COMMAND, MESSAGE, CONTROL, FOOTWAY, TLP, TIMER, LINK, SLOT, LANE, COUNTER, STOP and
CONTINUE: each event of Table ENG-3 that an engine has selected is entered by the row of its number (R283, R286). -/
def Obligations.HandlersEnter : Prop :=
  ∀ (s : State) (g : EngId) (q : QEv) (d : Bool), Waits s g q d →
    (q.ev.number = 0x00 → Enters (exec (.start g) s) g q d) ∧ (q.ev.number = 0x01 → Enters (exec (.cfgRead g) s) g q d) ∧
    (q.ev.number = 0x02 → Enters (exec (.cfgWrite g) s) g q d) ∧ (q.ev.number = 0x03 → Enters (exec (.error g) s) g q d) ∧
    (q.ev.number = 0x04 → Enters (exec (.command g) s) g q d) ∧ (q.ev.number = 0x05 → Enters (exec (.message g) s) g q d) ∧
    (q.ev.number = 0x06 → Enters (exec (.control g) s) g q d) ∧ (q.ev.number = 0x07 → Enters (exec (.footway g) s) g q d) ∧
    (q.ev.number = 0x08 → Enters (exec (.tlp g) s) g q d) ∧ (q.ev.number = 0x09 → Enters (exec (.timer g) s) g q d) ∧
    (q.ev.number = 0x0A → Enters (exec (.link g) s) g q d) ∧ (q.ev.number = 0x0B → Enters (exec (.slot g) s) g q d) ∧
    (q.ev.number = 0x0C → Enters (exec (.lane g) s) g q d) ∧ (q.ev.number = 0x0D → Enters (exec (.counter g) s) g q d) ∧
    (q.ev.number = 0x0E → Enters (exec (.stop g) s) g q d) ∧ (q.ev.number = 0x0F → Enters (exec (.continue_ g) s) g q d)

/-- HANDLER_END, URGENT_PREEMPTION, EVENT_QUEUE_ROOM and PLANNED_MIGRATION_COMPLETE (R285, R286, R296): what the engine runs
next, and where its duties go. ENGINE_TRAP, WATCHDOG_EXPIRY and DUTY_TIMER_EXPIRY (R289, R294, R295): the trap record, the
failure of an engine, the timer's event. -/
def Obligations.QueuesComplete : Prop :=
  (∀ (s : State) (g : EngId) (q : QEv) (d : Bool), Runs s g q d →
    (∀ j, SMap.find? s.eng.preempted g.val = some j → Completes (exec (.handlerEnd g) s) fun t =>
      SMap.find? t.eng.cur g.val = some j ∧ SMap.find? t.eng.preempted g.val = none) ∧
    (SMap.find? s.eng.preempted g.val = none → (∀ x ∈ engQ s g.val ++ s.eng.flags, noHandler s g.val x = true) →
      Completes (exec (.handlerEnd g) s) fun t => SMap.find? t.eng.cur g.val = none ∧
        engSt t g.val = (if engSt s g.val = 4 then 4 else 1)) ∧
    (∀ e l, SMap.find? s.eng.preempted g.val = none → (engQ s g.val).filter (fun x => !noHandler s g.val x) = e :: l →
      (∀ x ∈ e :: l, x.ev.urgent = false) →
      Completes (exec (.handlerEnd g) s) fun t => SMap.find? t.eng.cur g.val = some ⟨e, false, false, false⟩ ∧ engQ t g.val = l)) ∧
  (∀ (s : State) (g : EngId) (j : Inv), On s → SMap.find? s.eng.cur g.val = some j → engRuns s g.val = true →
    j.q.ev.urgent = false → SMap.find? s.eng.preempted g.val = none →
    (∃ e ∈ engQ s g.val, e.ev.urgent = true ∧ noHandler s g.val e = false) →
    Completes (exec (.urgentPreemption g) s) fun t => SMap.find? t.eng.preempted g.val = some j ∧
      ∃ e ∈ engQ s g.val, e.ev.urgent = true ∧ noHandler s g.val e = false ∧
        SMap.find? t.eng.cur g.val = some ⟨e, false, false, false⟩) ∧
  (∀ (s : State) (g : EngId) (e : QEv), On s →
    s.eng.kept.find? (fun (e : QEv) => dutyEng s e.pier e.duty == g.val && engRoom s g.val e.ev) = some e →
    s.b F.PIR_DUTY_VALID (dutyKey e.pier e.duty) = true →
    Completes (exec (.eventQueueRoom g) s) fun t => t.eng.kept = s.eng.kept.erase e ∧ Has t e) ∧
  (∀ (s : State) (g : EngId), On s → engSt s g.val = 4 → SMap.find? s.eng.cur g.val = none → engQ s g.val = [] →
    s.eng.parkWait = [] →
    Completes (exec (.plannedMigrationComplete g) s) fun t =>
      (if s.b F.ENG_CTL_PARK g.val then engSt t g.val = 2 else engSt t g.val ≤ 1) ∧
        ∀ k ∈ dutiesOf s g.val, s.b F.PIR_DUTY_MOVING k = true →
          ∀ g' r, g' < 64 → SMap.find? s.eng.target k = some (g', r) →
            t.f F.PIR_DUTY_ENGINE k = g' ∧ t.b F.PIR_DUTY_MOVING k = false) ∧
  (∀ (s : State) (g : EngId) (q : QEv) (d : Bool) (tr : Trap) (pc : Word), Runs s g q d →
    s.b F.ENG_TRAP_VALID g.val = false →
    Completes (exec (.engineTrap g tr pc) s) fun t =>
      t.b F.ENG_TRAP_VALID g.val = true ∧ t.f F.ENG_TRAP_CAUSE g.val = Trap.code tr ∧ t.rd .ENG_TRAPPC g.val = pc ∧
        t.b F.ENG_TRAP_FATAL g.val = trapFatal (Trap.code tr) ∧
        t.f F.ENG_TRAP_COUNT g.val = min (2 ^ F.ENG_TRAP_COUNT.width - 1) (s.f F.ENG_TRAP_COUNT g.val + 1)) ∧
  (∀ (s : State) (g : EngId) (q : QEv) (d : Bool) (tr : Trap) (pc : Word), Runs s g q d → s.img.live = none →
    trapFatal (Trap.code tr) = true →
    Completes (exec (.engineTrap g tr pc) s) fun t => engSt t g.val = 3) ∧
  (∀ (s : State) (g : EngId) (q : QEv) (d : Bool) (pc : Word), Runs s g q d → s.img.live = none →
    s.b F.ENG_TRAP_VALID g.val = false →
    Completes (exec (.watchdogExpiry g pc) s) fun t => engSt t g.val = 3 ∧ t.rd .ENG_TRAPPC g.val = pc ∧
      t.f F.ENG_TRAP_CAUSE g.val = (if q.ev.urgent then 0x05 else 0x06)) ∧
  (∀ (s : State) (n : PierId) (d : DutyId) (k : Fin 4) (x : Timer), On s →
    SMap.find? s.eng.timer (4 * dutyKey n.val d.val + k.val) = some x → s.b F.PIR_DUTY_VALID (dutyKey n.val d.val) = true →
    Completes (exec (.dutyTimerExpiry n d k) s) fun t => Has t ⟨n.val, d.val, .timer k.val⟩ ∧
      SMap.find? t.eng.timer (4 * dutyKey n.val d.val + k.val) =
        (if x.period = 0 then none else some ⟨x.due + x.period, x.period⟩))

/-- eng_reg_read, eng_reg_write, eng_tbl_read, eng_tbl_write and eng_cnt_read (R287, R288, R368, Table ENG-4). -/
def Obligations.EngineAccessCompletes : Prop :=
  (∀ (s : State) (g : EngId) (q : QEv) (d : Bool) (off : Nat), Runs s g q d →
    (regAt off = none → Returns (exec (.engRegRead g off) s) g engBad fun _ => True) ∧
    (regAt off ≠ none → Returns (exec (.engRegRead g off) s) g (regRead (engOrg g q) off s).1 fun t =>
      SMap.get 0 t.eng.lastValue g.val = (regRead (engOrg g q) off s).2.1.toNat)) ∧
  (∀ (s : State) (g : EngId) (q : QEv) (d : Bool) (r : Reg) (i : Nat) (val : Word) (be : BitVec 4), Runs s g q d →
    Lands r i ⟨engOrg g q, be, val⟩ s → r.acts = false →
    Returns (exec (.engRegWrite g (r.offset i) val be) s) g engOk fun t => ∀ x : Fld, x.plain = true → x.reg = r →
      t.f x (bankedIdx (engOrg g q) r i) =
        x.get (newOf s r (bankedIdx (engOrg g q) r i) ⟨engOrg g q, be, val⟩)) ∧
  (∀ (s : State) (g : EngId) (q : QEv) (d : Bool) (n : PierId) (x : EngTab), Runs s g q d →
    (pierAccess s n.val ≠ accOk → Returns (exec (.engTblRead g n x) s) g (pierAccess s n.val) fun _ => True) ∧
    (pierAccess s n.val = accOk → EngTab.has x s n.val = true →
      Returns (exec (.engTblRead g n x) s) g engOk fun t => SMap.get 0 t.eng.lastValue g.val = EngTab.read x s n.val)) ∧
  (∀ (s : State) (g : EngId) (q : QEv) (d : Bool) (n : PierId) (x : EngTab) (data : List Byte), Runs s g q d →
    mustHold s n.val = false → pierAccess s n.val = accOk → EngTab.has x s n.val = true → leNum data < 2 ^ 32 →
    Returns (exec (.engTblWrite g n x data) s) g engOk fun t => EngTab.read x t n.val = leNum data ∧
      ∃ e, SMap.get [] t.jrn.fifo n.val = SMap.get [] s.jrn.fifo n.val ++ [e] ∧ e.kind = 5 ∧ e.status = jDone) ∧
  (∀ (s : State) (g : EngId) (q : QEv) (d : Bool) (b : BlockId) (c : Fin 32) (v : Nat), Runs s g q d →
    counterOf s b.val c.val = some v → accessStatus false s .PMC_CYC (2 * b.val) = accOk →
    Returns (exec (.engCntRead g b c) s) g engOk fun t => SMap.get 0 t.eng.lastValue g.val = v)

/-- eng_cfg_done, eng_msg_send, eng_ctl_send, eng_fw_send, eng_tlp_send, eng_timer_set and eng_timer_cancel (R75, R206, R289,
R290, R292). The duty that a control packet names stands in DST_PORT (log entry 23: the model's choice). -/
def Obligations.EngineSendsComplete : Prop :=
  (∀ (s : State) (g : EngId) (n d : Nat) (w : Bool) (r : CfgReq) (st : CfgEnd) (data : Word), Runs s g ⟨n, d, .cfg w r⟩ false →
    Returns (exec (.engCfgDone g st data) s) g engOk fun t =>
      ∃ a, SMap.find? t.eng.cur g.val = some ⟨⟨n, d, .cfg w r⟩, true, true, a⟩) ∧
  (∀ (s : State) (g : EngId) (q : QEv) (d : Bool) (n : PierId) (u : DutyId) (bytes : List Byte), Runs s g q d →
    bytes.length = 32 → s.b F.PIR_DUTY_VALID (dutyKey n.val u.val) = true →
    (dutyFull s n.val u.val (.message g.val q.duty bytes) = false →
      Returns (exec (.engMsgSend g n u bytes) s) g engOk fun t => Has t ⟨n.val, u.val, .message g.val q.duty bytes⟩) ∧
    (dutyFull s n.val u.val (.message g.val q.duty bytes) = true →
      Returns (exec (.engMsgSend g n u bytes) s) g engBusy fun t => t.eng.q = s.eng.q)) ∧
  (∀ (s : State) (g : EngId) (q : QEv) (d : Bool) (m : Fin 64) (u : DutyId) (bytes : List Byte) (response : Bool) (p : Nat),
    Runs s g q d → bytes.length ≤ 96 → m.val ≠ myModule s → routeOf s q.pier m.val = some p →
    admits s p (classOf s (ctlTc s)) 1 1 0 = true →
    (s.fab.hold.contains (64 * q.pier + m.val) = false → flUp s (p / 4) = true → linkUp s p = true →
      Returns (exec (.engCtlSend g m u bytes response) s) g engOk fun t =>
        ∃ e, egressQ t p (ctlTc s) = egressQ s p (ctlTc s) ++ [e] ∧ e.c.fab = some (ctlHdr s m u response bytes)) ∧
    (s.fab.hold.contains (64 * q.pier + m.val) = true →
      Returns (exec (.engCtlSend g m u bytes response) s) g engOk fun t =>
        t.fab.ctl = s.fab.ctl ++ [(q.pier, ctlHdr s m u response bytes)] ∧ Only [.fab, .eng] [] s t)) ∧
  (∀ (s : State) (g : EngId) (q : QEv) (d : Bool) (p : PortId) (bytes : List Byte), Runs s g q d → isFloing s p.val = true →
    bytes.length = 28 → flUp s (p.val / 4) = true →
    Returns (exec (.engFwSend g p bytes) s) g engOk fun t =>
      ∃ m, (fl t (p.val / 4)).fwQ = (fl s (p.val / 4)).fwQ ++ [m] ∧ m.ty = 0x40 ∧ m.bytes = bytes) ∧
  (∀ (s : State) (g : EngId) (q : QEv) (d : Bool) (p : PortId) (x : Tlp), Runs s g q d → portExists s p.val = true →
    isFloing s p.val = false → x.data.length ≤ 256 → linkUp s p.val = true → s.b F.PIR_CLOSE_CLOSED p.val = false →
    admits s p.val (classOf s x.tc) 1 (Carried.cells ⟨x, p.val, p.val, 0, (vsOfPort s p.val).getD 0, none, 0, [], 0⟩) 0 = true →
    Returns (exec (.engTlpSend g p x) s) g engOk fun t =>
      ∃ e, egressQ t p.val x.tc = egressQ s p.val x.tc ++ [e] ∧ e.c.tlp = x) ∧
  (∀ (s : State) (g : EngId) (q : QEv) (d : Bool) (k : Fin 4) (ns : Nat) (periodic : Bool), Runs s g q d → 10 ≤ ns →
    ns ≤ 42900000000 → ns % 10 = 0 →
    Returns (exec (.engTimerSet g k ns periodic) s) g engOk fun t =>
      SMap.find? t.eng.timer (4 * dutyKey q.pier q.duty + k.val) = some ⟨s.env.now + ns, if periodic then ns else 0⟩) ∧
  (∀ (s : State) (g : EngId) (q : QEv) (d : Bool) (k : Fin 4), Runs s g q d →
    Returns (exec (.engTimerCancel g k) s) g engOk fun t =>
      SMap.find? t.eng.timer (4 * dutyKey q.pier q.duty + k.val) = none ∧
        (⟨q.pier, q.duty, .timer k.val⟩ : QEv) ∉ t.eng.flags)

/-- eng_port_close, eng_port_release, eng_tenant_close, eng_tenant_release, eng_margin, eng_msix, eng_cmd_done and eng_continue
(R57, R183, R184, R263, R266, R269, R336). -/
def Obligations.EngineActsComplete : Prop :=
  (∀ (s : State) (g : EngId) (q : QEv) (d : Bool) (p : PortId), Runs s g q d → portExists s p.val = true →
    (s.b F.PIR_CLOSE_CLOSED p.val = false → ltssm s p.val ≠ 0x30 →
      Returns (exec (.engPortClose g p) s) g engOk fun t =>
        t.b F.PIR_CLOSE_CLOSED p.val = true ∧ t.f F.PIR_CLOSE_CAUSE p.val = 6 ∧ ltssm t p.val = 0x34) ∧
    (s.b F.PIR_CLOSE_CLOSED p.val = true → releaseRefused s p.val = false →
      Returns (exec (.engPortRelease g p) s) g engOk fun t => t.b F.PIR_CLOSE_CLOSED p.val = false ∧
        ltssm t p.val = (if (spansOf s p.val).all (fun sp => domOn s sp) then 0 else 0x30)) ∧
    (releaseRefused s p.val = true →
      Returns (exec (.engPortRelease g p) s) g engRefused fun t => t.rd .PIR_CLOSE p.val = s.rd .PIR_CLOSE p.val)) ∧
  (∀ (s : State) (g : EngId) (q : QEv) (d : Bool) (u : TenantId), Runs s g q d →
    (Returns (exec (.engTenantClose g u) s) g engOk fun t => tenantClosed t u.val = true) ∧
    (Returns (exec (.engTenantRelease g u) s) g engOk fun t => tenantClosed t u.val = false)) ∧
  (∀ (s : State) (g : EngId) (q : QEv) (d : Bool) (p : PortId) (lane : Fin 18) (timing : Bool) (step : Fin 128), Runs s g q d →
    portExists s p.val = true → marginOk s p.val lane.val timing step.val = true → isFloing s p.val = false →
    linkUp s p.val = true →
    Returns (exec (.engMargin g p lane timing step) s) g engOk fun t =>
      SMap.get 0 t.eng.lastValue g.val = Config.freeNat s.env.free ∧ Only [.env, .eng] [] s t) ∧
  (∀ (s : State) (g : EngId) (q : QEv) (d : Bool) (v : VsId) (vec : Fin 64), Runs s g q d → 8 ≤ vec.val →
    fnPresent s v.val fnMep = true → s.host.wakeVec.contains vec.val = false →
    Returns (exec (.engMsix g v vec) s) g engOk fun t =>
      msixReady s v.val vec.val = false → v.val * 64 + vec.val ∈ t.host.pend) ∧
  (∀ (s : State) (g : EngId) (q : QEv) (d : Bool) (seq : Nat) (ok : Bool), Runs s g q d →
    (seq, dutyKey q.pier q.duty) ∈ s.eng.cmds →
    Returns (exec (.engCmdDone g seq ok) s) g engOk fun t =>
      (seq, dutyKey q.pier q.duty) ∉ t.eng.cmds ∧ ∀ c ∈ t.jrn.cmds, c.seq ≠ seq) ∧
  (∀ (s : State) (g : EngId) (q : QEv) (d : Bool) (value : Word), Runs s g q d →
    dutyFull s q.pier q.duty (.continue_ value.toNat) = false → s.b F.PIR_DUTY_VALID (dutyKey q.pier q.duty) = true →
    Returns (exec (.engContinue g value) s) g engOk fun t => Has t ⟨q.pier, q.duty, .continue_ value.toNat⟩)

/-- REGISTER_WRITE (R4 to R7, R246, R327): a write that lands on a register without further effect leaves there what the access
codes and byte enables make of it; a locked register keeps its value, and where no register is defined nothing but the journal
and what its entry brings (a count in channel 0's block, a trigger, a vector) changes, and the write is journalled FAILED. The
value left in PMC_BSTAT and REC_TRGCFG is stated where that count cannot move them: block 120 is off or frozen. -/
def Obligations.RegisterWritesComplete : Prop :=
  (∀ (s : State) (r : Reg) (i : Nat) (w : RegW), Lands r i w s → r.acts = false →
    Completes (exec (.registerWrite (r.offset i) w) s) fun t =>
      Only (.img :: Piece.entry) (r :: Reg.entry) s t ∧
      ((r = .PMC_BSTAT ∨ r = .REC_TRGCFG → Uncounted s) →
        ∀ g : Fld, g.plain = true → g.reg = r →
          t.f g (bankedIdx w.org r i) = g.get (newOf s r (bankedIdx w.org r i) w))) ∧
  (∀ (s : State) (r : Reg) (i : Nat) (w : RegW), On s → regAt (r.offset i) = some (r, i) →
    slot129 s w.org (r.offset i) = true → (r.ownerWrites = true → counterOk s w.org = true) →
    accessStatus false s r (bankedIdx w.org r i) = accOk → locked s r (bankedIdx w.org r i) = true → r.silent = false →
    Completes (exec (.registerWrite (r.offset i) w) s) fun t =>
      t.rd r (bankedIdx w.org r i) = s.rd r (bankedIdx w.org r i) ∧
        Journalled (writeEntry (Origin.jorg w.org) jFailed 0 (r.offset i) (engineRef s w.org) w.val w.be.toNat
          (regValue s r (bankedIdx w.org r i))) s t) ∧
  (∀ (s : State) (off : Nat) (w : RegW), On s → regAt off = none → slot129 s w.org off = true →
    Completes (exec (.registerWrite off w) s) fun t =>
      Journalled (writeEntry (Origin.jorg w.org) jFailed 0 off (engineRef s w.org) w.val w.be.toNat 0) s t ∧
        Only Piece.entry Reg.entry s t)

/-- What a write leaves in each bit of a register (R4, R7): a bit whose byte is not enabled, or whose field is RO or WO, keeps
its value; an RW bit takes the bit written; a 1 clears an RW1C bit and sets an RW1S bit, and a 0 leaves it. -/
def Obligations.AccessCodesAct : Prop :=
  ∀ (s : State) (r : Reg) (i : Nat) (w : RegW) (k : Nat), k < 32 →
    let m := writable r i
    let on := w.be.getLsbD (k / 8)
    let old := (s.rd r i).getLsbD k
    let val := w.val.getLsbD k
    let kept := if on && (m.rw.testBit k || m.rwl.testBit k) then val else old
    (newOf s r i w).getLsbD k =
      ((kept && !(on && val && m.w1c.testBit k)) || (on && val && m.w1s.testBit k))

/-- NOP, JNL_CHECKPOINT, JNL_MARK, QUERY, REDUCE_ENTER, REDUCE_LEAVE and REC_FLUSH: what the short commands of Table JNL-4 do,
and how they end (R338, R339, R355, R407). -/
def Obligations.ShortCommandsComplete : Prop :=
  (∀ (s : State) (c : Cmd), Front s nextShort 0x01 c → Completes (exec .nop s) (Ended c jDone 0 s)) ∧
  (∀ (s : State) (c : Cmd), Front s nextShort 0x02 c → Completes (exec .jnlCheckpoint s) fun t =>
    t.b F.JNL_STAT_CHKPT_BUSY 0 = true ∧ c.seq ∈ t.jrn.ckptWait ∧ findCmd t c.seq = some { c with running := true }) ∧
  (∀ (s : State) (c : Cmd), Front s nextShort 0x03 c → Completes (exec .jnlMark s) fun t => Ended c jDone 0 s t ∧
    Journalled ⟨9, jNone, Origin.jorg c.org, 0, 0, 0, c.num 8 16⟩ s t) ∧
  (∀ (s : State) (c : Cmd), Front s nextShort 0x04 c →
    (∀ e, (heldEntries s).find? (fun (e : JEntry) => e.req.kind == 1 && e.seq == c.num 8 8) = some e →
      Completes (exec .query s) (Ended c jDone (queryAnswer s e).1 s)) ∧
    ((heldEntries s).find? (fun (e : JEntry) => e.req.kind == 1 && e.seq == c.num 8 8) = none →
      Completes (exec .query s) (Ended c jFailed resArg s))) ∧
  (∀ (s : State) (c : Cmd), Front s nextShort 0x20 c → s.img.live = none →
    Completes (exec .reduceEnter s) fun t => Ended c jDone 0 s t ∧ t.b F.GLB_MODE_CAUSE_CMD 0 = true ∧
      (2 ≤ mode s → mode s ≤ 4 → liveSt s = 0 → mode t = 5 ∧ t.b F.GLB_MODE_ENTERING 0 = true)) ∧
  (∀ (s : State) (c : Cmd), Front s nextShort 0x21 c → s.img.live = none →
    Completes (exec .reduceLeave s) fun t => Ended c jDone 0 s t ∧ t.b F.GLB_MODE_CAUSE_CMD 0 = false) ∧
  (∀ (s : State) (c : Cmd), Front s nextShort 0x28 c → s.rcd.susp = false →
    Completes (exec .recFlush s) fun t => Ended c jDone 0 s t ∧ t.rcd.flushing = true)

/-- EXPORT_JOURNAL, EXPORT_RECORDER, BATCH and BANK_WRITE (R187, R302, R335, R337, R343, R359): from a management endpoint on
which no other job runs and whose DMA may not yet issue, the job stands ready; arguments out of range end the command FAILED. -/
def Obligations.DmaCommandsComplete : Prop :=
  (∀ (s : State) (c : Cmd) (v : Nat), Front s nextDma 0x08 c → Origin.mep c.org = some v → dmaJob s v = none →
    s.host.dmaq = [] → dmaAllowed s v = false → 1 ≤ c.num 16 4 → c.num 16 4 ≤ slots → (exportData c s).1 ≠ [] →
    Completes (exec .exportJournal s) fun t => t.b F.GLB_DMASTAT_BUSY v = true ∧ ∃ j, dmaJob t v = some j ∧
      j.use = .export_ c.seq ∧ j.addr = c.num 24 8 ∧ j.data = [(0, (exportData c s).1)] ∧ j.result = (exportData c s).2) ∧
  (∀ (s : State) (c : Cmd) (v : Nat), Front s nextDma 0x08 c → Origin.mep c.org = some v →
    c.num 16 4 = 0 ∨ slots < c.num 16 4 → Completes (exec .exportJournal s) (Ended c jFailed resArg s)) ∧
  (∀ (s : State) (c : Cmd) (v : Nat), Front s nextDma 0x09 c → Origin.mep c.org = some v → dmaJob s v = none →
    s.host.dmaq = [] → dmaAllowed s v = false → c.byte 8 ≤ 2 → 1 ≤ c.num 16 4 → c.num 16 4 ≤ 131072 →
    (exportData c s).1 ≠ [] →
    Completes (exec .exportRecorder s) fun t => t.b F.GLB_DMASTAT_BUSY v = true ∧ ∃ j, dmaJob t v = some j ∧
      j.use = .export_ c.seq ∧ j.addr = c.num 24 8 ∧ j.data = [(0, (exportData c s).1)] ∧ j.result = (exportData c s).2) ∧
  (∀ (s : State) (c : Cmd) (v : Nat), Front s nextDma 0x0A c → Origin.mep c.org = some v → dmaJob s v = none →
    s.host.dmaq = [] → dmaAllowed s v = false → 1 ≤ c.num 16 2 → c.num 16 2 ≤ 256 →
    Completes (exec .batch s) fun t => t.b F.GLB_DMASTAT_BUSY v = true ∧
      dmaJob t v = some (newJob (.batch c.seq) (c.num 8 8) (64 * c.num 16 2))) ∧
  (∀ (s : State) (c : Cmd) (v : Nat), Front s nextDma 0x11 c → Origin.mep c.org = some v →
    (bankRefusal s (c.byte 8) ≠ 0 → Completes (exec .bankWrite s) (Ended c jFailed (bankRefusal s (c.byte 8)) s)) ∧
    (bankRefusal s (c.byte 8) = 0 → inBank (c.num 12 4) (c.num 24 4) = true → c.num 24 4 % 4 = 0 → 4 ≤ c.num 24 4 →
      c.num 24 4 ≤ 2 ^ 20 → dmaJob s v = none → s.host.dmaq = [] → dmaAllowed s v = false →
      Completes (exec .bankWrite s) fun t => t.b F.GLB_DMASTAT_BUSY v = true ∧
        dmaJob t v = some (newJob (.bankWrite c.seq (c.byte 8) (c.num 12 4)) (c.num 16 8) (c.num 24 4))))

/-- ENGINE_COMMANDS, PSIVIN_REPORT, PSIVIN_REPORT_DONE, LIFECYCLE, LONG_COMMAND_START, CHECKPOINT_COMPLETE and JOURNAL_ENTRY
(R136, R328, R336, R337, R339, R433, R436); an entry that does not have its turn at channel 0 waits. -/
def Obligations.LongCommandsComplete : Prop :=
  (∀ (s : State) (c : Cmd), On s → s.jrn.cmds.find? (fun (c : Cmd) => c.op ≥ 0x80 && !c.running) = some c →
    findCmd s c.seq = some c →
    (c.byte 2 ≤ 7 → c.byte 3 ≤ 63 → s.b F.PIR_DUTY_VALID (dutyKey (c.byte 2) (c.byte 3)) = true →
      s.f F.PIR_DUTY_KIND (dutyKey (c.byte 2) (c.byte 3)) = 4 →
      Completes (exec .engineCommands s) fun t => (c.seq, dutyKey (c.byte 2) (c.byte 3)) ∈ t.eng.cmds ∧
        Has t ⟨c.byte 2, c.byte 3, .command c.seq⟩ ∧ findCmd t c.seq = some { c with running := true }) ∧
    (7 < c.byte 2 ∨ 63 < c.byte 3 → Completes (exec .engineCommands s) (Ended c jFailed resDuty s))) ∧
  (∀ (s : State) (c : Cmd), Front s nextLong 0x30 c → s.key.cmdWait = [] →
    (s.b F.KEY_STAT_IDVALID 0 = true → c.num 40 8 = 0 →
      (Completes (exec .psivinReport s) fun t => findCmd t c.seq = some { c with running := true }) ∧
      (Completes (exec .longCommandStart s) fun t => findCmd t c.seq = some { c with running := true })) ∧
    (s.b F.KEY_STAT_IDVALID 0 = false → Completes (exec .psivinReport s) (Ended c jFailed resArg s))) ∧
  (∀ (s : State) (c : Cmd), On s → runningCmd s 0x30 = some c → findCmd s c.seq = some c → s.key.cmdWait = [] →
    hasJob s c.seq = false → c.num 40 8 = 0 →
    Completes (exec .psivinReportDone s) fun t => Ended c jDone 0 s t ∧
      t.key.report = reportOf s ((c.desc.drop 8).take 32)) ∧
  (∀ (s : State) (c : Cmd), Front s nextLong 0x31 c →
    (lifecycleCheck s (c.byte 8) = 0 → Completes (exec .lifecycle s) fun t =>
      t.key.change = some (c.seq, c.byte 8) ∧ t.b F.JNL_STAT_CHKPT_BUSY 0 = true) ∧
    (lifecycleCheck s (c.byte 8) ≠ 0 → s.key.cmdWait = [] →
      Completes (exec .lifecycle s) (Ended c jFailed resArg s))) ∧
  (∀ (s : State) (c : Cmd), On s → nextLong s = some c → findCmd s c.seq = some c → s.key.cmdWait = [] →
    isPriv c.op = true → privileged s c.org = false →
    Completes (exec .longCommandStart s) (Ended c jFailed resOrigin s)) ∧
  (∀ s : State, On s → s.b F.JNL_STAT_CHKPT_BUSY 0 = true → s.abt.shutdown = false → s.jrn.held = [] → s.key.change = none →
    Completes (exec .checkpointComplete s) fun t => t.b F.JNL_STAT_CHKPT_BUSY 0 = false ∧ t.jrn.ckpt = s.jrn.copy ∧
      t.jrn.ckptSeq = s.rd64 .JNL_HEAD 0 ∧ t.jrn.ckptWait = [] ∧ (∀ q ∈ s.jrn.ckptWait, findCmd t q = none) ∧
      SMap.get [] t.jrn.fifo 25 = []) ∧
  (∀ (s : State) (isl : IslandId) (e : JReq) (rest : List JReq), On s → s.b F.JNL_STAT_CHKPT_BUSY 0 = false →
    SMap.get [] s.jrn.fifo isl.val = e :: rest →
    (s.b F.JNL_STAT_CH0_LOST 0 = true ∨ granted s 0 1 = true → s.jrn.held = [] →
      Completes (exec (.journalEntry isl) s) fun t => SMap.get [] t.jrn.fifo isl.val = rest ∧ Journalled e s t) ∧
    (s.b F.JNL_STAT_CH0_LOST 0 = false → granted s 0 1 = false →
      Completes (exec (.journalEntry isl) s) fun t => t.jrn = s.jrn ∧ (SMap.find? t.csn.waitAt 1).isSome = true ∧
        Only [.csn] [] s t))

/-- RECORD_COMPLETE, HOLDOFF_EXPIRY, FLUSH_COMPLETE and PREFETCH_DISCARD_ENTRY (R350, R351, R353, R355, R358): the records of
all triggers that fired on one event are built together. STRIKE_TIME, SNAPSHOT_DONE and COUNTER_OVERFLOW (R362, R366, R367): a
snapshot copies each live counter of a block that is on to its shadow; CLEAR zeroes it; a counter wraps to 0 and leaves OVF. -/
def Obligations.RecorderCompletes : Prop :=
  (∀ (s : State) (b : RBuild) (rest : List RBuild), On s → s.rcd.build = b :: rest → rest.takeWhile (sameEvent b) = [] →
    s.b F.REC_TRGCFG_SNAP b.trigger = false ∨ s.b F.PMC_STAT_PENDING 0 = false →
    Completes (exec .recordComplete s) fun t => t.rcd.build = rest ∧ b.trigger ∉ t.rcd.holdR ∧
      t.rcd.next = s.rcd.next % (2 ^ 32 - 1) + 1 ∧
      t.f F.REC_TRGCNT_RECORDS b.trigger = min (2 ^ F.REC_TRGCNT_RECORDS.width - 1) (s.f F.REC_TRGCNT_RECORDS b.trigger + 1) ∧
      ∃ x, t.rcd.kring.getLast? = some x ∧ x.seq = s.rcd.next ∧ x.trigger = b.trigger ∧ x.src = b.src ∧ x.type = 0 ∧
        x.value = b.value % 2 ^ 16 ∧ x.time = b.time ∧ x.snap.length = min 64 (s.f F.REC_TRGCFG_WORDS b.trigger)) ∧
  (∀ (s : State) (b : RBuild), On s → s.rcd.build.head? = some b →
    (∀ x ∈ s.rcd.build.takeWhile (sameEvent b), s.b F.REC_TRGCFG_SNAP x.trigger = false) ∨ s.b F.PMC_STAT_PENDING 0 = false →
    Completes (exec .recordComplete s) fun t => t.rcd.build = s.rcd.build.dropWhile (sameEvent b) ∧
      (∀ x ∈ s.rcd.build.takeWhile (sameEvent b), x.trigger ∉ t.rcd.holdR) ∧
      t.rcd.next = (s.rcd.build.takeWhile (sameEvent b)).foldl (fun n _ => nextSeq32 n) s.rcd.next) ∧
  (∀ (s : State) (b : RBuild), On s → s.rcd.build.head? = some b → s.b F.PMC_STAT_PENDING 0 = true →
    (∃ x ∈ s.rcd.build.takeWhile (sameEvent b), s.b F.REC_TRGCFG_SNAP x.trigger = true) →
    Completes (exec .recordComplete s) fun t => t.rcd.build = s.rcd.build ∧ Only [] [] s t) ∧
  (∀ (s : State) (k : TrigId), On s →
    Completes (exec (.holdoffExpiry k) s) fun t => k.val ∉ t.rcd.holdT ∧ t.rcd.holdR = s.rcd.holdR ∧ Only [.rcd] [] s t) ∧
  (∀ s : State, On s → s.rcd.flushing = true → s.rcd.susp = false →
    Completes (exec .flushComplete s) fun t => t.rcd.flushing = false ∧ t.b F.REC_STAT_FLUSH_BUSY 0 = false ∧
      t.rcd.kring = s.rcd.kring) ∧
  (∀ (s : State) (n : PierId) (e : PfEnt) (rest : List PfEnt), On s → SMap.get [] s.rcd.pfifo n.val = e :: rest →
    let i := s.f F.REC_PFSTAT_NEXT 0
    let seq := BitVec.ofNat 32 (nextSeq32 (s.rd .REC_PFLOG (8 * ((i + 255) % 256))).toNat)
    Completes (exec (.prefetchDiscardEntry n) s) fun t => SMap.get [] t.rcd.pfifo n.val = rest ∧
      t.rd .REC_PFLOG (8 * i) = seq ∧ t.rd .REC_PFLOG (8 * i + 7) = seq ∧
      (∀ k < 6, t.rd .REC_PFLOG (8 * i + 1 + k) = BitVec.ofNat 32 (e.words.getD k 0)) ∧
      t.f F.REC_PFSTAT_NEXT 0 = (i + 1) % 256 ∧ Only [.rcd] [.REC_PFLOG, .REC_PFSTAT] s t) ∧
  (∀ s : State, On s → s.b F.PMC_STAT_PENDING 0 = true → s.pmc.struck = false →
    Completes (exec .strikeTime s) fun t => t.pmc.struck = true ∧
      ∀ b < 129, blockOn s b = true → ∀ j < 16,
        (s.pmc.action.testBit 0 = true ∨ s.pmc.action.testBit 1 = true →
          t.rd .PMC_SCNT (16 * b + j) = s.rd .PMC_CNT (16 * b + j)) ∧
        (s.pmc.action.testBit 3 = true → t.rd .PMC_CNT (16 * b + j) = 0) ∧
        (s.pmc.action.testBit 3 = false → t.rd .PMC_CNT (16 * b + j) = s.rd .PMC_CNT (16 * b + j))) ∧
  (∀ s : State, On s → s.b F.PMC_STAT_PENDING 0 = true → s.pmc.struck = true →
    Completes (exec .snapshotDone s) fun t => t.b F.PMC_STAT_PENDING 0 = false ∧ t.pmc.struck = false ∧
      (s.pmc.action = 16 → t.f F.PMC_STAT_SNAPID 0 = s.f F.PMC_STAT_SNAPID 0 % 65535 + 1 ∧
        t.rd64 .PMC_SNAPTIME 0 = s.pmc.strike % 2 ^ 64)) ∧
  (∀ (s : State) (b : BlockId) (k : Fin 8), On s → blockOn s b.val = true → s.pmc.frozen.contains b.val = false →
    s.b F.PMC_EVT_EN (8 * b.val + k.val) = true →
    Completes (exec (.counterOverflow b k) s) fun t => t.rd64 .PMC_CNT (16 * b.val + 2 * k.val) = 0 ∧
      t.bitf F.PMC_BSTAT_OVF b.val k.val = true)

/-- MODULE_RESET, MODULE_RESET_DEASSERT, CONFIGURE_ENTRY, STAGE_VERIFICATION_DONE, WIPE_DONE, MRAM_WIPE_COMPLETE and
KEEPER_POWER_UP (R144, R402 to R404, R423, R424, R436, Table MODE-2). -/
def Obligations.ResetsComplete : Prop :=
  (∀ s : State, On s → s.env.rstLow = false →
    (mode s ≠ 0 → s.b F.CLK_OSC_SRC 0 = false → Completes (exec .moduleReset s) fun t => t.env.rstLow = true ∧ mode t = 1 ∧
      t.jrn.cmds = [] ∧ t.err.faultN = false ∧ (∀ d < 80, domState t d = 0) ∧ t.img.bank = s.img.bank) ∧
    (mode s = 0 → Completes (exec .moduleReset s) fun t => t.env.rstLow = true ∧ mode t = 0 ∧
      t.b F.GLB_MODE_THERM_LATCH 0 = false)) ∧
  (∀ (s : State) (recovery : Bool), On s → s.env.rstLow = true → mode s = 1 → s.f F.KEY_STAT_BOOT 0 = 0 →
    s.b F.CLK_OSC_SRC 0 = false →
    Completes (exec (.moduleResetDeassert recovery) s) fun t => t.env.rstLow = false ∧ t.mode.verifying = true ∧
      t.mode.recovery = recovery ∧ t.f F.KEY_STAT_BOOT 0 = 1 ∧ ∀ d ∈ bootDomains, domState t d = 1) ∧
  (∀ (s : State) (recovery : Bool), On s → mayLeaveStandby s = true → s.mode.pendCause = none →
    s.b F.CLK_OSC_SRC 0 = false →
    Completes (exec (.configureEntry recovery) s) fun t => mode t = 1 ∧ t.err.faultN = false ∧ t.mode.verifying = true ∧
      t.f F.KEY_STAT_BOOT 0 = 1 ∧ ∀ d ∈ bootDomains, domState t d = 1) ∧
  (∀ s : State, On s → s.mode.verifying = true →
    (lcState s = 4 → Completes (exec .stageVerificationDone s) fun t => t.mode.verifying = false ∧ t.mode.wiping = true ∧
      t.b F.CSN_STAT_WIPE_BUSY 0 = true ∧ t.f F.KEY_STAT_BOOT 0 = 5) ∧
    (lcState s ≠ 4 → ∀ c, (stageOrder s).find? (stagePasses s) = some c →
      Completes (exec .stageVerificationDone s) fun t => t.mode.verifying = false ∧ t.mode.wiping = true ∧
        t.b F.CSN_STAT_WIPE_BUSY 0 = true ∧ t.key.booted = some c ∧ t.f F.KEY_STAT_BOOT 0 = 2) ∧
    (lcState s ≠ 4 → (stageOrder s).find? (stagePasses s) = none →
      Completes (exec .stageVerificationDone s) fun t => t.mode.verifying = false ∧ t.mode.wiping = true ∧
        t.f F.KEY_STAT_BOOT 0 = (if (List.range 4).any (fun k => slotState s k == 1) then 4 else 3))) ∧
  (∀ s : State, On s → s.mode.wiping = true → (∀ c < 8, ¬(1 ≤ domState s (72 + c) ∧ domState s (72 + c) ≤ 3)) →
    Completes (exec .wipeDone s) fun t => t.mode.wiping = false ∧ t.b F.CSN_STAT_WIPE_BUSY 0 = false ∧
      ∀ a, chanLive s (landChan a) = true → landRd t a = 0 ∧ blockTag t a = 0) ∧
  (∀ s : State, On s → s.key.fuse.isSome = true → mode s ≠ 0 → s.b F.CLK_OSC_SRC 0 = false → s.env.rstLow = false →
    Completes (exec .mramWipeComplete s) fun t => t.key.fuse = none ∧ mode t = 1 ∧ t.mode.verifying = true ∧
      t.rcd.kring = [] ∧ t.rcd.mring = [] ∧ t.csn.remap = [] ∧ t.jrn.ckpt = []) ∧
  (∀ (s : State) (feedB low : Bool), ¬On s → s.abt.saved = [] → s.key.fuse = none →
    Completes (exec (.keeperPowerUp feedB low) s) fun t => On t ∧ mode t = 0 ∧ t.env.rstLow = low ∧
      t.img.bank = s.img.bank ∧ t.rcd.mring = s.rcd.mring ∧
      t.f F.REC_PCYCLE_VALUE 0 = min (2 ^ F.REC_PCYCLE_VALUE.width - 1) (s.f F.REC_PCYCLE_VALUE 0 + 1))

/-- IMAGE_STREAM_DONE and IMAGE_COMMIT (R308, R312 to R315): a bank that passes is accepted and shown VALID; one that fails is
shown REJECTED with its code, and the next candidate is read; the commit applies the accepted image. -/
def Obligations.LoadingCompletes : Prop :=
  (∀ (s : State) (fault : Option (Fin 56)) (b : Nat), On s → s.img.loading = some b → s.img.accepted = none →
    (imageCheck s b fault = none → Completes (exec (.imageStreamDone fault) s) fun t =>
      t.img.accepted = some (imageIn s b) ∧ t.mode.commitWait = true ∧ t.f F.GLB_IMGSTAT_LOAD 0 = 4 ∧
      t.f F.GLB_BANKSTAT_STATE b = 1 ∧ t.f F.GLB_BANKSTAT_CODE b = 0) ∧
    (∀ code i, imageCheck s b fault = some (code, i) → Completes (exec (.imageStreamDone fault) s) fun t =>
      t.img.accepted = none ∧ t.f F.GLB_BANKSTAT_STATE b = 2 ∧
      t.f F.GLB_BANKSTAT_CODE b = code % 2 ^ F.GLB_BANKSTAT_CODE.width ∧
      (∀ x rest, s.img.cand = x :: rest → t.img.loading = some x ∧ t.img.cand = rest ∧ t.f F.GLB_IMGSTAT_LOAD 0 = 1) ∧
      (s.img.cand = [] → t.img.loading = none ∧ t.f F.GLB_IMGSTAT_LOAD 0 = 6))) ∧
  (∀ (s : State) (fault : Option (Bool × Fin 55)) (b : Nat) (m : Image), On s → s.img.loading = some b →
    s.img.accepted = some m → (∀ d ∈ m.domains, ¬(1 ≤ domState s d ∧ domState s d ≤ 3)) →
    (fault = none ∨ secondStream s = false → Completes (exec (.imageCommit fault) s) fun t =>
      t.img.applied = some m ∧ t.img.loading = none ∧ t.img.accepted = none ∧ t.f F.GLB_IMGSTAT_LOAD 0 = 5 ∧
      t.f F.GLB_IMGSTAT_LOADED 0 = b % 2 ^ F.GLB_IMGSTAT_LOADED.width) ∧
    (∀ flash i, fault = some (flash, i) → secondStream s = true → Completes (exec (.imageCommit fault) s) fun t =>
      t.img.accepted = none ∧ t.img.loading = s.img.cand.head? ∧ t.img.applied = s.img.applied ∧
      t.f F.GLB_BANKSTAT_STATE b = 2 ∧ t.f F.GLB_BANKSTAT_CODE b = if flash = true then 0x0F else 0x08))

/-- BANK_ERASE, BANK_ERASE_DONE, BANK_WRITE_INLINE and ROLLBACK_ADVANCE (R303, R309, R338, R463). VERIFY, RELOAD and
BANK_VERIFY_DONE (R316): the checks of R308 on a bank; a RELOAD whose bank passes resets the module. -/
def Obligations.BanksComplete : Prop :=
  (∀ (s : State) (c : Cmd), Front s nextLong 0x10 c →
    (bankRefusal s (c.byte 8) = 0 → Completes (exec .bankErase s) fun t =>
      findCmd t c.seq = some { c with running := true } ∧ t.f F.GLB_BANKSTAT_STATE (c.byte 8) = 3) ∧
    (bankRefusal s (c.byte 8) ≠ 0 → Completes (exec .bankErase s) (Ended c jFailed (bankRefusal s (c.byte 8)) s))) ∧
  (∀ (s : State) (c : Cmd), On s → runningCmd s 0x10 = some c → findCmd s c.seq = some c →
    Completes (exec .bankEraseDone s) fun t => Ended c jDone 0 s t ∧ bankOf t (c.byte 8) = Bank.erased ∧
      t.f F.GLB_BANKSTAT_STATE (c.byte 8) = 3) ∧
  (∀ (s : State) (c : Cmd), Front s nextShort 0x12 c →
    (bankRefusal s (c.byte 8) = 0 → inBank (c.num 12 4) 48 = true → Completes (exec .bankWriteInline s) fun t =>
      Ended c jDone 0 s t ∧ bankOf t (c.byte 8) = (bankOf s (c.byte 8)).program (c.num 12 4) (c.desc.drop 16) ∧
      t.f F.GLB_BANKSTAT_STATE (c.byte 8) = 3) ∧
    (bankRefusal s (c.byte 8) = 0 → inBank (c.num 12 4) 48 = false →
      Completes (exec .bankWriteInline s) (Ended c jFailed resArg s)) ∧
    (bankRefusal s (c.byte 8) ≠ 0 →
      Completes (exec .bankWriteInline s) (Ended c jFailed (bankRefusal s (c.byte 8)) s))) ∧
  (∀ (s : State) (c : Cmd), Front s nextShort 0x18 c →
    (64 < c.byte 8 ∨ c.byte 8 < rollbackCtr s → Completes (exec .rollbackAdvance s) (Ended c jFailed resArg s)) ∧
    (c.byte 8 ≤ 64 → c.byte 8 = rollbackCtr s → Completes (exec .rollbackAdvance s) fun t => Ended c jDone 0 s t ∧
      rollbackCtr t = rollbackCtr s) ∧
    (rollbackCtr s < c.byte 8 → c.byte 8 ≤ 64 → boundsRollback s (c.byte 8) (activeBank s) = false →
      boundsRollback s (c.byte 8) 2 = false → Completes (exec .rollbackAdvance s) fun t => Ended c jDone 0 s t ∧
        rollbackCtr t = c.byte 8) ∧
    (rollbackCtr s < c.byte 8 → c.byte 8 ≤ 64 →
      boundsRollback s (c.byte 8) (activeBank s) = true ∨ boundsRollback s (c.byte 8) 2 = true →
      Completes (exec .rollbackAdvance s) fun t => Ended c jFailed 0x06 s t ∧ rollbackCtr t = rollbackCtr s)) ∧
  (∀ (s : State) (c : Cmd), Front s nextLong 0x13 c →
    (c.byte 8 ≤ 2 → mode s ≠ 0 → Completes (exec .verify s) fun t => findCmd t c.seq = some { c with running := true }) ∧
    (2 < c.byte 8 → Completes (exec .verify s) (Ended c jFailed resArg s))) ∧
  (∀ (s : State) (c : Cmd), Front s nextLong 0x14 c →
    (c.byte 8 ≤ 2 → mode s ≠ 0 → Completes (exec .reload s) fun t => findCmd t c.seq = some { c with running := true }) ∧
    (2 < c.byte 8 → Completes (exec .reload s) (Ended c jFailed resArg s))) ∧
  (∀ (s : State) (c : Cmd) (fault : Option (Fin 56)), On s → findCmd s c.seq = some c →
    (runningCmd s 0x13 = some c → imageCheck s (c.byte 8) fault = none →
      Completes (exec (.bankVerifyDone fault) s) fun t => Ended c jDone 0 s t ∧ t.f F.GLB_BANKSTAT_STATE (c.byte 8) = 1 ∧
        t.f F.GLB_BANKSTAT_CODE (c.byte 8) = 0) ∧
    (∀ code i, (runningCmd s 0x13).or (runningCmd s 0x14) = some c → imageCheck s (c.byte 8) fault = some (code, i) →
      Completes (exec (.bankVerifyDone fault) s) fun t => Ended c jFailed code s t ∧
        t.f F.GLB_BANKSTAT_STATE (c.byte 8) = 2 ∧
        t.f F.GLB_BANKSTAT_CODE (c.byte 8) = code % 2 ^ F.GLB_BANKSTAT_CODE.width) ∧
    (runningCmd s 0x13 = none → runningCmd s 0x14 = some c → imageCheck s (c.byte 8) fault = none →
      mode s ≠ 0 → s.b F.CLK_OSC_SRC 0 = false → s.env.rstLow = false →
      Completes (exec (.bankVerifyDone fault) s) fun t => t.jrn.cmds = [] ∧ mode t = 1 ∧ t.mode.verifying = true ∧
        t.mode.recovery = (c.byte 8 == 2 || s.env.recoveryLow) ∧ t.img.bank = s.img.bank))

/-- LIVE_APPLY and the ends of the states of a live replacement (R317 to R325, Table IMG-9). PROBATION_END, LIVE_CONFIRM,
LIVE_ROLLBACK and ROLLBACK_DONE: how a live replacement ends (R324, R325, Table IMG-9). -/
def Obligations.LiveReplacementCompletes : Prop :=
  (∀ (s : State) (c : Cmd), Front s nextLong 0x15 c →
    (∀ m, s.img.applied = some m → c.byte 8 ≤ 7 → liveAllowed s (c.byte 8) = true →
      Completes (exec .liveApply s) fun t => t.img.live = some ⟨c.seq, false, m, m, [], 0, false⟩ ∧ liveSt t = 1 ∧
        livePier t = c.byte 8 ∧ findCmd t c.seq = some { c with running := true }) ∧
    (7 < c.byte 8 → Completes (exec .liveApply s) (Ended c jFailed resArg s)) ∧
    (c.byte 8 ≤ 7 → liveAllowed s (c.byte 8) = false → Completes (exec .liveApply s) (Ended c jFailed 0x12 s))) ∧
  (∀ (s : State) (l : Live) (fault : Option (Fin 56)), On s → s.img.live = some l → liveSt s = 1 →
    let m := imageIn s (1 - activeBank s)
    let r := ((imageCheck s (1 - activeBank s) fault).or (bindingCheck s m (livePier s))).or
      (scopeCheck s l.old m (livePier s))
    (r = none → Completes (exec (.liveVerifyDone fault) s) fun t => liveSt t = 2 ∧
      t.img.live = some { l with image := m, changed := changedPorts l.old m (livePier s) }) ∧
    (∀ c code i, r = some (code, i) → findCmd s l.cmd = some c → c.op = 0x15 →
      Completes (exec (.liveVerifyDone fault) s) fun t => Ended c jFailed code s t ∧ t.img.live = none ∧ liveSt t = 0)) ∧
  (∀ (s : State) (l : Live), On s → s.img.live = some l → liveSt s = 2 →
    (lockedChange s l.image (segKeys s l.old l.image (livePier s)) = false →
      Completes (exec .liveStageDone s) fun t => liveSt t = 3 ∧ t.img.live = some l) ∧
    (∀ c, lockedChange s l.image (segKeys s l.old l.image (livePier s)) = true → findCmd s l.cmd = some c → c.op = 0x15 →
      Completes (exec .liveStageDone s) fun t => Ended c jFailed 0x11 s t ∧ t.img.live = none ∧ liveSt t = 0)) ∧
  (∀ (s : State) (l : Live), On s → s.img.live = some l → liveSt s = 3 →
    Completes (exec .liveDrainDone s) fun t => liveSt t = 4 ∧ t.img.live = some l) ∧
  (∀ (s : State) (l : Live), On s → s.img.live = some l → liveSt s = 4 → pierMoving s (livePier s) = false →
    (upperFour (livePier s)).all (atRest s) = true →
    lockedChange s l.image (segKeys s l.old l.image (livePier s)) = false →
    Completes (exec .liveSwapADone s) fun t => t.img.applied = some l.image ∧ t.img.live = some { l with committed := true } ∧
      t.host.vsw = l.image.vsw) ∧
  (∀ (s : State) (l : Live), On s → s.img.live = some l → liveSt s = 5 → pierMoving s (livePier s) = false →
    (lowerFour (livePier s)).all (atRest s) = true →
    Completes (exec .liveCommitDone s) fun t => liveSt t = (if l.code = 0 then 6 else 8) ∧ t.img.live = some l) ∧
  (∀ (s : State) (l : Live), On s → s.img.live = some l → liveSt s = 6 → pierMoving s (livePier s) = false →
    l.waitReduced = false → Completes (exec .liveSwapBDone s) fun t => liveSt t = 7 ∧ t.img.live = some l) ∧
  (∀ (s : State) (l : Live) (c : Cmd), On s → s.img.live = some l → liveSt s = 7 → findCmd s l.cmd = some c → c.op = 0x15 →
    Completes (exec .probationEnd s) fun t => Ended c jDone 0 s t ∧ t.img.live = none ∧ liveSt t = 0 ∧
      activeBank t = 1 - activeBank s ∧ t.rd .GLB_SEGBUILD (livePier s) = BitVec.ofNat 32 l.image.build) ∧
  (∀ (s : State) (c : Cmd), Front s nextShort 0x16 c →
    (∀ l d, s.img.live = some l → liveSt s = 7 → findCmd s l.cmd = some d → d.op = 0x15 →
      Completes (exec .liveConfirm s) fun t => Ended c jDone 0 s t ∧ Ended d jDone 0 s t ∧ t.img.live = none ∧
        liveSt t = 0 ∧ activeBank t = 1 - activeBank s) ∧
    (liveSt s ≠ 7 → Completes (exec .liveConfirm s) (Ended c jFailed 0x12 s))) ∧
  (∀ (s : State) (c : Cmd), Front s nextShort 0x17 c →
    (∀ l, s.img.live = some l → liveSt s = 6 ∨ liveSt s = 7 →
      Completes (exec .liveRollback s) fun t => Ended c jDone 0 s t ∧ liveSt t = 8 ∧
        t.img.live = some { l with code := 0x14 }) ∧
    (liveSt s ≠ 6 → liveSt s ≠ 7 → Completes (exec .liveRollback s) (Ended c jFailed 0x12 s))) ∧
  (∀ (s : State) (l : Live) (c : Cmd), On s → s.img.live = some l → liveSt s = 8 → pierMoving s (livePier s) = false →
    l.waitReduced = false → findCmd s l.cmd = some c → c.op = 0x15 →
    Completes (exec .rollbackDone s) fun t => t.img.live = none ∧ liveSt t = 0 ∧ t.img.applied = some l.old ∧
      ∀ d ∈ t.jrn.cmds, d.seq ≠ c.seq)

/-- HOUR_TICK, ABUTMENT_SAMPLE, POWER_LIMITER_RELEASE, SHUTDOWN_COMPLETE, KEEPER_STOP, FIRST_RAMP_STOP, VOLTAGE_CAUSE_RAISE and
VOLTAGE_CAUSE_DROP (R348, R371, R389, R391, R392, R394, R395, R409, R418). -/
def Obligations.SupplyCompletes : Prop :=
  (∀ s : State, On s → Completes (exec .hourTick s) fun t =>
    t.f F.REC_HOURS_VALUE 0 = min (2 ^ F.REC_HOURS_VALUE.width - 1) (s.f F.REC_HOURS_VALUE 0 + 1) ∧
    t.abt.savedEnergy = s.rd64 .ABT_ENERGY 0 ∧ t.mode.secs = 0) ∧
  (∀ (s : State) (x : AbtSample), On s → Completes (exec (.abutmentSample x) s) fun t =>
    t.f F.ABT_VIN_VOLTS 0 = x.a.vin.toNat ∧ t.f F.ABT_VIN_VOLTS 1 = x.b.vin.toNat ∧
    t.f F.ABT_IIN_AMPS 0 = x.a.iin.toNat ∧ t.f F.ABT_IIN_AMPS 1 = x.b.iin.toNat ∧
    t.f F.ABT_VOUT_VOLTS 0 = x.vout.toNat ∧ t.f F.ABT_RES_VOLTS 0 = x.res.toNat ∧
    t.f F.ABT_VMIN_VMIN 0 ≤ s.f F.ABT_VMIN_VMIN 0) ∧
  (∀ s : State, On s → Completes (exec .powerLimiterRelease s) fun t => t.ports.power = false ∧ Only [.ports] [] s t) ∧
  (∀ s : State, On s → supply s = 4 → s.b F.JNL_STAT_CHKPT_BUSY 0 = false → s.rcd.flushing = false →
    Completes (exec .shutdownComplete s) fun t => (supply t = 0 ∨ supply t = 1) ∧ t.abt.shutdown = false ∧
      t.abt.savedEnergy = s.rd64 .ABT_ENERGY 0) ∧
  (∀ s : State, On s → Completes (exec .keeperStop s) fun t => ¬On t ∧ Only [.env] [] s t) ∧
  (∀ s : State, On s → s.abt.firstRamp = true → supply s = 1 →
    Completes (exec .firstRampStop s) fun t => t.abt.firstRamp = false ∧ supply t = 0 ∧ feedSt t (activeFeed s) = 1) ∧
  (∀ s : State, On s → s.b F.ABT_STAT_REDUCE_REQ 0 = false → supplyIn s < reduceU s → s.img.live = none →
    Completes (exec .voltageCauseRaise s) fun t => t.b F.ABT_STAT_REDUCE_REQ 0 = true ∧
      t.b F.GLB_MODE_CAUSE_VOLT 0 = true ∧
      (2 ≤ mode s → mode s ≤ 4 → liveSt s = 0 → mode t = 5 ∧ t.b F.GLB_MODE_ENTERING 0 = true)) ∧
  (∀ s : State, On s → s.b F.ABT_STAT_REDUCE_REQ 0 = true → reduceU s + hystU s ≤ supplyIn s → s.img.live = none →
    Completes (exec .voltageCauseDrop s) fun t => t.b F.ABT_STAT_REDUCE_REQ 0 = false ∧
      t.b F.GLB_MODE_CAUSE_VOLT 0 = false)

/-- FEED_QUALIFIED, RAMP_END, FAST_TRIP, FAULT_TIMER_EXPIRY, RETRY_WAIT_EXPIRY, RETRIES_CLEAR, OVERVOLTAGE_RECOVERY,
SWITCHOVER_OFF_CONFIRMED, SWITCHOVER_CLOSE, SWITCHOVER_CONFIRM_TIMEOUT and FAILBACK_TIMER (R373 to R382). -/
def Obligations.FeedsComplete : Prop :=
  (∀ (s : State) (f : FeedId), On s → usable s f.val = true → 3000 ≤ vinOf s f.val → resetU s + 150 ≤ vinOf s f.val →
    Completes (exec (.feedQualified f) s) fun t => (feed t f.val).qual = true ∧
      (supply s = 0 → supplied s = false → s.abt.firstRamp = false → s.f F.ABT_CFG_PRIMARY 0 = f.val →
        feedSt t f.val = 2 ∧ supply t = 1 ∧ activeFeed t = f.val)) ∧
  (∀ (s : State) (f : FeedId), On s → feedSt s f.val = 2 → (feed s f.val).timer = false →
    Completes (exec (.rampEnd f) s) fun t => feedSt t f.val = 3 ∧ activeFeed t = f.val ∧ supplied t = true ∧ supply t = 2) ∧
  (∀ (s : State) (f : FeedId), On s → driven s f.val = true →
    Completes (exec (.fastTrip f) s) fun t => t.f F.ABT_FEED_LASTOFF f.val = 1 ∧
      feedSt t f.val = (if s.b F.ABT_CFG_RETRY 0 = true ∧ s.f F.ABT_FEED_RETRIES f.val < 3 then 5 else 6) ∧
      t.f F.ABT_FEED_TRIPS f.val = min (2 ^ F.ABT_FEED_TRIPS.width - 1) (s.f F.ABT_FEED_TRIPS f.val + 1) ∧
      t.bitf F.ABT_EVENT_EVENT 0 9 = true) ∧
  (∀ (s : State) (f : FeedId), On s → feedSt s f.val = 2 ∨ feedSt s f.val = 4 → (feed s f.val).timer = true →
    Completes (exec (.faultTimerExpiry f) s) fun t => t.f F.ABT_FEED_LASTOFF f.val = 2 ∧
      feedSt t f.val = (if s.b F.ABT_CFG_RETRY 0 = true ∧ s.f F.ABT_FEED_RETRIES f.val < 3 then 5 else 6) ∧
      t.bitf F.ABT_EVENT_EVENT 0 8 = true) ∧
  (∀ (s : State) (f : FeedId), On s → feedSt s f.val = 5 →
    Completes (exec (.retryWaitExpiry f) s) fun t => (feedSt t f.val = 1 ∨ feedSt t f.val = 2) ∧
      t.f F.ABT_FEED_RETRIES f.val = (s.f F.ABT_FEED_RETRIES f.val + 1) % 2 ^ F.ABT_FEED_RETRIES.width) ∧
  (∀ (s : State) (f : FeedId), On s → feedSt s f.val = 3 →
    Completes (exec (.retriesClear f) s) fun t => t.f F.ABT_FEED_RETRIES f.val = 0 ∧ Only [] [.ABT_FEED] s t) ∧
  (∀ (s : State) (f : FeedId), On s → (feed s f.val).ov = true → vinOf s f.val ≤ 30500 →
    Completes (exec (.overvoltageRecovery f) s) fun t => (feed t f.val).ov = false ∧
      (s.b F.ABT_FCTL_EN f.val = true → 500 ≤ vinOf s f.val → feedSt t f.val = 1)) ∧
  (∀ (s : State) (w : Switch), On s → s.abt.switch = some w → w.step = 2 →
    (Completes (exec .switchoverOffConfirmed s) fun t => t.abt.switch = some { w with step := 3 } ∧ Only [.abt] [] s t) ∧
    (Completes (exec .switchoverConfirmTimeout s) fun t => t.abt.switch = none ∧ t.b F.ABT_STAT_SWITCHING 0 = false ∧
      feedSt t w.src = 7 ∧ t.f F.ABT_FEED_LASTOFF w.src = 5 ∧ t.b F.ABT_STAT_PG 0 = false)) ∧
  (∀ (s : State) (w : Switch), On s → s.abt.switch = some w → w.step = 3 → w.dst < 2 →
    (usable s w.dst = true → Completes (exec .switchoverClose s) fun t => t.abt.switch = none ∧
      t.b F.ABT_STAT_SWITCHING 0 = false ∧ feedSt t w.dst = 3 ∧ activeFeed t = w.dst ∧ supplied t = true) ∧
    (usable s w.dst = false → Completes (exec .switchoverClose s) fun t => t.abt.switch = none ∧
      t.b F.ABT_STAT_SWITCHING 0 = false ∧ supplied t = false ∧ t.b F.ABT_STAT_PG 0 = false)) ∧
  (∀ s : State, On s → s.b F.ABT_CFG_FAILBACK 0 = true → switchable s (s.f F.ABT_CFG_PRIMARY 0) = true →
    Completes (exec .failbackTimer s) fun t => t.abt.switch = some ⟨activeFeed s, s.f F.ABT_CFG_PRIMARY 0, 2⟩ ∧
      t.b F.ABT_STAT_SWITCHING 0 = true ∧ feedSt t (activeFeed s) = 1)

/-- The PMBus commands of Table ABT-10, while ABT_PMB.EN is 1 (R398): what each returns, and what each write changes. The value
of a word that LINEAR11 does not hold exactly, a tie, and the layout of CAPABILITY and STATUS_WORD are log entry 27's. -/
def Obligations.PmbusCompletes : Prop :=
  ∀ s : State, On s → s.b F.ABT_PMB_EN 0 = true →
    (∀ pecOk, Completes (exec (.page none pecOk) s) fun t => t.sb.reply = leBytes s.abt.page 1 ∧ Only [.sb] [] s t) ∧
    (∀ x : Byte, x = 0 ∨ x = 1 ∨ x = 0xFF →
      Completes (exec (.page (some x) true) s) fun t => t.abt.page = x.toNat ∧ Only [.abt] [] s t) ∧
    (∀ x, Completes (exec (.page (some x) false) s) fun t => Only [] [] s t) ∧
    (Lands .ABT_EVENT 0 ⟨.sideband, 0b0011, BitVec.ofNat 32 0xFFFE⟩ s → Completes (exec (.clearFaults true) s) fun t =>
      t.f F.ABT_EVENT_EVENT 0 = 0 ∧ t.abt.sticky = 0) ∧
    (Completes (exec (.clearFaults false) s) fun t => Only [] [] s t) ∧
    (Completes (exec .capability s) fun t => t.sb.reply = [0xC0] ∧ Only [.sb] [] s t) ∧
    (∀ pecOk, Completes (exec (.vinUvWarnLimit none pecOk) s) fun t =>
      t.sb.reply = leBytes (toLinear (-4) (16 * (warnU s / 5 : Nat)) 100 s).1 2) ∧
    (∀ x : BitVec 16, let v := fromLinear x 100 13 s
      let w : RegW := ⟨.sideband, 0b0011, BitVec.ofNat 32 v.1⟩
      Lands .ABT_VTHR0 0 w v.2 → resetU s < voltU v.1 → resetU s < reduceU s →
      Completes (exec (.vinUvWarnLimit (some x) true) s) fun t => t.f F.ABT_VTHR0_WARN_V 0 = v.1) ∧
    (∀ pecOk, Completes (exec (.vinUvFaultLimit none pecOk) s) fun t =>
      t.sb.reply = leBytes (toLinear (-4) (16 * (resetU s / 5 : Nat)) 100 s).1 2) ∧
    (∀ x : BitVec 16, let v := fromLinear x 100 13 s
      let w : RegW := ⟨.sideband, 0b0011, BitVec.ofNat 32 v.1⟩
      Lands .ABT_VTHR1 0 w v.2 → voltU v.1 < warnU s → voltU v.1 < reduceU s →
      Completes (exec (.vinUvFaultLimit (some x) true) s) fun t => t.f F.ABT_VTHR1_RESET_V 0 = v.1) ∧
    (∀ pecOk, Completes (exec (.iinOcFaultLimit none pecOk) s) fun t =>
      t.sb.reply = leBytes (toLinear (-3) (8 * (ilim s : Nat)) 4 s).1 2) ∧
    (∀ x : BitVec 16, let v := fromLinear x 4 9 s
      let w : RegW := ⟨.sideband, 0b0011, BitVec.ofNat 32 v.1⟩
      Lands .ABT_ILIM 0 w v.2 →
      Completes (exec (.iinOcFaultLimit (some x) true) s) fun t => t.f F.ABT_ILIM_ILIM 0 = v.1) ∧
    (Completes (exec .statusInput s) fun t => t.sb.reply = leBytes (statusInput s) 1 ∧ Only [.sb] [] s t) ∧
    (Completes (exec .statusWord s) fun t => Only [.sb] [] s t ∧ ∃ w, t.sb.reply = leBytes w 2 ∧
      w.testBit 13 = (statusInput s != 0) ∧ w.testBit 11 = !s.b F.ABT_STAT_PG 0) ∧
    (∀ f < 2, s.abt.page = f →
      (Completes (exec .readVin s) fun t => t.sb.reply = leBytes (toLinear (-4) (16 * (vinOf s f : Int)) 500 s).1 2) ∧
      (Completes (exec .readIin s) fun t => t.sb.reply = leBytes (toLinear (-3) (8 * iinOf s f) 250 s).1 2) ∧
      (Completes (exec .readTemperature1 s) fun t =>
        t.sb.reply = leBytes (toLinear (-2) (signed16 (s.f F.ABT_TEMP_TEMP f)) 4 s).1 2) ∧
      (Completes (exec .readPin s) fun t =>
        t.sb.reply = leBytes (toLinear 0 (8 * (vinOf s f : Int) * iinOf s f) 1000000 s).1 2)) ∧
    (2 ≤ s.abt.page →
      (Completes (exec .readVin s) fun t => t.sb.reply = leBytes (toLinear (-4) (16 * (supplyIn s : Int)) 500 s).1 2) ∧
      (Completes (exec .readIin s) fun t => t.sb.reply = leBytes (toLinear (-3) (8 * (iinOf s 0 + iinOf s 1)) 250 s).1 2) ∧
      (Completes (exec .readTemperature1 s) fun t => ∃ w, t.sb.reply = leBytes w 2) ∧
      (Completes (exec .readPin s) fun t => t.sb.reply = leBytes (toLinear 0 (s.f F.ABT_PIN_WATTS 0) 40 s).1 2)) ∧
    (Completes (exec .pmbusRevision s) fun t => t.sb.reply = [0x44] ∧ Only [.sb] [] s t) ∧
    (Completes (exec .mfrReadEnergy s) fun t => Only [.sb] [] s t ∧
      t.sb.reply = leBytes 7 1 ++ leBytes (s.rd64 .ABT_ENERGY 0 % 2 ^ 48) 6 ++ leBytes (s.f F.ABT_ENERGY_WRAPPED 1) 1)

/-- SETADDR, WRITE, WRITE_INC, READ, READ_INC, RESULT, SIDEBAND_ACCESS_DONE, DYNAMIC_ADDRESS_ASSIGNMENT and IO_BANK_SWITCH
(R225 to R227, R445): a command that is taken, and one that is not; an access that is refused, or past the register space, ends
at once. An access takes effect at its completion (log entry 28: the model's choice). -/
def Obligations.SidebandCompletes : Prop :=
  (∀ (s : State) (x : SbTx), Taken s x 4 → let a := leNum x.bytes
    (a < 0x04000000 → a % 4 = 0 → Completes (exec (.setaddr x) s) fun t => t.sb.ptr = a ∧ t.f F.GLB_SBSTAT_LAST 0 = 0 ∧
      t.sb.count = (s.sb.count + 1) % 256) ∧
    (0x04000000 ≤ a ∨ a % 4 ≠ 0 → Completes (exec (.setaddr x) s) fun t => t.sb.ptr = s.sb.ptr ∧
      t.f F.GLB_SBSTAT_LAST 0 = sbRange)) ∧
  (∀ (s : State) (x : SbTx), Taken s x 4 → s.sb.ptr < 0x04000000 → sbRefused s s.sb.ptr = false →
    (Completes (exec (.write x) s) fun t => t.sb.access = some (true, s.sb.ptr, BitVec.ofNat 32 (leNum x.bytes)) ∧
      t.sb.ptr = s.sb.ptr ∧ t.f F.GLB_SBSTAT_LAST 0 = sbPending) ∧
    (Completes (exec (.writeInc x) s) fun t => t.sb.access = some (true, s.sb.ptr, BitVec.ofNat 32 (leNum x.bytes)) ∧
      t.sb.ptr = s.sb.ptr + 4 ∧ t.f F.GLB_SBSTAT_LAST 0 = sbPending)) ∧
  (∀ (s : State) (x : SbTx), Taken s x 0 → s.sb.ptr < 0x04000000 → sbRefused s s.sb.ptr = false →
    (Completes (exec (.read x) s) fun t => (∃ v, t.sb.access = some (false, s.sb.ptr, v)) ∧ t.sb.ptr = s.sb.ptr ∧
      t.f F.GLB_SBSTAT_LAST 0 = sbPending) ∧
    (Completes (exec (.readInc x) s) fun t => (∃ v, t.sb.access = some (false, s.sb.ptr, v)) ∧ t.sb.ptr = s.sb.ptr + 4 ∧
      t.f F.GLB_SBSTAT_LAST 0 = sbPending)) ∧
  (∀ (s : State) (x : SbTx) (r : Reg) (k : Nat), s.sb.ptr < 0x04000000 → sbRefused s s.sb.ptr = true →
    regAt s.sb.ptr = some (r, k) →
    (Taken s x 4 → ∀ i ∈ [Instr.write x, .writeInc x], Completes (exec i s) fun t => t.sb.access = none ∧
      (r ∉ Reg.entry → t.rd r k = s.rd r k) ∧ t.f F.GLB_SBSTAT_LAST 0 = accessStatus false s r k % 2 ^ F.GLB_SBSTAT_LAST.width) ∧
    (Taken s x 0 → ∀ i ∈ [Instr.read x, .readInc x], Completes (exec i s) fun t => t.sb.access = none ∧
      t.sb.data = sbNoData ∧ t.f F.GLB_SBSTAT_LAST 0 = accessStatus false s r k % 2 ^ F.GLB_SBSTAT_LAST.width)) ∧
  (∀ (s : State) (x : SbTx), 0x04000000 ≤ s.sb.ptr →
    (Taken s x 4 → ∀ i ∈ [Instr.write x, .writeInc x], Completes (exec i s) fun t => t.sb.access = none ∧
      t.f F.GLB_SBSTAT_LAST 0 = sbRange) ∧
    (Taken s x 0 → ∀ i ∈ [Instr.read x, .readInc x], Completes (exec i s) fun t => t.sb.access = none ∧
      t.f F.GLB_SBSTAT_LAST 0 = sbRange)) ∧
  (∀ (s : State) (x : SbTx), On s → sbAnswers s x.pec = true → s.sb.access.isSome = true →
    ∀ i ∈ [Instr.setaddr x, .write x, .writeInc x, .read x, .readInc x], Completes (exec i s) fun t =>
      t.f F.GLB_SBSTAT_NACKS 0 = min (2 ^ F.GLB_SBSTAT_NACKS.width - 1) (s.f F.GLB_SBSTAT_NACKS 0 + 1) ∧
      Only [] [.GLB_SBSTAT] s t) ∧
  (∀ (s : State) (pec : Option Bool), On s → sbAnswers s pec = true → Completes (exec (.result pec) s) fun t =>
    t.sb.reply = leBytes (s.f F.GLB_SBSTAT_LAST 0) 1 ++ leBytes s.sb.count 1 ++ leBytes s.sb.data.toNat 4 ∧
    Only [.sb] [] s t) ∧
  (∀ (s : State) (off : Nat) (v : Word), On s →
    (s.sb.access = some (true, off, v) → let x := regWriteIn true off ⟨.sideband, 0xF, v⟩ { s with sb.access := none }
      Completes (exec .sidebandAccessDone s) fun t => t.sb.access = none ∧
        t.f F.GLB_SBSTAT_LAST 0 = x.1 % 2 ^ F.GLB_SBSTAT_LAST.width) ∧
    (s.sb.access = some (false, off, v) → let x := regReadIn true .sideband off { s with sb.access := none }
      Completes (exec .sidebandAccessDone s) fun t => t.sb.access = none ∧
        t.f F.GLB_SBSTAT_LAST 0 = x.1 % 2 ^ F.GLB_SBSTAT_LAST.width ∧ (x.1 = 0 → t.sb.data = x.2.1))) ∧
  (∀ (s : State) (a : Fin 128), On s → s.b F.GLB_SBCFG_I3C_EN 0 = true →
    Completes (exec (.dynamicAddressAssignment a) s) fun t => t.sb.dyn = some a.val ∧ Only [.sb] [] s t) ∧
  (∀ (s : State) (l : Nat), On s → s.sb.levelWait = some l →
    Completes (exec .ioBankSwitch s) fun t => t.sb.levelWait = none ∧ t.bitf F.GLB_IOCFG_LEVEL 0 0 = (l % 2 == 1) ∧
      Only [.sb] [.GLB_IOCFG] s t)

/-- SET_ENDPOINT_ID, GET_ENDPOINT_ID, GET_ENDPOINT_UUID, GET_MCTP_VERSION_SUPPORT, GET_MESSAGE_TYPE_SUPPORT and
MCTP_VENDOR_MESSAGE at an endpoint that is reached (R224, R332); the forms of the messages are log entry 20's. -/
def Obligations.MctpCompletes : Prop :=
  ∀ (s : State) (v : VsId) (r : MctpFrom), On s → mctpUp s v.val = true →
    (∀ eid : Byte, eid ≠ 0 → eid ≠ 0xFF → Completes (exec (.setEndpointId v r eid) s) fun t =>
      mctpEid t v.val = eid.toNat ∧ McTp s t v.val r (mcBody r 0x01 0 [0, eid, 0])) ∧
    (∀ eid : Byte, eid = 0 ∨ eid = 0xFF → Completes (exec (.setEndpointId v r eid) s) fun t =>
      mctpEid t v.val = mctpEid s v.val ∧ McTp s t v.val r (mcBody r 0x01 0x02 [])) ∧
    (Completes (exec (.getEndpointId v r) s) fun t =>
      McTp s t v.val r (mcBody r 0x02 0 (leBytes (mctpEid s v.val) 1 ++ [0, 0]))) ∧
    (Completes (exec (.getEndpointUuid v r) s) fun t => ∃ u, u.length = 16 ∧ McTp s t v.val r (mcBody r 0x03 0 u)) ∧
    (∀ ty : Byte, ty = 0xFF ∨ ty = 0 ∨ ty = 0x7E → Completes (exec (.getMctpVersionSupport v r ty) s) fun t =>
      ∃ u, u.length = 4 ∧ McTp s t v.val r (mcBody r 0x04 0 ([1] ++ u))) ∧
    (∀ ty : Byte, ty ≠ 0xFF → ty ≠ 0 → ty ≠ 0x7E → Completes (exec (.getMctpVersionSupport v r ty) s) fun t =>
      McTp s t v.val r (mcBody r 0x04 0x80 [])) ∧
    (Completes (exec (.getMessageTypeSupport v r) s) fun t => McTp s t v.val r (mcBody r 0x05 0 [1, 0x7E])) ∧
    (∀ (vendor : BitVec 16) (desc : List Byte), vendor.toNat = s.f F.GLB_ID_VENDOR 0 → desc.length = 64 → serves s = true →
      (rejection s desc = 0 → Completes (exec (.mctpVendorMessage v r vendor desc) s) fun t =>
        (∃ c ∈ t.jrn.cmds, c.seq = s.jrn.next ∧ c.desc = desc ∧ c.bank = some v.val) ∧
        t.f F.JNL_CMDRES_STATE v.val = 2 ∧ t.rd64 .JNL_CMDSEQ (2 * v.val) = s.jrn.next % 2 ^ 64) ∧
      (rejection s desc ≠ 0 → Completes (exec (.mctpVendorMessage v r vendor desc) s) fun t => t.jrn.cmds = s.jrn.cmds ∧
        t.f F.JNL_CMDRES_STATE v.val = 4 ∧ t.f F.JNL_CMDRES_RESULT v.val = rejection s desc ∧
        McTp s t v.val r ([0x7E] ++ leBytes 4 1 ++ leBytes (rejection s desc) 2 ++
          leBytes (s.rd64 .JNL_CMDSEQ (2 * v.val)) 8)))

/-- CONFIGURATION_REQUEST, CONFIG_ADMISSION, FUNCTION_READY and PTM_REQUEST (R175, R178, R202, R292): a request for the engines
waits at its pier or becomes the CFG event of its duty; functions become ready, and are announced where ROMT says so; a PTM
request is answered with the time of its virtual switch, which asks its host in turn. The code of the PTM response is the
model's (log entry 9). -/
def Obligations.HostRequestsComplete : Prop :=
  (∀ (s : State) (p : PortId) (t : Tlp) (e : Entry), On s → entryOf s p.val t = some e → t.kind = .cfgRd ∨ t.kind = .cfgWr →
    linkUp s p.val = true → tenantClosed s e.tenant = false → (route s e.v e.fn t).dest = .config →
    let r : CfgReq := ⟨t, p.val, e.v⟩
    let q := SMap.get [] s.eng.cfgWait (pierOf p.val)
    ((∃ x ∈ q, x.vs = e.v) → Completes (exec (.configurationRequest p t) s) fun u =>
      SMap.get [] u.eng.cfgWait (pierOf p.val) = q ++ [r]) ∧
    (q = [] → cfgMay s r = false → Completes (exec (.configurationRequest p t) s) fun u =>
      SMap.get [] u.eng.cfgWait (pierOf p.val) = [r]) ∧
    (∀ n d, q = [] → cfgMay s r = true → cfgDuty s e.v = some (n, d) →
      Completes (exec (.configurationRequest p t) s) fun u => SMap.get [] u.eng.cfgWait (pierOf p.val) = [] ∧
        Has u ⟨n, d, .cfg (t.kind == .cfgWr) r⟩)) ∧
  (∀ (s : State) (n : PierId) (r : CfgReq) (m d : Nat), On s →
    (SMap.get [] s.eng.cfgWait n.val).find? (cfgMay s) = some r → cfgDuty s r.vs = some (m, d) →
    Completes (exec (.configAdmission n) s) fun t =>
      SMap.get [] t.eng.cfgWait n.val = (SMap.get [] s.eng.cfgWait n.val).erase r ∧
      Has t ⟨m, d, .cfg (r.tlp.kind == .cfgWr) r⟩) ∧
  (∀ (s : State) (v : VsId), On s → SMap.find? s.host.inReset v.val = none →
    (Completes (exec (.functionReady v) s) fun t => Only Piece.queueing (.GLB_VSSTAT :: Reg.queueing) s t ∧
      (∀ k ∈ t.host.crs, k / 64 = v.val → k ∈ s.host.flr) ∧
      ((∀ k ∈ s.host.flr, k / 64 ≠ v.val) → t.b F.GLB_VSSTAT_NOTREADY v.val = false)) ∧
    (∀ d, vsDef s v.val = some d → d.ready = true → linkUp s d.up.val = true → (∀ k ∈ s.host.flr, k / 64 ≠ v.val) →
      (∃ k ∈ s.host.crs, k / 64 = v.val) → Completes (exec (.functionReady v) s) fun t =>
        ∃ e, egressQ t d.up.val 0 = egressQ s d.up.val 0 ++ [e] ∧ e.c.tlp.kind = .msg)) ∧
  (∀ (s : State) (p : PortId) (v j : Nat) (d : VsDef), On s → linkUp s p.val = true → vsOfDown s p.val = some (v, j) →
    vsDef s v = some d → d.up.val ≠ p.val →
    (capBit s v (fnBridge j) .ptm 0x8 0 = true → Completes (exec (.ptmRequest p) s) fun t =>
      (∃ e, egressQ t p.val 0 = egressQ s p.val 0 ++ [e] ∧ e.c.tlp.kind = .msg ∧ e.c.tlp.code = 0x53 ∧
        (∀ x, ptmTime s v = some x → e.c.tlp.data = leBytes x 8 ++ leBytes 0 4) ∧
        (ptmTime s v = none → e.c.tlp.data = [])) ∧
      (ptmRoot s v = false → capBit s v fnUp .ptm 0x8 0 = true → linkUp s d.up.val = true →
        SMap.find? t.host.ptmAsked v = some s.env.now ∧
          ∃ e, egressQ t d.up.val 0 = egressQ s d.up.val 0 ++ [e] ∧ e.c.tlp.code = 0x52)) ∧
    (capBit s v (fnBridge j) .ptm 0x8 0 = false → Completes (exec (.ptmRequest p) s) fun t => Only [] [] s t)) ∧
  (∀ (s : State) (p : PortId) (b : HomeBind) (x : Nat), On s → linkUp s p.val = true → vsOfDown s p.val = none →
    SMap.find? s.host.home p.val = some b → ptmRemote s b = some x → Completes (exec (.ptmRequest p) s) fun t =>
      ∃ e, egressQ t p.val 0 = egressQ s p.val 0 ++ [e] ∧ e.c.tlp.data = leBytes x 8 ++ leBytes 0 4)

/-- PERST_IN_ASSERT, PERST_IN_DEASSERT, HOT_RESET, SECONDARY_BUS_RESET, SECONDARY_BUS_RESET_CLEAR, FUNCTION_LEVEL_RESET and
FLR_COMPLETE (R178, R190 to R192, R219). -/
def Obligations.HostResetsComplete : Prop :=
  (∀ (s : State) (i : Fin 16), On s → s.bitf F.GLB_PERST_LEVEL 0 i.val = false →
    (perstVs s i.val = none → Completes (exec (.perstInAssert i) s) fun t => t.bitf F.GLB_PERST_LEVEL 0 i.val = true ∧
      Only [] [.GLB_PERST] s t) ∧
    (∀ v p, perstVs s i.val = some (v, p) → (vsDef s v).isSome = true → SMap.find? s.host.inReset v = none →
      Completes (exec (.perstInAssert i) s) fun t => t.bitf F.GLB_PERST_LEVEL 0 i.val = true ∧
        SMap.find? t.host.inReset v = some 2 ∧ t.f F.GLB_VSSTAT_RSTCAUSE v = 2)) ∧
  (∀ (s : State) (i : Fin 16), On s → s.bitf F.GLB_PERST_LEVEL 0 i.val = true →
    (perstVs s i.val = none → Completes (exec (.perstInDeassert i) s) fun t => t.bitf F.GLB_PERST_LEVEL 0 i.val = false ∧
      Only [] [.GLB_PERST] s t) ∧
    (∀ v p, perstVs s i.val = some (v, p) → SMap.find? s.host.inReset v = some 2 →
      Completes (exec (.perstInDeassert i) s) fun t => t.bitf F.GLB_PERST_LEVEL 0 i.val = false ∧
        SMap.find? t.host.inReset v = none ∧ p ∉ t.host.l2)) ∧
  (∀ (s : State) (p : PortId) (v : Nat), On s → vsOfUp s p.val = some v → linkUp s p.val = true →
    (vsDef s v).isSome = true → SMap.find? s.host.inReset v = none →
    Completes (exec (.hotReset p) s) fun t => SMap.find? t.host.inReset v = some 3 ∧ t.f F.GLB_VSSTAT_RSTCAUSE v = 3 ∧
      ltssm t p.val = 0x2C) ∧
  (∀ (s : State) (p : PortId) (v fn : Nat) (d : VsDef), On s → fnOfPort s p.val = some (v, fn) → vsDef s v = some d →
    cfgBit s v fn 0x3C 22 = false →
    (fn = fnUp → SMap.find? s.host.inReset v = none → Completes (exec (.secondaryBusReset p) s) fun t =>
      SMap.find? t.host.inReset v = some 4) ∧
    (∀ b q, fn ≠ fnUp → d.bridges.find? (fun b => b.fn == fn) = some b → b.tgt = .local_ q →
      SMap.find? s.host.inReset v = none →
      Completes (exec (.secondaryBusReset p) s) fun t => q.val ∈ t.host.linkHot) ∧
    (∀ c, fn ≠ fnUp → SMap.find? s.host.inReset v = some c → Completes (exec (.secondaryBusReset p) s) fun t =>
      t.host.linkHot = s.host.linkHot ∧ cfgBit t v fn 0x3C 22 = true)) ∧
  (∀ (s : State) (p : PortId), On s → fnOfPort s p.val = none →
    ((SMap.find? s.host.home p.val).isSome = true → Completes (exec (.secondaryBusReset p) s) fun t =>
      p.val ∈ t.host.linkHot) ∧
    (Completes (exec (.secondaryBusResetClear p) s) fun t => p.val ∉ t.host.linkHot ∧ Only [.host] [] s t)) ∧
  (∀ (s : State) (p : PortId) (v fn : Nat) (d : VsDef), On s → fnOfPort s p.val = some (v, fn) → vsDef s v = some d →
    cfgBit s v fn 0x3C 22 = true →
    (fn = fnUp → SMap.find? s.host.inReset v = some 4 → Completes (exec (.secondaryBusResetClear p) s) fun t =>
      SMap.find? t.host.inReset v = none) ∧
    (∀ b q, fn ≠ fnUp → d.bridges.find? (fun b => b.fn == fn) = some b → b.tgt = .local_ q →
      SMap.find? s.host.inReset v = none → Completes (exec (.secondaryBusResetClear p) s) fun t =>
        q.val ∉ t.host.linkHot)) ∧
  (∀ (s : State) (v : VsId) (landing : Bool), On s → let fn := if landing then fnLand else fnMep
    (fnPresent s v.val fn = true → SMap.find? s.host.inReset v.val = none → v.val * 64 + fn ∉ s.host.flr →
      Completes (exec (.functionLevelReset v landing) s) fun t => t.host.flr = s.host.flr ++ [v.val * 64 + fn] ∧
        v.val * 64 + fn ∈ t.host.crs ∧ t.b F.GLB_VSSTAT_NOTREADY v.val = true) ∧
    (Completes (exec (.flrComplete v landing) s) fun t => t.host.flr = s.host.flr.erase (v.val * 64 + fn) ∧
      Only [.host] [] s t))

/-- PRESENCE_DETECT_CHANGED, ATTENTION_BUTTON_PRESSED, POWER_FAULT_DETECTED, SLOT_POWER_ON, SLOT_PWREN_ON, SLOT_PERST_RELEASE,
SLOT_POWER_OFF and SLOT_PWREN_OFF (R197 to R199, Table HOST-6). -/
def Obligations.HotPlugCompletes : Prop :=
  (∀ (s : State) (k : SlotId) (present : Bool), On s → s.b F.GLB_SLOT_PRSNT k.val ≠ present →
    Completes (exec (.presenceDetectChanged k present) s) fun t => t.b F.GLB_SLOT_PRSNT k.val = present ∧
      SlotTold s t k.val ∧
      (present = false → (slotDef s k.val).autoOff = true → t.b F.GLB_SLOT_PERST k.val = true ∧
        t.b F.GLB_SLOT_PWREN k.val = false ∧ (slotSt t k.val).on = false)) ∧
  (∀ (s : State) (k : SlotId), On s →
    (Completes (exec (.attentionButtonPressed k true) s) fun t => t.b F.GLB_SLOT_ATTN k.val = true ∧ SlotTold s t k.val) ∧
    (Completes (exec (.attentionButtonPressed k false) s) fun t => t.b F.GLB_SLOT_ATTN k.val = false ∧
      Only [] [.GLB_SLOT] s t) ∧
    (Completes (exec (.powerFaultDetected k true) s) fun t => t.b F.GLB_SLOT_PWRFLT k.val = true ∧ SlotTold s t k.val ∧
      t.b F.GLB_SLOT_PERST k.val = true ∧ t.b F.GLB_SLOT_PWREN k.val = false ∧ (slotSt t k.val).on = false) ∧
    (Completes (exec (.powerFaultDetected k false) s) fun t => t.b F.GLB_SLOT_PWRFLT k.val = false ∧
      Only [] [.GLB_SLOT] s t) ∧
    (s.b F.GLB_SLOT_BOUND k.val = true → (slotSt s k.val).on = false →
      Completes (exec (.slotPowerOn k) s) fun t => (slotSt t k.val).on = true) ∧
    ((slotSt s k.val).on = true → Completes (exec (.slotPwrenOn k) s) fun t => t.b F.GLB_SLOT_PWREN k.val = true ∧
      Only [] [.GLB_SLOT] s t) ∧
    ((slotSt s k.val).on = true → s.b F.GLB_SLOT_PWREN k.val = true →
      Completes (exec (.slotPerstRelease k) s) fun t => (slotSt t k.val).stable = true ∧
        (vsPerst s (s.f F.GLB_SLOT_PORT k.val) = false → t.b F.GLB_SLOT_PERST k.val = false) ∧
        (vsPerst s (s.f F.GLB_SLOT_PORT k.val) = true →
          t.b F.GLB_SLOT_PERST k.val = s.b F.GLB_SLOT_PERST k.val)) ∧
    (s.b F.GLB_SLOT_BOUND k.val = true → (slotSt s k.val).on = true →
      Completes (exec (.slotPowerOff k) s) fun t => (slotSt t k.val).on = false ∧ (slotSt t k.val).stable = false ∧
        t.b F.GLB_SLOT_PERST k.val = true) ∧
    ((slotSt s k.val).on = false → Completes (exec (.slotPwrenOff k) s) fun t => t.b F.GLB_SLOT_PWREN k.val = false ∧
      Only [] [.GLB_SLOT] s t))

/-- PREFETCH_BUFFER_DISCARD, FABRIC_TAG_TIMEOUT, FABRIC_PACKET_RECEIVED, ROUTE_HOLD_END, LINK_DELAY_MEASUREMENT and
TIME_DISTRIBUTION (R206, R208, R211, R215, R219, R220, R222, R285); the bytes of control packets are log entry 15's, and a time
travels inside the module less the device time. The bytes of the control packet that carries device time are the model's (log
entry 15). -/
def Obligations.FabricCompletes : Prop :=
  (∀ (s : State) (p : PortId) (k : Fin 32) (b : PfBuf), On s → (pfBufs s p.val)[k.val]? = some b →
    Completes (exec (.prefetchBufferDiscard p k) s) fun t => pfBufs t p.val = (pfBufs s p.val).erase b ∧
      t.f F.PIR_PFCNT_DISCARDS p.val = min (2 ^ F.PIR_PFCNT_DISCARDS.width - 1) (s.f F.PIR_PFCNT_DISCARDS p.val + 1)) ∧
  (∀ (s : State) (p : PortId) (tag : Fin 16384) (e : FTag), On s →
    (SMap.get [] s.fab.tags p.val).find? (fun (e : FTag) => e.tag == tag.val) = some e →
    Completes (exec (.fabricTagTimeout p tag) s) fun t =>
      SMap.get [] t.fab.tags p.val = (SMap.get [] s.fab.tags p.val).erase e ∧
      t.f F.PIR_FBPORT_TAGS p.val = ((SMap.get [] s.fab.tags p.val).erase e).length % 2 ^ F.PIR_FBPORT_TAGS.width) ∧
  (∀ (s : State) (g : SpanId) (vc : Nat) (x : FabPkt), On s → flHas s g.val = true → (fl s g.val).rxBuf = [(vc, x)] →
    (6 ≤ x.h.kind → Completes (exec (.fabricPacketReceived g) s) fun t => (fl t g.val).rxBuf = [] ∧
      t.f F.PIR_FBPORT_LOST_P (flPort g.val) =
        min (2 ^ F.PIR_FBPORT_LOST_P.width - 1) (s.f F.PIR_FBPORT_LOST_P (flPort g.val) + 1)) ∧
    (∀ n d, x.h.kind = 4 ∨ x.h.kind = 5 → x.h.dstMod.val = myModule s →
      fabricDuty s (pierOf (flPort g.val)) = some (n, d) → s.b F.PIR_DUTY_MOVING (dutyKey n d) = false →
      engRoom s (dutyEng s n d) (.control x.h.srcMod x.h.kind x.h.ctl) = true →
      Completes (exec (.fabricPacketReceived g) s) fun t => (fl t g.val).rxBuf = [] ∧
        Has t ⟨n, d, .control x.h.srcMod x.h.kind x.h.ctl⟩) ∧
    (x.h.kind = 4 → x.h.dstMod.val = myModule s → fabricDuty s (pierOf (flPort g.val)) = none →
      (∀ say, ctlRequest s x.h = some (0, say) → Completes (exec (.fabricPacketReceived g) s) fun t =>
        (fl t g.val).rxBuf = [] ∧ x.h.dstPort.val ∈ t.host.linkHot) ∧
      (∀ say, ctlRequest s x.h = some (1, say) → Completes (exec (.fabricPacketReceived g) s) fun t =>
        (fl t g.val).rxBuf = [] ∧ x.h.dstPort.val ∉ t.host.linkHot) ∧
      (∀ i j say, ctlRequest s x.h = none → x.h.ctl = Config.ctlCode 5 :: i :: j :: say →
        Completes (exec (.fabricPacketReceived g) s) fun t => (fl t g.val).rxBuf = [] ∧
          SMap.find? t.fab.time (64 * x.h.srcMod.val + x.h.vs.val) = some (leNum say % 2 ^ 64)))) ∧
  (∀ (s : State) (n : PierId) (d : Fin 64), On s → (∀ e ∈ s.fab.ctl, ¬(e.1 = n.val ∧ e.2.dstMod = d)) →
    Completes (exec (.routeHoldEnd n d) s) fun t =>
      t.fab.hold = s.fab.hold.erase (64 * n.val + d.val) ∧ t.fab.ctl = s.fab.ctl ∧ Only [.fab] [] s t) ∧
  (∀ (s : State) (n : PierId) (h : FabHdr) (q : Nat), On s → s.fab.ctl = [(n.val, h)] →
    64 * n.val + h.dstMod.val ∉ s.fab.hold.erase (64 * n.val + h.dstMod.val) → routeOf s n.val h.dstMod.val = some q →
    linkUp s q = true → Completes (exec (.routeHoldEnd n h.dstMod) s) fun t =>
      t.fab.hold = s.fab.hold.erase (64 * n.val + h.dstMod.val) ∧ t.fab.ctl = [] ∧
        ∃ e, egressQ t q (ctlTc s) = egressQ s q (ctlTc s) ++ [e] ∧ e.c.fab = some h) ∧
  (∀ (s : State) (g : SpanId) (ns : Nat), On s → flHas s g.val = true → flUp s g.val = true →
    Completes (exec (.linkDelayMeasurement g ns) s) fun t => (fl t g.val).delay = ns ∧ Only [.fl] [] s t) ∧
  (∀ (s : State) (v : Nat) (d : VsDef) (m : Fin 64) (q : Nat), On s → s.host.vsw = [(v, d)] → remoteMods d = [m.val] →
    64 * pierOf d.up + m.val ∉ s.fab.hold → routeOf s (pierOf d.up) m.val = some q → linkUp s q = true →
    Completes (exec .timeDistribution s) fun t =>
      ∃ e h, egressQ t q (ctlTc s) = egressQ s q (ctlTc s) ++ [e] ∧ e.c.fab = some h ∧ h.kind = 4 ∧ h.dstMod = m ∧
        h.ctl = Config.ctlCode 5 :: (leBytes 0 2 ++ leBytes 0 8))

/-- TLP_RECEIVED, DMA_COMPLETION and DMA_COMPLETION_TIMEOUT (R188, R189, R195, R230, R251): what a port does with a TLP that is
lost, unroutable or belongs to the turn-off of a virtual switch, and a management endpoint with an answer to a read or with
none. The code of PME_Turn_Off and the answer at a port that nothing binds are the model's (log entry 9). -/
def Obligations.TlpsComplete : Prop :=
  (∀ (s : State) (p : PortId) (x : Tlp), On s → portExists s p.val = true → isFloing s p.val = false →
    linkUp s p.val = true → ingressStopped s p.val = false →
    (Completes (exec (.tlpReceived p x .header) s) fun t => t.f F.PIR_ERRCNT_HDR_LOST (pierOf p.val) =
      min (2 ^ F.PIR_ERRCNT_HDR_LOST.width - 1) (s.f F.PIR_ERRCNT_HDR_LOST (pierOf p.val) + 1)) ∧
    (x.kind = .memRd → x.ep = false → fnOfPort s p.val = none → SMap.find? s.host.home p.val = none →
      Completes (exec (.tlpReceived p x .none) s) fun t => ∃ l e, e.c.tlp.kind = .cpl ∧ e.c.tlp.status = stUR ∧
        egressQ t p.val x.tc = egressQ s p.val x.tc ++ l ++ [e]) ∧
    (∀ v d, x.kind = .msg → x.code = 0x19 → x.ep = false → vsOfUp s p.val = some v → vsDef s v = some d →
      (∀ q ∈ downPorts s v, linkUp s q = false) →
      Completes (exec (.tlpReceived p x .none) s) fun t => d.up.val ∈ t.host.toAck) ∧
    (∀ v, x.kind = .msg → x.code = 0x19 → x.ep = false → vsOfUp s p.val = some v →
      (∃ q ∈ downPorts s v, linkUp s q = true) → Completes (exec (.tlpReceived p x .none) s) fun t =>
        SMap.find? t.host.toWait v = some ((downPorts s v).filter (linkUp s))) ∧
    (∀ v j d, x.kind = .msg → x.code = 0x1B → x.ep = false → vsOfUp s p.val = none → vsOfDown s p.val = some (v, j) →
      vsDef s v = some d → SMap.find? s.host.toWait v = some [p.val] →
      Completes (exec (.tlpReceived p x .none) s) fun t => d.up.val ∈ t.host.toAck ∧ SMap.find? t.host.toWait v = none)) ∧
  (∀ (s : State) (v : VsId) (tag : Fin 64), On s →
    (s.host.dmaDead.contains (v.val, tag.val) = true → Completes (exec (.dmaCompletionTimeout v tag) s) fun t =>
      t.host.dmaDead = s.host.dmaDead.erase (v.val, tag.val) ∧ Only [.host] [] s t) ∧
    (∀ j, s.host.dmaDead.contains (v.val, tag.val) = false → dmaJob s v.val = some j →
      j.reads.any (fun (r : DmaRd) => r.tag == tag.val) = true → s.host.dmaq = [] →
      Completes (exec (.dmaCompletionTimeout v tag) s) fun t => dmaJob t v.val = none ∧
        t.b F.GLB_DMASTAT_BUSY v.val = false ∧ t.b F.GLB_DMASTAT_ERR v.val = true)) ∧
  (∀ (s : State) (v : VsId) (x : Tlp) (d : VsDef) (j : DmaJob) (r : DmaRd), On s → vsDef s v.val = some d →
    vsOfUp s d.up.val = some v.val → linkUp s d.up.val = true → x.tag < 64 →
    s.host.dmaDead.contains (v.val, x.tag) = false → dmaJob s v.val = some j →
    j.reads.find? (fun (r : DmaRd) => r.tag == x.tag) = some r →
    (x.status ≠ 0 → s.host.dmaq = [] → Completes (exec (.dmaCompletion v x) s) fun t => dmaJob t v.val = none ∧
      t.b F.GLB_DMASTAT_BUSY v.val = false ∧ t.b F.GLB_DMASTAT_ERR v.val = true) ∧
    (x.status = 0 → x.ep = false → dmaFits s v.val j r x = true → r.got.length + x.data.length < r.len →
      j.total ≤ j.issued → j.use.reads = true →
      Completes (exec (.dmaCompletion v x) s) fun t => ∃ k, dmaJob t v.val = some k ∧
        { r with got := r.got ++ x.data } ∈ k.reads ∧ k.data = j.data ∧ k.issued = j.issued))

/-- What the commands of spans, links, Floing ports and clocks leave alone, whatever the state: no part and no register changes
but those listed. -/
def Obligations.LinksFrame : Prop :=
  (∀ (p : PortId) (width rate : Fin 8) (flit reversed : Bool) (inverted : List Bool) (eq : Option Equal) (cred :
    LinkCredits), ChangesOnly (.dlActive p width rate flit reversed inverted eq cred) [.err, .ports, .deck, .host, .fab,
    .eng] (Reg.queueing.append [.ENG_STAT, .SPN_COEF, .SPN_LANE, .SPN_PSTAT])) ∧
  (∀ (p : PortId) (equalise : Bool), ChangesOnly (.recovery p equalise) [.ports] [.SPN_PSTAT]) ∧
  (∀ (p : PortId) (ok : Bool) (width rate : Fin 8) (eq : Option Equal), ChangesOnly (.recoveryComplete p ok width rate eq)
    Piece.linkLoss (Reg.linkLoss.append [.SPN_COEF, .SPN_FLSTAT, .SPN_LANE])) ∧
  (∀ (p : PortId), ChangesOnly (.linkDown p) Piece.linkLoss (Reg.linkLoss.append [.SPN_FLSTAT, .SPN_LANE])) ∧
  (∀ (p : PortId) (pm width : Fin 8) (pci : Bool), ChangesOnly (.lowpowerEntry p pm width pci) [.ports] [.SPN_PSTAT]) ∧
  (∀ (p : PortId), ChangesOnly (.lowpowerExit p) [.ports] [.SPN_PSTAT]) ∧
  (∀ (p : PortId), ChangesOnly (.l0pNarrowingRequest p) [] [.SPN_PSTAT]) ∧
  (∀ (p : PortId) (kind : PmReq), ChangesOnly (.partnerLowPowerRequest p kind) [.ports] [.SPN_PSTAT]) ∧
  (∀ (k : SlotId), ChangesOnly (.slotClockWindowOpen k) [.host] [.GLB_SLOT]) ∧
  (∀ (k : SlotId), ChangesOnly (.slotClockWindowClose k) [.host] [.GLB_SLOT]) ∧
  (∀ (k : SlotId) (asserted : Bool), ChangesOnly (.clkreqChange k asserted) [] [.GLB_SLOT]) ∧
  (∀ (p : PortId) (lane : Fin 16) (op : MarginOp), ChangesOnly (.laneMargining p lane op) [.env, .ports, .host] []) ∧
  (∀ (sp : SpanId), ChangesOnly (.calibrationVisitStart sp) [.fl] [.SPN_CALSTAT, .SPN_LANE]) ∧
  (∀ (sp : SpanId), ChangesOnly (.calSpareLocked sp) [.fl] [.SPN_CALSTAT]) ∧
  (∀ (sp : SpanId) (coef : Word) (clean : Bool), ChangesOnly (.calWindowEnd sp coef clean) [] [.SPN_CALSTAT, .SPN_COEF]) ∧
  (∀ (sp : SpanId), ChangesOnly (.calLaneRelocked sp) [.fl] []) ∧
  (∀ (sp : SpanId), ChangesOnly (.calAckTimeout sp) [.fl] [.SPN_CALSTAT, .SPN_COEF, .SPN_LANE]) ∧
  (∀ (sp : SpanId) (l : Fin 8), ChangesOnly (.laneFailure sp l) Piece.closing (Reg.linkLoss.append [.SPN_CALSTAT, .SPN_COEF,
    .SPN_FLCNT, .SPN_FLSTAT, .SPN_LANE])) ∧
  (∀ (sp : SpanId), ChangesOnly (.spareFailure sp) Piece.closing (Reg.linkLoss.append [.SPN_CALSTAT, .SPN_COEF, .SPN_FLCNT,
    .SPN_FLSTAT, .SPN_LANE])) ∧
  (∀ (g : SpanId) (m : FwMsg), ChangesOnly (.linkParam g m) Piece.closing (Reg.linkLoss.append [.SPN_CALSTAT, .SPN_COEF,
    .SPN_FLCNT, .SPN_FLSEQ, .SPN_FLSEQRX, .SPN_FLSTAT, .SPN_FLVC, .SPN_LANE])) ∧
  (∀ (g : SpanId) (m : FwMsg), ChangesOnly (.linkParamAck g m) Piece.closing (Reg.linkLoss.append [.SPN_CALSTAT, .SPN_COEF,
    .SPN_FLCNT, .SPN_FLSEQ, .SPN_FLSEQRX, .SPN_FLSTAT, .SPN_FLVC, .SPN_LANE])) ∧
  (∀ (g : SpanId) (m : FwMsg), ChangesOnly (.calReq g m) Piece.closing (Reg.linkLoss.append [.SPN_CALSTAT, .SPN_COEF,
    .SPN_FLCNT, .SPN_FLSEQ, .SPN_FLSEQRX, .SPN_FLSTAT, .SPN_FLVC, .SPN_LANE])) ∧
  (∀ (g : SpanId) (m : FwMsg), ChangesOnly (.calAck g m) Piece.closing (Reg.linkLoss.append [.SPN_CALSTAT, .SPN_COEF,
    .SPN_FLCNT, .SPN_FLSEQ, .SPN_FLSEQRX, .SPN_FLSTAT, .SPN_FLVC, .SPN_LANE])) ∧
  (∀ (g : SpanId) (m : FwMsg), ChangesOnly (.calSwap g m) Piece.closing (Reg.linkLoss.append [.SPN_CALSTAT, .SPN_COEF,
    .SPN_FLCNT, .SPN_FLSEQ, .SPN_FLSEQRX, .SPN_FLSTAT, .SPN_FLVC, .SPN_LANE])) ∧
  (∀ (g : SpanId) (m : FwMsg), ChangesOnly (.calDone g m) Piece.closing (Reg.linkLoss.append [.SPN_CALSTAT, .SPN_COEF,
    .SPN_FLCNT, .SPN_FLSEQ, .SPN_FLSEQRX, .SPN_FLSTAT, .SPN_FLVC, .SPN_LANE])) ∧
  (∀ (g : SpanId) (m : FwMsg), ChangesOnly (.calAbort g m) Piece.closing (Reg.linkLoss.append [.SPN_CALSTAT, .SPN_COEF,
    .SPN_FLCNT, .SPN_FLSEQ, .SPN_FLSEQRX, .SPN_FLSTAT, .SPN_FLVC, .SPN_LANE])) ∧
  (∀ (g : SpanId) (m : FwMsg), ChangesOnly (.laneSwap g m) Piece.closing (Reg.linkLoss.append [.SPN_CALSTAT, .SPN_COEF,
    .SPN_FLCNT, .SPN_FLSEQ, .SPN_FLSEQRX, .SPN_FLSTAT, .SPN_FLVC, .SPN_LANE])) ∧
  (∀ (g : SpanId) (m : FwMsg), ChangesOnly (.laneSwapAck g m) Piece.closing (Reg.linkLoss.append [.SPN_CALSTAT, .SPN_COEF,
    .SPN_FLCNT, .SPN_FLSEQ, .SPN_FLSEQRX, .SPN_FLSTAT, .SPN_FLVC, .SPN_LANE])) ∧
  (∀ (g : SpanId) (m : FwMsg), ChangesOnly (.widthChg g m) Piece.closing (Reg.linkLoss.append [.SPN_CALSTAT, .SPN_COEF,
    .SPN_FLCNT, .SPN_FLSEQ, .SPN_FLSEQRX, .SPN_FLSTAT, .SPN_FLVC, .SPN_LANE])) ∧
  (∀ (g : SpanId) (m : FwMsg), ChangesOnly (.widthChgAck g m) Piece.closing (Reg.linkLoss.append [.SPN_CALSTAT, .SPN_COEF,
    .SPN_FLCNT, .SPN_FLSEQ, .SPN_FLSEQRX, .SPN_FLSTAT, .SPN_FLVC, .SPN_LANE])) ∧
  (∀ (g : SpanId) (m : FwMsg), ChangesOnly (.rateChg g m) Piece.closing (Reg.linkLoss.append [.SPN_CALSTAT, .SPN_COEF,
    .SPN_FLCNT, .SPN_FLSEQ, .SPN_FLSEQRX, .SPN_FLSTAT, .SPN_FLVC, .SPN_LANE])) ∧
  (∀ (g : SpanId) (m : FwMsg), ChangesOnly (.rateChgAck g m) Piece.closing (Reg.linkLoss.append [.SPN_CALSTAT, .SPN_COEF,
    .SPN_FLCNT, .SPN_FLSEQ, .SPN_FLSEQRX, .SPN_FLSTAT, .SPN_FLVC, .SPN_LANE])) ∧
  (∀ (g : SpanId) (m : FwMsg), ChangesOnly (.engine g m) Piece.closing (Reg.linkLoss.append [.SPN_CALSTAT, .SPN_COEF,
    .SPN_FLCNT, .SPN_FLSEQ, .SPN_FLSEQRX, .SPN_FLSTAT, .SPN_FLVC, .SPN_LANE])) ∧
  (∀ (g : SpanId), ChangesOnly (.footwayRepeat g) Piece.closing (Reg.linkLoss.append [.SPN_CALSTAT, .SPN_COEF, .SPN_FLCNT,
    .SPN_FLSTAT, .SPN_LANE])) ∧
  (∀ (g : SpanId) (rx : Bool), ChangesOnly (.agreedFlitIndexReached g rx) Piece.closing (Reg.linkLoss.append [.SPN_CALSTAT,
    .SPN_COEF, .SPN_FLCNT, .SPN_FLSTAT, .SPN_LANE])) ∧
  (∀ (g : SpanId), ChangesOnly (.floingDownTimer g) [] [.SPN_FLSTAT]) ∧
  (∀ (g : SpanId) (bad pol : List (SpanId × LaneId)) (reversed : Bool), ChangesOnly (.floingTrainingDone g bad pol reversed)
    [.env, .fl] [.SPN_FLSTAT, .SPN_LANE, .SPN_PSTAT]) ∧
  (∀ (g : SpanId), ChangesOnly (.floingTrainingTimeout g) [] [.SPN_FLSTAT]) ∧
  (∀ (g : SpanId), ChangesOnly (.rateChangeComplete g) Piece.closing (Reg.linkLoss.append [.SPN_CALSTAT, .SPN_COEF,
    .SPN_FLCNT, .SPN_FLSTAT, .SPN_LANE])) ∧
  (∀ (g : SpanId), ChangesOnly (.linkLockLoss g) Piece.closing (Reg.linkLoss.append [.SPN_CALSTAT, .SPN_COEF, .SPN_FLCNT,
    .SPN_FLSTAT])) ∧
  (∀ (g : SpanId), ChangesOnly (.ackTimerExpiry g) [.fl] [.SPN_FLSEQRX]) ∧
  (∀ (g : SpanId), ChangesOnly (.nakTimerExpiry g) [.fl] []) ∧
  (∀ (g : SpanId), ChangesOnly (.replayTimeout g) Piece.closing (Reg.linkLoss.append [.SPN_CALSTAT, .SPN_COEF, .SPN_FLCNT,
    .SPN_FLSTAT])) ∧
  (∀ (g : SpanId), ChangesOnly (.flitSend g) (Piece.counting.append [.fl]) (Reg.counting.append [.SPN_FLSEQ, .SPN_FLSEQRX,
    .SPN_FLVC])) ∧
  (∀ (g : SpanId) (raw : List Byte) (args : FwMsg) (tlp : Option Tlp), ChangesOnly (.flitReceived g raw args tlp)
    Piece.closing (Reg.linkLoss.append [.SPN_CALSTAT, .SPN_COEF, .SPN_FLCNT, .SPN_FLSEQ, .SPN_FLSEQRX, .SPN_FLSTAT,
    .SPN_FLVC, .SPN_LANE])) ∧
  (∀ (sp : SpanId) (l : LaneId) (ctle dfe vga : Fin 3) (eye : Fin 256) (errs : Fin 65536), ChangesOnly (.adaptationStep sp l
    ctle dfe vga eye errs) Piece.closing (Reg.linkLoss.append [.SPN_CALSTAT, .SPN_COEF, .SPN_FLCNT, .SPN_FLSTAT, .SPN_LANE]))

/-- What the commands of the deck, landing memory and the egress side leave alone, whatever the state: no part and no register
changes but those listed. -/
def Obligations.DeckFrame : Prop :=
  ChangesOnly .deckCellTime Piece.counting Reg.counting ∧
  (∀ (src dst : PierId) (h : Fin 262144) (hits : List CellHit), ChangesOnly (.tlpCopyReceived src dst h hits)
    Piece.quarantining (Reg.quarantining.append [.DCK_ERR, .DCK_STAT, .GLB_PLANES, .PIR_DKSTAT, .PIR_PMAP])) ∧
  (∀ (src dst : PierId) (h : Fin 262144), ChangesOnly (.deckAck src dst h) [.deck] [.PIR_BUFEXP, .PIR_BUFOCC]) ∧
  (∀ (src dst : PierId) (h : Fin 262144), ChangesOnly (.deckNak src dst h) Piece.counting (Reg.counting.append [.PIR_DKSTAT])) ∧
  (∀ (src dst : PierId) (h : Fin 262144), ChangesOnly (.deckAckTimeout src dst h) Piece.quarantining (Reg.quarantining.append
    [.DCK_STAT, .GLB_PLANES, .PIR_DKSTAT, .PIR_PMAP])) ∧
  (∀ (p : PortId), ChangesOnly (.flowDrainEnd p) [.deck] [.PIR_BUFEXP, .PIR_BUFOCC]) ∧
  (∀ (m : PlaneId), ChangesOnly (.planeDrained m) [] [.DCK_STAT, .GLB_PLANES]) ∧
  (∀ (m : PlaneId) (cause : Fin 6), ChangesOnly (.planeFailure m cause) Piece.quarantining (Reg.quarantining.append
    [.DCK_STAT, .GLB_PLANES, .PIR_DKSTAT, .PIR_PMAP])) ∧
  (∀ (ch : ChanId) (blk : Nat), ChangesOnly (.retirementCopyDone ch blk) Piece.closing (Reg.closing.append [.CSN_CHSTAT])) ∧
  (∀ (ch : ChanId) (cause : Fin 7), ChangesOnly (.channelFailure ch cause) Piece.closing (Reg.closing.append [.CSN_CHSTAT])) ∧
  (∀ (bad corr : List Nat), ChangesOnly (.landingRequest bad corr) Piece.closing (Reg.closing.append [.CSN_CHERR,
    .CSN_CHSTAT, .GTE_LOGE, .GTE_LOGSTAT])) ∧
  ChangesOnly .tagSetDone [.csn] [.CSN_TAGSTAT] ∧
  ChangesOnly .landingScanDone [.csn] [.CSN_STAT] ∧
  (∀ (i e : PortId) (t : Fin 8) (bad corr : List Nat), ChangesOnly (.spillReadBack i e t bad corr) Piece.closing
    (Reg.closing.append [.CSN_CHERR, .CSN_CHSTAT])) ∧
  (∀ (p : PortId), ChangesOnly (.egressTlpBoundary p) Piece.closing Reg.closing) ∧
  (∀ (p : PortId) (r : LinkCredits), ChangesOnly (.flowControlUpdate p r) [.ports] [])

/-- What the commands of power domains, the abutment, the modes and PMBus leave alone, whatever the state: no part and no
register changes but those listed. -/
def Obligations.PowerFrame : Prop :=
  (∀ (d : DomId), ChangesOnly (.domainPowerOffComplete d) (Piece.closing.append [.mode]) (Reg.closing.append [.CLK_ISLSTAT,
    .DCK_STAT, .ENG_CTL, .GLB_MODE, .GLB_PIERSTAT, .GLB_PLANES, .PIR_DUTY, .PWD_STAT])) ∧
  (∀ (d : DomId), ChangesOnly (.domainPowered d) [.pmc] [.CLK_ISLSTAT, .CSN_CHSTAT, .CSN_STAT, .DCK_STAT, .GLB_PLANES,
    .PMC_BSTAT, .PMC_CNT, .PWD_STAT]) ∧
  (∀ (n : PierId), ChangesOnly (.pierClosure n) Piece.quarantining (Reg.closing.append [.CLK_ISLSTAT, .ENG_CTL, .GLB_IMGERR,
    .GLB_IMGSTAT, .GLB_PIERSTAT, .PIR_DUTY, .PWD_STAT, .SPN_LANE])) ∧
  (∀ (n : PierId) (ok : Bool), ChangesOnly (.pierSelfTestDone n ok) [.ports, .host, .mode] [.GLB_PIERSTAT, .PIR_CLOSE,
    .SPN_FLSTAT, .SPN_LANE, .SPN_PSTAT]) ∧
  (∀ (d : DomId), ChangesOnly (.regulatorFault d) Piece.quarantining (Reg.quarantining.append [.CLK_ISLSTAT, .CSN_CHSTAT,
    .DCK_STAT, .ENG_CTL, .GLB_IMGERR, .GLB_PIERSTAT, .GLB_PLANES, .PIR_DKSTAT, .PIR_DUTY, .PIR_PMAP, .PWD_STAT, .SPN_LANE])) ∧
  ChangesOnly .spillDrainTimeout (Piece.closing.append [.mode]) (Reg.closing.append [.CLK_ISLSTAT, .CSN_CHSTAT, .GLB_MODE,
    .PIR_DUTY, .PWD_STAT]) ∧
  ChangesOnly .reducedExitComplete (Piece.counting.append [.csn, .fl]) (Reg.triggering.append [.CSN_CHSTAT, .CSN_POOL,
    .CSN_PSPILL, .CSN_STAT, .ENG_CTL, .ENG_STAT, .GLB_MODE, .PIR_DUTY, .SPN_CALSTAT, .SPN_COEF, .SPN_FLSTAT, .SPN_LANE,
    .SPN_PSTAT]) ∧
  ChangesOnly .thermalCauseDrop (Piece.ending.append [.csn, .fl, .img, .mode]) (Reg.ending.append [.CLK_ISLSTAT, .ENG_CTL,
    .GLB_IMGERR, .GLB_IMGSTAT, .GLB_MODE, .PIR_DUTY, .PWD_STAT, .SPN_CALSTAT, .SPN_COEF, .SPN_FLSTAT, .SPN_LANE, .SPN_PSTAT]) ∧
  ChangesOnly .hourTick [.abt, .mode] [.REC_HOURS] ∧
  ChangesOnly .powerLimiterRelease [.ports] [] ∧
  (∀ (f : FeedId), ChangesOnly (.feedQualified f) [.abt] [.ABT_FEED, .ABT_STAT]) ∧
  (∀ (f : FeedId), ChangesOnly (.rampEnd f) [.abt] [.ABT_FEED, .ABT_STAT]) ∧
  (∀ (f : FeedId), ChangesOnly (.retryWaitExpiry f) (Piece.triggering.append [.abt]) (Reg.triggering.append [.ABT_EVENT,
    .ABT_FEED, .ABT_STAT])) ∧
  (∀ (f : FeedId), ChangesOnly (.retriesClear f) [] [.ABT_FEED]) ∧
  (∀ (f : FeedId), ChangesOnly (.overvoltageRecovery f) [.abt] [.ABT_FEED]) ∧
  ChangesOnly .switchoverOffConfirmed [.abt] [] ∧
  ChangesOnly .switchoverConfirmTimeout (Piece.triggering.append [.abt]) (Reg.triggering.append [.ABT_EVENT, .ABT_FEED,
    .ABT_STAT]) ∧
  ChangesOnly .failbackTimer [.abt] [.ABT_FEED, .ABT_STAT] ∧
  ChangesOnly .voltageCauseRaise (Piece.ending.append [.csn, .fl, .img, .abt, .mode]) (Reg.ending.append [.ABT_EVENT,
    .ABT_STAT, .CLK_ISLSTAT, .ENG_CTL, .GLB_IMGERR, .GLB_IMGSTAT, .GLB_MODE, .PIR_DUTY, .PWD_STAT, .SPN_CALSTAT, .SPN_COEF,
    .SPN_FLSTAT, .SPN_LANE, .SPN_PSTAT]) ∧
  ChangesOnly .voltageCauseDrop (Piece.ending.append [.csn, .fl, .img, .mode]) (Reg.ending.append [.ABT_STAT, .CLK_ISLSTAT,
    .ENG_CTL, .GLB_IMGERR, .GLB_IMGSTAT, .GLB_MODE, .PIR_DUTY, .PWD_STAT, .SPN_CALSTAT, .SPN_COEF, .SPN_FLSTAT, .SPN_LANE,
    .SPN_PSTAT]) ∧
  ChangesOnly .shutdownComplete [.abt, .mode] [.ABT_FEED, .ABT_STAT] ∧
  ChangesOnly .keeperStop [.env] [] ∧
  ChangesOnly .firstRampStop [.abt] [.ABT_FEED, .ABT_STAT] ∧
  (∀ (recovery : Bool), ChangesOnly (.moduleResetDeassert recovery) Piece.quarantining (Reg.quarantining.append
    [.CLK_ISLSTAT, .PWD_STAT])) ∧
  ChangesOnly .stageVerificationDone [.mode, .key] [.CSN_STAT, .GLB_BANKSTAT, .GLB_IMGERR, .KEY_STAT] ∧
  ChangesOnly .wipeDone (Piece.entry.append [.csn, .img, .mode]) (Reg.entry.append [.CSN_STAT, .GLB_IMGSTAT]) ∧
  (∀ (w : Option Byte) (pecOk : Bool), ChangesOnly (.page w pecOk) [.abt, .sb] []) ∧
  ChangesOnly .capability [.sb] [] ∧
  ChangesOnly .statusWord [.sb] [] ∧
  ChangesOnly .statusInput [.sb] [] ∧
  ChangesOnly .readVin [.env, .sb] [] ∧
  ChangesOnly .readIin [.env, .sb] [] ∧
  ChangesOnly .readTemperature1 [.env, .sb] [] ∧
  ChangesOnly .readPin [.env, .sb] [] ∧
  ChangesOnly .pmbusRevision [.sb] [] ∧
  ChangesOnly .mfrReadEnergy [.sb] []

/-- What the commands of the host face, the fabric, the sideband and MCTP leave alone, whatever the state: no part and no
register changes but those listed. -/
def Obligations.HostFrame : Prop :=
  (∀ (n : PierId), ChangesOnly (.configAdmission n) [.eng] [.ENG_STAT]) ∧
  (∀ (v : VsId), ChangesOnly (.functionReady v) [.err, .ports, .deck, .host] (Reg.queueing.append [.GLB_VSSTAT])) ∧
  (∀ (i : Fin 16), ChangesOnly (.perstInAssert i) Piece.linkLoss (Reg.linkLoss.append [.GLB_PERST, .SPN_FLSTAT, .SPN_LANE])) ∧
  (∀ (i : Fin 16), ChangesOnly (.perstInDeassert i) (Piece.queueing.append [.fab]) (Reg.queueing.append [.GLB_PERST,
    .GLB_SLOT, .GLB_VSSTAT, .SPN_FLSTAT, .SPN_LANE, .SPN_PSTAT])) ∧
  (∀ (p : PortId), ChangesOnly (.hotReset p) Piece.linkLoss Reg.linkLoss) ∧
  (∀ (p : PortId), ChangesOnly (.secondaryBusReset p) Piece.linkLoss Reg.linkLoss) ∧
  (∀ (p : PortId), ChangesOnly (.secondaryBusResetClear p) (Piece.entry.append [.fab]) Reg.entry) ∧
  (∀ (v : VsId) (landing : Bool), ChangesOnly (.functionLevelReset v landing) Piece.ending (Reg.aborting.append
    [.GLB_VSSTAT])) ∧
  (∀ (v : VsId) (landing : Bool), ChangesOnly (.flrComplete v landing) [.host] []) ∧
  (∀ (k : SlotId) (present : Bool), ChangesOnly (.presenceDetectChanged k present) [.err, .ports, .deck, .host, .fab, .eng]
    (Reg.queueing.append [.ENG_STAT, .GLB_SLOT])) ∧
  (∀ (k : SlotId) (down : Bool), ChangesOnly (.attentionButtonPressed k down) [.err, .ports, .deck, .host, .fab, .eng]
    (Reg.queueing.append [.ENG_STAT, .GLB_SLOT])) ∧
  (∀ (k : SlotId) (low : Bool), ChangesOnly (.powerFaultDetected k low) [.err, .ports, .deck, .host, .fab, .eng]
    (Reg.queueing.append [.ENG_STAT, .GLB_SLOT])) ∧
  (∀ (k : SlotId), ChangesOnly (.slotPowerOn k) [.ports, .host] []) ∧
  (∀ (k : SlotId), ChangesOnly (.slotPwrenOn k) [] [.GLB_SLOT]) ∧
  (∀ (k : SlotId), ChangesOnly (.slotPerstRelease k) [.host] [.GLB_SLOT, .SPN_FLSTAT, .SPN_LANE, .SPN_PSTAT]) ∧
  (∀ (k : SlotId), ChangesOnly (.slotPowerOff k) [.ports, .host] [.GLB_SLOT]) ∧
  (∀ (k : SlotId), ChangesOnly (.slotPwrenOff k) [] [.GLB_SLOT]) ∧
  (∀ (p : PortId), ChangesOnly (.ptmRequest p) [.err, .ports, .deck, .host] Reg.queueing) ∧
  (∀ (v : VsId) (tag : Fin 64), ChangesOnly (.dmaCompletionTimeout v tag) Piece.ending Reg.aborting) ∧
  (∀ (x : SbTx), ChangesOnly (.setaddr x) [.sb] [.GLB_SBSTAT]) ∧
  (∀ (pec : Option Bool), ChangesOnly (.result pec) [.sb] []) ∧
  (∀ (addr : Fin 128), ChangesOnly (.dynamicAddressAssignment addr) [.sb] []) ∧
  ChangesOnly .ioBankSwitch [.sb] [.GLB_IOCFG] ∧
  (∀ (v : VsId) (from_ : MctpFrom) (eid : Byte), ChangesOnly (.setEndpointId v from_ eid) [.err, .ports, .deck, .sb]
    Reg.queueing) ∧
  (∀ (v : VsId) (from_ : MctpFrom), ChangesOnly (.getEndpointId v from_) [.err, .ports, .deck] Reg.queueing) ∧
  (∀ (v : VsId) (from_ : MctpFrom), ChangesOnly (.getEndpointUuid v from_) [.err, .ports, .deck] Reg.queueing) ∧
  (∀ (v : VsId) (from_ : MctpFrom) (ty : Byte), ChangesOnly (.getMctpVersionSupport v from_ ty) [.err, .ports, .deck]
    Reg.queueing) ∧
  (∀ (v : VsId) (from_ : MctpFrom), ChangesOnly (.getMessageTypeSupport v from_) [.err, .ports, .deck] Reg.queueing) ∧
  (∀ (v : VsId) (from_ : MctpFrom) (vendor : BitVec 16) (desc : List Byte), ChangesOnly (.mctpVendorMessage v from_ vendor
    desc) Piece.entry (Reg.entry.append [.JNL_CMDRES, .JNL_CMDSEQ, .JNL_STAT])) ∧
  (∀ (p : PortId) (k : Fin 32), ChangesOnly (.prefetchBufferDiscard p k) [.err, .ports, .deck, .fab, .rcd]
    (Reg.queueing.append [.PIR_PFCNT, .REC_PFSTAT])) ∧
  (∀ (p : PortId) (tag : Fin 16384), ChangesOnly (.fabricTagTimeout p tag) [.err, .ports, .deck, .host, .fab] Reg.queueing) ∧
  (∀ (n : PierId) (d : Fin 64), ChangesOnly (.routeHoldEnd n d) [.err, .ports, .deck, .fab] Reg.queueing) ∧
  (∀ (g : SpanId) (ns : Nat), ChangesOnly (.linkDelayMeasurement g ns) [.fl] []) ∧
  ChangesOnly .timeDistribution [.err, .ports, .deck, .fab] Reg.queueing

/-- What the commands of the pier engines and of containment leave alone, whatever the state: no part and no register changes
but those listed. -/
def Obligations.EnginesFrame : Prop :=
  (∀ (g : EngId), ChangesOnly (.start g) Piece.counting Reg.counting) ∧
  (∀ (g : EngId), ChangesOnly (.cfgRead g) Piece.counting Reg.counting) ∧
  (∀ (g : EngId), ChangesOnly (.cfgWrite g) Piece.closing (Reg.closing.append [.SPN_LANE])) ∧
  (∀ (g : EngId), ChangesOnly (.error g) Piece.counting Reg.counting) ∧
  (∀ (g : EngId), ChangesOnly (.command g) Piece.counting Reg.counting) ∧
  (∀ (g : EngId), ChangesOnly (.message g) Piece.counting Reg.counting) ∧
  (∀ (g : EngId), ChangesOnly (.control g) Piece.counting Reg.counting) ∧
  (∀ (g : EngId), ChangesOnly (.footway g) Piece.counting Reg.counting) ∧
  (∀ (g : EngId), ChangesOnly (.tlp g) Piece.counting Reg.counting) ∧
  (∀ (g : EngId), ChangesOnly (.timer g) Piece.counting Reg.counting) ∧
  (∀ (g : EngId), ChangesOnly (.link g) Piece.counting Reg.counting) ∧
  (∀ (g : EngId), ChangesOnly (.slot g) Piece.counting Reg.counting) ∧
  (∀ (g : EngId), ChangesOnly (.lane g) Piece.counting Reg.counting) ∧
  (∀ (g : EngId), ChangesOnly (.counter g) Piece.counting Reg.counting) ∧
  (∀ (g : EngId), ChangesOnly (.stop g) Piece.counting Reg.counting) ∧
  (∀ (g : EngId), ChangesOnly (.continue_ g) Piece.counting Reg.counting) ∧
  (∀ (g : EngId), ChangesOnly (.handlerEnd g) [.err, .ports, .deck, .host, .eng] (Reg.queueing.append [.ENG_STAT])) ∧
  (∀ (g : EngId), ChangesOnly (.urgentPreemption g) [.eng] [.ENG_STAT]) ∧
  (∀ (g : EngId), ChangesOnly (.eventQueueRoom g) [.eng] [.ENG_STAT]) ∧
  (∀ (g : EngId), ChangesOnly (.plannedMigrationComplete g) [.eng] [.ENG_CTL, .ENG_STAT, .PIR_DUTY]) ∧
  (∀ (g : EngId) (t : Trap) (pc : Word), ChangesOnly (.engineTrap g t pc) Piece.quarantining (Reg.quarantining.append
    [.CLK_ISLSTAT, .ENG_CTL, .ENG_TRAP, .ENG_TRAPPC, .GLB_IMGERR, .GLB_PIERSTAT, .PIR_DUTY, .PWD_STAT, .SPN_LANE])) ∧
  (∀ (g : EngId) (pc : Word), ChangesOnly (.watchdogExpiry g pc) Piece.quarantining (Reg.quarantining.append [.ENG_CTL,
    .ENG_TRAP, .ENG_TRAPPC, .GLB_IMGERR, .PIR_DUTY, .SPN_LANE])) ∧
  (∀ (n : PierId) (d : DutyId) (t : Fin 4), ChangesOnly (.dutyTimerExpiry n d t) [.eng] [.ENG_STAT]) ∧
  (∀ (g : EngId) (off : Nat), ChangesOnly (.engRegRead g off) (Piece.entry.append [.fab]) (Reg.entry.append [.CLK_ACCADDR,
    .CLK_ACCSTAT, .GTE_LOGE, .GTE_LOGSTAT])) ∧
  (∀ (g : EngId) (n : PierId) (t : EngTab), ChangesOnly (.engTblRead g n t) [.eng] []) ∧
  (∀ (g : EngId) (n : PierId) (t : EngTab) (data : List Byte), ChangesOnly (.engTblWrite g n t data) (Piece.entry.append
    [.fab]) Reg.entry) ∧
  (∀ (g : EngId) (st : CfgEnd) (data : Word), ChangesOnly (.engCfgDone g st data) [.err, .ports, .deck, .host, .eng]
    Reg.queueing) ∧
  (∀ (g : EngId) (n : PierId) (d : DutyId) (bytes : List Byte), ChangesOnly (.engMsgSend g n d bytes) [.eng] [.ENG_STAT]) ∧
  (∀ (g : EngId) (m : Fin 64) (d : DutyId) (bytes : List Byte) (response : Bool), ChangesOnly (.engCtlSend g m d bytes
    response) [.err, .ports, .deck, .fab, .eng] Reg.queueing) ∧
  (∀ (g : EngId) (p : PortId) (bytes : List Byte), ChangesOnly (.engFwSend g p bytes) [.fl, .eng] []) ∧
  (∀ (g : EngId) (p : PortId) (t : Tlp), ChangesOnly (.engTlpSend g p t) [.err, .ports, .deck, .eng] Reg.queueing) ∧
  (∀ (g : EngId) (t : Fin 4) (ns : Nat) (periodic : Bool), ChangesOnly (.engTimerSet g t ns periodic) [.eng] []) ∧
  (∀ (g : EngId) (t : Fin 4), ChangesOnly (.engTimerCancel g t) [.eng] []) ∧
  (∀ (g : EngId) (b : BlockId) (c : Fin 32), ChangesOnly (.engCntRead g b c) [.eng] []) ∧
  (∀ (g : EngId) (p : PortId), ChangesOnly (.engPortClose g p) Piece.closing Reg.closing) ∧
  (∀ (g : EngId) (p : PortId), ChangesOnly (.engPortRelease g p) Piece.entry (Reg.entry.append [.PIR_CLOSE, .SPN_FLSTAT,
    .SPN_LANE, .SPN_PSTAT])) ∧
  (∀ (g : EngId) (u : TenantId), ChangesOnly (.engTenantClose g u) [.err, .eng] [.GLB_TCLOSE, .PIR_ERRCNT2]) ∧
  (∀ (g : EngId) (u : TenantId), ChangesOnly (.engTenantRelease g u) [.eng] [.GLB_TCLOSE]) ∧
  (∀ (g : EngId) (p : PortId) (lane : Fin 18) (timing : Bool) (step : Fin 128), ChangesOnly (.engMargin g p lane timing step)
    [.env, .eng] []) ∧
  (∀ (g : EngId) (v : VsId) (vec : Fin 64), ChangesOnly (.engMsix g v vec) (Piece.queueing.append [.eng]) Reg.queueing) ∧
  (∀ (g : EngId) (seq : Nat) (ok : Bool), ChangesOnly (.engCmdDone g seq ok) Piece.ending Reg.ending) ∧
  (∀ (g : EngId) (value : Word), ChangesOnly (.engContinue g value) [.err, .ports, .deck, .host, .eng] (Reg.queueing.append
    [.ENG_STAT])) ∧
  (∀ (isl : IslandId), ChangesOnly (.errorRecord isl) Piece.entry (Reg.entry.append [.GLB_ERRLAST, .GLB_ERRSTAT, .REC_STAT])) ∧
  (∀ (p : PortId) (cause : Fin 7), ChangesOnly (.spanClosure p cause) Piece.closing Reg.closing) ∧
  (∀ (g : EngId), ChangesOnly (.engineFailure g) Piece.quarantining (Reg.quarantining.append [.ENG_CTL, .GLB_IMGERR,
    .PIR_DUTY, .SPN_LANE])) ∧
  (∀ (n : PierId), ChangesOnly (.engineClusterFailure n) Piece.quarantining (Reg.quarantining.append [.ENG_CTL, .GLB_IMGERR,
    .PIR_DUTY, .SPN_LANE])) ∧
  (∀ (u : Fin 72), ChangesOnly (.failureMigrationComplete u) Piece.ending (Reg.ending.append [.ENG_CTL, .PIR_DUTY]))

/-- What the commands of the journal, the recorder, the counters and the images leave alone, whatever the state: no part and no
register changes but those listed. -/
def Obligations.JournalFrame : Prop :=
  ChangesOnly .nop Piece.ending Reg.ending ∧
  ChangesOnly .jnlCheckpoint Piece.ending Reg.ending ∧
  ChangesOnly .jnlMark Piece.ending Reg.ending ∧
  ChangesOnly .query Piece.ending Reg.ending ∧
  ChangesOnly .reduceEnter (Piece.ending.append [.csn, .fl, .img, .mode]) (Reg.ending.append [.CLK_ISLSTAT, .ENG_CTL,
    .GLB_IMGERR, .GLB_IMGSTAT, .GLB_MODE, .PIR_DUTY, .PWD_STAT, .SPN_CALSTAT, .SPN_COEF, .SPN_FLSTAT, .SPN_LANE, .SPN_PSTAT]) ∧
  ChangesOnly .reduceLeave (Piece.ending.append [.csn, .fl, .img, .mode]) (Reg.ending.append [.CLK_ISLSTAT, .ENG_CTL,
    .GLB_IMGERR, .GLB_IMGSTAT, .GLB_MODE, .PIR_DUTY, .PWD_STAT, .SPN_CALSTAT, .SPN_COEF, .SPN_FLSTAT, .SPN_LANE, .SPN_PSTAT]) ∧
  ChangesOnly .recFlush Piece.ending (Reg.ending.append [.REC_STAT]) ∧
  ChangesOnly .exportJournal Piece.ending Reg.aborting ∧
  ChangesOnly .exportRecorder Piece.ending Reg.aborting ∧
  ChangesOnly .batch Piece.ending Reg.aborting ∧
  ChangesOnly .engineCommands Piece.ending Reg.ending ∧
  ChangesOnly .psivinReport Piece.ending Reg.ending ∧
  ChangesOnly .psivinReportDone Piece.ending Reg.aborting ∧
  ChangesOnly .lifecycle Piece.ending Reg.ending ∧
  ChangesOnly .longCommandStart (Piece.ending.append [.img]) (Reg.ending.append [.GLB_BANKSTAT, .GLB_IMGERR, .GLB_IMGSTAT]) ∧
  ChangesOnly .recordComplete (Piece.entry.append [.fab]) (Reg.entry.append [.CLK_ACCADDR, .CLK_ACCSTAT, .GTE_LOGE,
    .GTE_LOGSTAT, .REC_RLINE, .REC_RSEQ, .REC_STAT]) ∧
  (∀ (t : TrigId), ChangesOnly (.holdoffExpiry t) [.rcd] []) ∧
  ChangesOnly .flushComplete [.rcd] [.REC_RLINE, .REC_RSEQ, .REC_STAT] ∧
  (∀ (n : PierId), ChangesOnly (.prefetchDiscardEntry n) [.rcd] [.REC_PFLOG, .REC_PFSTAT]) ∧
  ChangesOnly .strikeTime [.pmc] [.PMC_BSTAT, .PMC_CNT, .PMC_SCNT, .PMC_SCYC, .PMC_SOVF, .PMC_STAT] ∧
  ChangesOnly .snapshotDone [.pmc] [.PMC_BSTAT, .PMC_CNT, .PMC_SCNT, .PMC_SCYC, .PMC_SNAPTIME, .PMC_SOVF, .PMC_STAT] ∧
  (∀ (b : BlockId) (k : Fin 8), ChangesOnly (.counterOverflow b k) Piece.counting Reg.counting) ∧
  ChangesOnly .bankErase Piece.ending (Reg.ending.append [.GLB_BANKSTAT]) ∧
  ChangesOnly .bankEraseDone (Piece.ending.append [.img]) (Reg.ending.append [.GLB_BANKSTAT]) ∧
  ChangesOnly .bankWriteInline (Piece.ending.append [.img]) (Reg.ending.append [.GLB_BANKSTAT]) ∧
  ChangesOnly .bankWrite Piece.ending (Reg.aborting.append [.GLB_BANKSTAT]) ∧
  ChangesOnly .rollbackAdvance Piece.ending Reg.ending ∧
  ChangesOnly .verify Piece.ending Reg.ending ∧
  ChangesOnly .reload Piece.ending Reg.ending ∧
  ChangesOnly .liveApply (Piece.ending.append [.img]) (Reg.ending.append [.GLB_IMGERR, .GLB_IMGSTAT]) ∧
  (∀ (fault : Option (Fin 56)), ChangesOnly (.liveVerifyDone fault) (Piece.ending.append [.img]) (Reg.ending.append
    [.GLB_BANKSTAT, .GLB_IMGERR, .GLB_IMGSTAT])) ∧
  ChangesOnly .liveStageDone (Piece.ending.append [.img]) (Reg.ending.append [.ENG_CTL, .GLB_BANKSTAT, .GLB_IMGERR,
    .GLB_IMGSTAT, .PIR_DUTY, .SPN_FLSTAT, .SPN_LANE, .SPN_PSTAT]) ∧
  ChangesOnly .liveDrainDone Piece.linkLoss (Reg.linkLoss.append [.ENG_CTL, .GLB_IMGSTAT, .PIR_DUTY]) ∧
  ChangesOnly .liveCommitDone Piece.entry (Reg.entry.append [.ENG_CTL, .GLB_IMGSTAT, .PIR_DUTY]) ∧
  ChangesOnly .liveSwapBDone (Piece.ending.append [.csn, .fl, .img, .mode]) (Reg.ending.append [.CLK_ISLSTAT, .ENG_CTL,
    .GLB_IMGERR, .GLB_IMGSTAT, .GLB_MODE, .GLB_SLOT, .PIR_DUTY, .PWD_STAT, .SPN_CALSTAT, .SPN_COEF, .SPN_FLSTAT, .SPN_LANE,
    .SPN_PSTAT]) ∧
  ChangesOnly .probationEnd (Piece.ending.append [.img]) (Reg.ending.append [.GLB_IMGSTAT, .GLB_SEGBUILD]) ∧
  ChangesOnly .liveConfirm (Piece.ending.append [.img]) (Reg.ending.append [.GLB_IMGSTAT, .GLB_SEGBUILD]) ∧
  ChangesOnly .liveRollback (Piece.ending.append [.img]) (Reg.ending.append [.GLB_IMGSTAT]) ∧
  (∀ (fault : Option (Fin 56)), ChangesOnly (.imageStreamDone fault) (Piece.entry.append [.img, .mode]) (Reg.entry.append
    [.CLK_ISLSTAT, .GLB_BANKSTAT, .GLB_IMGERR, .GLB_IMGSTAT, .PWD_STAT]))

/-- What the register writes of a row of their own leave alone, whether they take effect, wait or are refused: no part and no
register changes but those listed. -/
def Obligations.WritesFrame : Prop :=
  (∀ (p : PortId) (w : RegW), ChangesOnly (.retrain p w) Piece.writing (Reg.writing.append [.SPN_CTL, .SPN_PSTAT])) ∧
  (∀ (sp : SpanId) (w : RegW), ChangesOnly (.clockModeWrite sp w) Piece.writing (Reg.writing.append [.SPN_CLKMODE])) ∧
  (∀ (sp : SpanId) (l : LaneId) (w : RegW), ChangesOnly (.errclr sp l w) Piece.writing (Reg.writing.append [.SPN_LANE])) ∧
  (∀ (g : SpanId) (w : RegW), ChangesOnly (.floingRetrain g w) (Piece.closing.append [.img]) (Reg.linkLoss.append Reg.writing
    |>.append [.SPN_CALSTAT, .SPN_COEF, .SPN_FLCNT, .SPN_FLCTL, .SPN_FLSTAT, .SPN_LANE])) ∧
  (∀ (g : SpanId) (v : Fin 8) (w : RegW), ChangesOnly (.rxAllocWrite g v w) (Piece.writing.append [.fl]) (Reg.writing.append
    [.SPN_FLVC])) ∧
  (∀ (m : PlaneId) (org : Origin), ChangesOnly (.fence m org) Piece.quarantining (Reg.quarantining.append Reg.writing
    |>.append [.DCK_STAT, .GLB_PLANES, .PIR_DKSTAT, .PIR_PMAP])) ∧
  (∀ (m : PlaneId) (org : Origin), ChangesOnly (.unfence m org) Piece.quarantining (Reg.quarantining.append Reg.writing
    |>.append [.DCK_STAT, .GLB_PLANES, .PIR_DKSTAT, .PIR_PMAP])) ∧
  (∀ (n : PierId) (k : Fin 8) (w : RegW), ChangesOnly (.pmapWrite n k w) Piece.writing (Reg.writing.append [.PIR_PMAP])) ∧
  (∀ (n : PierId) (a : Option (Fin 128)) (w : RegW), ChangesOnly (.bufferReserveWrite n a w) Piece.writing
    (Reg.writing.append [.PIR_BUFCFG, .PIR_BUFTHR])) ∧
  (∀ (r : ShaperReg) (w : RegW), ChangesOnly (.shaperRateWrite r w) Piece.writing (Reg.writing.append [.PIR_QCFG, .PIR_QRATE,
    .PIR_TSCFG, .PIR_TSRATE])) ∧
  (∀ (p : PortId) (w : RegW), ChangesOnly (.expressPolicerWrite p w) Piece.writing (Reg.writing.append [.PIR_EPCFG])) ∧
  (∀ (tag : Fin 1024) (org : Origin), ChangesOnly (.tagSet tag org) (Piece.writing.append [.csn]) (Reg.writing.append
    [.CSN_TAGSTAT])) ∧
  (∀ (n : PierId) (d : Fin 64) (w : RegW), ChangesOnly (.frouteWrite n d w) Piece.writing (Reg.writing.append [.PIR_FROUTE])) ∧
  (∀ (z : Fin 130) (x : Fin 4) (w : RegW), ChangesOnly (.windowValidWrite z x w) Piece.writing (Reg.writing.append
    [.GTE_WATTR])) ∧
  (∀ (z : Fin 130) (x : Fin 4) (limit high : Bool) (w : RegW), ChangesOnly (.windowBoundsWrite z x limit high w)
    Piece.writing (Reg.writing.append [.GTE_WBASE, .GTE_WLIMIT])) ∧
  (∀ (e : LockEnt) (w : RegW), ChangesOnly (.entryLock e w) Piece.writing (Reg.writing.append [.GTE_SBKEY, .GTE_SLOT,
    .GTE_WATTR, .TNT_ENTCTL, .TNT_KEY, .TNT_PORTDEF])) ∧
  (∀ (r : TenantReg) (w : RegW), ChangesOnly (.tenantEntryWrite r w) Piece.writing (Reg.writing.append [.TNT_ENTCTL,
    .TNT_ENTPASID, .TNT_ENTRID, .TNT_PORTDEF])) ∧
  (∀ (p : PortId) (org : Origin), ChangesOnly (.close p org) (Piece.closing.append [.img]) (Reg.closing.append Reg.writing
    |>.append [.SPN_LANE])) ∧
  (∀ (p : PortId) (org : Origin), ChangesOnly (.release p org) (Piece.closing.append [.img]) (Reg.closing.append Reg.writing
    |>.append [.SPN_LANE])) ∧
  (∀ (u : TenantId) (org : Origin), ChangesOnly (.tenantClose u org) Piece.writing (Reg.writing.append [.GLB_TCLOSE])) ∧
  (∀ (u : TenantId) (org : Origin), ChangesOnly (.tenantRelease u org) Piece.writing (Reg.writing.append [.GLB_TCLOSE])) ∧
  (∀ (org : Origin), ChangesOnly (.quar org) Piece.quarantining (Reg.quarantining.append Reg.writing |>.append [.GLB_ERRCTL])) ∧
  (∀ (g : EngId) (org : Origin), ChangesOnly (.park g org) Piece.writing (Reg.writing.append [.ENG_CTL, .PIR_DUTY])) ∧
  (∀ (g : EngId) (org : Origin), ChangesOnly (.unpark g org) Piece.writing (Reg.writing.append [.ENG_CTL, .PIR_DUTY])) ∧
  (∀ (w : RegW), ChangesOnly (.journalReadLatch w) Piece.writing (Reg.writing.append [.JNL_RDSEQ])) ∧
  (∀ (org : Origin), ChangesOnly (.commandSubmit org) Piece.writing (Reg.writing.append [.JNL_CMDRES, .JNL_CMDSEQ,
    .JNL_STAT])) ∧
  (∀ (bits : Word) (org : Origin), ChangesOnly (.recFire bits org) Piece.writing Reg.writing) ∧
  (∀ (org : Origin), ChangesOnly (.snap org) Piece.writing Reg.writing) ∧
  (∀ (org : Origin), ChangesOnly (.freeze org) Piece.writing Reg.writing) ∧
  (∀ (org : Origin), ChangesOnly (.thaw org) Piece.writing Reg.writing) ∧
  (∀ (org : Origin), ChangesOnly (.clear org) Piece.writing Reg.writing) ∧
  (∀ (b : BlockId) (org : Origin), ChangesOnly (.blockClear b org) Piece.writing (Reg.writing.append [.PMC_BCTL])) ∧
  (∀ (b : BlockId) (k : Fin 8) (w : RegW), ChangesOnly (.eventSelectWrite b k w) Piece.writing (Reg.writing.append
    [.PMC_EVT])) ∧
  (∀ (f : FeedId) (w : RegW), ChangesOnly (.select f w) (Piece.writing.append [.abt]) (Reg.writing.append [.ABT_FCTL,
    .ABT_FEED, .ABT_STAT])) ∧
  (∀ (f : FeedId) (w : RegW), ChangesOnly (.restart f w) (Piece.writing.append [.abt]) (Reg.writing.append [.ABT_FCTL,
    .ABT_FEED, .ABT_STAT])) ∧
  (∀ (f : FeedId) (en : Bool) (org : Origin), ChangesOnly (.feedEnableWrite f en org) (Piece.writing.append [.abt])
    (Reg.writing.append [.ABT_FCTL, .ABT_FEED, .ABT_STAT])) ∧
  (∀ (org : Origin), ChangesOnly (.vminClear org) Piece.writing (Reg.writing.append [.ABT_VMIN])) ∧
  (∀ (reset : Bool) (w : RegW), ChangesOnly (.thresholdWrite reset w) Piece.writing (Reg.writing.append [.ABT_VTHR0,
    .ABT_VTHR1])) ∧
  (∀ (d : DomId) (w : RegW), ChangesOnly (.domainOnRequest d w) Piece.quarantining (Reg.linkLoss.append Reg.writing |>.append
    [.CLK_ISLSTAT, .CSN_CHSTAT, .DCK_STAT, .GLB_PLANES, .PIR_DUTY, .PWD_CTL, .PWD_STAT, .SPN_CALSTAT, .SPN_COEF,
    .SPN_FLSTAT])) ∧
  (∀ (d : DomId) (w : RegW), ChangesOnly (.domainOffRequest d w) Piece.quarantining (Reg.linkLoss.append Reg.writing
    |>.append [.CLK_ISLSTAT, .CSN_CHSTAT, .DCK_STAT, .GLB_PLANES, .PIR_DUTY, .PWD_CTL, .PWD_STAT, .SPN_CALSTAT, .SPN_COEF,
    .SPN_FLSTAT])) ∧
  (∀ (w : RegW), ChangesOnly (.thermalThresholdWrite w) Piece.writing (Reg.writing.append [.GLB_THERM])) ∧
  (∀ (org : Origin), ChangesOnly (.provision org) (Piece.writing.append [.key]) (Reg.writing.append [.KEY_NONCE, .KEY_SLOT,
    .KEY_SLOTHASH, .KEY_STAT])) ∧
  (∀ (org : Origin), ChangesOnly (.revoke org) (Piece.writing.append [.key]) (Reg.writing.append [.KEY_NONCE, .KEY_SLOT,
    .KEY_SLOTHASH, .KEY_STAT])) ∧
  (∀ (copy : Bool) (org : Origin), ChangesOnly (.stageErase copy org) (Piece.writing.append [.key]) (Reg.writing.append
    [.KEY_NONCE, .KEY_SLOT, .KEY_SLOTHASH, .KEY_STAT])) ∧
  (∀ (w : RegW), ChangesOnly (.stageWrite w) (Piece.writing.append [.key]) (Reg.writing.append [.KEY_STAT, .KEY_STGADDR]))

/-- What the commands that reach many units leave alone: a register write of any register, the TLPs, commands and entries that
can carry one, the events that can take the supply or a pier down, resets, and the commits of an image. `Reg.shown` holds
read-only registers, `Reg.unswitched` registers outside the switched domains, `Reg.lasting` what a module reset keeps (log
entry 25). -/
def Obligations.WideFrame : Prop :=
  (∀ (off : Nat) (w : RegW), LeavesAlone (.registerWrite off w) [.sb] Reg.shown) ∧
  (∀ (p : PortId) (t : Tlp) (err : WordErr), LeavesAlone (.tlpReceived p t err) [.sb] Reg.shown) ∧
  (∀ (sp : SpanId) (cls : Fin 4), LeavesAlone (.heldTlpRetry sp cls) [.sb] Reg.shown) ∧
  (∀ (p : PortId) (t : Tlp), LeavesAlone (.configurationRequest p t) [.sb] Reg.shown) ∧
  (∀ (v : VsId) (t : Tlp), LeavesAlone (.dmaCompletion v t) [.sb] Reg.shown) ∧
  (∀ (g : SpanId), LeavesAlone (.fabricPacketReceived g) [.sb] Reg.shown) ∧
  (∀ (g : EngId) (off : Nat) (val : Word) (be : BitVec 4), LeavesAlone (.engRegWrite g off val be) [.sb] Reg.shown) ∧
  (∀ (isl : IslandId), LeavesAlone (.journalEntry isl) [.sb] Reg.shown) ∧
  LeavesAlone .checkpointComplete [.sb] Reg.shown ∧
  (∀ (pecOk : Bool), LeavesAlone (.clearFaults pecOk) [.sb] Reg.shown) ∧
  LeavesAlone .sidebandAccessDone [] (Reg.shown.append [.GLB_BANKSTAT, .GLB_PIERSTAT, .PIR_EPCNT, .PIR_ERRCNT]) ∧
  (∀ (w : Option (BitVec 16)) (pecOk : Bool), LeavesAlone (.vinUvWarnLimit w pecOk) [] Reg.shown) ∧
  (∀ (w : Option (BitVec 16)) (pecOk : Bool), LeavesAlone (.vinUvFaultLimit w pecOk) [] Reg.shown) ∧
  (∀ (w : Option (BitVec 16)) (pecOk : Bool), LeavesAlone (.iinOcFaultLimit w pecOk) [] Reg.shown) ∧
  (∀ (x : AbtSample), LeavesAlone (.abutmentSample x) [.sb] (Reg.unswitched.append [.GLB_DMASTAT, .GLB_ERRSTAT, .GLB_IMGERR,
    .GLB_PIERSTAT, .GLB_SLOT, .GLB_TEMP, .GLB_TEMPMAX, .GLB_VSSTAT, .REC_PFSTAT])) ∧
  (∀ (f : FeedId), LeavesAlone (.fastTrip f) [.sb] (Reg.unswitched.append [.ABT_ENERGY, .ABT_IIN, .ABT_PIN, .ABT_RES,
    .ABT_TEMP, .ABT_VIN, .ABT_VMIN, .ABT_VOUT, .GLB_DMASTAT, .GLB_ERRSTAT, .GLB_IMGERR, .GLB_PIERSTAT, .GLB_SLOT, .GLB_TEMP,
    .GLB_TEMPMAX, .GLB_VSSTAT, .REC_PFSTAT])) ∧
  (∀ (f : FeedId), LeavesAlone (.faultTimerExpiry f) [.sb] (Reg.unswitched.append [.ABT_ENERGY, .ABT_IIN, .ABT_PIN, .ABT_RES,
    .ABT_TEMP, .ABT_VIN, .ABT_VMIN, .ABT_VOUT, .GLB_DMASTAT, .GLB_ERRSTAT, .GLB_IMGERR, .GLB_PIERSTAT, .GLB_SLOT, .GLB_TEMP,
    .GLB_TEMPMAX, .GLB_VSSTAT, .REC_PFSTAT])) ∧
  LeavesAlone .switchoverClose [.sb] (Reg.unswitched.append [.ABT_ENERGY, .ABT_IIN, .ABT_PIN, .ABT_RES, .ABT_TEMP, .ABT_VIN,
    .ABT_VMIN, .ABT_VOUT, .GLB_DMASTAT, .GLB_ERRSTAT, .GLB_IMGERR, .GLB_PIERSTAT, .GLB_SLOT, .GLB_TEMP, .GLB_TEMPMAX,
    .GLB_VSSTAT, .REC_PFSTAT]) ∧
  (∀ (t : List (BitVec 16)), LeavesAlone (.thermalSample t) [.abt, .sb] (Reg.unswitched.append [.ABT_ENERGY, .ABT_EVENT,
    .ABT_FEED, .ABT_IIN, .ABT_PIN, .ABT_RES, .ABT_STAT, .ABT_TEMP, .ABT_VIN, .ABT_VMIN, .ABT_VOUT, .GLB_DMASTAT,
    .GLB_PIERSTAT, .GLB_SLOT, .GLB_VSSTAT, .REC_PFSTAT, .REC_RLINE, .REC_RSEQ])) ∧
  (∀ (d : DomId) (pass : Bool) (bad : List Nat), LeavesAlone (.domainTestComplete d pass bad) [.abt, .sb]
    (Reg.unswitched.append [.ABT_ENERGY, .ABT_EVENT, .ABT_FEED, .ABT_IIN, .ABT_PIN, .ABT_RES, .ABT_STAT, .ABT_TEMP, .ABT_VIN,
    .ABT_VMIN, .ABT_VOUT, .GLB_TEMP, .GLB_TEMPMAX, .REC_RLINE, .REC_RSEQ])) ∧
  (∀ (d : DomId), LeavesAlone (.domainWipeComplete d) [.fl, .fab, .img, .abt, .mode, .key, .sb] (Reg.unswitched.append
    [.ABT_ENERGY, .ABT_EVENT, .ABT_FEED, .ABT_IIN, .ABT_PIN, .ABT_RES, .ABT_STAT, .ABT_TEMP, .ABT_VIN, .ABT_VMIN, .ABT_VOUT,
    .GLB_DMASTAT, .GLB_ERRSTAT, .GLB_IMGERR, .GLB_IMGSTAT, .GLB_MODE, .GLB_QSTAT, .GLB_TEMP, .GLB_TEMPMAX, .GLB_VSSTAT,
    .JNL_CMDRES, .JNL_HEAD, .KEY_NONCE, .KEY_SLOT, .KEY_SLOTHASH, .KEY_STAT, .REC_PFSTAT, .REC_RLINE, .REC_RSEQ, .REC_STAT])) ∧
  LeavesAlone .moduleReset [] (Reg.lasting.append [.ABT_ENERGY, .GLB_BANKSTAT, .REC_PFLOG, .REC_RLINE, .REC_RSEQ]) ∧
  (∀ (recovery : Bool), LeavesAlone (.configureEntry recovery) [.abt] (Reg.lasting.append [.ABT_ENERGY, .ABT_FEED,
    .GLB_BANKSTAT, .REC_PFLOG, .REC_RLINE, .REC_RSEQ])) ∧
  (∀ (fault : Option (Fin 56)), LeavesAlone (.bankVerifyDone fault) [] (Reg.lasting.append [.ABT_ENERGY, .REC_PFLOG,
    .REC_RLINE, .REC_RSEQ])) ∧
  LeavesAlone .mramWipeComplete [] (Reg.lasting.append [.GLB_BANKSTAT]) ∧
  LeavesAlone .liveSwapADone [.csn, .fl, .abt, .mode, .sb] [.ABT_ALERTEN, .ABT_CFG, .ABT_ILIM, .ABT_PMB, .ABT_TLIM,
    .ABT_VTHR0, .ABT_VTHR1] ∧
  LeavesAlone .rollbackDone [.abt, .sb] [.ABT_ALERTEN, .ABT_CFG, .ABT_ILIM, .ABT_PMB, .ABT_TLIM, .ABT_VTHR0, .ABT_VTHR1] ∧
  (∀ (fault : Option (Bool × Fin 55)), LeavesStores (.imageCommit fault)) ∧
  LeavesStores .liveSwapADone ∧
  LeavesStores .rollbackDone ∧
  LeavesStores .mramWipeComplete ∧
  (∀ (x : AbtSample), LeavesStores (.abutmentSample x)) ∧
  (∀ (f : FeedId), LeavesStores (.fastTrip f)) ∧
  (∀ (f : FeedId), LeavesStores (.faultTimerExpiry f)) ∧
  LeavesStores .switchoverClose ∧
  LeavesStores .moduleReset ∧
  (∀ (recovery : Bool), LeavesStores (.configureEntry recovery)) ∧
  (∀ (d : DomId) (pass : Bool) (bad : List Nat), LeavesStores (.domainTestComplete d pass bad)) ∧
  (∀ (d : DomId), LeavesStores (.domainWipeComplete d)) ∧
  (∀ (t : List (BitVec 16)), LeavesStores (.thermalSample t)) ∧
  (∀ (fault : Option (Fin 56)), LeavesStores (.bankVerifyDone fault)) ∧
  (∀ (feedB low : Bool), LeavesStores (.keeperPowerUp feedB low))
end

