-- ==== Sys2Proof/Laws/Maps.lean ====
section
/-! SUPPORT. Laws of the sparse maps: what is found after a key is deleted, inserted or written, and the canonical form. -/

namespace Sys2Proof.Machine

variable {α : Type}

theorem SMap.find?_filter_ne (m : SMap α) (q k : Nat) (h : k ≠ q) :
    SMap.find? (SMap.del m q) k = SMap.find? m k := by
  induction m with
  | nil => rfl
  | cons e m ih =>
    obtain ⟨a, v⟩ := e
    unfold SMap.del at ih ⊢
    by_cases ha : a = q
    · subst ha; simp only [List.filter_cons]; simp [SMap.find?, h, ih]
    · simp only [List.filter_cons]; simp [SMap.find?, ha, ih]

theorem SMap.find?_del_self (m : SMap α) (q : Nat) : SMap.find? (SMap.del m q) q = none := by
  induction m with
  | nil => rfl
  | cons e m ih =>
    obtain ⟨a, v⟩ := e
    unfold SMap.del at ih ⊢
    by_cases ha : a = q
    · subst ha; simp only [List.filter_cons]; simp [ih]
    · simp only [List.filter_cons]; simp [SMap.find?, ha, ih, Ne.symm ha]

theorem SMap.find?_insertAt_self (m : SMap α) (q : Nat) (v : α) (h : SMap.find? m q = none) :
    SMap.find? (SMap.insertAt m q v) q = some v := by
  induction m with
  | nil => simp [SMap.insertAt, SMap.find?]
  | cons e m ih =>
    obtain ⟨a, w⟩ := e
    simp only [SMap.find?] at h
    split at h
    · cases h
    · rename_i hne
      simp only [SMap.insertAt]
      split
      · simp [SMap.find?]
      · simp [SMap.find?, hne, ih h]

theorem SMap.find?_insertAt_ne (m : SMap α) (q k : Nat) (v : α) (h : k ≠ q) :
    SMap.find? (SMap.insertAt m q v) k = SMap.find? m k := by
  induction m with
  | nil => simp [SMap.insertAt, SMap.find?, h]
  | cons e m ih =>
    obtain ⟨a, w⟩ := e
    simp only [SMap.insertAt]
    split
    · simp [SMap.find?, h]
    · simp [SMap.find?, ih]

/-- A key that was set is found. -/
theorem SMap.find?_ins_self (m : SMap α) (q : Nat) (v : α) : SMap.find? (SMap.ins m q v) q = some v :=
  SMap.find?_insertAt_self _ _ _ (SMap.find?_del_self m q)

/-- Another key is found as before. -/
theorem SMap.find?_ins_ne (m : SMap α) (q k : Nat) (v : α) (h : k ≠ q) :
    SMap.find? (SMap.ins m q v) k = SMap.find? m k := by
  rw [SMap.ins, SMap.find?_insertAt_ne _ _ _ _ h, SMap.find?_filter_ne _ _ _ h]

variable [DecidableEq α]

/-- A read after a write to the same key. -/
@[simp] theorem SMap.get_put_self (d : α) (m : SMap α) (q : Nat) (v : α) : SMap.get d (SMap.put d m q v) q = v := by
  unfold SMap.get SMap.put
  split
  · rename_i h; rw [SMap.find?_del_self]; simp [h]
  · rw [SMap.find?_ins_self]; rfl

/-- A read after a write to another key. -/
theorem SMap.get_put_ne (d e : α) (m : SMap α) (q k : Nat) (v : α) (h : k ≠ q) :
    SMap.get d (SMap.put e m q v) k = SMap.get d m k := by
  unfold SMap.get SMap.put
  split
  · rw [SMap.find?_filter_ne _ _ _ h]
  · rw [SMap.find?_ins_ne _ _ _ _ h]

theorem SMap.mem_insertAt (m : SMap α) (q : Nat) (v : α) (e : Nat × α) :
    e ∈ SMap.insertAt m q v ↔ e = (q, v) ∨ e ∈ m := by
  induction m with
  | nil => simp [SMap.insertAt]
  | cons x m ih =>
    obtain ⟨a, w⟩ := x
    simp only [SMap.insertAt]
    split
    · simp
    · simp only [List.mem_cons, ih]; tauto

/-- Inserting a key that is not listed keeps the keys rising. -/
theorem SMap.insertAt_sorted (m : SMap α) (q : Nat) (v : α) (h : m.Pairwise (fun a b => a.1 < b.1))
    (hq : ∀ e ∈ m, e.1 ≠ q) : (SMap.insertAt m q v).Pairwise (fun a b => a.1 < b.1) := by
  induction m with
  | nil => simp [SMap.insertAt]
  | cons x m ih =>
    obtain ⟨a, w⟩ := x
    rw [List.pairwise_cons] at h
    simp only [SMap.insertAt]
    split
    · rename_i hlt
      rw [List.pairwise_cons, List.pairwise_cons]
      refine ⟨fun e he => ?_, h⟩
      rcases List.mem_cons.1 he with rfl | he
      · exact hlt
      · exact lt_trans hlt (h.1 e he)
    · rename_i hge
      rw [List.pairwise_cons]
      refine ⟨fun e he => ?_, ih h.2 (fun e he => hq e (List.mem_cons_of_mem _ he))⟩
      rcases (SMap.mem_insertAt m q v e).1 he with rfl | he
      · have := hq (a, w) (List.mem_cons_self ..)
        simp only at this ⊢; omega
      · exact h.1 e he

/-- A write keeps the canonical form. -/
theorem SMap.put_wf (d : Nat → α) (m : SMap α) (q : Nat) (v : α) (h : SMap.Wf d m) : SMap.Wf d (SMap.put (d q) m q v) := by
  have hd : SMap.Wf d (SMap.del m q) :=
    ⟨h.1.filter _, fun e he => h.2 e (List.mem_of_mem_filter he)⟩
  unfold SMap.put
  split
  · exact hd
  · rename_i hv
    refine ⟨SMap.insertAt_sorted _ _ _ hd.1 (fun e he => ?_), fun e he => ?_⟩
    · have := (List.mem_filter.1 he).2; simpa using this
    · rcases (SMap.mem_insertAt _ _ _ _).1 he with rfl | he
      · exact hv
      · exact hd.2 e he

end Sys2Proof.Machine
end

