-- ==== Sys2Proof/Laws/Regs.lean ====
section
/-! SUPPORT. Laws of registers and their fields: a read after a write of the same instance, of another one, of another field. -/

namespace Sys2Proof.Machine

theorem Reg.ctorIdx_lt (r : Reg) : r.ctorIdx < 256 := by cases r <;> decide

theorem Reg.ctorIdx_inj {r q : Reg} (h : r.ctorIdx = q.ctorIdx) : r = q := by
  have ho (x : Reg) : Reg.ofNat x.ctorIdx = x := by cases x <;> rfl
  rw [← ho r, ← ho q, h]

/-- Two instances have one key only if they are one. -/
theorem regKey_inj {r q : Reg} {i j : Nat} (h : regKey r i = regKey q j) : r = q ∧ i = j := by
  have hr := Reg.ctorIdx_lt r
  have hq := Reg.ctorIdx_lt q
  unfold regKey at h
  exact ⟨Reg.ctorIdx_inj (by omega), by omega⟩

/-! ### Whole registers -/

@[simp] theorem State.rd_wr_self (s : State) (r : Reg) (i : Nat) (w : Word) : (s.wr r i w).rd r i = w := by
  simp [State.rd, State.wr]

theorem State.rd_wr_ne (s : State) (r q : Reg) (i j : Nat) (w : Word) (h : r ≠ q ∨ i ≠ j) :
    (s.wr q j w).rd r i = s.rd r i := by
  unfold State.rd State.wr
  apply SMap.get_put_ne
  intro hk
  obtain ⟨rfl, rfl⟩ := regKey_inj hk
  rcases h with h | h <;> exact h rfl

/-- A write of another register. -/
@[simp] theorem State.rd_wr_reg (s : State) (r q : Reg) (i j : Nat) (w : Word) (h : r ≠ q) :
    (s.wr q j w).rd r i = s.rd r i := State.rd_wr_ne s r q i j w (.inl h)

/-- A write of another instance. -/
theorem State.rd_wr_idx (s : State) (r : Reg) (i j : Nat) (w : Word) (h : i ≠ j) :
    (s.wr r j w).rd r i = s.rd r i := State.rd_wr_ne s r r i j w (.inr h)

/-! ### Fields -/

/-- A field that lies in its word. -/
abbrev Fld.Ok (f : Fld) : Prop := f.lo ≤ f.hi ∧ f.hi < 32

theorem Fld.mask_getLsbD (f : Fld) (h : f.Ok) (k : Nat) : f.mask.getLsbD k = decide (f.lo ≤ k ∧ k ≤ f.hi) := by
  obtain ⟨h1, h2⟩ := h
  unfold Fld.mask Fld.width
  rw [Bool.eq_iff_iff]
  simp only [BitVec.getLsbD_ofNat, Nat.testBit_shiftLeft, Nat.testBit_two_pow_sub_one, Bool.and_eq_true, decide_eq_true_eq]
  omega

theorem Fld.set_getLsbD (f : Fld) (h : f.Ok) (w : Word) (v k : Nat) : (f.set w v).getLsbD k =
    if f.lo ≤ k ∧ k ≤ f.hi then v.testBit (k - f.lo) else w.getLsbD k := by
  obtain ⟨h1, h2⟩ := h
  unfold Fld.set
  simp only [BitVec.getLsbD_or, BitVec.getLsbD_and, BitVec.getLsbD_not, Fld.mask_getLsbD f ⟨h1, h2⟩,
    BitVec.getLsbD_shiftLeft, BitVec.getLsbD_ofNat, Nat.testBit_mod_two_pow, Fld.width]
  by_cases hk : f.lo ≤ k ∧ k ≤ f.hi
  · have a : k < 32 := by omega
    have b : k - f.lo < 32 := by omega
    have c : k - f.lo < f.hi + 1 - f.lo := by omega
    have d : ¬ k < f.lo := by omega
    simp [hk, a, b, c, d]
  · by_cases a : k < 32
    · by_cases d : k < f.lo
      · simp [hk, a, d]
      · have c : ¬ k - f.lo < f.hi + 1 - f.lo := by omega
        simp [hk, a, c]
    · have : w.getLsbD k = false := BitVec.getLsbD_of_ge w k (by omega)
      simp [hk, a, this]

theorem Fld.get_testBit (f : Fld) (w : Word) (k : Nat) :
    (f.get w).testBit k = (decide (k < f.width) && w.getLsbD (f.lo + k)) := by
  unfold Fld.get
  rw [Nat.testBit_mod_two_pow, Nat.testBit_shiftRight, BitVec.testBit_toNat]

/-- The field that was set. -/
theorem Fld.get_set (f : Fld) (h : f.Ok) (w : Word) (v : Nat) : f.get (f.set w v) = v % 2 ^ f.width := by
  apply Nat.eq_of_testBit_eq
  intro k
  rw [Fld.get_testBit, Fld.set_getLsbD f h, Nat.testBit_mod_two_pow]
  by_cases hk : k < f.width
  · unfold Fld.width at hk
    rw [if_pos ⟨Nat.le_add_right _ _, by omega⟩]
    simp
  · simp [hk]

/-- A field that shares no bit with the one that was set. -/
theorem Fld.get_set_ne (f g : Fld) (hf : f.Ok) (hg : g.Ok) (w : Word) (v : Nat) (h : g.hi < f.lo ∨ f.hi < g.lo) :
    g.get (f.set w v) = g.get w := by
  apply Nat.eq_of_testBit_eq
  intro k
  rw [Fld.get_testBit, Fld.get_testBit, Fld.set_getLsbD f hf]
  by_cases hk : k < g.width
  · unfold Fld.width at hk
    obtain ⟨_, _⟩ := hg
    rw [if_neg (by omega)]
  · simp [hk]

/-! ### Fields of the register file -/

theorem State.f_setf_self (s : State) (f : Fld) (i v : Nat) (h : f.Ok) : (s.setf f i v).f f i = v % 2 ^ f.width := by
  simp [State.f, State.setf, Fld.get_set f h]

@[simp] theorem State.rd_setf_reg (s : State) (f : Fld) (r : Reg) (i j v : Nat) (h : r ≠ f.reg) :
    (s.setf f j v).rd r i = s.rd r i := State.rd_wr_reg _ _ _ _ _ _ h

theorem State.rd_setf_idx (s : State) (f : Fld) (i j v : Nat) (h : i ≠ j) :
    (s.setf f j v).rd f.reg i = s.rd f.reg i := State.rd_wr_idx _ _ _ _ _ h

theorem State.f_setf_reg (s : State) (f g : Fld) (i j v : Nat) (h : g.reg ≠ f.reg) : (s.setf f j v).f g i = s.f g i := by
  simp [State.f, State.rd_setf_reg s f g.reg i j v h]

theorem State.f_setf_idx (s : State) (f g : Fld) (i j v : Nat) (h : i ≠ j) : (s.setf f j v).f g i = s.f g i := by
  unfold State.f State.setf
  rw [State.rd_wr_ne _ _ _ _ _ _ (.inr h)]

/-- A field of the same register that shares no bit, of any instance. -/
theorem State.f_setf_fld (s : State) (f g : Fld) (i j v : Nat) (hf : f.Ok) (hg : g.Ok)
    (h : g.hi < f.lo ∨ f.hi < g.lo) : (s.setf f j v).f g i = s.f g i := by
  by_cases hr : g.reg = f.reg
  · by_cases hi : i = j
    · subst hi
      unfold State.f State.setf
      rw [hr, State.rd_wr_self, Fld.get_set_ne f g hf hg _ _ h]
    · exact State.f_setf_idx s f g i j v hi
  · exact State.f_setf_reg s f g i j v hr

theorem State.f_wr_self (s : State) (f : Fld) (i : Nat) (w : Word) : (s.wr f.reg i w).f f i = f.get w := by
  simp [State.f]

theorem State.f_wr_reg (s : State) (f : Fld) (q : Reg) (i j : Nat) (w : Word) (h : f.reg ≠ q) :
    (s.wr q j w).f f i = s.f f i := by simp [State.f, h]

/-- A field apart from the one that was set keeps its value. -/
theorem State.f_setf_apart (s : State) (f g : Fld) (i j v : Nat) (h : f.apart g = true) :
    (s.setf f j v).f g i = s.f g i := by
  simp only [Fld.apart, Bool.or_eq_true, bne_iff_ne, ne_eq, Bool.and_eq_true, decide_eq_true_eq] at h
  rcases h with h | ⟨⟨⟨⟨a, b⟩, c⟩, d⟩, e⟩
  · exact State.f_setf_reg s f g i j v (fun x => h x.symm)
  · exact State.f_setf_fld s f g i j v ⟨a, b⟩ ⟨c, d⟩ e

theorem State.b_setf_apart (s : State) (f g : Fld) (i j v : Nat) (h : f.apart g = true) :
    (s.setf f j v).b g i = s.b g i := by simp [State.b, State.f_setf_apart s f g i j v h]

theorem State.b_setf_self (s : State) (f : Fld) (i v : Nat) (h : f.Ok) : (s.setf f i v).b f i = (v % 2 ^ f.width != 0) := by
  simp [State.b, State.f_setf_self s f i v h]

/-! ### 64-bit quantities -/

theorem State.rd64_wr64_self (s : State) (r : Reg) (i v : Nat) : (s.wr64 r i v).rd64 r i = v % 2 ^ 64 := by
  unfold State.rd64 State.wr64
  rw [State.rd_wr_idx _ _ _ _ _ (Nat.ne_of_lt (Nat.lt_succ_self i)), State.rd_wr_self, State.rd_wr_self]
  simp only [BitVec.toNat_ofNat]
  omega

@[simp] theorem State.rd_wr64_reg (s : State) (r q : Reg) (i j v : Nat) (h : r ≠ q) : (s.wr64 q j v).rd r i = s.rd r i := by
  simp [State.wr64, h]

theorem State.f_wr64_reg (s : State) (f : Fld) (q : Reg) (i j v : Nat) (h : f.reg ≠ q) :
    (s.wr64 q j v).f f i = s.f f i := by simp [State.f, State.rd_wr64_reg s f.reg q i j v h]

/-! ### Bits of a field -/

theorem State.bitf_setf_self (s : State) (f : Fld) (i v k : Nat) (h : f.Ok) (hk : k < f.width) :
    (s.setf f i v).bitf f i k = v.testBit k := by
  simp [State.bitf, State.f_setf_self s f i v h, Nat.testBit_mod_two_pow, hk]

/-- The canonical form of the register file is kept by every raw write. -/
theorem State.wr_wf (s : State) (r : Reg) (i : Nat) (w : Word) (h : SMap.Wf regDefault s.regs) :
    SMap.Wf regDefault (s.wr r i w).regs := by
  have hd : regDefault (regKey r i) = r.reset i := by
    have hr := Reg.ctorIdx_lt r
    unfold regDefault regKey
    have h1 : (i * 256 + r.ctorIdx) % 256 = r.ctorIdx := by omega
    have h2 : (i * 256 + r.ctorIdx) / 256 = i := by omega
    rw [h1, h2]
    have ho : Reg.ofNat r.ctorIdx = r := by cases r <;> rfl
    rw [ho]
  have := SMap.put_wf regDefault s.regs (regKey r i) w h
  rw [hd] at this
  exact this

end Sys2Proof.Machine
end

