-- ==== Sys2Proof/Laws/State.lean ====
section
/-! SUPPORT. Every field of the state under every register update and at the end of a command. -/

namespace Sys2Proof.Machine

variable (s : State) (r : Reg) (f : Fld) (i k n : Nat) (w : Word) (b : Bool) (q : List Instr)

/-! ### wr -/

@[simp] theorem State.wr_env : (s.wr r i w).env = s.env := rfl
@[simp] theorem State.wr_jrn : (s.wr r i w).jrn = s.jrn := rfl
@[simp] theorem State.wr_err : (s.wr r i w).err = s.err := rfl
@[simp] theorem State.wr_ports : (s.wr r i w).ports = s.ports := rfl
@[simp] theorem State.wr_deck : (s.wr r i w).deck = s.deck := rfl
@[simp] theorem State.wr_csn : (s.wr r i w).csn = s.csn := rfl
@[simp] theorem State.wr_fl : (s.wr r i w).fl = s.fl := rfl
@[simp] theorem State.wr_host : (s.wr r i w).host = s.host := rfl
@[simp] theorem State.wr_fab : (s.wr r i w).fab = s.fab := rfl
@[simp] theorem State.wr_eng : (s.wr r i w).eng = s.eng := rfl
@[simp] theorem State.wr_img : (s.wr r i w).img = s.img := rfl
@[simp] theorem State.wr_rcd : (s.wr r i w).rcd = s.rcd := rfl
@[simp] theorem State.wr_pmc : (s.wr r i w).pmc = s.pmc := rfl
@[simp] theorem State.wr_abt : (s.wr r i w).abt = s.abt := rfl
@[simp] theorem State.wr_mode : (s.wr r i w).mode = s.mode := rfl
@[simp] theorem State.wr_key : (s.wr r i w).key = s.key := rfl
@[simp] theorem State.wr_sb : (s.wr r i w).sb = s.sb := rfl
@[simp] theorem State.wr_pending : (s.wr r i w).pending = s.pending := rfl

/-! ### setf -/

@[simp] theorem State.setf_env : (s.setf f i n).env = s.env := rfl
@[simp] theorem State.setf_jrn : (s.setf f i n).jrn = s.jrn := rfl
@[simp] theorem State.setf_err : (s.setf f i n).err = s.err := rfl
@[simp] theorem State.setf_ports : (s.setf f i n).ports = s.ports := rfl
@[simp] theorem State.setf_deck : (s.setf f i n).deck = s.deck := rfl
@[simp] theorem State.setf_csn : (s.setf f i n).csn = s.csn := rfl
@[simp] theorem State.setf_fl : (s.setf f i n).fl = s.fl := rfl
@[simp] theorem State.setf_host : (s.setf f i n).host = s.host := rfl
@[simp] theorem State.setf_fab : (s.setf f i n).fab = s.fab := rfl
@[simp] theorem State.setf_eng : (s.setf f i n).eng = s.eng := rfl
@[simp] theorem State.setf_img : (s.setf f i n).img = s.img := rfl
@[simp] theorem State.setf_rcd : (s.setf f i n).rcd = s.rcd := rfl
@[simp] theorem State.setf_pmc : (s.setf f i n).pmc = s.pmc := rfl
@[simp] theorem State.setf_abt : (s.setf f i n).abt = s.abt := rfl
@[simp] theorem State.setf_mode : (s.setf f i n).mode = s.mode := rfl
@[simp] theorem State.setf_key : (s.setf f i n).key = s.key := rfl
@[simp] theorem State.setf_sb : (s.setf f i n).sb = s.sb := rfl
@[simp] theorem State.setf_pending : (s.setf f i n).pending = s.pending := rfl

/-! ### satf -/

@[simp] theorem State.satf_env : (s.satf f i n).env = s.env := rfl
@[simp] theorem State.satf_jrn : (s.satf f i n).jrn = s.jrn := rfl
@[simp] theorem State.satf_err : (s.satf f i n).err = s.err := rfl
@[simp] theorem State.satf_ports : (s.satf f i n).ports = s.ports := rfl
@[simp] theorem State.satf_deck : (s.satf f i n).deck = s.deck := rfl
@[simp] theorem State.satf_csn : (s.satf f i n).csn = s.csn := rfl
@[simp] theorem State.satf_fl : (s.satf f i n).fl = s.fl := rfl
@[simp] theorem State.satf_host : (s.satf f i n).host = s.host := rfl
@[simp] theorem State.satf_fab : (s.satf f i n).fab = s.fab := rfl
@[simp] theorem State.satf_eng : (s.satf f i n).eng = s.eng := rfl
@[simp] theorem State.satf_img : (s.satf f i n).img = s.img := rfl
@[simp] theorem State.satf_rcd : (s.satf f i n).rcd = s.rcd := rfl
@[simp] theorem State.satf_pmc : (s.satf f i n).pmc = s.pmc := rfl
@[simp] theorem State.satf_abt : (s.satf f i n).abt = s.abt := rfl
@[simp] theorem State.satf_mode : (s.satf f i n).mode = s.mode := rfl
@[simp] theorem State.satf_key : (s.satf f i n).key = s.key := rfl
@[simp] theorem State.satf_sb : (s.satf f i n).sb = s.sb := rfl
@[simp] theorem State.satf_pending : (s.satf f i n).pending = s.pending := rfl

/-! ### subf -/

@[simp] theorem State.subf_env : (s.subf f i n).env = s.env := rfl
@[simp] theorem State.subf_jrn : (s.subf f i n).jrn = s.jrn := rfl
@[simp] theorem State.subf_err : (s.subf f i n).err = s.err := rfl
@[simp] theorem State.subf_ports : (s.subf f i n).ports = s.ports := rfl
@[simp] theorem State.subf_deck : (s.subf f i n).deck = s.deck := rfl
@[simp] theorem State.subf_csn : (s.subf f i n).csn = s.csn := rfl
@[simp] theorem State.subf_fl : (s.subf f i n).fl = s.fl := rfl
@[simp] theorem State.subf_host : (s.subf f i n).host = s.host := rfl
@[simp] theorem State.subf_fab : (s.subf f i n).fab = s.fab := rfl
@[simp] theorem State.subf_eng : (s.subf f i n).eng = s.eng := rfl
@[simp] theorem State.subf_img : (s.subf f i n).img = s.img := rfl
@[simp] theorem State.subf_rcd : (s.subf f i n).rcd = s.rcd := rfl
@[simp] theorem State.subf_pmc : (s.subf f i n).pmc = s.pmc := rfl
@[simp] theorem State.subf_abt : (s.subf f i n).abt = s.abt := rfl
@[simp] theorem State.subf_mode : (s.subf f i n).mode = s.mode := rfl
@[simp] theorem State.subf_key : (s.subf f i n).key = s.key := rfl
@[simp] theorem State.subf_sb : (s.subf f i n).sb = s.sb := rfl
@[simp] theorem State.subf_pending : (s.subf f i n).pending = s.pending := rfl

/-! ### wrapf -/

@[simp] theorem State.wrapf_env : (s.wrapf f i n).env = s.env := rfl
@[simp] theorem State.wrapf_jrn : (s.wrapf f i n).jrn = s.jrn := rfl
@[simp] theorem State.wrapf_err : (s.wrapf f i n).err = s.err := rfl
@[simp] theorem State.wrapf_ports : (s.wrapf f i n).ports = s.ports := rfl
@[simp] theorem State.wrapf_deck : (s.wrapf f i n).deck = s.deck := rfl
@[simp] theorem State.wrapf_csn : (s.wrapf f i n).csn = s.csn := rfl
@[simp] theorem State.wrapf_fl : (s.wrapf f i n).fl = s.fl := rfl
@[simp] theorem State.wrapf_host : (s.wrapf f i n).host = s.host := rfl
@[simp] theorem State.wrapf_fab : (s.wrapf f i n).fab = s.fab := rfl
@[simp] theorem State.wrapf_eng : (s.wrapf f i n).eng = s.eng := rfl
@[simp] theorem State.wrapf_img : (s.wrapf f i n).img = s.img := rfl
@[simp] theorem State.wrapf_rcd : (s.wrapf f i n).rcd = s.rcd := rfl
@[simp] theorem State.wrapf_pmc : (s.wrapf f i n).pmc = s.pmc := rfl
@[simp] theorem State.wrapf_abt : (s.wrapf f i n).abt = s.abt := rfl
@[simp] theorem State.wrapf_mode : (s.wrapf f i n).mode = s.mode := rfl
@[simp] theorem State.wrapf_key : (s.wrapf f i n).key = s.key := rfl
@[simp] theorem State.wrapf_sb : (s.wrapf f i n).sb = s.sb := rfl
@[simp] theorem State.wrapf_pending : (s.wrapf f i n).pending = s.pending := rfl

/-! ### wr64 -/

@[simp] theorem State.wr64_env : (s.wr64 r i n).env = s.env := rfl
@[simp] theorem State.wr64_jrn : (s.wr64 r i n).jrn = s.jrn := rfl
@[simp] theorem State.wr64_err : (s.wr64 r i n).err = s.err := rfl
@[simp] theorem State.wr64_ports : (s.wr64 r i n).ports = s.ports := rfl
@[simp] theorem State.wr64_deck : (s.wr64 r i n).deck = s.deck := rfl
@[simp] theorem State.wr64_csn : (s.wr64 r i n).csn = s.csn := rfl
@[simp] theorem State.wr64_fl : (s.wr64 r i n).fl = s.fl := rfl
@[simp] theorem State.wr64_host : (s.wr64 r i n).host = s.host := rfl
@[simp] theorem State.wr64_fab : (s.wr64 r i n).fab = s.fab := rfl
@[simp] theorem State.wr64_eng : (s.wr64 r i n).eng = s.eng := rfl
@[simp] theorem State.wr64_img : (s.wr64 r i n).img = s.img := rfl
@[simp] theorem State.wr64_rcd : (s.wr64 r i n).rcd = s.rcd := rfl
@[simp] theorem State.wr64_pmc : (s.wr64 r i n).pmc = s.pmc := rfl
@[simp] theorem State.wr64_abt : (s.wr64 r i n).abt = s.abt := rfl
@[simp] theorem State.wr64_mode : (s.wr64 r i n).mode = s.mode := rfl
@[simp] theorem State.wr64_key : (s.wr64 r i n).key = s.key := rfl
@[simp] theorem State.wr64_sb : (s.wr64 r i n).sb = s.sb := rfl
@[simp] theorem State.wr64_pending : (s.wr64 r i n).pending = s.pending := rfl

/-! ### clearReg -/

@[simp] theorem State.clearReg_env : (s.clearReg r i).env = s.env := rfl
@[simp] theorem State.clearReg_jrn : (s.clearReg r i).jrn = s.jrn := rfl
@[simp] theorem State.clearReg_err : (s.clearReg r i).err = s.err := rfl
@[simp] theorem State.clearReg_ports : (s.clearReg r i).ports = s.ports := rfl
@[simp] theorem State.clearReg_deck : (s.clearReg r i).deck = s.deck := rfl
@[simp] theorem State.clearReg_csn : (s.clearReg r i).csn = s.csn := rfl
@[simp] theorem State.clearReg_fl : (s.clearReg r i).fl = s.fl := rfl
@[simp] theorem State.clearReg_host : (s.clearReg r i).host = s.host := rfl
@[simp] theorem State.clearReg_fab : (s.clearReg r i).fab = s.fab := rfl
@[simp] theorem State.clearReg_eng : (s.clearReg r i).eng = s.eng := rfl
@[simp] theorem State.clearReg_img : (s.clearReg r i).img = s.img := rfl
@[simp] theorem State.clearReg_rcd : (s.clearReg r i).rcd = s.rcd := rfl
@[simp] theorem State.clearReg_pmc : (s.clearReg r i).pmc = s.pmc := rfl
@[simp] theorem State.clearReg_abt : (s.clearReg r i).abt = s.abt := rfl
@[simp] theorem State.clearReg_mode : (s.clearReg r i).mode = s.mode := rfl
@[simp] theorem State.clearReg_key : (s.clearReg r i).key = s.key := rfl
@[simp] theorem State.clearReg_sb : (s.clearReg r i).sb = s.sb := rfl
@[simp] theorem State.clearReg_pending : (s.clearReg r i).pending = s.pending := rfl

/-! ### setBitf -/

@[simp] theorem State.setBitf_env : (s.setBitf f i k b).env = s.env := by unfold State.setBitf; split <;> (try split) <;> rfl
@[simp] theorem State.setBitf_jrn : (s.setBitf f i k b).jrn = s.jrn := by unfold State.setBitf; split <;> (try split) <;> rfl
@[simp] theorem State.setBitf_err : (s.setBitf f i k b).err = s.err := by unfold State.setBitf; split <;> (try split) <;> rfl
@[simp] theorem State.setBitf_ports : (s.setBitf f i k b).ports = s.ports := by unfold State.setBitf; split <;> (try split) <;> rfl
@[simp] theorem State.setBitf_deck : (s.setBitf f i k b).deck = s.deck := by unfold State.setBitf; split <;> (try split) <;> rfl
@[simp] theorem State.setBitf_csn : (s.setBitf f i k b).csn = s.csn := by unfold State.setBitf; split <;> (try split) <;> rfl
@[simp] theorem State.setBitf_fl : (s.setBitf f i k b).fl = s.fl := by unfold State.setBitf; split <;> (try split) <;> rfl
@[simp] theorem State.setBitf_host : (s.setBitf f i k b).host = s.host := by unfold State.setBitf; split <;> (try split) <;> rfl
@[simp] theorem State.setBitf_fab : (s.setBitf f i k b).fab = s.fab := by unfold State.setBitf; split <;> (try split) <;> rfl
@[simp] theorem State.setBitf_eng : (s.setBitf f i k b).eng = s.eng := by unfold State.setBitf; split <;> (try split) <;> rfl
@[simp] theorem State.setBitf_img : (s.setBitf f i k b).img = s.img := by unfold State.setBitf; split <;> (try split) <;> rfl
@[simp] theorem State.setBitf_rcd : (s.setBitf f i k b).rcd = s.rcd := by unfold State.setBitf; split <;> (try split) <;> rfl
@[simp] theorem State.setBitf_pmc : (s.setBitf f i k b).pmc = s.pmc := by unfold State.setBitf; split <;> (try split) <;> rfl
@[simp] theorem State.setBitf_abt : (s.setBitf f i k b).abt = s.abt := by unfold State.setBitf; split <;> (try split) <;> rfl
@[simp] theorem State.setBitf_mode : (s.setBitf f i k b).mode = s.mode := by unfold State.setBitf; split <;> (try split) <;> rfl
@[simp] theorem State.setBitf_key : (s.setBitf f i k b).key = s.key := by unfold State.setBitf; split <;> (try split) <;> rfl
@[simp] theorem State.setBitf_sb : (s.setBitf f i k b).sb = s.sb := by unfold State.setBitf; split <;> (try split) <;> rfl
@[simp] theorem State.setBitf_pending : (s.setBitf f i k b).pending = s.pending := by unfold State.setBitf; split <;> (try split) <;> rfl

/-! ### settle -/

@[simp] theorem settle_env : (settle s).env = s.env := rfl
@[simp] theorem settle_jrn : (settle s).jrn = s.jrn := rfl
@[simp] theorem settle_err : (settle s).err = s.err := rfl
@[simp] theorem settle_ports : (settle s).ports = s.ports := rfl
@[simp] theorem settle_deck : (settle s).deck = s.deck := rfl
@[simp] theorem settle_csn : (settle s).csn = s.csn := rfl
@[simp] theorem settle_fl : (settle s).fl = s.fl := rfl
@[simp] theorem settle_host : (settle s).host = s.host := rfl
@[simp] theorem settle_fab : (settle s).fab = s.fab := rfl
@[simp] theorem settle_eng : (settle s).eng = s.eng := rfl
@[simp] theorem settle_img : (settle s).img = s.img := rfl
@[simp] theorem settle_rcd : (settle s).rcd = s.rcd := rfl
@[simp] theorem settle_pmc : (settle s).pmc = s.pmc := rfl
@[simp] theorem settle_abt : (settle s).abt = s.abt := rfl
@[simp] theorem settle_mode : (settle s).mode = s.mode := rfl
@[simp] theorem settle_key : (settle s).key = s.key := rfl
@[simp] theorem settle_sb : (settle s).sb = s.sb := rfl
@[simp] theorem settle_pending : (settle s).pending = s.pending := rfl

/-! ### Device time -/

@[simp] theorem State.tick_regs : (s.tick n).regs = s.regs := rfl
@[simp] theorem State.tick_jrn : (s.tick n).jrn = s.jrn := rfl
@[simp] theorem State.tick_err : (s.tick n).err = s.err := rfl
@[simp] theorem State.tick_ports : (s.tick n).ports = s.ports := rfl
@[simp] theorem State.tick_deck : (s.tick n).deck = s.deck := rfl
@[simp] theorem State.tick_csn : (s.tick n).csn = s.csn := rfl
@[simp] theorem State.tick_fl : (s.tick n).fl = s.fl := rfl
@[simp] theorem State.tick_host : (s.tick n).host = s.host := rfl
@[simp] theorem State.tick_fab : (s.tick n).fab = s.fab := rfl
@[simp] theorem State.tick_eng : (s.tick n).eng = s.eng := rfl
@[simp] theorem State.tick_img : (s.tick n).img = s.img := rfl
@[simp] theorem State.tick_rcd : (s.tick n).rcd = s.rcd := rfl
@[simp] theorem State.tick_pmc : (s.tick n).pmc = s.pmc := rfl
@[simp] theorem State.tick_abt : (s.tick n).abt = s.abt := rfl
@[simp] theorem State.tick_mode : (s.tick n).mode = s.mode := rfl
@[simp] theorem State.tick_key : (s.tick n).key = s.key := rfl
@[simp] theorem State.tick_sb : (s.tick n).sb = s.sb := rfl
@[simp] theorem State.tick_pending : (s.tick n).pending = s.pending := rfl
@[simp] theorem State.tick_now : (s.tick n).env.now = s.env.now + n := rfl
@[simp] theorem State.tick_keeperOn : (s.tick n).env.keeperOn = s.env.keeperOn := rfl

/-! ### Port records -/

@[simp] theorem State.setPort_regs (p : Nat) (x : Port) : (s.setPort p x).regs = s.regs := rfl
@[simp] theorem State.setPort_env (p : Nat) (x : Port) : (s.setPort p x).env = s.env := rfl
@[simp] theorem State.setPort_jrn (p : Nat) (x : Port) : (s.setPort p x).jrn = s.jrn := rfl
@[simp] theorem State.setPort_err (p : Nat) (x : Port) : (s.setPort p x).err = s.err := rfl
@[simp] theorem State.setPort_deck (p : Nat) (x : Port) : (s.setPort p x).deck = s.deck := rfl
@[simp] theorem State.setPort_csn (p : Nat) (x : Port) : (s.setPort p x).csn = s.csn := rfl
@[simp] theorem State.setPort_fl (p : Nat) (x : Port) : (s.setPort p x).fl = s.fl := rfl
@[simp] theorem State.setPort_host (p : Nat) (x : Port) : (s.setPort p x).host = s.host := rfl
@[simp] theorem State.setPort_fab (p : Nat) (x : Port) : (s.setPort p x).fab = s.fab := rfl
@[simp] theorem State.setPort_eng (p : Nat) (x : Port) : (s.setPort p x).eng = s.eng := rfl
@[simp] theorem State.setPort_img (p : Nat) (x : Port) : (s.setPort p x).img = s.img := rfl
@[simp] theorem State.setPort_rcd (p : Nat) (x : Port) : (s.setPort p x).rcd = s.rcd := rfl
@[simp] theorem State.setPort_pmc (p : Nat) (x : Port) : (s.setPort p x).pmc = s.pmc := rfl
@[simp] theorem State.setPort_abt (p : Nat) (x : Port) : (s.setPort p x).abt = s.abt := rfl
@[simp] theorem State.setPort_mode (p : Nat) (x : Port) : (s.setPort p x).mode = s.mode := rfl
@[simp] theorem State.setPort_key (p : Nat) (x : Port) : (s.setPort p x).key = s.key := rfl
@[simp] theorem State.setPort_sb (p : Nat) (x : Port) : (s.setPort p x).sb = s.sb := rfl
@[simp] theorem State.setPort_pending (p : Nat) (x : Port) : (s.setPort p x).pending = s.pending := rfl

/-! ### The end of a command -/

@[simp] theorem finish_env : (finish q s).env = s.env := rfl
@[simp] theorem finish_jrn : (finish q s).jrn = s.jrn := rfl
@[simp] theorem finish_err : (finish q s).err = s.err := rfl
@[simp] theorem finish_ports : (finish q s).ports = s.ports := rfl
@[simp] theorem finish_deck : (finish q s).deck = s.deck := rfl
@[simp] theorem finish_csn : (finish q s).csn = s.csn := rfl
@[simp] theorem finish_fl : (finish q s).fl = s.fl := rfl
@[simp] theorem finish_host : (finish q s).host = s.host := rfl
@[simp] theorem finish_fab : (finish q s).fab = s.fab := rfl
@[simp] theorem finish_eng : (finish q s).eng = s.eng := rfl
@[simp] theorem finish_img : (finish q s).img = s.img := rfl
@[simp] theorem finish_rcd : (finish q s).rcd = s.rcd := rfl
@[simp] theorem finish_pmc : (finish q s).pmc = s.pmc := rfl
@[simp] theorem finish_abt : (finish q s).abt = s.abt := rfl
@[simp] theorem finish_mode : (finish q s).mode = s.mode := rfl
@[simp] theorem finish_key : (finish q s).key = s.key := rfl
@[simp] theorem finish_sb : (finish q s).sb = s.sb := rfl
@[simp] theorem finish_pending : (finish q s).pending = q := rfl

end Sys2Proof.Machine
end

