-- ==== Sys2Proof/Laws/Views.lean ====
section
/-! SUPPORT. What the end of a command leaves alone, and the shape of every outcome. -/

namespace Sys2Proof.Machine

/-- A register that holds no view. -/
def Reg.plain (r : Reg) : Bool :=
  r != .JNL_HEAD && r != .JNL_STAT && r != .REC_STAT && r != .GLB_PLANES && r != .CSN_STAT

/-- The end of a command keeps every field that is no view. -/
theorem finish_f (q : List Instr) (s : State) (g : Fld) (i : Nat) (h : g.plain = true) : (finish q s).f g i = s.f g i := by
  simp only [Fld.plain, Bool.and_eq_true, bne_iff_ne, ne_eq] at h
  obtain ⟨⟨⟨⟨⟨⟨h0, h1⟩, h2⟩, h3⟩, h4⟩, h5⟩, h6⟩ := h
  show (settle s).f g i = s.f g i
  unfold settle viewChans viewPlanes refreshUnflushed viewHead refreshPending
  rw [State.f_setf_apart _ _ _ _ _ _ h6, State.f_setf_apart _ _ _ _ _ _ h5, State.f_setf_apart _ _ _ _ _ _ h4,
    State.f_setf_apart _ _ _ _ _ _ h3, State.f_setf_apart _ _ _ _ _ _ h2, State.f_wr64_reg _ _ _ _ _ _ h0,
    State.f_setf_apart _ _ _ _ _ _ h1]

/-- As a truth value. -/
theorem finish_b (q : List Instr) (s : State) (g : Fld) (i : Nat) (h : g.plain = true) : (finish q s).b g i = s.b g i := by
  simp [State.b, finish_f q s g i h]

/-- The end of a command keeps every register that holds no view. -/
theorem finish_rd (q : List Instr) (s : State) (r : Reg) (i : Nat) (h : r.plain = true) : (finish q s).rd r i = s.rd r i := by
  simp only [Reg.plain, Bool.and_eq_true, bne_iff_ne, ne_eq] at h
  obtain ⟨⟨⟨⟨h0, h1⟩, h2⟩, h3⟩, h4⟩ := h
  show (settle s).rd r i = s.rd r i
  unfold settle viewChans viewPlanes refreshUnflushed viewHead refreshPending
  rw [State.rd_setf_reg _ _ _ _ _ _ h4, State.rd_setf_reg _ _ _ _ _ _ h4, State.rd_setf_reg _ _ _ _ _ _ h3,
    State.rd_setf_reg _ _ _ _ _ _ h3, State.rd_setf_reg _ _ _ _ _ _ h2, State.rd_wr64_reg _ _ _ _ _ _ h0,
    State.rd_setf_reg _ _ _ _ _ _ h1]

/-- What a command with the keeper running answers. -/
theorem live_on (s : State) (g : State → State) (h : s.env.keeperOn = true) : live s g = .next (finish s.pending (g s)) := by
  simp [live, h]

/-- What a command with the keeper stopped answers. -/
theorem live_off (s : State) (g : State → State) (h : s.env.keeperOn = false) : live s g = .next s := by simp [live, h]

/-- A command with the keeper running completes with what holds of its effect. -/
theorem completes_live (s : State) (g : State → State) (P : State → Prop) (h : s.env.keeperOn = true)
    (hp : P (finish s.pending (g s))) : Completes (live s g) P := ⟨_, live_on s g h, hp⟩

end Sys2Proof.Machine
end

