-- ==== Sys2Proof/Laws/Frame0.lean ====
section
/-! SUPPORT. The shape of the frame lemmas: which registers an operation may write, and loops. -/

namespace Sys2Proof.Machine

/-- A register is none of a list. -/
def avoids (l : List Reg) (r : Reg) : Bool := l.all (fun x => x != r)

theorem avoids_mono {a b : List Reg} {r : Reg} (hab : a.all (fun x => b.contains x) = true) (h : avoids b r = true) :
    avoids a r = true := by
  simp only [avoids, List.all_eq_true, bne_iff_ne, ne_eq, List.contains_iff_mem] at *
  exact fun x hx => h x (hab x hx)

theorem avoids_ne {b : List Reg} {r q : Reg} (hq : b.contains q = true) (h : avoids b r = true) : r ≠ q := by
  simp only [avoids, List.all_eq_true, bne_iff_ne, ne_eq, List.contains_iff_mem] at *
  exact fun e => h q hq e.symm

@[simp] theorem State.rd_satf_reg (s : State) (f : Fld) (r : Reg) (i j v : Nat) (h : r ≠ f.reg) :
    (s.satf f j v).rd r i = s.rd r i := by simp [State.satf, h]
@[simp] theorem State.rd_subf_reg (s : State) (f : Fld) (r : Reg) (i j v : Nat) (h : r ≠ f.reg) :
    (s.subf f j v).rd r i = s.rd r i := by simp [State.subf, h]
@[simp] theorem State.rd_wrapf_reg (s : State) (f : Fld) (r : Reg) (i j v : Nat) (h : r ≠ f.reg) :
    (s.wrapf f j v).rd r i = s.rd r i := by simp [State.wrapf, h]
@[simp] theorem State.rd_setBitf_reg (s : State) (f : Fld) (r : Reg) (i j k : Nat) (b : Bool) (h : r ≠ f.reg) :
    (s.setBitf f j k b).rd r i = s.rd r i := by unfold State.setBitf; split <;> (try split) <;> simp [h]
@[simp] theorem State.rd_clearReg_reg (s : State) (r q : Reg) (i j : Nat) (h : r ≠ q) :
    (s.clearReg q j).rd r i = s.rd r i := by simp [State.clearReg, h]
@[simp] theorem State.rd_setPort (s : State) (r : Reg) (i p : Nat) (x : Port) : (s.setPort p x).rd r i = s.rd r i := rfl

/-- What every step of a loop keeps, the loop keeps. -/
theorem forEach_keeps {α β : Type} (l : List α) (g : α → State → State) (s : State) (P : State → β)
    (h : ∀ a ∈ l, ∀ s, P (g a s) = P s) : P (forEach l g s) = P s := by
  unfold forEach
  induction l generalizing s with
  | nil => rfl
  | cons a l ih =>
    rw [List.foldl_cons, ih _ (fun b hb => h b (List.mem_cons_of_mem _ hb))]
    exact h a (List.mem_cons_self ..) s

/-- What every step of a counted loop keeps, the loop keeps. -/
theorem forRange_keeps {β : Type} (n : Nat) (g : Nat → State → State) (s : State) (P : State → β)
    (h : ∀ i < n, ∀ s, P (g i s) = P s) : P (forRange n g s) = P s := by
  have := forEach_keeps (List.range n) g s P (fun a ha s => h a (List.mem_range.1 ha) s)
  exact this

/-- What each round of a counted loop sets up and every other round keeps, holds at its end of every round's index. -/
theorem forRange_each (n : Nat) (g : Nat → State → State) (s : State) (Q : Nat → State → Prop)
    (h1 : ∀ k, k < n → ∀ s, Q k (g k s)) (h2 : ∀ k j, j ≠ k → ∀ s, Q j s → Q j (g k s)) :
    ∀ j, j < n → Q j (forRange n g s) := by
  unfold forRange
  have h (l : List Nat) (s : State) (hl : ∀ k ∈ l, k < n) (j : Nat) (hj : j ∈ l ∨ Q j s) :
      Q j (l.foldl (fun s i => g i s) s) := by
    induction l generalizing s with
    | nil => simpa using hj
    | cons k l ih =>
      rw [List.foldl_cons]
      apply ih _ (fun x hx => hl x (List.mem_cons_of_mem _ hx))
      by_cases e : j = k
      · subst e; exact .inr (h1 j (hl j (List.mem_cons_self ..)) s)
      · rcases hj with hj | hj
        · rcases List.mem_cons.1 hj with hj | hj
          · exact absurd hj e
          · exact .inl hj
        · exact .inr (h2 k j e s hj)
  exact fun j hj => h _ s (fun k hk => List.mem_range.1 hk) j (.inl (List.mem_range.2 hj))

/-- What every step of a fold with a counter keeps, the fold keeps. -/
theorem foldl_snd_keeps {α β γ : Type} (l : List α) (g : γ × State → α → γ × State) (a : γ × State) (P : State → β)
    (h : ∀ a x, P (g a x).2 = P a.2) : P (l.foldl g a).2 = P a.2 := by
  induction l generalizing a with
  | nil => rfl
  | cons x l ih => rw [List.foldl_cons, ih, h]

/-! ### Record updates -/

/-- A register of a state whose other parts were replaced. -/
@[simp] theorem State.rd_mk (R : SMap Word) (a0 : Env) (a1 : Jrn) (a2 : Err) (a3 : Ports) (a4 : Deck) (a5 : Csn) (a6 : Floing)
    (a7 : HostS) (a8 : Fab) (a9 : Eng) (b0 : Img) (b1 : Recd) (b2 : Pmc) (b3 : Abt) (b4 : ModeS) (b5 : KeyS) (b6 : Side)
    (b7 : List Instr) (r : Reg) (i : Nat) :
    State.rd ⟨R, a0, a1, a2, a3, a4, a5, a6, a7, a8, a9, b0, b1, b2, b3, b4, b5, b6, b7⟩ r i =
      SMap.get (r.reset i) R (regKey r i) := rfl

/-- The stored value, said through `State.rd`. -/
@[simp] theorem State.get_regs (s : State) (r : Reg) (i : Nat) : SMap.get (r.reset i) s.regs (regKey r i) = s.rd r i := rfl

/-- A register of one of two register files. -/
@[simp] theorem State.get_ite (c : Prop) [Decidable c] (a b : SMap Word) (r : Reg) (i : Nat) :
    SMap.get (r.reset i) (if c then a else b) (regKey r i) =
      if c then SMap.get (r.reset i) a (regKey r i) else SMap.get (r.reset i) b (regKey r i) := by split <;> rfl

/-! ### A free value drawn -/

@[simp] theorem State.fresh_jrn (s : State) : s.fresh.2.jrn = s.jrn := rfl
@[simp] theorem State.fresh_err (s : State) : s.fresh.2.err = s.err := rfl
@[simp] theorem State.fresh_ports (s : State) : s.fresh.2.ports = s.ports := rfl
@[simp] theorem State.fresh_deck (s : State) : s.fresh.2.deck = s.deck := rfl
@[simp] theorem State.fresh_csn (s : State) : s.fresh.2.csn = s.csn := rfl
@[simp] theorem State.fresh_fl (s : State) : s.fresh.2.fl = s.fl := rfl
@[simp] theorem State.fresh_host (s : State) : s.fresh.2.host = s.host := rfl
@[simp] theorem State.fresh_fab (s : State) : s.fresh.2.fab = s.fab := rfl
@[simp] theorem State.fresh_eng (s : State) : s.fresh.2.eng = s.eng := rfl
@[simp] theorem State.fresh_img (s : State) : s.fresh.2.img = s.img := rfl
@[simp] theorem State.fresh_rcd (s : State) : s.fresh.2.rcd = s.rcd := rfl
@[simp] theorem State.fresh_pmc (s : State) : s.fresh.2.pmc = s.pmc := rfl
@[simp] theorem State.fresh_abt (s : State) : s.fresh.2.abt = s.abt := rfl
@[simp] theorem State.fresh_mode (s : State) : s.fresh.2.mode = s.mode := rfl
@[simp] theorem State.fresh_key (s : State) : s.fresh.2.key = s.key := rfl
@[simp] theorem State.fresh_sb (s : State) : s.fresh.2.sb = s.sb := rfl
@[simp] theorem State.fresh_pending (s : State) : s.fresh.2.pending = s.pending := rfl
@[simp] theorem State.fresh_regs (s : State) : s.fresh.2.regs = s.regs := rfl
@[simp] theorem State.fresh_rd (s : State) (r : Reg) (i : Nat) : s.fresh.2.rd r i = s.rd r i := rfl

/-! ### Loops and choices, field by field -/

variable {α : Type} (l : List α) (n : Nat) (s a b : State) (c : Prop) [Decidable c]

@[simp] theorem forEach_env (g : α → State → State) (h : ∀ a ∈ l, ∀ s, (g a s).env = s.env) :
    (forEach l g s).env = s.env := forEach_keeps l g s (·.env) h
@[simp] theorem forRange_env (g : Nat → State → State) (h : ∀ i < n, ∀ s, (g i s).env = s.env) :
    (forRange n g s).env = s.env := forRange_keeps n g s (·.env) h
@[simp] theorem ite_env : (if c then a else b).env = if c then a.env else b.env := apply_ite State.env c a b
@[simp] theorem forEach_jrn (g : α → State → State) (h : ∀ a ∈ l, ∀ s, (g a s).jrn = s.jrn) :
    (forEach l g s).jrn = s.jrn := forEach_keeps l g s (·.jrn) h
@[simp] theorem forRange_jrn (g : Nat → State → State) (h : ∀ i < n, ∀ s, (g i s).jrn = s.jrn) :
    (forRange n g s).jrn = s.jrn := forRange_keeps n g s (·.jrn) h
@[simp] theorem ite_jrn : (if c then a else b).jrn = if c then a.jrn else b.jrn := apply_ite State.jrn c a b
@[simp] theorem forEach_err (g : α → State → State) (h : ∀ a ∈ l, ∀ s, (g a s).err = s.err) :
    (forEach l g s).err = s.err := forEach_keeps l g s (·.err) h
@[simp] theorem forRange_err (g : Nat → State → State) (h : ∀ i < n, ∀ s, (g i s).err = s.err) :
    (forRange n g s).err = s.err := forRange_keeps n g s (·.err) h
@[simp] theorem ite_err : (if c then a else b).err = if c then a.err else b.err := apply_ite State.err c a b
@[simp] theorem forEach_ports (g : α → State → State) (h : ∀ a ∈ l, ∀ s, (g a s).ports = s.ports) :
    (forEach l g s).ports = s.ports := forEach_keeps l g s (·.ports) h
@[simp] theorem forRange_ports (g : Nat → State → State) (h : ∀ i < n, ∀ s, (g i s).ports = s.ports) :
    (forRange n g s).ports = s.ports := forRange_keeps n g s (·.ports) h
@[simp] theorem ite_ports : (if c then a else b).ports = if c then a.ports else b.ports := apply_ite State.ports c a b
@[simp] theorem forEach_deck (g : α → State → State) (h : ∀ a ∈ l, ∀ s, (g a s).deck = s.deck) :
    (forEach l g s).deck = s.deck := forEach_keeps l g s (·.deck) h
@[simp] theorem forRange_deck (g : Nat → State → State) (h : ∀ i < n, ∀ s, (g i s).deck = s.deck) :
    (forRange n g s).deck = s.deck := forRange_keeps n g s (·.deck) h
@[simp] theorem ite_deck : (if c then a else b).deck = if c then a.deck else b.deck := apply_ite State.deck c a b
@[simp] theorem forEach_csn (g : α → State → State) (h : ∀ a ∈ l, ∀ s, (g a s).csn = s.csn) :
    (forEach l g s).csn = s.csn := forEach_keeps l g s (·.csn) h
@[simp] theorem forRange_csn (g : Nat → State → State) (h : ∀ i < n, ∀ s, (g i s).csn = s.csn) :
    (forRange n g s).csn = s.csn := forRange_keeps n g s (·.csn) h
@[simp] theorem ite_csn : (if c then a else b).csn = if c then a.csn else b.csn := apply_ite State.csn c a b
@[simp] theorem forEach_fl (g : α → State → State) (h : ∀ a ∈ l, ∀ s, (g a s).fl = s.fl) :
    (forEach l g s).fl = s.fl := forEach_keeps l g s (·.fl) h
@[simp] theorem forRange_fl (g : Nat → State → State) (h : ∀ i < n, ∀ s, (g i s).fl = s.fl) :
    (forRange n g s).fl = s.fl := forRange_keeps n g s (·.fl) h
@[simp] theorem ite_fl : (if c then a else b).fl = if c then a.fl else b.fl := apply_ite State.fl c a b
@[simp] theorem forEach_host (g : α → State → State) (h : ∀ a ∈ l, ∀ s, (g a s).host = s.host) :
    (forEach l g s).host = s.host := forEach_keeps l g s (·.host) h
@[simp] theorem forRange_host (g : Nat → State → State) (h : ∀ i < n, ∀ s, (g i s).host = s.host) :
    (forRange n g s).host = s.host := forRange_keeps n g s (·.host) h
@[simp] theorem ite_host : (if c then a else b).host = if c then a.host else b.host := apply_ite State.host c a b
@[simp] theorem forEach_fab (g : α → State → State) (h : ∀ a ∈ l, ∀ s, (g a s).fab = s.fab) :
    (forEach l g s).fab = s.fab := forEach_keeps l g s (·.fab) h
@[simp] theorem forRange_fab (g : Nat → State → State) (h : ∀ i < n, ∀ s, (g i s).fab = s.fab) :
    (forRange n g s).fab = s.fab := forRange_keeps n g s (·.fab) h
@[simp] theorem ite_fab : (if c then a else b).fab = if c then a.fab else b.fab := apply_ite State.fab c a b
@[simp] theorem forEach_eng (g : α → State → State) (h : ∀ a ∈ l, ∀ s, (g a s).eng = s.eng) :
    (forEach l g s).eng = s.eng := forEach_keeps l g s (·.eng) h
@[simp] theorem forRange_eng (g : Nat → State → State) (h : ∀ i < n, ∀ s, (g i s).eng = s.eng) :
    (forRange n g s).eng = s.eng := forRange_keeps n g s (·.eng) h
@[simp] theorem ite_eng : (if c then a else b).eng = if c then a.eng else b.eng := apply_ite State.eng c a b
@[simp] theorem forEach_img (g : α → State → State) (h : ∀ a ∈ l, ∀ s, (g a s).img = s.img) :
    (forEach l g s).img = s.img := forEach_keeps l g s (·.img) h
@[simp] theorem forRange_img (g : Nat → State → State) (h : ∀ i < n, ∀ s, (g i s).img = s.img) :
    (forRange n g s).img = s.img := forRange_keeps n g s (·.img) h
@[simp] theorem ite_img : (if c then a else b).img = if c then a.img else b.img := apply_ite State.img c a b
@[simp] theorem forEach_rcd (g : α → State → State) (h : ∀ a ∈ l, ∀ s, (g a s).rcd = s.rcd) :
    (forEach l g s).rcd = s.rcd := forEach_keeps l g s (·.rcd) h
@[simp] theorem forRange_rcd (g : Nat → State → State) (h : ∀ i < n, ∀ s, (g i s).rcd = s.rcd) :
    (forRange n g s).rcd = s.rcd := forRange_keeps n g s (·.rcd) h
@[simp] theorem ite_rcd : (if c then a else b).rcd = if c then a.rcd else b.rcd := apply_ite State.rcd c a b
@[simp] theorem forEach_pmc (g : α → State → State) (h : ∀ a ∈ l, ∀ s, (g a s).pmc = s.pmc) :
    (forEach l g s).pmc = s.pmc := forEach_keeps l g s (·.pmc) h
@[simp] theorem forRange_pmc (g : Nat → State → State) (h : ∀ i < n, ∀ s, (g i s).pmc = s.pmc) :
    (forRange n g s).pmc = s.pmc := forRange_keeps n g s (·.pmc) h
@[simp] theorem ite_pmc : (if c then a else b).pmc = if c then a.pmc else b.pmc := apply_ite State.pmc c a b
@[simp] theorem forEach_abt (g : α → State → State) (h : ∀ a ∈ l, ∀ s, (g a s).abt = s.abt) :
    (forEach l g s).abt = s.abt := forEach_keeps l g s (·.abt) h
@[simp] theorem forRange_abt (g : Nat → State → State) (h : ∀ i < n, ∀ s, (g i s).abt = s.abt) :
    (forRange n g s).abt = s.abt := forRange_keeps n g s (·.abt) h
@[simp] theorem ite_abt : (if c then a else b).abt = if c then a.abt else b.abt := apply_ite State.abt c a b
@[simp] theorem forEach_mode (g : α → State → State) (h : ∀ a ∈ l, ∀ s, (g a s).mode = s.mode) :
    (forEach l g s).mode = s.mode := forEach_keeps l g s (·.mode) h
@[simp] theorem forRange_mode (g : Nat → State → State) (h : ∀ i < n, ∀ s, (g i s).mode = s.mode) :
    (forRange n g s).mode = s.mode := forRange_keeps n g s (·.mode) h
@[simp] theorem ite_mode : (if c then a else b).mode = if c then a.mode else b.mode := apply_ite State.mode c a b
@[simp] theorem forEach_key (g : α → State → State) (h : ∀ a ∈ l, ∀ s, (g a s).key = s.key) :
    (forEach l g s).key = s.key := forEach_keeps l g s (·.key) h
@[simp] theorem forRange_key (g : Nat → State → State) (h : ∀ i < n, ∀ s, (g i s).key = s.key) :
    (forRange n g s).key = s.key := forRange_keeps n g s (·.key) h
@[simp] theorem ite_key : (if c then a else b).key = if c then a.key else b.key := apply_ite State.key c a b
@[simp] theorem forEach_sb (g : α → State → State) (h : ∀ a ∈ l, ∀ s, (g a s).sb = s.sb) :
    (forEach l g s).sb = s.sb := forEach_keeps l g s (·.sb) h
@[simp] theorem forRange_sb (g : Nat → State → State) (h : ∀ i < n, ∀ s, (g i s).sb = s.sb) :
    (forRange n g s).sb = s.sb := forRange_keeps n g s (·.sb) h
@[simp] theorem ite_sb : (if c then a else b).sb = if c then a.sb else b.sb := apply_ite State.sb c a b
@[simp] theorem forEach_pending (g : α → State → State) (h : ∀ a ∈ l, ∀ s, (g a s).pending = s.pending) :
    (forEach l g s).pending = s.pending := forEach_keeps l g s (·.pending) h
@[simp] theorem forRange_pending (g : Nat → State → State) (h : ∀ i < n, ∀ s, (g i s).pending = s.pending) :
    (forRange n g s).pending = s.pending := forRange_keeps n g s (·.pending) h
@[simp] theorem ite_pending : (if c then a else b).pending = if c then a.pending else b.pending := apply_ite State.pending c a b
@[simp] theorem forEach_regs (g : α → State → State) (h : ∀ a ∈ l, ∀ s, (g a s).regs = s.regs) :
    (forEach l g s).regs = s.regs := forEach_keeps l g s (·.regs) h
@[simp] theorem forRange_regs (g : Nat → State → State) (h : ∀ i < n, ∀ s, (g i s).regs = s.regs) :
    (forRange n g s).regs = s.regs := forRange_keeps n g s (·.regs) h
@[simp] theorem ite_regs : (if c then a else b).regs = if c then a.regs else b.regs := apply_ite State.regs c a b
@[simp] theorem forEach_rd (g : α → State → State) (r : Reg) (i : Nat) (h : ∀ a ∈ l, ∀ s, (g a s).rd r i = s.rd r i) :
    (forEach l g s).rd r i = s.rd r i := forEach_keeps l g s (fun s => s.rd r i) h
@[simp] theorem forRange_rd (g : Nat → State → State) (r : Reg) (i : Nat) (h : ∀ k < n, ∀ s, (g k s).rd r i = s.rd r i) :
    (forRange n g s).rd r i = s.rd r i := forRange_keeps n g s (fun s => s.rd r i) h
@[simp] theorem ite_rd (r : Reg) (i : Nat) : (if c then a else b).rd r i = if c then a.rd r i else b.rd r i :=
  apply_ite (fun s : State => s.rd r i) c a b

end Sys2Proof.Machine
end

