-- ==== Sys2Proof/Laws/FramesA.lean ====
section
/-! SUPPORT. The frames of the shared operations: the pieces of state each leaves alone, and the registers it may write (`Foot`). -/

set_option maxRecDepth 3000
set_option linter.all false

namespace Sys2Proof.Machine

@[simp] theorem stopClock_frame (d : Nat) (s : State) :
    (stopClock d s).env = s.env ∧ (stopClock d s).jrn = s.jrn ∧ (stopClock d s).err = s.err ∧
    (stopClock d s).ports = s.ports ∧ (stopClock d s).deck = s.deck ∧ (stopClock d s).csn = s.csn ∧
    (stopClock d s).fl = s.fl ∧ (stopClock d s).host = s.host ∧ (stopClock d s).fab = s.fab ∧ (stopClock d s).eng = s.eng ∧
    (stopClock d s).img = s.img ∧ (stopClock d s).rcd = s.rcd ∧ (stopClock d s).pmc = s.pmc ∧ (stopClock d s).abt = s.abt ∧
    (stopClock d s).mode = s.mode ∧ (stopClock d s).key = s.key ∧ (stopClock d s).sb = s.sb ∧
    (stopClock d s).pending = s.pending := by
  unfold stopClock
  (repeat' split) <;> simp -implicitDefEqProofs (maxDischargeDepth := 6)

def Foot.stopClock : List Reg := [.CLK_ISLSTAT]

@[simp] theorem stopClock_rd (d : Nat) (s : State) (reg : Reg) (rix : Nat) (hav : avoids Foot.stopClock reg = true) :
    (stopClock d s).rd reg rix = s.rd reg rix := by
  have f0 : reg ≠ F.CLK_ISLSTAT_LOCK.reg := avoids_ne (by decide) hav
  have f1 : reg ≠ F.CLK_ISLSTAT_RUN.reg := avoids_ne (by decide) hav
  unfold stopClock
  (repeat' split) <;> simp -implicitDefEqProofs (maxDischargeDepth := 6) [*]

@[simp] theorem setDom_frame (d st : Nat) (s : State) :
    (setDom d st s).env = s.env ∧ (setDom d st s).jrn = s.jrn ∧ (setDom d st s).err = s.err ∧
    (setDom d st s).ports = s.ports ∧ (setDom d st s).deck = s.deck ∧ (setDom d st s).csn = s.csn ∧
    (setDom d st s).fl = s.fl ∧ (setDom d st s).host = s.host ∧ (setDom d st s).fab = s.fab ∧ (setDom d st s).eng = s.eng ∧
    (setDom d st s).img = s.img ∧ (setDom d st s).rcd = s.rcd ∧ (setDom d st s).pmc = s.pmc ∧ (setDom d st s).abt = s.abt ∧
    (setDom d st s).mode = s.mode ∧ (setDom d st s).key = s.key ∧ (setDom d st s).sb = s.sb ∧
    (setDom d st s).pending = s.pending := by
  unfold setDom
  (repeat' split) <;> simp -implicitDefEqProofs (maxDischargeDepth := 6)

def Foot.setDom : List Reg := [.CLK_ISLSTAT, .PWD_STAT]

@[simp] theorem setDom_rd (d st : Nat) (s : State) (reg : Reg) (rix : Nat) (hav : avoids Foot.setDom reg = true) :
    (setDom d st s).rd reg rix = s.rd reg rix := by
  have c0 : avoids Foot.stopClock reg = true := avoids_mono (by decide) hav
  have f0 : reg ≠ F.PWD_STAT_STATE.reg := avoids_ne (by decide) hav
  unfold setDom
  (repeat' split) <;> simp -implicitDefEqProofs (maxDischargeDepth := 6) [*]

@[simp] theorem jPush_frame (isl : Nat) (e : JReq) (s : State) :
    (jPush isl e s).env = s.env ∧ (jPush isl e s).err = s.err ∧ (jPush isl e s).ports = s.ports ∧
    (jPush isl e s).deck = s.deck ∧ (jPush isl e s).csn = s.csn ∧ (jPush isl e s).fl = s.fl ∧
    (jPush isl e s).host = s.host ∧ (jPush isl e s).fab = s.fab ∧ (jPush isl e s).eng = s.eng ∧
    (jPush isl e s).img = s.img ∧ (jPush isl e s).rcd = s.rcd ∧ (jPush isl e s).pmc = s.pmc ∧ (jPush isl e s).abt = s.abt ∧
    (jPush isl e s).mode = s.mode ∧ (jPush isl e s).key = s.key ∧ (jPush isl e s).sb = s.sb ∧
    (jPush isl e s).pending = s.pending := by
  unfold jPush
  (repeat' split) <;> simp -implicitDefEqProofs (maxDischargeDepth := 6)

def Foot.jPush : List Reg := []

@[simp] theorem jPush_rd (isl : Nat) (e : JReq) (s : State) (reg : Reg) (rix : Nat) (hav : avoids Foot.jPush reg = true) :
    (jPush isl e s).rd reg rix = s.rd reg rix := by
  unfold jPush
  (repeat' split) <;> simp -implicitDefEqProofs (maxDischargeDepth := 6) [*]

@[simp] theorem pushRecVs_frame (vs : Option Nat) (isl cause unit : Nat) (s : State) :
    (pushRecVs vs isl cause unit s).env = s.env ∧ (pushRecVs vs isl cause unit s).jrn = s.jrn ∧
    (pushRecVs vs isl cause unit s).ports = s.ports ∧ (pushRecVs vs isl cause unit s).deck = s.deck ∧
    (pushRecVs vs isl cause unit s).csn = s.csn ∧ (pushRecVs vs isl cause unit s).fl = s.fl ∧
    (pushRecVs vs isl cause unit s).host = s.host ∧ (pushRecVs vs isl cause unit s).fab = s.fab ∧
    (pushRecVs vs isl cause unit s).eng = s.eng ∧ (pushRecVs vs isl cause unit s).img = s.img ∧
    (pushRecVs vs isl cause unit s).rcd = s.rcd ∧ (pushRecVs vs isl cause unit s).pmc = s.pmc ∧
    (pushRecVs vs isl cause unit s).abt = s.abt ∧ (pushRecVs vs isl cause unit s).mode = s.mode ∧
    (pushRecVs vs isl cause unit s).key = s.key ∧ (pushRecVs vs isl cause unit s).sb = s.sb ∧
    (pushRecVs vs isl cause unit s).pending = s.pending := by
  unfold pushRecVs
  (repeat' split) <;> simp -implicitDefEqProofs (maxDischargeDepth := 6)

def Foot.pushRecVs : List Reg := [.PIR_ERRCNT2]

@[simp] theorem pushRecVs_rd (vs : Option Nat) (isl cause unit : Nat) (s : State) (reg : Reg) (rix : Nat) (hav : avoids Foot.pushRecVs reg = true) :
    (pushRecVs vs isl cause unit s).rd reg rix = s.rd reg rix := by
  have f0 : reg ≠ F.PIR_ERRCNT2_EVDROP.reg := avoids_ne (by decide) hav
  unfold pushRecVs
  (repeat' split) <;> simp -implicitDefEqProofs (maxDischargeDepth := 6) [*]

@[simp] theorem pushRec_frame (isl cause unit : Nat) (s : State) :
    (pushRec isl cause unit s).env = s.env ∧ (pushRec isl cause unit s).jrn = s.jrn ∧
    (pushRec isl cause unit s).ports = s.ports ∧ (pushRec isl cause unit s).deck = s.deck ∧
    (pushRec isl cause unit s).csn = s.csn ∧ (pushRec isl cause unit s).fl = s.fl ∧
    (pushRec isl cause unit s).host = s.host ∧ (pushRec isl cause unit s).fab = s.fab ∧
    (pushRec isl cause unit s).eng = s.eng ∧ (pushRec isl cause unit s).img = s.img ∧
    (pushRec isl cause unit s).rcd = s.rcd ∧ (pushRec isl cause unit s).pmc = s.pmc ∧
    (pushRec isl cause unit s).abt = s.abt ∧ (pushRec isl cause unit s).mode = s.mode ∧
    (pushRec isl cause unit s).key = s.key ∧ (pushRec isl cause unit s).sb = s.sb ∧
    (pushRec isl cause unit s).pending = s.pending := by
  unfold pushRec
  (repeat' split) <;> simp -implicitDefEqProofs (maxDischargeDepth := 6)

def Foot.pushRec : List Reg := [.PIR_ERRCNT2]

@[simp] theorem pushRec_rd (isl cause unit : Nat) (s : State) (reg : Reg) (rix : Nat) (hav : avoids Foot.pushRec reg = true) :
    (pushRec isl cause unit s).rd reg rix = s.rd reg rix := by
  have c0 : avoids Foot.pushRecVs reg = true := avoids_mono (by decide) hav
  unfold pushRec
  (repeat' split) <;> simp -implicitDefEqProofs (maxDischargeDepth := 6) [*]

@[simp] theorem refreshPending_frame (s : State) :
    (refreshPending s).env = s.env ∧ (refreshPending s).jrn = s.jrn ∧ (refreshPending s).err = s.err ∧
    (refreshPending s).ports = s.ports ∧ (refreshPending s).deck = s.deck ∧ (refreshPending s).csn = s.csn ∧
    (refreshPending s).fl = s.fl ∧ (refreshPending s).host = s.host ∧ (refreshPending s).fab = s.fab ∧
    (refreshPending s).eng = s.eng ∧ (refreshPending s).img = s.img ∧ (refreshPending s).rcd = s.rcd ∧
    (refreshPending s).pmc = s.pmc ∧ (refreshPending s).abt = s.abt ∧ (refreshPending s).mode = s.mode ∧
    (refreshPending s).key = s.key ∧ (refreshPending s).sb = s.sb ∧ (refreshPending s).pending = s.pending := by
  unfold refreshPending
  (repeat' split) <;> simp -implicitDefEqProofs (maxDischargeDepth := 6)

def Foot.refreshPending : List Reg := [.JNL_STAT]

@[simp] theorem refreshPending_rd (s : State) (reg : Reg) (rix : Nat) (hav : avoids Foot.refreshPending reg = true) :
    (refreshPending s).rd reg rix = s.rd reg rix := by
  have f0 : reg ≠ F.JNL_STAT_PENDING.reg := avoids_ne (by decide) hav
  unfold refreshPending
  (repeat' split) <;> simp -implicitDefEqProofs (maxDischargeDepth := 6) [*]

@[simp] theorem refreshUnflushed_frame (s : State) :
    (refreshUnflushed s).env = s.env ∧ (refreshUnflushed s).jrn = s.jrn ∧ (refreshUnflushed s).err = s.err ∧
    (refreshUnflushed s).ports = s.ports ∧ (refreshUnflushed s).deck = s.deck ∧ (refreshUnflushed s).csn = s.csn ∧
    (refreshUnflushed s).fl = s.fl ∧ (refreshUnflushed s).host = s.host ∧ (refreshUnflushed s).fab = s.fab ∧
    (refreshUnflushed s).eng = s.eng ∧ (refreshUnflushed s).img = s.img ∧ (refreshUnflushed s).rcd = s.rcd ∧
    (refreshUnflushed s).pmc = s.pmc ∧ (refreshUnflushed s).abt = s.abt ∧ (refreshUnflushed s).mode = s.mode ∧
    (refreshUnflushed s).key = s.key ∧ (refreshUnflushed s).sb = s.sb ∧ (refreshUnflushed s).pending = s.pending := by
  unfold refreshUnflushed
  (repeat' split) <;> simp -implicitDefEqProofs (maxDischargeDepth := 6)

def Foot.refreshUnflushed : List Reg := [.REC_STAT]

@[simp] theorem refreshUnflushed_rd (s : State) (reg : Reg) (rix : Nat) (hav : avoids Foot.refreshUnflushed reg = true) :
    (refreshUnflushed s).rd reg rix = s.rd reg rix := by
  have f0 : reg ≠ F.REC_STAT_UNFLUSHED.reg := avoids_ne (by decide) hav
  unfold refreshUnflushed
  (repeat' split) <;> simp -implicitDefEqProofs (maxDischargeDepth := 6) [*]

@[simp] theorem viewPlanes_frame (s : State) :
    (viewPlanes s).env = s.env ∧ (viewPlanes s).jrn = s.jrn ∧ (viewPlanes s).err = s.err ∧ (viewPlanes s).ports = s.ports ∧
    (viewPlanes s).deck = s.deck ∧ (viewPlanes s).csn = s.csn ∧ (viewPlanes s).fl = s.fl ∧ (viewPlanes s).host = s.host ∧
    (viewPlanes s).fab = s.fab ∧ (viewPlanes s).eng = s.eng ∧ (viewPlanes s).img = s.img ∧ (viewPlanes s).rcd = s.rcd ∧
    (viewPlanes s).pmc = s.pmc ∧ (viewPlanes s).abt = s.abt ∧ (viewPlanes s).mode = s.mode ∧ (viewPlanes s).key = s.key ∧
    (viewPlanes s).sb = s.sb ∧ (viewPlanes s).pending = s.pending := by
  unfold viewPlanes
  (repeat' split) <;> simp -implicitDefEqProofs (maxDischargeDepth := 6)

def Foot.viewPlanes : List Reg := [.GLB_PLANES]

@[simp] theorem viewPlanes_rd (s : State) (reg : Reg) (rix : Nat) (hav : avoids Foot.viewPlanes reg = true) :
    (viewPlanes s).rd reg rix = s.rd reg rix := by
  have f0 : reg ≠ F.GLB_PLANES_FAILED.reg := avoids_ne (by decide) hav
  have f1 : reg ≠ F.GLB_PLANES_LIVE.reg := avoids_ne (by decide) hav
  unfold viewPlanes
  (repeat' split) <;> simp -implicitDefEqProofs (maxDischargeDepth := 6) [*]

@[simp] theorem viewChans_frame (s : State) :
    (viewChans s).env = s.env ∧ (viewChans s).jrn = s.jrn ∧ (viewChans s).err = s.err ∧ (viewChans s).ports = s.ports ∧
    (viewChans s).deck = s.deck ∧ (viewChans s).csn = s.csn ∧ (viewChans s).fl = s.fl ∧ (viewChans s).host = s.host ∧
    (viewChans s).fab = s.fab ∧ (viewChans s).eng = s.eng ∧ (viewChans s).img = s.img ∧ (viewChans s).rcd = s.rcd ∧
    (viewChans s).pmc = s.pmc ∧ (viewChans s).abt = s.abt ∧ (viewChans s).mode = s.mode ∧ (viewChans s).key = s.key ∧
    (viewChans s).sb = s.sb ∧ (viewChans s).pending = s.pending := by
  unfold viewChans
  (repeat' split) <;> simp -implicitDefEqProofs (maxDischargeDepth := 6)

def Foot.viewChans : List Reg := [.CSN_STAT]

@[simp] theorem viewChans_rd (s : State) (reg : Reg) (rix : Nat) (hav : avoids Foot.viewChans reg = true) :
    (viewChans s).rd reg rix = s.rd reg rix := by
  have f0 : reg ≠ F.CSN_STAT_CH_FAILED.reg := avoids_ne (by decide) hav
  have f1 : reg ≠ F.CSN_STAT_CH_LIVE.reg := avoids_ne (by decide) hav
  unfold viewChans
  (repeat' split) <;> simp -implicitDefEqProofs (maxDischargeDepth := 6) [*]

@[simp] theorem viewHead_frame (s : State) :
    (viewHead s).env = s.env ∧ (viewHead s).jrn = s.jrn ∧ (viewHead s).err = s.err ∧ (viewHead s).ports = s.ports ∧
    (viewHead s).deck = s.deck ∧ (viewHead s).csn = s.csn ∧ (viewHead s).fl = s.fl ∧ (viewHead s).host = s.host ∧
    (viewHead s).fab = s.fab ∧ (viewHead s).eng = s.eng ∧ (viewHead s).img = s.img ∧ (viewHead s).rcd = s.rcd ∧
    (viewHead s).pmc = s.pmc ∧ (viewHead s).abt = s.abt ∧ (viewHead s).mode = s.mode ∧ (viewHead s).key = s.key ∧
    (viewHead s).sb = s.sb ∧ (viewHead s).pending = s.pending := by
  unfold viewHead
  (repeat' split) <;> simp -implicitDefEqProofs (maxDischargeDepth := 6)

def Foot.viewHead : List Reg := [.JNL_HEAD]

@[simp] theorem viewHead_rd (s : State) (reg : Reg) (rix : Nat) (hav : avoids Foot.viewHead reg = true) :
    (viewHead s).rd reg rix = s.rd reg rix := by
  have f0 : reg ≠ .JNL_HEAD := avoids_ne (by decide) hav
  unfold viewHead
  (repeat' split) <;> simp -implicitDefEqProofs (maxDischargeDepth := 6) [*]

@[simp] theorem resetQBucket_frame (p t : Nat) (s : State) :
    (resetQBucket p t s).env = s.env ∧ (resetQBucket p t s).jrn = s.jrn ∧ (resetQBucket p t s).err = s.err ∧
    (resetQBucket p t s).deck = s.deck ∧ (resetQBucket p t s).csn = s.csn ∧ (resetQBucket p t s).fl = s.fl ∧
    (resetQBucket p t s).host = s.host ∧ (resetQBucket p t s).fab = s.fab ∧ (resetQBucket p t s).eng = s.eng ∧
    (resetQBucket p t s).img = s.img ∧ (resetQBucket p t s).rcd = s.rcd ∧ (resetQBucket p t s).pmc = s.pmc ∧
    (resetQBucket p t s).abt = s.abt ∧ (resetQBucket p t s).mode = s.mode ∧ (resetQBucket p t s).key = s.key ∧
    (resetQBucket p t s).sb = s.sb ∧ (resetQBucket p t s).pending = s.pending := by
  unfold resetQBucket
  (repeat' split) <;> simp -implicitDefEqProofs (maxDischargeDepth := 6)

def Foot.resetQBucket : List Reg := []

@[simp] theorem resetQBucket_rd (p t : Nat) (s : State) (reg : Reg) (rix : Nat) (hav : avoids Foot.resetQBucket reg = true) :
    (resetQBucket p t s).rd reg rix = s.rd reg rix := by
  unfold resetQBucket
  (repeat' split) <;> simp -implicitDefEqProofs (maxDischargeDepth := 6) [*]

@[simp] theorem resetTBucket_frame (n u : Nat) (s : State) :
    (resetTBucket n u s).env = s.env ∧ (resetTBucket n u s).jrn = s.jrn ∧ (resetTBucket n u s).err = s.err ∧
    (resetTBucket n u s).deck = s.deck ∧ (resetTBucket n u s).csn = s.csn ∧ (resetTBucket n u s).fl = s.fl ∧
    (resetTBucket n u s).host = s.host ∧ (resetTBucket n u s).fab = s.fab ∧ (resetTBucket n u s).eng = s.eng ∧
    (resetTBucket n u s).img = s.img ∧ (resetTBucket n u s).rcd = s.rcd ∧ (resetTBucket n u s).pmc = s.pmc ∧
    (resetTBucket n u s).abt = s.abt ∧ (resetTBucket n u s).mode = s.mode ∧ (resetTBucket n u s).key = s.key ∧
    (resetTBucket n u s).sb = s.sb ∧ (resetTBucket n u s).pending = s.pending := by
  unfold resetTBucket
  (repeat' split) <;> simp -implicitDefEqProofs (maxDischargeDepth := 6)

def Foot.resetTBucket : List Reg := []

@[simp] theorem resetTBucket_rd (n u : Nat) (s : State) (reg : Reg) (rix : Nat) (hav : avoids Foot.resetTBucket reg = true) :
    (resetTBucket n u s).rd reg rix = s.rd reg rix := by
  unfold resetTBucket
  (repeat' split) <;> simp -implicitDefEqProofs (maxDischargeDepth := 6) [*]

@[simp] theorem fillPolicer_frame (p : Nat) (s : State) :
    (fillPolicer p s).env = s.env ∧ (fillPolicer p s).jrn = s.jrn ∧ (fillPolicer p s).err = s.err ∧
    (fillPolicer p s).deck = s.deck ∧ (fillPolicer p s).csn = s.csn ∧ (fillPolicer p s).fl = s.fl ∧
    (fillPolicer p s).host = s.host ∧ (fillPolicer p s).fab = s.fab ∧ (fillPolicer p s).eng = s.eng ∧
    (fillPolicer p s).img = s.img ∧ (fillPolicer p s).rcd = s.rcd ∧ (fillPolicer p s).pmc = s.pmc ∧
    (fillPolicer p s).abt = s.abt ∧ (fillPolicer p s).mode = s.mode ∧ (fillPolicer p s).key = s.key ∧
    (fillPolicer p s).sb = s.sb ∧ (fillPolicer p s).pending = s.pending := by
  unfold fillPolicer
  (repeat' split) <;> simp -implicitDefEqProofs (maxDischargeDepth := 6)

def Foot.fillPolicer : List Reg := []

@[simp] theorem fillPolicer_rd (p : Nat) (s : State) (reg : Reg) (rix : Nat) (hav : avoids Foot.fillPolicer reg = true) :
    (fillPolicer p s).rd reg rix = s.rd reg rix := by
  unfold fillPolicer
  (repeat' split) <;> simp -implicitDefEqProofs (maxDischargeDepth := 6) [*]

@[simp] theorem settleBrace_frame (p : Nat) (s : State) :
    (settleBrace p s).env = s.env ∧ (settleBrace p s).jrn = s.jrn ∧ (settleBrace p s).err = s.err ∧
    (settleBrace p s).deck = s.deck ∧ (settleBrace p s).csn = s.csn ∧ (settleBrace p s).fl = s.fl ∧
    (settleBrace p s).host = s.host ∧ (settleBrace p s).fab = s.fab ∧ (settleBrace p s).eng = s.eng ∧
    (settleBrace p s).img = s.img ∧ (settleBrace p s).rcd = s.rcd ∧ (settleBrace p s).pmc = s.pmc ∧
    (settleBrace p s).abt = s.abt ∧ (settleBrace p s).mode = s.mode ∧ (settleBrace p s).key = s.key ∧
    (settleBrace p s).sb = s.sb ∧ (settleBrace p s).pending = s.pending := by
  unfold settleBrace
  (repeat' split) <;> simp -implicitDefEqProofs (maxDischargeDepth := 6)

def Foot.settleBrace : List Reg := []

@[simp] theorem settleBrace_rd (p : Nat) (s : State) (reg : Reg) (rix : Nat) (hav : avoids Foot.settleBrace reg = true) :
    (settleBrace p s).rd reg rix = s.rd reg rix := by
  unfold settleBrace
  (repeat' split) <;> simp -implicitDefEqProofs (maxDischargeDepth := 6) [*]

@[simp] theorem setRate_frame (p width rate : Nat) (s : State) :
    (setRate p width rate s).env = s.env ∧ (setRate p width rate s).jrn = s.jrn ∧ (setRate p width rate s).err = s.err ∧
    (setRate p width rate s).deck = s.deck ∧ (setRate p width rate s).csn = s.csn ∧ (setRate p width rate s).fl = s.fl ∧
    (setRate p width rate s).host = s.host ∧ (setRate p width rate s).fab = s.fab ∧ (setRate p width rate s).eng = s.eng ∧
    (setRate p width rate s).img = s.img ∧ (setRate p width rate s).rcd = s.rcd ∧ (setRate p width rate s).pmc = s.pmc ∧
    (setRate p width rate s).abt = s.abt ∧ (setRate p width rate s).mode = s.mode ∧ (setRate p width rate s).key = s.key ∧
    (setRate p width rate s).sb = s.sb ∧ (setRate p width rate s).pending = s.pending := by
  unfold setRate
  (repeat' split) <;> simp -implicitDefEqProofs (maxDischargeDepth := 6)

def Foot.setRate : List Reg := [.SPN_PSTAT]

@[simp] theorem setRate_rd (p width rate : Nat) (s : State) (reg : Reg) (rix : Nat) (hav : avoids Foot.setRate reg = true) :
    (setRate p width rate s).rd reg rix = s.rd reg rix := by
  have c0 : avoids Foot.fillPolicer reg = true := avoids_mono (by decide) hav
  have c1 : avoids Foot.settleBrace reg = true := avoids_mono (by decide) hav
  have f0 : reg ≠ F.SPN_PSTAT_L0PWIDTH.reg := avoids_ne (by decide) hav
  have f1 : reg ≠ F.SPN_PSTAT_RATE.reg := avoids_ne (by decide) hav
  have f2 : reg ≠ F.SPN_PSTAT_WIDTH.reg := avoids_ne (by decide) hav
  unfold setRate
  (repeat' split) <;> simp -implicitDefEqProofs (maxDischargeDepth := 6) [*]

@[simp] theorem emptyBraceLimiters_frame (s : State) :
    (emptyBraceLimiters s).env = s.env ∧ (emptyBraceLimiters s).jrn = s.jrn ∧ (emptyBraceLimiters s).err = s.err ∧
    (emptyBraceLimiters s).deck = s.deck ∧ (emptyBraceLimiters s).csn = s.csn ∧ (emptyBraceLimiters s).fl = s.fl ∧
    (emptyBraceLimiters s).host = s.host ∧ (emptyBraceLimiters s).fab = s.fab ∧ (emptyBraceLimiters s).eng = s.eng ∧
    (emptyBraceLimiters s).img = s.img ∧ (emptyBraceLimiters s).rcd = s.rcd ∧ (emptyBraceLimiters s).pmc = s.pmc ∧
    (emptyBraceLimiters s).abt = s.abt ∧ (emptyBraceLimiters s).mode = s.mode ∧ (emptyBraceLimiters s).key = s.key ∧
    (emptyBraceLimiters s).sb = s.sb ∧ (emptyBraceLimiters s).pending = s.pending := by
  unfold emptyBraceLimiters
  (repeat' split) <;> simp -implicitDefEqProofs (maxDischargeDepth := 6)

def Foot.emptyBraceLimiters : List Reg := []

@[simp] theorem emptyBraceLimiters_rd (s : State) (reg : Reg) (rix : Nat) (hav : avoids Foot.emptyBraceLimiters reg = true) :
    (emptyBraceLimiters s).rd reg rix = s.rd reg rix := by
  unfold emptyBraceLimiters
  (repeat' split) <;> simp -implicitDefEqProofs (maxDischargeDepth := 6) [*]

@[simp] theorem charge_frame (p c d k : Nat) (s : State) :
    (charge p c d k s).env = s.env ∧ (charge p c d k s).jrn = s.jrn ∧ (charge p c d k s).err = s.err ∧
    (charge p c d k s).ports = s.ports ∧ (charge p c d k s).deck = s.deck ∧ (charge p c d k s).csn = s.csn ∧
    (charge p c d k s).fl = s.fl ∧ (charge p c d k s).host = s.host ∧ (charge p c d k s).fab = s.fab ∧
    (charge p c d k s).eng = s.eng ∧ (charge p c d k s).img = s.img ∧ (charge p c d k s).rcd = s.rcd ∧
    (charge p c d k s).pmc = s.pmc ∧ (charge p c d k s).abt = s.abt ∧ (charge p c d k s).mode = s.mode ∧
    (charge p c d k s).key = s.key ∧ (charge p c d k s).sb = s.sb ∧ (charge p c d k s).pending = s.pending := by
  unfold charge
  (repeat' split) <;> simp -implicitDefEqProofs (maxDischargeDepth := 6)

def Foot.charge : List Reg := [.PIR_BUFEXP, .PIR_BUFOCC]

@[simp] theorem charge_rd (p c d k : Nat) (s : State) (reg : Reg) (rix : Nat) (hav : avoids Foot.charge reg = true) :
    (charge p c d k s).rd reg rix = s.rd reg rix := by
  have f0 : reg ≠ F.PIR_BUFEXP_EXP_OCC.reg := avoids_ne (by decide) hav
  have f1 : reg ≠ F.PIR_BUFOCC_OCC.reg := avoids_ne (by decide) hav
  unfold charge
  (repeat' split) <;> simp -implicitDefEqProofs (maxDischargeDepth := 6) [*]

@[simp] theorem release_frame (p c d k : Nat) (s : State) :
    (release p c d k s).env = s.env ∧ (release p c d k s).jrn = s.jrn ∧ (release p c d k s).err = s.err ∧
    (release p c d k s).ports = s.ports ∧ (release p c d k s).deck = s.deck ∧ (release p c d k s).csn = s.csn ∧
    (release p c d k s).fl = s.fl ∧ (release p c d k s).host = s.host ∧ (release p c d k s).fab = s.fab ∧
    (release p c d k s).eng = s.eng ∧ (release p c d k s).img = s.img ∧ (release p c d k s).rcd = s.rcd ∧
    (release p c d k s).pmc = s.pmc ∧ (release p c d k s).abt = s.abt ∧ (release p c d k s).mode = s.mode ∧
    (release p c d k s).key = s.key ∧ (release p c d k s).sb = s.sb ∧ (release p c d k s).pending = s.pending := by
  unfold release
  (repeat' split) <;> simp -implicitDefEqProofs (maxDischargeDepth := 6)

def Foot.release : List Reg := [.PIR_BUFEXP, .PIR_BUFOCC]

@[simp] theorem release_rd (p c d k : Nat) (s : State) (reg : Reg) (rix : Nat) (hav : avoids Foot.release reg = true) :
    (release p c d k s).rd reg rix = s.rd reg rix := by
  have f0 : reg ≠ F.PIR_BUFEXP_EXP_OCC.reg := avoids_ne (by decide) hav
  have f1 : reg ≠ F.PIR_BUFOCC_OCC.reg := avoids_ne (by decide) hav
  unfold release
  (repeat' split) <;> simp -implicitDefEqProofs (maxDischargeDepth := 6) [*]

@[simp] theorem setEgressQ_frame (p t : Nat) (q : List QEnt) (s : State) :
    (setEgressQ p t q s).env = s.env ∧ (setEgressQ p t q s).jrn = s.jrn ∧ (setEgressQ p t q s).err = s.err ∧
    (setEgressQ p t q s).deck = s.deck ∧ (setEgressQ p t q s).csn = s.csn ∧ (setEgressQ p t q s).fl = s.fl ∧
    (setEgressQ p t q s).host = s.host ∧ (setEgressQ p t q s).fab = s.fab ∧ (setEgressQ p t q s).eng = s.eng ∧
    (setEgressQ p t q s).img = s.img ∧ (setEgressQ p t q s).rcd = s.rcd ∧ (setEgressQ p t q s).pmc = s.pmc ∧
    (setEgressQ p t q s).abt = s.abt ∧ (setEgressQ p t q s).mode = s.mode ∧ (setEgressQ p t q s).key = s.key ∧
    (setEgressQ p t q s).sb = s.sb ∧ (setEgressQ p t q s).pending = s.pending := by
  unfold setEgressQ
  (repeat' split) <;> simp -implicitDefEqProofs (maxDischargeDepth := 6)

def Foot.setEgressQ : List Reg := []

@[simp] theorem setEgressQ_rd (p t : Nat) (q : List QEnt) (s : State) (reg : Reg) (rix : Nat) (hav : avoids Foot.setEgressQ reg = true) :
    (setEgressQ p t q s).rd reg rix = s.rd reg rix := by
  unfold setEgressQ
  (repeat' split) <;> simp -implicitDefEqProofs (maxDischargeDepth := 6) [*]

@[simp] theorem mcDec_frame (src root : Nat) (c : Carried) (s : State) :
    (mcDec src root c s).env = s.env ∧ (mcDec src root c s).jrn = s.jrn ∧ (mcDec src root c s).err = s.err ∧
    (mcDec src root c s).ports = s.ports ∧ (mcDec src root c s).csn = s.csn ∧ (mcDec src root c s).fl = s.fl ∧
    (mcDec src root c s).host = s.host ∧ (mcDec src root c s).fab = s.fab ∧ (mcDec src root c s).eng = s.eng ∧
    (mcDec src root c s).img = s.img ∧ (mcDec src root c s).rcd = s.rcd ∧ (mcDec src root c s).pmc = s.pmc ∧
    (mcDec src root c s).abt = s.abt ∧ (mcDec src root c s).mode = s.mode ∧ (mcDec src root c s).key = s.key ∧
    (mcDec src root c s).sb = s.sb ∧ (mcDec src root c s).pending = s.pending := by
  unfold mcDec
  (repeat' split) <;> simp -implicitDefEqProofs (maxDischargeDepth := 6)

def Foot.mcDec : List Reg := [.PIR_BUFEXP, .PIR_BUFOCC]

@[simp] theorem mcDec_rd (src root : Nat) (c : Carried) (s : State) (reg : Reg) (rix : Nat) (hav : avoids Foot.mcDec reg = true) :
    (mcDec src root c s).rd reg rix = s.rd reg rix := by
  have c0 : avoids Foot.release reg = true := avoids_mono (by decide) hav
  unfold mcDec
  (repeat' split) <;> simp -implicitDefEqProofs (maxDischargeDepth := 6) [*]

@[simp] theorem releaseEgress_frame (c : Carried) (s : State) :
    (releaseEgress c s).env = s.env ∧ (releaseEgress c s).jrn = s.jrn ∧ (releaseEgress c s).err = s.err ∧
    (releaseEgress c s).ports = s.ports ∧ (releaseEgress c s).csn = s.csn ∧ (releaseEgress c s).fl = s.fl ∧
    (releaseEgress c s).host = s.host ∧ (releaseEgress c s).fab = s.fab ∧ (releaseEgress c s).eng = s.eng ∧
    (releaseEgress c s).img = s.img ∧ (releaseEgress c s).rcd = s.rcd ∧ (releaseEgress c s).pmc = s.pmc ∧
    (releaseEgress c s).abt = s.abt ∧ (releaseEgress c s).mode = s.mode ∧ (releaseEgress c s).key = s.key ∧
    (releaseEgress c s).sb = s.sb ∧ (releaseEgress c s).pending = s.pending := by
  unfold releaseEgress
  (repeat' split) <;> simp -implicitDefEqProofs (maxDischargeDepth := 6)

def Foot.releaseEgress : List Reg := [.PIR_BUFEXP, .PIR_BUFOCC]

@[simp] theorem releaseEgress_rd (c : Carried) (s : State) (reg : Reg) (rix : Nat) (hav : avoids Foot.releaseEgress reg = true) :
    (releaseEgress c s).rd reg rix = s.rd reg rix := by
  have c0 : avoids Foot.release reg = true := avoids_mono (by decide) hav
  have c1 : avoids Foot.mcDec reg = true := avoids_mono (by decide) hav
  unfold releaseEgress
  (repeat' split) <;> simp -implicitDefEqProofs (maxDischargeDepth := 6) [*]

@[simp] theorem lostPosted_frame (p : Nat) (s : State) :
    (lostPosted p s).env = s.env ∧ (lostPosted p s).jrn = s.jrn ∧ (lostPosted p s).ports = s.ports ∧
    (lostPosted p s).deck = s.deck ∧ (lostPosted p s).csn = s.csn ∧ (lostPosted p s).fl = s.fl ∧
    (lostPosted p s).host = s.host ∧ (lostPosted p s).fab = s.fab ∧ (lostPosted p s).eng = s.eng ∧
    (lostPosted p s).img = s.img ∧ (lostPosted p s).rcd = s.rcd ∧ (lostPosted p s).pmc = s.pmc ∧
    (lostPosted p s).abt = s.abt ∧ (lostPosted p s).mode = s.mode ∧ (lostPosted p s).key = s.key ∧
    (lostPosted p s).sb = s.sb ∧ (lostPosted p s).pending = s.pending := by
  unfold lostPosted
  (repeat' split) <;> simp -implicitDefEqProofs (maxDischargeDepth := 6)

def Foot.lostPosted : List Reg := [.PIR_ERRCNT2, .PIR_FBPORT]

@[simp] theorem lostPosted_rd (p : Nat) (s : State) (reg : Reg) (rix : Nat) (hav : avoids Foot.lostPosted reg = true) :
    (lostPosted p s).rd reg rix = s.rd reg rix := by
  have c0 : avoids Foot.pushRec reg = true := avoids_mono (by decide) hav
  have f0 : reg ≠ F.PIR_FBPORT_LOST_P.reg := avoids_ne (by decide) hav
  unfold lostPosted
  (repeat' split) <;> simp -implicitDefEqProofs (maxDischargeDepth := 6) [*]

@[simp] theorem dropAtEgress_frame (c : Carried) (s : State) :
    (dropAtEgress c s).env = s.env ∧ (dropAtEgress c s).jrn = s.jrn ∧ (dropAtEgress c s).ports = s.ports ∧
    (dropAtEgress c s).csn = s.csn ∧ (dropAtEgress c s).fl = s.fl ∧ (dropAtEgress c s).host = s.host ∧
    (dropAtEgress c s).fab = s.fab ∧ (dropAtEgress c s).eng = s.eng ∧ (dropAtEgress c s).img = s.img ∧
    (dropAtEgress c s).rcd = s.rcd ∧ (dropAtEgress c s).pmc = s.pmc ∧ (dropAtEgress c s).abt = s.abt ∧
    (dropAtEgress c s).mode = s.mode ∧ (dropAtEgress c s).key = s.key ∧ (dropAtEgress c s).sb = s.sb ∧
    (dropAtEgress c s).pending = s.pending := by
  unfold dropAtEgress
  (repeat' split) <;> simp -implicitDefEqProofs (maxDischargeDepth := 6)

def Foot.dropAtEgress : List Reg := [.PIR_BUFEXP, .PIR_BUFOCC, .PIR_CPLTRK, .PIR_ERRCNT2, .PIR_FBPORT]

@[simp] theorem dropAtEgress_rd (c : Carried) (s : State) (reg : Reg) (rix : Nat) (hav : avoids Foot.dropAtEgress reg = true) :
    (dropAtEgress c s).rd reg rix = s.rd reg rix := by
  have c0 : avoids Foot.releaseEgress reg = true := avoids_mono (by decide) hav
  have c1 : avoids Foot.lostPosted reg = true := avoids_mono (by decide) hav
  have f0 : reg ≠ F.PIR_CPLTRK_DROP_P.reg := avoids_ne (by decide) hav
  unfold dropAtEgress
  (repeat' split) <;> simp -implicitDefEqProofs (maxDischargeDepth := 6) [*]

@[simp] theorem enqueueEgress_frame (c : Carried) (s : State) :
    (enqueueEgress c s).env = s.env ∧ (enqueueEgress c s).jrn = s.jrn ∧ (enqueueEgress c s).csn = s.csn ∧
    (enqueueEgress c s).fl = s.fl ∧ (enqueueEgress c s).host = s.host ∧ (enqueueEgress c s).fab = s.fab ∧
    (enqueueEgress c s).eng = s.eng ∧ (enqueueEgress c s).img = s.img ∧ (enqueueEgress c s).rcd = s.rcd ∧
    (enqueueEgress c s).pmc = s.pmc ∧ (enqueueEgress c s).abt = s.abt ∧ (enqueueEgress c s).mode = s.mode ∧
    (enqueueEgress c s).key = s.key ∧ (enqueueEgress c s).sb = s.sb ∧ (enqueueEgress c s).pending = s.pending := by
  unfold enqueueEgress
  (repeat' split) <;> simp -implicitDefEqProofs (maxDischargeDepth := 6)

def Foot.enqueueEgress : List Reg := [.PIR_BUFEXP, .PIR_BUFOCC, .PIR_CPLTRK, .PIR_ERRCNT2, .PIR_EXPMON, .PIR_FBPORT]

@[simp] theorem enqueueEgress_rd (c : Carried) (s : State) (reg : Reg) (rix : Nat) (hav : avoids Foot.enqueueEgress reg = true) :
    (enqueueEgress c s).rd reg rix = s.rd reg rix := by
  have c1 : avoids Foot.setEgressQ reg = true := avoids_mono (by decide) hav
  have c2 : avoids Foot.dropAtEgress reg = true := avoids_mono (by decide) hav
  have f0 : reg ≠ F.PIR_EXPMON_AHEAD.reg := avoids_ne (by decide) hav
  unfold enqueueEgress
  (repeat' split) <;> simp -implicitDefEqProofs (maxDischargeDepth := 6) [*]

@[simp] theorem drr_frame (s : State) (p : Nat) (cand : Nat → Option (Nat × QEnt)) (n : Nat) :
    ((drr s p cand n)).1.jrn = s.jrn ∧ ((drr s p cand n)).1.err = s.err ∧ ((drr s p cand n)).1.deck = s.deck ∧
    ((drr s p cand n)).1.csn = s.csn ∧ ((drr s p cand n)).1.fl = s.fl ∧ ((drr s p cand n)).1.host = s.host ∧
    ((drr s p cand n)).1.fab = s.fab ∧ ((drr s p cand n)).1.eng = s.eng ∧ ((drr s p cand n)).1.img = s.img ∧
    ((drr s p cand n)).1.rcd = s.rcd ∧ ((drr s p cand n)).1.pmc = s.pmc ∧ ((drr s p cand n)).1.abt = s.abt ∧
    ((drr s p cand n)).1.mode = s.mode ∧ ((drr s p cand n)).1.key = s.key ∧ ((drr s p cand n)).1.sb = s.sb ∧
    ((drr s p cand n)).1.pending = s.pending := by
  induction n generalizing s with
  | zero => simp [drr]
  | succ n ih =>
    unfold drr
    dsimp only
    (repeat' split) <;> simp -implicitDefEqProofs [ih]

def Foot.drr : List Reg := []

@[simp] theorem drr_rd (s : State) (p : Nat) (cand : Nat → Option (Nat × QEnt)) (n : Nat) (reg : Reg) (rix : Nat) (hav : avoids Foot.drr reg = true) :
    ((drr s p cand n)).1.rd reg rix = s.rd reg rix := by
  induction n generalizing s with
  | zero => simp [drr]
  | succ n ih =>
    unfold drr
    dsimp only
    (repeat' split) <;> simp -implicitDefEqProofs [ih, *]

@[simp] theorem choose_frame (s : State) (p : Nat) (cand : Nat → Option (Nat × QEnt)) :
    ((choose s p cand)).1.jrn = s.jrn ∧ ((choose s p cand)).1.err = s.err ∧ ((choose s p cand)).1.deck = s.deck ∧
    ((choose s p cand)).1.csn = s.csn ∧ ((choose s p cand)).1.fl = s.fl ∧ ((choose s p cand)).1.host = s.host ∧
    ((choose s p cand)).1.fab = s.fab ∧ ((choose s p cand)).1.eng = s.eng ∧ ((choose s p cand)).1.img = s.img ∧
    ((choose s p cand)).1.rcd = s.rcd ∧ ((choose s p cand)).1.pmc = s.pmc ∧ ((choose s p cand)).1.abt = s.abt ∧
    ((choose s p cand)).1.mode = s.mode ∧ ((choose s p cand)).1.key = s.key ∧ ((choose s p cand)).1.sb = s.sb ∧
    ((choose s p cand)).1.pending = s.pending := by
  unfold choose
  (repeat' split) <;> simp -implicitDefEqProofs (maxDischargeDepth := 6)

def Foot.choose : List Reg := []

@[simp] theorem choose_rd (s : State) (p : Nat) (cand : Nat → Option (Nat × QEnt)) (reg : Reg) (rix : Nat) (hav : avoids Foot.choose reg = true) :
    ((choose s p cand)).1.rd reg rix = s.rd reg rix := by
  have c0 : avoids Foot.drr reg = true := avoids_mono (by decide) hav
  unfold choose
  (repeat' split) <;> simp -implicitDefEqProofs (maxDischargeDepth := 6) [*]

@[simp] theorem countNoCredit_frame (p : Nat) (short : QEnt → Bool) (s : State) :
    (countNoCredit p short s).env = s.env ∧ (countNoCredit p short s).jrn = s.jrn ∧ (countNoCredit p short s).err = s.err ∧
    (countNoCredit p short s).deck = s.deck ∧ (countNoCredit p short s).csn = s.csn ∧ (countNoCredit p short s).fl = s.fl ∧
    (countNoCredit p short s).host = s.host ∧ (countNoCredit p short s).fab = s.fab ∧
    (countNoCredit p short s).eng = s.eng ∧ (countNoCredit p short s).img = s.img ∧ (countNoCredit p short s).rcd = s.rcd ∧
    (countNoCredit p short s).pmc = s.pmc ∧ (countNoCredit p short s).abt = s.abt ∧
    (countNoCredit p short s).mode = s.mode ∧ (countNoCredit p short s).key = s.key ∧ (countNoCredit p short s).sb = s.sb ∧
    (countNoCredit p short s).pending = s.pending := by
  unfold countNoCredit
  (repeat' split) <;> simp -implicitDefEqProofs (maxDischargeDepth := 6)

def Foot.countNoCredit : List Reg := [.PIR_EXPMON]

@[simp] theorem countNoCredit_rd (p : Nat) (short : QEnt → Bool) (s : State) (reg : Reg) (rix : Nat) (hav : avoids Foot.countNoCredit reg = true) :
    (countNoCredit p short s).rd reg rix = s.rd reg rix := by
  have c0 : avoids Foot.setEgressQ reg = true := avoids_mono (by decide) hav
  have f0 : reg ≠ F.PIR_EXPMON_NOCREDIT.reg := avoids_ne (by decide) hav
  unfold countNoCredit
  (repeat' split) <;> simp -implicitDefEqProofs (maxDischargeDepth := 6) [*]

@[simp] theorem chargeEgress_frame (p t n : Nat) (s : State) :
    (chargeEgress p t n s).env = s.env ∧ (chargeEgress p t n s).jrn = s.jrn ∧ (chargeEgress p t n s).err = s.err ∧
    (chargeEgress p t n s).deck = s.deck ∧ (chargeEgress p t n s).csn = s.csn ∧ (chargeEgress p t n s).fl = s.fl ∧
    (chargeEgress p t n s).host = s.host ∧ (chargeEgress p t n s).fab = s.fab ∧ (chargeEgress p t n s).eng = s.eng ∧
    (chargeEgress p t n s).img = s.img ∧ (chargeEgress p t n s).rcd = s.rcd ∧ (chargeEgress p t n s).pmc = s.pmc ∧
    (chargeEgress p t n s).abt = s.abt ∧ (chargeEgress p t n s).mode = s.mode ∧ (chargeEgress p t n s).key = s.key ∧
    (chargeEgress p t n s).sb = s.sb ∧ (chargeEgress p t n s).pending = s.pending := by
  unfold chargeEgress
  (repeat' split) <;> simp -implicitDefEqProofs (maxDischargeDepth := 6)

def Foot.chargeEgress : List Reg := []

@[simp] theorem chargeEgress_rd (p t n : Nat) (s : State) (reg : Reg) (rix : Nat) (hav : avoids Foot.chargeEgress reg = true) :
    (chargeEgress p t n s).rd reg rix = s.rd reg rix := by
  unfold chargeEgress
  (repeat' split) <;> simp -implicitDefEqProofs (maxDischargeDepth := 6) [*]

@[simp] theorem setPlane_frame (m st : Nat) (s : State) :
    (setPlane m st s).env = s.env ∧ (setPlane m st s).jrn = s.jrn ∧ (setPlane m st s).err = s.err ∧
    (setPlane m st s).ports = s.ports ∧ (setPlane m st s).deck = s.deck ∧ (setPlane m st s).csn = s.csn ∧
    (setPlane m st s).fl = s.fl ∧ (setPlane m st s).host = s.host ∧ (setPlane m st s).fab = s.fab ∧
    (setPlane m st s).eng = s.eng ∧ (setPlane m st s).img = s.img ∧ (setPlane m st s).rcd = s.rcd ∧
    (setPlane m st s).pmc = s.pmc ∧ (setPlane m st s).abt = s.abt ∧ (setPlane m st s).mode = s.mode ∧
    (setPlane m st s).key = s.key ∧ (setPlane m st s).sb = s.sb ∧ (setPlane m st s).pending = s.pending := by
  unfold setPlane
  (repeat' split) <;> simp -implicitDefEqProofs (maxDischargeDepth := 6)

def Foot.setPlane : List Reg := [.DCK_STAT, .GLB_PLANES]

@[simp] theorem setPlane_rd (m st : Nat) (s : State) (reg : Reg) (rix : Nat) (hav : avoids Foot.setPlane reg = true) :
    (setPlane m st s).rd reg rix = s.rd reg rix := by
  have f0 : reg ≠ F.DCK_STAT_STATE.reg := avoids_ne (by decide) hav
  have f1 : reg ≠ F.GLB_PLANES_FAILED.reg := avoids_ne (by decide) hav
  have f2 : reg ≠ F.GLB_PLANES_LIVE.reg := avoids_ne (by decide) hav
  unfold setPlane
  (repeat' split) <;> simp -implicitDefEqProofs (maxDischargeDepth := 6) [*]

@[simp] theorem setPmapEntry_frame (n h m : Nat) (s : State) :
    (setPmapEntry n h m s).env = s.env ∧ (setPmapEntry n h m s).jrn = s.jrn ∧ (setPmapEntry n h m s).err = s.err ∧
    (setPmapEntry n h m s).ports = s.ports ∧ (setPmapEntry n h m s).deck = s.deck ∧ (setPmapEntry n h m s).csn = s.csn ∧
    (setPmapEntry n h m s).fl = s.fl ∧ (setPmapEntry n h m s).host = s.host ∧ (setPmapEntry n h m s).fab = s.fab ∧
    (setPmapEntry n h m s).eng = s.eng ∧ (setPmapEntry n h m s).img = s.img ∧ (setPmapEntry n h m s).rcd = s.rcd ∧
    (setPmapEntry n h m s).pmc = s.pmc ∧ (setPmapEntry n h m s).abt = s.abt ∧ (setPmapEntry n h m s).mode = s.mode ∧
    (setPmapEntry n h m s).key = s.key ∧ (setPmapEntry n h m s).sb = s.sb ∧ (setPmapEntry n h m s).pending = s.pending := by
  unfold setPmapEntry
  (repeat' split) <;> simp -implicitDefEqProofs (maxDischargeDepth := 6)

def Foot.setPmapEntry : List Reg := [.PIR_PMAP]

@[simp] theorem setPmapEntry_rd (n h m : Nat) (s : State) (reg : Reg) (rix : Nat) (hav : avoids Foot.setPmapEntry reg = true) :
    (setPmapEntry n h m s).rd reg rix = s.rd reg rix := by
  have f0 : reg ≠ .PIR_PMAP := avoids_ne (by decide) hav
  unfold setPmapEntry
  (repeat' split) <;> simp -implicitDefEqProofs (maxDischargeDepth := 6) [*]

@[simp] theorem setInfl_frame (src h : Nat) (x : InFlight) (s : State) :
    (setInfl src h x s).env = s.env ∧ (setInfl src h x s).jrn = s.jrn ∧ (setInfl src h x s).err = s.err ∧
    (setInfl src h x s).ports = s.ports ∧ (setInfl src h x s).csn = s.csn ∧ (setInfl src h x s).fl = s.fl ∧
    (setInfl src h x s).host = s.host ∧ (setInfl src h x s).fab = s.fab ∧ (setInfl src h x s).eng = s.eng ∧
    (setInfl src h x s).img = s.img ∧ (setInfl src h x s).rcd = s.rcd ∧ (setInfl src h x s).pmc = s.pmc ∧
    (setInfl src h x s).abt = s.abt ∧ (setInfl src h x s).mode = s.mode ∧ (setInfl src h x s).key = s.key ∧
    (setInfl src h x s).sb = s.sb ∧ (setInfl src h x s).pending = s.pending := by
  unfold setInfl
  (repeat' split) <;> simp -implicitDefEqProofs (maxDischargeDepth := 6)

def Foot.setInfl : List Reg := []

@[simp] theorem setInfl_rd (src h : Nat) (x : InFlight) (s : State) (reg : Reg) (rix : Nat) (hav : avoids Foot.setInfl reg = true) :
    (setInfl src h x s).rd reg rix = s.rd reg rix := by
  unfold setInfl
  (repeat' split) <;> simp -implicitDefEqProofs (maxDischargeDepth := 6) [*]

@[simp] theorem queueCells_frame (src h : Nat) (x : InFlight) (front : Bool) (s : State) :
    (queueCells src h x front s).env = s.env ∧ (queueCells src h x front s).jrn = s.jrn ∧
    (queueCells src h x front s).err = s.err ∧ (queueCells src h x front s).ports = s.ports ∧
    (queueCells src h x front s).csn = s.csn ∧ (queueCells src h x front s).fl = s.fl ∧
    (queueCells src h x front s).host = s.host ∧ (queueCells src h x front s).fab = s.fab ∧
    (queueCells src h x front s).eng = s.eng ∧ (queueCells src h x front s).img = s.img ∧
    (queueCells src h x front s).rcd = s.rcd ∧ (queueCells src h x front s).pmc = s.pmc ∧
    (queueCells src h x front s).abt = s.abt ∧ (queueCells src h x front s).mode = s.mode ∧
    (queueCells src h x front s).key = s.key ∧ (queueCells src h x front s).sb = s.sb ∧
    (queueCells src h x front s).pending = s.pending := by
  unfold queueCells
  (repeat' split) <;> simp -implicitDefEqProofs (maxDischargeDepth := 6)

def Foot.queueCells : List Reg := []

@[simp] theorem queueCells_rd (src h : Nat) (x : InFlight) (front : Bool) (s : State) (reg : Reg) (rix : Nat) (hav : avoids Foot.queueCells reg = true) :
    (queueCells src h x front s).rd reg rix = s.rd reg rix := by
  unfold queueCells
  (repeat' split) <;> simp -implicitDefEqProofs (maxDischargeDepth := 6) [*]

@[simp] theorem dropCells_frame (src dst h : Nat) (s : State) :
    (dropCells src dst h s).env = s.env ∧ (dropCells src dst h s).jrn = s.jrn ∧ (dropCells src dst h s).err = s.err ∧
    (dropCells src dst h s).ports = s.ports ∧ (dropCells src dst h s).csn = s.csn ∧ (dropCells src dst h s).fl = s.fl ∧
    (dropCells src dst h s).host = s.host ∧ (dropCells src dst h s).fab = s.fab ∧ (dropCells src dst h s).eng = s.eng ∧
    (dropCells src dst h s).img = s.img ∧ (dropCells src dst h s).rcd = s.rcd ∧ (dropCells src dst h s).pmc = s.pmc ∧
    (dropCells src dst h s).abt = s.abt ∧ (dropCells src dst h s).mode = s.mode ∧ (dropCells src dst h s).key = s.key ∧
    (dropCells src dst h s).sb = s.sb ∧ (dropCells src dst h s).pending = s.pending := by
  unfold dropCells
  (repeat' split) <;> simp -implicitDefEqProofs (maxDischargeDepth := 6)

def Foot.dropCells : List Reg := []

@[simp] theorem dropCells_rd (src dst h : Nat) (s : State) (reg : Reg) (rix : Nat) (hav : avoids Foot.dropCells reg = true) :
    (dropCells src dst h s).rd reg rix = s.rd reg rix := by
  unfold dropCells
  (repeat' split) <;> simp -implicitDefEqProofs (maxDischargeDepth := 6) [*]

@[simp] theorem dropReasm_frame (src h : Nat) (x : InFlight) (s : State) :
    (dropReasm src h x s).env = s.env ∧ (dropReasm src h x s).jrn = s.jrn ∧ (dropReasm src h x s).err = s.err ∧
    (dropReasm src h x s).ports = s.ports ∧ (dropReasm src h x s).csn = s.csn ∧ (dropReasm src h x s).fl = s.fl ∧
    (dropReasm src h x s).host = s.host ∧ (dropReasm src h x s).fab = s.fab ∧ (dropReasm src h x s).eng = s.eng ∧
    (dropReasm src h x s).img = s.img ∧ (dropReasm src h x s).rcd = s.rcd ∧ (dropReasm src h x s).pmc = s.pmc ∧
    (dropReasm src h x s).abt = s.abt ∧ (dropReasm src h x s).mode = s.mode ∧ (dropReasm src h x s).key = s.key ∧
    (dropReasm src h x s).sb = s.sb ∧ (dropReasm src h x s).pending = s.pending := by
  unfold dropReasm
  (repeat' split) <;> simp -implicitDefEqProofs (maxDischargeDepth := 6)

def Foot.dropReasm : List Reg := [.PIR_BUFEXP, .PIR_BUFOCC]

@[simp] theorem dropReasm_rd (src h : Nat) (x : InFlight) (s : State) (reg : Reg) (rix : Nat) (hav : avoids Foot.dropReasm reg = true) :
    (dropReasm src h x s).rd reg rix = s.rd reg rix := by
  have c0 : avoids Foot.release reg = true := avoids_mono (by decide) hav
  unfold dropReasm
  (repeat' split) <;> simp -implicitDefEqProofs (maxDischargeDepth := 6) [*]

@[simp] theorem sendCopy_frame (c : Carried) (dst : Nat) (targets : List Nat) (s : State) :
    (sendCopy c dst targets s).env = s.env ∧ (sendCopy c dst targets s).jrn = s.jrn ∧
    (sendCopy c dst targets s).err = s.err ∧ (sendCopy c dst targets s).ports = s.ports ∧
    (sendCopy c dst targets s).csn = s.csn ∧ (sendCopy c dst targets s).fl = s.fl ∧
    (sendCopy c dst targets s).host = s.host ∧ (sendCopy c dst targets s).fab = s.fab ∧
    (sendCopy c dst targets s).eng = s.eng ∧ (sendCopy c dst targets s).img = s.img ∧
    (sendCopy c dst targets s).rcd = s.rcd ∧ (sendCopy c dst targets s).pmc = s.pmc ∧
    (sendCopy c dst targets s).abt = s.abt ∧ (sendCopy c dst targets s).mode = s.mode ∧
    (sendCopy c dst targets s).key = s.key ∧ (sendCopy c dst targets s).sb = s.sb ∧
    (sendCopy c dst targets s).pending = s.pending := by
  unfold sendCopy
  (repeat' split) <;> simp -implicitDefEqProofs (maxDischargeDepth := 6)

def Foot.sendCopy : List Reg := []

@[simp] theorem sendCopy_rd (c : Carried) (dst : Nat) (targets : List Nat) (s : State) (reg : Reg) (rix : Nat) (hav : avoids Foot.sendCopy reg = true) :
    (sendCopy c dst targets s).rd reg rix = s.rd reg rix := by
  have c0 : avoids Foot.setInfl reg = true := avoids_mono (by decide) hav
  have c1 : avoids Foot.queueCells reg = true := avoids_mono (by decide) hav
  unfold sendCopy
  (repeat' split) <;> simp -implicitDefEqProofs (maxDischargeDepth := 6) [*]

@[simp] theorem sendAll_frame (c : Carried) (s : State) :
    (sendAll c s).env = s.env ∧ (sendAll c s).jrn = s.jrn ∧ (sendAll c s).err = s.err ∧ (sendAll c s).ports = s.ports ∧
    (sendAll c s).csn = s.csn ∧ (sendAll c s).fl = s.fl ∧ (sendAll c s).host = s.host ∧ (sendAll c s).fab = s.fab ∧
    (sendAll c s).eng = s.eng ∧ (sendAll c s).img = s.img ∧ (sendAll c s).rcd = s.rcd ∧ (sendAll c s).pmc = s.pmc ∧
    (sendAll c s).abt = s.abt ∧ (sendAll c s).mode = s.mode ∧ (sendAll c s).key = s.key ∧ (sendAll c s).sb = s.sb ∧
    (sendAll c s).pending = s.pending := by
  unfold sendAll
  (repeat' split) <;> simp -implicitDefEqProofs (maxDischargeDepth := 6)

def Foot.sendAll : List Reg := []

@[simp] theorem sendAll_rd (c : Carried) (s : State) (reg : Reg) (rix : Nat) (hav : avoids Foot.sendAll reg = true) :
    (sendAll c s).rd reg rix = s.rd reg rix := by
  have c0 : avoids Foot.sendCopy reg = true := avoids_mono (by decide) hav
  unfold sendAll
  (repeat' split) <;> simp -implicitDefEqProofs (maxDischargeDepth := 6) [*]

@[simp] theorem drainList_frame (l kept : List Carried) (s : State) :
    ((drainList l kept s)).1.env = s.env ∧ ((drainList l kept s)).1.jrn = s.jrn ∧ ((drainList l kept s)).1.err = s.err ∧
    ((drainList l kept s)).1.ports = s.ports ∧ ((drainList l kept s)).1.csn = s.csn ∧ ((drainList l kept s)).1.fl = s.fl ∧
    ((drainList l kept s)).1.host = s.host ∧ ((drainList l kept s)).1.fab = s.fab ∧ ((drainList l kept s)).1.eng = s.eng ∧
    ((drainList l kept s)).1.img = s.img ∧ ((drainList l kept s)).1.rcd = s.rcd ∧ ((drainList l kept s)).1.pmc = s.pmc ∧
    ((drainList l kept s)).1.abt = s.abt ∧ ((drainList l kept s)).1.mode = s.mode ∧ ((drainList l kept s)).1.key = s.key ∧
    ((drainList l kept s)).1.sb = s.sb ∧ ((drainList l kept s)).1.pending = s.pending := by
  induction l generalizing kept s with
  | nil => simp [drainList]
  | cons c l ih =>
    unfold drainList
    split <;> simp -implicitDefEqProofs [ih]

def Foot.drainList : List Reg := []

@[simp] theorem drainList_rd (l kept : List Carried) (s : State) (reg : Reg) (rix : Nat) (hav : avoids Foot.drainList reg = true) :
    ((drainList l kept s)).1.rd reg rix = s.rd reg rix := by
  have c0 : avoids Foot.sendAll reg = true := avoids_mono (by decide) hav
  induction l generalizing kept s with
  | nil => simp [drainList]
  | cons c l ih =>
    unfold drainList
    split <;> simp -implicitDefEqProofs [ih, *]

@[simp] theorem deckDrain_frame (src : Nat) (s : State) :
    (deckDrain src s).env = s.env ∧ (deckDrain src s).jrn = s.jrn ∧ (deckDrain src s).err = s.err ∧
    (deckDrain src s).ports = s.ports ∧ (deckDrain src s).csn = s.csn ∧ (deckDrain src s).fl = s.fl ∧
    (deckDrain src s).host = s.host ∧ (deckDrain src s).fab = s.fab ∧ (deckDrain src s).eng = s.eng ∧
    (deckDrain src s).img = s.img ∧ (deckDrain src s).rcd = s.rcd ∧ (deckDrain src s).pmc = s.pmc ∧
    (deckDrain src s).abt = s.abt ∧ (deckDrain src s).mode = s.mode ∧ (deckDrain src s).key = s.key ∧
    (deckDrain src s).sb = s.sb ∧ (deckDrain src s).pending = s.pending := by
  unfold deckDrain
  (repeat' split) <;> simp -implicitDefEqProofs (maxDischargeDepth := 6)

def Foot.deckDrain : List Reg := []

@[simp] theorem deckDrain_rd (src : Nat) (s : State) (reg : Reg) (rix : Nat) (hav : avoids Foot.deckDrain reg = true) :
    (deckDrain src s).rd reg rix = s.rd reg rix := by
  have c0 : avoids Foot.drainList reg = true := avoids_mono (by decide) hav
  unfold deckDrain
  (repeat' split) <;> simp -implicitDefEqProofs (maxDischargeDepth := 6) [*]

@[simp] theorem deckSend_frame (c : Carried) (s : State) :
    (deckSend c s).env = s.env ∧ (deckSend c s).jrn = s.jrn ∧ (deckSend c s).err = s.err ∧ (deckSend c s).ports = s.ports ∧
    (deckSend c s).csn = s.csn ∧ (deckSend c s).fl = s.fl ∧ (deckSend c s).host = s.host ∧ (deckSend c s).fab = s.fab ∧
    (deckSend c s).eng = s.eng ∧ (deckSend c s).img = s.img ∧ (deckSend c s).rcd = s.rcd ∧ (deckSend c s).pmc = s.pmc ∧
    (deckSend c s).abt = s.abt ∧ (deckSend c s).mode = s.mode ∧ (deckSend c s).key = s.key ∧ (deckSend c s).sb = s.sb ∧
    (deckSend c s).pending = s.pending := by
  unfold deckSend
  (repeat' split) <;> simp -implicitDefEqProofs (maxDischargeDepth := 6)

def Foot.deckSend : List Reg := []

@[simp] theorem deckSend_rd (c : Carried) (s : State) (reg : Reg) (rix : Nat) (hav : avoids Foot.deckSend reg = true) :
    (deckSend c s).rd reg rix = s.rd reg rix := by
  have c0 : avoids Foot.deckDrain reg = true := avoids_mono (by decide) hav
  unfold deckSend
  (repeat' split) <;> simp -implicitDefEqProofs (maxDischargeDepth := 6) [*]

@[simp] theorem resend_frame (src dst h : Nat) (s : State) :
    (resend src dst h s).env = s.env ∧ (resend src dst h s).jrn = s.jrn ∧ (resend src dst h s).err = s.err ∧
    (resend src dst h s).ports = s.ports ∧ (resend src dst h s).csn = s.csn ∧ (resend src dst h s).fl = s.fl ∧
    (resend src dst h s).host = s.host ∧ (resend src dst h s).fab = s.fab ∧ (resend src dst h s).eng = s.eng ∧
    (resend src dst h s).img = s.img ∧ (resend src dst h s).rcd = s.rcd ∧ (resend src dst h s).pmc = s.pmc ∧
    (resend src dst h s).abt = s.abt ∧ (resend src dst h s).mode = s.mode ∧ (resend src dst h s).key = s.key ∧
    (resend src dst h s).sb = s.sb ∧ (resend src dst h s).pending = s.pending := by
  unfold resend
  (repeat' split) <;> simp -implicitDefEqProofs (maxDischargeDepth := 6)

def Foot.resend : List Reg := [.PIR_BUFEXP, .PIR_BUFOCC, .PIR_DKSTAT]

@[simp] theorem resend_rd (src dst h : Nat) (s : State) (reg : Reg) (rix : Nat) (hav : avoids Foot.resend reg = true) :
    (resend src dst h s).rd reg rix = s.rd reg rix := by
  have c0 : avoids Foot.setInfl reg = true := avoids_mono (by decide) hav
  have c1 : avoids Foot.queueCells reg = true := avoids_mono (by decide) hav
  have c2 : avoids Foot.dropCells reg = true := avoids_mono (by decide) hav
  have c3 : avoids Foot.dropReasm reg = true := avoids_mono (by decide) hav
  have f0 : reg ≠ F.PIR_DKSTAT_RESENDS.reg := avoids_ne (by decide) hav
  unfold resend
  (repeat' split) <;> simp -implicitDefEqProofs (maxDischargeDepth := 6) [*]

@[simp] theorem voidOut_frame (src dst h : Nat) (s : State) :
    (voidOut src dst h s).env = s.env ∧ (voidOut src dst h s).jrn = s.jrn ∧ (voidOut src dst h s).ports = s.ports ∧
    (voidOut src dst h s).csn = s.csn ∧ (voidOut src dst h s).fl = s.fl ∧ (voidOut src dst h s).host = s.host ∧
    (voidOut src dst h s).fab = s.fab ∧ (voidOut src dst h s).eng = s.eng ∧ (voidOut src dst h s).img = s.img ∧
    (voidOut src dst h s).rcd = s.rcd ∧ (voidOut src dst h s).pmc = s.pmc ∧ (voidOut src dst h s).abt = s.abt ∧
    (voidOut src dst h s).mode = s.mode ∧ (voidOut src dst h s).key = s.key ∧ (voidOut src dst h s).sb = s.sb ∧
    (voidOut src dst h s).pending = s.pending := by
  unfold voidOut
  (repeat' split) <;> simp -implicitDefEqProofs (maxDischargeDepth := 6)

def Foot.voidOut : List Reg := [.PIR_BUFEXP, .PIR_BUFOCC, .PIR_DKSTAT, .PIR_ERRCNT2]

@[simp] theorem voidOut_rd (src dst h : Nat) (s : State) (reg : Reg) (rix : Nat) (hav : avoids Foot.voidOut reg = true) :
    (voidOut src dst h s).rd reg rix = s.rd reg rix := by
  have c0 : avoids Foot.pushRec reg = true := avoids_mono (by decide) hav
  have c1 : avoids Foot.release reg = true := avoids_mono (by decide) hav
  have c2 : avoids Foot.setInfl reg = true := avoids_mono (by decide) hav
  have c3 : avoids Foot.dropCells reg = true := avoids_mono (by decide) hav
  have c4 : avoids Foot.dropReasm reg = true := avoids_mono (by decide) hav
  have c5 : avoids Foot.resend reg = true := avoids_mono (by decide) hav
  have f0 : reg ≠ F.PIR_DKSTAT_VOIDS.reg := avoids_ne (by decide) hav
  unfold voidOut
  (repeat' split) <;> simp -implicitDefEqProofs (maxDischargeDepth := 6) [*]

@[simp] theorem resendOrVoid_frame (src dst h : Nat) (s : State) :
    (resendOrVoid src dst h s).env = s.env ∧ (resendOrVoid src dst h s).jrn = s.jrn ∧
    (resendOrVoid src dst h s).ports = s.ports ∧ (resendOrVoid src dst h s).csn = s.csn ∧
    (resendOrVoid src dst h s).fl = s.fl ∧ (resendOrVoid src dst h s).host = s.host ∧
    (resendOrVoid src dst h s).fab = s.fab ∧ (resendOrVoid src dst h s).eng = s.eng ∧
    (resendOrVoid src dst h s).img = s.img ∧ (resendOrVoid src dst h s).rcd = s.rcd ∧
    (resendOrVoid src dst h s).pmc = s.pmc ∧ (resendOrVoid src dst h s).abt = s.abt ∧
    (resendOrVoid src dst h s).mode = s.mode ∧ (resendOrVoid src dst h s).key = s.key ∧
    (resendOrVoid src dst h s).sb = s.sb ∧ (resendOrVoid src dst h s).pending = s.pending := by
  unfold resendOrVoid
  (repeat' split) <;> simp -implicitDefEqProofs (maxDischargeDepth := 6)

def Foot.resendOrVoid : List Reg := [.PIR_BUFEXP, .PIR_BUFOCC, .PIR_DKSTAT, .PIR_ERRCNT2]

@[simp] theorem resendOrVoid_rd (src dst h : Nat) (s : State) (reg : Reg) (rix : Nat) (hav : avoids Foot.resendOrVoid reg = true) :
    (resendOrVoid src dst h s).rd reg rix = s.rd reg rix := by
  have c0 : avoids Foot.resend reg = true := avoids_mono (by decide) hav
  have c1 : avoids Foot.voidOut reg = true := avoids_mono (by decide) hav
  unfold resendOrVoid
  (repeat' split) <;> simp -implicitDefEqProofs (maxDischargeDepth := 6) [*]

@[simp] theorem transfer_frame (m : Nat) (round1 : Bool) (a : Nat × Nat × Nat × Cell) (s : State) :
    (transfer m round1 a s).env = s.env ∧ (transfer m round1 a s).jrn = s.jrn ∧ (transfer m round1 a s).err = s.err ∧
    (transfer m round1 a s).ports = s.ports ∧ (transfer m round1 a s).csn = s.csn ∧ (transfer m round1 a s).fl = s.fl ∧
    (transfer m round1 a s).host = s.host ∧ (transfer m round1 a s).fab = s.fab ∧ (transfer m round1 a s).eng = s.eng ∧
    (transfer m round1 a s).img = s.img ∧ (transfer m round1 a s).rcd = s.rcd ∧ (transfer m round1 a s).pmc = s.pmc ∧
    (transfer m round1 a s).abt = s.abt ∧ (transfer m round1 a s).mode = s.mode ∧ (transfer m round1 a s).key = s.key ∧
    (transfer m round1 a s).sb = s.sb ∧ (transfer m round1 a s).pending = s.pending := by
  unfold transfer
  (repeat' split) <;> (try simp -implicitDefEqProofs (maxDischargeDepth := 6)) <;> (repeat' split) <;> simp -implicitDefEqProofs (maxDischargeDepth := 6)

def Foot.transfer : List Reg := [.PIR_BUFEXP, .PIR_BUFOCC, .PIR_EXPMON]

@[simp] theorem transfer_rd (m : Nat) (round1 : Bool) (a : Nat × Nat × Nat × Cell) (s : State) (reg : Reg) (rix : Nat) (hav : avoids Foot.transfer reg = true) :
    (transfer m round1 a s).rd reg rix = s.rd reg rix := by
  have c0 : avoids Foot.charge reg = true := avoids_mono (by decide) hav
  have f0 : reg ≠ F.PIR_EXPMON_DECKLATE.reg := avoids_ne (by decide) hav
  unfold transfer
  (repeat' split) <;> (try simp -implicitDefEqProofs (maxDischargeDepth := 6) [*]) <;> (repeat' split) <;> simp -implicitDefEqProofs (maxDischargeDepth := 6) [*]

@[simp] theorem matchPlane_frame (m : Nat) (s : State) :
    ((matchPlane m s)).1.env = s.env ∧ ((matchPlane m s)).1.jrn = s.jrn ∧ ((matchPlane m s)).1.err = s.err ∧
    ((matchPlane m s)).1.ports = s.ports ∧ ((matchPlane m s)).1.csn = s.csn ∧ ((matchPlane m s)).1.fl = s.fl ∧
    ((matchPlane m s)).1.host = s.host ∧ ((matchPlane m s)).1.fab = s.fab ∧ ((matchPlane m s)).1.eng = s.eng ∧
    ((matchPlane m s)).1.img = s.img ∧ ((matchPlane m s)).1.rcd = s.rcd ∧ ((matchPlane m s)).1.pmc = s.pmc ∧
    ((matchPlane m s)).1.abt = s.abt ∧ ((matchPlane m s)).1.mode = s.mode ∧ ((matchPlane m s)).1.key = s.key ∧
    ((matchPlane m s)).1.sb = s.sb ∧ ((matchPlane m s)).1.pending = s.pending := by
  unfold matchPlane
  (repeat' split) <;> simp -implicitDefEqProofs (maxDischargeDepth := 6)

def Foot.matchPlane : List Reg := [.PIR_BUFEXP, .PIR_BUFOCC, .PIR_EXPMON]

@[simp] theorem matchPlane_rd (m : Nat) (s : State) (reg : Reg) (rix : Nat) (hav : avoids Foot.matchPlane reg = true) :
    ((matchPlane m s)).1.rd reg rix = s.rd reg rix := by
  have c0 : avoids Foot.transfer reg = true := avoids_mono (by decide) hav
  unfold matchPlane
  (repeat' split) <;> simp -implicitDefEqProofs (maxDischargeDepth := 6) [*]

@[simp] theorem stampHeads_frame (s : State) :
    (stampHeads s).env = s.env ∧ (stampHeads s).jrn = s.jrn ∧ (stampHeads s).err = s.err ∧ (stampHeads s).ports = s.ports ∧
    (stampHeads s).csn = s.csn ∧ (stampHeads s).fl = s.fl ∧ (stampHeads s).host = s.host ∧ (stampHeads s).fab = s.fab ∧
    (stampHeads s).eng = s.eng ∧ (stampHeads s).img = s.img ∧ (stampHeads s).rcd = s.rcd ∧ (stampHeads s).pmc = s.pmc ∧
    (stampHeads s).abt = s.abt ∧ (stampHeads s).mode = s.mode ∧ (stampHeads s).key = s.key ∧ (stampHeads s).sb = s.sb ∧
    (stampHeads s).pending = s.pending := by
  unfold stampHeads
  (repeat' split) <;> simp -implicitDefEqProofs (maxDischargeDepth := 6)

def Foot.stampHeads : List Reg := []

@[simp] theorem stampHeads_rd (s : State) (reg : Reg) (rix : Nat) (hav : avoids Foot.stampHeads reg = true) :
    (stampHeads s).rd reg rix = s.rd reg rix := by
  unfold stampHeads
  (repeat' split) <;> simp -implicitDefEqProofs (maxDischargeDepth := 6) [*]

@[simp] theorem answer_frame (src dst h : Nat) (ack : Bool) (s : State) :
    (answer src dst h ack s).env = s.env ∧ (answer src dst h ack s).jrn = s.jrn ∧ (answer src dst h ack s).err = s.err ∧
    (answer src dst h ack s).ports = s.ports ∧ (answer src dst h ack s).csn = s.csn ∧ (answer src dst h ack s).fl = s.fl ∧
    (answer src dst h ack s).host = s.host ∧ (answer src dst h ack s).fab = s.fab ∧ (answer src dst h ack s).eng = s.eng ∧
    (answer src dst h ack s).img = s.img ∧ (answer src dst h ack s).rcd = s.rcd ∧ (answer src dst h ack s).pmc = s.pmc ∧
    (answer src dst h ack s).abt = s.abt ∧ (answer src dst h ack s).mode = s.mode ∧ (answer src dst h ack s).key = s.key ∧
    (answer src dst h ack s).sb = s.sb ∧ (answer src dst h ack s).pending = s.pending := by
  unfold answer
  (repeat' split) <;> (try simp -implicitDefEqProofs (maxDischargeDepth := 6)) <;> (repeat' split) <;> simp -implicitDefEqProofs (maxDischargeDepth := 6)

def Foot.answer : List Reg := []

@[simp] theorem answer_rd (src dst h : Nat) (ack : Bool) (s : State) (reg : Reg) (rix : Nat) (hav : avoids Foot.answer reg = true) :
    (answer src dst h ack s).rd reg rix = s.rd reg rix := by
  unfold answer
  (repeat' split) <;> (try simp -implicitDefEqProofs (maxDischargeDepth := 6) [*]) <;> (repeat' split) <;> simp -implicitDefEqProofs (maxDischargeDepth := 6) [*]

@[simp] theorem releaseFlow_frame (f n : Nat) (s : State) :
    (releaseFlow f n s).env = s.env ∧ (releaseFlow f n s).jrn = s.jrn ∧ (releaseFlow f n s).csn = s.csn ∧
    (releaseFlow f n s).fl = s.fl ∧ (releaseFlow f n s).host = s.host ∧ (releaseFlow f n s).fab = s.fab ∧
    (releaseFlow f n s).eng = s.eng ∧ (releaseFlow f n s).img = s.img ∧ (releaseFlow f n s).rcd = s.rcd ∧
    (releaseFlow f n s).pmc = s.pmc ∧ (releaseFlow f n s).abt = s.abt ∧ (releaseFlow f n s).mode = s.mode ∧
    (releaseFlow f n s).key = s.key ∧ (releaseFlow f n s).sb = s.sb ∧ (releaseFlow f n s).pending = s.pending := by
  induction n generalizing s with
  | zero => simp [releaseFlow]
  | succ n ih =>
    unfold releaseFlow
    dsimp only
    split
    · simp
    · simp only [ih]
      split <;> simp -implicitDefEqProofs

def Foot.releaseFlow : List Reg := [.PIR_BUFEXP, .PIR_BUFOCC, .PIR_CPLTRK, .PIR_ERRCNT2, .PIR_EXPMON, .PIR_FBPORT]

@[simp] theorem releaseFlow_rd (f n : Nat) (s : State) (reg : Reg) (rix : Nat) (hav : avoids Foot.releaseFlow reg = true) :
    (releaseFlow f n s).rd reg rix = s.rd reg rix := by
  have c0 : avoids Foot.enqueueEgress reg = true := avoids_mono (by decide) hav
  induction n generalizing s with
  | zero => simp [releaseFlow]
  | succ n ih =>
    unfold releaseFlow
    dsimp only
    split
    · simp
    · rw [ih]
      split <;> simp -implicitDefEqProofs [*]

@[simp] theorem copyReceived_frame (src dst h : Nat) (good : Bool) (s : State) :
    (copyReceived src dst h good s).env = s.env ∧ (copyReceived src dst h good s).jrn = s.jrn ∧
    (copyReceived src dst h good s).csn = s.csn ∧ (copyReceived src dst h good s).fl = s.fl ∧
    (copyReceived src dst h good s).host = s.host ∧ (copyReceived src dst h good s).fab = s.fab ∧
    (copyReceived src dst h good s).eng = s.eng ∧ (copyReceived src dst h good s).img = s.img ∧
    (copyReceived src dst h good s).rcd = s.rcd ∧ (copyReceived src dst h good s).pmc = s.pmc ∧
    (copyReceived src dst h good s).abt = s.abt ∧ (copyReceived src dst h good s).mode = s.mode ∧
    (copyReceived src dst h good s).key = s.key ∧ (copyReceived src dst h good s).sb = s.sb ∧
    (copyReceived src dst h good s).pending = s.pending := by
  unfold copyReceived
  (repeat' split) <;> (try simp -implicitDefEqProofs (maxDischargeDepth := 6)) <;> (repeat' split) <;> simp -implicitDefEqProofs (maxDischargeDepth := 6)

def Foot.copyReceived : List Reg := [.PIR_BUFEXP, .PIR_BUFOCC, .PIR_CPLTRK, .PIR_DKSTAT, .PIR_ERRCNT2, .PIR_EXPMON, .PIR_FBPORT]

@[simp] theorem copyReceived_rd (src dst h : Nat) (good : Bool) (s : State) (reg : Reg) (rix : Nat) (hav : avoids Foot.copyReceived reg = true) :
    (copyReceived src dst h good s).rd reg rix = s.rd reg rix := by
  have c0 : avoids Foot.release reg = true := avoids_mono (by decide) hav
  have c1 : avoids Foot.answer reg = true := avoids_mono (by decide) hav
  have c2 : avoids Foot.releaseFlow reg = true := avoids_mono (by decide) hav
  have f0 : reg ≠ F.PIR_DKSTAT_BADSEQ.reg := avoids_ne (by decide) hav
  unfold copyReceived
  (repeat' split) <;> (try simp -implicitDefEqProofs (maxDischargeDepth := 6) [*]) <;> (repeat' split) <;> simp -implicitDefEqProofs (maxDischargeDepth := 6) [*]

@[simp] theorem freeCopy_frame (src h : Nat) (x : InFlight) (s : State) :
    (freeCopy src h x s).env = s.env ∧ (freeCopy src h x s).jrn = s.jrn ∧ (freeCopy src h x s).err = s.err ∧
    (freeCopy src h x s).ports = s.ports ∧ (freeCopy src h x s).csn = s.csn ∧ (freeCopy src h x s).fl = s.fl ∧
    (freeCopy src h x s).host = s.host ∧ (freeCopy src h x s).fab = s.fab ∧ (freeCopy src h x s).eng = s.eng ∧
    (freeCopy src h x s).img = s.img ∧ (freeCopy src h x s).rcd = s.rcd ∧ (freeCopy src h x s).pmc = s.pmc ∧
    (freeCopy src h x s).abt = s.abt ∧ (freeCopy src h x s).mode = s.mode ∧ (freeCopy src h x s).key = s.key ∧
    (freeCopy src h x s).sb = s.sb ∧ (freeCopy src h x s).pending = s.pending := by
  unfold freeCopy
  (repeat' split) <;> simp -implicitDefEqProofs (maxDischargeDepth := 6)

def Foot.freeCopy : List Reg := [.PIR_BUFEXP, .PIR_BUFOCC]

@[simp] theorem freeCopy_rd (src h : Nat) (x : InFlight) (s : State) (reg : Reg) (rix : Nat) (hav : avoids Foot.freeCopy reg = true) :
    (freeCopy src h x s).rd reg rix = s.rd reg rix := by
  have c0 : avoids Foot.release reg = true := avoids_mono (by decide) hav
  have c1 : avoids Foot.mcDec reg = true := avoids_mono (by decide) hav
  have c2 : avoids Foot.dropCells reg = true := avoids_mono (by decide) hav
  have c3 : avoids Foot.dropReasm reg = true := avoids_mono (by decide) hav
  unfold freeCopy
  (repeat' split) <;> simp -implicitDefEqProofs (maxDischargeDepth := 6) [*]

@[simp] theorem freeTlp_frame (src h : Nat) (x : InFlight) (s : State) :
    (freeTlp src h x s).env = s.env ∧ (freeTlp src h x s).jrn = s.jrn ∧ (freeTlp src h x s).err = s.err ∧
    (freeTlp src h x s).ports = s.ports ∧ (freeTlp src h x s).csn = s.csn ∧ (freeTlp src h x s).fl = s.fl ∧
    (freeTlp src h x s).host = s.host ∧ (freeTlp src h x s).fab = s.fab ∧ (freeTlp src h x s).eng = s.eng ∧
    (freeTlp src h x s).img = s.img ∧ (freeTlp src h x s).rcd = s.rcd ∧ (freeTlp src h x s).pmc = s.pmc ∧
    (freeTlp src h x s).abt = s.abt ∧ (freeTlp src h x s).mode = s.mode ∧ (freeTlp src h x s).key = s.key ∧
    (freeTlp src h x s).sb = s.sb ∧ (freeTlp src h x s).pending = s.pending := by
  unfold freeTlp
  (repeat' split) <;> simp -implicitDefEqProofs (maxDischargeDepth := 6)

def Foot.freeTlp : List Reg := [.PIR_BUFEXP, .PIR_BUFOCC]

@[simp] theorem freeTlp_rd (src h : Nat) (x : InFlight) (s : State) (reg : Reg) (rix : Nat) (hav : avoids Foot.freeTlp reg = true) :
    (freeTlp src h x s).rd reg rix = s.rd reg rix := by
  have c0 : avoids Foot.deckDrain reg = true := avoids_mono (by decide) hav
  have c1 : avoids Foot.freeCopy reg = true := avoids_mono (by decide) hav
  unfold freeTlp
  (repeat' split) <;> simp -implicitDefEqProofs (maxDischargeDepth := 6) [*]

@[simp] theorem remapPier_frame (m : Nat) (live : List Nat) (n : Nat) (s : State) :
    (remapPier m live n s).env = s.env ∧ (remapPier m live n s).jrn = s.jrn ∧ (remapPier m live n s).err = s.err ∧
    (remapPier m live n s).ports = s.ports ∧ (remapPier m live n s).deck = s.deck ∧ (remapPier m live n s).csn = s.csn ∧
    (remapPier m live n s).fl = s.fl ∧ (remapPier m live n s).host = s.host ∧ (remapPier m live n s).fab = s.fab ∧
    (remapPier m live n s).eng = s.eng ∧ (remapPier m live n s).img = s.img ∧ (remapPier m live n s).rcd = s.rcd ∧
    (remapPier m live n s).pmc = s.pmc ∧ (remapPier m live n s).abt = s.abt ∧ (remapPier m live n s).mode = s.mode ∧
    (remapPier m live n s).key = s.key ∧ (remapPier m live n s).sb = s.sb ∧ (remapPier m live n s).pending = s.pending := by
  unfold remapPier
  and_intros
  · refine foldl_snd_keeps _ _ _ (fun s : State => s.env) ?_
    intro a x
    split <;> simp
  · refine foldl_snd_keeps _ _ _ (fun s : State => s.jrn) ?_
    intro a x
    split <;> simp
  · refine foldl_snd_keeps _ _ _ (fun s : State => s.err) ?_
    intro a x
    split <;> simp
  · refine foldl_snd_keeps _ _ _ (fun s : State => s.ports) ?_
    intro a x
    split <;> simp
  · refine foldl_snd_keeps _ _ _ (fun s : State => s.deck) ?_
    intro a x
    split <;> simp
  · refine foldl_snd_keeps _ _ _ (fun s : State => s.csn) ?_
    intro a x
    split <;> simp
  · refine foldl_snd_keeps _ _ _ (fun s : State => s.fl) ?_
    intro a x
    split <;> simp
  · refine foldl_snd_keeps _ _ _ (fun s : State => s.host) ?_
    intro a x
    split <;> simp
  · refine foldl_snd_keeps _ _ _ (fun s : State => s.fab) ?_
    intro a x
    split <;> simp
  · refine foldl_snd_keeps _ _ _ (fun s : State => s.eng) ?_
    intro a x
    split <;> simp
  · refine foldl_snd_keeps _ _ _ (fun s : State => s.img) ?_
    intro a x
    split <;> simp
  · refine foldl_snd_keeps _ _ _ (fun s : State => s.rcd) ?_
    intro a x
    split <;> simp
  · refine foldl_snd_keeps _ _ _ (fun s : State => s.pmc) ?_
    intro a x
    split <;> simp
  · refine foldl_snd_keeps _ _ _ (fun s : State => s.abt) ?_
    intro a x
    split <;> simp
  · refine foldl_snd_keeps _ _ _ (fun s : State => s.mode) ?_
    intro a x
    split <;> simp
  · refine foldl_snd_keeps _ _ _ (fun s : State => s.key) ?_
    intro a x
    split <;> simp
  · refine foldl_snd_keeps _ _ _ (fun s : State => s.sb) ?_
    intro a x
    split <;> simp
  · refine foldl_snd_keeps _ _ _ (fun s : State => s.pending) ?_
    intro a x
    split <;> simp

def Foot.remapPier : List Reg := [.PIR_PMAP]

@[simp] theorem remapPier_rd (m : Nat) (live : List Nat) (n : Nat) (s : State) (reg : Reg) (rix : Nat) (hav : avoids Foot.remapPier reg = true) :
    (remapPier m live n s).rd reg rix = s.rd reg rix := by
  have c0 : avoids Foot.setPmapEntry reg = true := avoids_mono (by decide) hav
  unfold remapPier
  refine foldl_snd_keeps _ _ _ (fun s : State => s.rd reg rix) ?_
  intro a x
  split <;> simp [*]

@[simp] theorem remapPlane_frame (m : Nat) (s : State) :
    (remapPlane m s).env = s.env ∧ (remapPlane m s).jrn = s.jrn ∧ (remapPlane m s).err = s.err ∧
    (remapPlane m s).ports = s.ports ∧ (remapPlane m s).deck = s.deck ∧ (remapPlane m s).csn = s.csn ∧
    (remapPlane m s).fl = s.fl ∧ (remapPlane m s).host = s.host ∧ (remapPlane m s).fab = s.fab ∧
    (remapPlane m s).eng = s.eng ∧ (remapPlane m s).img = s.img ∧ (remapPlane m s).rcd = s.rcd ∧
    (remapPlane m s).pmc = s.pmc ∧ (remapPlane m s).abt = s.abt ∧ (remapPlane m s).mode = s.mode ∧
    (remapPlane m s).key = s.key ∧ (remapPlane m s).sb = s.sb ∧ (remapPlane m s).pending = s.pending := by
  and_intros <;>
  · unfold remapPlane
    simp

def Foot.remapPlane : List Reg := [.PIR_PMAP]

@[simp] theorem remapPlane_rd (m : Nat) (s : State) (reg : Reg) (rix : Nat) (hav : avoids Foot.remapPlane reg = true) :
    (remapPlane m s).rd reg rix = s.rd reg rix := by
  have c0 : avoids Foot.remapPier reg = true := avoids_mono (by decide) hav
  unfold remapPlane
  (repeat' split) <;> simp -implicitDefEqProofs (maxDischargeDepth := 6) [*]

@[simp] theorem resendAll_frame (t : Nat → InFlight → Bool) (s : State) :
    (resendAll t s).env = s.env ∧ (resendAll t s).jrn = s.jrn ∧ (resendAll t s).ports = s.ports ∧
    (resendAll t s).csn = s.csn ∧ (resendAll t s).fl = s.fl ∧ (resendAll t s).host = s.host ∧ (resendAll t s).fab = s.fab ∧
    (resendAll t s).eng = s.eng ∧ (resendAll t s).img = s.img ∧ (resendAll t s).rcd = s.rcd ∧ (resendAll t s).pmc = s.pmc ∧
    (resendAll t s).abt = s.abt ∧ (resendAll t s).mode = s.mode ∧ (resendAll t s).key = s.key ∧ (resendAll t s).sb = s.sb ∧
    (resendAll t s).pending = s.pending := by
  unfold resendAll
  (repeat' split) <;> simp -implicitDefEqProofs (maxDischargeDepth := 6)

def Foot.resendAll : List Reg := [.PIR_BUFEXP, .PIR_BUFOCC, .PIR_DKSTAT, .PIR_ERRCNT2]

@[simp] theorem resendAll_rd (t : Nat → InFlight → Bool) (s : State) (reg : Reg) (rix : Nat) (hav : avoids Foot.resendAll reg = true) :
    (resendAll t s).rd reg rix = s.rd reg rix := by
  have c0 : avoids Foot.resendOrVoid reg = true := avoids_mono (by decide) hav
  unfold resendAll
  (repeat' split) <;> simp -implicitDefEqProofs (maxDischargeDepth := 6) [*]

@[simp] theorem planeFailCore_frame (m cause : Nat) (s : State) :
    (planeFailCore m cause s).env = s.env ∧ (planeFailCore m cause s).jrn = s.jrn ∧
    (planeFailCore m cause s).ports = s.ports ∧ (planeFailCore m cause s).csn = s.csn ∧
    (planeFailCore m cause s).fl = s.fl ∧ (planeFailCore m cause s).host = s.host ∧ (planeFailCore m cause s).fab = s.fab ∧
    (planeFailCore m cause s).eng = s.eng ∧ (planeFailCore m cause s).img = s.img ∧ (planeFailCore m cause s).rcd = s.rcd ∧
    (planeFailCore m cause s).pmc = s.pmc ∧ (planeFailCore m cause s).abt = s.abt ∧
    (planeFailCore m cause s).mode = s.mode ∧ (planeFailCore m cause s).key = s.key ∧ (planeFailCore m cause s).sb = s.sb ∧
    (planeFailCore m cause s).pending = s.pending := by
  unfold planeFailCore
  (repeat' split) <;> simp -implicitDefEqProofs (maxDischargeDepth := 6)

def Foot.planeFailCore : List Reg := [.DCK_STAT, .GLB_PLANES, .PIR_BUFEXP, .PIR_BUFOCC, .PIR_DKSTAT, .PIR_ERRCNT2, .PIR_PMAP]

@[simp] theorem planeFailCore_rd (m cause : Nat) (s : State) (reg : Reg) (rix : Nat) (hav : avoids Foot.planeFailCore reg = true) :
    (planeFailCore m cause s).rd reg rix = s.rd reg rix := by
  have c0 : avoids Foot.pushRec reg = true := avoids_mono (by decide) hav
  have c1 : avoids Foot.setPlane reg = true := avoids_mono (by decide) hav
  have c2 : avoids Foot.remapPlane reg = true := avoids_mono (by decide) hav
  have c3 : avoids Foot.resendAll reg = true := avoids_mono (by decide) hav
  have f0 : reg ≠ F.DCK_STAT_CAUSE.reg := avoids_ne (by decide) hav
  unfold planeFailCore
  (repeat' split) <;> simp -implicitDefEqProofs (maxDischargeDepth := 6) [*]

@[simp] theorem moveUnsent_frame (m : Nat) (s : State) :
    (moveUnsent m s).env = s.env ∧ (moveUnsent m s).jrn = s.jrn ∧ (moveUnsent m s).ports = s.ports ∧
    (moveUnsent m s).csn = s.csn ∧ (moveUnsent m s).fl = s.fl ∧ (moveUnsent m s).host = s.host ∧
    (moveUnsent m s).fab = s.fab ∧ (moveUnsent m s).eng = s.eng ∧ (moveUnsent m s).img = s.img ∧
    (moveUnsent m s).rcd = s.rcd ∧ (moveUnsent m s).pmc = s.pmc ∧ (moveUnsent m s).abt = s.abt ∧
    (moveUnsent m s).mode = s.mode ∧ (moveUnsent m s).key = s.key ∧ (moveUnsent m s).sb = s.sb ∧
    (moveUnsent m s).pending = s.pending := by
  unfold moveUnsent
  (repeat' split) <;> simp -implicitDefEqProofs (maxDischargeDepth := 6)

def Foot.moveUnsent : List Reg := [.PIR_BUFEXP, .PIR_BUFOCC, .PIR_DKSTAT, .PIR_ERRCNT2]

@[simp] theorem moveUnsent_rd (m : Nat) (s : State) (reg : Reg) (rix : Nat) (hav : avoids Foot.moveUnsent reg = true) :
    (moveUnsent m s).rd reg rix = s.rd reg rix := by
  have c0 : avoids Foot.resendAll reg = true := avoids_mono (by decide) hav
  unfold moveUnsent
  (repeat' split) <;> simp -implicitDefEqProofs (maxDischargeDepth := 6) [*]

@[simp] theorem drainIfEmpty_frame (m : Nat) (s : State) :
    (drainIfEmpty m s).env = s.env ∧ (drainIfEmpty m s).jrn = s.jrn ∧ (drainIfEmpty m s).err = s.err ∧
    (drainIfEmpty m s).ports = s.ports ∧ (drainIfEmpty m s).deck = s.deck ∧ (drainIfEmpty m s).csn = s.csn ∧
    (drainIfEmpty m s).fl = s.fl ∧ (drainIfEmpty m s).host = s.host ∧ (drainIfEmpty m s).fab = s.fab ∧
    (drainIfEmpty m s).eng = s.eng ∧ (drainIfEmpty m s).img = s.img ∧ (drainIfEmpty m s).rcd = s.rcd ∧
    (drainIfEmpty m s).pmc = s.pmc ∧ (drainIfEmpty m s).abt = s.abt ∧ (drainIfEmpty m s).mode = s.mode ∧
    (drainIfEmpty m s).key = s.key ∧ (drainIfEmpty m s).sb = s.sb ∧ (drainIfEmpty m s).pending = s.pending := by
  unfold drainIfEmpty
  (repeat' split) <;> simp -implicitDefEqProofs (maxDischargeDepth := 6)

def Foot.drainIfEmpty : List Reg := [.DCK_STAT, .GLB_PLANES]

@[simp] theorem drainIfEmpty_rd (m : Nat) (s : State) (reg : Reg) (rix : Nat) (hav : avoids Foot.drainIfEmpty reg = true) :
    (drainIfEmpty m s).rd reg rix = s.rd reg rix := by
  have c0 : avoids Foot.setPlane reg = true := avoids_mono (by decide) hav
  unfold drainIfEmpty
  (repeat' split) <;> simp -implicitDefEqProofs (maxDischargeDepth := 6) [*]

@[simp] theorem stopFlows_frame (p : Nat) (s : State) :
    (stopFlows p s).env = s.env ∧ (stopFlows p s).jrn = s.jrn ∧ (stopFlows p s).err = s.err ∧
    (stopFlows p s).ports = s.ports ∧ (stopFlows p s).csn = s.csn ∧ (stopFlows p s).fl = s.fl ∧
    (stopFlows p s).host = s.host ∧ (stopFlows p s).fab = s.fab ∧ (stopFlows p s).eng = s.eng ∧
    (stopFlows p s).img = s.img ∧ (stopFlows p s).rcd = s.rcd ∧ (stopFlows p s).pmc = s.pmc ∧ (stopFlows p s).abt = s.abt ∧
    (stopFlows p s).mode = s.mode ∧ (stopFlows p s).key = s.key ∧ (stopFlows p s).sb = s.sb ∧
    (stopFlows p s).pending = s.pending := by
  unfold stopFlows
  (repeat' split) <;> simp -implicitDefEqProofs (maxDischargeDepth := 6)

def Foot.stopFlows : List Reg := []

@[simp] theorem stopFlows_rd (p : Nat) (s : State) (reg : Reg) (rix : Nat) (hav : avoids Foot.stopFlows reg = true) :
    (stopFlows p s).rd reg rix = s.rd reg rix := by
  unfold stopFlows
  (repeat' split) <;> simp -implicitDefEqProofs (maxDischargeDepth := 6) [*]

@[simp] theorem drainCopy_frame (p : Nat) (e : Nat × InFlight) (s : State) :
    (drainCopy p e s).env = s.env ∧ (drainCopy p e s).jrn = s.jrn ∧ (drainCopy p e s).err = s.err ∧
    (drainCopy p e s).ports = s.ports ∧ (drainCopy p e s).csn = s.csn ∧ (drainCopy p e s).fl = s.fl ∧
    (drainCopy p e s).host = s.host ∧ (drainCopy p e s).fab = s.fab ∧ (drainCopy p e s).eng = s.eng ∧
    (drainCopy p e s).img = s.img ∧ (drainCopy p e s).rcd = s.rcd ∧ (drainCopy p e s).pmc = s.pmc ∧
    (drainCopy p e s).abt = s.abt ∧ (drainCopy p e s).mode = s.mode ∧ (drainCopy p e s).key = s.key ∧
    (drainCopy p e s).sb = s.sb ∧ (drainCopy p e s).pending = s.pending := by
  unfold drainCopy
  (repeat' split) <;> simp -implicitDefEqProofs (maxDischargeDepth := 6)

def Foot.drainCopy : List Reg := [.PIR_BUFEXP, .PIR_BUFOCC]

@[simp] theorem drainCopy_rd (p : Nat) (e : Nat × InFlight) (s : State) (reg : Reg) (rix : Nat) (hav : avoids Foot.drainCopy reg = true) :
    (drainCopy p e s).rd reg rix = s.rd reg rix := by
  have c0 : avoids Foot.charge reg = true := avoids_mono (by decide) hav
  have c1 : avoids Foot.release reg = true := avoids_mono (by decide) hav
  have c2 : avoids Foot.setInfl reg = true := avoids_mono (by decide) hav
  have c3 : avoids Foot.freeCopy reg = true := avoids_mono (by decide) hav
  unfold drainCopy
  (repeat' split) <;> simp -implicitDefEqProofs (maxDischargeDepth := 6) [*]

@[simp] theorem drainWaiting_frame (p : Nat) (c : Carried) (s : State) :
    ((drainWaiting p c s)).1.env = s.env ∧ ((drainWaiting p c s)).1.jrn = s.jrn ∧ ((drainWaiting p c s)).1.err = s.err ∧
    ((drainWaiting p c s)).1.ports = s.ports ∧ ((drainWaiting p c s)).1.csn = s.csn ∧ ((drainWaiting p c s)).1.fl = s.fl ∧
    ((drainWaiting p c s)).1.host = s.host ∧ ((drainWaiting p c s)).1.fab = s.fab ∧ ((drainWaiting p c s)).1.eng = s.eng ∧
    ((drainWaiting p c s)).1.img = s.img ∧ ((drainWaiting p c s)).1.rcd = s.rcd ∧ ((drainWaiting p c s)).1.pmc = s.pmc ∧
    ((drainWaiting p c s)).1.abt = s.abt ∧ ((drainWaiting p c s)).1.mode = s.mode ∧ ((drainWaiting p c s)).1.key = s.key ∧
    ((drainWaiting p c s)).1.sb = s.sb ∧ ((drainWaiting p c s)).1.pending = s.pending := by
  unfold drainWaiting
  (repeat' split) <;> (try simp -implicitDefEqProofs (maxDischargeDepth := 6)) <;> (repeat' split) <;> simp -implicitDefEqProofs (maxDischargeDepth := 6)

def Foot.drainWaiting : List Reg := [.PIR_BUFEXP, .PIR_BUFOCC]

@[simp] theorem drainWaiting_rd (p : Nat) (c : Carried) (s : State) (reg : Reg) (rix : Nat) (hav : avoids Foot.drainWaiting reg = true) :
    ((drainWaiting p c s)).1.rd reg rix = s.rd reg rix := by
  have c0 : avoids Foot.release reg = true := avoids_mono (by decide) hav
  have c1 : avoids Foot.mcDec reg = true := avoids_mono (by decide) hav
  unfold drainWaiting
  (repeat' split) <;> (try simp -implicitDefEqProofs (maxDischargeDepth := 6) [*]) <;> (repeat' split) <;> simp -implicitDefEqProofs (maxDischargeDepth := 6) [*]

@[simp] theorem drainWaits_frame (p : Nat) (l kept : List Carried) (s : State) :
    ((drainWaits p l kept s)).1.env = s.env ∧ ((drainWaits p l kept s)).1.jrn = s.jrn ∧
    ((drainWaits p l kept s)).1.err = s.err ∧ ((drainWaits p l kept s)).1.ports = s.ports ∧
    ((drainWaits p l kept s)).1.csn = s.csn ∧ ((drainWaits p l kept s)).1.fl = s.fl ∧
    ((drainWaits p l kept s)).1.host = s.host ∧ ((drainWaits p l kept s)).1.fab = s.fab ∧
    ((drainWaits p l kept s)).1.eng = s.eng ∧ ((drainWaits p l kept s)).1.img = s.img ∧
    ((drainWaits p l kept s)).1.rcd = s.rcd ∧ ((drainWaits p l kept s)).1.pmc = s.pmc ∧
    ((drainWaits p l kept s)).1.abt = s.abt ∧ ((drainWaits p l kept s)).1.mode = s.mode ∧
    ((drainWaits p l kept s)).1.key = s.key ∧ ((drainWaits p l kept s)).1.sb = s.sb ∧
    ((drainWaits p l kept s)).1.pending = s.pending := by
  induction l generalizing kept s with
  | nil => simp [drainWaits]
  | cons c l ih =>
    unfold drainWaits
    simp -implicitDefEqProofs [ih]

def Foot.drainWaits : List Reg := [.PIR_BUFEXP, .PIR_BUFOCC]

@[simp] theorem drainWaits_rd (p : Nat) (l kept : List Carried) (s : State) (reg : Reg) (rix : Nat) (hav : avoids Foot.drainWaits reg = true) :
    ((drainWaits p l kept s)).1.rd reg rix = s.rd reg rix := by
  have c0 : avoids Foot.drainWaiting reg = true := avoids_mono (by decide) hav
  induction l generalizing kept s with
  | nil => simp [drainWaits]
  | cons c l ih =>
    unfold drainWaits
    simp -implicitDefEqProofs [ih, *]

@[simp] theorem drainFlows_frame (p : Nat) (s : State) :
    (drainFlows p s).env = s.env ∧ (drainFlows p s).jrn = s.jrn ∧ (drainFlows p s).err = s.err ∧
    (drainFlows p s).ports = s.ports ∧ (drainFlows p s).csn = s.csn ∧ (drainFlows p s).fl = s.fl ∧
    (drainFlows p s).host = s.host ∧ (drainFlows p s).fab = s.fab ∧ (drainFlows p s).eng = s.eng ∧
    (drainFlows p s).img = s.img ∧ (drainFlows p s).rcd = s.rcd ∧ (drainFlows p s).pmc = s.pmc ∧
    (drainFlows p s).abt = s.abt ∧ (drainFlows p s).mode = s.mode ∧ (drainFlows p s).key = s.key ∧
    (drainFlows p s).sb = s.sb ∧ (drainFlows p s).pending = s.pending := by
  unfold drainFlows
  simp -implicitDefEqProofs (maxDischargeDepth := 6)

def Foot.drainFlows : List Reg := [.PIR_BUFEXP, .PIR_BUFOCC]

@[simp] theorem drainFlows_rd (p : Nat) (s : State) (reg : Reg) (rix : Nat) (hav : avoids Foot.drainFlows reg = true) :
    (drainFlows p s).rd reg rix = s.rd reg rix := by
  have c0 : avoids Foot.releaseEgress reg = true := avoids_mono (by decide) hav
  have c1 : avoids Foot.deckDrain reg = true := avoids_mono (by decide) hav
  have c2 : avoids Foot.drainCopy reg = true := avoids_mono (by decide) hav
  have c3 : avoids Foot.drainWaits reg = true := avoids_mono (by decide) hav
  unfold drainFlows
  simp -implicitDefEqProofs (maxDischargeDepth := 6) [*]

@[simp] theorem restLane_frame (i : Nat) (s : State) :
    (restLane i s).env = s.env ∧ (restLane i s).jrn = s.jrn ∧ (restLane i s).err = s.err ∧ (restLane i s).ports = s.ports ∧
    (restLane i s).deck = s.deck ∧ (restLane i s).csn = s.csn ∧ (restLane i s).fl = s.fl ∧ (restLane i s).host = s.host ∧
    (restLane i s).fab = s.fab ∧ (restLane i s).eng = s.eng ∧ (restLane i s).img = s.img ∧ (restLane i s).rcd = s.rcd ∧
    (restLane i s).pmc = s.pmc ∧ (restLane i s).abt = s.abt ∧ (restLane i s).mode = s.mode ∧ (restLane i s).key = s.key ∧
    (restLane i s).sb = s.sb ∧ (restLane i s).pending = s.pending := by
  unfold restLane
  (repeat' split) <;> simp -implicitDefEqProofs (maxDischargeDepth := 6)

def Foot.restLane : List Reg := [.SPN_LANE]

@[simp] theorem restLane_rd (i : Nat) (s : State) (reg : Reg) (rix : Nat) (hav : avoids Foot.restLane reg = true) :
    (restLane i s).rd reg rix = s.rd reg rix := by
  have f0 : reg ≠ F.SPN_LANE_LOCK.reg := avoids_ne (by decide) hav
  have f1 : reg ≠ F.SPN_LANE_POLINV.reg := avoids_ne (by decide) hav
  have f2 : reg ≠ F.SPN_LANE_ROLE.reg := avoids_ne (by decide) hav
  unfold restLane
  (repeat' split) <;> simp -implicitDefEqProofs (maxDischargeDepth := 6) [*]

@[simp] theorem openLane_frame (i : Nat) (inverted : Bool) (s : State) :
    (openLane i inverted s).env = s.env ∧ (openLane i inverted s).jrn = s.jrn ∧ (openLane i inverted s).err = s.err ∧
    (openLane i inverted s).ports = s.ports ∧ (openLane i inverted s).deck = s.deck ∧ (openLane i inverted s).csn = s.csn ∧
    (openLane i inverted s).fl = s.fl ∧ (openLane i inverted s).host = s.host ∧ (openLane i inverted s).fab = s.fab ∧
    (openLane i inverted s).eng = s.eng ∧ (openLane i inverted s).img = s.img ∧ (openLane i inverted s).rcd = s.rcd ∧
    (openLane i inverted s).pmc = s.pmc ∧ (openLane i inverted s).abt = s.abt ∧ (openLane i inverted s).mode = s.mode ∧
    (openLane i inverted s).key = s.key ∧ (openLane i inverted s).sb = s.sb ∧ (openLane i inverted s).pending = s.pending := by
  unfold openLane
  (repeat' split) <;> simp -implicitDefEqProofs (maxDischargeDepth := 6)

def Foot.openLane : List Reg := [.SPN_LANE]

@[simp] theorem openLane_rd (i : Nat) (inverted : Bool) (s : State) (reg : Reg) (rix : Nat) (hav : avoids Foot.openLane reg = true) :
    (openLane i inverted s).rd reg rix = s.rd reg rix := by
  have f0 : reg ≠ F.SPN_LANE_LOCK.reg := avoids_ne (by decide) hav
  have f1 : reg ≠ F.SPN_LANE_POLINV.reg := avoids_ne (by decide) hav
  have f2 : reg ≠ F.SPN_LANE_ROLE.reg := avoids_ne (by decide) hav
  unfold openLane
  (repeat' split) <;> simp -implicitDefEqProofs (maxDischargeDepth := 6) [*]

@[simp] theorem trainLanes_frame (p w : Nat) (reversed : Bool) (inverted : List Bool) (s : State) :
    (trainLanes p w reversed inverted s).env = s.env ∧ (trainLanes p w reversed inverted s).jrn = s.jrn ∧
    (trainLanes p w reversed inverted s).err = s.err ∧ (trainLanes p w reversed inverted s).ports = s.ports ∧
    (trainLanes p w reversed inverted s).deck = s.deck ∧ (trainLanes p w reversed inverted s).csn = s.csn ∧
    (trainLanes p w reversed inverted s).fl = s.fl ∧ (trainLanes p w reversed inverted s).host = s.host ∧
    (trainLanes p w reversed inverted s).fab = s.fab ∧ (trainLanes p w reversed inverted s).eng = s.eng ∧
    (trainLanes p w reversed inverted s).img = s.img ∧ (trainLanes p w reversed inverted s).rcd = s.rcd ∧
    (trainLanes p w reversed inverted s).pmc = s.pmc ∧ (trainLanes p w reversed inverted s).abt = s.abt ∧
    (trainLanes p w reversed inverted s).mode = s.mode ∧ (trainLanes p w reversed inverted s).key = s.key ∧
    (trainLanes p w reversed inverted s).sb = s.sb ∧ (trainLanes p w reversed inverted s).pending = s.pending := by
  unfold trainLanes
  simp -implicitDefEqProofs (maxDischargeDepth := 6)
  repeat' apply And.intro
  all_goals (intros; repeat' split) <;> simp -implicitDefEqProofs (maxDischargeDepth := 6)

def Foot.trainLanes : List Reg := [.SPN_LANE]

@[simp] theorem trainLanes_rd (p w : Nat) (reversed : Bool) (inverted : List Bool) (s : State) (reg : Reg) (rix : Nat) (hav : avoids Foot.trainLanes reg = true) :
    (trainLanes p w reversed inverted s).rd reg rix = s.rd reg rix := by
  have c0 : avoids Foot.restLane reg = true := avoids_mono (by decide) hav
  have c1 : avoids Foot.openLane reg = true := avoids_mono (by decide) hav
  unfold trainLanes
  (repeat' split) <;> simp -implicitDefEqProofs (maxDischargeDepth := 6) [*]

@[simp] theorem linkGone_frame (p : Nat) (s : State) :
    (linkGone p s).env = s.env ∧ (linkGone p s).jrn = s.jrn ∧ (linkGone p s).err = s.err ∧ (linkGone p s).deck = s.deck ∧
    (linkGone p s).csn = s.csn ∧ (linkGone p s).fl = s.fl ∧ (linkGone p s).host = s.host ∧ (linkGone p s).fab = s.fab ∧
    (linkGone p s).eng = s.eng ∧ (linkGone p s).img = s.img ∧ (linkGone p s).rcd = s.rcd ∧ (linkGone p s).pmc = s.pmc ∧
    (linkGone p s).abt = s.abt ∧ (linkGone p s).mode = s.mode ∧ (linkGone p s).key = s.key ∧ (linkGone p s).sb = s.sb ∧
    (linkGone p s).pending = s.pending := by
  unfold linkGone
  (repeat' split) <;> simp -implicitDefEqProofs (maxDischargeDepth := 6)

def Foot.linkGone : List Reg := [.SPN_PSTAT]

@[simp] theorem linkGone_rd (p : Nat) (s : State) (reg : Reg) (rix : Nat) (hav : avoids Foot.linkGone reg = true) :
    (linkGone p s).rd reg rix = s.rd reg rix := by
  have c0 : avoids Foot.setRate reg = true := avoids_mono (by decide) hav
  have f0 : reg ≠ F.SPN_PSTAT_FLIT.reg := avoids_ne (by decide) hav
  have f1 : reg ≠ F.SPN_PSTAT_LINKUP.reg := avoids_ne (by decide) hav
  have f2 : reg ≠ F.SPN_PSTAT_PMSTATE.reg := avoids_ne (by decide) hav
  have f3 : reg ≠ F.SPN_PSTAT_REVERSED.reg := avoids_ne (by decide) hav
  unfold linkGone
  (repeat' split) <;> simp -implicitDefEqProofs (maxDischargeDepth := 6) [*]

@[simp] theorem cfgSet_frame (v fn off : Nat) (w : Word) (s : State) :
    (cfgSet v fn off w s).env = s.env ∧ (cfgSet v fn off w s).jrn = s.jrn ∧ (cfgSet v fn off w s).err = s.err ∧
    (cfgSet v fn off w s).ports = s.ports ∧ (cfgSet v fn off w s).deck = s.deck ∧ (cfgSet v fn off w s).csn = s.csn ∧
    (cfgSet v fn off w s).fl = s.fl ∧ (cfgSet v fn off w s).fab = s.fab ∧ (cfgSet v fn off w s).eng = s.eng ∧
    (cfgSet v fn off w s).img = s.img ∧ (cfgSet v fn off w s).rcd = s.rcd ∧ (cfgSet v fn off w s).pmc = s.pmc ∧
    (cfgSet v fn off w s).abt = s.abt ∧ (cfgSet v fn off w s).mode = s.mode ∧ (cfgSet v fn off w s).key = s.key ∧
    (cfgSet v fn off w s).sb = s.sb ∧ (cfgSet v fn off w s).pending = s.pending := by
  unfold cfgSet
  (repeat' split) <;> simp -implicitDefEqProofs (maxDischargeDepth := 6)

def Foot.cfgSet : List Reg := []

@[simp] theorem cfgSet_rd (v fn off : Nat) (w : Word) (s : State) (reg : Reg) (rix : Nat) (hav : avoids Foot.cfgSet reg = true) :
    (cfgSet v fn off w s).rd reg rix = s.rd reg rix := by
  unfold cfgSet
  (repeat' split) <;> simp -implicitDefEqProofs (maxDischargeDepth := 6) [*]

@[simp] theorem cfgSetF_frame (v fn off hi lo val : Nat) (s : State) :
    (cfgSetF v fn off hi lo val s).env = s.env ∧ (cfgSetF v fn off hi lo val s).jrn = s.jrn ∧
    (cfgSetF v fn off hi lo val s).err = s.err ∧ (cfgSetF v fn off hi lo val s).ports = s.ports ∧
    (cfgSetF v fn off hi lo val s).deck = s.deck ∧ (cfgSetF v fn off hi lo val s).csn = s.csn ∧
    (cfgSetF v fn off hi lo val s).fl = s.fl ∧ (cfgSetF v fn off hi lo val s).fab = s.fab ∧
    (cfgSetF v fn off hi lo val s).eng = s.eng ∧ (cfgSetF v fn off hi lo val s).img = s.img ∧
    (cfgSetF v fn off hi lo val s).rcd = s.rcd ∧ (cfgSetF v fn off hi lo val s).pmc = s.pmc ∧
    (cfgSetF v fn off hi lo val s).abt = s.abt ∧ (cfgSetF v fn off hi lo val s).mode = s.mode ∧
    (cfgSetF v fn off hi lo val s).key = s.key ∧ (cfgSetF v fn off hi lo val s).sb = s.sb ∧
    (cfgSetF v fn off hi lo val s).pending = s.pending := by
  unfold cfgSetF
  (repeat' split) <;> simp -implicitDefEqProofs (maxDischargeDepth := 6)

def Foot.cfgSetF : List Reg := []

@[simp] theorem cfgSetF_rd (v fn off hi lo val : Nat) (s : State) (reg : Reg) (rix : Nat) (hav : avoids Foot.cfgSetF reg = true) :
    (cfgSetF v fn off hi lo val s).rd reg rix = s.rd reg rix := by
  have c0 : avoids Foot.cfgSet reg = true := avoids_mono (by decide) hav
  unfold cfgSetF
  (repeat' split) <;> simp -implicitDefEqProofs (maxDischargeDepth := 6) [*]

@[simp] theorem setCapF_frame (v fn : Nat) (c : CfgCap) (rel hi lo val : Nat) (s : State) :
    (setCapF v fn c rel hi lo val s).env = s.env ∧ (setCapF v fn c rel hi lo val s).jrn = s.jrn ∧
    (setCapF v fn c rel hi lo val s).err = s.err ∧ (setCapF v fn c rel hi lo val s).ports = s.ports ∧
    (setCapF v fn c rel hi lo val s).deck = s.deck ∧ (setCapF v fn c rel hi lo val s).csn = s.csn ∧
    (setCapF v fn c rel hi lo val s).fl = s.fl ∧ (setCapF v fn c rel hi lo val s).fab = s.fab ∧
    (setCapF v fn c rel hi lo val s).eng = s.eng ∧ (setCapF v fn c rel hi lo val s).img = s.img ∧
    (setCapF v fn c rel hi lo val s).rcd = s.rcd ∧ (setCapF v fn c rel hi lo val s).pmc = s.pmc ∧
    (setCapF v fn c rel hi lo val s).abt = s.abt ∧ (setCapF v fn c rel hi lo val s).mode = s.mode ∧
    (setCapF v fn c rel hi lo val s).key = s.key ∧ (setCapF v fn c rel hi lo val s).sb = s.sb ∧
    (setCapF v fn c rel hi lo val s).pending = s.pending := by
  unfold setCapF
  (repeat' split) <;> simp -implicitDefEqProofs (maxDischargeDepth := 6)

def Foot.setCapF : List Reg := []

@[simp] theorem setCapF_rd (v fn : Nat) (c : CfgCap) (rel hi lo val : Nat) (s : State) (reg : Reg) (rix : Nat) (hav : avoids Foot.setCapF reg = true) :
    (setCapF v fn c rel hi lo val s).rd reg rix = s.rd reg rix := by
  have c0 : avoids Foot.cfgSetF reg = true := avoids_mono (by decide) hav
  unfold setCapF
  (repeat' split) <;> simp -implicitDefEqProofs (maxDischargeDepth := 6) [*]

@[simp] theorem inject_frame (c : Carried) (s : State) :
    (inject c s).env = s.env ∧ (inject c s).jrn = s.jrn ∧ (inject c s).csn = s.csn ∧ (inject c s).fl = s.fl ∧
    (inject c s).host = s.host ∧ (inject c s).fab = s.fab ∧ (inject c s).eng = s.eng ∧ (inject c s).img = s.img ∧
    (inject c s).rcd = s.rcd ∧ (inject c s).pmc = s.pmc ∧ (inject c s).abt = s.abt ∧ (inject c s).mode = s.mode ∧
    (inject c s).key = s.key ∧ (inject c s).sb = s.sb ∧ (inject c s).pending = s.pending := by
  unfold inject
  (repeat' split) <;> simp -implicitDefEqProofs (maxDischargeDepth := 6)

def Foot.inject : List Reg := [.PIR_BUFEXP, .PIR_BUFOCC, .PIR_CPLTRK, .PIR_ERRCNT2, .PIR_EXPMON, .PIR_FBPORT]

@[simp] theorem inject_rd (c : Carried) (s : State) (reg : Reg) (rix : Nat) (hav : avoids Foot.inject reg = true) :
    (inject c s).rd reg rix = s.rd reg rix := by
  have c0 : avoids Foot.charge reg = true := avoids_mono (by decide) hav
  have c1 : avoids Foot.enqueueEgress reg = true := avoids_mono (by decide) hav
  unfold inject
  (repeat' split) <;> simp -implicitDefEqProofs (maxDischargeDepth := 6) [*]

@[simp] theorem unproxy_frame (t : Tlp) (s : State) :
    ((unproxy t s)).2.env = s.env ∧ ((unproxy t s)).2.jrn = s.jrn ∧ ((unproxy t s)).2.err = s.err ∧
    ((unproxy t s)).2.ports = s.ports ∧ ((unproxy t s)).2.deck = s.deck ∧ ((unproxy t s)).2.csn = s.csn ∧
    ((unproxy t s)).2.fl = s.fl ∧ ((unproxy t s)).2.fab = s.fab ∧ ((unproxy t s)).2.eng = s.eng ∧
    ((unproxy t s)).2.img = s.img ∧ ((unproxy t s)).2.rcd = s.rcd ∧ ((unproxy t s)).2.pmc = s.pmc ∧
    ((unproxy t s)).2.abt = s.abt ∧ ((unproxy t s)).2.mode = s.mode ∧ ((unproxy t s)).2.key = s.key ∧
    ((unproxy t s)).2.sb = s.sb ∧ ((unproxy t s)).2.pending = s.pending := by
  unfold unproxy
  (repeat' split) <;> simp -implicitDefEqProofs (maxDischargeDepth := 6)

def Foot.unproxy : List Reg := []

@[simp] theorem unproxy_rd (t : Tlp) (s : State) (reg : Reg) (rix : Nat) (hav : avoids Foot.unproxy reg = true) :
    ((unproxy t s)).2.rd reg rix = s.rd reg rix := by
  unfold unproxy
  (repeat' split) <;> simp -implicitDefEqProofs (maxDischargeDepth := 6) [*]

@[simp] theorem track_frame (p : Nat) (e : Trk) (s : State) :
    (track p e s).env = s.env ∧ (track p e s).jrn = s.jrn ∧ (track p e s).err = s.err ∧ (track p e s).deck = s.deck ∧
    (track p e s).csn = s.csn ∧ (track p e s).fl = s.fl ∧ (track p e s).host = s.host ∧ (track p e s).fab = s.fab ∧
    (track p e s).eng = s.eng ∧ (track p e s).img = s.img ∧ (track p e s).rcd = s.rcd ∧ (track p e s).pmc = s.pmc ∧
    (track p e s).abt = s.abt ∧ (track p e s).mode = s.mode ∧ (track p e s).key = s.key ∧ (track p e s).sb = s.sb ∧
    (track p e s).pending = s.pending := by
  unfold track
  (repeat' split) <;> simp -implicitDefEqProofs (maxDischargeDepth := 6)

def Foot.track : List Reg := [.PIR_CPLTRK]

@[simp] theorem track_rd (p : Nat) (e : Trk) (s : State) (reg : Reg) (rix : Nat) (hav : avoids Foot.track reg = true) :
    (track p e s).rd reg rix = s.rd reg rix := by
  have f0 : reg ≠ F.PIR_CPLTRK_USED.reg := avoids_ne (by decide) hav
  unfold track
  (repeat' split) <;> simp -implicitDefEqProofs (maxDischargeDepth := 6) [*]

@[simp] theorem untrack_frame (p : Nat) (e : Trk) (s : State) :
    (untrack p e s).env = s.env ∧ (untrack p e s).jrn = s.jrn ∧ (untrack p e s).err = s.err ∧
    (untrack p e s).deck = s.deck ∧ (untrack p e s).csn = s.csn ∧ (untrack p e s).fl = s.fl ∧
    (untrack p e s).host = s.host ∧ (untrack p e s).fab = s.fab ∧ (untrack p e s).eng = s.eng ∧
    (untrack p e s).img = s.img ∧ (untrack p e s).rcd = s.rcd ∧ (untrack p e s).pmc = s.pmc ∧ (untrack p e s).abt = s.abt ∧
    (untrack p e s).mode = s.mode ∧ (untrack p e s).key = s.key ∧ (untrack p e s).sb = s.sb ∧
    (untrack p e s).pending = s.pending := by
  unfold untrack
  (repeat' split) <;> simp -implicitDefEqProofs (maxDischargeDepth := 6)

def Foot.untrack : List Reg := [.PIR_CPLTRK]

@[simp] theorem untrack_rd (p : Nat) (e : Trk) (s : State) (reg : Reg) (rix : Nat) (hav : avoids Foot.untrack reg = true) :
    (untrack p e s).rd reg rix = s.rd reg rix := by
  have f0 : reg ≠ F.PIR_CPLTRK_USED.reg := avoids_ne (by decide) hav
  unfold untrack
  (repeat' split) <;> simp -implicitDefEqProofs (maxDischargeDepth := 6) [*]

@[simp] theorem sendCplAs_frame (cid : Nat) (req : Tlp) (inP vs tenant : Nat) (fab : Option FabHdr) (status : Nat) (data : List Byte) (bcount laddr : Nat) (ep : Bool) (s : State) :
    (sendCplAs cid req inP vs tenant fab status data bcount laddr ep s).env = s.env ∧
    (sendCplAs cid req inP vs tenant fab status data bcount laddr ep s).jrn = s.jrn ∧
    (sendCplAs cid req inP vs tenant fab status data bcount laddr ep s).csn = s.csn ∧
    (sendCplAs cid req inP vs tenant fab status data bcount laddr ep s).fl = s.fl ∧
    (sendCplAs cid req inP vs tenant fab status data bcount laddr ep s).fab = s.fab ∧
    (sendCplAs cid req inP vs tenant fab status data bcount laddr ep s).eng = s.eng ∧
    (sendCplAs cid req inP vs tenant fab status data bcount laddr ep s).img = s.img ∧
    (sendCplAs cid req inP vs tenant fab status data bcount laddr ep s).rcd = s.rcd ∧
    (sendCplAs cid req inP vs tenant fab status data bcount laddr ep s).pmc = s.pmc ∧
    (sendCplAs cid req inP vs tenant fab status data bcount laddr ep s).abt = s.abt ∧
    (sendCplAs cid req inP vs tenant fab status data bcount laddr ep s).mode = s.mode ∧
    (sendCplAs cid req inP vs tenant fab status data bcount laddr ep s).key = s.key ∧
    (sendCplAs cid req inP vs tenant fab status data bcount laddr ep s).sb = s.sb ∧
    (sendCplAs cid req inP vs tenant fab status data bcount laddr ep s).pending = s.pending := by
  unfold sendCplAs
  (repeat' split) <;> simp -implicitDefEqProofs (maxDischargeDepth := 6)

def Foot.sendCplAs : List Reg := [.PIR_BUFEXP, .PIR_BUFOCC, .PIR_CPLTRK, .PIR_ERRCNT2, .PIR_EXPMON, .PIR_FBPORT]

@[simp] theorem sendCplAs_rd (cid : Nat) (req : Tlp) (inP vs tenant : Nat) (fab : Option FabHdr) (status : Nat) (data : List Byte) (bcount laddr : Nat) (ep : Bool) (s : State) (reg : Reg) (rix : Nat) (hav : avoids Foot.sendCplAs reg = true) :
    (sendCplAs cid req inP vs tenant fab status data bcount laddr ep s).rd reg rix = s.rd reg rix := by
  have c0 : avoids Foot.inject reg = true := avoids_mono (by decide) hav
  have c1 : avoids Foot.unproxy reg = true := avoids_mono (by decide) hav
  unfold sendCplAs
  (repeat' split) <;> simp -implicitDefEqProofs (maxDischargeDepth := 6) [*]

@[simp] theorem sendCpl_frame (req : Tlp) (inP vs tenant : Nat) (fab : Option FabHdr) (status : Nat) (data : List Byte) (bcount laddr : Nat) (ep : Bool) (s : State) :
    (sendCpl req inP vs tenant fab status data bcount laddr ep s).env = s.env ∧
    (sendCpl req inP vs tenant fab status data bcount laddr ep s).jrn = s.jrn ∧
    (sendCpl req inP vs tenant fab status data bcount laddr ep s).csn = s.csn ∧
    (sendCpl req inP vs tenant fab status data bcount laddr ep s).fl = s.fl ∧
    (sendCpl req inP vs tenant fab status data bcount laddr ep s).fab = s.fab ∧
    (sendCpl req inP vs tenant fab status data bcount laddr ep s).eng = s.eng ∧
    (sendCpl req inP vs tenant fab status data bcount laddr ep s).img = s.img ∧
    (sendCpl req inP vs tenant fab status data bcount laddr ep s).rcd = s.rcd ∧
    (sendCpl req inP vs tenant fab status data bcount laddr ep s).pmc = s.pmc ∧
    (sendCpl req inP vs tenant fab status data bcount laddr ep s).abt = s.abt ∧
    (sendCpl req inP vs tenant fab status data bcount laddr ep s).mode = s.mode ∧
    (sendCpl req inP vs tenant fab status data bcount laddr ep s).key = s.key ∧
    (sendCpl req inP vs tenant fab status data bcount laddr ep s).sb = s.sb ∧
    (sendCpl req inP vs tenant fab status data bcount laddr ep s).pending = s.pending := by
  unfold sendCpl
  (repeat' split) <;> simp -implicitDefEqProofs (maxDischargeDepth := 6)

def Foot.sendCpl : List Reg := [.PIR_BUFEXP, .PIR_BUFOCC, .PIR_CPLTRK, .PIR_ERRCNT2, .PIR_EXPMON, .PIR_FBPORT]

@[simp] theorem sendCpl_rd (req : Tlp) (inP vs tenant : Nat) (fab : Option FabHdr) (status : Nat) (data : List Byte) (bcount laddr : Nat) (ep : Bool) (s : State) (reg : Reg) (rix : Nat) (hav : avoids Foot.sendCpl reg = true) :
    (sendCpl req inP vs tenant fab status data bcount laddr ep s).rd reg rix = s.rd reg rix := by
  have c0 : avoids Foot.sendCplAs reg = true := avoids_mono (by decide) hav
  unfold sendCpl
  (repeat' split) <;> simp -implicitDefEqProofs (maxDischargeDepth := 6) [*]

@[simp] theorem sendReadData_frame (cid lim : Nat) (c : Carried) (ep : Bool) (n : Nat) (data : List Byte) (addr total : Nat) (s : State) :
    (sendReadData cid lim c ep n data addr total s).env = s.env ∧
    (sendReadData cid lim c ep n data addr total s).jrn = s.jrn ∧
    (sendReadData cid lim c ep n data addr total s).csn = s.csn ∧
    (sendReadData cid lim c ep n data addr total s).fl = s.fl ∧
    (sendReadData cid lim c ep n data addr total s).fab = s.fab ∧
    (sendReadData cid lim c ep n data addr total s).eng = s.eng ∧
    (sendReadData cid lim c ep n data addr total s).img = s.img ∧
    (sendReadData cid lim c ep n data addr total s).rcd = s.rcd ∧
    (sendReadData cid lim c ep n data addr total s).pmc = s.pmc ∧
    (sendReadData cid lim c ep n data addr total s).abt = s.abt ∧
    (sendReadData cid lim c ep n data addr total s).mode = s.mode ∧
    (sendReadData cid lim c ep n data addr total s).key = s.key ∧
    (sendReadData cid lim c ep n data addr total s).sb = s.sb ∧
    (sendReadData cid lim c ep n data addr total s).pending = s.pending := by
  induction n generalizing s data addr total with
  | zero => simp [sendReadData]
  | succ n ih =>
    unfold sendReadData
    split <;> simp -implicitDefEqProofs [ih]

def Foot.sendReadData : List Reg := [.PIR_BUFEXP, .PIR_BUFOCC, .PIR_CPLTRK, .PIR_ERRCNT2, .PIR_EXPMON, .PIR_FBPORT]

@[simp] theorem sendReadData_rd (cid lim : Nat) (c : Carried) (ep : Bool) (n : Nat) (data : List Byte) (addr total : Nat) (s : State) (reg : Reg) (rix : Nat) (hav : avoids Foot.sendReadData reg = true) :
    (sendReadData cid lim c ep n data addr total s).rd reg rix = s.rd reg rix := by
  have c0 : avoids Foot.sendCplAs reg = true := avoids_mono (by decide) hav
  induction n generalizing s data addr total with
  | zero => simp [sendReadData]
  | succ n ih =>
    unfold sendReadData
    split <;> simp -implicitDefEqProofs [ih, *]

@[simp] theorem failReq_frame (c : Carried) (status : Nat) (s : State) :
    (failReq c status s).env = s.env ∧ (failReq c status s).jrn = s.jrn ∧ (failReq c status s).csn = s.csn ∧
    (failReq c status s).fl = s.fl ∧ (failReq c status s).fab = s.fab ∧ (failReq c status s).eng = s.eng ∧
    (failReq c status s).img = s.img ∧ (failReq c status s).rcd = s.rcd ∧ (failReq c status s).pmc = s.pmc ∧
    (failReq c status s).abt = s.abt ∧ (failReq c status s).mode = s.mode ∧ (failReq c status s).key = s.key ∧
    (failReq c status s).sb = s.sb ∧ (failReq c status s).pending = s.pending := by
  unfold failReq
  (repeat' split) <;> simp -implicitDefEqProofs (maxDischargeDepth := 6)

def Foot.failReq : List Reg := [.PIR_BUFEXP, .PIR_BUFOCC, .PIR_CPLTRK, .PIR_ERRCNT2, .PIR_EXPMON, .PIR_FBPORT]

@[simp] theorem failReq_rd (c : Carried) (status : Nat) (s : State) (reg : Reg) (rix : Nat) (hav : avoids Foot.failReq reg = true) :
    (failReq c status s).rd reg rix = s.rd reg rix := by
  have c0 : avoids Foot.sendCpl reg = true := avoids_mono (by decide) hav
  unfold failReq
  (repeat' split) <;> simp -implicitDefEqProofs (maxDischargeDepth := 6) [*]

@[simp] theorem msixWr_frame (v vec d : Nat) (w : Word) (s : State) :
    (msixWr v vec d w s).env = s.env ∧ (msixWr v vec d w s).jrn = s.jrn ∧ (msixWr v vec d w s).err = s.err ∧
    (msixWr v vec d w s).ports = s.ports ∧ (msixWr v vec d w s).deck = s.deck ∧ (msixWr v vec d w s).csn = s.csn ∧
    (msixWr v vec d w s).fl = s.fl ∧ (msixWr v vec d w s).fab = s.fab ∧ (msixWr v vec d w s).eng = s.eng ∧
    (msixWr v vec d w s).img = s.img ∧ (msixWr v vec d w s).rcd = s.rcd ∧ (msixWr v vec d w s).pmc = s.pmc ∧
    (msixWr v vec d w s).abt = s.abt ∧ (msixWr v vec d w s).mode = s.mode ∧ (msixWr v vec d w s).key = s.key ∧
    (msixWr v vec d w s).sb = s.sb ∧ (msixWr v vec d w s).pending = s.pending := by
  unfold msixWr
  (repeat' split) <;> simp -implicitDefEqProofs (maxDischargeDepth := 6)

def Foot.msixWr : List Reg := []

@[simp] theorem msixWr_rd (v vec d : Nat) (w : Word) (s : State) (reg : Reg) (rix : Nat) (hav : avoids Foot.msixWr reg = true) :
    (msixWr v vec d w s).rd reg rix = s.rd reg rix := by
  unfold msixWr
  (repeat' split) <;> simp -implicitDefEqProofs (maxDischargeDepth := 6) [*]

@[simp] theorem msixSend_frame (v vec : Nat) (s : State) :
    (msixSend v vec s).env = s.env ∧ (msixSend v vec s).jrn = s.jrn ∧ (msixSend v vec s).csn = s.csn ∧
    (msixSend v vec s).fl = s.fl ∧ (msixSend v vec s).host = s.host ∧ (msixSend v vec s).fab = s.fab ∧
    (msixSend v vec s).eng = s.eng ∧ (msixSend v vec s).img = s.img ∧ (msixSend v vec s).rcd = s.rcd ∧
    (msixSend v vec s).pmc = s.pmc ∧ (msixSend v vec s).abt = s.abt ∧ (msixSend v vec s).mode = s.mode ∧
    (msixSend v vec s).key = s.key ∧ (msixSend v vec s).sb = s.sb ∧ (msixSend v vec s).pending = s.pending := by
  unfold msixSend
  (repeat' split) <;> simp -implicitDefEqProofs (maxDischargeDepth := 6)

def Foot.msixSend : List Reg := [.PIR_BUFEXP, .PIR_BUFOCC, .PIR_CPLTRK, .PIR_ERRCNT2, .PIR_EXPMON, .PIR_FBPORT]

@[simp] theorem msixSend_rd (v vec : Nat) (s : State) (reg : Reg) (rix : Nat) (hav : avoids Foot.msixSend reg = true) :
    (msixSend v vec s).rd reg rix = s.rd reg rix := by
  have c0 : avoids Foot.inject reg = true := avoids_mono (by decide) hav
  unfold msixSend
  (repeat' split) <;> simp -implicitDefEqProofs (maxDischargeDepth := 6) [*]

@[simp] theorem sendPme_frame (v : Nat) (s : State) :
    (sendPme v s).env = s.env ∧ (sendPme v s).jrn = s.jrn ∧ (sendPme v s).csn = s.csn ∧ (sendPme v s).fl = s.fl ∧
    (sendPme v s).fab = s.fab ∧ (sendPme v s).eng = s.eng ∧ (sendPme v s).img = s.img ∧ (sendPme v s).rcd = s.rcd ∧
    (sendPme v s).pmc = s.pmc ∧ (sendPme v s).abt = s.abt ∧ (sendPme v s).mode = s.mode ∧ (sendPme v s).key = s.key ∧
    (sendPme v s).sb = s.sb ∧ (sendPme v s).pending = s.pending := by
  unfold sendPme
  (repeat' split) <;> simp -implicitDefEqProofs (maxDischargeDepth := 6)

def Foot.sendPme : List Reg := [.PIR_BUFEXP, .PIR_BUFOCC, .PIR_CPLTRK, .PIR_ERRCNT2, .PIR_EXPMON, .PIR_FBPORT]

@[simp] theorem sendPme_rd (v : Nat) (s : State) (reg : Reg) (rix : Nat) (hav : avoids Foot.sendPme reg = true) :
    (sendPme v s).rd reg rix = s.rd reg rix := by
  have c0 : avoids Foot.setCapF reg = true := avoids_mono (by decide) hav
  have c1 : avoids Foot.inject reg = true := avoids_mono (by decide) hav
  unfold sendPme
  (repeat' split) <;> simp -implicitDefEqProofs (maxDischargeDepth := 6) [*]

@[simp] theorem wakeCheck_frame (v vec : Nat) (s : State) :
    (wakeCheck v vec s).jrn = s.jrn ∧ (wakeCheck v vec s).csn = s.csn ∧ (wakeCheck v vec s).fl = s.fl ∧
    (wakeCheck v vec s).fab = s.fab ∧ (wakeCheck v vec s).eng = s.eng ∧ (wakeCheck v vec s).img = s.img ∧
    (wakeCheck v vec s).rcd = s.rcd ∧ (wakeCheck v vec s).pmc = s.pmc ∧ (wakeCheck v vec s).abt = s.abt ∧
    (wakeCheck v vec s).mode = s.mode ∧ (wakeCheck v vec s).key = s.key ∧ (wakeCheck v vec s).sb = s.sb ∧
    (wakeCheck v vec s).pending = s.pending := by
  unfold wakeCheck
  (repeat' split) <;> simp -implicitDefEqProofs (maxDischargeDepth := 6)

def Foot.wakeCheck : List Reg := [.PIR_BUFEXP, .PIR_BUFOCC, .PIR_CPLTRK, .PIR_ERRCNT2, .PIR_EXPMON, .PIR_FBPORT]

@[simp] theorem wakeCheck_rd (v vec : Nat) (s : State) (reg : Reg) (rix : Nat) (hav : avoids Foot.wakeCheck reg = true) :
    (wakeCheck v vec s).rd reg rix = s.rd reg rix := by
  have c0 : avoids Foot.sendPme reg = true := avoids_mono (by decide) hav
  unfold wakeCheck
  (repeat' split) <;> simp -implicitDefEqProofs (maxDischargeDepth := 6) [*]

@[simp] theorem msixRaise_frame (v vec : Nat) (s : State) :
    (msixRaise v vec s).jrn = s.jrn ∧ (msixRaise v vec s).csn = s.csn ∧ (msixRaise v vec s).fl = s.fl ∧
    (msixRaise v vec s).fab = s.fab ∧ (msixRaise v vec s).eng = s.eng ∧ (msixRaise v vec s).img = s.img ∧
    (msixRaise v vec s).rcd = s.rcd ∧ (msixRaise v vec s).pmc = s.pmc ∧ (msixRaise v vec s).abt = s.abt ∧
    (msixRaise v vec s).mode = s.mode ∧ (msixRaise v vec s).key = s.key ∧ (msixRaise v vec s).sb = s.sb ∧
    (msixRaise v vec s).pending = s.pending := by
  unfold msixRaise
  (repeat' split) <;> simp -implicitDefEqProofs (maxDischargeDepth := 6)

def Foot.msixRaise : List Reg := [.PIR_BUFEXP, .PIR_BUFOCC, .PIR_CPLTRK, .PIR_ERRCNT2, .PIR_EXPMON, .PIR_FBPORT]

@[simp] theorem msixRaise_rd (v vec : Nat) (s : State) (reg : Reg) (rix : Nat) (hav : avoids Foot.msixRaise reg = true) :
    (msixRaise v vec s).rd reg rix = s.rd reg rix := by
  have c0 : avoids Foot.msixSend reg = true := avoids_mono (by decide) hav
  have c1 : avoids Foot.wakeCheck reg = true := avoids_mono (by decide) hav
  unfold msixRaise
  (repeat' split) <;> simp -implicitDefEqProofs (maxDischargeDepth := 6) [*]

@[simp] theorem msixFlush_frame (v : Nat) (s : State) :
    (msixFlush v s).env = s.env ∧ (msixFlush v s).jrn = s.jrn ∧ (msixFlush v s).csn = s.csn ∧ (msixFlush v s).fl = s.fl ∧
    (msixFlush v s).fab = s.fab ∧ (msixFlush v s).eng = s.eng ∧ (msixFlush v s).img = s.img ∧ (msixFlush v s).rcd = s.rcd ∧
    (msixFlush v s).pmc = s.pmc ∧ (msixFlush v s).abt = s.abt ∧ (msixFlush v s).mode = s.mode ∧
    (msixFlush v s).key = s.key ∧ (msixFlush v s).sb = s.sb ∧ (msixFlush v s).pending = s.pending := by
  unfold msixFlush
  (repeat' split) <;> simp -implicitDefEqProofs (maxDischargeDepth := 6)

def Foot.msixFlush : List Reg := [.PIR_BUFEXP, .PIR_BUFOCC, .PIR_CPLTRK, .PIR_ERRCNT2, .PIR_EXPMON, .PIR_FBPORT]

@[simp] theorem msixFlush_rd (v : Nat) (s : State) (reg : Reg) (rix : Nat) (hav : avoids Foot.msixFlush reg = true) :
    (msixFlush v s).rd reg rix = s.rd reg rix := by
  have c0 : avoids Foot.msixSend reg = true := avoids_mono (by decide) hav
  unfold msixFlush
  (repeat' split) <;> simp -implicitDefEqProofs (maxDischargeDepth := 6) [*]

@[simp] theorem msixOwner_frame (src : Nat) (s : State) :
    (msixOwner src s).jrn = s.jrn ∧ (msixOwner src s).csn = s.csn ∧ (msixOwner src s).fl = s.fl ∧
    (msixOwner src s).fab = s.fab ∧ (msixOwner src s).eng = s.eng ∧ (msixOwner src s).img = s.img ∧
    (msixOwner src s).rcd = s.rcd ∧ (msixOwner src s).pmc = s.pmc ∧ (msixOwner src s).abt = s.abt ∧
    (msixOwner src s).mode = s.mode ∧ (msixOwner src s).key = s.key ∧ (msixOwner src s).sb = s.sb ∧
    (msixOwner src s).pending = s.pending := by
  unfold msixOwner
  (repeat' split) <;> simp -implicitDefEqProofs (maxDischargeDepth := 6)

def Foot.msixOwner : List Reg := [.PIR_BUFEXP, .PIR_BUFOCC, .PIR_CPLTRK, .PIR_ERRCNT2, .PIR_EXPMON, .PIR_FBPORT]

@[simp] theorem msixOwner_rd (src : Nat) (s : State) (reg : Reg) (rix : Nat) (hav : avoids Foot.msixOwner reg = true) :
    (msixOwner src s).rd reg rix = s.rd reg rix := by
  have c0 : avoids Foot.msixRaise reg = true := avoids_mono (by decide) hav
  unfold msixOwner
  (repeat' split) <;> simp -implicitDefEqProofs (maxDischargeDepth := 6) [*]

@[simp] theorem setEngQ_frame (g : Nat) (q : List QEv) (s : State) :
    (setEngQ g q s).env = s.env ∧ (setEngQ g q s).jrn = s.jrn ∧ (setEngQ g q s).err = s.err ∧
    (setEngQ g q s).ports = s.ports ∧ (setEngQ g q s).deck = s.deck ∧ (setEngQ g q s).csn = s.csn ∧
    (setEngQ g q s).fl = s.fl ∧ (setEngQ g q s).host = s.host ∧ (setEngQ g q s).fab = s.fab ∧ (setEngQ g q s).img = s.img ∧
    (setEngQ g q s).rcd = s.rcd ∧ (setEngQ g q s).pmc = s.pmc ∧ (setEngQ g q s).abt = s.abt ∧
    (setEngQ g q s).mode = s.mode ∧ (setEngQ g q s).key = s.key ∧ (setEngQ g q s).sb = s.sb ∧
    (setEngQ g q s).pending = s.pending := by
  unfold setEngQ
  (repeat' split) <;> simp -implicitDefEqProofs (maxDischargeDepth := 6)

def Foot.setEngQ : List Reg := [.ENG_STAT]

@[simp] theorem setEngQ_rd (g : Nat) (q : List QEv) (s : State) (reg : Reg) (rix : Nat) (hav : avoids Foot.setEngQ reg = true) :
    (setEngQ g q s).rd reg rix = s.rd reg rix := by
  have f0 : reg ≠ F.ENG_STAT_QUEUED.reg := avoids_ne (by decide) hav
  unfold setEngQ
  (repeat' split) <;> simp -implicitDefEqProofs (maxDischargeDepth := 6) [*]

@[simp] theorem dropUnhandled_frame (g : Nat) (s : State) :
    (dropUnhandled g s).env = s.env ∧ (dropUnhandled g s).jrn = s.jrn ∧ (dropUnhandled g s).err = s.err ∧
    (dropUnhandled g s).ports = s.ports ∧ (dropUnhandled g s).deck = s.deck ∧ (dropUnhandled g s).csn = s.csn ∧
    (dropUnhandled g s).fl = s.fl ∧ (dropUnhandled g s).host = s.host ∧ (dropUnhandled g s).fab = s.fab ∧
    (dropUnhandled g s).img = s.img ∧ (dropUnhandled g s).rcd = s.rcd ∧ (dropUnhandled g s).pmc = s.pmc ∧
    (dropUnhandled g s).abt = s.abt ∧ (dropUnhandled g s).mode = s.mode ∧ (dropUnhandled g s).key = s.key ∧
    (dropUnhandled g s).sb = s.sb ∧ (dropUnhandled g s).pending = s.pending := by
  unfold dropUnhandled
  (repeat' split) <;> simp -implicitDefEqProofs (maxDischargeDepth := 6)

def Foot.dropUnhandled : List Reg := [.ENG_STAT]

@[simp] theorem dropUnhandled_rd (g : Nat) (s : State) (reg : Reg) (rix : Nat) (hav : avoids Foot.dropUnhandled reg = true) :
    (dropUnhandled g s).rd reg rix = s.rd reg rix := by
  have c0 : avoids Foot.setEngQ reg = true := avoids_mono (by decide) hav
  unfold dropUnhandled
  (repeat' split) <;> simp -implicitDefEqProofs (maxDischargeDepth := 6) [*]

@[simp] theorem selectNext_frame (g : Nat) (s : State) :
    (selectNext g s).env = s.env ∧ (selectNext g s).jrn = s.jrn ∧ (selectNext g s).err = s.err ∧
    (selectNext g s).ports = s.ports ∧ (selectNext g s).deck = s.deck ∧ (selectNext g s).csn = s.csn ∧
    (selectNext g s).fl = s.fl ∧ (selectNext g s).host = s.host ∧ (selectNext g s).fab = s.fab ∧
    (selectNext g s).img = s.img ∧ (selectNext g s).rcd = s.rcd ∧ (selectNext g s).pmc = s.pmc ∧
    (selectNext g s).abt = s.abt ∧ (selectNext g s).mode = s.mode ∧ (selectNext g s).key = s.key ∧
    (selectNext g s).sb = s.sb ∧ (selectNext g s).pending = s.pending := by
  unfold selectNext
  (repeat' split) <;> (try simp -implicitDefEqProofs (maxDischargeDepth := 6)) <;> (repeat' split) <;> simp -implicitDefEqProofs (maxDischargeDepth := 6)

def Foot.selectNext : List Reg := [.ENG_STAT]

@[simp] theorem selectNext_rd (g : Nat) (s : State) (reg : Reg) (rix : Nat) (hav : avoids Foot.selectNext reg = true) :
    (selectNext g s).rd reg rix = s.rd reg rix := by
  have c0 : avoids Foot.setEngQ reg = true := avoids_mono (by decide) hav
  have c1 : avoids Foot.dropUnhandled reg = true := avoids_mono (by decide) hav
  have f0 : reg ≠ F.ENG_STAT_STATE.reg := avoids_ne (by decide) hav
  unfold selectNext
  (repeat' split) <;> (try simp -implicitDefEqProofs (maxDischargeDepth := 6) [*]) <;> (repeat' split) <;> simp -implicitDefEqProofs (maxDischargeDepth := 6) [*]

@[simp] theorem wakeEng_frame (g : Nat) (s : State) :
    (wakeEng g s).env = s.env ∧ (wakeEng g s).jrn = s.jrn ∧ (wakeEng g s).err = s.err ∧ (wakeEng g s).ports = s.ports ∧
    (wakeEng g s).deck = s.deck ∧ (wakeEng g s).csn = s.csn ∧ (wakeEng g s).fl = s.fl ∧ (wakeEng g s).host = s.host ∧
    (wakeEng g s).fab = s.fab ∧ (wakeEng g s).img = s.img ∧ (wakeEng g s).rcd = s.rcd ∧ (wakeEng g s).pmc = s.pmc ∧
    (wakeEng g s).abt = s.abt ∧ (wakeEng g s).mode = s.mode ∧ (wakeEng g s).key = s.key ∧ (wakeEng g s).sb = s.sb ∧
    (wakeEng g s).pending = s.pending := by
  unfold wakeEng
  (repeat' split) <;> simp -implicitDefEqProofs (maxDischargeDepth := 6)

def Foot.wakeEng : List Reg := [.ENG_STAT]

@[simp] theorem wakeEng_rd (g : Nat) (s : State) (reg : Reg) (rix : Nat) (hav : avoids Foot.wakeEng reg = true) :
    (wakeEng g s).rd reg rix = s.rd reg rix := by
  have c0 : avoids Foot.selectNext reg = true := avoids_mono (by decide) hav
  unfold wakeEng
  (repeat' split) <;> simp -implicitDefEqProofs (maxDischargeDepth := 6) [*]

@[simp] theorem offer_frame (n d : Nat) (e : Ev) (s : State) :
    (offer n d e s).env = s.env ∧ (offer n d e s).jrn = s.jrn ∧ (offer n d e s).err = s.err ∧
    (offer n d e s).ports = s.ports ∧ (offer n d e s).deck = s.deck ∧ (offer n d e s).csn = s.csn ∧
    (offer n d e s).fl = s.fl ∧ (offer n d e s).host = s.host ∧ (offer n d e s).fab = s.fab ∧ (offer n d e s).img = s.img ∧
    (offer n d e s).rcd = s.rcd ∧ (offer n d e s).pmc = s.pmc ∧ (offer n d e s).abt = s.abt ∧
    (offer n d e s).mode = s.mode ∧ (offer n d e s).key = s.key ∧ (offer n d e s).sb = s.sb ∧
    (offer n d e s).pending = s.pending := by
  unfold offer
  (repeat' split) <;> simp -implicitDefEqProofs (maxDischargeDepth := 6)

def Foot.offer : List Reg := [.ENG_STAT]

@[simp] theorem offer_rd (n d : Nat) (e : Ev) (s : State) (reg : Reg) (rix : Nat) (hav : avoids Foot.offer reg = true) :
    (offer n d e s).rd reg rix = s.rd reg rix := by
  have c0 : avoids Foot.setEngQ reg = true := avoids_mono (by decide) hav
  have c1 : avoids Foot.wakeEng reg = true := avoids_mono (by decide) hav
  unfold offer
  (repeat' split) <;> simp -implicitDefEqProofs (maxDischargeDepth := 6) [*]

@[simp] theorem offerKind_frame (n kind inst : Nat) (e : Ev) (s : State) :
    (offerKind n kind inst e s).env = s.env ∧ (offerKind n kind inst e s).jrn = s.jrn ∧
    (offerKind n kind inst e s).err = s.err ∧ (offerKind n kind inst e s).ports = s.ports ∧
    (offerKind n kind inst e s).deck = s.deck ∧ (offerKind n kind inst e s).csn = s.csn ∧
    (offerKind n kind inst e s).fl = s.fl ∧ (offerKind n kind inst e s).host = s.host ∧
    (offerKind n kind inst e s).fab = s.fab ∧ (offerKind n kind inst e s).img = s.img ∧
    (offerKind n kind inst e s).rcd = s.rcd ∧ (offerKind n kind inst e s).pmc = s.pmc ∧
    (offerKind n kind inst e s).abt = s.abt ∧ (offerKind n kind inst e s).mode = s.mode ∧
    (offerKind n kind inst e s).key = s.key ∧ (offerKind n kind inst e s).sb = s.sb ∧
    (offerKind n kind inst e s).pending = s.pending := by
  unfold offerKind
  (repeat' split) <;> simp -implicitDefEqProofs (maxDischargeDepth := 6)

def Foot.offerKind : List Reg := [.ENG_STAT]

@[simp] theorem offerKind_rd (n kind inst : Nat) (e : Ev) (s : State) (reg : Reg) (rix : Nat) (hav : avoids Foot.offerKind reg = true) :
    (offerKind n kind inst e s).rd reg rix = s.rd reg rix := by
  have c0 : avoids Foot.offer reg = true := avoids_mono (by decide) hav
  unfold offerKind
  (repeat' split) <;> simp -implicitDefEqProofs (maxDischargeDepth := 6) [*]

@[simp] theorem linkEvent_frame (p : Nat) (s : State) :
    (linkEvent p s).env = s.env ∧ (linkEvent p s).jrn = s.jrn ∧ (linkEvent p s).err = s.err ∧
    (linkEvent p s).ports = s.ports ∧ (linkEvent p s).deck = s.deck ∧ (linkEvent p s).csn = s.csn ∧
    (linkEvent p s).fl = s.fl ∧ (linkEvent p s).host = s.host ∧ (linkEvent p s).fab = s.fab ∧ (linkEvent p s).img = s.img ∧
    (linkEvent p s).rcd = s.rcd ∧ (linkEvent p s).pmc = s.pmc ∧ (linkEvent p s).abt = s.abt ∧
    (linkEvent p s).mode = s.mode ∧ (linkEvent p s).key = s.key ∧ (linkEvent p s).sb = s.sb ∧
    (linkEvent p s).pending = s.pending := by
  unfold linkEvent
  (repeat' split) <;> simp -implicitDefEqProofs (maxDischargeDepth := 6)

def Foot.linkEvent : List Reg := [.ENG_STAT]

@[simp] theorem linkEvent_rd (p : Nat) (s : State) (reg : Reg) (rix : Nat) (hav : avoids Foot.linkEvent reg = true) :
    (linkEvent p s).rd reg rix = s.rd reg rix := by
  have c0 : avoids Foot.offerKind reg = true := avoids_mono (by decide) hav
  unfold linkEvent
  (repeat' split) <;> simp -implicitDefEqProofs (maxDischargeDepth := 6) [*]

@[simp] theorem laneEvent_frame (sp : Nat) (s : State) :
    (laneEvent sp s).env = s.env ∧ (laneEvent sp s).jrn = s.jrn ∧ (laneEvent sp s).err = s.err ∧
    (laneEvent sp s).ports = s.ports ∧ (laneEvent sp s).deck = s.deck ∧ (laneEvent sp s).csn = s.csn ∧
    (laneEvent sp s).fl = s.fl ∧ (laneEvent sp s).host = s.host ∧ (laneEvent sp s).fab = s.fab ∧
    (laneEvent sp s).img = s.img ∧ (laneEvent sp s).rcd = s.rcd ∧ (laneEvent sp s).pmc = s.pmc ∧
    (laneEvent sp s).abt = s.abt ∧ (laneEvent sp s).mode = s.mode ∧ (laneEvent sp s).key = s.key ∧
    (laneEvent sp s).sb = s.sb ∧ (laneEvent sp s).pending = s.pending := by
  unfold laneEvent
  (repeat' split) <;> simp -implicitDefEqProofs (maxDischargeDepth := 6)

def Foot.laneEvent : List Reg := [.ENG_STAT]

@[simp] theorem laneEvent_rd (sp : Nat) (s : State) (reg : Reg) (rix : Nat) (hav : avoids Foot.laneEvent reg = true) :
    (laneEvent sp s).rd reg rix = s.rd reg rix := by
  have c0 : avoids Foot.offerKind reg = true := avoids_mono (by decide) hav
  unfold laneEvent
  (repeat' split) <;> simp -implicitDefEqProofs (maxDischargeDepth := 6) [*]

@[simp] theorem slotEvent_frame (k : Nat) (s : State) :
    (slotEvent k s).env = s.env ∧ (slotEvent k s).jrn = s.jrn ∧ (slotEvent k s).err = s.err ∧
    (slotEvent k s).ports = s.ports ∧ (slotEvent k s).deck = s.deck ∧ (slotEvent k s).csn = s.csn ∧
    (slotEvent k s).fl = s.fl ∧ (slotEvent k s).host = s.host ∧ (slotEvent k s).fab = s.fab ∧ (slotEvent k s).img = s.img ∧
    (slotEvent k s).rcd = s.rcd ∧ (slotEvent k s).pmc = s.pmc ∧ (slotEvent k s).abt = s.abt ∧
    (slotEvent k s).mode = s.mode ∧ (slotEvent k s).key = s.key ∧ (slotEvent k s).sb = s.sb ∧
    (slotEvent k s).pending = s.pending := by
  unfold slotEvent
  (repeat' split) <;> simp -implicitDefEqProofs (maxDischargeDepth := 6)

def Foot.slotEvent : List Reg := [.ENG_STAT]

@[simp] theorem slotEvent_rd (k : Nat) (s : State) (reg : Reg) (rix : Nat) (hav : avoids Foot.slotEvent reg = true) :
    (slotEvent k s).rd reg rix = s.rd reg rix := by
  have c0 : avoids Foot.offerKind reg = true := avoids_mono (by decide) hav
  unfold slotEvent
  (repeat' split) <;> simp -implicitDefEqProofs (maxDischargeDepth := 6) [*]

@[simp] theorem refreshDuties_frame (s : State) :
    (refreshDuties s).env = s.env ∧ (refreshDuties s).jrn = s.jrn ∧ (refreshDuties s).err = s.err ∧
    (refreshDuties s).ports = s.ports ∧ (refreshDuties s).deck = s.deck ∧ (refreshDuties s).csn = s.csn ∧
    (refreshDuties s).fl = s.fl ∧ (refreshDuties s).host = s.host ∧ (refreshDuties s).fab = s.fab ∧
    (refreshDuties s).eng = s.eng ∧ (refreshDuties s).img = s.img ∧ (refreshDuties s).rcd = s.rcd ∧
    (refreshDuties s).pmc = s.pmc ∧ (refreshDuties s).abt = s.abt ∧ (refreshDuties s).mode = s.mode ∧
    (refreshDuties s).key = s.key ∧ (refreshDuties s).sb = s.sb ∧ (refreshDuties s).pending = s.pending := by
  unfold refreshDuties
  (repeat' split) <;> simp -implicitDefEqProofs (maxDischargeDepth := 6)

def Foot.refreshDuties : List Reg := [.ENG_STAT]

@[simp] theorem refreshDuties_rd (s : State) (reg : Reg) (rix : Nat) (hav : avoids Foot.refreshDuties reg = true) :
    (refreshDuties s).rd reg rix = s.rd reg rix := by
  have f0 : reg ≠ F.ENG_STAT_DUTIES.reg := avoids_ne (by decide) hav
  unfold refreshDuties
  (repeat' split) <;> simp -implicitDefEqProofs (maxDischargeDepth := 6) [*]

@[simp] theorem startMove_frame (k new reason : Nat) (s : State) :
    (startMove k new reason s).env = s.env ∧ (startMove k new reason s).jrn = s.jrn ∧
    (startMove k new reason s).err = s.err ∧ (startMove k new reason s).ports = s.ports ∧
    (startMove k new reason s).deck = s.deck ∧ (startMove k new reason s).csn = s.csn ∧
    (startMove k new reason s).fl = s.fl ∧ (startMove k new reason s).host = s.host ∧
    (startMove k new reason s).fab = s.fab ∧ (startMove k new reason s).img = s.img ∧
    (startMove k new reason s).rcd = s.rcd ∧ (startMove k new reason s).pmc = s.pmc ∧
    (startMove k new reason s).abt = s.abt ∧ (startMove k new reason s).mode = s.mode ∧
    (startMove k new reason s).key = s.key ∧ (startMove k new reason s).sb = s.sb ∧
    (startMove k new reason s).pending = s.pending := by
  unfold startMove
  (repeat' split) <;> simp -implicitDefEqProofs (maxDischargeDepth := 6)

def Foot.startMove : List Reg := [.ENG_STAT, .PIR_DUTY]

@[simp] theorem startMove_rd (k new reason : Nat) (s : State) (reg : Reg) (rix : Nat) (hav : avoids Foot.startMove reg = true) :
    (startMove k new reason s).rd reg rix = s.rd reg rix := by
  have c0 : avoids Foot.setEngQ reg = true := avoids_mono (by decide) hav
  have f0 : reg ≠ F.PIR_DUTY_MOVING.reg := avoids_ne (by decide) hav
  unfold startMove
  (repeat' split) <;> simp -implicitDefEqProofs (maxDischargeDepth := 6) [*]

@[simp] theorem endMove_frame (k : Nat) (start : Bool) (s : State) :
    (endMove k start s).env = s.env ∧ (endMove k start s).jrn = s.jrn ∧ (endMove k start s).err = s.err ∧
    (endMove k start s).ports = s.ports ∧ (endMove k start s).deck = s.deck ∧ (endMove k start s).csn = s.csn ∧
    (endMove k start s).fl = s.fl ∧ (endMove k start s).host = s.host ∧ (endMove k start s).fab = s.fab ∧
    (endMove k start s).img = s.img ∧ (endMove k start s).rcd = s.rcd ∧ (endMove k start s).pmc = s.pmc ∧
    (endMove k start s).abt = s.abt ∧ (endMove k start s).mode = s.mode ∧ (endMove k start s).key = s.key ∧
    (endMove k start s).sb = s.sb ∧ (endMove k start s).pending = s.pending := by
  unfold endMove
  (repeat' split) <;> simp -implicitDefEqProofs (maxDischargeDepth := 6)

def Foot.endMove : List Reg := [.ENG_STAT, .PIR_DUTY]

@[simp] theorem endMove_rd (k : Nat) (start : Bool) (s : State) (reg : Reg) (rix : Nat) (hav : avoids Foot.endMove reg = true) :
    (endMove k start s).rd reg rix = s.rd reg rix := by
  have c0 : avoids Foot.wakeEng reg = true := avoids_mono (by decide) hav
  have c1 : avoids Foot.offer reg = true := avoids_mono (by decide) hav
  have c2 : avoids Foot.refreshDuties reg = true := avoids_mono (by decide) hav
  have f0 : reg ≠ F.PIR_DUTY_ENGINE.reg := avoids_ne (by decide) hav
  have f1 : reg ≠ F.PIR_DUTY_MOVING.reg := avoids_ne (by decide) hav
  unfold endMove
  (repeat' split) <;> simp -implicitDefEqProofs (maxDischargeDepth := 6) [*]

@[simp] theorem refreshRing_frame (r head : Nat) (s : State) :
    (refreshRing r head s).env = s.env ∧ (refreshRing r head s).jrn = s.jrn ∧ (refreshRing r head s).err = s.err ∧
    (refreshRing r head s).ports = s.ports ∧ (refreshRing r head s).deck = s.deck ∧ (refreshRing r head s).csn = s.csn ∧
    (refreshRing r head s).fl = s.fl ∧ (refreshRing r head s).host = s.host ∧ (refreshRing r head s).fab = s.fab ∧
    (refreshRing r head s).eng = s.eng ∧ (refreshRing r head s).img = s.img ∧ (refreshRing r head s).rcd = s.rcd ∧
    (refreshRing r head s).pmc = s.pmc ∧ (refreshRing r head s).abt = s.abt ∧ (refreshRing r head s).mode = s.mode ∧
    (refreshRing r head s).key = s.key ∧ (refreshRing r head s).sb = s.sb ∧ (refreshRing r head s).pending = s.pending := by
  unfold refreshRing
  (repeat' split) <;> simp -implicitDefEqProofs (maxDischargeDepth := 6)

def Foot.refreshRing : List Reg := [.REC_RLINE, .REC_RSEQ]

@[simp] theorem refreshRing_rd (r head : Nat) (s : State) (reg : Reg) (rix : Nat) (hav : avoids Foot.refreshRing reg = true) :
    (refreshRing r head s).rd reg rix = s.rd reg rix := by
  have f0 : reg ≠ .REC_RLINE := avoids_ne (by decide) hav
  have f1 : reg ≠ .REC_RSEQ := avoids_ne (by decide) hav
  unfold refreshRing
  (repeat' split) <;> simp -implicitDefEqProofs (maxDischargeDepth := 6) [*]

@[simp] theorem appendRing_frame (r : Nat) (x : RRec) (s : State) :
    (appendRing r x s).env = s.env ∧ (appendRing r x s).jrn = s.jrn ∧ (appendRing r x s).err = s.err ∧
    (appendRing r x s).ports = s.ports ∧ (appendRing r x s).deck = s.deck ∧ (appendRing r x s).csn = s.csn ∧
    (appendRing r x s).fl = s.fl ∧ (appendRing r x s).host = s.host ∧ (appendRing r x s).fab = s.fab ∧
    (appendRing r x s).eng = s.eng ∧ (appendRing r x s).img = s.img ∧ (appendRing r x s).pmc = s.pmc ∧
    (appendRing r x s).abt = s.abt ∧ (appendRing r x s).mode = s.mode ∧ (appendRing r x s).key = s.key ∧
    (appendRing r x s).sb = s.sb ∧ (appendRing r x s).pending = s.pending := by
  unfold appendRing
  (repeat' split) <;> simp -implicitDefEqProofs (maxDischargeDepth := 6)

def Foot.appendRing : List Reg := [.REC_RLINE, .REC_RSEQ, .REC_STAT]

@[simp] theorem appendRing_rd (r : Nat) (x : RRec) (s : State) (reg : Reg) (rix : Nat) (hav : avoids Foot.appendRing reg = true) :
    (appendRing r x s).rd reg rix = s.rd reg rix := by
  have c0 : avoids Foot.refreshRing reg = true := avoids_mono (by decide) hav
  have f0 : reg ≠ F.REC_STAT_LOST.reg := avoids_ne (by decide) hav
  unfold appendRing
  (repeat' split) <;> simp -implicitDefEqProofs (maxDischargeDepth := 6) [*]

@[simp] theorem flushStart_frame (s : State) :
    (flushStart s).env = s.env ∧ (flushStart s).jrn = s.jrn ∧ (flushStart s).err = s.err ∧ (flushStart s).ports = s.ports ∧
    (flushStart s).deck = s.deck ∧ (flushStart s).csn = s.csn ∧ (flushStart s).fl = s.fl ∧ (flushStart s).host = s.host ∧
    (flushStart s).fab = s.fab ∧ (flushStart s).eng = s.eng ∧ (flushStart s).img = s.img ∧ (flushStart s).pmc = s.pmc ∧
    (flushStart s).abt = s.abt ∧ (flushStart s).mode = s.mode ∧ (flushStart s).key = s.key ∧ (flushStart s).sb = s.sb ∧
    (flushStart s).pending = s.pending := by
  unfold flushStart
  (repeat' split) <;> simp -implicitDefEqProofs (maxDischargeDepth := 6)

def Foot.flushStart : List Reg := [.REC_STAT]

@[simp] theorem flushStart_rd (s : State) (reg : Reg) (rix : Nat) (hav : avoids Foot.flushStart reg = true) :
    (flushStart s).rd reg rix = s.rd reg rix := by
  have f0 : reg ≠ F.REC_STAT_FLUSH_BUSY.reg := avoids_ne (by decide) hav
  unfold flushStart
  (repeat' split) <;> simp -implicitDefEqProofs (maxDischargeDepth := 6) [*]

@[simp] theorem putRecord_frame (x : RRec) (s : State) :
    (putRecord x s).env = s.env ∧ (putRecord x s).jrn = s.jrn ∧ (putRecord x s).err = s.err ∧
    (putRecord x s).ports = s.ports ∧ (putRecord x s).deck = s.deck ∧ (putRecord x s).csn = s.csn ∧
    (putRecord x s).fl = s.fl ∧ (putRecord x s).host = s.host ∧ (putRecord x s).fab = s.fab ∧ (putRecord x s).eng = s.eng ∧
    (putRecord x s).img = s.img ∧ (putRecord x s).pmc = s.pmc ∧ (putRecord x s).abt = s.abt ∧
    (putRecord x s).mode = s.mode ∧ (putRecord x s).key = s.key ∧ (putRecord x s).sb = s.sb ∧
    (putRecord x s).pending = s.pending := by
  unfold putRecord
  (repeat' split) <;> simp -implicitDefEqProofs (maxDischargeDepth := 6)

def Foot.putRecord : List Reg := [.REC_RLINE, .REC_RSEQ, .REC_STAT]

@[simp] theorem putRecord_rd (x : RRec) (s : State) (reg : Reg) (rix : Nat) (hav : avoids Foot.putRecord reg = true) :
    (putRecord x s).rd reg rix = s.rd reg rix := by
  have c0 : avoids Foot.refreshUnflushed reg = true := avoids_mono (by decide) hav
  have c1 : avoids Foot.appendRing reg = true := avoids_mono (by decide) hav
  have c2 : avoids Foot.flushStart reg = true := avoids_mono (by decide) hav
  unfold putRecord
  (repeat' split) <;> simp -implicitDefEqProofs (maxDischargeDepth := 6) [*]

@[simp] theorem sysRecord_frame (type ref : Nat) (s : State) :
    (sysRecord type ref s).env = s.env ∧ (sysRecord type ref s).jrn = s.jrn ∧ (sysRecord type ref s).err = s.err ∧
    (sysRecord type ref s).ports = s.ports ∧ (sysRecord type ref s).deck = s.deck ∧ (sysRecord type ref s).csn = s.csn ∧
    (sysRecord type ref s).fl = s.fl ∧ (sysRecord type ref s).host = s.host ∧ (sysRecord type ref s).fab = s.fab ∧
    (sysRecord type ref s).eng = s.eng ∧ (sysRecord type ref s).img = s.img ∧ (sysRecord type ref s).pmc = s.pmc ∧
    (sysRecord type ref s).abt = s.abt ∧ (sysRecord type ref s).mode = s.mode ∧ (sysRecord type ref s).key = s.key ∧
    (sysRecord type ref s).sb = s.sb ∧ (sysRecord type ref s).pending = s.pending := by
  unfold sysRecord
  (repeat' split) <;> simp -implicitDefEqProofs (maxDischargeDepth := 6)

def Foot.sysRecord : List Reg := [.REC_RLINE, .REC_RSEQ, .REC_STAT]

@[simp] theorem sysRecord_rd (type ref : Nat) (s : State) (reg : Reg) (rix : Nat) (hav : avoids Foot.sysRecord reg = true) :
    (sysRecord type ref s).rd reg rix = s.rd reg rix := by
  have c0 : avoids Foot.putRecord reg = true := avoids_mono (by decide) hav
  unfold sysRecord
  (repeat' split) <;> simp -implicitDefEqProofs (maxDischargeDepth := 6) [*]

@[simp] theorem flushCopy_frame (l : List RRec) (used : Nat) (s : State) :
    ((flushCopy l used s)).1.env = s.env ∧ ((flushCopy l used s)).1.jrn = s.jrn ∧ ((flushCopy l used s)).1.err = s.err ∧
    ((flushCopy l used s)).1.ports = s.ports ∧ ((flushCopy l used s)).1.deck = s.deck ∧
    ((flushCopy l used s)).1.csn = s.csn ∧ ((flushCopy l used s)).1.fl = s.fl ∧ ((flushCopy l used s)).1.host = s.host ∧
    ((flushCopy l used s)).1.fab = s.fab ∧ ((flushCopy l used s)).1.eng = s.eng ∧ ((flushCopy l used s)).1.img = s.img ∧
    ((flushCopy l used s)).1.pmc = s.pmc ∧ ((flushCopy l used s)).1.abt = s.abt ∧ ((flushCopy l used s)).1.mode = s.mode ∧
    ((flushCopy l used s)).1.key = s.key ∧ ((flushCopy l used s)).1.sb = s.sb ∧ ((flushCopy l used s)).1.pending = s.pending := by
  induction l generalizing s used with
  | nil => simp [flushCopy]
  | cons x l ih =>
    unfold flushCopy
    dsimp only
    split <;> simp -implicitDefEqProofs [ih]

def Foot.flushCopy : List Reg := [.REC_RLINE, .REC_RSEQ, .REC_STAT]

@[simp] theorem flushCopy_rd (l : List RRec) (used : Nat) (s : State) (reg : Reg) (rix : Nat) (hav : avoids Foot.flushCopy reg = true) :
    ((flushCopy l used s)).1.rd reg rix = s.rd reg rix := by
  have c0 : avoids Foot.appendRing reg = true := avoids_mono (by decide) hav
  induction l generalizing s used with
  | nil => simp [flushCopy]
  | cons x l ih =>
    unfold flushCopy
    dsimp only
    split <;> simp -implicitDefEqProofs [ih, *]

@[simp] theorem pmcSchedule_frame (bits : Nat) (s : State) :
    (pmcSchedule bits s).env = s.env ∧ (pmcSchedule bits s).jrn = s.jrn ∧ (pmcSchedule bits s).err = s.err ∧
    (pmcSchedule bits s).ports = s.ports ∧ (pmcSchedule bits s).deck = s.deck ∧ (pmcSchedule bits s).csn = s.csn ∧
    (pmcSchedule bits s).fl = s.fl ∧ (pmcSchedule bits s).host = s.host ∧ (pmcSchedule bits s).fab = s.fab ∧
    (pmcSchedule bits s).eng = s.eng ∧ (pmcSchedule bits s).img = s.img ∧ (pmcSchedule bits s).rcd = s.rcd ∧
    (pmcSchedule bits s).abt = s.abt ∧ (pmcSchedule bits s).mode = s.mode ∧ (pmcSchedule bits s).key = s.key ∧
    (pmcSchedule bits s).sb = s.sb ∧ (pmcSchedule bits s).pending = s.pending := by
  unfold pmcSchedule
  (repeat' split) <;> simp -implicitDefEqProofs (maxDischargeDepth := 6)

def Foot.pmcSchedule : List Reg := [.PMC_STAT]

@[simp] theorem pmcSchedule_rd (bits : Nat) (s : State) (reg : Reg) (rix : Nat) (hav : avoids Foot.pmcSchedule reg = true) :
    (pmcSchedule bits s).rd reg rix = s.rd reg rix := by
  have f0 : reg ≠ F.PMC_STAT_PENDING.reg := avoids_ne (by decide) hav
  unfold pmcSchedule
  (repeat' split) <;> simp -implicitDefEqProofs (maxDischargeDepth := 6) [*]

@[simp] theorem blockReset_frame (b : Nat) (s : State) :
    (blockReset b s).env = s.env ∧ (blockReset b s).jrn = s.jrn ∧ (blockReset b s).err = s.err ∧
    (blockReset b s).ports = s.ports ∧ (blockReset b s).deck = s.deck ∧ (blockReset b s).csn = s.csn ∧
    (blockReset b s).fl = s.fl ∧ (blockReset b s).host = s.host ∧ (blockReset b s).fab = s.fab ∧
    (blockReset b s).eng = s.eng ∧ (blockReset b s).img = s.img ∧ (blockReset b s).rcd = s.rcd ∧
    (blockReset b s).abt = s.abt ∧ (blockReset b s).mode = s.mode ∧ (blockReset b s).key = s.key ∧
    (blockReset b s).sb = s.sb ∧ (blockReset b s).pending = s.pending := by
  unfold blockReset
  (repeat' split) <;> simp -implicitDefEqProofs (maxDischargeDepth := 6)

def Foot.blockReset : List Reg := [.PMC_BSTAT, .PMC_CNT]

@[simp] theorem blockReset_rd (b : Nat) (s : State) (reg : Reg) (rix : Nat) (hav : avoids Foot.blockReset reg = true) :
    (blockReset b s).rd reg rix = s.rd reg rix := by
  have f0 : reg ≠ F.PMC_BSTAT_OVF.reg := avoids_ne (by decide) hav
  have f1 : reg ≠ .PMC_CNT := avoids_ne (by decide) hav
  unfold blockReset
  (repeat' split) <;> simp -implicitDefEqProofs (maxDischargeDepth := 6) [*]

@[simp] theorem fire_frame (t src v : Nat) (at_ : Nat × Bool) (s : State) :
    (fire t src v at_ s).jrn = s.jrn ∧ (fire t src v at_ s).csn = s.csn ∧ (fire t src v at_ s).fl = s.fl ∧
    (fire t src v at_ s).fab = s.fab ∧ (fire t src v at_ s).eng = s.eng ∧ (fire t src v at_ s).img = s.img ∧
    (fire t src v at_ s).abt = s.abt ∧ (fire t src v at_ s).mode = s.mode ∧ (fire t src v at_ s).key = s.key ∧
    (fire t src v at_ s).sb = s.sb ∧ (fire t src v at_ s).pending = s.pending := by
  unfold fire
  (repeat' split) <;> simp -implicitDefEqProofs (maxDischargeDepth := 6)

def Foot.fire : List Reg := [.PIR_BUFEXP, .PIR_BUFOCC, .PIR_CPLTRK, .PIR_ERRCNT2, .PIR_EXPMON, .PIR_FBPORT, .PMC_STAT, .REC_TRGCFG, .REC_TRGCNT]

@[simp] theorem fire_rd (t src v : Nat) (at_ : Nat × Bool) (s : State) (reg : Reg) (rix : Nat) (hav : avoids Foot.fire reg = true) :
    (fire t src v at_ s).rd reg rix = s.rd reg rix := by
  have c0 : avoids Foot.msixOwner reg = true := avoids_mono (by decide) hav
  have c1 : avoids Foot.pmcSchedule reg = true := avoids_mono (by decide) hav
  have f0 : reg ≠ F.REC_TRGCFG_EN.reg := avoids_ne (by decide) hav
  have f1 : reg ≠ F.REC_TRGCNT_MERGED.reg := avoids_ne (by decide) hav
  unfold fire
  (repeat' split) <;> simp -implicitDefEqProofs (maxDischargeDepth := 6) [*]

@[simp] theorem trigEvent_frame (src v : Nat) (at_ : Nat × Bool) (s : State) :
    (trigEvent src v at_ s).jrn = s.jrn ∧ (trigEvent src v at_ s).csn = s.csn ∧ (trigEvent src v at_ s).fl = s.fl ∧
    (trigEvent src v at_ s).fab = s.fab ∧ (trigEvent src v at_ s).eng = s.eng ∧ (trigEvent src v at_ s).img = s.img ∧
    (trigEvent src v at_ s).abt = s.abt ∧ (trigEvent src v at_ s).mode = s.mode ∧ (trigEvent src v at_ s).key = s.key ∧
    (trigEvent src v at_ s).sb = s.sb ∧ (trigEvent src v at_ s).pending = s.pending := by
  unfold trigEvent
  (repeat' split) <;> simp -implicitDefEqProofs (maxDischargeDepth := 6)

def Foot.trigEvent : List Reg := [.PIR_BUFEXP, .PIR_BUFOCC, .PIR_CPLTRK, .PIR_ERRCNT2, .PIR_EXPMON, .PIR_FBPORT, .PMC_STAT, .REC_TRGCFG, .REC_TRGCNT]

@[simp] theorem trigEvent_rd (src v : Nat) (at_ : Nat × Bool) (s : State) (reg : Reg) (rix : Nat) (hav : avoids Foot.trigEvent reg = true) :
    (trigEvent src v at_ s).rd reg rix = s.rd reg rix := by
  have c0 : avoids Foot.fire reg = true := avoids_mono (by decide) hav
  unfold trigEvent
  (repeat' split) <;> simp -implicitDefEqProofs (maxDischargeDepth := 6) [*]

@[simp] theorem setMode_frame (m : Nat) (s : State) :
    (setMode m s).jrn = s.jrn ∧ (setMode m s).csn = s.csn ∧ (setMode m s).fl = s.fl ∧ (setMode m s).fab = s.fab ∧
    (setMode m s).eng = s.eng ∧ (setMode m s).img = s.img ∧ (setMode m s).abt = s.abt ∧ (setMode m s).mode = s.mode ∧
    (setMode m s).key = s.key ∧ (setMode m s).sb = s.sb ∧ (setMode m s).pending = s.pending := by
  unfold setMode
  (repeat' split) <;> simp -implicitDefEqProofs (maxDischargeDepth := 6)

def Foot.setMode : List Reg := [.GLB_MODE, .PIR_BUFEXP, .PIR_BUFOCC, .PIR_CPLTRK, .PIR_ERRCNT2, .PIR_EXPMON, .PIR_FBPORT, .PMC_STAT, .REC_TRGCFG, .REC_TRGCNT]

@[simp] theorem setMode_rd (m : Nat) (s : State) (reg : Reg) (rix : Nat) (hav : avoids Foot.setMode reg = true) :
    (setMode m s).rd reg rix = s.rd reg rix := by
  have c0 : avoids Foot.trigEvent reg = true := avoids_mono (by decide) hav
  have f0 : reg ≠ F.GLB_MODE_MODE.reg := avoids_ne (by decide) hav
  unfold setMode
  (repeat' split) <;> simp -implicitDefEqProofs (maxDischargeDepth := 6) [*]

@[simp] theorem counterWrap_frame (b k : Nat) (s : State) :
    (counterWrap b k s).jrn = s.jrn ∧ (counterWrap b k s).csn = s.csn ∧ (counterWrap b k s).fl = s.fl ∧
    (counterWrap b k s).fab = s.fab ∧ (counterWrap b k s).img = s.img ∧ (counterWrap b k s).abt = s.abt ∧
    (counterWrap b k s).mode = s.mode ∧ (counterWrap b k s).key = s.key ∧ (counterWrap b k s).sb = s.sb ∧
    (counterWrap b k s).pending = s.pending := by
  unfold counterWrap
  (repeat' split) <;> simp -implicitDefEqProofs (maxDischargeDepth := 6)

def Foot.counterWrap : List Reg := [.ENG_STAT, .PIR_BUFEXP, .PIR_BUFOCC, .PIR_CPLTRK, .PIR_ERRCNT2, .PIR_EXPMON, .PIR_FBPORT, .PMC_BSTAT, .PMC_STAT, .REC_TRGCFG, .REC_TRGCNT]

@[simp] theorem counterWrap_rd (b k : Nat) (s : State) (reg : Reg) (rix : Nat) (hav : avoids Foot.counterWrap reg = true) :
    (counterWrap b k s).rd reg rix = s.rd reg rix := by
  have c0 : avoids Foot.msixOwner reg = true := avoids_mono (by decide) hav
  have c1 : avoids Foot.offer reg = true := avoids_mono (by decide) hav
  have c2 : avoids Foot.trigEvent reg = true := avoids_mono (by decide) hav
  have f0 : reg ≠ F.PMC_BSTAT_OVF.reg := avoids_ne (by decide) hav
  unfold counterWrap
  (repeat' split) <;> simp -implicitDefEqProofs (maxDischargeDepth := 6) [*]

@[simp] theorem count_frame (b ev : Nat) (sub : Nat → Bool) (n : Nat) (s : State) :
    (count b ev sub n s).jrn = s.jrn ∧ (count b ev sub n s).csn = s.csn ∧ (count b ev sub n s).fl = s.fl ∧
    (count b ev sub n s).fab = s.fab ∧ (count b ev sub n s).img = s.img ∧ (count b ev sub n s).abt = s.abt ∧
    (count b ev sub n s).mode = s.mode ∧ (count b ev sub n s).key = s.key ∧ (count b ev sub n s).sb = s.sb ∧
    (count b ev sub n s).pending = s.pending := by
  unfold count
  (repeat' split) <;> simp -implicitDefEqProofs (maxDischargeDepth := 6)

def Foot.count : List Reg := [.ENG_STAT, .PIR_BUFEXP, .PIR_BUFOCC, .PIR_CPLTRK, .PIR_ERRCNT2, .PIR_EXPMON, .PIR_FBPORT, .PMC_BSTAT, .PMC_CNT, .PMC_STAT, .REC_TRGCFG, .REC_TRGCNT]

@[simp] theorem count_rd (b ev : Nat) (sub : Nat → Bool) (n : Nat) (s : State) (reg : Reg) (rix : Nat) (hav : avoids Foot.count reg = true) :
    (count b ev sub n s).rd reg rix = s.rd reg rix := by
  have c0 : avoids Foot.counterWrap reg = true := avoids_mono (by decide) hav
  have f0 : reg ≠ .PMC_CNT := avoids_ne (by decide) hav
  unfold count
  (repeat' split) <;> simp -implicitDefEqProofs (maxDischargeDepth := 6) [*]

@[simp] theorem gateLog_frame (g : GateLog) (s : State) :
    (gateLog g s).jrn = s.jrn ∧ (gateLog g s).csn = s.csn ∧ (gateLog g s).fl = s.fl ∧ (gateLog g s).img = s.img ∧
    (gateLog g s).abt = s.abt ∧ (gateLog g s).mode = s.mode ∧ (gateLog g s).key = s.key ∧ (gateLog g s).sb = s.sb ∧
    (gateLog g s).pending = s.pending := by
  unfold gateLog
  (repeat' split) <;> simp -implicitDefEqProofs (maxDischargeDepth := 6)

def Foot.gateLog : List Reg := [.ENG_STAT, .GTE_LOGE, .GTE_LOGSTAT, .PIR_BUFEXP, .PIR_BUFOCC, .PIR_CPLTRK, .PIR_ERRCNT2, .PIR_EXPMON, .PIR_FBPORT, .PMC_BSTAT, .PMC_CNT, .PMC_STAT, .REC_TRGCFG, .REC_TRGCNT]

@[simp] theorem gateLog_rd (g : GateLog) (s : State) (reg : Reg) (rix : Nat) (hav : avoids Foot.gateLog reg = true) :
    (gateLog g s).rd reg rix = s.rd reg rix := by
  have c0 : avoids Foot.pushRecVs reg = true := avoids_mono (by decide) hav
  have c1 : avoids Foot.count reg = true := avoids_mono (by decide) hav
  have f0 : reg ≠ F.GTE_LOGSTAT_NEXT.reg := avoids_ne (by decide) hav
  have f1 : reg ≠ F.GTE_LOGSTAT_TOTAL.reg := avoids_ne (by decide) hav
  have f2 : reg ≠ .GTE_LOGE := avoids_ne (by decide) hav
  unfold gateLog
  (repeat' split) <;> simp -implicitDefEqProofs (maxDischargeDepth := 6) [*]

@[simp] theorem setBank_frame (b : Nat) (x : Bank) (s : State) :
    (setBank b x s).env = s.env ∧ (setBank b x s).jrn = s.jrn ∧ (setBank b x s).err = s.err ∧
    (setBank b x s).ports = s.ports ∧ (setBank b x s).deck = s.deck ∧ (setBank b x s).csn = s.csn ∧
    (setBank b x s).fl = s.fl ∧ (setBank b x s).host = s.host ∧ (setBank b x s).fab = s.fab ∧ (setBank b x s).eng = s.eng ∧
    (setBank b x s).rcd = s.rcd ∧ (setBank b x s).pmc = s.pmc ∧ (setBank b x s).abt = s.abt ∧
    (setBank b x s).mode = s.mode ∧ (setBank b x s).key = s.key ∧ (setBank b x s).sb = s.sb ∧
    (setBank b x s).pending = s.pending := by
  unfold setBank
  (repeat' split) <;> simp -implicitDefEqProofs (maxDischargeDepth := 6)

def Foot.setBank : List Reg := []

@[simp] theorem setBank_rd (b : Nat) (x : Bank) (s : State) (reg : Reg) (rix : Nat) (hav : avoids Foot.setBank reg = true) :
    (setBank b x s).rd reg rix = s.rd reg rix := by
  unfold setBank
  (repeat' split) <;> simp -implicitDefEqProofs (maxDischargeDepth := 6) [*]

@[simp] theorem bankTouched_frame (b : Nat) (s : State) :
    (bankTouched b s).env = s.env ∧ (bankTouched b s).jrn = s.jrn ∧ (bankTouched b s).err = s.err ∧
    (bankTouched b s).ports = s.ports ∧ (bankTouched b s).deck = s.deck ∧ (bankTouched b s).csn = s.csn ∧
    (bankTouched b s).fl = s.fl ∧ (bankTouched b s).host = s.host ∧ (bankTouched b s).fab = s.fab ∧
    (bankTouched b s).eng = s.eng ∧ (bankTouched b s).img = s.img ∧ (bankTouched b s).rcd = s.rcd ∧
    (bankTouched b s).pmc = s.pmc ∧ (bankTouched b s).abt = s.abt ∧ (bankTouched b s).mode = s.mode ∧
    (bankTouched b s).key = s.key ∧ (bankTouched b s).sb = s.sb ∧ (bankTouched b s).pending = s.pending := by
  unfold bankTouched
  (repeat' split) <;> simp -implicitDefEqProofs (maxDischargeDepth := 6)

def Foot.bankTouched : List Reg := [.GLB_BANKSTAT]

@[simp] theorem bankTouched_rd (b : Nat) (s : State) (reg : Reg) (rix : Nat) (hav : avoids Foot.bankTouched reg = true) :
    (bankTouched b s).rd reg rix = s.rd reg rix := by
  have f0 : reg ≠ F.GLB_BANKSTAT_STATE.reg := avoids_ne (by decide) hav
  have f1 : reg ≠ .GLB_BANKSTAT := avoids_ne (by decide) hav
  unfold bankTouched
  (repeat' split) <;> simp -implicitDefEqProofs (maxDischargeDepth := 6) [*]

@[simp] theorem drawNonce_frame (s : State) :
    (drawNonce s).env = s.env ∧ (drawNonce s).jrn = s.jrn ∧ (drawNonce s).err = s.err ∧ (drawNonce s).ports = s.ports ∧
    (drawNonce s).deck = s.deck ∧ (drawNonce s).csn = s.csn ∧ (drawNonce s).fl = s.fl ∧ (drawNonce s).host = s.host ∧
    (drawNonce s).fab = s.fab ∧ (drawNonce s).eng = s.eng ∧ (drawNonce s).img = s.img ∧ (drawNonce s).rcd = s.rcd ∧
    (drawNonce s).pmc = s.pmc ∧ (drawNonce s).abt = s.abt ∧ (drawNonce s).mode = s.mode ∧ (drawNonce s).sb = s.sb ∧
    (drawNonce s).pending = s.pending := by
  unfold drawNonce
  (repeat' split) <;> simp -implicitDefEqProofs (maxDischargeDepth := 6)

def Foot.drawNonce : List Reg := [.KEY_NONCE]

@[simp] theorem drawNonce_rd (s : State) (reg : Reg) (rix : Nat) (hav : avoids Foot.drawNonce reg = true) :
    (drawNonce s).rd reg rix = s.rd reg rix := by
  have f0 : reg ≠ .KEY_NONCE := avoids_ne (by decide) hav
  unfold drawNonce
  (repeat' split) <;> simp -implicitDefEqProofs (maxDischargeDepth := 6) [*]

@[simp] theorem setAuthErr_frame (code : Nat) (s : State) :
    (setAuthErr code s).env = s.env ∧ (setAuthErr code s).jrn = s.jrn ∧ (setAuthErr code s).err = s.err ∧
    (setAuthErr code s).ports = s.ports ∧ (setAuthErr code s).deck = s.deck ∧ (setAuthErr code s).csn = s.csn ∧
    (setAuthErr code s).fl = s.fl ∧ (setAuthErr code s).host = s.host ∧ (setAuthErr code s).fab = s.fab ∧
    (setAuthErr code s).eng = s.eng ∧ (setAuthErr code s).img = s.img ∧ (setAuthErr code s).rcd = s.rcd ∧
    (setAuthErr code s).pmc = s.pmc ∧ (setAuthErr code s).abt = s.abt ∧ (setAuthErr code s).mode = s.mode ∧
    (setAuthErr code s).key = s.key ∧ (setAuthErr code s).sb = s.sb ∧ (setAuthErr code s).pending = s.pending := by
  unfold setAuthErr
  (repeat' split) <;> simp -implicitDefEqProofs (maxDischargeDepth := 6)

def Foot.setAuthErr : List Reg := [.KEY_STAT]

@[simp] theorem setAuthErr_rd (code : Nat) (s : State) (reg : Reg) (rix : Nat) (hav : avoids Foot.setAuthErr reg = true) :
    (setAuthErr code s).rd reg rix = s.rd reg rix := by
  have f0 : reg ≠ F.KEY_STAT_AUTHERR.reg := avoids_ne (by decide) hav
  unfold setAuthErr
  (repeat' split) <;> simp -implicitDefEqProofs (maxDischargeDepth := 6) [*]

@[simp] theorem attempt_frame (code : Nat) (s : State) :
    (attempt code s).env = s.env ∧ (attempt code s).jrn = s.jrn ∧ (attempt code s).err = s.err ∧
    (attempt code s).ports = s.ports ∧ (attempt code s).deck = s.deck ∧ (attempt code s).csn = s.csn ∧
    (attempt code s).fl = s.fl ∧ (attempt code s).host = s.host ∧ (attempt code s).fab = s.fab ∧
    (attempt code s).eng = s.eng ∧ (attempt code s).img = s.img ∧ (attempt code s).rcd = s.rcd ∧
    (attempt code s).pmc = s.pmc ∧ (attempt code s).abt = s.abt ∧ (attempt code s).mode = s.mode ∧
    (attempt code s).sb = s.sb ∧ (attempt code s).pending = s.pending := by
  unfold attempt
  (repeat' split) <;> simp -implicitDefEqProofs (maxDischargeDepth := 6)

def Foot.attempt : List Reg := [.KEY_NONCE, .KEY_STAT]

@[simp] theorem attempt_rd (code : Nat) (s : State) (reg : Reg) (rix : Nat) (hav : avoids Foot.attempt reg = true) :
    (attempt code s).rd reg rix = s.rd reg rix := by
  have c0 : avoids Foot.drawNonce reg = true := avoids_mono (by decide) hav
  have c1 : avoids Foot.setAuthErr reg = true := avoids_mono (by decide) hav
  unfold attempt
  (repeat' split) <;> simp -implicitDefEqProofs (maxDischargeDepth := 6) [*]

@[simp] theorem provision_frame (s : State) :
    ((provision s)).1.env = s.env ∧ ((provision s)).1.jrn = s.jrn ∧ ((provision s)).1.err = s.err ∧
    ((provision s)).1.ports = s.ports ∧ ((provision s)).1.deck = s.deck ∧ ((provision s)).1.csn = s.csn ∧
    ((provision s)).1.fl = s.fl ∧ ((provision s)).1.host = s.host ∧ ((provision s)).1.fab = s.fab ∧
    ((provision s)).1.eng = s.eng ∧ ((provision s)).1.img = s.img ∧ ((provision s)).1.rcd = s.rcd ∧
    ((provision s)).1.pmc = s.pmc ∧ ((provision s)).1.abt = s.abt ∧ ((provision s)).1.mode = s.mode ∧
    ((provision s)).1.sb = s.sb ∧ ((provision s)).1.pending = s.pending := by
  unfold provision
  (repeat' split) <;> (try simp -implicitDefEqProofs (maxDischargeDepth := 6)) <;> (repeat' split) <;> simp -implicitDefEqProofs (maxDischargeDepth := 6)

def Foot.provision : List Reg := [.KEY_NONCE, .KEY_SLOT, .KEY_SLOTHASH, .KEY_STAT]

@[simp] theorem provision_rd (s : State) (reg : Reg) (rix : Nat) (hav : avoids Foot.provision reg = true) :
    ((provision s)).1.rd reg rix = s.rd reg rix := by
  have c0 : avoids Foot.attempt reg = true := avoids_mono (by decide) hav
  have f0 : reg ≠ F.KEY_SLOT_STATE.reg := avoids_ne (by decide) hav
  have f1 : reg ≠ .KEY_SLOTHASH := avoids_ne (by decide) hav
  unfold provision
  (repeat' split) <;> (try simp -implicitDefEqProofs (maxDischargeDepth := 6) [*]) <;> (repeat' split) <;> simp -implicitDefEqProofs (maxDischargeDepth := 6) [*]

@[simp] theorem revoke_frame (s : State) :
    ((revoke s)).1.env = s.env ∧ ((revoke s)).1.jrn = s.jrn ∧ ((revoke s)).1.err = s.err ∧ ((revoke s)).1.ports = s.ports ∧
    ((revoke s)).1.deck = s.deck ∧ ((revoke s)).1.csn = s.csn ∧ ((revoke s)).1.fl = s.fl ∧ ((revoke s)).1.host = s.host ∧
    ((revoke s)).1.fab = s.fab ∧ ((revoke s)).1.eng = s.eng ∧ ((revoke s)).1.img = s.img ∧ ((revoke s)).1.rcd = s.rcd ∧
    ((revoke s)).1.pmc = s.pmc ∧ ((revoke s)).1.abt = s.abt ∧ ((revoke s)).1.mode = s.mode ∧ ((revoke s)).1.sb = s.sb ∧
    ((revoke s)).1.pending = s.pending := by
  unfold revoke
  (repeat' split) <;> (try simp -implicitDefEqProofs (maxDischargeDepth := 6)) <;> (repeat' split) <;> simp -implicitDefEqProofs (maxDischargeDepth := 6)

def Foot.revoke : List Reg := [.KEY_NONCE, .KEY_SLOT, .KEY_STAT]

@[simp] theorem revoke_rd (s : State) (reg : Reg) (rix : Nat) (hav : avoids Foot.revoke reg = true) :
    ((revoke s)).1.rd reg rix = s.rd reg rix := by
  have c0 : avoids Foot.attempt reg = true := avoids_mono (by decide) hav
  have f0 : reg ≠ F.KEY_SLOT_STATE.reg := avoids_ne (by decide) hav
  unfold revoke
  (repeat' split) <;> (try simp -implicitDefEqProofs (maxDischargeDepth := 6) [*]) <;> (repeat' split) <;> simp -implicitDefEqProofs (maxDischargeDepth := 6) [*]

@[simp] theorem stageErase_frame (c : Nat) (s : State) :
    ((stageErase c s)).1.env = s.env ∧ ((stageErase c s)).1.jrn = s.jrn ∧ ((stageErase c s)).1.err = s.err ∧
    ((stageErase c s)).1.ports = s.ports ∧ ((stageErase c s)).1.deck = s.deck ∧ ((stageErase c s)).1.csn = s.csn ∧
    ((stageErase c s)).1.fl = s.fl ∧ ((stageErase c s)).1.host = s.host ∧ ((stageErase c s)).1.fab = s.fab ∧
    ((stageErase c s)).1.eng = s.eng ∧ ((stageErase c s)).1.img = s.img ∧ ((stageErase c s)).1.rcd = s.rcd ∧
    ((stageErase c s)).1.pmc = s.pmc ∧ ((stageErase c s)).1.abt = s.abt ∧ ((stageErase c s)).1.mode = s.mode ∧
    ((stageErase c s)).1.sb = s.sb ∧ ((stageErase c s)).1.pending = s.pending := by
  unfold stageErase
  (repeat' split) <;> simp -implicitDefEqProofs (maxDischargeDepth := 6)

def Foot.stageErase : List Reg := [.KEY_STAT]

@[simp] theorem stageErase_rd (c : Nat) (s : State) (reg : Reg) (rix : Nat) (hav : avoids Foot.stageErase reg = true) :
    ((stageErase c s)).1.rd reg rix = s.rd reg rix := by
  have c0 : avoids Foot.setAuthErr reg = true := avoids_mono (by decide) hav
  unfold stageErase
  (repeat' split) <;> simp -implicitDefEqProofs (maxDischargeDepth := 6) [*]

@[simp] theorem stageWrite_frame (privileged : Bool) (w : Word) (s : State) :
    ((stageWrite privileged w s)).1.env = s.env ∧ ((stageWrite privileged w s)).1.jrn = s.jrn ∧
    ((stageWrite privileged w s)).1.err = s.err ∧ ((stageWrite privileged w s)).1.ports = s.ports ∧
    ((stageWrite privileged w s)).1.deck = s.deck ∧ ((stageWrite privileged w s)).1.csn = s.csn ∧
    ((stageWrite privileged w s)).1.fl = s.fl ∧ ((stageWrite privileged w s)).1.host = s.host ∧
    ((stageWrite privileged w s)).1.fab = s.fab ∧ ((stageWrite privileged w s)).1.eng = s.eng ∧
    ((stageWrite privileged w s)).1.img = s.img ∧ ((stageWrite privileged w s)).1.rcd = s.rcd ∧
    ((stageWrite privileged w s)).1.pmc = s.pmc ∧ ((stageWrite privileged w s)).1.abt = s.abt ∧
    ((stageWrite privileged w s)).1.mode = s.mode ∧ ((stageWrite privileged w s)).1.sb = s.sb ∧
    ((stageWrite privileged w s)).1.pending = s.pending := by
  unfold stageWrite
  (repeat' split) <;> (try simp -implicitDefEqProofs (maxDischargeDepth := 6)) <;> (repeat' split) <;> simp -implicitDefEqProofs (maxDischargeDepth := 6)

def Foot.stageWrite : List Reg := [.KEY_STAT, .KEY_STGADDR]

@[simp] theorem stageWrite_rd (privileged : Bool) (w : Word) (s : State) (reg : Reg) (rix : Nat) (hav : avoids Foot.stageWrite reg = true) :
    ((stageWrite privileged w s)).1.rd reg rix = s.rd reg rix := by
  have c0 : avoids Foot.setAuthErr reg = true := avoids_mono (by decide) hav
  have f0 : reg ≠ .KEY_STGADDR := avoids_ne (by decide) hav
  unfold stageWrite
  (repeat' split) <;> (try simp -implicitDefEqProofs (maxDischargeDepth := 6) [*]) <;> (repeat' split) <;> simp -implicitDefEqProofs (maxDischargeDepth := 6) [*]

@[simp] theorem keyCmd_frame (w : Word) (s : State) :
    ((keyCmd w s)).1.env = s.env ∧ ((keyCmd w s)).1.jrn = s.jrn ∧ ((keyCmd w s)).1.err = s.err ∧
    ((keyCmd w s)).1.ports = s.ports ∧ ((keyCmd w s)).1.deck = s.deck ∧ ((keyCmd w s)).1.csn = s.csn ∧
    ((keyCmd w s)).1.fl = s.fl ∧ ((keyCmd w s)).1.host = s.host ∧ ((keyCmd w s)).1.fab = s.fab ∧
    ((keyCmd w s)).1.eng = s.eng ∧ ((keyCmd w s)).1.img = s.img ∧ ((keyCmd w s)).1.rcd = s.rcd ∧
    ((keyCmd w s)).1.pmc = s.pmc ∧ ((keyCmd w s)).1.abt = s.abt ∧ ((keyCmd w s)).1.mode = s.mode ∧
    ((keyCmd w s)).1.sb = s.sb ∧ ((keyCmd w s)).1.pending = s.pending := by
  unfold keyCmd
  (repeat' split) <;> simp -implicitDefEqProofs (maxDischargeDepth := 6)

def Foot.keyCmd : List Reg := [.KEY_NONCE, .KEY_SLOT, .KEY_SLOTHASH, .KEY_STAT]

@[simp] theorem keyCmd_rd (w : Word) (s : State) (reg : Reg) (rix : Nat) (hav : avoids Foot.keyCmd reg = true) :
    ((keyCmd w s)).1.rd reg rix = s.rd reg rix := by
  have c0 : avoids Foot.setAuthErr reg = true := avoids_mono (by decide) hav
  have c1 : avoids Foot.provision reg = true := avoids_mono (by decide) hav
  have c2 : avoids Foot.revoke reg = true := avoids_mono (by decide) hav
  have c3 : avoids Foot.stageErase reg = true := avoids_mono (by decide) hav
  unfold keyCmd
  (repeat' split) <;> simp -implicitDefEqProofs (maxDischargeDepth := 6) [*]

@[simp] theorem mramWipe_frame (s : State) :
    (mramWipe s).env = s.env ∧ (mramWipe s).err = s.err ∧ (mramWipe s).ports = s.ports ∧ (mramWipe s).deck = s.deck ∧
    (mramWipe s).fl = s.fl ∧ (mramWipe s).host = s.host ∧ (mramWipe s).fab = s.fab ∧ (mramWipe s).eng = s.eng ∧
    (mramWipe s).img = s.img ∧ (mramWipe s).pmc = s.pmc ∧ (mramWipe s).key = s.key ∧ (mramWipe s).pending = s.pending := by
  unfold mramWipe
  (repeat' split) <;> simp -implicitDefEqProofs (maxDischargeDepth := 6)

def Foot.mramWipe : List Reg := [.ABT_ENERGY, .REC_PFLOG, .REC_PFSTAT, .REC_RLINE, .REC_RSEQ, .REC_STAT]

@[simp] theorem mramWipe_rd (s : State) (reg : Reg) (rix : Nat) (hav : avoids Foot.mramWipe reg = true) :
    (mramWipe s).rd reg rix = s.rd reg rix := by
  have f0 : reg ≠ F.REC_STAT_UNFLUSHED.reg := avoids_ne (by decide) hav
  have f1 : reg ≠ .ABT_ENERGY := avoids_ne (by decide) hav
  have f2 : reg ≠ .REC_PFLOG := avoids_ne (by decide) hav
  have f3 : reg ≠ .REC_PFSTAT := avoids_ne (by decide) hav
  have f4 : reg ≠ .REC_RLINE := avoids_ne (by decide) hav
  have f5 : reg ≠ .REC_RSEQ := avoids_ne (by decide) hav
  unfold mramWipe
  (repeat' split) <;> simp -implicitDefEqProofs (maxDischargeDepth := 6) [*]

@[simp] theorem setHead_frame (q : Nat) (s : State) :
    (setHead q s).env = s.env ∧ (setHead q s).jrn = s.jrn ∧ (setHead q s).err = s.err ∧ (setHead q s).ports = s.ports ∧
    (setHead q s).deck = s.deck ∧ (setHead q s).csn = s.csn ∧ (setHead q s).fl = s.fl ∧ (setHead q s).host = s.host ∧
    (setHead q s).fab = s.fab ∧ (setHead q s).eng = s.eng ∧ (setHead q s).img = s.img ∧ (setHead q s).rcd = s.rcd ∧
    (setHead q s).pmc = s.pmc ∧ (setHead q s).abt = s.abt ∧ (setHead q s).mode = s.mode ∧ (setHead q s).key = s.key ∧
    (setHead q s).sb = s.sb ∧ (setHead q s).pending = s.pending := by
  unfold setHead
  (repeat' split) <;> simp -implicitDefEqProofs (maxDischargeDepth := 6)

def Foot.setHead : List Reg := [.JNL_HEAD, .JNL_TAIL]

@[simp] theorem setHead_rd (q : Nat) (s : State) (reg : Reg) (rix : Nat) (hav : avoids Foot.setHead reg = true) :
    (setHead q s).rd reg rix = s.rd reg rix := by
  have f0 : reg ≠ .JNL_HEAD := avoids_ne (by decide) hav
  have f1 : reg ≠ .JNL_TAIL := avoids_ne (by decide) hav
  unfold setHead
  (repeat' split) <;> simp -implicitDefEqProofs (maxDischargeDepth := 6) [*]

@[simp] theorem journalThreshold_frame (s : State) :
    (journalThreshold s).csn = s.csn ∧ (journalThreshold s).fl = s.fl ∧ (journalThreshold s).fab = s.fab ∧
    (journalThreshold s).eng = s.eng ∧ (journalThreshold s).img = s.img ∧ (journalThreshold s).rcd = s.rcd ∧
    (journalThreshold s).pmc = s.pmc ∧ (journalThreshold s).abt = s.abt ∧ (journalThreshold s).mode = s.mode ∧
    (journalThreshold s).key = s.key ∧ (journalThreshold s).sb = s.sb ∧ (journalThreshold s).pending = s.pending := by
  unfold journalThreshold
  (repeat' split) <;> simp -implicitDefEqProofs (maxDischargeDepth := 6)

def Foot.journalThreshold : List Reg := [.PIR_BUFEXP, .PIR_BUFOCC, .PIR_CPLTRK, .PIR_ERRCNT2, .PIR_EXPMON, .PIR_FBPORT]

@[simp] theorem journalThreshold_rd (s : State) (reg : Reg) (rix : Nat) (hav : avoids Foot.journalThreshold reg = true) :
    (journalThreshold s).rd reg rix = s.rd reg rix := by
  have c0 : avoids Foot.msixOwner reg = true := avoids_mono (by decide) hav
  unfold journalThreshold
  (repeat' split) <;> simp -implicitDefEqProofs (maxDischargeDepth := 6) [*]

@[simp] theorem reserveUp_frame (s : State) :
    (reserveUp s).env = s.env ∧ (reserveUp s).err = s.err ∧ (reserveUp s).ports = s.ports ∧ (reserveUp s).deck = s.deck ∧
    (reserveUp s).csn = s.csn ∧ (reserveUp s).fl = s.fl ∧ (reserveUp s).host = s.host ∧ (reserveUp s).fab = s.fab ∧
    (reserveUp s).eng = s.eng ∧ (reserveUp s).img = s.img ∧ (reserveUp s).rcd = s.rcd ∧ (reserveUp s).pmc = s.pmc ∧
    (reserveUp s).abt = s.abt ∧ (reserveUp s).mode = s.mode ∧ (reserveUp s).key = s.key ∧ (reserveUp s).sb = s.sb ∧
    (reserveUp s).pending = s.pending := by
  unfold reserveUp
  (repeat' split) <;> simp -implicitDefEqProofs (maxDischargeDepth := 6)

def Foot.reserveUp : List Reg := []

@[simp] theorem reserveUp_rd (s : State) (reg : Reg) (rix : Nat) (hav : avoids Foot.reserveUp reg = true) :
    (reserveUp s).rd reg rix = s.rd reg rix := by
  unfold reserveUp
  (repeat' split) <;> simp -implicitDefEqProofs (maxDischargeDepth := 6) [*]

@[simp] theorem storeEntry_frame (e : JEntry) (s : State) :
    (storeEntry e s).csn = s.csn ∧ (storeEntry e s).fl = s.fl ∧ (storeEntry e s).fab = s.fab ∧
    (storeEntry e s).img = s.img ∧ (storeEntry e s).abt = s.abt ∧ (storeEntry e s).mode = s.mode ∧
    (storeEntry e s).key = s.key ∧ (storeEntry e s).sb = s.sb ∧ (storeEntry e s).pending = s.pending := by
  refine ⟨?_, ?_, ?_, ?_, ?_, ?_, ?_, ?_, ?_⟩ <;>
  · unfold storeEntry
    simp -implicitDefEqProofs

def Foot.storeEntry : List Reg := [.ENG_STAT, .PIR_BUFEXP, .PIR_BUFOCC, .PIR_CPLTRK, .PIR_ERRCNT2, .PIR_EXPMON, .PIR_FBPORT, .PMC_BSTAT, .PMC_CNT, .PMC_STAT, .REC_TRGCFG, .REC_TRGCNT]

@[simp] theorem storeEntry_rd (e : JEntry) (s : State) (reg : Reg) (rix : Nat) (hav : avoids Foot.storeEntry reg = true) :
    (storeEntry e s).rd reg rix = s.rd reg rix := by
  have c0 : avoids Foot.count reg = true := avoids_mono (by decide) hav
  unfold storeEntry
  simp -implicitDefEqProofs (maxDischargeDepth := 6) [*]

@[simp] theorem numberEntry_frame (r : JReq) (s : State) :
    (numberEntry r s).csn = s.csn ∧ (numberEntry r s).fl = s.fl ∧ (numberEntry r s).fab = s.fab ∧
    (numberEntry r s).img = s.img ∧ (numberEntry r s).abt = s.abt ∧ (numberEntry r s).mode = s.mode ∧
    (numberEntry r s).key = s.key ∧ (numberEntry r s).sb = s.sb ∧ (numberEntry r s).pending = s.pending := by
  unfold numberEntry
  (repeat' split) <;> simp -implicitDefEqProofs (maxDischargeDepth := 6)

def Foot.numberEntry : List Reg := [.ENG_STAT, .JNL_HEAD, .JNL_TAIL, .PIR_BUFEXP, .PIR_BUFOCC, .PIR_CPLTRK, .PIR_ERRCNT2, .PIR_EXPMON, .PIR_FBPORT, .PMC_BSTAT, .PMC_CNT, .PMC_STAT, .REC_TRGCFG, .REC_TRGCNT]

@[simp] theorem numberEntry_rd (r : JReq) (s : State) (reg : Reg) (rix : Nat) (hav : avoids Foot.numberEntry reg = true) :
    (numberEntry r s).rd reg rix = s.rd reg rix := by
  have c0 : avoids Foot.setHead reg = true := avoids_mono (by decide) hav
  have c1 : avoids Foot.journalThreshold reg = true := avoids_mono (by decide) hav
  have c2 : avoids Foot.reserveUp reg = true := avoids_mono (by decide) hav
  have c3 : avoids Foot.storeEntry reg = true := avoids_mono (by decide) hav
  unfold numberEntry
  (repeat' split) <;> simp -implicitDefEqProofs (maxDischargeDepth := 6) [*]

@[simp] theorem keeperEntry_frame (r : JReq) (s : State) :
    (keeperEntry r s).csn = s.csn ∧ (keeperEntry r s).fl = s.fl ∧ (keeperEntry r s).fab = s.fab ∧
    (keeperEntry r s).img = s.img ∧ (keeperEntry r s).abt = s.abt ∧ (keeperEntry r s).mode = s.mode ∧
    (keeperEntry r s).key = s.key ∧ (keeperEntry r s).sb = s.sb ∧ (keeperEntry r s).pending = s.pending := by
  unfold keeperEntry
  (repeat' split) <;> simp -implicitDefEqProofs (maxDischargeDepth := 6)

def Foot.keeperEntry : List Reg := [.ENG_STAT, .JNL_HEAD, .JNL_TAIL, .PIR_BUFEXP, .PIR_BUFOCC, .PIR_CPLTRK, .PIR_ERRCNT2, .PIR_EXPMON, .PIR_FBPORT, .PMC_BSTAT, .PMC_CNT, .PMC_STAT, .REC_TRGCFG, .REC_TRGCNT]

@[simp] theorem keeperEntry_rd (r : JReq) (s : State) (reg : Reg) (rix : Nat) (hav : avoids Foot.keeperEntry reg = true) :
    (keeperEntry r s).rd reg rix = s.rd reg rix := by
  have c0 : avoids Foot.jPush reg = true := avoids_mono (by decide) hav
  have c1 : avoids Foot.numberEntry reg = true := avoids_mono (by decide) hav
  unfold keeperEntry
  (repeat' split) <;> simp -implicitDefEqProofs (maxDischargeDepth := 6) [*]

@[simp] theorem writeBack_frame (s : State) :
    (writeBack s).csn = s.csn ∧ (writeBack s).fl = s.fl ∧ (writeBack s).fab = s.fab ∧ (writeBack s).img = s.img ∧
    (writeBack s).abt = s.abt ∧ (writeBack s).mode = s.mode ∧ (writeBack s).key = s.key ∧ (writeBack s).sb = s.sb ∧
    (writeBack s).pending = s.pending := by
  unfold writeBack
  (repeat' split) <;> simp -implicitDefEqProofs (maxDischargeDepth := 6)

def Foot.writeBack : List Reg := [.ENG_STAT, .JNL_TAIL, .PIR_BUFEXP, .PIR_BUFOCC, .PIR_CPLTRK, .PIR_ERRCNT2, .PIR_EXPMON, .PIR_FBPORT, .PMC_BSTAT, .PMC_CNT, .PMC_STAT, .REC_TRGCFG, .REC_TRGCNT]

@[simp] theorem writeBack_rd (s : State) (reg : Reg) (rix : Nat) (hav : avoids Foot.writeBack reg = true) :
    (writeBack s).rd reg rix = s.rd reg rix := by
  have c0 : avoids Foot.count reg = true := avoids_mono (by decide) hav
  have f0 : reg ≠ .JNL_TAIL := avoids_ne (by decide) hav
  unfold writeBack
  (repeat' split) <;> simp -implicitDefEqProofs (maxDischargeDepth := 6) [*]

@[simp] theorem progress_frame (seq result : Nat) (s : State) :
    (progress seq result s).csn = s.csn ∧ (progress seq result s).fl = s.fl ∧ (progress seq result s).fab = s.fab ∧
    (progress seq result s).img = s.img ∧ (progress seq result s).abt = s.abt ∧ (progress seq result s).mode = s.mode ∧
    (progress seq result s).key = s.key ∧ (progress seq result s).sb = s.sb ∧ (progress seq result s).pending = s.pending := by
  unfold progress
  (repeat' split) <;> simp -implicitDefEqProofs (maxDischargeDepth := 6)

def Foot.progress : List Reg := [.ENG_STAT, .JNL_HEAD, .JNL_TAIL, .PIR_BUFEXP, .PIR_BUFOCC, .PIR_CPLTRK, .PIR_ERRCNT2, .PIR_EXPMON, .PIR_FBPORT, .PMC_BSTAT, .PMC_CNT, .PMC_STAT, .REC_TRGCFG, .REC_TRGCNT]

@[simp] theorem progress_rd (seq result : Nat) (s : State) (reg : Reg) (rix : Nat) (hav : avoids Foot.progress reg = true) :
    (progress seq result s).rd reg rix = s.rd reg rix := by
  have c0 : avoids Foot.keeperEntry reg = true := avoids_mono (by decide) hav
  unfold progress
  (repeat' split) <;> simp -implicitDefEqProofs (maxDischargeDepth := 6) [*]

@[simp] theorem notifyEnd_frame (c : Cmd) (s : State) :
    (notifyEnd c s).jrn = s.jrn ∧ (notifyEnd c s).csn = s.csn ∧ (notifyEnd c s).fl = s.fl ∧ (notifyEnd c s).fab = s.fab ∧
    (notifyEnd c s).eng = s.eng ∧ (notifyEnd c s).img = s.img ∧ (notifyEnd c s).rcd = s.rcd ∧ (notifyEnd c s).pmc = s.pmc ∧
    (notifyEnd c s).abt = s.abt ∧ (notifyEnd c s).mode = s.mode ∧ (notifyEnd c s).key = s.key ∧ (notifyEnd c s).sb = s.sb ∧
    (notifyEnd c s).pending = s.pending := by
  unfold notifyEnd
  (repeat' split) <;> simp -implicitDefEqProofs (maxDischargeDepth := 6)

def Foot.notifyEnd : List Reg := [.PIR_BUFEXP, .PIR_BUFOCC, .PIR_CPLTRK, .PIR_ERRCNT2, .PIR_EXPMON, .PIR_FBPORT]

@[simp] theorem notifyEnd_rd (c : Cmd) (s : State) (reg : Reg) (rix : Nat) (hav : avoids Foot.notifyEnd reg = true) :
    (notifyEnd c s).rd reg rix = s.rd reg rix := by
  have c0 : avoids Foot.msixRaise reg = true := avoids_mono (by decide) hav
  have c1 : avoids Foot.msixOwner reg = true := avoids_mono (by decide) hav
  unfold notifyEnd
  (repeat' split) <;> simp -implicitDefEqProofs (maxDischargeDepth := 6) [*]

@[simp] theorem keyCmdDrain_frame (s : State) :
    (keyCmdDrain s).csn = s.csn ∧ (keyCmdDrain s).fl = s.fl ∧ (keyCmdDrain s).fab = s.fab ∧ (keyCmdDrain s).img = s.img ∧
    (keyCmdDrain s).abt = s.abt ∧ (keyCmdDrain s).mode = s.mode ∧ (keyCmdDrain s).sb = s.sb ∧
    (keyCmdDrain s).pending = s.pending := by
  unfold keyCmdDrain
  (repeat' split) <;> simp -implicitDefEqProofs (maxDischargeDepth := 6)

def Foot.keyCmdDrain : List Reg := [.ENG_STAT, .JNL_HEAD, .JNL_TAIL, .KEY_NONCE, .KEY_SLOT, .KEY_SLOTHASH, .KEY_STAT, .PIR_BUFEXP, .PIR_BUFOCC, .PIR_CPLTRK, .PIR_ERRCNT2, .PIR_EXPMON, .PIR_FBPORT, .PMC_BSTAT, .PMC_CNT, .PMC_STAT, .REC_TRGCFG, .REC_TRGCNT]

@[simp] theorem keyCmdDrain_rd (s : State) (reg : Reg) (rix : Nat) (hav : avoids Foot.keyCmdDrain reg = true) :
    (keyCmdDrain s).rd reg rix = s.rd reg rix := by
  have c0 : avoids Foot.keyCmd reg = true := avoids_mono (by decide) hav
  have c1 : avoids Foot.keeperEntry reg = true := avoids_mono (by decide) hav
  unfold keyCmdDrain
  (repeat' split) <;> simp -implicitDefEqProofs (maxDischargeDepth := 6) [*]

@[simp] theorem endCmd_frame (seq status result arg : Nat) (s : State) :
    (endCmd seq status result arg s).csn = s.csn ∧ (endCmd seq status result arg s).fl = s.fl ∧
    (endCmd seq status result arg s).fab = s.fab ∧ (endCmd seq status result arg s).img = s.img ∧
    (endCmd seq status result arg s).abt = s.abt ∧ (endCmd seq status result arg s).mode = s.mode ∧
    (endCmd seq status result arg s).sb = s.sb ∧ (endCmd seq status result arg s).pending = s.pending := by
  unfold endCmd
  (repeat' split) <;> simp -implicitDefEqProofs (maxDischargeDepth := 6)

def Foot.endCmd : List Reg := [.ENG_STAT, .JNL_CMDRES, .JNL_HEAD, .JNL_STAT, .JNL_TAIL, .KEY_NONCE, .KEY_SLOT, .KEY_SLOTHASH, .KEY_STAT, .PIR_BUFEXP, .PIR_BUFOCC, .PIR_CPLTRK, .PIR_ERRCNT2, .PIR_EXPMON, .PIR_FBPORT, .PMC_BSTAT, .PMC_CNT, .PMC_STAT, .REC_TRGCFG, .REC_TRGCNT]

@[simp] theorem endCmd_rd (seq status result arg : Nat) (s : State) (reg : Reg) (rix : Nat) (hav : avoids Foot.endCmd reg = true) :
    (endCmd seq status result arg s).rd reg rix = s.rd reg rix := by
  have c0 : avoids Foot.refreshPending reg = true := avoids_mono (by decide) hav
  have c1 : avoids Foot.keeperEntry reg = true := avoids_mono (by decide) hav
  have c2 : avoids Foot.notifyEnd reg = true := avoids_mono (by decide) hav
  have c3 : avoids Foot.keyCmdDrain reg = true := avoids_mono (by decide) hav
  have f0 : reg ≠ F.JNL_CMDRES_RESULT.reg := avoids_ne (by decide) hav
  have f1 : reg ≠ F.JNL_CMDRES_STATE.reg := avoids_ne (by decide) hav
  have f2 : reg ≠ F.JNL_CMDRES_STATUS.reg := avoids_ne (by decide) hav
  unfold endCmd
  (repeat' split) <;> simp -implicitDefEqProofs (maxDischargeDepth := 6) [*]

@[simp] theorem okCmd_frame (seq : Nat) (s : State) :
    (okCmd seq s).csn = s.csn ∧ (okCmd seq s).fl = s.fl ∧ (okCmd seq s).fab = s.fab ∧ (okCmd seq s).img = s.img ∧
    (okCmd seq s).abt = s.abt ∧ (okCmd seq s).mode = s.mode ∧ (okCmd seq s).sb = s.sb ∧ (okCmd seq s).pending = s.pending := by
  unfold okCmd
  (repeat' split) <;> simp -implicitDefEqProofs (maxDischargeDepth := 6)

def Foot.okCmd : List Reg := [.ENG_STAT, .JNL_CMDRES, .JNL_HEAD, .JNL_STAT, .JNL_TAIL, .KEY_NONCE, .KEY_SLOT, .KEY_SLOTHASH, .KEY_STAT, .PIR_BUFEXP, .PIR_BUFOCC, .PIR_CPLTRK, .PIR_ERRCNT2, .PIR_EXPMON, .PIR_FBPORT, .PMC_BSTAT, .PMC_CNT, .PMC_STAT, .REC_TRGCFG, .REC_TRGCNT]

@[simp] theorem okCmd_rd (seq : Nat) (s : State) (reg : Reg) (rix : Nat) (hav : avoids Foot.okCmd reg = true) :
    (okCmd seq s).rd reg rix = s.rd reg rix := by
  have c0 : avoids Foot.endCmd reg = true := avoids_mono (by decide) hav
  unfold okCmd
  (repeat' split) <;> simp -implicitDefEqProofs (maxDischargeDepth := 6) [*]

@[simp] theorem failCmd_frame (seq code : Nat) (s : State) :
    (failCmd seq code s).csn = s.csn ∧ (failCmd seq code s).fl = s.fl ∧ (failCmd seq code s).fab = s.fab ∧
    (failCmd seq code s).img = s.img ∧ (failCmd seq code s).abt = s.abt ∧ (failCmd seq code s).mode = s.mode ∧
    (failCmd seq code s).sb = s.sb ∧ (failCmd seq code s).pending = s.pending := by
  unfold failCmd
  (repeat' split) <;> simp -implicitDefEqProofs (maxDischargeDepth := 6)

def Foot.failCmd : List Reg := [.ENG_STAT, .JNL_CMDRES, .JNL_HEAD, .JNL_STAT, .JNL_TAIL, .KEY_NONCE, .KEY_SLOT, .KEY_SLOTHASH, .KEY_STAT, .PIR_BUFEXP, .PIR_BUFOCC, .PIR_CPLTRK, .PIR_ERRCNT2, .PIR_EXPMON, .PIR_FBPORT, .PMC_BSTAT, .PMC_CNT, .PMC_STAT, .REC_TRGCFG, .REC_TRGCNT]

@[simp] theorem failCmd_rd (seq code : Nat) (s : State) (reg : Reg) (rix : Nat) (hav : avoids Foot.failCmd reg = true) :
    (failCmd seq code s).rd reg rix = s.rd reg rix := by
  have c0 : avoids Foot.endCmd reg = true := avoids_mono (by decide) hav
  unfold failCmd
  (repeat' split) <;> simp -implicitDefEqProofs (maxDischargeDepth := 6) [*]

@[simp] theorem runCmd_frame (seq : Nat) (s : State) :
    (runCmd seq s).env = s.env ∧ (runCmd seq s).err = s.err ∧ (runCmd seq s).ports = s.ports ∧
    (runCmd seq s).deck = s.deck ∧ (runCmd seq s).csn = s.csn ∧ (runCmd seq s).fl = s.fl ∧ (runCmd seq s).host = s.host ∧
    (runCmd seq s).fab = s.fab ∧ (runCmd seq s).eng = s.eng ∧ (runCmd seq s).img = s.img ∧ (runCmd seq s).rcd = s.rcd ∧
    (runCmd seq s).pmc = s.pmc ∧ (runCmd seq s).abt = s.abt ∧ (runCmd seq s).mode = s.mode ∧ (runCmd seq s).key = s.key ∧
    (runCmd seq s).sb = s.sb ∧ (runCmd seq s).pending = s.pending := by
  unfold runCmd
  (repeat' split) <;> simp -implicitDefEqProofs (maxDischargeDepth := 6)

def Foot.runCmd : List Reg := []

@[simp] theorem runCmd_rd (seq : Nat) (s : State) (reg : Reg) (rix : Nat) (hav : avoids Foot.runCmd reg = true) :
    (runCmd seq s).rd reg rix = s.rd reg rix := by
  unfold runCmd
  (repeat' split) <;> simp -implicitDefEqProofs (maxDischargeDepth := 6) [*]

end Sys2Proof.Machine
end

