-- ==== Sys2Proof/Laws/FramesB.lean ====
section
/-! SUPPORT. The frames of the containment, transfer and closing operations: the pieces of state each leaves alone, and the registers it may write (`Foot`). -/

set_option maxRecDepth 3000
set_option linter.all false

namespace Sys2Proof.Machine

/-- A request of a class runs, or waits. -/
theorem serve_cases (chs : List Nat) (k : Nat) (go : State → State) (s : State) :
    ∃ w, serve chs k go s = go { s with csn.waitAt := w } ∨ serve chs k go s = { s with csn.waitAt := w } := by
  unfold serve
  split
  · exact ⟨_, .inl rfl⟩
  · exact ⟨_, .inr rfl⟩

@[simp] theorem setChan_frame (c st : Nat) (s : State) :
    (setChan c st s).env = s.env ∧ (setChan c st s).jrn = s.jrn ∧ (setChan c st s).err = s.err ∧
    (setChan c st s).ports = s.ports ∧ (setChan c st s).deck = s.deck ∧ (setChan c st s).csn = s.csn ∧
    (setChan c st s).fl = s.fl ∧ (setChan c st s).host = s.host ∧ (setChan c st s).fab = s.fab ∧
    (setChan c st s).eng = s.eng ∧ (setChan c st s).img = s.img ∧ (setChan c st s).rcd = s.rcd ∧
    (setChan c st s).pmc = s.pmc ∧ (setChan c st s).abt = s.abt ∧ (setChan c st s).mode = s.mode ∧
    (setChan c st s).key = s.key ∧ (setChan c st s).sb = s.sb ∧ (setChan c st s).pending = s.pending := by
  unfold setChan
  (repeat' split) <;> simp -implicitDefEqProofs (maxDischargeDepth := 6)

def Foot.setChan : List Reg := [.CSN_CHSTAT, .CSN_STAT]

@[simp] theorem setChan_rd (c st : Nat) (s : State) (reg : Reg) (rix : Nat) (hav : avoids Foot.setChan reg = true) :
    (setChan c st s).rd reg rix = s.rd reg rix := by
  have f0 : reg ≠ F.CSN_CHSTAT_STATE.reg := avoids_ne (by decide) hav
  have f1 : reg ≠ F.CSN_STAT_CH_FAILED.reg := avoids_ne (by decide) hav
  have f2 : reg ≠ F.CSN_STAT_CH_LIVE.reg := avoids_ne (by decide) hav
  unfold setChan
  (repeat' split) <;> simp -implicitDefEqProofs (maxDischargeDepth := 6) [*]

@[simp] theorem refreshSpill_frame (n : Nat) (s : State) :
    (refreshSpill n s).env = s.env ∧ (refreshSpill n s).jrn = s.jrn ∧ (refreshSpill n s).err = s.err ∧
    (refreshSpill n s).ports = s.ports ∧ (refreshSpill n s).deck = s.deck ∧ (refreshSpill n s).csn = s.csn ∧
    (refreshSpill n s).fl = s.fl ∧ (refreshSpill n s).host = s.host ∧ (refreshSpill n s).fab = s.fab ∧
    (refreshSpill n s).eng = s.eng ∧ (refreshSpill n s).img = s.img ∧ (refreshSpill n s).rcd = s.rcd ∧
    (refreshSpill n s).pmc = s.pmc ∧ (refreshSpill n s).abt = s.abt ∧ (refreshSpill n s).mode = s.mode ∧
    (refreshSpill n s).key = s.key ∧ (refreshSpill n s).sb = s.sb ∧ (refreshSpill n s).pending = s.pending := by
  unfold refreshSpill
  (repeat' split) <;> simp -implicitDefEqProofs (maxDischargeDepth := 6)

def Foot.refreshSpill : List Reg := [.CSN_POOL, .CSN_PSPILL]

@[simp] theorem refreshSpill_rd (n : Nat) (s : State) (reg : Reg) (rix : Nat) (hav : avoids Foot.refreshSpill reg = true) :
    (refreshSpill n s).rd reg rix = s.rd reg rix := by
  have f0 : reg ≠ F.CSN_POOL_FREE_PAGES.reg := avoids_ne (by decide) hav
  have f1 : reg ≠ F.CSN_PSPILL_FLOWS.reg := avoids_ne (by decide) hav
  have f2 : reg ≠ F.CSN_PSPILL_USED.reg := avoids_ne (by decide) hav
  unfold refreshSpill
  (repeat' split) <;> simp -implicitDefEqProofs (maxDischargeDepth := 6) [*]

@[simp] theorem takePages_frame (f n : Nat) (s : State) :
    (takePages f n s).env = s.env ∧ (takePages f n s).jrn = s.jrn ∧ (takePages f n s).err = s.err ∧
    (takePages f n s).ports = s.ports ∧ (takePages f n s).deck = s.deck ∧ (takePages f n s).fl = s.fl ∧
    (takePages f n s).host = s.host ∧ (takePages f n s).fab = s.fab ∧ (takePages f n s).eng = s.eng ∧
    (takePages f n s).img = s.img ∧ (takePages f n s).rcd = s.rcd ∧ (takePages f n s).pmc = s.pmc ∧
    (takePages f n s).abt = s.abt ∧ (takePages f n s).mode = s.mode ∧ (takePages f n s).key = s.key ∧
    (takePages f n s).sb = s.sb ∧ (takePages f n s).pending = s.pending := by
  induction n generalizing s with
  | zero => simp [takePages]
  | succ n ih =>
    unfold takePages
    (repeat' split) <;> simp -implicitDefEqProofs [ih]

def Foot.takePages : List Reg := []

@[simp] theorem takePages_rd (f n : Nat) (s : State) (reg : Reg) (rix : Nat) (hav : avoids Foot.takePages reg = true) :
    (takePages f n s).rd reg rix = s.rd reg rix := by
  induction n generalizing s with
  | zero => simp [takePages]
  | succ n ih =>
    unfold takePages
    (repeat' split) <;> simp -implicitDefEqProofs [ih, *]

@[simp] theorem spill_frame (c : Carried) (s : State) :
    (spill c s).env = s.env ∧ (spill c s).jrn = s.jrn ∧ (spill c s).err = s.err ∧ (spill c s).ports = s.ports ∧
    (spill c s).deck = s.deck ∧ (spill c s).fl = s.fl ∧ (spill c s).host = s.host ∧ (spill c s).fab = s.fab ∧
    (spill c s).eng = s.eng ∧ (spill c s).img = s.img ∧ (spill c s).rcd = s.rcd ∧ (spill c s).pmc = s.pmc ∧
    (spill c s).abt = s.abt ∧ (spill c s).mode = s.mode ∧ (spill c s).key = s.key ∧ (spill c s).sb = s.sb ∧
    (spill c s).pending = s.pending := by
  unfold spill
  (repeat' split) <;> simp -implicitDefEqProofs (maxDischargeDepth := 6)

def Foot.spill : List Reg := [.CSN_POOL, .CSN_PSPILL]

@[simp] theorem spill_rd (c : Carried) (s : State) (reg : Reg) (rix : Nat) (hav : avoids Foot.spill reg = true) :
    (spill c s).rd reg rix = s.rd reg rix := by
  have c0 : avoids Foot.refreshSpill reg = true := avoids_mono (by decide) hav
  have c1 : avoids Foot.takePages reg = true := avoids_mono (by decide) hav
  unfold spill
  (repeat' split) <;> simp -implicitDefEqProofs (maxDischargeDepth := 6) [*]

@[simp] theorem closeSpill_frame (f : Nat) (s : State) :
    (closeSpill f s).env = s.env ∧ (closeSpill f s).jrn = s.jrn ∧ (closeSpill f s).err = s.err ∧
    (closeSpill f s).ports = s.ports ∧ (closeSpill f s).deck = s.deck ∧ (closeSpill f s).fl = s.fl ∧
    (closeSpill f s).host = s.host ∧ (closeSpill f s).fab = s.fab ∧ (closeSpill f s).eng = s.eng ∧
    (closeSpill f s).img = s.img ∧ (closeSpill f s).rcd = s.rcd ∧ (closeSpill f s).pmc = s.pmc ∧
    (closeSpill f s).abt = s.abt ∧ (closeSpill f s).mode = s.mode ∧ (closeSpill f s).key = s.key ∧
    (closeSpill f s).sb = s.sb ∧ (closeSpill f s).pending = s.pending := by
  unfold closeSpill
  (repeat' split) <;> simp -implicitDefEqProofs (maxDischargeDepth := 6)

def Foot.closeSpill : List Reg := [.CSN_POOL, .CSN_PSPILL]

@[simp] theorem closeSpill_rd (f : Nat) (s : State) (reg : Reg) (rix : Nat) (hav : avoids Foot.closeSpill reg = true) :
    (closeSpill f s).rd reg rix = s.rd reg rix := by
  have c0 : avoids Foot.refreshSpill reg = true := avoids_mono (by decide) hav
  unfold closeSpill
  (repeat' split) <;> simp -implicitDefEqProofs (maxDischargeDepth := 6) [*]

@[simp] theorem popSpill_frame (f : Nat) (s : State) :
    ((popSpill f s)).1.env = s.env ∧ ((popSpill f s)).1.jrn = s.jrn ∧ ((popSpill f s)).1.err = s.err ∧
    ((popSpill f s)).1.ports = s.ports ∧ ((popSpill f s)).1.deck = s.deck ∧ ((popSpill f s)).1.fl = s.fl ∧
    ((popSpill f s)).1.host = s.host ∧ ((popSpill f s)).1.fab = s.fab ∧ ((popSpill f s)).1.eng = s.eng ∧
    ((popSpill f s)).1.img = s.img ∧ ((popSpill f s)).1.rcd = s.rcd ∧ ((popSpill f s)).1.pmc = s.pmc ∧
    ((popSpill f s)).1.abt = s.abt ∧ ((popSpill f s)).1.mode = s.mode ∧ ((popSpill f s)).1.key = s.key ∧
    ((popSpill f s)).1.sb = s.sb ∧ ((popSpill f s)).1.pending = s.pending := by
  unfold popSpill
  (repeat' split) <;> simp -implicitDefEqProofs (maxDischargeDepth := 6)

def Foot.popSpill : List Reg := [.CSN_POOL, .CSN_PSPILL]

@[simp] theorem popSpill_rd (f : Nat) (s : State) (reg : Reg) (rix : Nat) (hav : avoids Foot.popSpill reg = true) :
    ((popSpill f s)).1.rd reg rix = s.rd reg rix := by
  have c0 : avoids Foot.refreshSpill reg = true := avoids_mono (by decide) hav
  have c1 : avoids Foot.closeSpill reg = true := avoids_mono (by decide) hav
  unfold popSpill
  (repeat' split) <;> simp -implicitDefEqProofs (maxDischargeDepth := 6) [*]

@[simp] theorem discardPortTlps_frame (p : Nat) (s : State) :
    (discardPortTlps p s).env = s.env ∧ (discardPortTlps p s).jrn = s.jrn ∧ (discardPortTlps p s).err = s.err ∧
    (discardPortTlps p s).fl = s.fl ∧ (discardPortTlps p s).host = s.host ∧ (discardPortTlps p s).fab = s.fab ∧
    (discardPortTlps p s).eng = s.eng ∧ (discardPortTlps p s).img = s.img ∧ (discardPortTlps p s).rcd = s.rcd ∧
    (discardPortTlps p s).pmc = s.pmc ∧ (discardPortTlps p s).abt = s.abt ∧ (discardPortTlps p s).mode = s.mode ∧
    (discardPortTlps p s).key = s.key ∧ (discardPortTlps p s).sb = s.sb ∧ (discardPortTlps p s).pending = s.pending := by
  unfold discardPortTlps
  (repeat' split) <;> simp -implicitDefEqProofs (maxDischargeDepth := 6)

def Foot.discardPortTlps : List Reg := [.CSN_POOL, .CSN_PSPILL, .PIR_BUFEXP, .PIR_BUFOCC]

@[simp] theorem discardPortTlps_rd (p : Nat) (s : State) (reg : Reg) (rix : Nat) (hav : avoids Foot.discardPortTlps reg = true) :
    (discardPortTlps p s).rd reg rix = s.rd reg rix := by
  have c0 : avoids Foot.release reg = true := avoids_mono (by decide) hav
  have c1 : avoids Foot.mcDec reg = true := avoids_mono (by decide) hav
  have c2 : avoids Foot.closeSpill reg = true := avoids_mono (by decide) hav
  unfold discardPortTlps
  (repeat' split) <;> simp -implicitDefEqProofs (maxDischargeDepth := 6) [*]

@[simp] theorem landWr_frame (a : Nat) (v : Byte) (s : State) :
    (landWr a v s).env = s.env ∧ (landWr a v s).jrn = s.jrn ∧ (landWr a v s).err = s.err ∧ (landWr a v s).ports = s.ports ∧
    (landWr a v s).deck = s.deck ∧ (landWr a v s).fl = s.fl ∧ (landWr a v s).host = s.host ∧ (landWr a v s).fab = s.fab ∧
    (landWr a v s).eng = s.eng ∧ (landWr a v s).img = s.img ∧ (landWr a v s).rcd = s.rcd ∧ (landWr a v s).pmc = s.pmc ∧
    (landWr a v s).abt = s.abt ∧ (landWr a v s).mode = s.mode ∧ (landWr a v s).key = s.key ∧ (landWr a v s).sb = s.sb ∧
    (landWr a v s).pending = s.pending := by
  unfold landWr
  (repeat' split) <;> simp -implicitDefEqProofs (maxDischargeDepth := 6)

def Foot.landWr : List Reg := []

@[simp] theorem landWr_rd (a : Nat) (v : Byte) (s : State) (reg : Reg) (rix : Nat) (hav : avoids Foot.landWr reg = true) :
    (landWr a v s).rd reg rix = s.rd reg rix := by
  unfold landWr
  (repeat' split) <;> simp -implicitDefEqProofs (maxDischargeDepth := 6) [*]

@[simp] theorem landWrN_frame (a : Nat) (l : List Byte) (s : State) :
    (landWrN a l s).env = s.env ∧ (landWrN a l s).jrn = s.jrn ∧ (landWrN a l s).err = s.err ∧
    (landWrN a l s).ports = s.ports ∧ (landWrN a l s).deck = s.deck ∧ (landWrN a l s).fl = s.fl ∧
    (landWrN a l s).host = s.host ∧ (landWrN a l s).fab = s.fab ∧ (landWrN a l s).eng = s.eng ∧
    (landWrN a l s).img = s.img ∧ (landWrN a l s).rcd = s.rcd ∧ (landWrN a l s).pmc = s.pmc ∧ (landWrN a l s).abt = s.abt ∧
    (landWrN a l s).mode = s.mode ∧ (landWrN a l s).key = s.key ∧ (landWrN a l s).sb = s.sb ∧
    (landWrN a l s).pending = s.pending := by
  unfold landWrN
  and_intros
  · refine foldl_snd_keeps _ _ _ (fun s : State => s.env) ?_
    intro a x
    simp
  · refine foldl_snd_keeps _ _ _ (fun s : State => s.jrn) ?_
    intro a x
    simp
  · refine foldl_snd_keeps _ _ _ (fun s : State => s.err) ?_
    intro a x
    simp
  · refine foldl_snd_keeps _ _ _ (fun s : State => s.ports) ?_
    intro a x
    simp
  · refine foldl_snd_keeps _ _ _ (fun s : State => s.deck) ?_
    intro a x
    simp
  · refine foldl_snd_keeps _ _ _ (fun s : State => s.fl) ?_
    intro a x
    simp
  · refine foldl_snd_keeps _ _ _ (fun s : State => s.host) ?_
    intro a x
    simp
  · refine foldl_snd_keeps _ _ _ (fun s : State => s.fab) ?_
    intro a x
    simp
  · refine foldl_snd_keeps _ _ _ (fun s : State => s.eng) ?_
    intro a x
    simp
  · refine foldl_snd_keeps _ _ _ (fun s : State => s.img) ?_
    intro a x
    simp
  · refine foldl_snd_keeps _ _ _ (fun s : State => s.rcd) ?_
    intro a x
    simp
  · refine foldl_snd_keeps _ _ _ (fun s : State => s.pmc) ?_
    intro a x
    simp
  · refine foldl_snd_keeps _ _ _ (fun s : State => s.abt) ?_
    intro a x
    simp
  · refine foldl_snd_keeps _ _ _ (fun s : State => s.mode) ?_
    intro a x
    simp
  · refine foldl_snd_keeps _ _ _ (fun s : State => s.key) ?_
    intro a x
    simp
  · refine foldl_snd_keeps _ _ _ (fun s : State => s.sb) ?_
    intro a x
    simp
  · refine foldl_snd_keeps _ _ _ (fun s : State => s.pending) ?_
    intro a x
    simp

def Foot.landWrN : List Reg := []

@[simp] theorem landWrN_rd (a : Nat) (l : List Byte) (s : State) (reg : Reg) (rix : Nat) (hav : avoids Foot.landWrN reg = true) :
    (landWrN a l s).rd reg rix = s.rd reg rix := by
  have c0 : avoids Foot.landWr reg = true := avoids_mono (by decide) hav
  unfold landWrN
  refine foldl_snd_keeps _ _ _ (fun s : State => s.rd reg rix) ?_
  intro a x
  simp [*]

@[simp] theorem wipeBlock_frame (b : Nat) (s : State) :
    (wipeBlock b s).env = s.env ∧ (wipeBlock b s).jrn = s.jrn ∧ (wipeBlock b s).err = s.err ∧
    (wipeBlock b s).ports = s.ports ∧ (wipeBlock b s).deck = s.deck ∧ (wipeBlock b s).fl = s.fl ∧
    (wipeBlock b s).host = s.host ∧ (wipeBlock b s).fab = s.fab ∧ (wipeBlock b s).eng = s.eng ∧
    (wipeBlock b s).img = s.img ∧ (wipeBlock b s).rcd = s.rcd ∧ (wipeBlock b s).pmc = s.pmc ∧ (wipeBlock b s).abt = s.abt ∧
    (wipeBlock b s).mode = s.mode ∧ (wipeBlock b s).key = s.key ∧ (wipeBlock b s).sb = s.sb ∧
    (wipeBlock b s).pending = s.pending := by
  unfold wipeBlock
  (repeat' split) <;> simp -implicitDefEqProofs (maxDischargeDepth := 6)

def Foot.wipeBlock : List Reg := []

@[simp] theorem wipeBlock_rd (b : Nat) (s : State) (reg : Reg) (rix : Nat) (hav : avoids Foot.wipeBlock reg = true) :
    (wipeBlock b s).rd reg rix = s.rd reg rix := by
  unfold wipeBlock
  (repeat' split) <;> simp -implicitDefEqProofs (maxDischargeDepth := 6) [*]

@[simp] theorem scanTouch_frame (b : Nat) (s : State) :
    (scanTouch b s).env = s.env ∧ (scanTouch b s).jrn = s.jrn ∧ (scanTouch b s).err = s.err ∧
    (scanTouch b s).ports = s.ports ∧ (scanTouch b s).deck = s.deck ∧ (scanTouch b s).fl = s.fl ∧
    (scanTouch b s).host = s.host ∧ (scanTouch b s).fab = s.fab ∧ (scanTouch b s).eng = s.eng ∧
    (scanTouch b s).img = s.img ∧ (scanTouch b s).rcd = s.rcd ∧ (scanTouch b s).pmc = s.pmc ∧ (scanTouch b s).abt = s.abt ∧
    (scanTouch b s).mode = s.mode ∧ (scanTouch b s).key = s.key ∧ (scanTouch b s).sb = s.sb ∧
    (scanTouch b s).pending = s.pending := by
  unfold scanTouch
  (repeat' split) <;> simp -implicitDefEqProofs (maxDischargeDepth := 6)

def Foot.scanTouch : List Reg := []

@[simp] theorem scanTouch_rd (b : Nat) (s : State) (reg : Reg) (rix : Nat) (hav : avoids Foot.scanTouch reg = true) :
    (scanTouch b s).rd reg rix = s.rd reg rix := by
  have c0 : avoids Foot.wipeBlock reg = true := avoids_mono (by decide) hav
  unfold scanTouch
  (repeat' split) <;> simp -implicitDefEqProofs (maxDischargeDepth := 6) [*]

@[simp] theorem scanFinish_frame (s : State) :
    (scanFinish s).env = s.env ∧ (scanFinish s).jrn = s.jrn ∧ (scanFinish s).err = s.err ∧ (scanFinish s).ports = s.ports ∧
    (scanFinish s).deck = s.deck ∧ (scanFinish s).fl = s.fl ∧ (scanFinish s).host = s.host ∧ (scanFinish s).fab = s.fab ∧
    (scanFinish s).eng = s.eng ∧ (scanFinish s).img = s.img ∧ (scanFinish s).rcd = s.rcd ∧ (scanFinish s).pmc = s.pmc ∧
    (scanFinish s).abt = s.abt ∧ (scanFinish s).mode = s.mode ∧ (scanFinish s).key = s.key ∧ (scanFinish s).sb = s.sb ∧
    (scanFinish s).pending = s.pending := by
  unfold scanFinish
  (repeat' split) <;> simp -implicitDefEqProofs (maxDischargeDepth := 6)

def Foot.scanFinish : List Reg := []

@[simp] theorem scanFinish_rd (s : State) (reg : Reg) (rix : Nat) (hav : avoids Foot.scanFinish reg = true) :
    (scanFinish s).rd reg rix = s.rd reg rix := by
  unfold scanFinish
  (repeat' split) <;> simp -implicitDefEqProofs (maxDischargeDepth := 6) [*]

@[simp] theorem retire_frame (ch blk : Nat) (s : State) :
    ((retire ch blk s)).1.env = s.env ∧ ((retire ch blk s)).1.jrn = s.jrn ∧ ((retire ch blk s)).1.err = s.err ∧
    ((retire ch blk s)).1.ports = s.ports ∧ ((retire ch blk s)).1.deck = s.deck ∧ ((retire ch blk s)).1.fl = s.fl ∧
    ((retire ch blk s)).1.host = s.host ∧ ((retire ch blk s)).1.fab = s.fab ∧ ((retire ch blk s)).1.eng = s.eng ∧
    ((retire ch blk s)).1.img = s.img ∧ ((retire ch blk s)).1.rcd = s.rcd ∧ ((retire ch blk s)).1.pmc = s.pmc ∧
    ((retire ch blk s)).1.abt = s.abt ∧ ((retire ch blk s)).1.mode = s.mode ∧ ((retire ch blk s)).1.key = s.key ∧
    ((retire ch blk s)).1.sb = s.sb ∧ ((retire ch blk s)).1.pending = s.pending := by
  unfold retire
  (repeat' split) <;> (try simp -implicitDefEqProofs (maxDischargeDepth := 6)) <;> (repeat' split) <;> simp -implicitDefEqProofs (maxDischargeDepth := 6)

def Foot.retire : List Reg := []

@[simp] theorem retire_rd (ch blk : Nat) (s : State) (reg : Reg) (rix : Nat) (hav : avoids Foot.retire reg = true) :
    ((retire ch blk s)).1.rd reg rix = s.rd reg rix := by
  unfold retire
  (repeat' split) <;> (try simp -implicitDefEqProofs (maxDischargeDepth := 6) [*]) <;> (repeat' split) <;> simp -implicitDefEqProofs (maxDischargeDepth := 6) [*]

@[simp] theorem setTurn_frame (ch : Nat) (back : Bool) (s : State) :
    (setTurn ch back s).env = s.env ∧ (setTurn ch back s).jrn = s.jrn ∧ (setTurn ch back s).err = s.err ∧
    (setTurn ch back s).ports = s.ports ∧ (setTurn ch back s).deck = s.deck ∧ (setTurn ch back s).fl = s.fl ∧
    (setTurn ch back s).host = s.host ∧ (setTurn ch back s).fab = s.fab ∧ (setTurn ch back s).eng = s.eng ∧
    (setTurn ch back s).img = s.img ∧ (setTurn ch back s).rcd = s.rcd ∧ (setTurn ch back s).pmc = s.pmc ∧
    (setTurn ch back s).abt = s.abt ∧ (setTurn ch back s).mode = s.mode ∧ (setTurn ch back s).key = s.key ∧
    (setTurn ch back s).sb = s.sb ∧ (setTurn ch back s).pending = s.pending := by
  unfold setTurn
  (repeat' split) <;> simp -implicitDefEqProofs (maxDischargeDepth := 6)

def Foot.setTurn : List Reg := []

@[simp] theorem setTurn_rd (ch : Nat) (back : Bool) (s : State) (reg : Reg) (rix : Nat) (hav : avoids Foot.setTurn reg = true) :
    (setTurn ch back s).rd reg rix = s.rd reg rix := by
  unfold setTurn
  (repeat' split) <;> simp -implicitDefEqProofs (maxDischargeDepth := 6) [*]

@[simp] theorem wipeChan_frame (ch : Nat) (s : State) :
    (wipeChan ch s).env = s.env ∧ (wipeChan ch s).err = s.err ∧ (wipeChan ch s).ports = s.ports ∧
    (wipeChan ch s).deck = s.deck ∧ (wipeChan ch s).fl = s.fl ∧ (wipeChan ch s).host = s.host ∧
    (wipeChan ch s).fab = s.fab ∧ (wipeChan ch s).eng = s.eng ∧ (wipeChan ch s).img = s.img ∧ (wipeChan ch s).rcd = s.rcd ∧
    (wipeChan ch s).pmc = s.pmc ∧ (wipeChan ch s).abt = s.abt ∧ (wipeChan ch s).mode = s.mode ∧
    (wipeChan ch s).key = s.key ∧ (wipeChan ch s).sb = s.sb ∧ (wipeChan ch s).pending = s.pending := by
  unfold wipeChan
  (repeat' split) <;> simp -implicitDefEqProofs (maxDischargeDepth := 6)

def Foot.wipeChan : List Reg := []

@[simp] theorem wipeChan_rd (ch : Nat) (s : State) (reg : Reg) (rix : Nat) (hav : avoids Foot.wipeChan reg = true) :
    (wipeChan ch s).rd reg rix = s.rd reg rix := by
  unfold wipeChan
  (repeat' split) <;> simp -implicitDefEqProofs (maxDischargeDepth := 6) [*]

@[simp] theorem setTags_frame (base n tag : Nat) (s : State) :
    (setTags base n tag s).env = s.env ∧ (setTags base n tag s).jrn = s.jrn ∧ (setTags base n tag s).err = s.err ∧
    (setTags base n tag s).ports = s.ports ∧ (setTags base n tag s).deck = s.deck ∧ (setTags base n tag s).fl = s.fl ∧
    (setTags base n tag s).host = s.host ∧ (setTags base n tag s).fab = s.fab ∧ (setTags base n tag s).eng = s.eng ∧
    (setTags base n tag s).img = s.img ∧ (setTags base n tag s).rcd = s.rcd ∧ (setTags base n tag s).pmc = s.pmc ∧
    (setTags base n tag s).abt = s.abt ∧ (setTags base n tag s).mode = s.mode ∧ (setTags base n tag s).key = s.key ∧
    (setTags base n tag s).sb = s.sb ∧ (setTags base n tag s).pending = s.pending := by
  unfold setTags
  (repeat' split) <;> simp -implicitDefEqProofs (maxDischargeDepth := 6)

def Foot.setTags : List Reg := []

@[simp] theorem setTags_rd (base n tag : Nat) (s : State) (reg : Reg) (rix : Nat) (hav : avoids Foot.setTags reg = true) :
    (setTags base n tag s).rd reg rix = s.rd reg rix := by
  unfold setTags
  (repeat' split) <;> simp -implicitDefEqProofs (maxDischargeDepth := 6) [*]

@[simp] theorem recordAccess_frame (org : Origin) (r : Reg) (i off status : Nat) (s : State) :
    (recordAccess org r i off status s).env = s.env ∧ (recordAccess org r i off status s).jrn = s.jrn ∧
    (recordAccess org r i off status s).err = s.err ∧ (recordAccess org r i off status s).ports = s.ports ∧
    (recordAccess org r i off status s).deck = s.deck ∧ (recordAccess org r i off status s).csn = s.csn ∧
    (recordAccess org r i off status s).fl = s.fl ∧ (recordAccess org r i off status s).host = s.host ∧
    (recordAccess org r i off status s).fab = s.fab ∧ (recordAccess org r i off status s).eng = s.eng ∧
    (recordAccess org r i off status s).img = s.img ∧ (recordAccess org r i off status s).rcd = s.rcd ∧
    (recordAccess org r i off status s).pmc = s.pmc ∧ (recordAccess org r i off status s).abt = s.abt ∧
    (recordAccess org r i off status s).mode = s.mode ∧ (recordAccess org r i off status s).key = s.key ∧
    (recordAccess org r i off status s).sb = s.sb ∧ (recordAccess org r i off status s).pending = s.pending := by
  unfold recordAccess
  (repeat' split) <;> simp -implicitDefEqProofs (maxDischargeDepth := 6)

def Foot.recordAccess : List Reg := [.CLK_ACCADDR, .CLK_ACCSTAT]

@[simp] theorem recordAccess_rd (org : Origin) (r : Reg) (i off status : Nat) (s : State) (reg : Reg) (rix : Nat) (hav : avoids Foot.recordAccess reg = true) :
    (recordAccess org r i off status s).rd reg rix = s.rd reg rix := by
  have f0 : reg ≠ F.CLK_ACCSTAT_DOMAIN.reg := avoids_ne (by decide) hav
  have f1 : reg ≠ F.CLK_ACCSTAT_ISLAND.reg := avoids_ne (by decide) hav
  have f2 : reg ≠ F.CLK_ACCSTAT_STATUS.reg := avoids_ne (by decide) hav
  have f3 : reg ≠ F.CLK_ACCSTAT_VALID.reg := avoids_ne (by decide) hav
  have f4 : reg ≠ .CLK_ACCADDR := avoids_ne (by decide) hav
  unfold recordAccess
  (repeat' split) <;> simp -implicitDefEqProofs (maxDischargeDepth := 6) [*]

@[simp] theorem logRefused_frame (org : Origin) (write : Bool) (off n part : Nat) (s : State) :
    (logRefused org write off n part s).jrn = s.jrn ∧ (logRefused org write off n part s).csn = s.csn ∧
    (logRefused org write off n part s).fl = s.fl ∧ (logRefused org write off n part s).img = s.img ∧
    (logRefused org write off n part s).abt = s.abt ∧ (logRefused org write off n part s).mode = s.mode ∧
    (logRefused org write off n part s).key = s.key ∧ (logRefused org write off n part s).sb = s.sb ∧
    (logRefused org write off n part s).pending = s.pending := by
  unfold logRefused
  (repeat' split) <;> simp -implicitDefEqProofs (maxDischargeDepth := 6)

def Foot.logRefused : List Reg := [.ENG_STAT, .GTE_LOGE, .GTE_LOGSTAT, .PIR_BUFEXP, .PIR_BUFOCC, .PIR_CPLTRK, .PIR_ERRCNT2, .PIR_EXPMON, .PIR_FBPORT, .PMC_BSTAT, .PMC_CNT, .PMC_STAT, .REC_TRGCFG, .REC_TRGCNT]

@[simp] theorem logRefused_rd (org : Origin) (write : Bool) (off n part : Nat) (s : State) (reg : Reg) (rix : Nat) (hav : avoids Foot.logRefused reg = true) :
    (logRefused org write off n part s).rd reg rix = s.rd reg rix := by
  have c0 : avoids Foot.gateLog reg = true := avoids_mono (by decide) hav
  unfold logRefused
  (repeat' split) <;> simp -implicitDefEqProofs (maxDischargeDepth := 6) [*]

@[simp] theorem regReadIn_frame (joined : Bool) (org : Origin) (off : Nat) (s : State) :
    ((regReadIn joined org off s)).2.2.csn = s.csn ∧ ((regReadIn joined org off s)).2.2.fl = s.fl ∧
    ((regReadIn joined org off s)).2.2.img = s.img ∧ ((regReadIn joined org off s)).2.2.abt = s.abt ∧
    ((regReadIn joined org off s)).2.2.mode = s.mode ∧ ((regReadIn joined org off s)).2.2.key = s.key ∧
    ((regReadIn joined org off s)).2.2.sb = s.sb ∧ ((regReadIn joined org off s)).2.2.pending = s.pending := by
  unfold regReadIn
  (repeat' split) <;> (try simp -implicitDefEqProofs (maxDischargeDepth := 6)) <;> (repeat' split) <;> simp -implicitDefEqProofs (maxDischargeDepth := 6)

def Foot.regReadIn : List Reg := [.CLK_ACCADDR, .CLK_ACCSTAT, .ENG_STAT, .GTE_LOGE, .GTE_LOGSTAT, .JNL_HEAD, .JNL_TAIL, .PIR_BUFEXP, .PIR_BUFOCC, .PIR_CPLTRK, .PIR_ERRCNT2, .PIR_EXPMON, .PIR_FBPORT, .PMC_BSTAT, .PMC_CNT, .PMC_STAT, .REC_TRGCFG, .REC_TRGCNT]

@[simp] theorem regReadIn_rd (joined : Bool) (org : Origin) (off : Nat) (s : State) (reg : Reg) (rix : Nat) (hav : avoids Foot.regReadIn reg = true) :
    ((regReadIn joined org off s)).2.2.rd reg rix = s.rd reg rix := by
  have c0 : avoids Foot.keeperEntry reg = true := avoids_mono (by decide) hav
  have c1 : avoids Foot.recordAccess reg = true := avoids_mono (by decide) hav
  have c2 : avoids Foot.logRefused reg = true := avoids_mono (by decide) hav
  unfold regReadIn
  (repeat' split) <;> (try simp -implicitDefEqProofs (maxDischargeDepth := 6) [*]) <;> (repeat' split) <;> simp -implicitDefEqProofs (maxDischargeDepth := 6) [*]

@[simp] theorem regRead_frame (org : Origin) (off : Nat) (s : State) :
    ((regRead org off s)).2.2.csn = s.csn ∧ ((regRead org off s)).2.2.fl = s.fl ∧ ((regRead org off s)).2.2.img = s.img ∧
    ((regRead org off s)).2.2.abt = s.abt ∧ ((regRead org off s)).2.2.mode = s.mode ∧
    ((regRead org off s)).2.2.key = s.key ∧ ((regRead org off s)).2.2.sb = s.sb ∧
    ((regRead org off s)).2.2.pending = s.pending := by
  unfold regRead
  (repeat' split) <;> (try simp -implicitDefEqProofs (maxDischargeDepth := 6)) <;> (repeat' split) <;> simp -implicitDefEqProofs (maxDischargeDepth := 6)

def Foot.regRead : List Reg := [.CLK_ACCADDR, .CLK_ACCSTAT, .ENG_STAT, .GTE_LOGE, .GTE_LOGSTAT, .JNL_HEAD, .JNL_TAIL, .PIR_BUFEXP, .PIR_BUFOCC, .PIR_CPLTRK, .PIR_ERRCNT2, .PIR_EXPMON, .PIR_FBPORT, .PMC_BSTAT, .PMC_CNT, .PMC_STAT, .REC_TRGCFG, .REC_TRGCNT]

@[simp] theorem regRead_rd (org : Origin) (off : Nat) (s : State) (reg : Reg) (rix : Nat) (hav : avoids Foot.regRead reg = true) :
    ((regRead org off s)).2.2.rd reg rix = s.rd reg rix := by
  have c0 : avoids Foot.regReadIn reg = true := avoids_mono (by decide) hav
  unfold regRead
  (repeat' split) <;> (try simp -implicitDefEqProofs (maxDischargeDepth := 6) [*]) <;> (repeat' split) <;> simp -implicitDefEqProofs (maxDischargeDepth := 6) [*]

@[simp] theorem setJob_frame (v : Nat) (j : DmaJob) (s : State) :
    (setJob v j s).env = s.env ∧ (setJob v j s).jrn = s.jrn ∧ (setJob v j s).err = s.err ∧ (setJob v j s).ports = s.ports ∧
    (setJob v j s).deck = s.deck ∧ (setJob v j s).csn = s.csn ∧ (setJob v j s).fl = s.fl ∧ (setJob v j s).fab = s.fab ∧
    (setJob v j s).eng = s.eng ∧ (setJob v j s).img = s.img ∧ (setJob v j s).rcd = s.rcd ∧ (setJob v j s).pmc = s.pmc ∧
    (setJob v j s).abt = s.abt ∧ (setJob v j s).mode = s.mode ∧ (setJob v j s).key = s.key ∧ (setJob v j s).sb = s.sb ∧
    (setJob v j s).pending = s.pending := by
  unfold setJob
  (repeat' split) <;> simp -implicitDefEqProofs (maxDischargeDepth := 6)

def Foot.setJob : List Reg := [.GLB_DMASTAT]

@[simp] theorem setJob_rd (v : Nat) (j : DmaJob) (s : State) (reg : Reg) (rix : Nat) (hav : avoids Foot.setJob reg = true) :
    (setJob v j s).rd reg rix = s.rd reg rix := by
  have f0 : reg ≠ F.GLB_DMASTAT_BUSY.reg := avoids_ne (by decide) hav
  have f1 : reg ≠ F.GLB_DMASTAT_TAGS.reg := avoids_ne (by decide) hav
  unfold setJob
  (repeat' split) <;> simp -implicitDefEqProofs (maxDischargeDepth := 6) [*]

@[simp] theorem mepSend_frame (v : Nat) (t : Tlp) (s : State) :
    (mepSend v t s).env = s.env ∧ (mepSend v t s).jrn = s.jrn ∧ (mepSend v t s).csn = s.csn ∧ (mepSend v t s).fl = s.fl ∧
    (mepSend v t s).host = s.host ∧ (mepSend v t s).fab = s.fab ∧ (mepSend v t s).eng = s.eng ∧
    (mepSend v t s).img = s.img ∧ (mepSend v t s).rcd = s.rcd ∧ (mepSend v t s).pmc = s.pmc ∧ (mepSend v t s).abt = s.abt ∧
    (mepSend v t s).mode = s.mode ∧ (mepSend v t s).key = s.key ∧ (mepSend v t s).sb = s.sb ∧
    (mepSend v t s).pending = s.pending := by
  unfold mepSend
  (repeat' split) <;> simp -implicitDefEqProofs (maxDischargeDepth := 6)

def Foot.mepSend : List Reg := [.PIR_BUFEXP, .PIR_BUFOCC, .PIR_CPLTRK, .PIR_ERRCNT2, .PIR_EXPMON, .PIR_FBPORT]

@[simp] theorem mepSend_rd (v : Nat) (t : Tlp) (s : State) (reg : Reg) (rix : Nat) (hav : avoids Foot.mepSend reg = true) :
    (mepSend v t s).rd reg rix = s.rd reg rix := by
  have c0 : avoids Foot.inject reg = true := avoids_mono (by decide) hav
  have c1 : avoids Foot.track reg = true := avoids_mono (by decide) hav
  unfold mepSend
  (repeat' split) <;> simp -implicitDefEqProofs (maxDischargeDepth := 6) [*]

@[simp] theorem dmaIssue_frame (v n : Nat) (s : State) :
    (dmaIssue v n s).env = s.env ∧ (dmaIssue v n s).jrn = s.jrn ∧ (dmaIssue v n s).csn = s.csn ∧
    (dmaIssue v n s).fl = s.fl ∧ (dmaIssue v n s).fab = s.fab ∧ (dmaIssue v n s).eng = s.eng ∧
    (dmaIssue v n s).img = s.img ∧ (dmaIssue v n s).rcd = s.rcd ∧ (dmaIssue v n s).pmc = s.pmc ∧
    (dmaIssue v n s).abt = s.abt ∧ (dmaIssue v n s).mode = s.mode ∧ (dmaIssue v n s).key = s.key ∧
    (dmaIssue v n s).sb = s.sb ∧ (dmaIssue v n s).pending = s.pending := by
  induction n generalizing s with
  | zero => simp [dmaIssue]
  | succ n ih =>
    unfold dmaIssue
    (repeat' split) <;> simp -implicitDefEqProofs [ih]

def Foot.dmaIssue : List Reg := [.GLB_DMASTAT, .PIR_BUFEXP, .PIR_BUFOCC, .PIR_CPLTRK, .PIR_ERRCNT2, .PIR_EXPMON, .PIR_FBPORT]

@[simp] theorem dmaIssue_rd (v n : Nat) (s : State) (reg : Reg) (rix : Nat) (hav : avoids Foot.dmaIssue reg = true) :
    (dmaIssue v n s).rd reg rix = s.rd reg rix := by
  have c0 : avoids Foot.setJob reg = true := avoids_mono (by decide) hav
  have c1 : avoids Foot.mepSend reg = true := avoids_mono (by decide) hav
  induction n generalizing s with
  | zero => simp [dmaIssue]
  | succ n ih =>
    unfold dmaIssue
    (repeat' split) <;> simp -implicitDefEqProofs [ih, *]

@[simp] theorem dmaClear_frame (v : Nat) (s : State) :
    (dmaClear v s).jrn = s.jrn ∧ (dmaClear v s).csn = s.csn ∧ (dmaClear v s).fl = s.fl ∧ (dmaClear v s).fab = s.fab ∧
    (dmaClear v s).eng = s.eng ∧ (dmaClear v s).img = s.img ∧ (dmaClear v s).rcd = s.rcd ∧ (dmaClear v s).pmc = s.pmc ∧
    (dmaClear v s).abt = s.abt ∧ (dmaClear v s).mode = s.mode ∧ (dmaClear v s).key = s.key ∧ (dmaClear v s).sb = s.sb ∧
    (dmaClear v s).pending = s.pending := by
  unfold dmaClear
  (repeat' split) <;> simp -implicitDefEqProofs (maxDischargeDepth := 6)

def Foot.dmaClear : List Reg := [.GLB_DMASTAT, .PIR_BUFEXP, .PIR_BUFOCC, .PIR_CPLTRK, .PIR_ERRCNT2, .PIR_EXPMON, .PIR_FBPORT]

@[simp] theorem dmaClear_rd (v : Nat) (s : State) (reg : Reg) (rix : Nat) (hav : avoids Foot.dmaClear reg = true) :
    (dmaClear v s).rd reg rix = s.rd reg rix := by
  have c0 : avoids Foot.msixRaise reg = true := avoids_mono (by decide) hav
  have f0 : reg ≠ F.GLB_DMASTAT_BUSY.reg := avoids_ne (by decide) hav
  have f1 : reg ≠ F.GLB_DMASTAT_TAGS.reg := avoids_ne (by decide) hav
  unfold dmaClear
  (repeat' split) <;> simp -implicitDefEqProofs (maxDischargeDepth := 6) [*]

@[simp] theorem dmaFail_frame (v cause : Nat) (s : State) :
    (dmaFail v cause s).csn = s.csn ∧ (dmaFail v cause s).fl = s.fl ∧ (dmaFail v cause s).fab = s.fab ∧
    (dmaFail v cause s).img = s.img ∧ (dmaFail v cause s).abt = s.abt ∧ (dmaFail v cause s).mode = s.mode ∧
    (dmaFail v cause s).sb = s.sb ∧ (dmaFail v cause s).pending = s.pending := by
  unfold dmaFail
  (repeat' split) <;> simp -implicitDefEqProofs (maxDischargeDepth := 6)

def Foot.dmaFail : List Reg := [.ENG_STAT, .GLB_DMASTAT, .JNL_CMDRES, .JNL_HEAD, .JNL_STAT, .JNL_TAIL, .KEY_NONCE, .KEY_SLOT, .KEY_SLOTHASH, .KEY_STAT, .PIR_BUFEXP, .PIR_BUFOCC, .PIR_CPLTRK, .PIR_ERRCNT2, .PIR_EXPMON, .PIR_FBPORT, .PMC_BSTAT, .PMC_CNT, .PMC_STAT, .REC_TRGCFG, .REC_TRGCNT]

@[simp] theorem dmaFail_rd (v cause : Nat) (s : State) (reg : Reg) (rix : Nat) (hav : avoids Foot.dmaFail reg = true) :
    (dmaFail v cause s).rd reg rix = s.rd reg rix := by
  have c0 : avoids Foot.failCmd reg = true := avoids_mono (by decide) hav
  have c1 : avoids Foot.dmaClear reg = true := avoids_mono (by decide) hav
  have f0 : reg ≠ F.GLB_DMASTAT_CAUSE.reg := avoids_ne (by decide) hav
  have f1 : reg ≠ F.GLB_DMASTAT_ERR.reg := avoids_ne (by decide) hav
  unfold dmaFail
  (repeat' split) <;> simp -implicitDefEqProofs (maxDischargeDepth := 6) [*]

@[simp] theorem dmaReads_frame (j : DmaJob) (s : State) :
    (dmaReads j s).jrn = s.jrn ∧ (dmaReads j s).csn = s.csn ∧ (dmaReads j s).fl = s.fl ∧ (dmaReads j s).fab = s.fab ∧
    (dmaReads j s).img = s.img ∧ (dmaReads j s).abt = s.abt ∧ (dmaReads j s).mode = s.mode ∧ (dmaReads j s).key = s.key ∧
    (dmaReads j s).sb = s.sb ∧ (dmaReads j s).pending = s.pending := by
  unfold dmaReads
  (repeat' split) <;> simp -implicitDefEqProofs (maxDischargeDepth := 6)

def Foot.dmaReads : List Reg := [.ENG_STAT, .PIR_BUFEXP, .PIR_BUFOCC, .PIR_CPLTRK, .PIR_ERRCNT2, .PIR_EXPMON, .PIR_FBPORT, .PMC_BSTAT, .PMC_CNT, .PMC_STAT, .REC_TRGCFG, .REC_TRGCNT]

@[simp] theorem dmaReads_rd (j : DmaJob) (s : State) (reg : Reg) (rix : Nat) (hav : avoids Foot.dmaReads reg = true) :
    (dmaReads j s).rd reg rix = s.rd reg rix := by
  have c0 : avoids Foot.count reg = true := avoids_mono (by decide) hav
  unfold dmaReads
  (repeat' split) <;> simp -implicitDefEqProofs (maxDischargeDepth := 6) [*]

@[simp] theorem dmaFinishWrite_frame (v : Nat) (s : State) :
    (dmaFinishWrite v s).csn = s.csn ∧ (dmaFinishWrite v s).fl = s.fl ∧ (dmaFinishWrite v s).fab = s.fab ∧
    (dmaFinishWrite v s).img = s.img ∧ (dmaFinishWrite v s).abt = s.abt ∧ (dmaFinishWrite v s).mode = s.mode ∧
    (dmaFinishWrite v s).sb = s.sb ∧ (dmaFinishWrite v s).pending = s.pending := by
  unfold dmaFinishWrite
  (repeat' split) <;> simp -implicitDefEqProofs (maxDischargeDepth := 6)

def Foot.dmaFinishWrite : List Reg := [.ENG_STAT, .GLB_DMASTAT, .JNL_CMDRES, .JNL_HEAD, .JNL_STAT, .JNL_TAIL, .KEY_NONCE, .KEY_SLOT, .KEY_SLOTHASH, .KEY_STAT, .PIR_BUFEXP, .PIR_BUFOCC, .PIR_CPLTRK, .PIR_ERRCNT2, .PIR_EXPMON, .PIR_FBPORT, .PMC_BSTAT, .PMC_CNT, .PMC_STAT, .REC_TRGCFG, .REC_TRGCNT]

@[simp] theorem dmaFinishWrite_rd (v : Nat) (s : State) (reg : Reg) (rix : Nat) (hav : avoids Foot.dmaFinishWrite reg = true) :
    (dmaFinishWrite v s).rd reg rix = s.rd reg rix := by
  have c0 : avoids Foot.endCmd reg = true := avoids_mono (by decide) hav
  have c1 : avoids Foot.dmaClear reg = true := avoids_mono (by decide) hav
  unfold dmaFinishWrite
  (repeat' split) <;> simp -implicitDefEqProofs (maxDischargeDepth := 6) [*]

@[simp] theorem dmaNext_frame (v n : Nat) (s : State) :
    (dmaNext v n s).csn = s.csn ∧ (dmaNext v n s).fl = s.fl ∧ (dmaNext v n s).fab = s.fab ∧ (dmaNext v n s).img = s.img ∧
    (dmaNext v n s).abt = s.abt ∧ (dmaNext v n s).mode = s.mode ∧ (dmaNext v n s).sb = s.sb ∧
    (dmaNext v n s).pending = s.pending := by
  induction n generalizing s with
  | zero => simp [dmaNext]
  | succ n ih =>
    unfold dmaNext
    (repeat' split) <;> simp -implicitDefEqProofs [ih]

def Foot.dmaNext : List Reg := [.ENG_STAT, .GLB_DMASTAT, .JNL_CMDRES, .JNL_HEAD, .JNL_STAT, .JNL_TAIL, .KEY_NONCE, .KEY_SLOT, .KEY_SLOTHASH, .KEY_STAT, .PIR_BUFEXP, .PIR_BUFOCC, .PIR_CPLTRK, .PIR_ERRCNT2, .PIR_EXPMON, .PIR_FBPORT, .PMC_BSTAT, .PMC_CNT, .PMC_STAT, .REC_TRGCFG, .REC_TRGCNT]

@[simp] theorem dmaNext_rd (v n : Nat) (s : State) (reg : Reg) (rix : Nat) (hav : avoids Foot.dmaNext reg = true) :
    (dmaNext v n s).rd reg rix = s.rd reg rix := by
  have c0 : avoids Foot.runCmd reg = true := avoids_mono (by decide) hav
  have c1 : avoids Foot.setJob reg = true := avoids_mono (by decide) hav
  have c2 : avoids Foot.dmaIssue reg = true := avoids_mono (by decide) hav
  have c3 : avoids Foot.dmaReads reg = true := avoids_mono (by decide) hav
  have c4 : avoids Foot.dmaFinishWrite reg = true := avoids_mono (by decide) hav
  induction n generalizing s with
  | zero => simp [dmaNext]
  | succ n ih =>
    unfold dmaNext
    (repeat' split) <;> simp -implicitDefEqProofs [ih, *]

@[simp] theorem dmaPump_frame (v : Nat) (s : State) :
    (dmaPump v s).csn = s.csn ∧ (dmaPump v s).fl = s.fl ∧ (dmaPump v s).fab = s.fab ∧ (dmaPump v s).img = s.img ∧
    (dmaPump v s).abt = s.abt ∧ (dmaPump v s).mode = s.mode ∧ (dmaPump v s).sb = s.sb ∧ (dmaPump v s).pending = s.pending := by
  unfold dmaPump
  (repeat' split) <;> simp -implicitDefEqProofs (maxDischargeDepth := 6)

def Foot.dmaPump : List Reg := [.ENG_STAT, .GLB_DMASTAT, .JNL_CMDRES, .JNL_HEAD, .JNL_STAT, .JNL_TAIL, .KEY_NONCE, .KEY_SLOT, .KEY_SLOTHASH, .KEY_STAT, .PIR_BUFEXP, .PIR_BUFOCC, .PIR_CPLTRK, .PIR_ERRCNT2, .PIR_EXPMON, .PIR_FBPORT, .PMC_BSTAT, .PMC_CNT, .PMC_STAT, .REC_TRGCFG, .REC_TRGCNT]

@[simp] theorem dmaPump_rd (v : Nat) (s : State) (reg : Reg) (rix : Nat) (hav : avoids Foot.dmaPump reg = true) :
    (dmaPump v s).rd reg rix = s.rd reg rix := by
  have c0 : avoids Foot.dmaIssue reg = true := avoids_mono (by decide) hav
  have c1 : avoids Foot.dmaFinishWrite reg = true := avoids_mono (by decide) hav
  have c2 : avoids Foot.dmaNext reg = true := avoids_mono (by decide) hav
  unfold dmaPump
  (repeat' split) <;> simp -implicitDefEqProofs (maxDischargeDepth := 6) [*]

@[simp] theorem dmaQueue_frame (v : Nat) (j : DmaJob) (s : State) :
    (dmaQueue v j s).csn = s.csn ∧ (dmaQueue v j s).fl = s.fl ∧ (dmaQueue v j s).fab = s.fab ∧
    (dmaQueue v j s).img = s.img ∧ (dmaQueue v j s).abt = s.abt ∧ (dmaQueue v j s).mode = s.mode ∧
    (dmaQueue v j s).sb = s.sb ∧ (dmaQueue v j s).pending = s.pending := by
  unfold dmaQueue
  (repeat' split) <;> simp -implicitDefEqProofs (maxDischargeDepth := 6)

def Foot.dmaQueue : List Reg := [.ENG_STAT, .GLB_DMASTAT, .JNL_CMDRES, .JNL_HEAD, .JNL_STAT, .JNL_TAIL, .KEY_NONCE, .KEY_SLOT, .KEY_SLOTHASH, .KEY_STAT, .PIR_BUFEXP, .PIR_BUFOCC, .PIR_CPLTRK, .PIR_ERRCNT2, .PIR_EXPMON, .PIR_FBPORT, .PMC_BSTAT, .PMC_CNT, .PMC_STAT, .REC_TRGCFG, .REC_TRGCNT]

@[simp] theorem dmaQueue_rd (v : Nat) (j : DmaJob) (s : State) (reg : Reg) (rix : Nat) (hav : avoids Foot.dmaQueue reg = true) :
    (dmaQueue v j s).rd reg rix = s.rd reg rix := by
  have c0 : avoids Foot.dmaPump reg = true := avoids_mono (by decide) hav
  unfold dmaQueue
  (repeat' split) <;> simp -implicitDefEqProofs (maxDischargeDepth := 6) [*]

@[simp] theorem dmaAbort_frame (v cause : Nat) (s : State) :
    (dmaAbort v cause s).csn = s.csn ∧ (dmaAbort v cause s).fl = s.fl ∧ (dmaAbort v cause s).fab = s.fab ∧
    (dmaAbort v cause s).img = s.img ∧ (dmaAbort v cause s).abt = s.abt ∧ (dmaAbort v cause s).mode = s.mode ∧
    (dmaAbort v cause s).sb = s.sb ∧ (dmaAbort v cause s).pending = s.pending := by
  unfold dmaAbort
  (repeat' split) <;> simp -implicitDefEqProofs (maxDischargeDepth := 6)

def Foot.dmaAbort : List Reg := [.ENG_STAT, .GLB_DMASTAT, .JNL_CMDRES, .JNL_HEAD, .JNL_STAT, .JNL_TAIL, .KEY_NONCE, .KEY_SLOT, .KEY_SLOTHASH, .KEY_STAT, .PIR_BUFEXP, .PIR_BUFOCC, .PIR_CPLTRK, .PIR_ERRCNT2, .PIR_EXPMON, .PIR_FBPORT, .PMC_BSTAT, .PMC_CNT, .PMC_STAT, .REC_TRGCFG, .REC_TRGCNT]

@[simp] theorem dmaAbort_rd (v cause : Nat) (s : State) (reg : Reg) (rix : Nat) (hav : avoids Foot.dmaAbort reg = true) :
    (dmaAbort v cause s).rd reg rix = s.rd reg rix := by
  have c0 : avoids Foot.dmaFail reg = true := avoids_mono (by decide) hav
  have c1 : avoids Foot.dmaNext reg = true := avoids_mono (by decide) hav
  unfold dmaAbort
  (repeat' split) <;> simp -implicitDefEqProofs (maxDischargeDepth := 6) [*]

@[simp] theorem aerMsg_frame (v fn sev : Nat) (s : State) :
    (aerMsg v fn sev s).env = s.env ∧ (aerMsg v fn sev s).jrn = s.jrn ∧ (aerMsg v fn sev s).csn = s.csn ∧
    (aerMsg v fn sev s).fl = s.fl ∧ (aerMsg v fn sev s).host = s.host ∧ (aerMsg v fn sev s).fab = s.fab ∧
    (aerMsg v fn sev s).eng = s.eng ∧ (aerMsg v fn sev s).img = s.img ∧ (aerMsg v fn sev s).rcd = s.rcd ∧
    (aerMsg v fn sev s).pmc = s.pmc ∧ (aerMsg v fn sev s).abt = s.abt ∧ (aerMsg v fn sev s).mode = s.mode ∧
    (aerMsg v fn sev s).key = s.key ∧ (aerMsg v fn sev s).sb = s.sb ∧ (aerMsg v fn sev s).pending = s.pending := by
  unfold aerMsg
  (repeat' split) <;> simp -implicitDefEqProofs (maxDischargeDepth := 6)

def Foot.aerMsg : List Reg := [.PIR_BUFEXP, .PIR_BUFOCC, .PIR_CPLTRK, .PIR_ERRCNT2, .PIR_EXPMON, .PIR_FBPORT]

@[simp] theorem aerMsg_rd (v fn sev : Nat) (s : State) (reg : Reg) (rix : Nat) (hav : avoids Foot.aerMsg reg = true) :
    (aerMsg v fn sev s).rd reg rix = s.rd reg rix := by
  have c0 : avoids Foot.inject reg = true := avoids_mono (by decide) hav
  unfold aerMsg
  (repeat' split) <;> simp -implicitDefEqProofs (maxDischargeDepth := 6) [*]

@[simp] theorem aerUnc_frame (v fn bit : Nat) (s : State) :
    (aerUnc v fn bit s).env = s.env ∧ (aerUnc v fn bit s).jrn = s.jrn ∧ (aerUnc v fn bit s).csn = s.csn ∧
    (aerUnc v fn bit s).fl = s.fl ∧ (aerUnc v fn bit s).fab = s.fab ∧ (aerUnc v fn bit s).eng = s.eng ∧
    (aerUnc v fn bit s).img = s.img ∧ (aerUnc v fn bit s).rcd = s.rcd ∧ (aerUnc v fn bit s).pmc = s.pmc ∧
    (aerUnc v fn bit s).abt = s.abt ∧ (aerUnc v fn bit s).mode = s.mode ∧ (aerUnc v fn bit s).key = s.key ∧
    (aerUnc v fn bit s).sb = s.sb ∧ (aerUnc v fn bit s).pending = s.pending := by
  unfold aerUnc
  (repeat' split) <;> simp -implicitDefEqProofs (maxDischargeDepth := 6)

def Foot.aerUnc : List Reg := [.PIR_BUFEXP, .PIR_BUFOCC, .PIR_CPLTRK, .PIR_ERRCNT2, .PIR_EXPMON, .PIR_FBPORT]

@[simp] theorem aerUnc_rd (v fn bit : Nat) (s : State) (reg : Reg) (rix : Nat) (hav : avoids Foot.aerUnc reg = true) :
    (aerUnc v fn bit s).rd reg rix = s.rd reg rix := by
  have c0 : avoids Foot.setCapF reg = true := avoids_mono (by decide) hav
  have c1 : avoids Foot.aerMsg reg = true := avoids_mono (by decide) hav
  unfold aerUnc
  (repeat' split) <;> simp -implicitDefEqProofs (maxDischargeDepth := 6) [*]

@[simp] theorem aerCor_frame (v fn bit : Nat) (s : State) :
    (aerCor v fn bit s).env = s.env ∧ (aerCor v fn bit s).jrn = s.jrn ∧ (aerCor v fn bit s).csn = s.csn ∧
    (aerCor v fn bit s).fl = s.fl ∧ (aerCor v fn bit s).fab = s.fab ∧ (aerCor v fn bit s).eng = s.eng ∧
    (aerCor v fn bit s).img = s.img ∧ (aerCor v fn bit s).rcd = s.rcd ∧ (aerCor v fn bit s).pmc = s.pmc ∧
    (aerCor v fn bit s).abt = s.abt ∧ (aerCor v fn bit s).mode = s.mode ∧ (aerCor v fn bit s).key = s.key ∧
    (aerCor v fn bit s).sb = s.sb ∧ (aerCor v fn bit s).pending = s.pending := by
  unfold aerCor
  (repeat' split) <;> simp -implicitDefEqProofs (maxDischargeDepth := 6)

def Foot.aerCor : List Reg := [.PIR_BUFEXP, .PIR_BUFOCC, .PIR_CPLTRK, .PIR_ERRCNT2, .PIR_EXPMON, .PIR_FBPORT]

@[simp] theorem aerCor_rd (v fn bit : Nat) (s : State) (reg : Reg) (rix : Nat) (hav : avoids Foot.aerCor reg = true) :
    (aerCor v fn bit s).rd reg rix = s.rd reg rix := by
  have c0 : avoids Foot.setCapF reg = true := avoids_mono (by decide) hav
  have c1 : avoids Foot.aerMsg reg = true := avoids_mono (by decide) hav
  unfold aerCor
  (repeat' split) <;> simp -implicitDefEqProofs (maxDischargeDepth := 6) [*]

@[simp] theorem aerPort_frame (p bit : Nat) (s : State) :
    (aerPort p bit s).env = s.env ∧ (aerPort p bit s).jrn = s.jrn ∧ (aerPort p bit s).csn = s.csn ∧
    (aerPort p bit s).fl = s.fl ∧ (aerPort p bit s).fab = s.fab ∧ (aerPort p bit s).eng = s.eng ∧
    (aerPort p bit s).img = s.img ∧ (aerPort p bit s).rcd = s.rcd ∧ (aerPort p bit s).pmc = s.pmc ∧
    (aerPort p bit s).abt = s.abt ∧ (aerPort p bit s).mode = s.mode ∧ (aerPort p bit s).key = s.key ∧
    (aerPort p bit s).sb = s.sb ∧ (aerPort p bit s).pending = s.pending := by
  unfold aerPort
  (repeat' split) <;> simp -implicitDefEqProofs (maxDischargeDepth := 6)

def Foot.aerPort : List Reg := [.PIR_BUFEXP, .PIR_BUFOCC, .PIR_CPLTRK, .PIR_ERRCNT2, .PIR_EXPMON, .PIR_FBPORT]

@[simp] theorem aerPort_rd (p bit : Nat) (s : State) (reg : Reg) (rix : Nat) (hav : avoids Foot.aerPort reg = true) :
    (aerPort p bit s).rd reg rix = s.rd reg rix := by
  have c0 : avoids Foot.aerUnc reg = true := avoids_mono (by decide) hav
  unfold aerPort
  (repeat' split) <;> simp -implicitDefEqProofs (maxDischargeDepth := 6) [*]

@[simp] theorem bridgeMsi_frame (v fn : Nat) (s : State) :
    (bridgeMsi v fn s).env = s.env ∧ (bridgeMsi v fn s).jrn = s.jrn ∧ (bridgeMsi v fn s).csn = s.csn ∧
    (bridgeMsi v fn s).fl = s.fl ∧ (bridgeMsi v fn s).host = s.host ∧ (bridgeMsi v fn s).fab = s.fab ∧
    (bridgeMsi v fn s).eng = s.eng ∧ (bridgeMsi v fn s).img = s.img ∧ (bridgeMsi v fn s).rcd = s.rcd ∧
    (bridgeMsi v fn s).pmc = s.pmc ∧ (bridgeMsi v fn s).abt = s.abt ∧ (bridgeMsi v fn s).mode = s.mode ∧
    (bridgeMsi v fn s).key = s.key ∧ (bridgeMsi v fn s).sb = s.sb ∧ (bridgeMsi v fn s).pending = s.pending := by
  unfold bridgeMsi
  (repeat' split) <;> simp -implicitDefEqProofs (maxDischargeDepth := 6)

def Foot.bridgeMsi : List Reg := [.PIR_BUFEXP, .PIR_BUFOCC, .PIR_CPLTRK, .PIR_ERRCNT2, .PIR_EXPMON, .PIR_FBPORT]

@[simp] theorem bridgeMsi_rd (v fn : Nat) (s : State) (reg : Reg) (rix : Nat) (hav : avoids Foot.bridgeMsi reg = true) :
    (bridgeMsi v fn s).rd reg rix = s.rd reg rix := by
  have c0 : avoids Foot.inject reg = true := avoids_mono (by decide) hav
  unfold bridgeMsi
  (repeat' split) <;> simp -implicitDefEqProofs (maxDischargeDepth := 6) [*]

@[simp] theorem slotStatus_frame (v fn bit : Nat) (s : State) :
    (slotStatus v fn bit s).env = s.env ∧ (slotStatus v fn bit s).jrn = s.jrn ∧ (slotStatus v fn bit s).csn = s.csn ∧
    (slotStatus v fn bit s).fl = s.fl ∧ (slotStatus v fn bit s).fab = s.fab ∧ (slotStatus v fn bit s).eng = s.eng ∧
    (slotStatus v fn bit s).img = s.img ∧ (slotStatus v fn bit s).rcd = s.rcd ∧ (slotStatus v fn bit s).pmc = s.pmc ∧
    (slotStatus v fn bit s).abt = s.abt ∧ (slotStatus v fn bit s).mode = s.mode ∧ (slotStatus v fn bit s).key = s.key ∧
    (slotStatus v fn bit s).sb = s.sb ∧ (slotStatus v fn bit s).pending = s.pending := by
  unfold slotStatus
  (repeat' split) <;> simp -implicitDefEqProofs (maxDischargeDepth := 6)

def Foot.slotStatus : List Reg := [.PIR_BUFEXP, .PIR_BUFOCC, .PIR_CPLTRK, .PIR_ERRCNT2, .PIR_EXPMON, .PIR_FBPORT]

@[simp] theorem slotStatus_rd (v fn bit : Nat) (s : State) (reg : Reg) (rix : Nat) (hav : avoids Foot.slotStatus reg = true) :
    (slotStatus v fn bit s).rd reg rix = s.rd reg rix := by
  have c0 : avoids Foot.setCapF reg = true := avoids_mono (by decide) hav
  have c1 : avoids Foot.bridgeMsi reg = true := avoids_mono (by decide) hav
  unfold slotStatus
  (repeat' split) <;> simp -implicitDefEqProofs (maxDischargeDepth := 6) [*]

@[simp] theorem linkActive_frame (p : Nat) (up : Bool) (s : State) :
    (linkActive p up s).env = s.env ∧ (linkActive p up s).jrn = s.jrn ∧ (linkActive p up s).csn = s.csn ∧
    (linkActive p up s).fl = s.fl ∧ (linkActive p up s).fab = s.fab ∧ (linkActive p up s).eng = s.eng ∧
    (linkActive p up s).img = s.img ∧ (linkActive p up s).rcd = s.rcd ∧ (linkActive p up s).pmc = s.pmc ∧
    (linkActive p up s).abt = s.abt ∧ (linkActive p up s).mode = s.mode ∧ (linkActive p up s).key = s.key ∧
    (linkActive p up s).sb = s.sb ∧ (linkActive p up s).pending = s.pending := by
  unfold linkActive
  (repeat' split) <;> simp -implicitDefEqProofs (maxDischargeDepth := 6)

def Foot.linkActive : List Reg := [.PIR_BUFEXP, .PIR_BUFOCC, .PIR_CPLTRK, .PIR_ERRCNT2, .PIR_EXPMON, .PIR_FBPORT]

@[simp] theorem linkActive_rd (p : Nat) (up : Bool) (s : State) (reg : Reg) (rix : Nat) (hav : avoids Foot.linkActive reg = true) :
    (linkActive p up s).rd reg rix = s.rd reg rix := by
  have c0 : avoids Foot.setCapF reg = true := avoids_mono (by decide) hav
  have c1 : avoids Foot.slotStatus reg = true := avoids_mono (by decide) hav
  unfold linkActive
  (repeat' split) <;> simp -implicitDefEqProofs (maxDischargeDepth := 6) [*]

@[simp] theorem noteSynth_frame (p : Nat) (s : State) :
    (noteSynth p s).env = s.env ∧ (noteSynth p s).jrn = s.jrn ∧ (noteSynth p s).deck = s.deck ∧
    (noteSynth p s).csn = s.csn ∧ (noteSynth p s).fl = s.fl ∧ (noteSynth p s).host = s.host ∧ (noteSynth p s).fab = s.fab ∧
    (noteSynth p s).eng = s.eng ∧ (noteSynth p s).img = s.img ∧ (noteSynth p s).rcd = s.rcd ∧ (noteSynth p s).pmc = s.pmc ∧
    (noteSynth p s).abt = s.abt ∧ (noteSynth p s).mode = s.mode ∧ (noteSynth p s).key = s.key ∧ (noteSynth p s).sb = s.sb ∧
    (noteSynth p s).pending = s.pending := by
  unfold noteSynth
  (repeat' split) <;> simp -implicitDefEqProofs (maxDischargeDepth := 6)

def Foot.noteSynth : List Reg := [.PIR_ERRCNT2]

@[simp] theorem noteSynth_rd (p : Nat) (s : State) (reg : Reg) (rix : Nat) (hav : avoids Foot.noteSynth reg = true) :
    (noteSynth p s).rd reg rix = s.rd reg rix := by
  have c0 : avoids Foot.pushRec reg = true := avoids_mono (by decide) hav
  unfold noteSynth
  (repeat' split) <;> simp -implicitDefEqProofs (maxDischargeDepth := 6) [*]

@[simp] theorem synthOne_frame (p : Nat) (rid tag : Nat) (tc : Fin 8) (inP vs tenant : Nat) (fab : Option FabHdr) (left addr : Nat) (s : State) :
    (synthOne p rid tag tc inP vs tenant fab left addr s).env = s.env ∧
    (synthOne p rid tag tc inP vs tenant fab left addr s).jrn = s.jrn ∧
    (synthOne p rid tag tc inP vs tenant fab left addr s).csn = s.csn ∧
    (synthOne p rid tag tc inP vs tenant fab left addr s).fl = s.fl ∧
    (synthOne p rid tag tc inP vs tenant fab left addr s).fab = s.fab ∧
    (synthOne p rid tag tc inP vs tenant fab left addr s).eng = s.eng ∧
    (synthOne p rid tag tc inP vs tenant fab left addr s).img = s.img ∧
    (synthOne p rid tag tc inP vs tenant fab left addr s).rcd = s.rcd ∧
    (synthOne p rid tag tc inP vs tenant fab left addr s).pmc = s.pmc ∧
    (synthOne p rid tag tc inP vs tenant fab left addr s).abt = s.abt ∧
    (synthOne p rid tag tc inP vs tenant fab left addr s).mode = s.mode ∧
    (synthOne p rid tag tc inP vs tenant fab left addr s).key = s.key ∧
    (synthOne p rid tag tc inP vs tenant fab left addr s).sb = s.sb ∧
    (synthOne p rid tag tc inP vs tenant fab left addr s).pending = s.pending := by
  unfold synthOne
  (repeat' split) <;> simp -implicitDefEqProofs (maxDischargeDepth := 6)

def Foot.synthOne : List Reg := [.PIR_BUFEXP, .PIR_BUFOCC, .PIR_CPLTRK, .PIR_ERRCNT2, .PIR_EXPMON, .PIR_FBPORT]

@[simp] theorem synthOne_rd (p : Nat) (rid tag : Nat) (tc : Fin 8) (inP vs tenant : Nat) (fab : Option FabHdr) (left addr : Nat) (s : State) (reg : Reg) (rix : Nat) (hav : avoids Foot.synthOne reg = true) :
    (synthOne p rid tag tc inP vs tenant fab left addr s).rd reg rix = s.rd reg rix := by
  have c0 : avoids Foot.sendCpl reg = true := avoids_mono (by decide) hav
  have c1 : avoids Foot.noteSynth reg = true := avoids_mono (by decide) hav
  have f0 : reg ≠ F.PIR_CPLTRK_SYNTH.reg := avoids_ne (by decide) hav
  unfold synthOne
  (repeat' split) <;> simp -implicitDefEqProofs (maxDischargeDepth := 6) [*]

@[simp] theorem synthPort_frame (p : Nat) (s : State) :
    (synthPort p s).env = s.env ∧ (synthPort p s).jrn = s.jrn ∧ (synthPort p s).csn = s.csn ∧ (synthPort p s).fl = s.fl ∧
    (synthPort p s).eng = s.eng ∧ (synthPort p s).img = s.img ∧ (synthPort p s).rcd = s.rcd ∧ (synthPort p s).pmc = s.pmc ∧
    (synthPort p s).abt = s.abt ∧ (synthPort p s).mode = s.mode ∧ (synthPort p s).key = s.key ∧ (synthPort p s).sb = s.sb ∧
    (synthPort p s).pending = s.pending := by
  unfold synthPort
  (repeat' split) <;> simp -implicitDefEqProofs (maxDischargeDepth := 6)

def Foot.synthPort : List Reg := [.PIR_BUFEXP, .PIR_BUFOCC, .PIR_CPLTRK, .PIR_ERRCNT2, .PIR_EXPMON, .PIR_FBPORT]

@[simp] theorem synthPort_rd (p : Nat) (s : State) (reg : Reg) (rix : Nat) (hav : avoids Foot.synthPort reg = true) :
    (synthPort p s).rd reg rix = s.rd reg rix := by
  have c1 : avoids Foot.release reg = true := avoids_mono (by decide) hav
  have c2 : avoids Foot.synthOne reg = true := avoids_mono (by decide) hav
  have f0 : reg ≠ F.PIR_CPLTRK_USED.reg := avoids_ne (by decide) hav
  have f1 : reg ≠ F.PIR_FBPORT_TAGS.reg := avoids_ne (by decide) hav
  unfold synthPort
  (repeat' split) <;> simp -implicitDefEqProofs (maxDischargeDepth := 6) [*]

@[simp] theorem lostReq_frame (p : Nat) (c : Carried) (s : State) :
    (lostReq p c s).env = s.env ∧ (lostReq p c s).jrn = s.jrn ∧ (lostReq p c s).csn = s.csn ∧ (lostReq p c s).fl = s.fl ∧
    (lostReq p c s).fab = s.fab ∧ (lostReq p c s).eng = s.eng ∧ (lostReq p c s).img = s.img ∧ (lostReq p c s).rcd = s.rcd ∧
    (lostReq p c s).pmc = s.pmc ∧ (lostReq p c s).abt = s.abt ∧ (lostReq p c s).mode = s.mode ∧
    (lostReq p c s).key = s.key ∧ (lostReq p c s).sb = s.sb ∧ (lostReq p c s).pending = s.pending := by
  unfold lostReq
  (repeat' split) <;> simp -implicitDefEqProofs (maxDischargeDepth := 6)

def Foot.lostReq : List Reg := [.PIR_BUFEXP, .PIR_BUFOCC, .PIR_CPLTRK, .PIR_ERRCNT2, .PIR_EXPMON, .PIR_FBPORT]

@[simp] theorem lostReq_rd (p : Nat) (c : Carried) (s : State) (reg : Reg) (rix : Nat) (hav : avoids Foot.lostReq reg = true) :
    (lostReq p c s).rd reg rix = s.rd reg rix := by
  have c0 : avoids Foot.lostPosted reg = true := avoids_mono (by decide) hav
  have c1 : avoids Foot.synthOne reg = true := avoids_mono (by decide) hav
  have f0 : reg ≠ F.PIR_CPLTRK_DROP_P.reg := avoids_ne (by decide) hav
  unfold lostReq
  (repeat' split) <;> simp -implicitDefEqProofs (maxDischargeDepth := 6) [*]

@[simp] theorem flushEgress_frame (p : Nat) (s : State) :
    (flushEgress p s).env = s.env ∧ (flushEgress p s).jrn = s.jrn ∧ (flushEgress p s).csn = s.csn ∧
    (flushEgress p s).fl = s.fl ∧ (flushEgress p s).host = s.host ∧ (flushEgress p s).fab = s.fab ∧
    (flushEgress p s).eng = s.eng ∧ (flushEgress p s).img = s.img ∧ (flushEgress p s).rcd = s.rcd ∧
    (flushEgress p s).pmc = s.pmc ∧ (flushEgress p s).abt = s.abt ∧ (flushEgress p s).mode = s.mode ∧
    (flushEgress p s).key = s.key ∧ (flushEgress p s).sb = s.sb ∧ (flushEgress p s).pending = s.pending := by
  unfold flushEgress
  (repeat' split) <;> simp -implicitDefEqProofs (maxDischargeDepth := 6)

def Foot.flushEgress : List Reg := [.PIR_BUFEXP, .PIR_BUFOCC, .PIR_CPLTRK, .PIR_ERRCNT2, .PIR_FBPORT]

@[simp] theorem flushEgress_rd (p : Nat) (s : State) (reg : Reg) (rix : Nat) (hav : avoids Foot.flushEgress reg = true) :
    (flushEgress p s).rd reg rix = s.rd reg rix := by
  have c0 : avoids Foot.setEgressQ reg = true := avoids_mono (by decide) hav
  have c1 : avoids Foot.dropAtEgress reg = true := avoids_mono (by decide) hav
  unfold flushEgress
  (repeat' split) <;> simp -implicitDefEqProofs (maxDischargeDepth := 6) [*]

@[simp] theorem pfPush_frame (n : Nat) (e : PfEnt) (s : State) :
    (pfPush n e s).env = s.env ∧ (pfPush n e s).jrn = s.jrn ∧ (pfPush n e s).err = s.err ∧ (pfPush n e s).ports = s.ports ∧
    (pfPush n e s).deck = s.deck ∧ (pfPush n e s).csn = s.csn ∧ (pfPush n e s).fl = s.fl ∧ (pfPush n e s).host = s.host ∧
    (pfPush n e s).fab = s.fab ∧ (pfPush n e s).eng = s.eng ∧ (pfPush n e s).img = s.img ∧ (pfPush n e s).pmc = s.pmc ∧
    (pfPush n e s).abt = s.abt ∧ (pfPush n e s).mode = s.mode ∧ (pfPush n e s).key = s.key ∧ (pfPush n e s).sb = s.sb ∧
    (pfPush n e s).pending = s.pending := by
  unfold pfPush
  (repeat' split) <;> simp -implicitDefEqProofs (maxDischargeDepth := 6)

def Foot.pfPush : List Reg := [.REC_PFSTAT]

@[simp] theorem pfPush_rd (n : Nat) (e : PfEnt) (s : State) (reg : Reg) (rix : Nat) (hav : avoids Foot.pfPush reg = true) :
    (pfPush n e s).rd reg rix = s.rd reg rix := by
  have f0 : reg ≠ F.REC_PFSTAT_DROPPED.reg := avoids_ne (by decide) hav
  unfold pfPush
  (repeat' split) <;> simp -implicitDefEqProofs (maxDischargeDepth := 6) [*]

@[simp] theorem pfDiscard_frame (p : Nat) (b : PfBuf) (s : State) :
    (pfDiscard p b s).env = s.env ∧ (pfDiscard p b s).jrn = s.jrn ∧ (pfDiscard p b s).csn = s.csn ∧
    (pfDiscard p b s).fl = s.fl ∧ (pfDiscard p b s).host = s.host ∧ (pfDiscard p b s).eng = s.eng ∧
    (pfDiscard p b s).img = s.img ∧ (pfDiscard p b s).pmc = s.pmc ∧ (pfDiscard p b s).abt = s.abt ∧
    (pfDiscard p b s).mode = s.mode ∧ (pfDiscard p b s).key = s.key ∧ (pfDiscard p b s).sb = s.sb ∧
    (pfDiscard p b s).pending = s.pending := by
  unfold pfDiscard
  (repeat' split) <;> simp -implicitDefEqProofs (maxDischargeDepth := 6)

def Foot.pfDiscard : List Reg := [.PIR_BUFEXP, .PIR_BUFOCC, .PIR_CPLTRK, .PIR_ERRCNT2, .PIR_EXPMON, .PIR_FBPORT, .PIR_PFCNT, .REC_PFSTAT]

@[simp] theorem pfDiscard_rd (p : Nat) (b : PfBuf) (s : State) (reg : Reg) (rix : Nat) (hav : avoids Foot.pfDiscard reg = true) :
    (pfDiscard p b s).rd reg rix = s.rd reg rix := by
  have c0 : avoids Foot.inject reg = true := avoids_mono (by decide) hav
  have c1 : avoids Foot.track reg = true := avoids_mono (by decide) hav
  have c2 : avoids Foot.pfPush reg = true := avoids_mono (by decide) hav
  have f0 : reg ≠ F.PIR_PFCNT_DISCARDS.reg := avoids_ne (by decide) hav
  unfold pfDiscard
  (repeat' split) <;> simp -implicitDefEqProofs (maxDischargeDepth := 6) [*]

@[simp] theorem pfDiscardIf_frame (p : Nat) (t : PfBuf → Bool) (s : State) :
    (pfDiscardIf p t s).env = s.env ∧ (pfDiscardIf p t s).jrn = s.jrn ∧ (pfDiscardIf p t s).csn = s.csn ∧
    (pfDiscardIf p t s).fl = s.fl ∧ (pfDiscardIf p t s).host = s.host ∧ (pfDiscardIf p t s).eng = s.eng ∧
    (pfDiscardIf p t s).img = s.img ∧ (pfDiscardIf p t s).pmc = s.pmc ∧ (pfDiscardIf p t s).abt = s.abt ∧
    (pfDiscardIf p t s).mode = s.mode ∧ (pfDiscardIf p t s).key = s.key ∧ (pfDiscardIf p t s).sb = s.sb ∧
    (pfDiscardIf p t s).pending = s.pending := by
  unfold pfDiscardIf
  (repeat' split) <;> simp -implicitDefEqProofs (maxDischargeDepth := 6)

def Foot.pfDiscardIf : List Reg := [.PIR_BUFEXP, .PIR_BUFOCC, .PIR_CPLTRK, .PIR_ERRCNT2, .PIR_EXPMON, .PIR_FBPORT, .PIR_PFCNT, .REC_PFSTAT]

@[simp] theorem pfDiscardIf_rd (p : Nat) (t : PfBuf → Bool) (s : State) (reg : Reg) (rix : Nat) (hav : avoids Foot.pfDiscardIf reg = true) :
    (pfDiscardIf p t s).rd reg rix = s.rd reg rix := by
  have c0 : avoids Foot.pfDiscard reg = true := avoids_mono (by decide) hav
  unfold pfDiscardIf
  (repeat' split) <;> simp -implicitDefEqProofs (maxDischargeDepth := 6) [*]

@[simp] theorem setFl_frame (g : Nat) (l : FlLink) (s : State) :
    (setFl g l s).env = s.env ∧ (setFl g l s).jrn = s.jrn ∧ (setFl g l s).err = s.err ∧ (setFl g l s).ports = s.ports ∧
    (setFl g l s).deck = s.deck ∧ (setFl g l s).csn = s.csn ∧ (setFl g l s).host = s.host ∧ (setFl g l s).fab = s.fab ∧
    (setFl g l s).eng = s.eng ∧ (setFl g l s).img = s.img ∧ (setFl g l s).rcd = s.rcd ∧ (setFl g l s).pmc = s.pmc ∧
    (setFl g l s).abt = s.abt ∧ (setFl g l s).mode = s.mode ∧ (setFl g l s).key = s.key ∧ (setFl g l s).sb = s.sb ∧
    (setFl g l s).pending = s.pending := by
  unfold setFl
  (repeat' split) <;> simp -implicitDefEqProofs (maxDischargeDepth := 6)

def Foot.setFl : List Reg := []

@[simp] theorem setFl_rd (g : Nat) (l : FlLink) (s : State) (reg : Reg) (rix : Nat) (hav : avoids Foot.setFl reg = true) :
    (setFl g l s).rd reg rix = s.rd reg rix := by
  unfold setFl
  (repeat' split) <;> simp -implicitDefEqProofs (maxDischargeDepth := 6) [*]

@[simp] theorem markLate_frame (p : Nat) (s : State) :
    (markLate p s).env = s.env ∧ (markLate p s).jrn = s.jrn ∧ (markLate p s).err = s.err ∧ (markLate p s).deck = s.deck ∧
    (markLate p s).csn = s.csn ∧ (markLate p s).fl = s.fl ∧ (markLate p s).host = s.host ∧ (markLate p s).eng = s.eng ∧
    (markLate p s).img = s.img ∧ (markLate p s).rcd = s.rcd ∧ (markLate p s).pmc = s.pmc ∧ (markLate p s).abt = s.abt ∧
    (markLate p s).mode = s.mode ∧ (markLate p s).key = s.key ∧ (markLate p s).sb = s.sb ∧
    (markLate p s).pending = s.pending := by
  unfold markLate
  (repeat' split) <;> simp -implicitDefEqProofs (maxDischargeDepth := 6)

def Foot.markLate : List Reg := []

@[simp] theorem markLate_rd (p : Nat) (s : State) (reg : Reg) (rix : Nat) (hav : avoids Foot.markLate reg = true) :
    (markLate p s).rd reg rix = s.rd reg rix := by
  unfold markLate
  (repeat' split) <;> simp -implicitDefEqProofs (maxDischargeDepth := 6) [*]

@[simp] theorem flDiscard_frame (g : Nat) (s : State) :
    (flDiscard g s).jrn = s.jrn ∧ (flDiscard g s).deck = s.deck ∧ (flDiscard g s).csn = s.csn ∧
    (flDiscard g s).host = s.host ∧ (flDiscard g s).eng = s.eng ∧ (flDiscard g s).img = s.img ∧
    (flDiscard g s).rcd = s.rcd ∧ (flDiscard g s).pmc = s.pmc ∧ (flDiscard g s).abt = s.abt ∧
    (flDiscard g s).mode = s.mode ∧ (flDiscard g s).key = s.key ∧ (flDiscard g s).sb = s.sb ∧
    (flDiscard g s).pending = s.pending := by
  unfold flDiscard
  (repeat' split) <;> simp -implicitDefEqProofs (maxDischargeDepth := 6)

def Foot.flDiscard : List Reg := [.PIR_ERRCNT2, .PIR_FBPORT]

@[simp] theorem flDiscard_rd (g : Nat) (s : State) (reg : Reg) (rix : Nat) (hav : avoids Foot.flDiscard reg = true) :
    (flDiscard g s).rd reg rix = s.rd reg rix := by
  have c1 : avoids Foot.lostPosted reg = true := avoids_mono (by decide) hav
  have c2 : avoids Foot.setFl reg = true := avoids_mono (by decide) hav
  have c3 : avoids Foot.markLate reg = true := avoids_mono (by decide) hav
  unfold flDiscard
  (repeat' split) <;> simp -implicitDefEqProofs (maxDischargeDepth := 6) [*]

@[simp] theorem sendCtl_frame (n : Nat) (h : FabHdr) (s : State) :
    ((sendCtl n h s)).1.env = s.env ∧ ((sendCtl n h s)).1.jrn = s.jrn ∧ ((sendCtl n h s)).1.csn = s.csn ∧
    ((sendCtl n h s)).1.fl = s.fl ∧ ((sendCtl n h s)).1.host = s.host ∧ ((sendCtl n h s)).1.eng = s.eng ∧
    ((sendCtl n h s)).1.img = s.img ∧ ((sendCtl n h s)).1.rcd = s.rcd ∧ ((sendCtl n h s)).1.pmc = s.pmc ∧
    ((sendCtl n h s)).1.abt = s.abt ∧ ((sendCtl n h s)).1.mode = s.mode ∧ ((sendCtl n h s)).1.key = s.key ∧
    ((sendCtl n h s)).1.sb = s.sb ∧ ((sendCtl n h s)).1.pending = s.pending := by
  unfold sendCtl
  (repeat' split) <;> simp -implicitDefEqProofs (maxDischargeDepth := 6)

def Foot.sendCtl : List Reg := [.PIR_BUFEXP, .PIR_BUFOCC, .PIR_CPLTRK, .PIR_ERRCNT2, .PIR_EXPMON, .PIR_FBPORT]

@[simp] theorem sendCtl_rd (n : Nat) (h : FabHdr) (s : State) (reg : Reg) (rix : Nat) (hav : avoids Foot.sendCtl reg = true) :
    ((sendCtl n h s)).1.rd reg rix = s.rd reg rix := by
  have c0 : avoids Foot.inject reg = true := avoids_mono (by decide) hav
  unfold sendCtl
  (repeat' split) <;> simp -implicitDefEqProofs (maxDischargeDepth := 6) [*]

@[simp] theorem ctlToBridge_frame (what : Nat) (say : List Byte) (v : Nat) (m : Fin 64) (q : PortId) (s : State) :
    (ctlToBridge what say v m q s).env = s.env ∧ (ctlToBridge what say v m q s).jrn = s.jrn ∧
    (ctlToBridge what say v m q s).csn = s.csn ∧ (ctlToBridge what say v m q s).fl = s.fl ∧
    (ctlToBridge what say v m q s).eng = s.eng ∧ (ctlToBridge what say v m q s).img = s.img ∧
    (ctlToBridge what say v m q s).rcd = s.rcd ∧ (ctlToBridge what say v m q s).pmc = s.pmc ∧
    (ctlToBridge what say v m q s).abt = s.abt ∧ (ctlToBridge what say v m q s).mode = s.mode ∧
    (ctlToBridge what say v m q s).key = s.key ∧ (ctlToBridge what say v m q s).sb = s.sb ∧
    (ctlToBridge what say v m q s).pending = s.pending := by
  unfold ctlToBridge
  simp -implicitDefEqProofs (maxDischargeDepth := 6)
  repeat' apply And.intro
  all_goals (intros; repeat' split) <;> simp -implicitDefEqProofs (maxDischargeDepth := 6)

def Foot.ctlToBridge : List Reg := [.PIR_BUFEXP, .PIR_BUFOCC, .PIR_CPLTRK, .PIR_ERRCNT2, .PIR_EXPMON, .PIR_FBPORT]

@[simp] theorem ctlToBridge_rd (what : Nat) (say : List Byte) (v : Nat) (m : Fin 64) (q : PortId) (s : State) (reg : Reg) (rix : Nat) (hav : avoids Foot.ctlToBridge reg = true) :
    (ctlToBridge what say v m q s).rd reg rix = s.rd reg rix := by
  have c0 : avoids Foot.sendCtl reg = true := avoids_mono (by decide) hav
  unfold ctlToBridge
  (repeat' split) <;> (try simp -implicitDefEqProofs (maxDischargeDepth := 6) [*]) <;> (repeat' split) <;> simp -implicitDefEqProofs (maxDischargeDepth := 6) [*]

@[simp] theorem ctlTell_frame (p : Nat) (say : List Byte) (s : State) :
    (ctlTell p say s).env = s.env ∧ (ctlTell p say s).jrn = s.jrn ∧ (ctlTell p say s).csn = s.csn ∧
    (ctlTell p say s).fl = s.fl ∧ (ctlTell p say s).host = s.host ∧ (ctlTell p say s).eng = s.eng ∧
    (ctlTell p say s).img = s.img ∧ (ctlTell p say s).rcd = s.rcd ∧ (ctlTell p say s).pmc = s.pmc ∧
    (ctlTell p say s).abt = s.abt ∧ (ctlTell p say s).mode = s.mode ∧ (ctlTell p say s).key = s.key ∧
    (ctlTell p say s).sb = s.sb ∧ (ctlTell p say s).pending = s.pending := by
  unfold ctlTell
  (repeat' split) <;> simp -implicitDefEqProofs (maxDischargeDepth := 6)

def Foot.ctlTell : List Reg := [.PIR_BUFEXP, .PIR_BUFOCC, .PIR_CPLTRK, .PIR_ERRCNT2, .PIR_EXPMON, .PIR_FBPORT]

@[simp] theorem ctlTell_rd (p : Nat) (say : List Byte) (s : State) (reg : Reg) (rix : Nat) (hav : avoids Foot.ctlTell reg = true) :
    (ctlTell p say s).rd reg rix = s.rd reg rix := by
  have c0 : avoids Foot.sendCtl reg = true := avoids_mono (by decide) hav
  unfold ctlTell
  (repeat' split) <;> simp -implicitDefEqProofs (maxDischargeDepth := 6) [*]

@[simp] theorem linkNote_frame (p : Nat) (s : State) :
    (linkNote p s).env = s.env ∧ (linkNote p s).jrn = s.jrn ∧ (linkNote p s).csn = s.csn ∧ (linkNote p s).fl = s.fl ∧
    (linkNote p s).host = s.host ∧ (linkNote p s).img = s.img ∧ (linkNote p s).rcd = s.rcd ∧ (linkNote p s).pmc = s.pmc ∧
    (linkNote p s).abt = s.abt ∧ (linkNote p s).mode = s.mode ∧ (linkNote p s).key = s.key ∧ (linkNote p s).sb = s.sb ∧
    (linkNote p s).pending = s.pending := by
  unfold linkNote
  (repeat' split) <;> simp -implicitDefEqProofs (maxDischargeDepth := 6)

def Foot.linkNote : List Reg := [.ENG_STAT, .PIR_BUFEXP, .PIR_BUFOCC, .PIR_CPLTRK, .PIR_ERRCNT2, .PIR_EXPMON, .PIR_FBPORT]

@[simp] theorem linkNote_rd (p : Nat) (s : State) (reg : Reg) (rix : Nat) (hav : avoids Foot.linkNote reg = true) :
    (linkNote p s).rd reg rix = s.rd reg rix := by
  have c0 : avoids Foot.linkEvent reg = true := avoids_mono (by decide) hav
  have c1 : avoids Foot.ctlTell reg = true := avoids_mono (by decide) hav
  unfold linkNote
  (repeat' split) <;> simp -implicitDefEqProofs (maxDischargeDepth := 6) [*]

@[simp] theorem slotNote_frame (k : Nat) (s : State) :
    (slotNote k s).env = s.env ∧ (slotNote k s).jrn = s.jrn ∧ (slotNote k s).csn = s.csn ∧ (slotNote k s).fl = s.fl ∧
    (slotNote k s).host = s.host ∧ (slotNote k s).img = s.img ∧ (slotNote k s).rcd = s.rcd ∧ (slotNote k s).pmc = s.pmc ∧
    (slotNote k s).abt = s.abt ∧ (slotNote k s).mode = s.mode ∧ (slotNote k s).key = s.key ∧ (slotNote k s).sb = s.sb ∧
    (slotNote k s).pending = s.pending := by
  unfold slotNote
  (repeat' split) <;> simp -implicitDefEqProofs (maxDischargeDepth := 6)

def Foot.slotNote : List Reg := [.ENG_STAT, .PIR_BUFEXP, .PIR_BUFOCC, .PIR_CPLTRK, .PIR_ERRCNT2, .PIR_EXPMON, .PIR_FBPORT]

@[simp] theorem slotNote_rd (k : Nat) (s : State) (reg : Reg) (rix : Nat) (hav : avoids Foot.slotNote reg = true) :
    (slotNote k s).rd reg rix = s.rd reg rix := by
  have c0 : avoids Foot.slotEvent reg = true := avoids_mono (by decide) hav
  have c1 : avoids Foot.ctlTell reg = true := avoids_mono (by decide) hav
  unfold slotNote
  (repeat' split) <;> simp -implicitDefEqProofs (maxDischargeDepth := 6) [*]

@[simp] theorem ctlToAll_frame (what v : Nat) (s : State) :
    (ctlToAll what v s).env = s.env ∧ (ctlToAll what v s).jrn = s.jrn ∧ (ctlToAll what v s).csn = s.csn ∧
    (ctlToAll what v s).fl = s.fl ∧ (ctlToAll what v s).eng = s.eng ∧ (ctlToAll what v s).img = s.img ∧
    (ctlToAll what v s).rcd = s.rcd ∧ (ctlToAll what v s).pmc = s.pmc ∧ (ctlToAll what v s).abt = s.abt ∧
    (ctlToAll what v s).mode = s.mode ∧ (ctlToAll what v s).key = s.key ∧ (ctlToAll what v s).sb = s.sb ∧
    (ctlToAll what v s).pending = s.pending := by
  unfold ctlToAll
  (repeat' split) <;> simp -implicitDefEqProofs (maxDischargeDepth := 6)

def Foot.ctlToAll : List Reg := [.PIR_BUFEXP, .PIR_BUFOCC, .PIR_CPLTRK, .PIR_ERRCNT2, .PIR_EXPMON, .PIR_FBPORT]

@[simp] theorem ctlToAll_rd (what v : Nat) (s : State) (reg : Reg) (rix : Nat) (hav : avoids Foot.ctlToAll reg = true) :
    (ctlToAll what v s).rd reg rix = s.rd reg rix := by
  have c0 : avoids Foot.ctlToBridge reg = true := avoids_mono (by decide) hav
  unfold ctlToAll
  (repeat' split) <;> simp -implicitDefEqProofs (maxDischargeDepth := 6) [*]

@[simp] theorem resetFn_frame (v fn : Nat) (s : State) :
    (resetFn v fn s).env = s.env ∧ (resetFn v fn s).jrn = s.jrn ∧ (resetFn v fn s).err = s.err ∧
    (resetFn v fn s).ports = s.ports ∧ (resetFn v fn s).deck = s.deck ∧ (resetFn v fn s).csn = s.csn ∧
    (resetFn v fn s).fl = s.fl ∧ (resetFn v fn s).fab = s.fab ∧ (resetFn v fn s).eng = s.eng ∧
    (resetFn v fn s).img = s.img ∧ (resetFn v fn s).rcd = s.rcd ∧ (resetFn v fn s).pmc = s.pmc ∧
    (resetFn v fn s).abt = s.abt ∧ (resetFn v fn s).mode = s.mode ∧ (resetFn v fn s).key = s.key ∧
    (resetFn v fn s).sb = s.sb ∧ (resetFn v fn s).pending = s.pending := by
  unfold resetFn
  (repeat' split) <;> simp -implicitDefEqProofs (maxDischargeDepth := 6)

def Foot.resetFn : List Reg := []

@[simp] theorem resetFn_rd (v fn : Nat) (s : State) (reg : Reg) (rix : Nat) (hav : avoids Foot.resetFn reg = true) :
    (resetFn v fn s).rd reg rix = s.rd reg rix := by
  have c0 : avoids Foot.cfgSet reg = true := avoids_mono (by decide) hav
  unfold resetFn
  (repeat' split) <;> simp -implicitDefEqProofs (maxDischargeDepth := 6) [*]

@[simp] theorem clearMsix_frame (v : Nat) (s : State) :
    (clearMsix v s).env = s.env ∧ (clearMsix v s).jrn = s.jrn ∧ (clearMsix v s).err = s.err ∧
    (clearMsix v s).ports = s.ports ∧ (clearMsix v s).deck = s.deck ∧ (clearMsix v s).csn = s.csn ∧
    (clearMsix v s).fl = s.fl ∧ (clearMsix v s).fab = s.fab ∧ (clearMsix v s).eng = s.eng ∧ (clearMsix v s).img = s.img ∧
    (clearMsix v s).rcd = s.rcd ∧ (clearMsix v s).pmc = s.pmc ∧ (clearMsix v s).abt = s.abt ∧
    (clearMsix v s).mode = s.mode ∧ (clearMsix v s).key = s.key ∧ (clearMsix v s).sb = s.sb ∧
    (clearMsix v s).pending = s.pending := by
  unfold clearMsix
  (repeat' split) <;> simp -implicitDefEqProofs (maxDischargeDepth := 6)

def Foot.clearMsix : List Reg := []

@[simp] theorem clearMsix_rd (v : Nat) (s : State) (reg : Reg) (rix : Nat) (hav : avoids Foot.clearMsix reg = true) :
    (clearMsix v s).rd reg rix = s.rd reg rix := by
  unfold clearMsix
  (repeat' split) <;> simp -implicitDefEqProofs (maxDischargeDepth := 6) [*]

@[simp] theorem refreshVs_frame (v : Nat) (s : State) :
    (refreshVs v s).jrn = s.jrn ∧ (refreshVs v s).err = s.err ∧ (refreshVs v s).ports = s.ports ∧
    (refreshVs v s).deck = s.deck ∧ (refreshVs v s).csn = s.csn ∧ (refreshVs v s).fl = s.fl ∧
    (refreshVs v s).host = s.host ∧ (refreshVs v s).fab = s.fab ∧ (refreshVs v s).eng = s.eng ∧
    (refreshVs v s).img = s.img ∧ (refreshVs v s).rcd = s.rcd ∧ (refreshVs v s).pmc = s.pmc ∧ (refreshVs v s).abt = s.abt ∧
    (refreshVs v s).mode = s.mode ∧ (refreshVs v s).key = s.key ∧ (refreshVs v s).sb = s.sb ∧
    (refreshVs v s).pending = s.pending := by
  unfold refreshVs
  (repeat' split) <;> (try simp -implicitDefEqProofs (maxDischargeDepth := 6)) <;> (repeat' split) <;> simp -implicitDefEqProofs (maxDischargeDepth := 6)

def Foot.refreshVs : List Reg := [.GLB_VSSTAT]

@[simp] theorem refreshVs_rd (v : Nat) (s : State) (reg : Reg) (rix : Nat) (hav : avoids Foot.refreshVs reg = true) :
    (refreshVs v s).rd reg rix = s.rd reg rix := by
  have f0 : reg ≠ F.GLB_VSSTAT_MEP_D.reg := avoids_ne (by decide) hav
  unfold refreshVs
  (repeat' split) <;> (try simp -implicitDefEqProofs (maxDischargeDepth := 6) [*]) <;> (repeat' split) <;> simp -implicitDefEqProofs (maxDischargeDepth := 6) [*]

@[simp] theorem startScan_frame (v : Nat) (s : State) :
    (startScan v s).env = s.env ∧ (startScan v s).jrn = s.jrn ∧ (startScan v s).err = s.err ∧
    (startScan v s).ports = s.ports ∧ (startScan v s).deck = s.deck ∧ (startScan v s).fl = s.fl ∧
    (startScan v s).host = s.host ∧ (startScan v s).fab = s.fab ∧ (startScan v s).eng = s.eng ∧
    (startScan v s).img = s.img ∧ (startScan v s).rcd = s.rcd ∧ (startScan v s).pmc = s.pmc ∧ (startScan v s).abt = s.abt ∧
    (startScan v s).mode = s.mode ∧ (startScan v s).key = s.key ∧ (startScan v s).sb = s.sb ∧
    (startScan v s).pending = s.pending := by
  unfold startScan
  (repeat' split) <;> simp -implicitDefEqProofs (maxDischargeDepth := 6)

def Foot.startScan : List Reg := [.CSN_STAT]

@[simp] theorem startScan_rd (v : Nat) (s : State) (reg : Reg) (rix : Nat) (hav : avoids Foot.startScan reg = true) :
    (startScan v s).rd reg rix = s.rd reg rix := by
  have f0 : reg ≠ F.CSN_STAT_LM_STATE.reg := avoids_ne (by decide) hav
  unfold startScan
  (repeat' split) <;> simp -implicitDefEqProofs (maxDischargeDepth := 6) [*]

@[simp] theorem hotLink_frame (p : Nat) (s : State) :
    (hotLink p s).env = s.env ∧ (hotLink p s).jrn = s.jrn ∧ (hotLink p s).err = s.err ∧ (hotLink p s).ports = s.ports ∧
    (hotLink p s).deck = s.deck ∧ (hotLink p s).csn = s.csn ∧ (hotLink p s).fl = s.fl ∧ (hotLink p s).fab = s.fab ∧
    (hotLink p s).eng = s.eng ∧ (hotLink p s).img = s.img ∧ (hotLink p s).rcd = s.rcd ∧ (hotLink p s).pmc = s.pmc ∧
    (hotLink p s).abt = s.abt ∧ (hotLink p s).mode = s.mode ∧ (hotLink p s).key = s.key ∧ (hotLink p s).sb = s.sb ∧
    (hotLink p s).pending = s.pending := by
  unfold hotLink
  (repeat' split) <;> simp -implicitDefEqProofs (maxDischargeDepth := 6)

def Foot.hotLink : List Reg := [.SPN_PSTAT]

@[simp] theorem hotLink_rd (p : Nat) (s : State) (reg : Reg) (rix : Nat) (hav : avoids Foot.hotLink reg = true) :
    (hotLink p s).rd reg rix = s.rd reg rix := by
  have f0 : reg ≠ F.SPN_PSTAT_LTSSM.reg := avoids_ne (by decide) hav
  unfold hotLink
  (repeat' split) <;> simp -implicitDefEqProofs (maxDischargeDepth := 6) [*]

@[simp] theorem slotPerst_frame (p : Nat) (s : State) :
    (slotPerst p s).env = s.env ∧ (slotPerst p s).jrn = s.jrn ∧ (slotPerst p s).err = s.err ∧
    (slotPerst p s).ports = s.ports ∧ (slotPerst p s).deck = s.deck ∧ (slotPerst p s).csn = s.csn ∧
    (slotPerst p s).fl = s.fl ∧ (slotPerst p s).host = s.host ∧ (slotPerst p s).fab = s.fab ∧ (slotPerst p s).eng = s.eng ∧
    (slotPerst p s).img = s.img ∧ (slotPerst p s).rcd = s.rcd ∧ (slotPerst p s).pmc = s.pmc ∧ (slotPerst p s).abt = s.abt ∧
    (slotPerst p s).mode = s.mode ∧ (slotPerst p s).key = s.key ∧ (slotPerst p s).sb = s.sb ∧
    (slotPerst p s).pending = s.pending := by
  unfold slotPerst
  (repeat' split) <;> simp -implicitDefEqProofs (maxDischargeDepth := 6)

def Foot.slotPerst : List Reg := [.GLB_SLOT]

@[simp] theorem slotPerst_rd (p : Nat) (s : State) (reg : Reg) (rix : Nat) (hav : avoids Foot.slotPerst reg = true) :
    (slotPerst p s).rd reg rix = s.rd reg rix := by
  have f0 : reg ≠ F.GLB_SLOT_PERST.reg := avoids_ne (by decide) hav
  unfold slotPerst
  (repeat' split) <;> simp -implicitDefEqProofs (maxDischargeDepth := 6) [*]

@[simp] theorem vsResetCore_frame (v code : Nat) (s : State) :
    (vsResetCore v code s).fl = s.fl ∧ (vsResetCore v code s).img = s.img ∧ (vsResetCore v code s).abt = s.abt ∧
    (vsResetCore v code s).mode = s.mode ∧ (vsResetCore v code s).sb = s.sb ∧ (vsResetCore v code s).pending = s.pending := by
  unfold vsResetCore
  (repeat' split) <;> simp -implicitDefEqProofs (maxDischargeDepth := 6)

def Foot.vsResetCore : List Reg := [.CSN_POOL, .CSN_PSPILL, .CSN_STAT, .ENG_STAT, .GLB_DMASTAT, .GLB_SLOT, .GLB_VSSTAT, .JNL_CMDRES, .JNL_HEAD, .JNL_STAT, .JNL_TAIL, .KEY_NONCE, .KEY_SLOT, .KEY_SLOTHASH, .KEY_STAT, .PIR_BUFEXP, .PIR_BUFOCC, .PIR_CPLTRK, .PIR_ERRCNT2, .PIR_EXPMON, .PIR_FBPORT, .PIR_PFCNT, .PMC_BSTAT, .PMC_CNT, .PMC_STAT, .REC_PFSTAT, .REC_TRGCFG, .REC_TRGCNT, .SPN_PSTAT]

@[simp] theorem vsResetCore_rd (v code : Nat) (s : State) (reg : Reg) (rix : Nat) (hav : avoids Foot.vsResetCore reg = true) :
    (vsResetCore v code s).rd reg rix = s.rd reg rix := by
  have c0 : avoids Foot.stopFlows reg = true := avoids_mono (by decide) hav
  have c1 : avoids Foot.keeperEntry reg = true := avoids_mono (by decide) hav
  have c2 : avoids Foot.discardPortTlps reg = true := avoids_mono (by decide) hav
  have c3 : avoids Foot.dmaFail reg = true := avoids_mono (by decide) hav
  have c4 : avoids Foot.dmaNext reg = true := avoids_mono (by decide) hav
  have c5 : avoids Foot.pfDiscardIf reg = true := avoids_mono (by decide) hav
  have c6 : avoids Foot.ctlToAll reg = true := avoids_mono (by decide) hav
  have c7 : avoids Foot.resetFn reg = true := avoids_mono (by decide) hav
  have c8 : avoids Foot.clearMsix reg = true := avoids_mono (by decide) hav
  have c9 : avoids Foot.refreshVs reg = true := avoids_mono (by decide) hav
  have c10 : avoids Foot.startScan reg = true := avoids_mono (by decide) hav
  have c11 : avoids Foot.hotLink reg = true := avoids_mono (by decide) hav
  have c12 : avoids Foot.slotPerst reg = true := avoids_mono (by decide) hav
  have f0 : reg ≠ F.GLB_VSSTAT_BUS.reg := avoids_ne (by decide) hav
  have f1 : reg ≠ F.GLB_VSSTAT_NOTREADY.reg := avoids_ne (by decide) hav
  have f2 : reg ≠ F.GLB_VSSTAT_RSTCAUSE.reg := avoids_ne (by decide) hav
  unfold vsResetCore
  (repeat' split) <;> simp -implicitDefEqProofs (maxDischargeDepth := 6) [*]

@[simp] theorem vsReset_frame (v code : Nat) (s : State) :
    (vsReset v code s).fl = s.fl ∧ (vsReset v code s).img = s.img ∧ (vsReset v code s).abt = s.abt ∧
    (vsReset v code s).mode = s.mode ∧ (vsReset v code s).sb = s.sb ∧ (vsReset v code s).pending = s.pending := by
  unfold vsReset
  simp -implicitDefEqProofs (maxDischargeDepth := 6)
  repeat' apply And.intro
  all_goals (intros; repeat' split) <;> simp -implicitDefEqProofs (maxDischargeDepth := 6)

def Foot.vsReset : List Reg := [.CSN_POOL, .CSN_PSPILL, .CSN_STAT, .ENG_STAT, .GLB_DMASTAT, .GLB_SLOT, .GLB_VSSTAT, .JNL_CMDRES, .JNL_HEAD, .JNL_STAT, .JNL_TAIL, .KEY_NONCE, .KEY_SLOT, .KEY_SLOTHASH, .KEY_STAT, .PIR_BUFEXP, .PIR_BUFOCC, .PIR_CPLTRK, .PIR_ERRCNT2, .PIR_EXPMON, .PIR_FBPORT, .PIR_PFCNT, .PMC_BSTAT, .PMC_CNT, .PMC_STAT, .REC_PFSTAT, .REC_TRGCFG, .REC_TRGCNT, .SPN_PSTAT]

@[simp] theorem vsReset_rd (v code : Nat) (s : State) (reg : Reg) (rix : Nat) (hav : avoids Foot.vsReset reg = true) :
    (vsReset v code s).rd reg rix = s.rd reg rix := by
  have c0 : avoids Foot.vsResetCore reg = true := avoids_mono (by decide) hav
  unfold vsReset
  (repeat' split) <;> simp -implicitDefEqProofs (maxDischargeDepth := 6) [*]

@[simp] theorem vsResetEnd_frame (v : Nat) (s : State) :
    (vsResetEnd v s).env = s.env ∧ (vsResetEnd v s).jrn = s.jrn ∧ (vsResetEnd v s).csn = s.csn ∧
    (vsResetEnd v s).fl = s.fl ∧ (vsResetEnd v s).eng = s.eng ∧ (vsResetEnd v s).img = s.img ∧
    (vsResetEnd v s).rcd = s.rcd ∧ (vsResetEnd v s).pmc = s.pmc ∧ (vsResetEnd v s).abt = s.abt ∧
    (vsResetEnd v s).mode = s.mode ∧ (vsResetEnd v s).key = s.key ∧ (vsResetEnd v s).sb = s.sb ∧
    (vsResetEnd v s).pending = s.pending := by
  unfold vsResetEnd
  (repeat' split) <;> simp -implicitDefEqProofs (maxDischargeDepth := 6)

def Foot.vsResetEnd : List Reg := [.PIR_BUFEXP, .PIR_BUFOCC, .PIR_CPLTRK, .PIR_ERRCNT2, .PIR_EXPMON, .PIR_FBPORT]

@[simp] theorem vsResetEnd_rd (v : Nat) (s : State) (reg : Reg) (rix : Nat) (hav : avoids Foot.vsResetEnd reg = true) :
    (vsResetEnd v s).rd reg rix = s.rd reg rix := by
  have c0 : avoids Foot.ctlToAll reg = true := avoids_mono (by decide) hav
  unfold vsResetEnd
  (repeat' split) <;> simp -implicitDefEqProofs (maxDischargeDepth := 6) [*]

@[simp] theorem surpriseDown_frame (p : Nat) (s : State) :
    (surpriseDown p s).env = s.env ∧ (surpriseDown p s).jrn = s.jrn ∧ (surpriseDown p s).csn = s.csn ∧
    (surpriseDown p s).fl = s.fl ∧ (surpriseDown p s).fab = s.fab ∧ (surpriseDown p s).eng = s.eng ∧
    (surpriseDown p s).img = s.img ∧ (surpriseDown p s).rcd = s.rcd ∧ (surpriseDown p s).pmc = s.pmc ∧
    (surpriseDown p s).abt = s.abt ∧ (surpriseDown p s).mode = s.mode ∧ (surpriseDown p s).key = s.key ∧
    (surpriseDown p s).sb = s.sb ∧ (surpriseDown p s).pending = s.pending := by
  unfold surpriseDown
  (repeat' split) <;> simp -implicitDefEqProofs (maxDischargeDepth := 6)

def Foot.surpriseDown : List Reg := [.PIR_BUFEXP, .PIR_BUFOCC, .PIR_CPLTRK, .PIR_ERRCNT2, .PIR_EXPMON, .PIR_FBPORT]

@[simp] theorem surpriseDown_rd (p : Nat) (s : State) (reg : Reg) (rix : Nat) (hav : avoids Foot.surpriseDown reg = true) :
    (surpriseDown p s).rd reg rix = s.rd reg rix := by
  have c0 : avoids Foot.aerUnc reg = true := avoids_mono (by decide) hav
  unfold surpriseDown
  (repeat' split) <;> simp -implicitDefEqProofs (maxDischargeDepth := 6) [*]

@[simp] theorem linkDownEvent_frame (p : Nat) (s : State) :
    (linkDownEvent p s).fl = s.fl ∧ (linkDownEvent p s).img = s.img ∧ (linkDownEvent p s).abt = s.abt ∧
    (linkDownEvent p s).mode = s.mode ∧ (linkDownEvent p s).sb = s.sb ∧ (linkDownEvent p s).pending = s.pending := by
  unfold linkDownEvent
  (repeat' split) <;> (try simp -implicitDefEqProofs (maxDischargeDepth := 6)) <;> (repeat' split) <;> simp -implicitDefEqProofs (maxDischargeDepth := 6)

def Foot.linkDownEvent : List Reg := [.CSN_POOL, .CSN_PSPILL, .CSN_STAT, .ENG_STAT, .GLB_DMASTAT, .GLB_SLOT, .GLB_VSSTAT, .JNL_CMDRES, .JNL_HEAD, .JNL_STAT, .JNL_TAIL, .KEY_NONCE, .KEY_SLOT, .KEY_SLOTHASH, .KEY_STAT, .PIR_BUFEXP, .PIR_BUFOCC, .PIR_CPLTRK, .PIR_ERRCNT2, .PIR_EXPMON, .PIR_FBPORT, .PIR_PFCNT, .PMC_BSTAT, .PMC_CNT, .PMC_STAT, .REC_PFSTAT, .REC_TRGCFG, .REC_TRGCNT, .SPN_PSTAT]

@[simp] theorem linkDownEvent_rd (p : Nat) (s : State) (reg : Reg) (rix : Nat) (hav : avoids Foot.linkDownEvent reg = true) :
    (linkDownEvent p s).rd reg rix = s.rd reg rix := by
  have c0 : avoids Foot.pushRec reg = true := avoids_mono (by decide) hav
  have c2 : avoids Foot.linkGone reg = true := avoids_mono (by decide) hav
  have c3 : avoids Foot.linkActive reg = true := avoids_mono (by decide) hav
  have c4 : avoids Foot.synthPort reg = true := avoids_mono (by decide) hav
  have c5 : avoids Foot.flushEgress reg = true := avoids_mono (by decide) hav
  have c6 : avoids Foot.pfDiscardIf reg = true := avoids_mono (by decide) hav
  have c7 : avoids Foot.linkNote reg = true := avoids_mono (by decide) hav
  have c8 : avoids Foot.vsReset reg = true := avoids_mono (by decide) hav
  have c9 : avoids Foot.surpriseDown reg = true := avoids_mono (by decide) hav
  have f0 : reg ≠ F.SPN_PSTAT_DOWNCNT.reg := avoids_ne (by decide) hav
  unfold linkDownEvent
  (repeat' split) <;> (try simp -implicitDefEqProofs (maxDischargeDepth := 6) [*]) <;> (repeat' split) <;> simp -implicitDefEqProofs (maxDischargeDepth := 6) [*]

@[simp] theorem abandonVisit_frame (sp : Nat) (s : State) :
    (abandonVisit sp s).env = s.env ∧ (abandonVisit sp s).jrn = s.jrn ∧ (abandonVisit sp s).err = s.err ∧
    (abandonVisit sp s).ports = s.ports ∧ (abandonVisit sp s).deck = s.deck ∧ (abandonVisit sp s).csn = s.csn ∧
    (abandonVisit sp s).host = s.host ∧ (abandonVisit sp s).fab = s.fab ∧ (abandonVisit sp s).eng = s.eng ∧
    (abandonVisit sp s).img = s.img ∧ (abandonVisit sp s).rcd = s.rcd ∧ (abandonVisit sp s).pmc = s.pmc ∧
    (abandonVisit sp s).abt = s.abt ∧ (abandonVisit sp s).mode = s.mode ∧ (abandonVisit sp s).key = s.key ∧
    (abandonVisit sp s).sb = s.sb ∧ (abandonVisit sp s).pending = s.pending := by
  unfold abandonVisit
  (repeat' split) <;> simp -implicitDefEqProofs (maxDischargeDepth := 6)

def Foot.abandonVisit : List Reg := [.SPN_CALSTAT, .SPN_COEF]

@[simp] theorem abandonVisit_rd (sp : Nat) (s : State) (reg : Reg) (rix : Nat) (hav : avoids Foot.abandonVisit reg = true) :
    (abandonVisit sp s).rd reg rix = s.rd reg rix := by
  have f0 : reg ≠ F.SPN_CALSTAT_ABORT.reg := avoids_ne (by decide) hav
  have f1 : reg ≠ F.SPN_CALSTAT_PHASE.reg := avoids_ne (by decide) hav
  have f2 : reg ≠ .SPN_COEF := avoids_ne (by decide) hav
  unfold abandonVisit
  (repeat' split) <;> simp -implicitDefEqProofs (maxDischargeDepth := 6) [*]

@[simp] theorem dpcTrigger_frame (p : Nat) (s : State) :
    (dpcTrigger p s).env = s.env ∧ (dpcTrigger p s).jrn = s.jrn ∧ (dpcTrigger p s).err = s.err ∧
    (dpcTrigger p s).ports = s.ports ∧ (dpcTrigger p s).deck = s.deck ∧ (dpcTrigger p s).csn = s.csn ∧
    (dpcTrigger p s).fl = s.fl ∧ (dpcTrigger p s).fab = s.fab ∧ (dpcTrigger p s).eng = s.eng ∧
    (dpcTrigger p s).img = s.img ∧ (dpcTrigger p s).rcd = s.rcd ∧ (dpcTrigger p s).pmc = s.pmc ∧
    (dpcTrigger p s).abt = s.abt ∧ (dpcTrigger p s).mode = s.mode ∧ (dpcTrigger p s).key = s.key ∧
    (dpcTrigger p s).sb = s.sb ∧ (dpcTrigger p s).pending = s.pending := by
  unfold dpcTrigger
  (repeat' split) <;> simp -implicitDefEqProofs (maxDischargeDepth := 6)

def Foot.dpcTrigger : List Reg := []

@[simp] theorem dpcTrigger_rd (p : Nat) (s : State) (reg : Reg) (rix : Nat) (hav : avoids Foot.dpcTrigger reg = true) :
    (dpcTrigger p s).rd reg rix = s.rd reg rix := by
  have c0 : avoids Foot.setCapF reg = true := avoids_mono (by decide) hav
  unfold dpcTrigger
  (repeat' split) <;> simp -implicitDefEqProofs (maxDischargeDepth := 6) [*]

@[simp] theorem closedEntry_frame (p : Nat) (s : State) :
    (closedEntry p s).csn = s.csn ∧ (closedEntry p s).fl = s.fl ∧ (closedEntry p s).fab = s.fab ∧
    (closedEntry p s).img = s.img ∧ (closedEntry p s).abt = s.abt ∧ (closedEntry p s).mode = s.mode ∧
    (closedEntry p s).key = s.key ∧ (closedEntry p s).sb = s.sb ∧ (closedEntry p s).pending = s.pending := by
  unfold closedEntry
  (repeat' split) <;> simp -implicitDefEqProofs (maxDischargeDepth := 6)

def Foot.closedEntry : List Reg := [.ENG_STAT, .JNL_HEAD, .JNL_TAIL, .PIR_BUFEXP, .PIR_BUFOCC, .PIR_CPLTRK, .PIR_ERRCNT2, .PIR_EXPMON, .PIR_FBPORT, .PMC_BSTAT, .PMC_CNT, .PMC_STAT, .REC_TRGCFG, .REC_TRGCNT]

@[simp] theorem closedEntry_rd (p : Nat) (s : State) (reg : Reg) (rix : Nat) (hav : avoids Foot.closedEntry reg = true) :
    (closedEntry p s).rd reg rix = s.rd reg rix := by
  have c0 : avoids Foot.keeperEntry reg = true := avoids_mono (by decide) hav
  unfold closedEntry
  (repeat' split) <;> simp -implicitDefEqProofs (maxDischargeDepth := 6) [*]

@[simp] theorem spanClose_frame (p cause : Nat) (s : State) :
    (spanClose p cause s).img = s.img ∧ (spanClose p cause s).abt = s.abt ∧ (spanClose p cause s).mode = s.mode ∧
    (spanClose p cause s).sb = s.sb ∧ (spanClose p cause s).pending = s.pending := by
  unfold spanClose
  (repeat' split) <;> (try simp -implicitDefEqProofs (maxDischargeDepth := 6)) <;> (repeat' split) <;> simp -implicitDefEqProofs (maxDischargeDepth := 6)

def Foot.spanClose : List Reg := [.CSN_POOL, .CSN_PSPILL, .CSN_STAT, .ENG_STAT, .GLB_DMASTAT, .GLB_SLOT, .GLB_VSSTAT, .JNL_CMDRES, .JNL_HEAD, .JNL_STAT, .JNL_TAIL, .KEY_NONCE, .KEY_SLOT, .KEY_SLOTHASH, .KEY_STAT, .PIR_BUFEXP, .PIR_BUFOCC, .PIR_CLOSE, .PIR_CPLTRK, .PIR_ERRCNT2, .PIR_EXPMON, .PIR_FBPORT, .PIR_PFCNT, .PMC_BSTAT, .PMC_CNT, .PMC_STAT, .REC_PFSTAT, .REC_TRGCFG, .REC_TRGCNT, .SPN_CALSTAT, .SPN_COEF, .SPN_FLSTAT, .SPN_PSTAT]

@[simp] theorem spanClose_rd (p cause : Nat) (s : State) (reg : Reg) (rix : Nat) (hav : avoids Foot.spanClose reg = true) :
    (spanClose p cause s).rd reg rix = s.rd reg rix := by
  have c0 : avoids Foot.pushRec reg = true := avoids_mono (by decide) hav
  have c2 : avoids Foot.stopFlows reg = true := avoids_mono (by decide) hav
  have c3 : avoids Foot.linkGone reg = true := avoids_mono (by decide) hav
  have c4 : avoids Foot.discardPortTlps reg = true := avoids_mono (by decide) hav
  have c5 : avoids Foot.aerPort reg = true := avoids_mono (by decide) hav
  have c6 : avoids Foot.linkActive reg = true := avoids_mono (by decide) hav
  have c7 : avoids Foot.synthPort reg = true := avoids_mono (by decide) hav
  have c8 : avoids Foot.flushEgress reg = true := avoids_mono (by decide) hav
  have c9 : avoids Foot.pfDiscardIf reg = true := avoids_mono (by decide) hav
  have c10 : avoids Foot.flDiscard reg = true := avoids_mono (by decide) hav
  have c11 : avoids Foot.vsReset reg = true := avoids_mono (by decide) hav
  have c12 : avoids Foot.abandonVisit reg = true := avoids_mono (by decide) hav
  have c13 : avoids Foot.dpcTrigger reg = true := avoids_mono (by decide) hav
  have c14 : avoids Foot.closedEntry reg = true := avoids_mono (by decide) hav
  have f0 : reg ≠ F.PIR_CLOSE_CAUSE.reg := avoids_ne (by decide) hav
  have f1 : reg ≠ F.PIR_CLOSE_CLOSED.reg := avoids_ne (by decide) hav
  have f2 : reg ≠ F.SPN_FLSTAT_STATE.reg := avoids_ne (by decide) hav
  have f3 : reg ≠ F.SPN_PSTAT_CLOSED.reg := avoids_ne (by decide) hav
  have f4 : reg ≠ F.SPN_PSTAT_LTSSM.reg := avoids_ne (by decide) hav
  unfold spanClose
  (repeat' split) <;> (try simp -implicitDefEqProofs (maxDischargeDepth := 6) [*]) <;> (repeat' split) <;> simp -implicitDefEqProofs (maxDischargeDepth := 6) [*]

@[simp] theorem enterTraining_frame (p : Nat) (s : State) :
    (enterTraining p s).env = s.env ∧ (enterTraining p s).jrn = s.jrn ∧ (enterTraining p s).err = s.err ∧
    (enterTraining p s).ports = s.ports ∧ (enterTraining p s).deck = s.deck ∧ (enterTraining p s).csn = s.csn ∧
    (enterTraining p s).fl = s.fl ∧ (enterTraining p s).host = s.host ∧ (enterTraining p s).fab = s.fab ∧
    (enterTraining p s).eng = s.eng ∧ (enterTraining p s).img = s.img ∧ (enterTraining p s).rcd = s.rcd ∧
    (enterTraining p s).pmc = s.pmc ∧ (enterTraining p s).abt = s.abt ∧ (enterTraining p s).mode = s.mode ∧
    (enterTraining p s).key = s.key ∧ (enterTraining p s).sb = s.sb ∧ (enterTraining p s).pending = s.pending := by
  unfold enterTraining
  (repeat' split) <;> simp -implicitDefEqProofs (maxDischargeDepth := 6)

def Foot.enterTraining : List Reg := [.SPN_FLSTAT, .SPN_LANE, .SPN_PSTAT]

@[simp] theorem enterTraining_rd (p : Nat) (s : State) (reg : Reg) (rix : Nat) (hav : avoids Foot.enterTraining reg = true) :
    (enterTraining p s).rd reg rix = s.rd reg rix := by
  have c0 : avoids Foot.restLane reg = true := avoids_mono (by decide) hav
  have f0 : reg ≠ F.SPN_FLSTAT_STATE.reg := avoids_ne (by decide) hav
  have f1 : reg ≠ F.SPN_PSTAT_LINKUP.reg := avoids_ne (by decide) hav
  have f2 : reg ≠ F.SPN_PSTAT_LTSSM.reg := avoids_ne (by decide) hav
  unfold enterTraining
  (repeat' split) <;> simp -implicitDefEqProofs (maxDischargeDepth := 6) [*]

@[simp] theorem releasePort_frame (p : Nat) (s : State) :
    (releasePort p s).env = s.env ∧ (releasePort p s).jrn = s.jrn ∧ (releasePort p s).err = s.err ∧
    (releasePort p s).deck = s.deck ∧ (releasePort p s).csn = s.csn ∧ (releasePort p s).fl = s.fl ∧
    (releasePort p s).fab = s.fab ∧ (releasePort p s).eng = s.eng ∧ (releasePort p s).img = s.img ∧
    (releasePort p s).rcd = s.rcd ∧ (releasePort p s).pmc = s.pmc ∧ (releasePort p s).abt = s.abt ∧
    (releasePort p s).mode = s.mode ∧ (releasePort p s).key = s.key ∧ (releasePort p s).sb = s.sb ∧
    (releasePort p s).pending = s.pending := by
  unfold releasePort
  (repeat' split) <;> (try simp -implicitDefEqProofs (maxDischargeDepth := 6)) <;> (repeat' split) <;> simp -implicitDefEqProofs (maxDischargeDepth := 6)

def Foot.releasePort : List Reg := [.PIR_CLOSE, .SPN_FLSTAT, .SPN_LANE, .SPN_PSTAT]

@[simp] theorem releasePort_rd (p : Nat) (s : State) (reg : Reg) (rix : Nat) (hav : avoids Foot.releasePort reg = true) :
    (releasePort p s).rd reg rix = s.rd reg rix := by
  have c1 : avoids Foot.setCapF reg = true := avoids_mono (by decide) hav
  have c2 : avoids Foot.enterTraining reg = true := avoids_mono (by decide) hav
  have f0 : reg ≠ F.PIR_CLOSE_CLOSED.reg := avoids_ne (by decide) hav
  have f1 : reg ≠ F.SPN_PSTAT_CLOSED.reg := avoids_ne (by decide) hav
  unfold releasePort
  (repeat' split) <;> (try simp -implicitDefEqProofs (maxDischargeDepth := 6) [*]) <;> (repeat' split) <;> simp -implicitDefEqProofs (maxDischargeDepth := 6) [*]

@[simp] theorem clearSlice_frame (n : Nat) (s : State) :
    (clearSlice n s).env = s.env ∧ (clearSlice n s).jrn = s.jrn ∧ (clearSlice n s).err = s.err ∧
    (clearSlice n s).deck = s.deck ∧ (clearSlice n s).csn = s.csn ∧ (clearSlice n s).fl = s.fl ∧
    (clearSlice n s).host = s.host ∧ (clearSlice n s).fab = s.fab ∧ (clearSlice n s).eng = s.eng ∧
    (clearSlice n s).img = s.img ∧ (clearSlice n s).rcd = s.rcd ∧ (clearSlice n s).pmc = s.pmc ∧
    (clearSlice n s).abt = s.abt ∧ (clearSlice n s).mode = s.mode ∧ (clearSlice n s).key = s.key ∧
    (clearSlice n s).sb = s.sb ∧ (clearSlice n s).pending = s.pending := by
  unfold clearSlice
  (repeat' split) <;> simp -implicitDefEqProofs (maxDischargeDepth := 6)

def Foot.clearSlice : List Reg := [.PIR_BUFEXP, .PIR_BUFOCC]

@[simp] theorem clearSlice_rd (n : Nat) (s : State) (reg : Reg) (rix : Nat) (hav : avoids Foot.clearSlice reg = true) :
    (clearSlice n s).rd reg rix = s.rd reg rix := by
  have f0 : reg ≠ F.PIR_BUFEXP_EXP_OCC.reg := avoids_ne (by decide) hav
  have f1 : reg ≠ .PIR_BUFOCC := avoids_ne (by decide) hav
  unfold clearSlice
  (repeat' split) <;> simp -implicitDefEqProofs (maxDischargeDepth := 6) [*]

@[simp] theorem pierClose_frame (n : Nat) (s : State) :
    (pierClose n s).img = s.img ∧ (pierClose n s).abt = s.abt ∧ (pierClose n s).sb = s.sb ∧
    (pierClose n s).pending = s.pending := by
  unfold pierClose
  (repeat' split) <;> simp -implicitDefEqProofs (maxDischargeDepth := 6)

def Foot.pierClose : List Reg := [.CLK_ISLSTAT, .CSN_POOL, .CSN_PSPILL, .CSN_STAT, .ENG_STAT, .GLB_DMASTAT, .GLB_PIERSTAT, .GLB_SLOT, .GLB_VSSTAT, .JNL_CMDRES, .JNL_HEAD, .JNL_STAT, .JNL_TAIL, .KEY_NONCE, .KEY_SLOT, .KEY_SLOTHASH, .KEY_STAT, .PIR_BUFEXP, .PIR_BUFOCC, .PIR_CLOSE, .PIR_CPLTRK, .PIR_ERRCNT2, .PIR_EXPMON, .PIR_FBPORT, .PIR_PFCNT, .PMC_BSTAT, .PMC_CNT, .PMC_STAT, .PWD_STAT, .REC_PFSTAT, .REC_TRGCFG, .REC_TRGCNT, .SPN_CALSTAT, .SPN_COEF, .SPN_FLSTAT, .SPN_PSTAT]

@[simp] theorem pierClose_rd (n : Nat) (s : State) (reg : Reg) (rix : Nat) (hav : avoids Foot.pierClose reg = true) :
    (pierClose n s).rd reg rix = s.rd reg rix := by
  have c0 : avoids Foot.setDom reg = true := avoids_mono (by decide) hav
  have c1 : avoids Foot.pushRec reg = true := avoids_mono (by decide) hav
  have c2 : avoids Foot.spanClose reg = true := avoids_mono (by decide) hav
  have c3 : avoids Foot.clearSlice reg = true := avoids_mono (by decide) hav
  have f0 : reg ≠ F.GLB_PIERSTAT_STATE.reg := avoids_ne (by decide) hav
  unfold pierClose
  (repeat' split) <;> simp -implicitDefEqProofs (maxDischargeDepth := 6) [*]

@[simp] theorem emptyBuckets_frame (n : Nat) (s : State) :
    (emptyBuckets n s).jrn = s.jrn ∧ (emptyBuckets n s).err = s.err ∧ (emptyBuckets n s).deck = s.deck ∧
    (emptyBuckets n s).csn = s.csn ∧ (emptyBuckets n s).fl = s.fl ∧ (emptyBuckets n s).host = s.host ∧
    (emptyBuckets n s).fab = s.fab ∧ (emptyBuckets n s).eng = s.eng ∧ (emptyBuckets n s).img = s.img ∧
    (emptyBuckets n s).rcd = s.rcd ∧ (emptyBuckets n s).pmc = s.pmc ∧ (emptyBuckets n s).abt = s.abt ∧
    (emptyBuckets n s).mode = s.mode ∧ (emptyBuckets n s).key = s.key ∧ (emptyBuckets n s).sb = s.sb ∧
    (emptyBuckets n s).pending = s.pending := by
  unfold emptyBuckets
  (repeat' split) <;> simp -implicitDefEqProofs (maxDischargeDepth := 6)

def Foot.emptyBuckets : List Reg := []

@[simp] theorem emptyBuckets_rd (n : Nat) (s : State) (reg : Reg) (rix : Nat) (hav : avoids Foot.emptyBuckets reg = true) :
    (emptyBuckets n s).rd reg rix = s.rd reg rix := by
  unfold emptyBuckets
  (repeat' split) <;> simp -implicitDefEqProofs (maxDischargeDepth := 6) [*]

@[simp] theorem restorePier_frame (n : Nat) (s : State) :
    (restorePier n s).jrn = s.jrn ∧ (restorePier n s).err = s.err ∧ (restorePier n s).deck = s.deck ∧
    (restorePier n s).csn = s.csn ∧ (restorePier n s).fl = s.fl ∧ (restorePier n s).host = s.host ∧
    (restorePier n s).fab = s.fab ∧ (restorePier n s).img = s.img ∧ (restorePier n s).rcd = s.rcd ∧
    (restorePier n s).pmc = s.pmc ∧ (restorePier n s).abt = s.abt ∧ (restorePier n s).mode = s.mode ∧
    (restorePier n s).key = s.key ∧ (restorePier n s).sb = s.sb ∧ (restorePier n s).pending = s.pending := by
  unfold restorePier
  (repeat' split) <;> simp -implicitDefEqProofs (maxDischargeDepth := 6)

@[simp] theorem tenantClose_frame (u : Nat) (s : State) :
    (tenantClose u s).env = s.env ∧ (tenantClose u s).jrn = s.jrn ∧ (tenantClose u s).ports = s.ports ∧
    (tenantClose u s).deck = s.deck ∧ (tenantClose u s).csn = s.csn ∧ (tenantClose u s).fl = s.fl ∧
    (tenantClose u s).host = s.host ∧ (tenantClose u s).fab = s.fab ∧ (tenantClose u s).eng = s.eng ∧
    (tenantClose u s).img = s.img ∧ (tenantClose u s).rcd = s.rcd ∧ (tenantClose u s).pmc = s.pmc ∧
    (tenantClose u s).abt = s.abt ∧ (tenantClose u s).mode = s.mode ∧ (tenantClose u s).key = s.key ∧
    (tenantClose u s).sb = s.sb ∧ (tenantClose u s).pending = s.pending := by
  unfold tenantClose
  (repeat' split) <;> simp -implicitDefEqProofs (maxDischargeDepth := 6)

def Foot.tenantClose : List Reg := [.GLB_TCLOSE, .PIR_ERRCNT2]

@[simp] theorem tenantClose_rd (u : Nat) (s : State) (reg : Reg) (rix : Nat) (hav : avoids Foot.tenantClose reg = true) :
    (tenantClose u s).rd reg rix = s.rd reg rix := by
  have c0 : avoids Foot.pushRec reg = true := avoids_mono (by decide) hav
  have f0 : reg ≠ F.GLB_TCLOSE_CLOSED.reg := avoids_ne (by decide) hav
  unfold tenantClose
  (repeat' split) <;> simp -implicitDefEqProofs (maxDischargeDepth := 6) [*]

@[simp] theorem tenantRelease_frame (u : Nat) (s : State) :
    (tenantRelease u s).env = s.env ∧ (tenantRelease u s).jrn = s.jrn ∧ (tenantRelease u s).err = s.err ∧
    (tenantRelease u s).ports = s.ports ∧ (tenantRelease u s).deck = s.deck ∧ (tenantRelease u s).csn = s.csn ∧
    (tenantRelease u s).fl = s.fl ∧ (tenantRelease u s).host = s.host ∧ (tenantRelease u s).fab = s.fab ∧
    (tenantRelease u s).eng = s.eng ∧ (tenantRelease u s).img = s.img ∧ (tenantRelease u s).rcd = s.rcd ∧
    (tenantRelease u s).pmc = s.pmc ∧ (tenantRelease u s).abt = s.abt ∧ (tenantRelease u s).mode = s.mode ∧
    (tenantRelease u s).key = s.key ∧ (tenantRelease u s).sb = s.sb ∧ (tenantRelease u s).pending = s.pending := by
  unfold tenantRelease
  (repeat' split) <;> simp -implicitDefEqProofs (maxDischargeDepth := 6)

def Foot.tenantRelease : List Reg := [.GLB_TCLOSE]

@[simp] theorem tenantRelease_rd (u : Nat) (s : State) (reg : Reg) (rix : Nat) (hav : avoids Foot.tenantRelease reg = true) :
    (tenantRelease u s).rd reg rix = s.rd reg rix := by
  have f0 : reg ≠ F.GLB_TCLOSE_CLOSED.reg := avoids_ne (by decide) hav
  unfold tenantRelease
  (repeat' split) <;> simp -implicitDefEqProofs (maxDischargeDepth := 6) [*]

@[simp] theorem refreshAlert_frame (s : State) :
    (refreshAlert s).env = s.env ∧ (refreshAlert s).jrn = s.jrn ∧ (refreshAlert s).err = s.err ∧
    (refreshAlert s).ports = s.ports ∧ (refreshAlert s).deck = s.deck ∧ (refreshAlert s).csn = s.csn ∧
    (refreshAlert s).fl = s.fl ∧ (refreshAlert s).host = s.host ∧ (refreshAlert s).fab = s.fab ∧
    (refreshAlert s).eng = s.eng ∧ (refreshAlert s).img = s.img ∧ (refreshAlert s).rcd = s.rcd ∧
    (refreshAlert s).pmc = s.pmc ∧ (refreshAlert s).abt = s.abt ∧ (refreshAlert s).mode = s.mode ∧
    (refreshAlert s).key = s.key ∧ (refreshAlert s).sb = s.sb ∧ (refreshAlert s).pending = s.pending := by
  unfold refreshAlert
  (repeat' split) <;> simp -implicitDefEqProofs (maxDischargeDepth := 6)

def Foot.refreshAlert : List Reg := [.GLB_ERRSTAT]

@[simp] theorem refreshAlert_rd (s : State) (reg : Reg) (rix : Nat) (hav : avoids Foot.refreshAlert reg = true) :
    (refreshAlert s).rd reg rix = s.rd reg rix := by
  have f0 : reg ≠ F.GLB_ERRSTAT_ALERT.reg := avoids_ne (by decide) hav
  have f1 : reg ≠ F.GLB_ERRSTAT_FAULT.reg := avoids_ne (by decide) hav
  unfold refreshAlert
  (repeat' split) <;> simp -implicitDefEqProofs (maxDischargeDepth := 6) [*]

@[simp] theorem liveKill_frame (s : State) :
    (liveKill s).csn = s.csn ∧ (liveKill s).fl = s.fl ∧ (liveKill s).fab = s.fab ∧ (liveKill s).abt = s.abt ∧
    (liveKill s).mode = s.mode ∧ (liveKill s).sb = s.sb ∧ (liveKill s).pending = s.pending := by
  unfold liveKill
  (repeat' split) <;> simp -implicitDefEqProofs (maxDischargeDepth := 6)

def Foot.liveKill : List Reg := [.ENG_STAT, .GLB_IMGSTAT, .JNL_CMDRES, .JNL_HEAD, .JNL_STAT, .JNL_TAIL, .KEY_NONCE, .KEY_SLOT, .KEY_SLOTHASH, .KEY_STAT, .PIR_BUFEXP, .PIR_BUFOCC, .PIR_CPLTRK, .PIR_ERRCNT2, .PIR_EXPMON, .PIR_FBPORT, .PMC_BSTAT, .PMC_CNT, .PMC_STAT, .REC_TRGCFG, .REC_TRGCNT]

@[simp] theorem liveKill_rd (s : State) (reg : Reg) (rix : Nat) (hav : avoids Foot.liveKill reg = true) :
    (liveKill s).rd reg rix = s.rd reg rix := by
  have c0 : avoids Foot.endCmd reg = true := avoids_mono (by decide) hav
  have c1 : avoids Foot.failCmd reg = true := avoids_mono (by decide) hav
  have f0 : reg ≠ F.GLB_IMGSTAT_LIVE.reg := avoids_ne (by decide) hav
  unfold liveKill
  (repeat' split) <;> simp -implicitDefEqProofs (maxDischargeDepth := 6) [*]

@[simp] theorem quarantine_frame (cause : Nat) (s : State) :
    (quarantine cause s).abt = s.abt ∧ (quarantine cause s).sb = s.sb ∧ (quarantine cause s).pending = s.pending := by
  unfold quarantine
  (repeat' split) <;> simp -implicitDefEqProofs (maxDischargeDepth := 6)

def Foot.quarantine : List Reg := [.CSN_POOL, .CSN_PSPILL, .CSN_STAT, .ENG_STAT, .GLB_DMASTAT, .GLB_ERRSTAT, .GLB_IMGSTAT, .GLB_MODE, .GLB_QSTAT, .GLB_SLOT, .GLB_VSSTAT, .JNL_CMDRES, .JNL_HEAD, .JNL_STAT, .JNL_TAIL, .KEY_NONCE, .KEY_SLOT, .KEY_SLOTHASH, .KEY_STAT, .PIR_BUFEXP, .PIR_BUFOCC, .PIR_CLOSE, .PIR_CPLTRK, .PIR_ERRCNT2, .PIR_EXPMON, .PIR_FBPORT, .PIR_PFCNT, .PMC_BSTAT, .PMC_CNT, .PMC_STAT, .REC_PFSTAT, .REC_STAT, .REC_TRGCFG, .REC_TRGCNT, .SPN_CALSTAT, .SPN_COEF, .SPN_FLSTAT, .SPN_PSTAT]

@[simp] theorem quarantine_rd (cause : Nat) (s : State) (reg : Reg) (rix : Nat) (hav : avoids Foot.quarantine reg = true) :
    (quarantine cause s).rd reg rix = s.rd reg rix := by
  have c0 : avoids Foot.stopFlows reg = true := avoids_mono (by decide) hav
  have c1 : avoids Foot.flushStart reg = true := avoids_mono (by decide) hav
  have c2 : avoids Foot.setMode reg = true := avoids_mono (by decide) hav
  have c3 : avoids Foot.discardPortTlps reg = true := avoids_mono (by decide) hav
  have c4 : avoids Foot.synthPort reg = true := avoids_mono (by decide) hav
  have c5 : avoids Foot.spanClose reg = true := avoids_mono (by decide) hav
  have c6 : avoids Foot.refreshAlert reg = true := avoids_mono (by decide) hav
  have c7 : avoids Foot.liveKill reg = true := avoids_mono (by decide) hav
  have f0 : reg ≠ F.GLB_MODE_ENTERING.reg := avoids_ne (by decide) hav
  have f1 : reg ≠ F.GLB_MODE_EXITING.reg := avoids_ne (by decide) hav
  have f2 : reg ≠ F.GLB_QSTAT_CAUSE.reg := avoids_ne (by decide) hav
  have f3 : reg ≠ F.GLB_QSTAT_QUAR.reg := avoids_ne (by decide) hav
  unfold quarantine
  (repeat' split) <;> simp -implicitDefEqProofs (maxDischargeDepth := 6) [*]

@[simp] theorem planeFail_frame (m cause : Nat) (s : State) :
    (planeFail m cause s).abt = s.abt ∧ (planeFail m cause s).sb = s.sb ∧ (planeFail m cause s).pending = s.pending := by
  unfold planeFail
  (repeat' split) <;> simp -implicitDefEqProofs (maxDischargeDepth := 6)

def Foot.planeFail : List Reg := [.CSN_POOL, .CSN_PSPILL, .CSN_STAT, .DCK_STAT, .ENG_STAT, .GLB_DMASTAT, .GLB_ERRSTAT, .GLB_IMGSTAT, .GLB_MODE, .GLB_PLANES, .GLB_QSTAT, .GLB_SLOT, .GLB_VSSTAT, .JNL_CMDRES, .JNL_HEAD, .JNL_STAT, .JNL_TAIL, .KEY_NONCE, .KEY_SLOT, .KEY_SLOTHASH, .KEY_STAT, .PIR_BUFEXP, .PIR_BUFOCC, .PIR_CLOSE, .PIR_CPLTRK, .PIR_DKSTAT, .PIR_ERRCNT2, .PIR_EXPMON, .PIR_FBPORT, .PIR_PFCNT, .PIR_PMAP, .PMC_BSTAT, .PMC_CNT, .PMC_STAT, .REC_PFSTAT, .REC_STAT, .REC_TRGCFG, .REC_TRGCNT, .SPN_CALSTAT, .SPN_COEF, .SPN_FLSTAT, .SPN_PSTAT]

@[simp] theorem planeFail_rd (m cause : Nat) (s : State) (reg : Reg) (rix : Nat) (hav : avoids Foot.planeFail reg = true) :
    (planeFail m cause s).rd reg rix = s.rd reg rix := by
  have c0 : avoids Foot.pushRec reg = true := avoids_mono (by decide) hav
  have c1 : avoids Foot.setPlane reg = true := avoids_mono (by decide) hav
  have c2 : avoids Foot.planeFailCore reg = true := avoids_mono (by decide) hav
  have c3 : avoids Foot.quarantine reg = true := avoids_mono (by decide) hav
  have f0 : reg ≠ F.DCK_STAT_CAUSE.reg := avoids_ne (by decide) hav
  unfold planeFail
  (repeat' split) <;> simp -implicitDefEqProofs (maxDischargeDepth := 6) [*]

@[simp] theorem losePages_frame (fs : List Nat) (s : State) :
    (losePages fs s).img = s.img ∧ (losePages fs s).abt = s.abt ∧ (losePages fs s).mode = s.mode ∧
    (losePages fs s).sb = s.sb ∧ (losePages fs s).pending = s.pending := by
  unfold losePages
  (repeat' split) <;> simp -implicitDefEqProofs (maxDischargeDepth := 6)

def Foot.losePages : List Reg := [.CSN_POOL, .CSN_PSPILL, .CSN_STAT, .ENG_STAT, .GLB_DMASTAT, .GLB_SLOT, .GLB_VSSTAT, .JNL_CMDRES, .JNL_HEAD, .JNL_STAT, .JNL_TAIL, .KEY_NONCE, .KEY_SLOT, .KEY_SLOTHASH, .KEY_STAT, .PIR_BUFEXP, .PIR_BUFOCC, .PIR_CLOSE, .PIR_CPLTRK, .PIR_ERRCNT2, .PIR_EXPMON, .PIR_FBPORT, .PIR_PFCNT, .PMC_BSTAT, .PMC_CNT, .PMC_STAT, .REC_PFSTAT, .REC_TRGCFG, .REC_TRGCNT, .SPN_CALSTAT, .SPN_COEF, .SPN_FLSTAT, .SPN_PSTAT]

@[simp] theorem losePages_rd (fs : List Nat) (s : State) (reg : Reg) (rix : Nat) (hav : avoids Foot.losePages reg = true) :
    (losePages fs s).rd reg rix = s.rd reg rix := by
  have c0 : avoids Foot.closeSpill reg = true := avoids_mono (by decide) hav
  have c1 : avoids Foot.spanClose reg = true := avoids_mono (by decide) hav
  unfold losePages
  (repeat' split) <;> simp -implicitDefEqProofs (maxDischargeDepth := 6) [*]

@[simp] theorem channelFail_frame (ch cause : Nat) (s : State) :
    (channelFail ch cause s).img = s.img ∧ (channelFail ch cause s).abt = s.abt ∧ (channelFail ch cause s).mode = s.mode ∧
    (channelFail ch cause s).sb = s.sb ∧ (channelFail ch cause s).pending = s.pending := by
  unfold channelFail
  (repeat' split) <;> simp -implicitDefEqProofs (maxDischargeDepth := 6)

def Foot.channelFail : List Reg := [.CSN_CHSTAT, .CSN_POOL, .CSN_PSPILL, .CSN_STAT, .ENG_STAT, .GLB_DMASTAT, .GLB_SLOT, .GLB_VSSTAT, .JNL_CMDRES, .JNL_HEAD, .JNL_STAT, .JNL_TAIL, .KEY_NONCE, .KEY_SLOT, .KEY_SLOTHASH, .KEY_STAT, .PIR_BUFEXP, .PIR_BUFOCC, .PIR_CLOSE, .PIR_CPLTRK, .PIR_ERRCNT2, .PIR_EXPMON, .PIR_FBPORT, .PIR_PFCNT, .PMC_BSTAT, .PMC_CNT, .PMC_STAT, .REC_PFSTAT, .REC_TRGCFG, .REC_TRGCNT, .SPN_CALSTAT, .SPN_COEF, .SPN_FLSTAT, .SPN_PSTAT]

@[simp] theorem channelFail_rd (ch cause : Nat) (s : State) (reg : Reg) (rix : Nat) (hav : avoids Foot.channelFail reg = true) :
    (channelFail ch cause s).rd reg rix = s.rd reg rix := by
  have c0 : avoids Foot.pushRec reg = true := avoids_mono (by decide) hav
  have c1 : avoids Foot.setChan reg = true := avoids_mono (by decide) hav
  have c2 : avoids Foot.refreshSpill reg = true := avoids_mono (by decide) hav
  have c3 : avoids Foot.losePages reg = true := avoids_mono (by decide) hav
  have f0 : reg ≠ F.CSN_CHSTAT_CAUSE.reg := avoids_ne (by decide) hav
  have f1 : reg ≠ F.JNL_STAT_CH0_LOST.reg := avoids_ne (by decide) hav
  have f2 : reg ≠ .JNL_TAIL := avoids_ne (by decide) hav
  unfold channelFail
  (repeat' split) <;> simp -implicitDefEqProofs (maxDischargeDepth := 6) [*]

@[simp] theorem cfgComplete_frame (r : CfgReq) (status : Nat) (data : List Byte) (s : State) :
    (cfgComplete r status data s).env = s.env ∧ (cfgComplete r status data s).jrn = s.jrn ∧
    (cfgComplete r status data s).csn = s.csn ∧ (cfgComplete r status data s).fl = s.fl ∧
    (cfgComplete r status data s).fab = s.fab ∧ (cfgComplete r status data s).eng = s.eng ∧
    (cfgComplete r status data s).img = s.img ∧ (cfgComplete r status data s).rcd = s.rcd ∧
    (cfgComplete r status data s).pmc = s.pmc ∧ (cfgComplete r status data s).abt = s.abt ∧
    (cfgComplete r status data s).mode = s.mode ∧ (cfgComplete r status data s).key = s.key ∧
    (cfgComplete r status data s).sb = s.sb ∧ (cfgComplete r status data s).pending = s.pending := by
  unfold cfgComplete
  (repeat' split) <;> simp -implicitDefEqProofs (maxDischargeDepth := 6)

def Foot.cfgComplete : List Reg := [.PIR_BUFEXP, .PIR_BUFOCC, .PIR_CPLTRK, .PIR_ERRCNT2, .PIR_EXPMON, .PIR_FBPORT]

@[simp] theorem cfgComplete_rd (r : CfgReq) (status : Nat) (data : List Byte) (s : State) (reg : Reg) (rix : Nat) (hav : avoids Foot.cfgComplete reg = true) :
    (cfgComplete r status data s).rd reg rix = s.rd reg rix := by
  have c0 : avoids Foot.sendCpl reg = true := avoids_mono (by decide) hav
  unfold cfgComplete
  (repeat' split) <;> simp -implicitDefEqProofs (maxDischargeDepth := 6) [*]

@[simp] theorem ctlAnswered_frame (id mod : Nat) (s : State) :
    (ctlAnswered id mod s).env = s.env ∧ (ctlAnswered id mod s).jrn = s.jrn ∧ (ctlAnswered id mod s).csn = s.csn ∧
    (ctlAnswered id mod s).fl = s.fl ∧ (ctlAnswered id mod s).fab = s.fab ∧ (ctlAnswered id mod s).eng = s.eng ∧
    (ctlAnswered id mod s).img = s.img ∧ (ctlAnswered id mod s).rcd = s.rcd ∧ (ctlAnswered id mod s).pmc = s.pmc ∧
    (ctlAnswered id mod s).abt = s.abt ∧ (ctlAnswered id mod s).mode = s.mode ∧ (ctlAnswered id mod s).key = s.key ∧
    (ctlAnswered id mod s).sb = s.sb ∧ (ctlAnswered id mod s).pending = s.pending := by
  unfold ctlAnswered
  (repeat' split) <;> simp -implicitDefEqProofs (maxDischargeDepth := 6)

def Foot.ctlAnswered : List Reg := [.PIR_BUFEXP, .PIR_BUFOCC, .PIR_CPLTRK, .PIR_ERRCNT2, .PIR_EXPMON, .PIR_FBPORT]

@[simp] theorem ctlAnswered_rd (id mod : Nat) (s : State) (reg : Reg) (rix : Nat) (hav : avoids Foot.ctlAnswered reg = true) :
    (ctlAnswered id mod s).rd reg rix = s.rd reg rix := by
  have c0 : avoids Foot.cfgComplete reg = true := avoids_mono (by decide) hav
  unfold ctlAnswered
  (repeat' split) <;> simp -implicitDefEqProofs (maxDischargeDepth := 6) [*]

@[simp] theorem cfgAbort_frame (r : CfgReq) (s : State) :
    (cfgAbort r s).csn = s.csn ∧ (cfgAbort r s).fl = s.fl ∧ (cfgAbort r s).fab = s.fab ∧ (cfgAbort r s).img = s.img ∧
    (cfgAbort r s).abt = s.abt ∧ (cfgAbort r s).mode = s.mode ∧ (cfgAbort r s).key = s.key ∧ (cfgAbort r s).sb = s.sb ∧
    (cfgAbort r s).pending = s.pending := by
  unfold cfgAbort
  (repeat' split) <;> simp -implicitDefEqProofs (maxDischargeDepth := 6)

def Foot.cfgAbort : List Reg := [.ENG_STAT, .JNL_HEAD, .JNL_TAIL, .PIR_BUFEXP, .PIR_BUFOCC, .PIR_CPLTRK, .PIR_ERRCNT2, .PIR_EXPMON, .PIR_FBPORT, .PMC_BSTAT, .PMC_CNT, .PMC_STAT, .REC_TRGCFG, .REC_TRGCNT]

@[simp] theorem cfgAbort_rd (r : CfgReq) (s : State) (reg : Reg) (rix : Nat) (hav : avoids Foot.cfgAbort reg = true) :
    (cfgAbort r s).rd reg rix = s.rd reg rix := by
  have c0 : avoids Foot.keeperEntry reg = true := avoids_mono (by decide) hav
  have c1 : avoids Foot.cfgComplete reg = true := avoids_mono (by decide) hav
  unfold cfgAbort
  (repeat' split) <;> simp -implicitDefEqProofs (maxDischargeDepth := 6) [*]

@[simp] theorem setLive_frame (st : Nat) (s : State) :
    (setLive st s).csn = s.csn ∧ (setLive st s).fl = s.fl ∧ (setLive st s).fab = s.fab ∧ (setLive st s).img = s.img ∧
    (setLive st s).abt = s.abt ∧ (setLive st s).mode = s.mode ∧ (setLive st s).key = s.key ∧ (setLive st s).sb = s.sb ∧
    (setLive st s).pending = s.pending := by
  unfold setLive
  (repeat' split) <;> simp -implicitDefEqProofs (maxDischargeDepth := 6)

def Foot.setLive : List Reg := [.ENG_STAT, .GLB_IMGSTAT, .JNL_HEAD, .JNL_TAIL, .PIR_BUFEXP, .PIR_BUFOCC, .PIR_CPLTRK, .PIR_ERRCNT2, .PIR_EXPMON, .PIR_FBPORT, .PMC_BSTAT, .PMC_CNT, .PMC_STAT, .REC_TRGCFG, .REC_TRGCNT]

@[simp] theorem setLive_rd (st : Nat) (s : State) (reg : Reg) (rix : Nat) (hav : avoids Foot.setLive reg = true) :
    (setLive st s).rd reg rix = s.rd reg rix := by
  have c0 : avoids Foot.progress reg = true := avoids_mono (by decide) hav
  have f0 : reg ≠ F.GLB_IMGSTAT_LIVE.reg := avoids_ne (by decide) hav
  unfold setLive
  (repeat' split) <;> simp -implicitDefEqProofs (maxDischargeDepth := 6) [*]

@[simp] theorem planMove_frame (l : List (Nat × Nat)) (g reason stop : Nat) (s : State) :
    (planMove l g reason stop s).env = s.env ∧ (planMove l g reason stop s).jrn = s.jrn ∧
    (planMove l g reason stop s).err = s.err ∧ (planMove l g reason stop s).ports = s.ports ∧
    (planMove l g reason stop s).deck = s.deck ∧ (planMove l g reason stop s).csn = s.csn ∧
    (planMove l g reason stop s).fl = s.fl ∧ (planMove l g reason stop s).host = s.host ∧
    (planMove l g reason stop s).fab = s.fab ∧ (planMove l g reason stop s).img = s.img ∧
    (planMove l g reason stop s).rcd = s.rcd ∧ (planMove l g reason stop s).pmc = s.pmc ∧
    (planMove l g reason stop s).abt = s.abt ∧ (planMove l g reason stop s).mode = s.mode ∧
    (planMove l g reason stop s).key = s.key ∧ (planMove l g reason stop s).sb = s.sb ∧
    (planMove l g reason stop s).pending = s.pending := by
  unfold planMove
  (repeat' split) <;> simp -implicitDefEqProofs (maxDischargeDepth := 6)

def Foot.planMove : List Reg := [.ENG_STAT, .PIR_DUTY]

@[simp] theorem planMove_rd (l : List (Nat × Nat)) (g reason stop : Nat) (s : State) (reg : Reg) (rix : Nat) (hav : avoids Foot.planMove reg = true) :
    (planMove l g reason stop s).rd reg rix = s.rd reg rix := by
  have c0 : avoids Foot.setEngQ reg = true := avoids_mono (by decide) hav
  have c1 : avoids Foot.wakeEng reg = true := avoids_mono (by decide) hav
  have c2 : avoids Foot.startMove reg = true := avoids_mono (by decide) hav
  have f0 : reg ≠ F.ENG_STAT_STATE.reg := avoids_ne (by decide) hav
  unfold planMove
  (repeat' split) <;> simp -implicitDefEqProofs (maxDischargeDepth := 6) [*]

@[simp] theorem parkEngines_frame (gs : List Nat) (s : State) :
    (parkEngines gs s).env = s.env ∧ (parkEngines gs s).jrn = s.jrn ∧ (parkEngines gs s).err = s.err ∧
    (parkEngines gs s).ports = s.ports ∧ (parkEngines gs s).deck = s.deck ∧ (parkEngines gs s).csn = s.csn ∧
    (parkEngines gs s).fl = s.fl ∧ (parkEngines gs s).host = s.host ∧ (parkEngines gs s).fab = s.fab ∧
    (parkEngines gs s).img = s.img ∧ (parkEngines gs s).rcd = s.rcd ∧ (parkEngines gs s).pmc = s.pmc ∧
    (parkEngines gs s).abt = s.abt ∧ (parkEngines gs s).mode = s.mode ∧ (parkEngines gs s).key = s.key ∧
    (parkEngines gs s).sb = s.sb ∧ (parkEngines gs s).pending = s.pending := by
  unfold parkEngines
  (repeat' split) <;> simp -implicitDefEqProofs (maxDischargeDepth := 6)

def Foot.parkEngines : List Reg := [.ENG_CTL, .ENG_STAT, .PIR_DUTY]

@[simp] theorem parkEngines_rd (gs : List Nat) (s : State) (reg : Reg) (rix : Nat) (hav : avoids Foot.parkEngines reg = true) :
    (parkEngines gs s).rd reg rix = s.rd reg rix := by
  have c0 : avoids Foot.planMove reg = true := avoids_mono (by decide) hav
  have f0 : reg ≠ F.ENG_CTL_PARK.reg := avoids_ne (by decide) hav
  have f1 : reg ≠ F.ENG_STAT_STATE.reg := avoids_ne (by decide) hav
  unfold parkEngines
  (repeat' split) <;> simp -implicitDefEqProofs (maxDischargeDepth := 6) [*]

@[simp] theorem unparkEngine_frame (g : Nat) (s : State) :
    (unparkEngine g s).env = s.env ∧ (unparkEngine g s).jrn = s.jrn ∧ (unparkEngine g s).err = s.err ∧
    (unparkEngine g s).ports = s.ports ∧ (unparkEngine g s).deck = s.deck ∧ (unparkEngine g s).csn = s.csn ∧
    (unparkEngine g s).fl = s.fl ∧ (unparkEngine g s).host = s.host ∧ (unparkEngine g s).fab = s.fab ∧
    (unparkEngine g s).img = s.img ∧ (unparkEngine g s).rcd = s.rcd ∧ (unparkEngine g s).pmc = s.pmc ∧
    (unparkEngine g s).abt = s.abt ∧ (unparkEngine g s).mode = s.mode ∧ (unparkEngine g s).key = s.key ∧
    (unparkEngine g s).sb = s.sb ∧ (unparkEngine g s).pending = s.pending := by
  unfold unparkEngine
  (repeat' split) <;> simp -implicitDefEqProofs (maxDischargeDepth := 6)

def Foot.unparkEngine : List Reg := [.ENG_CTL, .ENG_STAT, .PIR_DUTY]

@[simp] theorem unparkEngine_rd (g : Nat) (s : State) (reg : Reg) (rix : Nat) (hav : avoids Foot.unparkEngine reg = true) :
    (unparkEngine g s).rd reg rix = s.rd reg rix := by
  have c0 : avoids Foot.planMove reg = true := avoids_mono (by decide) hav
  have f0 : reg ≠ F.ENG_CTL_PARK.reg := avoids_ne (by decide) hav
  have f1 : reg ≠ F.ENG_STAT_STATE.reg := avoids_ne (by decide) hav
  unfold unparkEngine
  (repeat' split) <;> simp -implicitDefEqProofs (maxDischargeDepth := 6) [*]

@[simp] theorem parkRequest_frame (g : Nat) (park : Bool) (s : State) :
    (parkRequest g park s).env = s.env ∧ (parkRequest g park s).jrn = s.jrn ∧ (parkRequest g park s).err = s.err ∧
    (parkRequest g park s).ports = s.ports ∧ (parkRequest g park s).deck = s.deck ∧ (parkRequest g park s).csn = s.csn ∧
    (parkRequest g park s).fl = s.fl ∧ (parkRequest g park s).host = s.host ∧ (parkRequest g park s).fab = s.fab ∧
    (parkRequest g park s).img = s.img ∧ (parkRequest g park s).rcd = s.rcd ∧ (parkRequest g park s).pmc = s.pmc ∧
    (parkRequest g park s).abt = s.abt ∧ (parkRequest g park s).mode = s.mode ∧ (parkRequest g park s).key = s.key ∧
    (parkRequest g park s).sb = s.sb ∧ (parkRequest g park s).pending = s.pending := by
  unfold parkRequest
  (repeat' split) <;> simp -implicitDefEqProofs (maxDischargeDepth := 6)

def Foot.parkRequest : List Reg := [.ENG_CTL, .ENG_STAT, .PIR_DUTY]

@[simp] theorem parkRequest_rd (g : Nat) (park : Bool) (s : State) (reg : Reg) (rix : Nat) (hav : avoids Foot.parkRequest reg = true) :
    (parkRequest g park s).rd reg rix = s.rd reg rix := by
  have c0 : avoids Foot.parkEngines reg = true := avoids_mono (by decide) hav
  have c1 : avoids Foot.unparkEngine reg = true := avoids_mono (by decide) hav
  unfold parkRequest
  (repeat' split) <;> simp -implicitDefEqProofs (maxDischargeDepth := 6) [*]

@[simp] theorem parkNext_frame (n m : Nat) (s : State) :
    (parkNext n m s).env = s.env ∧ (parkNext n m s).jrn = s.jrn ∧ (parkNext n m s).err = s.err ∧
    (parkNext n m s).ports = s.ports ∧ (parkNext n m s).deck = s.deck ∧ (parkNext n m s).csn = s.csn ∧
    (parkNext n m s).fl = s.fl ∧ (parkNext n m s).host = s.host ∧ (parkNext n m s).fab = s.fab ∧
    (parkNext n m s).img = s.img ∧ (parkNext n m s).rcd = s.rcd ∧ (parkNext n m s).pmc = s.pmc ∧
    (parkNext n m s).abt = s.abt ∧ (parkNext n m s).mode = s.mode ∧ (parkNext n m s).key = s.key ∧
    (parkNext n m s).sb = s.sb ∧ (parkNext n m s).pending = s.pending := by
  induction m generalizing s with
  | zero => simp [parkNext]
  | succ m ih =>
    unfold parkNext
    (repeat' split) <;> simp -implicitDefEqProofs [ih]

def Foot.parkNext : List Reg := [.ENG_CTL, .ENG_STAT, .PIR_DUTY]

@[simp] theorem parkNext_rd (n m : Nat) (s : State) (reg : Reg) (rix : Nat) (hav : avoids Foot.parkNext reg = true) :
    (parkNext n m s).rd reg rix = s.rd reg rix := by
  have c0 : avoids Foot.parkEngines reg = true := avoids_mono (by decide) hav
  have c1 : avoids Foot.unparkEngine reg = true := avoids_mono (by decide) hav
  induction m generalizing s with
  | zero => simp [parkNext]
  | succ m ih =>
    unfold parkNext
    (repeat' split) <;> simp -implicitDefEqProofs [ih, *]

@[simp] theorem endPlanned_frame (g : Nat) (s : State) :
    (endPlanned g s).env = s.env ∧ (endPlanned g s).jrn = s.jrn ∧ (endPlanned g s).err = s.err ∧
    (endPlanned g s).ports = s.ports ∧ (endPlanned g s).deck = s.deck ∧ (endPlanned g s).csn = s.csn ∧
    (endPlanned g s).fl = s.fl ∧ (endPlanned g s).host = s.host ∧ (endPlanned g s).fab = s.fab ∧
    (endPlanned g s).img = s.img ∧ (endPlanned g s).rcd = s.rcd ∧ (endPlanned g s).pmc = s.pmc ∧
    (endPlanned g s).abt = s.abt ∧ (endPlanned g s).mode = s.mode ∧ (endPlanned g s).key = s.key ∧
    (endPlanned g s).sb = s.sb ∧ (endPlanned g s).pending = s.pending := by
  unfold endPlanned
  (repeat' split) <;> simp -implicitDefEqProofs (maxDischargeDepth := 6)

def Foot.endPlanned : List Reg := [.ENG_CTL, .ENG_STAT, .PIR_DUTY]

@[simp] theorem endPlanned_rd (g : Nat) (s : State) (reg : Reg) (rix : Nat) (hav : avoids Foot.endPlanned reg = true) :
    (endPlanned g s).rd reg rix = s.rd reg rix := by
  have c0 : avoids Foot.wakeEng reg = true := avoids_mono (by decide) hav
  have c1 : avoids Foot.endMove reg = true := avoids_mono (by decide) hav
  have c2 : avoids Foot.parkNext reg = true := avoids_mono (by decide) hav
  have f0 : reg ≠ F.ENG_STAT_STATE.reg := avoids_ne (by decide) hav
  unfold endPlanned
  (repeat' split) <;> simp -implicitDefEqProofs (maxDischargeDepth := 6) [*]

@[simp] theorem loadProgram_frame (m : Image) (g : Nat) (s : State) :
    (loadProgram m g s).env = s.env ∧ (loadProgram m g s).jrn = s.jrn ∧ (loadProgram m g s).err = s.err ∧
    (loadProgram m g s).ports = s.ports ∧ (loadProgram m g s).deck = s.deck ∧ (loadProgram m g s).csn = s.csn ∧
    (loadProgram m g s).fl = s.fl ∧ (loadProgram m g s).host = s.host ∧ (loadProgram m g s).fab = s.fab ∧
    (loadProgram m g s).img = s.img ∧ (loadProgram m g s).rcd = s.rcd ∧ (loadProgram m g s).pmc = s.pmc ∧
    (loadProgram m g s).abt = s.abt ∧ (loadProgram m g s).mode = s.mode ∧ (loadProgram m g s).key = s.key ∧
    (loadProgram m g s).sb = s.sb ∧ (loadProgram m g s).pending = s.pending := by
  unfold loadProgram
  (repeat' split) <;> simp -implicitDefEqProofs (maxDischargeDepth := 6)

def Foot.loadProgram : List Reg := []

@[simp] theorem loadProgram_rd (m : Image) (g : Nat) (s : State) (reg : Reg) (rix : Nat) (hav : avoids Foot.loadProgram reg = true) :
    (loadProgram m g s).rd reg rix = s.rd reg rix := by
  unfold loadProgram
  (repeat' split) <;> simp -implicitDefEqProofs (maxDischargeDepth := 6) [*]

@[simp] theorem wipeLocal_frame (g : Nat) (s : State) :
    (wipeLocal g s).env = s.env ∧ (wipeLocal g s).jrn = s.jrn ∧ (wipeLocal g s).err = s.err ∧
    (wipeLocal g s).ports = s.ports ∧ (wipeLocal g s).deck = s.deck ∧ (wipeLocal g s).csn = s.csn ∧
    (wipeLocal g s).fl = s.fl ∧ (wipeLocal g s).host = s.host ∧ (wipeLocal g s).fab = s.fab ∧ (wipeLocal g s).img = s.img ∧
    (wipeLocal g s).rcd = s.rcd ∧ (wipeLocal g s).pmc = s.pmc ∧ (wipeLocal g s).abt = s.abt ∧
    (wipeLocal g s).mode = s.mode ∧ (wipeLocal g s).key = s.key ∧ (wipeLocal g s).sb = s.sb ∧
    (wipeLocal g s).pending = s.pending := by
  unfold wipeLocal
  (repeat' split) <;> simp -implicitDefEqProofs (maxDischargeDepth := 6)

def Foot.wipeLocal : List Reg := []

@[simp] theorem wipeLocal_rd (g : Nat) (s : State) (reg : Reg) (rix : Nat) (hav : avoids Foot.wipeLocal reg = true) :
    (wipeLocal g s).rd reg rix = s.rd reg rix := by
  unfold wipeLocal
  (repeat' split) <;> simp -implicitDefEqProofs (maxDischargeDepth := 6) [*]

@[simp] theorem imgErr_frame (b code sec pier : Nat) (s : State) :
    (imgErr b code sec pier s).env = s.env ∧ (imgErr b code sec pier s).jrn = s.jrn ∧
    (imgErr b code sec pier s).err = s.err ∧ (imgErr b code sec pier s).ports = s.ports ∧
    (imgErr b code sec pier s).deck = s.deck ∧ (imgErr b code sec pier s).csn = s.csn ∧
    (imgErr b code sec pier s).fl = s.fl ∧ (imgErr b code sec pier s).host = s.host ∧
    (imgErr b code sec pier s).fab = s.fab ∧ (imgErr b code sec pier s).eng = s.eng ∧
    (imgErr b code sec pier s).img = s.img ∧ (imgErr b code sec pier s).rcd = s.rcd ∧
    (imgErr b code sec pier s).pmc = s.pmc ∧ (imgErr b code sec pier s).abt = s.abt ∧
    (imgErr b code sec pier s).mode = s.mode ∧ (imgErr b code sec pier s).key = s.key ∧
    (imgErr b code sec pier s).sb = s.sb ∧ (imgErr b code sec pier s).pending = s.pending := by
  unfold imgErr
  (repeat' split) <;> simp -implicitDefEqProofs (maxDischargeDepth := 6)

def Foot.imgErr : List Reg := [.GLB_IMGERR]

@[simp] theorem imgErr_rd (b code sec pier : Nat) (s : State) (reg : Reg) (rix : Nat) (hav : avoids Foot.imgErr reg = true) :
    (imgErr b code sec pier s).rd reg rix = s.rd reg rix := by
  have f0 : reg ≠ F.GLB_IMGERR_BANK.reg := avoids_ne (by decide) hav
  have f1 : reg ≠ F.GLB_IMGERR_CODE.reg := avoids_ne (by decide) hav
  have f2 : reg ≠ F.GLB_IMGERR_PIER.reg := avoids_ne (by decide) hav
  have f3 : reg ≠ F.GLB_IMGERR_SECTION.reg := avoids_ne (by decide) hav
  have f4 : reg ≠ F.GLB_IMGERR_VALID.reg := avoids_ne (by decide) hav
  unfold imgErr
  (repeat' split) <;> simp -implicitDefEqProofs (maxDischargeDepth := 6) [*]

@[simp] theorem liveAbort_frame (code : Nat) (s : State) :
    (liveAbort code s).csn = s.csn ∧ (liveAbort code s).fl = s.fl ∧ (liveAbort code s).fab = s.fab ∧
    (liveAbort code s).abt = s.abt ∧ (liveAbort code s).mode = s.mode ∧ (liveAbort code s).sb = s.sb ∧
    (liveAbort code s).pending = s.pending := by
  unfold liveAbort
  (repeat' split) <;> simp -implicitDefEqProofs (maxDischargeDepth := 6)

def Foot.liveAbort : List Reg := [.ENG_CTL, .ENG_STAT, .GLB_IMGERR, .GLB_IMGSTAT, .JNL_CMDRES, .JNL_HEAD, .JNL_STAT, .JNL_TAIL, .KEY_NONCE, .KEY_SLOT, .KEY_SLOTHASH, .KEY_STAT, .PIR_BUFEXP, .PIR_BUFOCC, .PIR_CPLTRK, .PIR_DUTY, .PIR_ERRCNT2, .PIR_EXPMON, .PIR_FBPORT, .PMC_BSTAT, .PMC_CNT, .PMC_STAT, .REC_TRGCFG, .REC_TRGCNT, .SPN_FLSTAT, .SPN_LANE, .SPN_PSTAT]

@[simp] theorem liveAbort_rd (code : Nat) (s : State) (reg : Reg) (rix : Nat) (hav : avoids Foot.liveAbort reg = true) :
    (liveAbort code s).rd reg rix = s.rd reg rix := by
  have c0 : avoids Foot.failCmd reg = true := avoids_mono (by decide) hav
  have c1 : avoids Foot.enterTraining reg = true := avoids_mono (by decide) hav
  have c2 : avoids Foot.parkRequest reg = true := avoids_mono (by decide) hav
  have c3 : avoids Foot.loadProgram reg = true := avoids_mono (by decide) hav
  have c4 : avoids Foot.imgErr reg = true := avoids_mono (by decide) hav
  have f0 : reg ≠ F.GLB_IMGSTAT_LIVE.reg := avoids_ne (by decide) hav
  unfold liveAbort
  (repeat' split) <;> simp -implicitDefEqProofs (maxDischargeDepth := 6) [*]

@[simp] theorem liveFault_frame (n code : Nat) (s : State) :
    (liveFault n code s).csn = s.csn ∧ (liveFault n code s).fl = s.fl ∧ (liveFault n code s).fab = s.fab ∧
    (liveFault n code s).abt = s.abt ∧ (liveFault n code s).mode = s.mode ∧ (liveFault n code s).sb = s.sb ∧
    (liveFault n code s).pending = s.pending := by
  unfold liveFault
  (repeat' split) <;> simp -implicitDefEqProofs (maxDischargeDepth := 6)

def Foot.liveFault : List Reg := [.ENG_CTL, .ENG_STAT, .GLB_IMGERR, .GLB_IMGSTAT, .JNL_CMDRES, .JNL_HEAD, .JNL_STAT, .JNL_TAIL, .KEY_NONCE, .KEY_SLOT, .KEY_SLOTHASH, .KEY_STAT, .PIR_BUFEXP, .PIR_BUFOCC, .PIR_CPLTRK, .PIR_DUTY, .PIR_ERRCNT2, .PIR_EXPMON, .PIR_FBPORT, .PMC_BSTAT, .PMC_CNT, .PMC_STAT, .REC_TRGCFG, .REC_TRGCNT, .SPN_FLSTAT, .SPN_LANE, .SPN_PSTAT]

@[simp] theorem liveFault_rd (n code : Nat) (s : State) (reg : Reg) (rix : Nat) (hav : avoids Foot.liveFault reg = true) :
    (liveFault n code s).rd reg rix = s.rd reg rix := by
  have c0 : avoids Foot.setLive reg = true := avoids_mono (by decide) hav
  have c1 : avoids Foot.liveAbort reg = true := avoids_mono (by decide) hav
  unfold liveFault
  (repeat' split) <;> simp -implicitDefEqProofs (maxDischargeDepth := 6) [*]

@[simp] theorem ensureUp_frame (n : Nat) (s : State) :
    (ensureUp n s).env = s.env ∧ (ensureUp n s).jrn = s.jrn ∧ (ensureUp n s).err = s.err ∧ (ensureUp n s).ports = s.ports ∧
    (ensureUp n s).deck = s.deck ∧ (ensureUp n s).csn = s.csn ∧ (ensureUp n s).fl = s.fl ∧ (ensureUp n s).host = s.host ∧
    (ensureUp n s).fab = s.fab ∧ (ensureUp n s).eng = s.eng ∧ (ensureUp n s).img = s.img ∧ (ensureUp n s).rcd = s.rcd ∧
    (ensureUp n s).pmc = s.pmc ∧ (ensureUp n s).abt = s.abt ∧ (ensureUp n s).mode = s.mode ∧ (ensureUp n s).key = s.key ∧
    (ensureUp n s).sb = s.sb ∧ (ensureUp n s).pending = s.pending := by
  unfold ensureUp
  (repeat' split) <;> simp -implicitDefEqProofs (maxDischargeDepth := 6)

def Foot.ensureUp : List Reg := [.ENG_CTL, .ENG_STAT]

@[simp] theorem ensureUp_rd (n : Nat) (s : State) (reg : Reg) (rix : Nat) (hav : avoids Foot.ensureUp reg = true) :
    (ensureUp n s).rd reg rix = s.rd reg rix := by
  have f0 : reg ≠ F.ENG_CTL_PARK.reg := avoids_ne (by decide) hav
  have f1 : reg ≠ F.ENG_STAT_STATE.reg := avoids_ne (by decide) hav
  unfold ensureUp
  (repeat' split) <;> simp -implicitDefEqProofs (maxDischargeDepth := 6) [*]

@[simp] theorem failMove_frame (g k : Nat) (s : State) :
    (failMove g k s).env = s.env ∧ (failMove g k s).jrn = s.jrn ∧ (failMove g k s).err = s.err ∧
    (failMove g k s).ports = s.ports ∧ (failMove g k s).deck = s.deck ∧ (failMove g k s).csn = s.csn ∧
    (failMove g k s).fl = s.fl ∧ (failMove g k s).host = s.host ∧ (failMove g k s).fab = s.fab ∧
    (failMove g k s).img = s.img ∧ (failMove g k s).rcd = s.rcd ∧ (failMove g k s).pmc = s.pmc ∧
    (failMove g k s).abt = s.abt ∧ (failMove g k s).mode = s.mode ∧ (failMove g k s).key = s.key ∧
    (failMove g k s).sb = s.sb ∧ (failMove g k s).pending = s.pending := by
  unfold failMove
  (repeat' split) <;> (try simp -implicitDefEqProofs (maxDischargeDepth := 6)) <;> (repeat' split) <;> simp -implicitDefEqProofs (maxDischargeDepth := 6)

def Foot.failMove : List Reg := [.ENG_CTL, .ENG_STAT, .PIR_DUTY]

@[simp] theorem failMove_rd (g k : Nat) (s : State) (reg : Reg) (rix : Nat) (hav : avoids Foot.failMove reg = true) :
    (failMove g k s).rd reg rix = s.rd reg rix := by
  have c0 : avoids Foot.startMove reg = true := avoids_mono (by decide) hav
  have c1 : avoids Foot.ensureUp reg = true := avoids_mono (by decide) hav
  unfold failMove
  (repeat' split) <;> (try simp -implicitDefEqProofs (maxDischargeDepth := 6) [*]) <;> (repeat' split) <;> simp -implicitDefEqProofs (maxDischargeDepth := 6) [*]

@[simp] theorem reofferCmds_frame (k : Nat) (s : State) :
    (reofferCmds k s).env = s.env ∧ (reofferCmds k s).jrn = s.jrn ∧ (reofferCmds k s).err = s.err ∧
    (reofferCmds k s).ports = s.ports ∧ (reofferCmds k s).deck = s.deck ∧ (reofferCmds k s).csn = s.csn ∧
    (reofferCmds k s).fl = s.fl ∧ (reofferCmds k s).host = s.host ∧ (reofferCmds k s).fab = s.fab ∧
    (reofferCmds k s).img = s.img ∧ (reofferCmds k s).rcd = s.rcd ∧ (reofferCmds k s).pmc = s.pmc ∧
    (reofferCmds k s).abt = s.abt ∧ (reofferCmds k s).mode = s.mode ∧ (reofferCmds k s).key = s.key ∧
    (reofferCmds k s).sb = s.sb ∧ (reofferCmds k s).pending = s.pending := by
  unfold reofferCmds
  (repeat' split) <;> simp -implicitDefEqProofs (maxDischargeDepth := 6)

def Foot.reofferCmds : List Reg := []

@[simp] theorem reofferCmds_rd (k : Nat) (s : State) (reg : Reg) (rix : Nat) (hav : avoids Foot.reofferCmds reg = true) :
    (reofferCmds k s).rd reg rix = s.rd reg rix := by
  unfold reofferCmds
  (repeat' split) <;> simp -implicitDefEqProofs (maxDischargeDepth := 6) [*]

@[simp] theorem dropCmds_frame (g k : Nat) (s : State) :
    (dropCmds g k s).csn = s.csn ∧ (dropCmds g k s).fl = s.fl ∧ (dropCmds g k s).fab = s.fab ∧
    (dropCmds g k s).img = s.img ∧ (dropCmds g k s).abt = s.abt ∧ (dropCmds g k s).mode = s.mode ∧
    (dropCmds g k s).sb = s.sb ∧ (dropCmds g k s).pending = s.pending := by
  unfold dropCmds
  (repeat' split) <;> simp -implicitDefEqProofs (maxDischargeDepth := 6)

def Foot.dropCmds : List Reg := [.ENG_STAT, .JNL_CMDRES, .JNL_HEAD, .JNL_STAT, .JNL_TAIL, .KEY_NONCE, .KEY_SLOT, .KEY_SLOTHASH, .KEY_STAT, .PIR_BUFEXP, .PIR_BUFOCC, .PIR_CPLTRK, .PIR_ERRCNT2, .PIR_EXPMON, .PIR_FBPORT, .PMC_BSTAT, .PMC_CNT, .PMC_STAT, .REC_TRGCFG, .REC_TRGCNT]

@[simp] theorem dropCmds_rd (g k : Nat) (s : State) (reg : Reg) (rix : Nat) (hav : avoids Foot.dropCmds reg = true) :
    (dropCmds g k s).rd reg rix = s.rd reg rix := by
  have c0 : avoids Foot.pushRec reg = true := avoids_mono (by decide) hav
  have c1 : avoids Foot.endCmd reg = true := avoids_mono (by decide) hav
  unfold dropCmds
  (repeat' split) <;> simp -implicitDefEqProofs (maxDischargeDepth := 6) [*]

@[simp] theorem dropCurrent_frame (g : Nat) (s : State) :
    (dropCurrent g s).csn = s.csn ∧ (dropCurrent g s).fl = s.fl ∧ (dropCurrent g s).fab = s.fab ∧
    (dropCurrent g s).img = s.img ∧ (dropCurrent g s).abt = s.abt ∧ (dropCurrent g s).mode = s.mode ∧
    (dropCurrent g s).key = s.key ∧ (dropCurrent g s).sb = s.sb ∧ (dropCurrent g s).pending = s.pending := by
  unfold dropCurrent
  (repeat' split) <;> (try simp -implicitDefEqProofs (maxDischargeDepth := 6)) <;> (repeat' split) <;> simp -implicitDefEqProofs (maxDischargeDepth := 6)

def Foot.dropCurrent : List Reg := [.ENG_STAT, .JNL_HEAD, .JNL_TAIL, .PIR_BUFEXP, .PIR_BUFOCC, .PIR_CPLTRK, .PIR_ERRCNT2, .PIR_EXPMON, .PIR_FBPORT, .PMC_BSTAT, .PMC_CNT, .PMC_STAT, .REC_TRGCFG, .REC_TRGCNT]

@[simp] theorem dropCurrent_rd (g : Nat) (s : State) (reg : Reg) (rix : Nat) (hav : avoids Foot.dropCurrent reg = true) :
    (dropCurrent g s).rd reg rix = s.rd reg rix := by
  have c0 : avoids Foot.cfgAbort reg = true := avoids_mono (by decide) hav
  unfold dropCurrent
  (repeat' split) <;> (try simp -implicitDefEqProofs (maxDischargeDepth := 6) [*]) <;> (repeat' split) <;> simp -implicitDefEqProofs (maxDischargeDepth := 6) [*]

@[simp] theorem loseWrites_frame (g : Nat) (s : State) :
    (loseWrites g s).csn = s.csn ∧ (loseWrites g s).fl = s.fl ∧ (loseWrites g s).fab = s.fab ∧
    (loseWrites g s).img = s.img ∧ (loseWrites g s).abt = s.abt ∧ (loseWrites g s).mode = s.mode ∧
    (loseWrites g s).key = s.key ∧ (loseWrites g s).sb = s.sb ∧ (loseWrites g s).pending = s.pending := by
  unfold loseWrites
  (repeat' split) <;> simp -implicitDefEqProofs (maxDischargeDepth := 6)

def Foot.loseWrites : List Reg := [.ENG_STAT, .JNL_HEAD, .JNL_TAIL, .PIR_BUFEXP, .PIR_BUFOCC, .PIR_CPLTRK, .PIR_ERRCNT2, .PIR_EXPMON, .PIR_FBPORT, .PMC_BSTAT, .PMC_CNT, .PMC_STAT, .REC_TRGCFG, .REC_TRGCNT]

@[simp] theorem loseWrites_rd (g : Nat) (s : State) (reg : Reg) (rix : Nat) (hav : avoids Foot.loseWrites reg = true) :
    (loseWrites g s).rd reg rix = s.rd reg rix := by
  have c0 : avoids Foot.keeperEntry reg = true := avoids_mono (by decide) hav
  unfold loseWrites
  (repeat' split) <;> simp -implicitDefEqProofs (maxDischargeDepth := 6) [*]

@[simp] theorem failCore_frame (g : Nat) (s : State) :
    (failCore g s).csn = s.csn ∧ (failCore g s).fl = s.fl ∧ (failCore g s).fab = s.fab ∧ (failCore g s).img = s.img ∧
    (failCore g s).abt = s.abt ∧ (failCore g s).mode = s.mode ∧ (failCore g s).key = s.key ∧ (failCore g s).sb = s.sb ∧
    (failCore g s).pending = s.pending := by
  unfold failCore
  (repeat' split) <;> simp -implicitDefEqProofs (maxDischargeDepth := 6)

def Foot.failCore : List Reg := [.ENG_CTL, .ENG_STAT, .JNL_HEAD, .JNL_TAIL, .PIR_BUFEXP, .PIR_BUFOCC, .PIR_CPLTRK, .PIR_DUTY, .PIR_ERRCNT2, .PIR_EXPMON, .PIR_FBPORT, .PMC_BSTAT, .PMC_CNT, .PMC_STAT, .REC_TRGCFG, .REC_TRGCNT]

@[simp] theorem failCore_rd (g : Nat) (s : State) (reg : Reg) (rix : Nat) (hav : avoids Foot.failCore reg = true) :
    (failCore g s).rd reg rix = s.rd reg rix := by
  have c0 : avoids Foot.setEngQ reg = true := avoids_mono (by decide) hav
  have c1 : avoids Foot.failMove reg = true := avoids_mono (by decide) hav
  have c2 : avoids Foot.reofferCmds reg = true := avoids_mono (by decide) hav
  have c3 : avoids Foot.dropCurrent reg = true := avoids_mono (by decide) hav
  have c4 : avoids Foot.loseWrites reg = true := avoids_mono (by decide) hav
  have f0 : reg ≠ F.ENG_STAT_STATE.reg := avoids_ne (by decide) hav
  unfold failCore
  (repeat' split) <;> simp -implicitDefEqProofs (maxDischargeDepth := 6) [*]

@[simp] theorem engineFail_frame (g : Nat) (s : State) :
    (engineFail g s).csn = s.csn ∧ (engineFail g s).fl = s.fl ∧ (engineFail g s).fab = s.fab ∧
    (engineFail g s).abt = s.abt ∧ (engineFail g s).mode = s.mode ∧ (engineFail g s).sb = s.sb ∧
    (engineFail g s).pending = s.pending := by
  unfold engineFail
  (repeat' split) <;> simp -implicitDefEqProofs (maxDischargeDepth := 6)

def Foot.engineFail : List Reg := [.ENG_CTL, .ENG_STAT, .GLB_IMGERR, .GLB_IMGSTAT, .JNL_CMDRES, .JNL_HEAD, .JNL_STAT, .JNL_TAIL, .KEY_NONCE, .KEY_SLOT, .KEY_SLOTHASH, .KEY_STAT, .PIR_BUFEXP, .PIR_BUFOCC, .PIR_CPLTRK, .PIR_DUTY, .PIR_ERRCNT2, .PIR_EXPMON, .PIR_FBPORT, .PMC_BSTAT, .PMC_CNT, .PMC_STAT, .REC_TRGCFG, .REC_TRGCNT, .SPN_FLSTAT, .SPN_LANE, .SPN_PSTAT]

@[simp] theorem engineFail_rd (g : Nat) (s : State) (reg : Reg) (rix : Nat) (hav : avoids Foot.engineFail reg = true) :
    (engineFail g s).rd reg rix = s.rd reg rix := by
  have c0 : avoids Foot.liveFault reg = true := avoids_mono (by decide) hav
  have c1 : avoids Foot.failCore reg = true := avoids_mono (by decide) hav
  unfold engineFail
  (repeat' split) <;> simp -implicitDefEqProofs (maxDischargeDepth := 6) [*]

@[simp] theorem noCluster_frame (s : State) :
    (noCluster s).abt = s.abt ∧ (noCluster s).sb = s.sb ∧ (noCluster s).pending = s.pending := by
  unfold noCluster
  (repeat' split) <;> simp -implicitDefEqProofs (maxDischargeDepth := 6)

def Foot.noCluster : List Reg := [.CSN_POOL, .CSN_PSPILL, .CSN_STAT, .ENG_STAT, .GLB_DMASTAT, .GLB_ERRSTAT, .GLB_IMGSTAT, .GLB_MODE, .GLB_QSTAT, .GLB_SLOT, .GLB_VSSTAT, .JNL_CMDRES, .JNL_HEAD, .JNL_STAT, .JNL_TAIL, .KEY_NONCE, .KEY_SLOT, .KEY_SLOTHASH, .KEY_STAT, .PIR_BUFEXP, .PIR_BUFOCC, .PIR_CLOSE, .PIR_CPLTRK, .PIR_ERRCNT2, .PIR_EXPMON, .PIR_FBPORT, .PIR_PFCNT, .PMC_BSTAT, .PMC_CNT, .PMC_STAT, .REC_PFSTAT, .REC_STAT, .REC_TRGCFG, .REC_TRGCNT, .SPN_CALSTAT, .SPN_COEF, .SPN_FLSTAT, .SPN_PSTAT]

@[simp] theorem noCluster_rd (s : State) (reg : Reg) (rix : Nat) (hav : avoids Foot.noCluster reg = true) :
    (noCluster s).rd reg rix = s.rd reg rix := by
  have c0 : avoids Foot.pushRec reg = true := avoids_mono (by decide) hav
  have c1 : avoids Foot.spanClose reg = true := avoids_mono (by decide) hav
  have c2 : avoids Foot.quarantine reg = true := avoids_mono (by decide) hav
  unfold noCluster
  (repeat' split) <;> simp -implicitDefEqProofs (maxDischargeDepth := 6) [*]

@[simp] theorem clusterFail_frame (n : Nat) (s : State) :
    (clusterFail n s).abt = s.abt ∧ (clusterFail n s).sb = s.sb ∧ (clusterFail n s).pending = s.pending := by
  unfold clusterFail
  (repeat' split) <;> simp -implicitDefEqProofs (maxDischargeDepth := 6)

def Foot.clusterFail : List Reg := [.CSN_POOL, .CSN_PSPILL, .CSN_STAT, .ENG_CTL, .ENG_STAT, .GLB_DMASTAT, .GLB_ERRSTAT, .GLB_IMGERR, .GLB_IMGSTAT, .GLB_MODE, .GLB_QSTAT, .GLB_SLOT, .GLB_VSSTAT, .JNL_CMDRES, .JNL_HEAD, .JNL_STAT, .JNL_TAIL, .KEY_NONCE, .KEY_SLOT, .KEY_SLOTHASH, .KEY_STAT, .PIR_BUFEXP, .PIR_BUFOCC, .PIR_CLOSE, .PIR_CPLTRK, .PIR_DUTY, .PIR_ERRCNT2, .PIR_EXPMON, .PIR_FBPORT, .PIR_PFCNT, .PMC_BSTAT, .PMC_CNT, .PMC_STAT, .REC_PFSTAT, .REC_STAT, .REC_TRGCFG, .REC_TRGCNT, .SPN_CALSTAT, .SPN_COEF, .SPN_FLSTAT, .SPN_LANE, .SPN_PSTAT]

@[simp] theorem clusterFail_rd (n : Nat) (s : State) (reg : Reg) (rix : Nat) (hav : avoids Foot.clusterFail reg = true) :
    (clusterFail n s).rd reg rix = s.rd reg rix := by
  have c0 : avoids Foot.pushRec reg = true := avoids_mono (by decide) hav
  have c1 : avoids Foot.liveFault reg = true := avoids_mono (by decide) hav
  have c2 : avoids Foot.failCore reg = true := avoids_mono (by decide) hav
  have c3 : avoids Foot.noCluster reg = true := avoids_mono (by decide) hav
  have f0 : reg ≠ F.ENG_STAT_STATE.reg := avoids_ne (by decide) hav
  unfold clusterFail
  (repeat' split) <;> simp -implicitDefEqProofs (maxDischargeDepth := 6) [*]

@[simp] theorem clusterIfDead_frame (n : Nat) (s : State) :
    (clusterIfDead n s).abt = s.abt ∧ (clusterIfDead n s).sb = s.sb ∧ (clusterIfDead n s).pending = s.pending := by
  unfold clusterIfDead
  (repeat' split) <;> simp -implicitDefEqProofs (maxDischargeDepth := 6)

def Foot.clusterIfDead : List Reg := [.CSN_POOL, .CSN_PSPILL, .CSN_STAT, .ENG_CTL, .ENG_STAT, .GLB_DMASTAT, .GLB_ERRSTAT, .GLB_IMGERR, .GLB_IMGSTAT, .GLB_MODE, .GLB_QSTAT, .GLB_SLOT, .GLB_VSSTAT, .JNL_CMDRES, .JNL_HEAD, .JNL_STAT, .JNL_TAIL, .KEY_NONCE, .KEY_SLOT, .KEY_SLOTHASH, .KEY_STAT, .PIR_BUFEXP, .PIR_BUFOCC, .PIR_CLOSE, .PIR_CPLTRK, .PIR_DUTY, .PIR_ERRCNT2, .PIR_EXPMON, .PIR_FBPORT, .PIR_PFCNT, .PMC_BSTAT, .PMC_CNT, .PMC_STAT, .REC_PFSTAT, .REC_STAT, .REC_TRGCFG, .REC_TRGCNT, .SPN_CALSTAT, .SPN_COEF, .SPN_FLSTAT, .SPN_LANE, .SPN_PSTAT]

@[simp] theorem clusterIfDead_rd (n : Nat) (s : State) (reg : Reg) (rix : Nat) (hav : avoids Foot.clusterIfDead reg = true) :
    (clusterIfDead n s).rd reg rix = s.rd reg rix := by
  have c0 : avoids Foot.clusterFail reg = true := avoids_mono (by decide) hav
  unfold clusterIfDead
  (repeat' split) <;> simp -implicitDefEqProofs (maxDischargeDepth := 6) [*]

@[simp] theorem engineFailed_frame (g : Nat) (s : State) :
    (engineFailed g s).abt = s.abt ∧ (engineFailed g s).sb = s.sb ∧ (engineFailed g s).pending = s.pending := by
  unfold engineFailed
  (repeat' split) <;> simp -implicitDefEqProofs (maxDischargeDepth := 6)

def Foot.engineFailed : List Reg := [.CSN_POOL, .CSN_PSPILL, .CSN_STAT, .ENG_CTL, .ENG_STAT, .GLB_DMASTAT, .GLB_ERRSTAT, .GLB_IMGERR, .GLB_IMGSTAT, .GLB_MODE, .GLB_QSTAT, .GLB_SLOT, .GLB_VSSTAT, .JNL_CMDRES, .JNL_HEAD, .JNL_STAT, .JNL_TAIL, .KEY_NONCE, .KEY_SLOT, .KEY_SLOTHASH, .KEY_STAT, .PIR_BUFEXP, .PIR_BUFOCC, .PIR_CLOSE, .PIR_CPLTRK, .PIR_DUTY, .PIR_ERRCNT2, .PIR_EXPMON, .PIR_FBPORT, .PIR_PFCNT, .PMC_BSTAT, .PMC_CNT, .PMC_STAT, .REC_PFSTAT, .REC_STAT, .REC_TRGCFG, .REC_TRGCNT, .SPN_CALSTAT, .SPN_COEF, .SPN_FLSTAT, .SPN_LANE, .SPN_PSTAT]

@[simp] theorem engineFailed_rd (g : Nat) (s : State) (reg : Reg) (rix : Nat) (hav : avoids Foot.engineFailed reg = true) :
    (engineFailed g s).rd reg rix = s.rd reg rix := by
  have c0 : avoids Foot.engineFail reg = true := avoids_mono (by decide) hav
  have c1 : avoids Foot.clusterIfDead reg = true := avoids_mono (by decide) hav
  unfold engineFailed
  (repeat' split) <;> simp -implicitDefEqProofs (maxDischargeDepth := 6) [*]

@[simp] theorem endFailure_frame (u : Nat) (s : State) :
    (endFailure u s).csn = s.csn ∧ (endFailure u s).fl = s.fl ∧ (endFailure u s).fab = s.fab ∧
    (endFailure u s).img = s.img ∧ (endFailure u s).abt = s.abt ∧ (endFailure u s).mode = s.mode ∧
    (endFailure u s).sb = s.sb ∧ (endFailure u s).pending = s.pending := by
  unfold endFailure
  (repeat' split) <;> simp -implicitDefEqProofs (maxDischargeDepth := 6)

def Foot.endFailure : List Reg := [.ENG_CTL, .ENG_STAT, .JNL_CMDRES, .JNL_HEAD, .JNL_STAT, .JNL_TAIL, .KEY_NONCE, .KEY_SLOT, .KEY_SLOTHASH, .KEY_STAT, .PIR_BUFEXP, .PIR_BUFOCC, .PIR_CPLTRK, .PIR_DUTY, .PIR_ERRCNT2, .PIR_EXPMON, .PIR_FBPORT, .PMC_BSTAT, .PMC_CNT, .PMC_STAT, .REC_TRGCFG, .REC_TRGCNT]

@[simp] theorem endFailure_rd (u : Nat) (s : State) (reg : Reg) (rix : Nat) (hav : avoids Foot.endFailure reg = true) :
    (endFailure u s).rd reg rix = s.rd reg rix := by
  have c0 : avoids Foot.pushRec reg = true := avoids_mono (by decide) hav
  have c1 : avoids Foot.endMove reg = true := avoids_mono (by decide) hav
  have c2 : avoids Foot.parkNext reg = true := avoids_mono (by decide) hav
  have c3 : avoids Foot.dropCmds reg = true := avoids_mono (by decide) hav
  unfold endFailure
  (repeat' split) <;> simp -implicitDefEqProofs (maxDischargeDepth := 6) [*]

end Sys2Proof.Machine
end

