-- ==== Sys2Proof/Laws/FramesC.lean ====
section
/-! SUPPORT. The frames of the links, decks, landings and domains: the pieces of state each leaves alone, and the registers it may write (`Foot`). -/

set_option maxRecDepth 3000
set_option linter.all false

namespace Sys2Proof.Machine

@[simp] theorem equalised_frame (p width rate : Nat) (eq : Option Equal) (s : State) :
    (equalised p width rate eq s).env = s.env ∧ (equalised p width rate eq s).jrn = s.jrn ∧
    (equalised p width rate eq s).err = s.err ∧ (equalised p width rate eq s).deck = s.deck ∧
    (equalised p width rate eq s).csn = s.csn ∧ (equalised p width rate eq s).fl = s.fl ∧
    (equalised p width rate eq s).host = s.host ∧ (equalised p width rate eq s).fab = s.fab ∧
    (equalised p width rate eq s).eng = s.eng ∧ (equalised p width rate eq s).img = s.img ∧
    (equalised p width rate eq s).rcd = s.rcd ∧ (equalised p width rate eq s).pmc = s.pmc ∧
    (equalised p width rate eq s).abt = s.abt ∧ (equalised p width rate eq s).mode = s.mode ∧
    (equalised p width rate eq s).key = s.key ∧ (equalised p width rate eq s).sb = s.sb ∧
    (equalised p width rate eq s).pending = s.pending := by
  unfold equalised
  (repeat' split) <;> simp -implicitDefEqProofs (maxDischargeDepth := 6)

def Foot.equalised : List Reg := [.SPN_COEF]

@[simp] theorem equalised_rd (p width rate : Nat) (eq : Option Equal) (s : State) (reg : Reg) (rix : Nat) (hav : avoids Foot.equalised reg = true) :
    (equalised p width rate eq s).rd reg rix = s.rd reg rix := by
  have f0 : reg ≠ .SPN_COEF := avoids_ne (by decide) hav
  unfold equalised
  (repeat' split) <;> simp -implicitDefEqProofs (maxDischargeDepth := 6) [*]

@[simp] theorem linkStatusCfg_frame (p : Nat) (s : State) :
    (linkStatusCfg p s).env = s.env ∧ (linkStatusCfg p s).jrn = s.jrn ∧ (linkStatusCfg p s).err = s.err ∧
    (linkStatusCfg p s).ports = s.ports ∧ (linkStatusCfg p s).deck = s.deck ∧ (linkStatusCfg p s).csn = s.csn ∧
    (linkStatusCfg p s).fl = s.fl ∧ (linkStatusCfg p s).fab = s.fab ∧ (linkStatusCfg p s).eng = s.eng ∧
    (linkStatusCfg p s).img = s.img ∧ (linkStatusCfg p s).rcd = s.rcd ∧ (linkStatusCfg p s).pmc = s.pmc ∧
    (linkStatusCfg p s).abt = s.abt ∧ (linkStatusCfg p s).mode = s.mode ∧ (linkStatusCfg p s).key = s.key ∧
    (linkStatusCfg p s).sb = s.sb ∧ (linkStatusCfg p s).pending = s.pending := by
  unfold linkStatusCfg
  (repeat' split) <;> simp -implicitDefEqProofs (maxDischargeDepth := 6)

def Foot.linkStatusCfg : List Reg := []

@[simp] theorem linkStatusCfg_rd (p : Nat) (s : State) (reg : Reg) (rix : Nat) (hav : avoids Foot.linkStatusCfg reg = true) :
    (linkStatusCfg p s).rd reg rix = s.rd reg rix := by
  have c0 : avoids Foot.setCapF reg = true := avoids_mono (by decide) hav
  unfold linkStatusCfg
  (repeat' split) <;> simp -implicitDefEqProofs (maxDischargeDepth := 6) [*]

@[simp] theorem slotPowerLimit_frame (p : Nat) (s : State) :
    (slotPowerLimit p s).env = s.env ∧ (slotPowerLimit p s).jrn = s.jrn ∧ (slotPowerLimit p s).csn = s.csn ∧
    (slotPowerLimit p s).fl = s.fl ∧ (slotPowerLimit p s).host = s.host ∧ (slotPowerLimit p s).fab = s.fab ∧
    (slotPowerLimit p s).eng = s.eng ∧ (slotPowerLimit p s).img = s.img ∧ (slotPowerLimit p s).rcd = s.rcd ∧
    (slotPowerLimit p s).pmc = s.pmc ∧ (slotPowerLimit p s).abt = s.abt ∧ (slotPowerLimit p s).mode = s.mode ∧
    (slotPowerLimit p s).key = s.key ∧ (slotPowerLimit p s).sb = s.sb ∧ (slotPowerLimit p s).pending = s.pending := by
  unfold slotPowerLimit
  (repeat' split) <;> simp -implicitDefEqProofs (maxDischargeDepth := 6)

def Foot.slotPowerLimit : List Reg := [.PIR_BUFEXP, .PIR_BUFOCC, .PIR_CPLTRK, .PIR_ERRCNT2, .PIR_EXPMON, .PIR_FBPORT]

@[simp] theorem slotPowerLimit_rd (p : Nat) (s : State) (reg : Reg) (rix : Nat) (hav : avoids Foot.slotPowerLimit reg = true) :
    (slotPowerLimit p s).rd reg rix = s.rd reg rix := by
  have c0 : avoids Foot.inject reg = true := avoids_mono (by decide) hav
  unfold slotPowerLimit
  (repeat' split) <;> simp -implicitDefEqProofs (maxDischargeDepth := 6) [*]

@[simp] theorem dlActive_frame (p width rate : Nat) (flit reversed : Bool) (inverted : List Bool) (eq : Option Equal) (cred : Credits) (s : State) :
    (dlActive p width rate flit reversed inverted eq cred s).env = s.env ∧
    (dlActive p width rate flit reversed inverted eq cred s).jrn = s.jrn ∧
    (dlActive p width rate flit reversed inverted eq cred s).csn = s.csn ∧
    (dlActive p width rate flit reversed inverted eq cred s).fl = s.fl ∧
    (dlActive p width rate flit reversed inverted eq cred s).img = s.img ∧
    (dlActive p width rate flit reversed inverted eq cred s).rcd = s.rcd ∧
    (dlActive p width rate flit reversed inverted eq cred s).pmc = s.pmc ∧
    (dlActive p width rate flit reversed inverted eq cred s).abt = s.abt ∧
    (dlActive p width rate flit reversed inverted eq cred s).mode = s.mode ∧
    (dlActive p width rate flit reversed inverted eq cred s).key = s.key ∧
    (dlActive p width rate flit reversed inverted eq cred s).sb = s.sb ∧
    (dlActive p width rate flit reversed inverted eq cred s).pending = s.pending := by
  unfold dlActive
  (repeat' split) <;> (try simp -implicitDefEqProofs (maxDischargeDepth := 6)) <;> (repeat' split) <;> simp -implicitDefEqProofs (maxDischargeDepth := 6)

def Foot.dlActive : List Reg := [.ENG_STAT, .PIR_BUFEXP, .PIR_BUFOCC, .PIR_CPLTRK, .PIR_ERRCNT2, .PIR_EXPMON, .PIR_FBPORT, .SPN_COEF, .SPN_LANE, .SPN_PSTAT]

@[simp] theorem dlActive_rd (p width rate : Nat) (flit reversed : Bool) (inverted : List Bool) (eq : Option Equal) (cred : Credits) (s : State) (reg : Reg) (rix : Nat) (hav : avoids Foot.dlActive reg = true) :
    (dlActive p width rate flit reversed inverted eq cred s).rd reg rix = s.rd reg rix := by
  have c1 : avoids Foot.setRate reg = true := avoids_mono (by decide) hav
  have c2 : avoids Foot.trainLanes reg = true := avoids_mono (by decide) hav
  have c3 : avoids Foot.linkActive reg = true := avoids_mono (by decide) hav
  have c4 : avoids Foot.linkNote reg = true := avoids_mono (by decide) hav
  have c5 : avoids Foot.vsResetEnd reg = true := avoids_mono (by decide) hav
  have c6 : avoids Foot.equalised reg = true := avoids_mono (by decide) hav
  have c7 : avoids Foot.linkStatusCfg reg = true := avoids_mono (by decide) hav
  have c8 : avoids Foot.slotPowerLimit reg = true := avoids_mono (by decide) hav
  have f0 : reg ≠ F.SPN_PSTAT_FLIT.reg := avoids_ne (by decide) hav
  have f1 : reg ≠ F.SPN_PSTAT_LINKUP.reg := avoids_ne (by decide) hav
  have f2 : reg ≠ F.SPN_PSTAT_LTSSM.reg := avoids_ne (by decide) hav
  have f3 : reg ≠ F.SPN_PSTAT_PMSTATE.reg := avoids_ne (by decide) hav
  have f4 : reg ≠ F.SPN_PSTAT_REVERSED.reg := avoids_ne (by decide) hav
  unfold dlActive
  (repeat' split) <;> (try simp -implicitDefEqProofs (maxDischargeDepth := 6) [*]) <;> (repeat' split) <;> simp -implicitDefEqProofs (maxDischargeDepth := 6) [*]

@[simp] theorem toRecovery_frame (p : Nat) (s : State) :
    (toRecovery p s).env = s.env ∧ (toRecovery p s).jrn = s.jrn ∧ (toRecovery p s).err = s.err ∧
    (toRecovery p s).deck = s.deck ∧ (toRecovery p s).csn = s.csn ∧ (toRecovery p s).fl = s.fl ∧
    (toRecovery p s).host = s.host ∧ (toRecovery p s).fab = s.fab ∧ (toRecovery p s).eng = s.eng ∧
    (toRecovery p s).img = s.img ∧ (toRecovery p s).rcd = s.rcd ∧ (toRecovery p s).pmc = s.pmc ∧
    (toRecovery p s).abt = s.abt ∧ (toRecovery p s).mode = s.mode ∧ (toRecovery p s).key = s.key ∧
    (toRecovery p s).sb = s.sb ∧ (toRecovery p s).pending = s.pending := by
  unfold toRecovery
  (repeat' split) <;> simp -implicitDefEqProofs (maxDischargeDepth := 6)

def Foot.toRecovery : List Reg := [.SPN_PSTAT]

@[simp] theorem toRecovery_rd (p : Nat) (s : State) (reg : Reg) (rix : Nat) (hav : avoids Foot.toRecovery reg = true) :
    (toRecovery p s).rd reg rix = s.rd reg rix := by
  have f0 : reg ≠ F.SPN_PSTAT_LTSSM.reg := avoids_ne (by decide) hav
  have f1 : reg ≠ F.SPN_PSTAT_PMSTATE.reg := avoids_ne (by decide) hav
  unfold toRecovery
  (repeat' split) <;> simp -implicitDefEqProofs (maxDischargeDepth := 6) [*]

@[simp] theorem holdFull_frame (p : Nat) (s : State) :
    (holdFull p s).env = s.env ∧ (holdFull p s).jrn = s.jrn ∧ (holdFull p s).err = s.err ∧ (holdFull p s).deck = s.deck ∧
    (holdFull p s).csn = s.csn ∧ (holdFull p s).fl = s.fl ∧ (holdFull p s).host = s.host ∧ (holdFull p s).fab = s.fab ∧
    (holdFull p s).eng = s.eng ∧ (holdFull p s).img = s.img ∧ (holdFull p s).rcd = s.rcd ∧ (holdFull p s).pmc = s.pmc ∧
    (holdFull p s).abt = s.abt ∧ (holdFull p s).mode = s.mode ∧ (holdFull p s).key = s.key ∧ (holdFull p s).sb = s.sb ∧
    (holdFull p s).pending = s.pending := by
  unfold holdFull
  (repeat' split) <;> simp -implicitDefEqProofs (maxDischargeDepth := 6)

def Foot.holdFull : List Reg := [.SPN_PSTAT]

@[simp] theorem holdFull_rd (p : Nat) (s : State) (reg : Reg) (rix : Nat) (hav : avoids Foot.holdFull reg = true) :
    (holdFull p s).rd reg rix = s.rd reg rix := by
  have c1 : avoids Foot.toRecovery reg = true := avoids_mono (by decide) hav
  have f0 : reg ≠ F.SPN_PSTAT_LTSSM.reg := avoids_ne (by decide) hav
  unfold holdFull
  (repeat' split) <;> simp -implicitDefEqProofs (maxDischargeDepth := 6) [*]

@[simp] theorem applyCap_frame (sp : Nat) (s : State) :
    (applyCap sp s).env = s.env ∧ (applyCap sp s).jrn = s.jrn ∧ (applyCap sp s).err = s.err ∧
    (applyCap sp s).deck = s.deck ∧ (applyCap sp s).csn = s.csn ∧ (applyCap sp s).fl = s.fl ∧
    (applyCap sp s).host = s.host ∧ (applyCap sp s).fab = s.fab ∧ (applyCap sp s).eng = s.eng ∧
    (applyCap sp s).img = s.img ∧ (applyCap sp s).rcd = s.rcd ∧ (applyCap sp s).pmc = s.pmc ∧ (applyCap sp s).abt = s.abt ∧
    (applyCap sp s).mode = s.mode ∧ (applyCap sp s).key = s.key ∧ (applyCap sp s).sb = s.sb ∧
    (applyCap sp s).pending = s.pending := by
  unfold applyCap
  (repeat' split) <;> simp -implicitDefEqProofs (maxDischargeDepth := 6)

def Foot.applyCap : List Reg := [.SPN_PSTAT]

@[simp] theorem applyCap_rd (sp : Nat) (s : State) (reg : Reg) (rix : Nat) (hav : avoids Foot.applyCap reg = true) :
    (applyCap sp s).rd reg rix = s.rd reg rix := by
  have c0 : avoids Foot.toRecovery reg = true := avoids_mono (by decide) hav
  unfold applyCap
  (repeat' split) <;> simp -implicitDefEqProofs (maxDischargeDepth := 6) [*]

@[simp] theorem recoveryEnd_frame (p : Nat) (ok : Bool) (width rate : Nat) (eq : Option Equal) (s : State) :
    (recoveryEnd p ok width rate eq s).fl = s.fl ∧ (recoveryEnd p ok width rate eq s).img = s.img ∧
    (recoveryEnd p ok width rate eq s).abt = s.abt ∧ (recoveryEnd p ok width rate eq s).mode = s.mode ∧
    (recoveryEnd p ok width rate eq s).sb = s.sb ∧ (recoveryEnd p ok width rate eq s).pending = s.pending := by
  unfold recoveryEnd
  (repeat' split) <;> simp -implicitDefEqProofs (maxDischargeDepth := 6)

def Foot.recoveryEnd : List Reg := [.CSN_POOL, .CSN_PSPILL, .CSN_STAT, .ENG_STAT, .GLB_DMASTAT, .GLB_SLOT, .GLB_VSSTAT, .JNL_CMDRES, .JNL_HEAD, .JNL_STAT, .JNL_TAIL, .KEY_NONCE, .KEY_SLOT, .KEY_SLOTHASH, .KEY_STAT, .PIR_BUFEXP, .PIR_BUFOCC, .PIR_CPLTRK, .PIR_ERRCNT2, .PIR_EXPMON, .PIR_FBPORT, .PIR_PFCNT, .PMC_BSTAT, .PMC_CNT, .PMC_STAT, .REC_PFSTAT, .REC_TRGCFG, .REC_TRGCNT, .SPN_COEF, .SPN_FLSTAT, .SPN_LANE, .SPN_PSTAT]

@[simp] theorem recoveryEnd_rd (p : Nat) (ok : Bool) (width rate : Nat) (eq : Option Equal) (s : State) (reg : Reg) (rix : Nat) (hav : avoids Foot.recoveryEnd reg = true) :
    (recoveryEnd p ok width rate eq s).rd reg rix = s.rd reg rix := by
  have c0 : avoids Foot.setRate reg = true := avoids_mono (by decide) hav
  have c1 : avoids Foot.trainLanes reg = true := avoids_mono (by decide) hav
  have c2 : avoids Foot.linkDownEvent reg = true := avoids_mono (by decide) hav
  have c3 : avoids Foot.enterTraining reg = true := avoids_mono (by decide) hav
  have c4 : avoids Foot.equalised reg = true := avoids_mono (by decide) hav
  have c5 : avoids Foot.linkStatusCfg reg = true := avoids_mono (by decide) hav
  have f0 : reg ≠ F.SPN_PSTAT_L0PWIDTH.reg := avoids_ne (by decide) hav
  have f1 : reg ≠ F.SPN_PSTAT_LTSSM.reg := avoids_ne (by decide) hav
  have f2 : reg ≠ F.SPN_PSTAT_PMSTATE.reg := avoids_ne (by decide) hav
  unfold recoveryEnd
  (repeat' split) <;> simp -implicitDefEqProofs (maxDischargeDepth := 6) [*]

@[simp] theorem enterL2_frame (p : Nat) (s : State) :
    (enterL2 p s).jrn = s.jrn ∧ (enterL2 p s).csn = s.csn ∧ (enterL2 p s).fl = s.fl ∧ (enterL2 p s).eng = s.eng ∧
    (enterL2 p s).img = s.img ∧ (enterL2 p s).rcd = s.rcd ∧ (enterL2 p s).pmc = s.pmc ∧ (enterL2 p s).abt = s.abt ∧
    (enterL2 p s).mode = s.mode ∧ (enterL2 p s).key = s.key ∧ (enterL2 p s).sb = s.sb ∧ (enterL2 p s).pending = s.pending := by
  unfold enterL2
  (repeat' split) <;> (try simp -implicitDefEqProofs (maxDischargeDepth := 6)) <;> (repeat' split) <;> simp -implicitDefEqProofs (maxDischargeDepth := 6)

def Foot.enterL2 : List Reg := [.GLB_VSSTAT, .PIR_BUFEXP, .PIR_BUFOCC, .PIR_CPLTRK, .PIR_ERRCNT2, .PIR_EXPMON, .PIR_FBPORT, .SPN_PSTAT]

@[simp] theorem enterL2_rd (p : Nat) (s : State) (reg : Reg) (rix : Nat) (hav : avoids Foot.enterL2 reg = true) :
    (enterL2 p s).rd reg rix = s.rd reg rix := by
  have c0 : avoids Foot.linkGone reg = true := avoids_mono (by decide) hav
  have c1 : avoids Foot.synthPort reg = true := avoids_mono (by decide) hav
  have c2 : avoids Foot.flushEgress reg = true := avoids_mono (by decide) hav
  have c3 : avoids Foot.refreshVs reg = true := avoids_mono (by decide) hav
  have f0 : reg ≠ F.SPN_PSTAT_LTSSM.reg := avoids_ne (by decide) hav
  unfold enterL2
  (repeat' split) <;> (try simp -implicitDefEqProofs (maxDischargeDepth := 6) [*]) <;> (repeat' split) <;> simp -implicitDefEqProofs (maxDischargeDepth := 6) [*]

@[simp] theorem setSlotSt_frame (k : Nat) (x : SlotSt) (s : State) :
    (setSlotSt k x s).env = s.env ∧ (setSlotSt k x s).jrn = s.jrn ∧ (setSlotSt k x s).err = s.err ∧
    (setSlotSt k x s).ports = s.ports ∧ (setSlotSt k x s).deck = s.deck ∧ (setSlotSt k x s).csn = s.csn ∧
    (setSlotSt k x s).fl = s.fl ∧ (setSlotSt k x s).fab = s.fab ∧ (setSlotSt k x s).eng = s.eng ∧
    (setSlotSt k x s).img = s.img ∧ (setSlotSt k x s).rcd = s.rcd ∧ (setSlotSt k x s).pmc = s.pmc ∧
    (setSlotSt k x s).abt = s.abt ∧ (setSlotSt k x s).mode = s.mode ∧ (setSlotSt k x s).key = s.key ∧
    (setSlotSt k x s).sb = s.sb ∧ (setSlotSt k x s).pending = s.pending := by
  unfold setSlotSt
  (repeat' split) <;> simp -implicitDefEqProofs (maxDischargeDepth := 6)

def Foot.setSlotSt : List Reg := []

@[simp] theorem setSlotSt_rd (k : Nat) (x : SlotSt) (s : State) (reg : Reg) (rix : Nat) (hav : avoids Foot.setSlotSt reg = true) :
    (setSlotSt k x s).rd reg rix = s.rd reg rix := by
  unfold setSlotSt
  (repeat' split) <;> simp -implicitDefEqProofs (maxDischargeDepth := 6) [*]

@[simp] theorem refreshClk_frame (k : Nat) (s : State) :
    (refreshClk k s).env = s.env ∧ (refreshClk k s).jrn = s.jrn ∧ (refreshClk k s).err = s.err ∧
    (refreshClk k s).ports = s.ports ∧ (refreshClk k s).deck = s.deck ∧ (refreshClk k s).csn = s.csn ∧
    (refreshClk k s).fl = s.fl ∧ (refreshClk k s).host = s.host ∧ (refreshClk k s).fab = s.fab ∧
    (refreshClk k s).eng = s.eng ∧ (refreshClk k s).img = s.img ∧ (refreshClk k s).rcd = s.rcd ∧
    (refreshClk k s).pmc = s.pmc ∧ (refreshClk k s).abt = s.abt ∧ (refreshClk k s).mode = s.mode ∧
    (refreshClk k s).key = s.key ∧ (refreshClk k s).sb = s.sb ∧ (refreshClk k s).pending = s.pending := by
  unfold refreshClk
  (repeat' split) <;> simp -implicitDefEqProofs (maxDischargeDepth := 6)

def Foot.refreshClk : List Reg := [.GLB_SLOT]

@[simp] theorem refreshClk_rd (k : Nat) (s : State) (reg : Reg) (rix : Nat) (hav : avoids Foot.refreshClk reg = true) :
    (refreshClk k s).rd reg rix = s.rd reg rix := by
  have f0 : reg ≠ F.GLB_SLOT_CLKRUN.reg := avoids_ne (by decide) hav
  unfold refreshClk
  (repeat' split) <;> simp -implicitDefEqProofs (maxDischargeDepth := 6) [*]

@[simp] theorem refreshPortClk_frame (p : Nat) (s : State) :
    (refreshPortClk p s).env = s.env ∧ (refreshPortClk p s).jrn = s.jrn ∧ (refreshPortClk p s).err = s.err ∧
    (refreshPortClk p s).ports = s.ports ∧ (refreshPortClk p s).deck = s.deck ∧ (refreshPortClk p s).csn = s.csn ∧
    (refreshPortClk p s).fl = s.fl ∧ (refreshPortClk p s).host = s.host ∧ (refreshPortClk p s).fab = s.fab ∧
    (refreshPortClk p s).eng = s.eng ∧ (refreshPortClk p s).img = s.img ∧ (refreshPortClk p s).rcd = s.rcd ∧
    (refreshPortClk p s).pmc = s.pmc ∧ (refreshPortClk p s).abt = s.abt ∧ (refreshPortClk p s).mode = s.mode ∧
    (refreshPortClk p s).key = s.key ∧ (refreshPortClk p s).sb = s.sb ∧ (refreshPortClk p s).pending = s.pending := by
  unfold refreshPortClk
  (repeat' split) <;> simp -implicitDefEqProofs (maxDischargeDepth := 6)

def Foot.refreshPortClk : List Reg := [.GLB_SLOT]

@[simp] theorem refreshPortClk_rd (p : Nat) (s : State) (reg : Reg) (rix : Nat) (hav : avoids Foot.refreshPortClk reg = true) :
    (refreshPortClk p s).rd reg rix = s.rd reg rix := by
  have c0 : avoids Foot.refreshClk reg = true := avoids_mono (by decide) hav
  unfold refreshPortClk
  (repeat' split) <;> simp -implicitDefEqProofs (maxDischargeDepth := 6) [*]

@[simp] theorem adaptLane_frame (i : Nat) (ctle dfe vga : Fin 3) (eye : Nat) (s : State) :
    (adaptLane i ctle dfe vga eye s).env = s.env ∧ (adaptLane i ctle dfe vga eye s).jrn = s.jrn ∧
    (adaptLane i ctle dfe vga eye s).err = s.err ∧ (adaptLane i ctle dfe vga eye s).ports = s.ports ∧
    (adaptLane i ctle dfe vga eye s).deck = s.deck ∧ (adaptLane i ctle dfe vga eye s).csn = s.csn ∧
    (adaptLane i ctle dfe vga eye s).fl = s.fl ∧ (adaptLane i ctle dfe vga eye s).host = s.host ∧
    (adaptLane i ctle dfe vga eye s).fab = s.fab ∧ (adaptLane i ctle dfe vga eye s).eng = s.eng ∧
    (adaptLane i ctle dfe vga eye s).img = s.img ∧ (adaptLane i ctle dfe vga eye s).rcd = s.rcd ∧
    (adaptLane i ctle dfe vga eye s).pmc = s.pmc ∧ (adaptLane i ctle dfe vga eye s).abt = s.abt ∧
    (adaptLane i ctle dfe vga eye s).mode = s.mode ∧ (adaptLane i ctle dfe vga eye s).key = s.key ∧
    (adaptLane i ctle dfe vga eye s).sb = s.sb ∧ (adaptLane i ctle dfe vga eye s).pending = s.pending := by
  unfold adaptLane
  (repeat' split) <;> simp -implicitDefEqProofs (maxDischargeDepth := 6)

def Foot.adaptLane : List Reg := [.SPN_COEF]

@[simp] theorem adaptLane_rd (i : Nat) (ctle dfe vga : Fin 3) (eye : Nat) (s : State) (reg : Reg) (rix : Nat) (hav : avoids Foot.adaptLane reg = true) :
    (adaptLane i ctle dfe vga eye s).rd reg rix = s.rd reg rix := by
  have f0 : reg ≠ F.SPN_COEF_CTLE.reg := avoids_ne (by decide) hav
  have f1 : reg ≠ F.SPN_COEF_DFE1.reg := avoids_ne (by decide) hav
  have f2 : reg ≠ F.SPN_COEF_EYE.reg := avoids_ne (by decide) hav
  have f3 : reg ≠ F.SPN_COEF_VGA.reg := avoids_ne (by decide) hav
  unfold adaptLane
  (repeat' split) <;> simp -implicitDefEqProofs (maxDischargeDepth := 6) [*]

@[simp] theorem marginResult_frame (p lane v : Nat) (s : State) :
    (marginResult p lane v s).env = s.env ∧ (marginResult p lane v s).jrn = s.jrn ∧ (marginResult p lane v s).err = s.err ∧
    (marginResult p lane v s).deck = s.deck ∧ (marginResult p lane v s).csn = s.csn ∧ (marginResult p lane v s).fl = s.fl ∧
    (marginResult p lane v s).fab = s.fab ∧ (marginResult p lane v s).eng = s.eng ∧ (marginResult p lane v s).img = s.img ∧
    (marginResult p lane v s).rcd = s.rcd ∧ (marginResult p lane v s).pmc = s.pmc ∧ (marginResult p lane v s).abt = s.abt ∧
    (marginResult p lane v s).mode = s.mode ∧ (marginResult p lane v s).key = s.key ∧ (marginResult p lane v s).sb = s.sb ∧
    (marginResult p lane v s).pending = s.pending := by
  unfold marginResult
  (repeat' split) <;> (try simp -implicitDefEqProofs (maxDischargeDepth := 6)) <;> (repeat' split) <;> simp -implicitDefEqProofs (maxDischargeDepth := 6)

def Foot.marginResult : List Reg := []

@[simp] theorem marginResult_rd (p lane v : Nat) (s : State) (reg : Reg) (rix : Nat) (hav : avoids Foot.marginResult reg = true) :
    (marginResult p lane v s).rd reg rix = s.rd reg rix := by
  have c1 : avoids Foot.setCapF reg = true := avoids_mono (by decide) hav
  unfold marginResult
  (repeat' split) <;> (try simp -implicitDefEqProofs (maxDischargeDepth := 6) [*]) <;> (repeat' split) <;> simp -implicitDefEqProofs (maxDischargeDepth := 6) [*]

@[simp] theorem flFree_frame (g v n : Nat) (s : State) :
    (flFree g v n s).env = s.env ∧ (flFree g v n s).jrn = s.jrn ∧ (flFree g v n s).err = s.err ∧
    (flFree g v n s).ports = s.ports ∧ (flFree g v n s).deck = s.deck ∧ (flFree g v n s).csn = s.csn ∧
    (flFree g v n s).host = s.host ∧ (flFree g v n s).fab = s.fab ∧ (flFree g v n s).eng = s.eng ∧
    (flFree g v n s).img = s.img ∧ (flFree g v n s).rcd = s.rcd ∧ (flFree g v n s).pmc = s.pmc ∧
    (flFree g v n s).abt = s.abt ∧ (flFree g v n s).mode = s.mode ∧ (flFree g v n s).key = s.key ∧
    (flFree g v n s).sb = s.sb ∧ (flFree g v n s).pending = s.pending := by
  unfold flFree
  (repeat' split) <;> simp -implicitDefEqProofs (maxDischargeDepth := 6)

def Foot.flFree : List Reg := []

@[simp] theorem flFree_rd (g v n : Nat) (s : State) (reg : Reg) (rix : Nat) (hav : avoids Foot.flFree reg = true) :
    (flFree g v n s).rd reg rix = s.rd reg rix := by
  have c0 : avoids Foot.setFl reg = true := avoids_mono (by decide) hav
  unfold flFree
  (repeat' split) <;> simp -implicitDefEqProofs (maxDischargeDepth := 6) [*]

@[simp] theorem sendFw_frame (g : Nat) (m : FwMsg) (s : State) :
    (sendFw g m s).env = s.env ∧ (sendFw g m s).jrn = s.jrn ∧ (sendFw g m s).err = s.err ∧ (sendFw g m s).ports = s.ports ∧
    (sendFw g m s).deck = s.deck ∧ (sendFw g m s).csn = s.csn ∧ (sendFw g m s).host = s.host ∧ (sendFw g m s).fab = s.fab ∧
    (sendFw g m s).eng = s.eng ∧ (sendFw g m s).img = s.img ∧ (sendFw g m s).rcd = s.rcd ∧ (sendFw g m s).pmc = s.pmc ∧
    (sendFw g m s).abt = s.abt ∧ (sendFw g m s).mode = s.mode ∧ (sendFw g m s).key = s.key ∧ (sendFw g m s).sb = s.sb ∧
    (sendFw g m s).pending = s.pending := by
  unfold sendFw
  (repeat' split) <;> simp -implicitDefEqProofs (maxDischargeDepth := 6)

def Foot.sendFw : List Reg := []

@[simp] theorem sendFw_rd (g : Nat) (m : FwMsg) (s : State) (reg : Reg) (rix : Nat) (hav : avoids Foot.sendFw reg = true) :
    (sendFw g m s).rd reg rix = s.rd reg rix := by
  have c0 : avoids Foot.setFl reg = true := avoids_mono (by decide) hav
  unfold sendFw
  (repeat' split) <;> simp -implicitDefEqProofs (maxDischargeDepth := 6) [*]

@[simp] theorem answerFw_frame (g : Nat) (m : FwMsg) (s : State) :
    (answerFw g m s).env = s.env ∧ (answerFw g m s).jrn = s.jrn ∧ (answerFw g m s).err = s.err ∧
    (answerFw g m s).ports = s.ports ∧ (answerFw g m s).deck = s.deck ∧ (answerFw g m s).csn = s.csn ∧
    (answerFw g m s).host = s.host ∧ (answerFw g m s).fab = s.fab ∧ (answerFw g m s).eng = s.eng ∧
    (answerFw g m s).img = s.img ∧ (answerFw g m s).rcd = s.rcd ∧ (answerFw g m s).pmc = s.pmc ∧
    (answerFw g m s).abt = s.abt ∧ (answerFw g m s).mode = s.mode ∧ (answerFw g m s).key = s.key ∧
    (answerFw g m s).sb = s.sb ∧ (answerFw g m s).pending = s.pending := by
  unfold answerFw
  (repeat' split) <;> simp -implicitDefEqProofs (maxDischargeDepth := 6)

def Foot.answerFw : List Reg := []

@[simp] theorem answerFw_rd (g : Nat) (m : FwMsg) (s : State) (reg : Reg) (rix : Nat) (hav : avoids Foot.answerFw reg = true) :
    (answerFw g m s).rd reg rix = s.rd reg rix := by
  have c0 : avoids Foot.setFl reg = true := avoids_mono (by decide) hav
  unfold answerFw
  (repeat' split) <;> simp -implicitDefEqProofs (maxDischargeDepth := 6) [*]

@[simp] theorem answered_frame (g ty sp : Nat) (s : State) :
    (answered g ty sp s).env = s.env ∧ (answered g ty sp s).jrn = s.jrn ∧ (answered g ty sp s).err = s.err ∧
    (answered g ty sp s).ports = s.ports ∧ (answered g ty sp s).deck = s.deck ∧ (answered g ty sp s).csn = s.csn ∧
    (answered g ty sp s).host = s.host ∧ (answered g ty sp s).fab = s.fab ∧ (answered g ty sp s).eng = s.eng ∧
    (answered g ty sp s).img = s.img ∧ (answered g ty sp s).rcd = s.rcd ∧ (answered g ty sp s).pmc = s.pmc ∧
    (answered g ty sp s).abt = s.abt ∧ (answered g ty sp s).mode = s.mode ∧ (answered g ty sp s).key = s.key ∧
    (answered g ty sp s).sb = s.sb ∧ (answered g ty sp s).pending = s.pending := by
  unfold answered
  (repeat' split) <;> simp -implicitDefEqProofs (maxDischargeDepth := 6)

def Foot.answered : List Reg := []

@[simp] theorem answered_rd (g ty sp : Nat) (s : State) (reg : Reg) (rix : Nat) (hav : avoids Foot.answered reg = true) :
    (answered g ty sp s).rd reg rix = s.rd reg rix := by
  have c0 : avoids Foot.setFl reg = true := avoids_mono (by decide) hav
  unfold answered
  (repeat' split) <;> simp -implicitDefEqProofs (maxDischargeDepth := 6) [*]

@[simp] theorem setRole_frame (sp l r : Nat) (s : State) :
    (setRole sp l r s).env = s.env ∧ (setRole sp l r s).jrn = s.jrn ∧ (setRole sp l r s).err = s.err ∧
    (setRole sp l r s).ports = s.ports ∧ (setRole sp l r s).deck = s.deck ∧ (setRole sp l r s).csn = s.csn ∧
    (setRole sp l r s).fl = s.fl ∧ (setRole sp l r s).host = s.host ∧ (setRole sp l r s).fab = s.fab ∧
    (setRole sp l r s).eng = s.eng ∧ (setRole sp l r s).img = s.img ∧ (setRole sp l r s).rcd = s.rcd ∧
    (setRole sp l r s).pmc = s.pmc ∧ (setRole sp l r s).abt = s.abt ∧ (setRole sp l r s).mode = s.mode ∧
    (setRole sp l r s).key = s.key ∧ (setRole sp l r s).sb = s.sb ∧ (setRole sp l r s).pending = s.pending := by
  unfold setRole
  (repeat' split) <;> simp -implicitDefEqProofs (maxDischargeDepth := 6)

def Foot.setRole : List Reg := [.SPN_LANE]

@[simp] theorem setRole_rd (sp l r : Nat) (s : State) (reg : Reg) (rix : Nat) (hav : avoids Foot.setRole reg = true) :
    (setRole sp l r s).rd reg rix = s.rd reg rix := by
  have f0 : reg ≠ F.SPN_LANE_ROLE.reg := avoids_ne (by decide) hav
  unfold setRole
  (repeat' split) <;> simp -implicitDefEqProofs (maxDischargeDepth := 6) [*]

@[simp] theorem setSpare_frame (sp r l : Nat) (s : State) :
    (setSpare sp r l s).env = s.env ∧ (setSpare sp r l s).jrn = s.jrn ∧ (setSpare sp r l s).err = s.err ∧
    (setSpare sp r l s).ports = s.ports ∧ (setSpare sp r l s).deck = s.deck ∧ (setSpare sp r l s).csn = s.csn ∧
    (setSpare sp r l s).fl = s.fl ∧ (setSpare sp r l s).host = s.host ∧ (setSpare sp r l s).fab = s.fab ∧
    (setSpare sp r l s).eng = s.eng ∧ (setSpare sp r l s).img = s.img ∧ (setSpare sp r l s).rcd = s.rcd ∧
    (setSpare sp r l s).pmc = s.pmc ∧ (setSpare sp r l s).abt = s.abt ∧ (setSpare sp r l s).mode = s.mode ∧
    (setSpare sp r l s).key = s.key ∧ (setSpare sp r l s).sb = s.sb ∧ (setSpare sp r l s).pending = s.pending := by
  unfold setSpare
  (repeat' split) <;> simp -implicitDefEqProofs (maxDischargeDepth := 6)

def Foot.setSpare : List Reg := [.SPN_LANE]

@[simp] theorem setSpare_rd (sp r l : Nat) (s : State) (reg : Reg) (rix : Nat) (hav : avoids Foot.setSpare reg = true) :
    (setSpare sp r l s).rd reg rix = s.rd reg rix := by
  have c0 : avoids Foot.setRole reg = true := avoids_mono (by decide) hav
  have f0 : reg ≠ F.SPN_LANE_MAPPED.reg := avoids_ne (by decide) hav
  unfold setSpare
  (repeat' split) <;> simp -implicitDefEqProofs (maxDischargeDepth := 6) [*]

@[simp] theorem takeRxMap_frame (g sp : Nat) (map : List (Fin 9)) (s : State) :
    (takeRxMap g sp map s).env = s.env ∧ (takeRxMap g sp map s).jrn = s.jrn ∧ (takeRxMap g sp map s).err = s.err ∧
    (takeRxMap g sp map s).ports = s.ports ∧ (takeRxMap g sp map s).deck = s.deck ∧ (takeRxMap g sp map s).csn = s.csn ∧
    (takeRxMap g sp map s).fl = s.fl ∧ (takeRxMap g sp map s).host = s.host ∧ (takeRxMap g sp map s).fab = s.fab ∧
    (takeRxMap g sp map s).eng = s.eng ∧ (takeRxMap g sp map s).img = s.img ∧ (takeRxMap g sp map s).rcd = s.rcd ∧
    (takeRxMap g sp map s).pmc = s.pmc ∧ (takeRxMap g sp map s).abt = s.abt ∧ (takeRxMap g sp map s).mode = s.mode ∧
    (takeRxMap g sp map s).key = s.key ∧ (takeRxMap g sp map s).sb = s.sb ∧ (takeRxMap g sp map s).pending = s.pending := by
  unfold takeRxMap
  (repeat' split) <;> simp -implicitDefEqProofs (maxDischargeDepth := 6)

def Foot.takeRxMap : List Reg := [.SPN_LANE]

@[simp] theorem takeRxMap_rd (g sp : Nat) (map : List (Fin 9)) (s : State) (reg : Reg) (rix : Nat) (hav : avoids Foot.takeRxMap reg = true) :
    (takeRxMap g sp map s).rd reg rix = s.rd reg rix := by
  have c0 : avoids Foot.setRole reg = true := avoids_mono (by decide) hav
  have c1 : avoids Foot.setSpare reg = true := avoids_mono (by decide) hav
  unfold takeRxMap
  (repeat' split) <;> simp -implicitDefEqProofs (maxDischargeDepth := 6) [*]

@[simp] theorem flDown_frame (g cause : Nat) (s : State) :
    (flDown g cause s).img = s.img ∧ (flDown g cause s).abt = s.abt ∧ (flDown g cause s).mode = s.mode ∧
    (flDown g cause s).sb = s.sb ∧ (flDown g cause s).pending = s.pending := by
  unfold flDown
  (repeat' split) <;> simp -implicitDefEqProofs (maxDischargeDepth := 6)

def Foot.flDown : List Reg := [.CSN_POOL, .CSN_PSPILL, .CSN_STAT, .ENG_STAT, .GLB_DMASTAT, .GLB_SLOT, .GLB_VSSTAT, .JNL_CMDRES, .JNL_HEAD, .JNL_STAT, .JNL_TAIL, .KEY_NONCE, .KEY_SLOT, .KEY_SLOTHASH, .KEY_STAT, .PIR_BUFEXP, .PIR_BUFOCC, .PIR_CPLTRK, .PIR_ERRCNT2, .PIR_EXPMON, .PIR_FBPORT, .PIR_PFCNT, .PMC_BSTAT, .PMC_CNT, .PMC_STAT, .REC_PFSTAT, .REC_TRGCFG, .REC_TRGCNT, .SPN_CALSTAT, .SPN_COEF, .SPN_FLCNT, .SPN_FLSTAT, .SPN_PSTAT]

@[simp] theorem flDown_rd (g cause : Nat) (s : State) (reg : Reg) (rix : Nat) (hav : avoids Foot.flDown reg = true) :
    (flDown g cause s).rd reg rix = s.rd reg rix := by
  have c0 : avoids Foot.flDiscard reg = true := avoids_mono (by decide) hav
  have c1 : avoids Foot.linkDownEvent reg = true := avoids_mono (by decide) hav
  have c2 : avoids Foot.abandonVisit reg = true := avoids_mono (by decide) hav
  have f0 : reg ≠ F.SPN_FLCNT_LAST_DOWN.reg := avoids_ne (by decide) hav
  have f1 : reg ≠ F.SPN_FLSTAT_STATE.reg := avoids_ne (by decide) hav
  have f2 : reg ≠ F.SPN_PSTAT_LTSSM.reg := avoids_ne (by decide) hav
  unfold flDown
  (repeat' split) <;> simp -implicitDefEqProofs (maxDischargeDepth := 6) [*]

@[simp] theorem flActive_frame (g : Nat) (s : State) :
    (flActive g s).jrn = s.jrn ∧ (flActive g s).csn = s.csn ∧ (flActive g s).host = s.host ∧ (flActive g s).img = s.img ∧
    (flActive g s).rcd = s.rcd ∧ (flActive g s).pmc = s.pmc ∧ (flActive g s).abt = s.abt ∧ (flActive g s).mode = s.mode ∧
    (flActive g s).key = s.key ∧ (flActive g s).sb = s.sb ∧ (flActive g s).pending = s.pending := by
  unfold flActive
  (repeat' split) <;> simp -implicitDefEqProofs (maxDischargeDepth := 6)

def Foot.flActive : List Reg := [.ENG_STAT, .PIR_BUFEXP, .PIR_BUFOCC, .PIR_CPLTRK, .PIR_ERRCNT2, .PIR_EXPMON, .PIR_FBPORT, .SPN_FLSEQ, .SPN_FLSEQRX, .SPN_FLSTAT, .SPN_FLVC, .SPN_PSTAT]

@[simp] theorem flActive_rd (g : Nat) (s : State) (reg : Reg) (rix : Nat) (hav : avoids Foot.flActive reg = true) :
    (flActive g s).rd reg rix = s.rd reg rix := by
  have c2 : avoids Foot.setRate reg = true := avoids_mono (by decide) hav
  have c3 : avoids Foot.setFl reg = true := avoids_mono (by decide) hav
  have c4 : avoids Foot.linkNote reg = true := avoids_mono (by decide) hav
  have f0 : reg ≠ F.SPN_FLSTAT_STATE.reg := avoids_ne (by decide) hav
  have f1 : reg ≠ F.SPN_FLVC_TX_AVAIL.reg := avoids_ne (by decide) hav
  have f2 : reg ≠ F.SPN_PSTAT_FLIT.reg := avoids_ne (by decide) hav
  have f3 : reg ≠ F.SPN_PSTAT_LINKUP.reg := avoids_ne (by decide) hav
  have f4 : reg ≠ F.SPN_PSTAT_LTSSM.reg := avoids_ne (by decide) hav
  have f5 : reg ≠ .SPN_FLSEQ := avoids_ne (by decide) hav
  have f6 : reg ≠ .SPN_FLSEQRX := avoids_ne (by decide) hav
  unfold flActive
  (repeat' split) <;> simp -implicitDefEqProofs (maxDischargeDepth := 6) [*]

@[simp] theorem startReplay_frame (g : Nat) (s : State) :
    (startReplay g s).jrn = s.jrn ∧ (startReplay g s).csn = s.csn ∧ (startReplay g s).fab = s.fab ∧
    (startReplay g s).img = s.img ∧ (startReplay g s).abt = s.abt ∧ (startReplay g s).mode = s.mode ∧
    (startReplay g s).key = s.key ∧ (startReplay g s).sb = s.sb ∧ (startReplay g s).pending = s.pending := by
  unfold startReplay
  (repeat' split) <;> simp -implicitDefEqProofs (maxDischargeDepth := 6)

def Foot.startReplay : List Reg := [.ENG_STAT, .PIR_BUFEXP, .PIR_BUFOCC, .PIR_CPLTRK, .PIR_ERRCNT2, .PIR_EXPMON, .PIR_FBPORT, .PMC_BSTAT, .PMC_CNT, .PMC_STAT, .REC_TRGCFG, .REC_TRGCNT, .SPN_FLCNT]

@[simp] theorem startReplay_rd (g : Nat) (s : State) (reg : Reg) (rix : Nat) (hav : avoids Foot.startReplay reg = true) :
    (startReplay g s).rd reg rix = s.rd reg rix := by
  have c0 : avoids Foot.count reg = true := avoids_mono (by decide) hav
  have c1 : avoids Foot.setFl reg = true := avoids_mono (by decide) hav
  have f0 : reg ≠ F.SPN_FLCNT_REPLAYS.reg := avoids_ne (by decide) hav
  unfold startReplay
  (repeat' split) <;> simp -implicitDefEqProofs (maxDischargeDepth := 6) [*]

@[simp] theorem takeAck_frame (g a : Nat) (s : State) :
    ((takeAck g a s)).1.env = s.env ∧ ((takeAck g a s)).1.jrn = s.jrn ∧ ((takeAck g a s)).1.err = s.err ∧
    ((takeAck g a s)).1.ports = s.ports ∧ ((takeAck g a s)).1.deck = s.deck ∧ ((takeAck g a s)).1.csn = s.csn ∧
    ((takeAck g a s)).1.host = s.host ∧ ((takeAck g a s)).1.fab = s.fab ∧ ((takeAck g a s)).1.eng = s.eng ∧
    ((takeAck g a s)).1.img = s.img ∧ ((takeAck g a s)).1.rcd = s.rcd ∧ ((takeAck g a s)).1.pmc = s.pmc ∧
    ((takeAck g a s)).1.abt = s.abt ∧ ((takeAck g a s)).1.mode = s.mode ∧ ((takeAck g a s)).1.key = s.key ∧
    ((takeAck g a s)).1.sb = s.sb ∧ ((takeAck g a s)).1.pending = s.pending := by
  unfold takeAck
  (repeat' split) <;> (try simp -implicitDefEqProofs (maxDischargeDepth := 6)) <;> (repeat' split) <;> simp -implicitDefEqProofs (maxDischargeDepth := 6)

def Foot.takeAck : List Reg := [.SPN_FLCNT, .SPN_FLSEQ]

@[simp] theorem takeAck_rd (g a : Nat) (s : State) (reg : Reg) (rix : Nat) (hav : avoids Foot.takeAck reg = true) :
    ((takeAck g a s)).1.rd reg rix = s.rd reg rix := by
  have c0 : avoids Foot.setFl reg = true := avoids_mono (by decide) hav
  have f0 : reg ≠ F.SPN_FLCNT_OOW_ACKS.reg := avoids_ne (by decide) hav
  have f1 : reg ≠ F.SPN_FLSEQ_TX_ACKED.reg := avoids_ne (by decide) hav
  unfold takeAck
  (repeat' split) <;> (try simp -implicitDefEqProofs (maxDischargeDepth := 6) [*]) <;> (repeat' split) <;> simp -implicitDefEqProofs (maxDischargeDepth := 6) [*]

@[simp] theorem setVisit_frame (sp : Nat) (v : Visit) (s : State) :
    (setVisit sp v s).env = s.env ∧ (setVisit sp v s).jrn = s.jrn ∧ (setVisit sp v s).err = s.err ∧
    (setVisit sp v s).ports = s.ports ∧ (setVisit sp v s).deck = s.deck ∧ (setVisit sp v s).csn = s.csn ∧
    (setVisit sp v s).host = s.host ∧ (setVisit sp v s).fab = s.fab ∧ (setVisit sp v s).eng = s.eng ∧
    (setVisit sp v s).img = s.img ∧ (setVisit sp v s).rcd = s.rcd ∧ (setVisit sp v s).pmc = s.pmc ∧
    (setVisit sp v s).abt = s.abt ∧ (setVisit sp v s).mode = s.mode ∧ (setVisit sp v s).key = s.key ∧
    (setVisit sp v s).sb = s.sb ∧ (setVisit sp v s).pending = s.pending := by
  unfold setVisit
  (repeat' split) <;> simp -implicitDefEqProofs (maxDischargeDepth := 6)

def Foot.setVisit : List Reg := []

@[simp] theorem setVisit_rd (sp : Nat) (v : Visit) (s : State) (reg : Reg) (rix : Nat) (hav : avoids Foot.setVisit reg = true) :
    (setVisit sp v s).rd reg rix = s.rd reg rix := by
  unfold setVisit
  (repeat' split) <;> simp -implicitDefEqProofs (maxDischargeDepth := 6) [*]

@[simp] theorem dropVisit_frame (g sp : Nat) (rx : Bool) (s : State) :
    (dropVisit g sp rx s).env = s.env ∧ (dropVisit g sp rx s).jrn = s.jrn ∧ (dropVisit g sp rx s).err = s.err ∧
    (dropVisit g sp rx s).ports = s.ports ∧ (dropVisit g sp rx s).deck = s.deck ∧ (dropVisit g sp rx s).csn = s.csn ∧
    (dropVisit g sp rx s).host = s.host ∧ (dropVisit g sp rx s).fab = s.fab ∧ (dropVisit g sp rx s).eng = s.eng ∧
    (dropVisit g sp rx s).img = s.img ∧ (dropVisit g sp rx s).rcd = s.rcd ∧ (dropVisit g sp rx s).pmc = s.pmc ∧
    (dropVisit g sp rx s).abt = s.abt ∧ (dropVisit g sp rx s).mode = s.mode ∧ (dropVisit g sp rx s).key = s.key ∧
    (dropVisit g sp rx s).sb = s.sb ∧ (dropVisit g sp rx s).pending = s.pending := by
  unfold dropVisit
  (repeat' split) <;> simp -implicitDefEqProofs (maxDischargeDepth := 6)

def Foot.dropVisit : List Reg := []

@[simp] theorem dropVisit_rd (g sp : Nat) (rx : Bool) (s : State) (reg : Reg) (rix : Nat) (hav : avoids Foot.dropVisit reg = true) :
    (dropVisit g sp rx s).rd reg rix = s.rd reg rix := by
  have c0 : avoids Foot.setFl reg = true := avoids_mono (by decide) hav
  unfold dropVisit
  (repeat' split) <;> simp -implicitDefEqProofs (maxDischargeDepth := 6) [*]

@[simp] theorem abortMarks_frame (g sp : Nat) (s : State) :
    (abortMarks g sp s).env = s.env ∧ (abortMarks g sp s).jrn = s.jrn ∧ (abortMarks g sp s).err = s.err ∧
    (abortMarks g sp s).ports = s.ports ∧ (abortMarks g sp s).deck = s.deck ∧ (abortMarks g sp s).csn = s.csn ∧
    (abortMarks g sp s).host = s.host ∧ (abortMarks g sp s).fab = s.fab ∧ (abortMarks g sp s).eng = s.eng ∧
    (abortMarks g sp s).img = s.img ∧ (abortMarks g sp s).rcd = s.rcd ∧ (abortMarks g sp s).pmc = s.pmc ∧
    (abortMarks g sp s).abt = s.abt ∧ (abortMarks g sp s).mode = s.mode ∧ (abortMarks g sp s).key = s.key ∧
    (abortMarks g sp s).sb = s.sb ∧ (abortMarks g sp s).pending = s.pending := by
  unfold abortMarks
  (repeat' split) <;> simp -implicitDefEqProofs (maxDischargeDepth := 6)

def Foot.abortMarks : List Reg := [.SPN_CALSTAT, .SPN_COEF]

@[simp] theorem abortMarks_rd (g sp : Nat) (s : State) (reg : Reg) (rix : Nat) (hav : avoids Foot.abortMarks reg = true) :
    (abortMarks g sp s).rd reg rix = s.rd reg rix := by
  have c0 : avoids Foot.sendFw reg = true := avoids_mono (by decide) hav
  have c1 : avoids Foot.answered reg = true := avoids_mono (by decide) hav
  have f0 : reg ≠ F.SPN_CALSTAT_ABORT.reg := avoids_ne (by decide) hav
  have f1 : reg ≠ .SPN_COEF := avoids_ne (by decide) hav
  unfold abortMarks
  (repeat' split) <;> simp -implicitDefEqProofs (maxDischargeDepth := 6) [*]

@[simp] theorem flAbandon_frame (sp : Nat) (s : State) :
    (flAbandon sp s).env = s.env ∧ (flAbandon sp s).jrn = s.jrn ∧ (flAbandon sp s).err = s.err ∧
    (flAbandon sp s).ports = s.ports ∧ (flAbandon sp s).deck = s.deck ∧ (flAbandon sp s).csn = s.csn ∧
    (flAbandon sp s).host = s.host ∧ (flAbandon sp s).fab = s.fab ∧ (flAbandon sp s).eng = s.eng ∧
    (flAbandon sp s).img = s.img ∧ (flAbandon sp s).rcd = s.rcd ∧ (flAbandon sp s).pmc = s.pmc ∧
    (flAbandon sp s).abt = s.abt ∧ (flAbandon sp s).mode = s.mode ∧ (flAbandon sp s).key = s.key ∧
    (flAbandon sp s).sb = s.sb ∧ (flAbandon sp s).pending = s.pending := by
  unfold flAbandon
  (repeat' split) <;> simp -implicitDefEqProofs (maxDischargeDepth := 6)

def Foot.flAbandon : List Reg := [.SPN_CALSTAT, .SPN_COEF, .SPN_LANE]

@[simp] theorem flAbandon_rd (sp : Nat) (s : State) (reg : Reg) (rix : Nat) (hav : avoids Foot.flAbandon reg = true) :
    (flAbandon sp s).rd reg rix = s.rd reg rix := by
  have c0 : avoids Foot.setSpare reg = true := avoids_mono (by decide) hav
  have c1 : avoids Foot.setVisit reg = true := avoids_mono (by decide) hav
  have c2 : avoids Foot.dropVisit reg = true := avoids_mono (by decide) hav
  have c3 : avoids Foot.abortMarks reg = true := avoids_mono (by decide) hav
  have f0 : reg ≠ F.SPN_CALSTAT_PHASE.reg := avoids_ne (by decide) hav
  unfold flAbandon
  (repeat' split) <;> simp -implicitDefEqProofs (maxDischargeDepth := 6) [*]

@[simp] theorem checkCap_frame (g : Nat) (s : State) :
    (checkCap g s).env = s.env ∧ (checkCap g s).jrn = s.jrn ∧ (checkCap g s).err = s.err ∧ (checkCap g s).ports = s.ports ∧
    (checkCap g s).deck = s.deck ∧ (checkCap g s).csn = s.csn ∧ (checkCap g s).host = s.host ∧ (checkCap g s).fab = s.fab ∧
    (checkCap g s).eng = s.eng ∧ (checkCap g s).img = s.img ∧ (checkCap g s).rcd = s.rcd ∧ (checkCap g s).pmc = s.pmc ∧
    (checkCap g s).abt = s.abt ∧ (checkCap g s).mode = s.mode ∧ (checkCap g s).key = s.key ∧ (checkCap g s).sb = s.sb ∧
    (checkCap g s).pending = s.pending := by
  unfold checkCap
  (repeat' split) <;> simp -implicitDefEqProofs (maxDischargeDepth := 6)

def Foot.checkCap : List Reg := [.SPN_CALSTAT, .SPN_COEF, .SPN_FLSTAT, .SPN_LANE, .SPN_PSTAT]

@[simp] theorem checkCap_rd (g : Nat) (s : State) (reg : Reg) (rix : Nat) (hav : avoids Foot.checkCap reg = true) :
    (checkCap g s).rd reg rix = s.rd reg rix := by
  have c0 : avoids Foot.setFl reg = true := avoids_mono (by decide) hav
  have c1 : avoids Foot.sendFw reg = true := avoids_mono (by decide) hav
  have c2 : avoids Foot.flAbandon reg = true := avoids_mono (by decide) hav
  have f0 : reg ≠ F.SPN_FLSTAT_STATE.reg := avoids_ne (by decide) hav
  have f1 : reg ≠ F.SPN_PSTAT_LTSSM.reg := avoids_ne (by decide) hav
  unfold checkCap
  (repeat' split) <;> simp -implicitDefEqProofs (maxDischargeDepth := 6) [*]

@[simp] theorem laneSwapStart_frame (g sp l : Nat) (s : State) :
    (laneSwapStart g sp l s).env = s.env ∧ (laneSwapStart g sp l s).jrn = s.jrn ∧ (laneSwapStart g sp l s).err = s.err ∧
    (laneSwapStart g sp l s).ports = s.ports ∧ (laneSwapStart g sp l s).deck = s.deck ∧
    (laneSwapStart g sp l s).csn = s.csn ∧ (laneSwapStart g sp l s).host = s.host ∧ (laneSwapStart g sp l s).fab = s.fab ∧
    (laneSwapStart g sp l s).eng = s.eng ∧ (laneSwapStart g sp l s).img = s.img ∧ (laneSwapStart g sp l s).rcd = s.rcd ∧
    (laneSwapStart g sp l s).pmc = s.pmc ∧ (laneSwapStart g sp l s).abt = s.abt ∧ (laneSwapStart g sp l s).mode = s.mode ∧
    (laneSwapStart g sp l s).key = s.key ∧ (laneSwapStart g sp l s).sb = s.sb ∧ (laneSwapStart g sp l s).pending = s.pending := by
  unfold laneSwapStart
  (repeat' split) <;> simp -implicitDefEqProofs (maxDischargeDepth := 6)

def Foot.laneSwapStart : List Reg := [.SPN_LANE]

@[simp] theorem laneSwapStart_rd (g sp l : Nat) (s : State) (reg : Reg) (rix : Nat) (hav : avoids Foot.laneSwapStart reg = true) :
    (laneSwapStart g sp l s).rd reg rix = s.rd reg rix := by
  have c0 : avoids Foot.sendFw reg = true := avoids_mono (by decide) hav
  have c1 : avoids Foot.setSpare reg = true := avoids_mono (by decide) hav
  unfold laneSwapStart
  (repeat' split) <;> simp -implicitDefEqProofs (maxDischargeDepth := 6) [*]

@[simp] theorem narrowing_frame (g : Nat) (s : State) :
    (narrowing g s).env = s.env ∧ (narrowing g s).jrn = s.jrn ∧ (narrowing g s).err = s.err ∧
    (narrowing g s).ports = s.ports ∧ (narrowing g s).deck = s.deck ∧ (narrowing g s).csn = s.csn ∧
    (narrowing g s).host = s.host ∧ (narrowing g s).fab = s.fab ∧ (narrowing g s).eng = s.eng ∧
    (narrowing g s).img = s.img ∧ (narrowing g s).rcd = s.rcd ∧ (narrowing g s).pmc = s.pmc ∧ (narrowing g s).abt = s.abt ∧
    (narrowing g s).mode = s.mode ∧ (narrowing g s).key = s.key ∧ (narrowing g s).sb = s.sb ∧
    (narrowing g s).pending = s.pending := by
  unfold narrowing
  (repeat' split) <;> simp -implicitDefEqProofs (maxDischargeDepth := 6)

def Foot.narrowing : List Reg := [.SPN_CALSTAT, .SPN_COEF, .SPN_FLSTAT, .SPN_LANE, .SPN_PSTAT]

@[simp] theorem narrowing_rd (g : Nat) (s : State) (reg : Reg) (rix : Nat) (hav : avoids Foot.narrowing reg = true) :
    (narrowing g s).rd reg rix = s.rd reg rix := by
  have c0 : avoids Foot.setFl reg = true := avoids_mono (by decide) hav
  have c1 : avoids Foot.flAbandon reg = true := avoids_mono (by decide) hav
  have f0 : reg ≠ F.SPN_FLSTAT_STATE.reg := avoids_ne (by decide) hav
  have f1 : reg ≠ F.SPN_PSTAT_LTSSM.reg := avoids_ne (by decide) hav
  unfold narrowing
  (repeat' split) <;> simp -implicitDefEqProofs (maxDischargeDepth := 6) [*]

@[simp] theorem askWidth_frame (g nw sp : Nat) (ls : List Nat) (s : State) :
    (askWidth g nw sp ls s).env = s.env ∧ (askWidth g nw sp ls s).jrn = s.jrn ∧ (askWidth g nw sp ls s).err = s.err ∧
    (askWidth g nw sp ls s).ports = s.ports ∧ (askWidth g nw sp ls s).deck = s.deck ∧ (askWidth g nw sp ls s).csn = s.csn ∧
    (askWidth g nw sp ls s).host = s.host ∧ (askWidth g nw sp ls s).fab = s.fab ∧ (askWidth g nw sp ls s).eng = s.eng ∧
    (askWidth g nw sp ls s).img = s.img ∧ (askWidth g nw sp ls s).rcd = s.rcd ∧ (askWidth g nw sp ls s).pmc = s.pmc ∧
    (askWidth g nw sp ls s).abt = s.abt ∧ (askWidth g nw sp ls s).mode = s.mode ∧ (askWidth g nw sp ls s).key = s.key ∧
    (askWidth g nw sp ls s).sb = s.sb ∧ (askWidth g nw sp ls s).pending = s.pending := by
  unfold askWidth
  (repeat' split) <;> simp -implicitDefEqProofs (maxDischargeDepth := 6)

def Foot.askWidth : List Reg := [.SPN_CALSTAT, .SPN_COEF, .SPN_FLSTAT, .SPN_LANE, .SPN_PSTAT]

@[simp] theorem askWidth_rd (g nw sp : Nat) (ls : List Nat) (s : State) (reg : Reg) (rix : Nat) (hav : avoids Foot.askWidth reg = true) :
    (askWidth g nw sp ls s).rd reg rix = s.rd reg rix := by
  have c0 : avoids Foot.sendFw reg = true := avoids_mono (by decide) hav
  have c1 : avoids Foot.narrowing reg = true := avoids_mono (by decide) hav
  unfold askWidth
  (repeat' split) <;> simp -implicitDefEqProofs (maxDischargeDepth := 6) [*]

@[simp] theorem narrow_frame (g : Nat) (s : State) :
    (narrow g s).img = s.img ∧ (narrow g s).abt = s.abt ∧ (narrow g s).mode = s.mode ∧ (narrow g s).sb = s.sb ∧
    (narrow g s).pending = s.pending := by
  unfold narrow
  (repeat' split) <;> (try simp -implicitDefEqProofs (maxDischargeDepth := 6)) <;> (repeat' split) <;> simp -implicitDefEqProofs (maxDischargeDepth := 6)

def Foot.narrow : List Reg := [.CSN_POOL, .CSN_PSPILL, .CSN_STAT, .ENG_STAT, .GLB_DMASTAT, .GLB_SLOT, .GLB_VSSTAT, .JNL_CMDRES, .JNL_HEAD, .JNL_STAT, .JNL_TAIL, .KEY_NONCE, .KEY_SLOT, .KEY_SLOTHASH, .KEY_STAT, .PIR_BUFEXP, .PIR_BUFOCC, .PIR_CPLTRK, .PIR_ERRCNT2, .PIR_EXPMON, .PIR_FBPORT, .PIR_PFCNT, .PMC_BSTAT, .PMC_CNT, .PMC_STAT, .REC_PFSTAT, .REC_TRGCFG, .REC_TRGCNT, .SPN_CALSTAT, .SPN_COEF, .SPN_FLCNT, .SPN_FLSTAT, .SPN_LANE, .SPN_PSTAT]

@[simp] theorem narrow_rd (g : Nat) (s : State) (reg : Reg) (rix : Nat) (hav : avoids Foot.narrow reg = true) :
    (narrow g s).rd reg rix = s.rd reg rix := by
  have c0 : avoids Foot.flDown reg = true := avoids_mono (by decide) hav
  have c1 : avoids Foot.askWidth reg = true := avoids_mono (by decide) hav
  unfold narrow
  (repeat' split) <;> (try simp -implicitDefEqProofs (maxDischargeDepth := 6) [*]) <;> (repeat' split) <;> simp -implicitDefEqProofs (maxDischargeDepth := 6) [*]

@[simp] theorem flResume_frame (g : Nat) (s : State) :
    (flResume g s).img = s.img ∧ (flResume g s).abt = s.abt ∧ (flResume g s).mode = s.mode ∧ (flResume g s).sb = s.sb ∧
    (flResume g s).pending = s.pending := by
  unfold flResume
  (repeat' split) <;> simp -implicitDefEqProofs (maxDischargeDepth := 6)

def Foot.flResume : List Reg := [.CSN_POOL, .CSN_PSPILL, .CSN_STAT, .ENG_STAT, .GLB_DMASTAT, .GLB_SLOT, .GLB_VSSTAT, .JNL_CMDRES, .JNL_HEAD, .JNL_STAT, .JNL_TAIL, .KEY_NONCE, .KEY_SLOT, .KEY_SLOTHASH, .KEY_STAT, .PIR_BUFEXP, .PIR_BUFOCC, .PIR_CPLTRK, .PIR_ERRCNT2, .PIR_EXPMON, .PIR_FBPORT, .PIR_PFCNT, .PMC_BSTAT, .PMC_CNT, .PMC_STAT, .REC_PFSTAT, .REC_TRGCFG, .REC_TRGCNT, .SPN_CALSTAT, .SPN_COEF, .SPN_FLCNT, .SPN_FLSTAT, .SPN_LANE, .SPN_PSTAT]

@[simp] theorem flResume_rd (g : Nat) (s : State) (reg : Reg) (rix : Nat) (hav : avoids Foot.flResume reg = true) :
    (flResume g s).rd reg rix = s.rd reg rix := by
  have c0 : avoids Foot.checkCap reg = true := avoids_mono (by decide) hav
  have c1 : avoids Foot.narrow reg = true := avoids_mono (by decide) hav
  have f0 : reg ≠ F.SPN_FLSTAT_STATE.reg := avoids_ne (by decide) hav
  have f1 : reg ≠ F.SPN_PSTAT_LTSSM.reg := avoids_ne (by decide) hav
  unfold flResume
  (repeat' split) <;> simp -implicitDefEqProofs (maxDischargeDepth := 6) [*]

@[simp] theorem spareKeeps_frame (g sp l : Nat) (s : State) :
    (spareKeeps g sp l s).env = s.env ∧ (spareKeeps g sp l s).jrn = s.jrn ∧ (spareKeeps g sp l s).ports = s.ports ∧
    (spareKeeps g sp l s).deck = s.deck ∧ (spareKeeps g sp l s).csn = s.csn ∧ (spareKeeps g sp l s).host = s.host ∧
    (spareKeeps g sp l s).fab = s.fab ∧ (spareKeeps g sp l s).eng = s.eng ∧ (spareKeeps g sp l s).img = s.img ∧
    (spareKeeps g sp l s).rcd = s.rcd ∧ (spareKeeps g sp l s).pmc = s.pmc ∧ (spareKeeps g sp l s).abt = s.abt ∧
    (spareKeeps g sp l s).mode = s.mode ∧ (spareKeeps g sp l s).key = s.key ∧ (spareKeeps g sp l s).sb = s.sb ∧
    (spareKeeps g sp l s).pending = s.pending := by
  unfold spareKeeps
  (repeat' split) <;> simp -implicitDefEqProofs (maxDischargeDepth := 6)

def Foot.spareKeeps : List Reg := [.PIR_ERRCNT2, .SPN_CALSTAT, .SPN_COEF, .SPN_LANE]

@[simp] theorem spareKeeps_rd (g sp l : Nat) (s : State) (reg : Reg) (rix : Nat) (hav : avoids Foot.spareKeeps reg = true) :
    (spareKeeps g sp l s).rd reg rix = s.rd reg rix := by
  have c0 : avoids Foot.pushRec reg = true := avoids_mono (by decide) hav
  have c1 : avoids Foot.setSpare reg = true := avoids_mono (by decide) hav
  have c2 : avoids Foot.setVisit reg = true := avoids_mono (by decide) hav
  have c3 : avoids Foot.dropVisit reg = true := avoids_mono (by decide) hav
  have c4 : avoids Foot.abortMarks reg = true := avoids_mono (by decide) hav
  have f0 : reg ≠ F.SPN_CALSTAT_PHASE.reg := avoids_ne (by decide) hav
  unfold spareKeeps
  (repeat' split) <;> simp -implicitDefEqProofs (maxDischargeDepth := 6) [*]

@[simp] theorem coverLane_frame (g sp l : Nat) (s : State) :
    (coverLane g sp l s).env = s.env ∧ (coverLane g sp l s).jrn = s.jrn ∧ (coverLane g sp l s).ports = s.ports ∧
    (coverLane g sp l s).deck = s.deck ∧ (coverLane g sp l s).csn = s.csn ∧ (coverLane g sp l s).host = s.host ∧
    (coverLane g sp l s).fab = s.fab ∧ (coverLane g sp l s).eng = s.eng ∧ (coverLane g sp l s).img = s.img ∧
    (coverLane g sp l s).rcd = s.rcd ∧ (coverLane g sp l s).pmc = s.pmc ∧ (coverLane g sp l s).abt = s.abt ∧
    (coverLane g sp l s).mode = s.mode ∧ (coverLane g sp l s).key = s.key ∧ (coverLane g sp l s).sb = s.sb ∧
    (coverLane g sp l s).pending = s.pending := by
  unfold coverLane
  (repeat' split) <;> simp -implicitDefEqProofs (maxDischargeDepth := 6)

def Foot.coverLane : List Reg := [.PIR_ERRCNT2, .SPN_CALSTAT, .SPN_COEF, .SPN_LANE]

@[simp] theorem coverLane_rd (g sp l : Nat) (s : State) (reg : Reg) (rix : Nat) (hav : avoids Foot.coverLane reg = true) :
    (coverLane g sp l s).rd reg rix = s.rd reg rix := by
  have c0 : avoids Foot.setVisit reg = true := avoids_mono (by decide) hav
  have c1 : avoids Foot.flAbandon reg = true := avoids_mono (by decide) hav
  have c2 : avoids Foot.laneSwapStart reg = true := avoids_mono (by decide) hav
  have c3 : avoids Foot.spareKeeps reg = true := avoids_mono (by decide) hav
  unfold coverLane
  (repeat' split) <;> simp -implicitDefEqProofs (maxDischargeDepth := 6) [*]

@[simp] theorem laneFail_frame (sp l : Nat) (s : State) :
    (laneFail sp l s).img = s.img ∧ (laneFail sp l s).abt = s.abt ∧ (laneFail sp l s).mode = s.mode ∧
    (laneFail sp l s).sb = s.sb ∧ (laneFail sp l s).pending = s.pending := by
  unfold laneFail
  (repeat' split) <;> simp -implicitDefEqProofs (maxDischargeDepth := 6)

def Foot.laneFail : List Reg := [.CSN_POOL, .CSN_PSPILL, .CSN_STAT, .ENG_STAT, .GLB_DMASTAT, .GLB_SLOT, .GLB_VSSTAT, .JNL_CMDRES, .JNL_HEAD, .JNL_STAT, .JNL_TAIL, .KEY_NONCE, .KEY_SLOT, .KEY_SLOTHASH, .KEY_STAT, .PIR_BUFEXP, .PIR_BUFOCC, .PIR_CPLTRK, .PIR_ERRCNT2, .PIR_EXPMON, .PIR_FBPORT, .PIR_PFCNT, .PMC_BSTAT, .PMC_CNT, .PMC_STAT, .REC_PFSTAT, .REC_TRGCFG, .REC_TRGCNT, .SPN_CALSTAT, .SPN_COEF, .SPN_FLCNT, .SPN_FLSTAT, .SPN_LANE, .SPN_PSTAT]

@[simp] theorem laneFail_rd (sp l : Nat) (s : State) (reg : Reg) (rix : Nat) (hav : avoids Foot.laneFail reg = true) :
    (laneFail sp l s).rd reg rix = s.rd reg rix := by
  have c0 : avoids Foot.laneEvent reg = true := avoids_mono (by decide) hav
  have c1 : avoids Foot.setFl reg = true := avoids_mono (by decide) hav
  have c2 : avoids Foot.setRole reg = true := avoids_mono (by decide) hav
  have c3 : avoids Foot.narrow reg = true := avoids_mono (by decide) hav
  have c4 : avoids Foot.coverLane reg = true := avoids_mono (by decide) hav
  have f0 : reg ≠ F.SPN_FLSTAT_RX_FAILED.reg := avoids_ne (by decide) hav
  have f1 : reg ≠ F.SPN_LANE_LOCK.reg := avoids_ne (by decide) hav
  unfold laneFail
  (repeat' split) <;> simp -implicitDefEqProofs (maxDischargeDepth := 6) [*]

@[simp] theorem spareFail_frame (sp : Nat) (s : State) :
    (spareFail sp s).img = s.img ∧ (spareFail sp s).abt = s.abt ∧ (spareFail sp s).mode = s.mode ∧
    (spareFail sp s).sb = s.sb ∧ (spareFail sp s).pending = s.pending := by
  unfold spareFail
  (repeat' split) <;> simp -implicitDefEqProofs (maxDischargeDepth := 6)

def Foot.spareFail : List Reg := [.CSN_POOL, .CSN_PSPILL, .CSN_STAT, .ENG_STAT, .GLB_DMASTAT, .GLB_SLOT, .GLB_VSSTAT, .JNL_CMDRES, .JNL_HEAD, .JNL_STAT, .JNL_TAIL, .KEY_NONCE, .KEY_SLOT, .KEY_SLOTHASH, .KEY_STAT, .PIR_BUFEXP, .PIR_BUFOCC, .PIR_CPLTRK, .PIR_ERRCNT2, .PIR_EXPMON, .PIR_FBPORT, .PIR_PFCNT, .PMC_BSTAT, .PMC_CNT, .PMC_STAT, .REC_PFSTAT, .REC_TRGCFG, .REC_TRGCNT, .SPN_CALSTAT, .SPN_COEF, .SPN_FLCNT, .SPN_FLSTAT, .SPN_LANE, .SPN_PSTAT]

@[simp] theorem spareFail_rd (sp : Nat) (s : State) (reg : Reg) (rix : Nat) (hav : avoids Foot.spareFail reg = true) :
    (spareFail sp s).rd reg rix = s.rd reg rix := by
  have c0 : avoids Foot.laneEvent reg = true := avoids_mono (by decide) hav
  have c1 : avoids Foot.setSpare reg = true := avoids_mono (by decide) hav
  have c2 : avoids Foot.setVisit reg = true := avoids_mono (by decide) hav
  have c3 : avoids Foot.dropVisit reg = true := avoids_mono (by decide) hav
  have c4 : avoids Foot.flAbandon reg = true := avoids_mono (by decide) hav
  have c5 : avoids Foot.narrow reg = true := avoids_mono (by decide) hav
  have f0 : reg ≠ F.SPN_CALSTAT_PHASE.reg := avoids_ne (by decide) hav
  have f1 : reg ≠ F.SPN_FLSTAT_SPARE_FAIL.reg := avoids_ne (by decide) hav
  have f2 : reg ≠ F.SPN_LANE_ROLE.reg := avoids_ne (by decide) hav
  unfold spareFail
  (repeat' split) <;> simp -implicitDefEqProofs (maxDischargeDepth := 6) [*]

@[simp] theorem symbolErrors_frame (i n : Nat) (s : State) :
    (symbolErrors i n s).img = s.img ∧ (symbolErrors i n s).abt = s.abt ∧ (symbolErrors i n s).mode = s.mode ∧
    (symbolErrors i n s).sb = s.sb ∧ (symbolErrors i n s).pending = s.pending := by
  unfold symbolErrors
  (repeat' split) <;> simp -implicitDefEqProofs (maxDischargeDepth := 6)

def Foot.symbolErrors : List Reg := [.CSN_POOL, .CSN_PSPILL, .CSN_STAT, .ENG_STAT, .GLB_DMASTAT, .GLB_SLOT, .GLB_VSSTAT, .JNL_CMDRES, .JNL_HEAD, .JNL_STAT, .JNL_TAIL, .KEY_NONCE, .KEY_SLOT, .KEY_SLOTHASH, .KEY_STAT, .PIR_BUFEXP, .PIR_BUFOCC, .PIR_CPLTRK, .PIR_ERRCNT2, .PIR_EXPMON, .PIR_FBPORT, .PIR_PFCNT, .PMC_BSTAT, .PMC_CNT, .PMC_STAT, .REC_PFSTAT, .REC_TRGCFG, .REC_TRGCNT, .SPN_CALSTAT, .SPN_COEF, .SPN_FLCNT, .SPN_FLSTAT, .SPN_LANE, .SPN_PSTAT]

@[simp] theorem symbolErrors_rd (i n : Nat) (s : State) (reg : Reg) (rix : Nat) (hav : avoids Foot.symbolErrors reg = true) :
    (symbolErrors i n s).rd reg rix = s.rd reg rix := by
  have c0 : avoids Foot.laneFail reg = true := avoids_mono (by decide) hav
  have c1 : avoids Foot.spareFail reg = true := avoids_mono (by decide) hav
  have f0 : reg ≠ F.SPN_LANE_ERRCNT.reg := avoids_ne (by decide) hav
  unfold symbolErrors
  (repeat' split) <;> simp -implicitDefEqProofs (maxDischargeDepth := 6) [*]

@[simp] theorem narrowDone_frame (g w : Nat) (s : State) :
    (narrowDone g w s).img = s.img ∧ (narrowDone g w s).abt = s.abt ∧ (narrowDone g w s).mode = s.mode ∧
    (narrowDone g w s).sb = s.sb ∧ (narrowDone g w s).pending = s.pending := by
  unfold narrowDone
  (repeat' split) <;> simp -implicitDefEqProofs (maxDischargeDepth := 6)

def Foot.narrowDone : List Reg := [.CSN_POOL, .CSN_PSPILL, .CSN_STAT, .ENG_STAT, .GLB_DMASTAT, .GLB_SLOT, .GLB_VSSTAT, .JNL_CMDRES, .JNL_HEAD, .JNL_STAT, .JNL_TAIL, .KEY_NONCE, .KEY_SLOT, .KEY_SLOTHASH, .KEY_STAT, .PIR_BUFEXP, .PIR_BUFOCC, .PIR_CPLTRK, .PIR_ERRCNT2, .PIR_EXPMON, .PIR_FBPORT, .PIR_PFCNT, .PMC_BSTAT, .PMC_CNT, .PMC_STAT, .REC_PFSTAT, .REC_TRGCFG, .REC_TRGCNT, .SPN_CALSTAT, .SPN_COEF, .SPN_FLCNT, .SPN_FLSTAT, .SPN_LANE, .SPN_PSTAT]

@[simp] theorem narrowDone_rd (g w : Nat) (s : State) (reg : Reg) (rix : Nat) (hav : avoids Foot.narrowDone reg = true) :
    (narrowDone g w s).rd reg rix = s.rd reg rix := by
  have c0 : avoids Foot.pushRec reg = true := avoids_mono (by decide) hav
  have c1 : avoids Foot.setRate reg = true := avoids_mono (by decide) hav
  have c2 : avoids Foot.setFl reg = true := avoids_mono (by decide) hav
  have c3 : avoids Foot.flResume reg = true := avoids_mono (by decide) hav
  have f0 : reg ≠ F.SPN_FLSTAT_STATE.reg := avoids_ne (by decide) hav
  unfold narrowDone
  (repeat' split) <;> simp -implicitDefEqProofs (maxDischargeDepth := 6) [*]

@[simp] theorem rateReached_frame (g : Nat) (s : State) :
    (rateReached g s).env = s.env ∧ (rateReached g s).jrn = s.jrn ∧ (rateReached g s).err = s.err ∧
    (rateReached g s).deck = s.deck ∧ (rateReached g s).csn = s.csn ∧ (rateReached g s).fl = s.fl ∧
    (rateReached g s).host = s.host ∧ (rateReached g s).fab = s.fab ∧ (rateReached g s).eng = s.eng ∧
    (rateReached g s).img = s.img ∧ (rateReached g s).rcd = s.rcd ∧ (rateReached g s).pmc = s.pmc ∧
    (rateReached g s).abt = s.abt ∧ (rateReached g s).mode = s.mode ∧ (rateReached g s).key = s.key ∧
    (rateReached g s).sb = s.sb ∧ (rateReached g s).pending = s.pending := by
  unfold rateReached
  (repeat' split) <;> simp -implicitDefEqProofs (maxDischargeDepth := 6)

def Foot.rateReached : List Reg := [.SPN_PSTAT]

@[simp] theorem rateReached_rd (g : Nat) (s : State) (reg : Reg) (rix : Nat) (hav : avoids Foot.rateReached reg = true) :
    (rateReached g s).rd reg rix = s.rd reg rix := by
  have c0 : avoids Foot.setRate reg = true := avoids_mono (by decide) hav
  unfold rateReached
  (repeat' split) <;> simp -implicitDefEqProofs (maxDischargeDepth := 6) [*]

@[simp] theorem adoptWidth_frame (g w : Nat) (s : State) :
    (adoptWidth g w s).env = s.env ∧ (adoptWidth g w s).jrn = s.jrn ∧ (adoptWidth g w s).err = s.err ∧
    (adoptWidth g w s).ports = s.ports ∧ (adoptWidth g w s).deck = s.deck ∧ (adoptWidth g w s).csn = s.csn ∧
    (adoptWidth g w s).host = s.host ∧ (adoptWidth g w s).fab = s.fab ∧ (adoptWidth g w s).eng = s.eng ∧
    (adoptWidth g w s).img = s.img ∧ (adoptWidth g w s).rcd = s.rcd ∧ (adoptWidth g w s).pmc = s.pmc ∧
    (adoptWidth g w s).abt = s.abt ∧ (adoptWidth g w s).mode = s.mode ∧ (adoptWidth g w s).key = s.key ∧
    (adoptWidth g w s).sb = s.sb ∧ (adoptWidth g w s).pending = s.pending := by
  unfold adoptWidth
  (repeat' split) <;> simp -implicitDefEqProofs (maxDischargeDepth := 6)

def Foot.adoptWidth : List Reg := [.SPN_LANE, .SPN_PSTAT]

@[simp] theorem adoptWidth_rd (g w : Nat) (s : State) (reg : Reg) (rix : Nat) (hav : avoids Foot.adoptWidth reg = true) :
    (adoptWidth g w s).rd reg rix = s.rd reg rix := by
  have c0 : avoids Foot.setFl reg = true := avoids_mono (by decide) hav
  have c1 : avoids Foot.takeRxMap reg = true := avoids_mono (by decide) hav
  have f0 : reg ≠ F.SPN_PSTAT_L0PWIDTH.reg := avoids_ne (by decide) hav
  have f1 : reg ≠ F.SPN_PSTAT_WIDTH.reg := avoids_ne (by decide) hav
  unfold adoptWidth
  (repeat' split) <;> simp -implicitDefEqProofs (maxDischargeDepth := 6) [*]

@[simp] theorem fwLinkParam_frame (g : Nat) (m : FwMsg) (s : State) :
    (fwLinkParam g m s).jrn = s.jrn ∧ (fwLinkParam g m s).csn = s.csn ∧ (fwLinkParam g m s).host = s.host ∧
    (fwLinkParam g m s).img = s.img ∧ (fwLinkParam g m s).rcd = s.rcd ∧ (fwLinkParam g m s).pmc = s.pmc ∧
    (fwLinkParam g m s).abt = s.abt ∧ (fwLinkParam g m s).mode = s.mode ∧ (fwLinkParam g m s).key = s.key ∧
    (fwLinkParam g m s).sb = s.sb ∧ (fwLinkParam g m s).pending = s.pending := by
  unfold fwLinkParam
  (repeat' split) <;> simp -implicitDefEqProofs (maxDischargeDepth := 6)

def Foot.fwLinkParam : List Reg := [.ENG_STAT, .PIR_BUFEXP, .PIR_BUFOCC, .PIR_CPLTRK, .PIR_ERRCNT2, .PIR_EXPMON, .PIR_FBPORT, .SPN_FLCNT, .SPN_FLSEQ, .SPN_FLSEQRX, .SPN_FLSTAT, .SPN_FLVC, .SPN_LANE, .SPN_PSTAT]

@[simp] theorem fwLinkParam_rd (g : Nat) (m : FwMsg) (s : State) (reg : Reg) (rix : Nat) (hav : avoids Foot.fwLinkParam reg = true) :
    (fwLinkParam g m s).rd reg rix = s.rd reg rix := by
  have c0 : avoids Foot.setFl reg = true := avoids_mono (by decide) hav
  have c1 : avoids Foot.answerFw reg = true := avoids_mono (by decide) hav
  have c2 : avoids Foot.flActive reg = true := avoids_mono (by decide) hav
  have c3 : avoids Foot.adoptWidth reg = true := avoids_mono (by decide) hav
  have f0 : reg ≠ F.SPN_FLCNT_LAST_DOWN.reg := avoids_ne (by decide) hav
  have f1 : reg ≠ F.SPN_FLSTAT_PEERERR.reg := avoids_ne (by decide) hav
  have f2 : reg ≠ F.SPN_FLSTAT_STATE.reg := avoids_ne (by decide) hav
  unfold fwLinkParam
  (repeat' split) <;> simp -implicitDefEqProofs (maxDischargeDepth := 6) [*]

@[simp] theorem fwLinkParamAck_frame (g : Nat) (m : FwMsg) (s : State) :
    (fwLinkParamAck g m s).jrn = s.jrn ∧ (fwLinkParamAck g m s).csn = s.csn ∧ (fwLinkParamAck g m s).host = s.host ∧
    (fwLinkParamAck g m s).img = s.img ∧ (fwLinkParamAck g m s).rcd = s.rcd ∧ (fwLinkParamAck g m s).pmc = s.pmc ∧
    (fwLinkParamAck g m s).abt = s.abt ∧ (fwLinkParamAck g m s).mode = s.mode ∧ (fwLinkParamAck g m s).key = s.key ∧
    (fwLinkParamAck g m s).sb = s.sb ∧ (fwLinkParamAck g m s).pending = s.pending := by
  unfold fwLinkParamAck
  (repeat' split) <;> simp -implicitDefEqProofs (maxDischargeDepth := 6)

def Foot.fwLinkParamAck : List Reg := [.ENG_STAT, .PIR_BUFEXP, .PIR_BUFOCC, .PIR_CPLTRK, .PIR_ERRCNT2, .PIR_EXPMON, .PIR_FBPORT, .SPN_FLSEQ, .SPN_FLSEQRX, .SPN_FLSTAT, .SPN_FLVC, .SPN_PSTAT]

@[simp] theorem fwLinkParamAck_rd (g : Nat) (m : FwMsg) (s : State) (reg : Reg) (rix : Nat) (hav : avoids Foot.fwLinkParamAck reg = true) :
    (fwLinkParamAck g m s).rd reg rix = s.rd reg rix := by
  have c0 : avoids Foot.setFl reg = true := avoids_mono (by decide) hav
  have c1 : avoids Foot.answered reg = true := avoids_mono (by decide) hav
  have c2 : avoids Foot.flActive reg = true := avoids_mono (by decide) hav
  unfold fwLinkParamAck
  (repeat' split) <;> simp -implicitDefEqProofs (maxDischargeDepth := 6) [*]

@[simp] theorem fwCalReq_frame (g : Nat) (m : FwMsg) (s : State) :
    (fwCalReq g m s).env = s.env ∧ (fwCalReq g m s).jrn = s.jrn ∧ (fwCalReq g m s).err = s.err ∧
    (fwCalReq g m s).ports = s.ports ∧ (fwCalReq g m s).deck = s.deck ∧ (fwCalReq g m s).csn = s.csn ∧
    (fwCalReq g m s).host = s.host ∧ (fwCalReq g m s).fab = s.fab ∧ (fwCalReq g m s).eng = s.eng ∧
    (fwCalReq g m s).img = s.img ∧ (fwCalReq g m s).rcd = s.rcd ∧ (fwCalReq g m s).pmc = s.pmc ∧
    (fwCalReq g m s).abt = s.abt ∧ (fwCalReq g m s).mode = s.mode ∧ (fwCalReq g m s).key = s.key ∧
    (fwCalReq g m s).sb = s.sb ∧ (fwCalReq g m s).pending = s.pending := by
  unfold fwCalReq
  (repeat' split) <;> simp -implicitDefEqProofs (maxDischargeDepth := 6)

def Foot.fwCalReq : List Reg := []

@[simp] theorem fwCalReq_rd (g : Nat) (m : FwMsg) (s : State) (reg : Reg) (rix : Nat) (hav : avoids Foot.fwCalReq reg = true) :
    (fwCalReq g m s).rd reg rix = s.rd reg rix := by
  have c0 : avoids Foot.answerFw reg = true := avoids_mono (by decide) hav
  have c1 : avoids Foot.setVisit reg = true := avoids_mono (by decide) hav
  unfold fwCalReq
  (repeat' split) <;> simp -implicitDefEqProofs (maxDischargeDepth := 6) [*]

@[simp] theorem fwCalAck_frame (g : Nat) (m : FwMsg) (s : State) :
    (fwCalAck g m s).env = s.env ∧ (fwCalAck g m s).jrn = s.jrn ∧ (fwCalAck g m s).err = s.err ∧
    (fwCalAck g m s).ports = s.ports ∧ (fwCalAck g m s).deck = s.deck ∧ (fwCalAck g m s).csn = s.csn ∧
    (fwCalAck g m s).host = s.host ∧ (fwCalAck g m s).fab = s.fab ∧ (fwCalAck g m s).eng = s.eng ∧
    (fwCalAck g m s).img = s.img ∧ (fwCalAck g m s).rcd = s.rcd ∧ (fwCalAck g m s).pmc = s.pmc ∧
    (fwCalAck g m s).abt = s.abt ∧ (fwCalAck g m s).mode = s.mode ∧ (fwCalAck g m s).key = s.key ∧
    (fwCalAck g m s).sb = s.sb ∧ (fwCalAck g m s).pending = s.pending := by
  unfold fwCalAck
  (repeat' split) <;> simp -implicitDefEqProofs (maxDischargeDepth := 6)

def Foot.fwCalAck : List Reg := []

@[simp] theorem fwCalAck_rd (g : Nat) (m : FwMsg) (s : State) (reg : Reg) (rix : Nat) (hav : avoids Foot.fwCalAck reg = true) :
    (fwCalAck g m s).rd reg rix = s.rd reg rix := by
  have c0 : avoids Foot.answered reg = true := avoids_mono (by decide) hav
  have c1 : avoids Foot.setVisit reg = true := avoids_mono (by decide) hav
  unfold fwCalAck
  (repeat' split) <;> simp -implicitDefEqProofs (maxDischargeDepth := 6) [*]

@[simp] theorem agreeTx_frame (g kind idx lane sp : Nat) (map : List (Fin 9)) (width : Nat) (s : State) :
    (agreeTx g kind idx lane sp map width s).env = s.env ∧ (agreeTx g kind idx lane sp map width s).jrn = s.jrn ∧
    (agreeTx g kind idx lane sp map width s).err = s.err ∧ (agreeTx g kind idx lane sp map width s).ports = s.ports ∧
    (agreeTx g kind idx lane sp map width s).deck = s.deck ∧ (agreeTx g kind idx lane sp map width s).csn = s.csn ∧
    (agreeTx g kind idx lane sp map width s).host = s.host ∧ (agreeTx g kind idx lane sp map width s).fab = s.fab ∧
    (agreeTx g kind idx lane sp map width s).eng = s.eng ∧ (agreeTx g kind idx lane sp map width s).img = s.img ∧
    (agreeTx g kind idx lane sp map width s).rcd = s.rcd ∧ (agreeTx g kind idx lane sp map width s).pmc = s.pmc ∧
    (agreeTx g kind idx lane sp map width s).abt = s.abt ∧ (agreeTx g kind idx lane sp map width s).mode = s.mode ∧
    (agreeTx g kind idx lane sp map width s).key = s.key ∧ (agreeTx g kind idx lane sp map width s).sb = s.sb ∧
    (agreeTx g kind idx lane sp map width s).pending = s.pending := by
  unfold agreeTx
  (repeat' split) <;> simp -implicitDefEqProofs (maxDischargeDepth := 6)

def Foot.agreeTx : List Reg := []

@[simp] theorem agreeTx_rd (g kind idx lane sp : Nat) (map : List (Fin 9)) (width : Nat) (s : State) (reg : Reg) (rix : Nat) (hav : avoids Foot.agreeTx reg = true) :
    (agreeTx g kind idx lane sp map width s).rd reg rix = s.rd reg rix := by
  have c0 : avoids Foot.setFl reg = true := avoids_mono (by decide) hav
  unfold agreeTx
  (repeat' split) <;> simp -implicitDefEqProofs (maxDischargeDepth := 6) [*]

@[simp] theorem fwCalAbort_frame (g : Nat) (m : FwMsg) (s : State) :
    (fwCalAbort g m s).env = s.env ∧ (fwCalAbort g m s).jrn = s.jrn ∧ (fwCalAbort g m s).err = s.err ∧
    (fwCalAbort g m s).ports = s.ports ∧ (fwCalAbort g m s).deck = s.deck ∧ (fwCalAbort g m s).csn = s.csn ∧
    (fwCalAbort g m s).host = s.host ∧ (fwCalAbort g m s).fab = s.fab ∧ (fwCalAbort g m s).eng = s.eng ∧
    (fwCalAbort g m s).img = s.img ∧ (fwCalAbort g m s).rcd = s.rcd ∧ (fwCalAbort g m s).pmc = s.pmc ∧
    (fwCalAbort g m s).abt = s.abt ∧ (fwCalAbort g m s).mode = s.mode ∧ (fwCalAbort g m s).key = s.key ∧
    (fwCalAbort g m s).sb = s.sb ∧ (fwCalAbort g m s).pending = s.pending := by
  unfold fwCalAbort
  (repeat' split) <;> simp -implicitDefEqProofs (maxDischargeDepth := 6)

def Foot.fwCalAbort : List Reg := []

@[simp] theorem fwCalAbort_rd (g : Nat) (m : FwMsg) (s : State) (reg : Reg) (rix : Nat) (hav : avoids Foot.fwCalAbort reg = true) :
    (fwCalAbort g m s).rd reg rix = s.rd reg rix := by
  have c0 : avoids Foot.setVisit reg = true := avoids_mono (by decide) hav
  have c1 : avoids Foot.dropVisit reg = true := avoids_mono (by decide) hav
  unfold fwCalAbort
  (repeat' split) <;> simp -implicitDefEqProofs (maxDischargeDepth := 6) [*]

@[simp] theorem fwLaneSwap_frame (g : Nat) (m : FwMsg) (s : State) :
    (fwLaneSwap g m s).env = s.env ∧ (fwLaneSwap g m s).jrn = s.jrn ∧ (fwLaneSwap g m s).err = s.err ∧
    (fwLaneSwap g m s).ports = s.ports ∧ (fwLaneSwap g m s).deck = s.deck ∧ (fwLaneSwap g m s).csn = s.csn ∧
    (fwLaneSwap g m s).host = s.host ∧ (fwLaneSwap g m s).fab = s.fab ∧ (fwLaneSwap g m s).eng = s.eng ∧
    (fwLaneSwap g m s).img = s.img ∧ (fwLaneSwap g m s).rcd = s.rcd ∧ (fwLaneSwap g m s).pmc = s.pmc ∧
    (fwLaneSwap g m s).abt = s.abt ∧ (fwLaneSwap g m s).mode = s.mode ∧ (fwLaneSwap g m s).key = s.key ∧
    (fwLaneSwap g m s).sb = s.sb ∧ (fwLaneSwap g m s).pending = s.pending := by
  unfold fwLaneSwap
  (repeat' split) <;> simp -implicitDefEqProofs (maxDischargeDepth := 6)

def Foot.fwLaneSwap : List Reg := [.SPN_FLSTAT]

@[simp] theorem fwLaneSwap_rd (g : Nat) (m : FwMsg) (s : State) (reg : Reg) (rix : Nat) (hav : avoids Foot.fwLaneSwap reg = true) :
    (fwLaneSwap g m s).rd reg rix = s.rd reg rix := by
  have c0 : avoids Foot.answerFw reg = true := avoids_mono (by decide) hav
  have c1 : avoids Foot.setVisit reg = true := avoids_mono (by decide) hav
  have c2 : avoids Foot.agreeTx reg = true := avoids_mono (by decide) hav
  have f0 : reg ≠ F.SPN_FLSTAT_TX_FAILED.reg := avoids_ne (by decide) hav
  unfold fwLaneSwap
  (repeat' split) <;> simp -implicitDefEqProofs (maxDischargeDepth := 6) [*]

@[simp] theorem fwLaneSwapAck_frame (g : Nat) (m : FwMsg) (s : State) :
    (fwLaneSwapAck g m s).env = s.env ∧ (fwLaneSwapAck g m s).jrn = s.jrn ∧ (fwLaneSwapAck g m s).err = s.err ∧
    (fwLaneSwapAck g m s).ports = s.ports ∧ (fwLaneSwapAck g m s).deck = s.deck ∧ (fwLaneSwapAck g m s).csn = s.csn ∧
    (fwLaneSwapAck g m s).host = s.host ∧ (fwLaneSwapAck g m s).fab = s.fab ∧ (fwLaneSwapAck g m s).eng = s.eng ∧
    (fwLaneSwapAck g m s).img = s.img ∧ (fwLaneSwapAck g m s).rcd = s.rcd ∧ (fwLaneSwapAck g m s).pmc = s.pmc ∧
    (fwLaneSwapAck g m s).abt = s.abt ∧ (fwLaneSwapAck g m s).mode = s.mode ∧ (fwLaneSwapAck g m s).key = s.key ∧
    (fwLaneSwapAck g m s).sb = s.sb ∧ (fwLaneSwapAck g m s).pending = s.pending := by
  unfold fwLaneSwapAck
  (repeat' split) <;> simp -implicitDefEqProofs (maxDischargeDepth := 6)

def Foot.fwLaneSwapAck : List Reg := []

@[simp] theorem fwLaneSwapAck_rd (g : Nat) (m : FwMsg) (s : State) (reg : Reg) (rix : Nat) (hav : avoids Foot.fwLaneSwapAck reg = true) :
    (fwLaneSwapAck g m s).rd reg rix = s.rd reg rix := by
  have c0 : avoids Foot.setFl reg = true := avoids_mono (by decide) hav
  have c1 : avoids Foot.answered reg = true := avoids_mono (by decide) hav
  unfold fwLaneSwapAck
  (repeat' split) <;> simp -implicitDefEqProofs (maxDischargeDepth := 6) [*]

@[simp] theorem fwWidthChg_frame (g : Nat) (m : FwMsg) (s : State) :
    (fwWidthChg g m s).img = s.img ∧ (fwWidthChg g m s).abt = s.abt ∧ (fwWidthChg g m s).mode = s.mode ∧
    (fwWidthChg g m s).sb = s.sb ∧ (fwWidthChg g m s).pending = s.pending := by
  unfold fwWidthChg
  (repeat' split) <;> simp -implicitDefEqProofs (maxDischargeDepth := 6)

def Foot.fwWidthChg : List Reg := [.CSN_POOL, .CSN_PSPILL, .CSN_STAT, .ENG_STAT, .GLB_DMASTAT, .GLB_SLOT, .GLB_VSSTAT, .JNL_CMDRES, .JNL_HEAD, .JNL_STAT, .JNL_TAIL, .KEY_NONCE, .KEY_SLOT, .KEY_SLOTHASH, .KEY_STAT, .PIR_BUFEXP, .PIR_BUFOCC, .PIR_CPLTRK, .PIR_ERRCNT2, .PIR_EXPMON, .PIR_FBPORT, .PIR_PFCNT, .PMC_BSTAT, .PMC_CNT, .PMC_STAT, .REC_PFSTAT, .REC_TRGCFG, .REC_TRGCNT, .SPN_CALSTAT, .SPN_COEF, .SPN_FLCNT, .SPN_FLSTAT, .SPN_LANE, .SPN_PSTAT]

@[simp] theorem fwWidthChg_rd (g : Nat) (m : FwMsg) (s : State) (reg : Reg) (rix : Nat) (hav : avoids Foot.fwWidthChg reg = true) :
    (fwWidthChg g m s).rd reg rix = s.rd reg rix := by
  have c0 : avoids Foot.setFl reg = true := avoids_mono (by decide) hav
  have c1 : avoids Foot.answerFw reg = true := avoids_mono (by decide) hav
  have c2 : avoids Foot.flDown reg = true := avoids_mono (by decide) hav
  have c3 : avoids Foot.narrowing reg = true := avoids_mono (by decide) hav
  have c4 : avoids Foot.askWidth reg = true := avoids_mono (by decide) hav
  have c5 : avoids Foot.agreeTx reg = true := avoids_mono (by decide) hav
  unfold fwWidthChg
  (repeat' split) <;> simp -implicitDefEqProofs (maxDischargeDepth := 6) [*]

@[simp] theorem fwWidthChgAck_frame (g : Nat) (m : FwMsg) (s : State) :
    (fwWidthChgAck g m s).env = s.env ∧ (fwWidthChgAck g m s).jrn = s.jrn ∧ (fwWidthChgAck g m s).err = s.err ∧
    (fwWidthChgAck g m s).ports = s.ports ∧ (fwWidthChgAck g m s).deck = s.deck ∧ (fwWidthChgAck g m s).csn = s.csn ∧
    (fwWidthChgAck g m s).host = s.host ∧ (fwWidthChgAck g m s).fab = s.fab ∧ (fwWidthChgAck g m s).eng = s.eng ∧
    (fwWidthChgAck g m s).img = s.img ∧ (fwWidthChgAck g m s).rcd = s.rcd ∧ (fwWidthChgAck g m s).pmc = s.pmc ∧
    (fwWidthChgAck g m s).abt = s.abt ∧ (fwWidthChgAck g m s).mode = s.mode ∧ (fwWidthChgAck g m s).key = s.key ∧
    (fwWidthChgAck g m s).sb = s.sb ∧ (fwWidthChgAck g m s).pending = s.pending := by
  unfold fwWidthChgAck
  (repeat' split) <;> simp -implicitDefEqProofs (maxDischargeDepth := 6)

def Foot.fwWidthChgAck : List Reg := []

@[simp] theorem fwWidthChgAck_rd (g : Nat) (m : FwMsg) (s : State) (reg : Reg) (rix : Nat) (hav : avoids Foot.fwWidthChgAck reg = true) :
    (fwWidthChgAck g m s).rd reg rix = s.rd reg rix := by
  have c0 : avoids Foot.setFl reg = true := avoids_mono (by decide) hav
  have c1 : avoids Foot.agreeTx reg = true := avoids_mono (by decide) hav
  unfold fwWidthChgAck
  (repeat' split) <;> simp -implicitDefEqProofs (maxDischargeDepth := 6) [*]

@[simp] theorem agreeRate_frame (g idx : Nat) (s : State) :
    (agreeRate g idx s).env = s.env ∧ (agreeRate g idx s).jrn = s.jrn ∧ (agreeRate g idx s).err = s.err ∧
    (agreeRate g idx s).ports = s.ports ∧ (agreeRate g idx s).deck = s.deck ∧ (agreeRate g idx s).csn = s.csn ∧
    (agreeRate g idx s).host = s.host ∧ (agreeRate g idx s).fab = s.fab ∧ (agreeRate g idx s).eng = s.eng ∧
    (agreeRate g idx s).img = s.img ∧ (agreeRate g idx s).rcd = s.rcd ∧ (agreeRate g idx s).pmc = s.pmc ∧
    (agreeRate g idx s).abt = s.abt ∧ (agreeRate g idx s).mode = s.mode ∧ (agreeRate g idx s).key = s.key ∧
    (agreeRate g idx s).sb = s.sb ∧ (agreeRate g idx s).pending = s.pending := by
  unfold agreeRate
  (repeat' split) <;> simp -implicitDefEqProofs (maxDischargeDepth := 6)

def Foot.agreeRate : List Reg := []

@[simp] theorem agreeRate_rd (g idx : Nat) (s : State) (reg : Reg) (rix : Nat) (hav : avoids Foot.agreeRate reg = true) :
    (agreeRate g idx s).rd reg rix = s.rd reg rix := by
  have c0 : avoids Foot.setFl reg = true := avoids_mono (by decide) hav
  unfold agreeRate
  (repeat' split) <;> simp -implicitDefEqProofs (maxDischargeDepth := 6) [*]

@[simp] theorem fwRateChg_frame (g : Nat) (m : FwMsg) (s : State) :
    (fwRateChg g m s).env = s.env ∧ (fwRateChg g m s).jrn = s.jrn ∧ (fwRateChg g m s).err = s.err ∧
    (fwRateChg g m s).ports = s.ports ∧ (fwRateChg g m s).deck = s.deck ∧ (fwRateChg g m s).csn = s.csn ∧
    (fwRateChg g m s).host = s.host ∧ (fwRateChg g m s).fab = s.fab ∧ (fwRateChg g m s).eng = s.eng ∧
    (fwRateChg g m s).img = s.img ∧ (fwRateChg g m s).rcd = s.rcd ∧ (fwRateChg g m s).pmc = s.pmc ∧
    (fwRateChg g m s).abt = s.abt ∧ (fwRateChg g m s).mode = s.mode ∧ (fwRateChg g m s).key = s.key ∧
    (fwRateChg g m s).sb = s.sb ∧ (fwRateChg g m s).pending = s.pending := by
  unfold fwRateChg
  (repeat' split) <;> simp -implicitDefEqProofs (maxDischargeDepth := 6)

def Foot.fwRateChg : List Reg := [.SPN_CALSTAT, .SPN_COEF, .SPN_FLSTAT, .SPN_LANE, .SPN_PSTAT]

@[simp] theorem fwRateChg_rd (g : Nat) (m : FwMsg) (s : State) (reg : Reg) (rix : Nat) (hav : avoids Foot.fwRateChg reg = true) :
    (fwRateChg g m s).rd reg rix = s.rd reg rix := by
  have c0 : avoids Foot.setFl reg = true := avoids_mono (by decide) hav
  have c1 : avoids Foot.answerFw reg = true := avoids_mono (by decide) hav
  have c2 : avoids Foot.flAbandon reg = true := avoids_mono (by decide) hav
  have c3 : avoids Foot.agreeRate reg = true := avoids_mono (by decide) hav
  have f0 : reg ≠ F.SPN_FLSTAT_STATE.reg := avoids_ne (by decide) hav
  have f1 : reg ≠ F.SPN_PSTAT_LTSSM.reg := avoids_ne (by decide) hav
  unfold fwRateChg
  (repeat' split) <;> simp -implicitDefEqProofs (maxDischargeDepth := 6) [*]

@[simp] theorem fwRateChgAck_frame (g : Nat) (m : FwMsg) (s : State) :
    (fwRateChgAck g m s).env = s.env ∧ (fwRateChgAck g m s).jrn = s.jrn ∧ (fwRateChgAck g m s).err = s.err ∧
    (fwRateChgAck g m s).ports = s.ports ∧ (fwRateChgAck g m s).deck = s.deck ∧ (fwRateChgAck g m s).csn = s.csn ∧
    (fwRateChgAck g m s).host = s.host ∧ (fwRateChgAck g m s).fab = s.fab ∧ (fwRateChgAck g m s).eng = s.eng ∧
    (fwRateChgAck g m s).img = s.img ∧ (fwRateChgAck g m s).rcd = s.rcd ∧ (fwRateChgAck g m s).pmc = s.pmc ∧
    (fwRateChgAck g m s).abt = s.abt ∧ (fwRateChgAck g m s).mode = s.mode ∧ (fwRateChgAck g m s).key = s.key ∧
    (fwRateChgAck g m s).sb = s.sb ∧ (fwRateChgAck g m s).pending = s.pending := by
  unfold fwRateChgAck
  (repeat' split) <;> simp -implicitDefEqProofs (maxDischargeDepth := 6)

def Foot.fwRateChgAck : List Reg := []

@[simp] theorem fwRateChgAck_rd (g : Nat) (m : FwMsg) (s : State) (reg : Reg) (rix : Nat) (hav : avoids Foot.fwRateChgAck reg = true) :
    (fwRateChgAck g m s).rd reg rix = s.rd reg rix := by
  have c0 : avoids Foot.setFl reg = true := avoids_mono (by decide) hav
  have c1 : avoids Foot.agreeRate reg = true := avoids_mono (by decide) hav
  unfold fwRateChgAck
  (repeat' split) <;> simp -implicitDefEqProofs (maxDischargeDepth := 6) [*]

@[simp] theorem fwEngine_frame (g : Nat) (m : FwMsg) (s : State) :
    (fwEngine g m s).env = s.env ∧ (fwEngine g m s).jrn = s.jrn ∧ (fwEngine g m s).err = s.err ∧
    (fwEngine g m s).ports = s.ports ∧ (fwEngine g m s).deck = s.deck ∧ (fwEngine g m s).csn = s.csn ∧
    (fwEngine g m s).fl = s.fl ∧ (fwEngine g m s).host = s.host ∧ (fwEngine g m s).fab = s.fab ∧
    (fwEngine g m s).img = s.img ∧ (fwEngine g m s).rcd = s.rcd ∧ (fwEngine g m s).pmc = s.pmc ∧
    (fwEngine g m s).abt = s.abt ∧ (fwEngine g m s).mode = s.mode ∧ (fwEngine g m s).key = s.key ∧
    (fwEngine g m s).sb = s.sb ∧ (fwEngine g m s).pending = s.pending := by
  unfold fwEngine
  (repeat' split) <;> simp -implicitDefEqProofs (maxDischargeDepth := 6)

def Foot.fwEngine : List Reg := [.ENG_STAT]

@[simp] theorem fwEngine_rd (g : Nat) (m : FwMsg) (s : State) (reg : Reg) (rix : Nat) (hav : avoids Foot.fwEngine reg = true) :
    (fwEngine g m s).rd reg rix = s.rd reg rix := by
  have c0 : avoids Foot.offerKind reg = true := avoids_mono (by decide) hav
  unfold fwEngine
  (repeat' split) <;> simp -implicitDefEqProofs (maxDischargeDepth := 6) [*]

@[simp] theorem fwAct_frame (g : Nat) (m : FwMsg) (s : State) :
    (fwAct g m s).img = s.img ∧ (fwAct g m s).abt = s.abt ∧ (fwAct g m s).mode = s.mode ∧ (fwAct g m s).sb = s.sb ∧
    (fwAct g m s).pending = s.pending := by
  unfold fwAct
  (repeat' split) <;> simp -implicitDefEqProofs (maxDischargeDepth := 6)

def Foot.fwAct : List Reg := [.CSN_POOL, .CSN_PSPILL, .CSN_STAT, .ENG_STAT, .GLB_DMASTAT, .GLB_SLOT, .GLB_VSSTAT, .JNL_CMDRES, .JNL_HEAD, .JNL_STAT, .JNL_TAIL, .KEY_NONCE, .KEY_SLOT, .KEY_SLOTHASH, .KEY_STAT, .PIR_BUFEXP, .PIR_BUFOCC, .PIR_CPLTRK, .PIR_ERRCNT2, .PIR_EXPMON, .PIR_FBPORT, .PIR_PFCNT, .PMC_BSTAT, .PMC_CNT, .PMC_STAT, .REC_PFSTAT, .REC_TRGCFG, .REC_TRGCNT, .SPN_CALSTAT, .SPN_COEF, .SPN_FLCNT, .SPN_FLSEQ, .SPN_FLSEQRX, .SPN_FLSTAT, .SPN_FLVC, .SPN_LANE, .SPN_PSTAT]

@[simp] theorem fwAct_rd (g : Nat) (m : FwMsg) (s : State) (reg : Reg) (rix : Nat) (hav : avoids Foot.fwAct reg = true) :
    (fwAct g m s).rd reg rix = s.rd reg rix := by
  have c0 : avoids Foot.fwLinkParam reg = true := avoids_mono (by decide) hav
  have c1 : avoids Foot.fwLinkParamAck reg = true := avoids_mono (by decide) hav
  have c2 : avoids Foot.fwCalReq reg = true := avoids_mono (by decide) hav
  have c3 : avoids Foot.fwCalAck reg = true := avoids_mono (by decide) hav
  have c4 : avoids Foot.agreeTx reg = true := avoids_mono (by decide) hav
  have c5 : avoids Foot.fwCalAbort reg = true := avoids_mono (by decide) hav
  have c6 : avoids Foot.fwLaneSwap reg = true := avoids_mono (by decide) hav
  have c7 : avoids Foot.fwLaneSwapAck reg = true := avoids_mono (by decide) hav
  have c8 : avoids Foot.fwWidthChg reg = true := avoids_mono (by decide) hav
  have c9 : avoids Foot.fwWidthChgAck reg = true := avoids_mono (by decide) hav
  have c10 : avoids Foot.fwRateChg reg = true := avoids_mono (by decide) hav
  have c11 : avoids Foot.fwRateChgAck reg = true := avoids_mono (by decide) hav
  have c12 : avoids Foot.fwEngine reg = true := avoids_mono (by decide) hav
  unfold fwAct
  (repeat' split) <;> simp -implicitDefEqProofs (maxDischargeDepth := 6) [*]

@[simp] theorem fwReceive_frame (g : Nat) (m : FwMsg) (s : State) :
    (fwReceive g m s).img = s.img ∧ (fwReceive g m s).abt = s.abt ∧ (fwReceive g m s).mode = s.mode ∧
    (fwReceive g m s).sb = s.sb ∧ (fwReceive g m s).pending = s.pending := by
  unfold fwReceive
  (repeat' split) <;> (try simp -implicitDefEqProofs (maxDischargeDepth := 6)) <;> (repeat' split) <;> simp -implicitDefEqProofs (maxDischargeDepth := 6)

def Foot.fwReceive : List Reg := [.CSN_POOL, .CSN_PSPILL, .CSN_STAT, .ENG_STAT, .GLB_DMASTAT, .GLB_SLOT, .GLB_VSSTAT, .JNL_CMDRES, .JNL_HEAD, .JNL_STAT, .JNL_TAIL, .KEY_NONCE, .KEY_SLOT, .KEY_SLOTHASH, .KEY_STAT, .PIR_BUFEXP, .PIR_BUFOCC, .PIR_CPLTRK, .PIR_ERRCNT2, .PIR_EXPMON, .PIR_FBPORT, .PIR_PFCNT, .PMC_BSTAT, .PMC_CNT, .PMC_STAT, .REC_PFSTAT, .REC_TRGCFG, .REC_TRGCNT, .SPN_CALSTAT, .SPN_COEF, .SPN_FLCNT, .SPN_FLSEQ, .SPN_FLSEQRX, .SPN_FLSTAT, .SPN_FLVC, .SPN_LANE, .SPN_PSTAT]

@[simp] theorem fwReceive_rd (g : Nat) (m : FwMsg) (s : State) (reg : Reg) (rix : Nat) (hav : avoids Foot.fwReceive reg = true) :
    (fwReceive g m s).rd reg rix = s.rd reg rix := by
  have c0 : avoids Foot.setFl reg = true := avoids_mono (by decide) hav
  have c1 : avoids Foot.fwAct reg = true := avoids_mono (by decide) hav
  unfold fwReceive
  (repeat' split) <;> (try simp -implicitDefEqProofs (maxDischargeDepth := 6) [*]) <;> (repeat' split) <;> simp -implicitDefEqProofs (maxDischargeDepth := 6) [*]

@[simp] theorem fwArrive_frame (g ty : Nat) (m : FwMsg) (s : State) :
    (fwArrive g ty m s).img = s.img ∧ (fwArrive g ty m s).abt = s.abt ∧ (fwArrive g ty m s).mode = s.mode ∧
    (fwArrive g ty m s).sb = s.sb ∧ (fwArrive g ty m s).pending = s.pending := by
  unfold fwArrive
  (repeat' split) <;> simp -implicitDefEqProofs (maxDischargeDepth := 6)

def Foot.fwArrive : List Reg := [.CSN_POOL, .CSN_PSPILL, .CSN_STAT, .ENG_STAT, .GLB_DMASTAT, .GLB_SLOT, .GLB_VSSTAT, .JNL_CMDRES, .JNL_HEAD, .JNL_STAT, .JNL_TAIL, .KEY_NONCE, .KEY_SLOT, .KEY_SLOTHASH, .KEY_STAT, .PIR_BUFEXP, .PIR_BUFOCC, .PIR_CPLTRK, .PIR_ERRCNT2, .PIR_EXPMON, .PIR_FBPORT, .PIR_PFCNT, .PMC_BSTAT, .PMC_CNT, .PMC_STAT, .REC_PFSTAT, .REC_TRGCFG, .REC_TRGCNT, .SPN_CALSTAT, .SPN_COEF, .SPN_FLCNT, .SPN_FLSEQ, .SPN_FLSEQRX, .SPN_FLSTAT, .SPN_FLVC, .SPN_LANE, .SPN_PSTAT]

@[simp] theorem fwArrive_rd (g ty : Nat) (m : FwMsg) (s : State) (reg : Reg) (rix : Nat) (hav : avoids Foot.fwArrive reg = true) :
    (fwArrive g ty m s).rd reg rix = s.rd reg rix := by
  have c0 : avoids Foot.fwReceive reg = true := avoids_mono (by decide) hav
  unfold fwArrive
  (repeat' split) <;> simp -implicitDefEqProofs (maxDischargeDepth := 6) [*]

@[simp] theorem fwFailed_frame (g : Nat) (r : FwReq) (s : State) :
    (fwFailed g r s).img = s.img ∧ (fwFailed g r s).abt = s.abt ∧ (fwFailed g r s).mode = s.mode ∧
    (fwFailed g r s).sb = s.sb ∧ (fwFailed g r s).pending = s.pending := by
  unfold fwFailed
  (repeat' split) <;> simp -implicitDefEqProofs (maxDischargeDepth := 6)

def Foot.fwFailed : List Reg := [.CSN_POOL, .CSN_PSPILL, .CSN_STAT, .ENG_STAT, .GLB_DMASTAT, .GLB_SLOT, .GLB_VSSTAT, .JNL_CMDRES, .JNL_HEAD, .JNL_STAT, .JNL_TAIL, .KEY_NONCE, .KEY_SLOT, .KEY_SLOTHASH, .KEY_STAT, .PIR_BUFEXP, .PIR_BUFOCC, .PIR_CPLTRK, .PIR_ERRCNT2, .PIR_EXPMON, .PIR_FBPORT, .PIR_PFCNT, .PMC_BSTAT, .PMC_CNT, .PMC_STAT, .REC_PFSTAT, .REC_TRGCFG, .REC_TRGCNT, .SPN_CALSTAT, .SPN_COEF, .SPN_FLCNT, .SPN_FLSTAT, .SPN_LANE, .SPN_PSTAT]

@[simp] theorem fwFailed_rd (g : Nat) (r : FwReq) (s : State) (reg : Reg) (rix : Nat) (hav : avoids Foot.fwFailed reg = true) :
    (fwFailed g r s).rd reg rix = s.rd reg rix := by
  have c0 : avoids Foot.setFl reg = true := avoids_mono (by decide) hav
  have c1 : avoids Foot.flDown reg = true := avoids_mono (by decide) hav
  have c2 : avoids Foot.flAbandon reg = true := avoids_mono (by decide) hav
  have c3 : avoids Foot.narrow reg = true := avoids_mono (by decide) hav
  have f0 : reg ≠ F.SPN_FLSTAT_STATE.reg := avoids_ne (by decide) hav
  unfold fwFailed
  (repeat' split) <;> simp -implicitDefEqProofs (maxDischargeDepth := 6) [*]

@[simp] theorem fwAgain_frame (g : Nat) (r : FwReq) (s : State) :
    (fwAgain g r s).env = s.env ∧ (fwAgain g r s).jrn = s.jrn ∧ (fwAgain g r s).err = s.err ∧
    (fwAgain g r s).ports = s.ports ∧ (fwAgain g r s).deck = s.deck ∧ (fwAgain g r s).csn = s.csn ∧
    (fwAgain g r s).host = s.host ∧ (fwAgain g r s).fab = s.fab ∧ (fwAgain g r s).eng = s.eng ∧
    (fwAgain g r s).img = s.img ∧ (fwAgain g r s).rcd = s.rcd ∧ (fwAgain g r s).pmc = s.pmc ∧ (fwAgain g r s).abt = s.abt ∧
    (fwAgain g r s).mode = s.mode ∧ (fwAgain g r s).key = s.key ∧ (fwAgain g r s).sb = s.sb ∧
    (fwAgain g r s).pending = s.pending := by
  unfold fwAgain
  (repeat' split) <;> simp -implicitDefEqProofs (maxDischargeDepth := 6)

def Foot.fwAgain : List Reg := []

@[simp] theorem fwAgain_rd (g : Nat) (r : FwReq) (s : State) (reg : Reg) (rix : Nat) (hav : avoids Foot.fwAgain reg = true) :
    (fwAgain g r s).rd reg rix = s.rd reg rix := by
  have c0 : avoids Foot.setFl reg = true := avoids_mono (by decide) hav
  unfold fwAgain
  (repeat' split) <;> simp -implicitDefEqProofs (maxDischargeDepth := 6) [*]

@[simp] theorem agreedNow_frame (g : Nat) (a : Agreed) (s : State) :
    (agreedNow g a s).img = s.img ∧ (agreedNow g a s).abt = s.abt ∧ (agreedNow g a s).mode = s.mode ∧
    (agreedNow g a s).sb = s.sb ∧ (agreedNow g a s).pending = s.pending := by
  unfold agreedNow
  (repeat' split) <;> (try simp -implicitDefEqProofs (maxDischargeDepth := 6)) <;> (repeat' split) <;> simp -implicitDefEqProofs (maxDischargeDepth := 6)

def Foot.agreedNow : List Reg := [.CSN_POOL, .CSN_PSPILL, .CSN_STAT, .ENG_STAT, .GLB_DMASTAT, .GLB_SLOT, .GLB_VSSTAT, .JNL_CMDRES, .JNL_HEAD, .JNL_STAT, .JNL_TAIL, .KEY_NONCE, .KEY_SLOT, .KEY_SLOTHASH, .KEY_STAT, .PIR_BUFEXP, .PIR_BUFOCC, .PIR_CPLTRK, .PIR_ERRCNT2, .PIR_EXPMON, .PIR_FBPORT, .PIR_PFCNT, .PMC_BSTAT, .PMC_CNT, .PMC_STAT, .REC_PFSTAT, .REC_TRGCFG, .REC_TRGCNT, .SPN_CALSTAT, .SPN_COEF, .SPN_FLCNT, .SPN_FLSTAT, .SPN_LANE, .SPN_PSTAT]

@[simp] theorem agreedNow_rd (g : Nat) (a : Agreed) (s : State) (reg : Reg) (rix : Nat) (hav : avoids Foot.agreedNow reg = true) :
    (agreedNow g a s).rd reg rix = s.rd reg rix := by
  have c0 : avoids Foot.pushRec reg = true := avoids_mono (by decide) hav
  have c1 : avoids Foot.laneEvent reg = true := avoids_mono (by decide) hav
  have c2 : avoids Foot.setFl reg = true := avoids_mono (by decide) hav
  have c3 : avoids Foot.setRole reg = true := avoids_mono (by decide) hav
  have c4 : avoids Foot.setSpare reg = true := avoids_mono (by decide) hav
  have c5 : avoids Foot.takeRxMap reg = true := avoids_mono (by decide) hav
  have c6 : avoids Foot.setVisit reg = true := avoids_mono (by decide) hav
  have c7 : avoids Foot.dropVisit reg = true := avoids_mono (by decide) hav
  have c8 : avoids Foot.laneSwapStart reg = true := avoids_mono (by decide) hav
  have c9 : avoids Foot.narrowDone reg = true := avoids_mono (by decide) hav
  have c10 : avoids Foot.rateReached reg = true := avoids_mono (by decide) hav
  have c11 : avoids Foot.agreeTx reg = true := avoids_mono (by decide) hav
  have f0 : reg ≠ F.SPN_CALSTAT_PHASE.reg := avoids_ne (by decide) hav
  have f1 : reg ≠ F.SPN_CALSTAT_VISITS.reg := avoids_ne (by decide) hav
  unfold agreedNow
  (repeat' split) <;> (try simp -implicitDefEqProofs (maxDischargeDepth := 6) [*]) <;> (repeat' split) <;> simp -implicitDefEqProofs (maxDischargeDepth := 6) [*]

@[simp] theorem trainLane_frame (sp l : Nat) (bad inv : Bool) (s : State) :
    (trainLane sp l bad inv s).env = s.env ∧ (trainLane sp l bad inv s).jrn = s.jrn ∧
    (trainLane sp l bad inv s).err = s.err ∧ (trainLane sp l bad inv s).ports = s.ports ∧
    (trainLane sp l bad inv s).deck = s.deck ∧ (trainLane sp l bad inv s).csn = s.csn ∧
    (trainLane sp l bad inv s).fl = s.fl ∧ (trainLane sp l bad inv s).host = s.host ∧
    (trainLane sp l bad inv s).fab = s.fab ∧ (trainLane sp l bad inv s).eng = s.eng ∧
    (trainLane sp l bad inv s).img = s.img ∧ (trainLane sp l bad inv s).rcd = s.rcd ∧
    (trainLane sp l bad inv s).pmc = s.pmc ∧ (trainLane sp l bad inv s).abt = s.abt ∧
    (trainLane sp l bad inv s).mode = s.mode ∧ (trainLane sp l bad inv s).key = s.key ∧
    (trainLane sp l bad inv s).sb = s.sb ∧ (trainLane sp l bad inv s).pending = s.pending := by
  unfold trainLane
  (repeat' split) <;> simp -implicitDefEqProofs (maxDischargeDepth := 6)

def Foot.trainLane : List Reg := [.SPN_LANE]

@[simp] theorem trainLane_rd (sp l : Nat) (bad inv : Bool) (s : State) (reg : Reg) (rix : Nat) (hav : avoids Foot.trainLane reg = true) :
    (trainLane sp l bad inv s).rd reg rix = s.rd reg rix := by
  have c0 : avoids Foot.setRole reg = true := avoids_mono (by decide) hav
  have c1 : avoids Foot.setSpare reg = true := avoids_mono (by decide) hav
  have f0 : reg ≠ F.SPN_LANE_LOCK.reg := avoids_ne (by decide) hav
  have f1 : reg ≠ F.SPN_LANE_POLINV.reg := avoids_ne (by decide) hav
  unfold trainLane
  (repeat' split) <;> simp -implicitDefEqProofs (maxDischargeDepth := 6) [*]

@[simp] theorem trainSpan_frame (g : Nat) (bad pol : List (SpanId × LaneId)) (sp : Nat) (s : State) :
    (trainSpan g bad pol sp s).env = s.env ∧ (trainSpan g bad pol sp s).jrn = s.jrn ∧
    (trainSpan g bad pol sp s).err = s.err ∧ (trainSpan g bad pol sp s).ports = s.ports ∧
    (trainSpan g bad pol sp s).deck = s.deck ∧ (trainSpan g bad pol sp s).csn = s.csn ∧
    (trainSpan g bad pol sp s).fl = s.fl ∧ (trainSpan g bad pol sp s).host = s.host ∧
    (trainSpan g bad pol sp s).fab = s.fab ∧ (trainSpan g bad pol sp s).eng = s.eng ∧
    (trainSpan g bad pol sp s).img = s.img ∧ (trainSpan g bad pol sp s).rcd = s.rcd ∧
    (trainSpan g bad pol sp s).pmc = s.pmc ∧ (trainSpan g bad pol sp s).abt = s.abt ∧
    (trainSpan g bad pol sp s).mode = s.mode ∧ (trainSpan g bad pol sp s).key = s.key ∧
    (trainSpan g bad pol sp s).sb = s.sb ∧ (trainSpan g bad pol sp s).pending = s.pending := by
  unfold trainSpan
  (repeat' split) <;> (try simp -implicitDefEqProofs (maxDischargeDepth := 6)) <;> (repeat' split) <;> simp -implicitDefEqProofs (maxDischargeDepth := 6)

def Foot.trainSpan : List Reg := [.SPN_FLSTAT, .SPN_LANE]

@[simp] theorem trainSpan_rd (g : Nat) (bad pol : List (SpanId × LaneId)) (sp : Nat) (s : State) (reg : Reg) (rix : Nat) (hav : avoids Foot.trainSpan reg = true) :
    (trainSpan g bad pol sp s).rd reg rix = s.rd reg rix := by
  have c0 : avoids Foot.setSpare reg = true := avoids_mono (by decide) hav
  have c1 : avoids Foot.trainLane reg = true := avoids_mono (by decide) hav
  have f0 : reg ≠ F.SPN_FLSTAT_RX_FAILED.reg := avoids_ne (by decide) hav
  have f1 : reg ≠ F.SPN_FLSTAT_SPARE_FAIL.reg := avoids_ne (by decide) hav
  have f2 : reg ≠ F.SPN_FLSTAT_TX_FAILED.reg := avoids_ne (by decide) hav
  unfold trainSpan
  (repeat' split) <;> (try simp -implicitDefEqProofs (maxDischargeDepth := 6) [*]) <;> (repeat' split) <;> simp -implicitDefEqProofs (maxDischargeDepth := 6) [*]

@[simp] theorem trainSpans_frame (g : Nat) (bad pol : List (SpanId × LaneId)) (s : State) :
    (trainSpans g bad pol s).env = s.env ∧ (trainSpans g bad pol s).jrn = s.jrn ∧ (trainSpans g bad pol s).err = s.err ∧
    (trainSpans g bad pol s).ports = s.ports ∧ (trainSpans g bad pol s).deck = s.deck ∧
    (trainSpans g bad pol s).csn = s.csn ∧ (trainSpans g bad pol s).fl = s.fl ∧ (trainSpans g bad pol s).host = s.host ∧
    (trainSpans g bad pol s).fab = s.fab ∧ (trainSpans g bad pol s).eng = s.eng ∧ (trainSpans g bad pol s).img = s.img ∧
    (trainSpans g bad pol s).rcd = s.rcd ∧ (trainSpans g bad pol s).pmc = s.pmc ∧ (trainSpans g bad pol s).abt = s.abt ∧
    (trainSpans g bad pol s).mode = s.mode ∧ (trainSpans g bad pol s).key = s.key ∧ (trainSpans g bad pol s).sb = s.sb ∧
    (trainSpans g bad pol s).pending = s.pending := by
  unfold trainSpans
  (repeat' split) <;> simp -implicitDefEqProofs (maxDischargeDepth := 6)

def Foot.trainSpans : List Reg := [.SPN_FLSTAT, .SPN_LANE]

@[simp] theorem trainSpans_rd (g : Nat) (bad pol : List (SpanId × LaneId)) (s : State) (reg : Reg) (rix : Nat) (hav : avoids Foot.trainSpans reg = true) :
    (trainSpans g bad pol s).rd reg rix = s.rd reg rix := by
  have c0 : avoids Foot.trainSpan reg = true := avoids_mono (by decide) hav
  have f0 : reg ≠ F.SPN_FLSTAT_SPARE_FAIL.reg := avoids_ne (by decide) hav
  unfold trainSpans
  (repeat' split) <;> simp -implicitDefEqProofs (maxDischargeDepth := 6) [*]

@[simp] theorem rateDone_frame (g : Nat) (s : State) :
    (rateDone g s).img = s.img ∧ (rateDone g s).abt = s.abt ∧ (rateDone g s).mode = s.mode ∧ (rateDone g s).sb = s.sb ∧
    (rateDone g s).pending = s.pending := by
  unfold rateDone
  (repeat' split) <;> simp -implicitDefEqProofs (maxDischargeDepth := 6)

def Foot.rateDone : List Reg := [.CSN_POOL, .CSN_PSPILL, .CSN_STAT, .ENG_STAT, .GLB_DMASTAT, .GLB_SLOT, .GLB_VSSTAT, .JNL_CMDRES, .JNL_HEAD, .JNL_STAT, .JNL_TAIL, .KEY_NONCE, .KEY_SLOT, .KEY_SLOTHASH, .KEY_STAT, .PIR_BUFEXP, .PIR_BUFOCC, .PIR_CPLTRK, .PIR_ERRCNT2, .PIR_EXPMON, .PIR_FBPORT, .PIR_PFCNT, .PMC_BSTAT, .PMC_CNT, .PMC_STAT, .REC_PFSTAT, .REC_TRGCFG, .REC_TRGCNT, .SPN_CALSTAT, .SPN_COEF, .SPN_FLCNT, .SPN_FLSTAT, .SPN_LANE, .SPN_PSTAT]

@[simp] theorem rateDone_rd (g : Nat) (s : State) (reg : Reg) (rix : Nat) (hav : avoids Foot.rateDone reg = true) :
    (rateDone g s).rd reg rix = s.rd reg rix := by
  have c0 : avoids Foot.setFl reg = true := avoids_mono (by decide) hav
  have c1 : avoids Foot.linkNote reg = true := avoids_mono (by decide) hav
  have c2 : avoids Foot.flResume reg = true := avoids_mono (by decide) hav
  unfold rateDone
  (repeat' split) <;> simp -implicitDefEqProofs (maxDischargeDepth := 6) [*]

@[simp] theorem flRetrain_frame (g : Nat) (s : State) :
    (flRetrain g s).img = s.img ∧ (flRetrain g s).abt = s.abt ∧ (flRetrain g s).mode = s.mode ∧ (flRetrain g s).sb = s.sb ∧
    (flRetrain g s).pending = s.pending := by
  unfold flRetrain
  (repeat' split) <;> simp -implicitDefEqProofs (maxDischargeDepth := 6)

def Foot.flRetrain : List Reg := [.CSN_POOL, .CSN_PSPILL, .CSN_STAT, .ENG_STAT, .GLB_DMASTAT, .GLB_SLOT, .GLB_VSSTAT, .JNL_CMDRES, .JNL_HEAD, .JNL_STAT, .JNL_TAIL, .KEY_NONCE, .KEY_SLOT, .KEY_SLOTHASH, .KEY_STAT, .PIR_BUFEXP, .PIR_BUFOCC, .PIR_CPLTRK, .PIR_ERRCNT2, .PIR_EXPMON, .PIR_FBPORT, .PIR_PFCNT, .PMC_BSTAT, .PMC_CNT, .PMC_STAT, .REC_PFSTAT, .REC_TRGCFG, .REC_TRGCNT, .SPN_CALSTAT, .SPN_COEF, .SPN_FLCNT, .SPN_FLSTAT, .SPN_PSTAT]

@[simp] theorem flRetrain_rd (g : Nat) (s : State) (reg : Reg) (rix : Nat) (hav : avoids Foot.flRetrain reg = true) :
    (flRetrain g s).rd reg rix = s.rd reg rix := by
  have c0 : avoids Foot.flDown reg = true := avoids_mono (by decide) hav
  have f0 : reg ≠ F.SPN_FLSTAT_STATE.reg := avoids_ne (by decide) hav
  unfold flRetrain
  (repeat' split) <;> simp -implicitDefEqProofs (maxDischargeDepth := 6) [*]

@[simp] theorem advanceArx_frame (g : Nat) (s : State) :
    (advanceArx g s).env = s.env ∧ (advanceArx g s).jrn = s.jrn ∧ (advanceArx g s).err = s.err ∧
    (advanceArx g s).ports = s.ports ∧ (advanceArx g s).deck = s.deck ∧ (advanceArx g s).csn = s.csn ∧
    (advanceArx g s).host = s.host ∧ (advanceArx g s).fab = s.fab ∧ (advanceArx g s).eng = s.eng ∧
    (advanceArx g s).img = s.img ∧ (advanceArx g s).rcd = s.rcd ∧ (advanceArx g s).pmc = s.pmc ∧
    (advanceArx g s).abt = s.abt ∧ (advanceArx g s).mode = s.mode ∧ (advanceArx g s).key = s.key ∧
    (advanceArx g s).sb = s.sb ∧ (advanceArx g s).pending = s.pending := by
  unfold advanceArx
  (repeat' split) <;> simp -implicitDefEqProofs (maxDischargeDepth := 6)

def Foot.advanceArx : List Reg := [.SPN_FLSEQRX]

@[simp] theorem advanceArx_rd (g : Nat) (s : State) (reg : Reg) (rix : Nat) (hav : avoids Foot.advanceArx reg = true) :
    (advanceArx g s).rd reg rix = s.rd reg rix := by
  have c0 : avoids Foot.setFl reg = true := avoids_mono (by decide) hav
  have f0 : reg ≠ F.SPN_FLSEQRX_RX_ACK.reg := avoids_ne (by decide) hav
  unfold advanceArx
  (repeat' split) <;> simp -implicitDefEqProofs (maxDischargeDepth := 6) [*]

@[simp] theorem flBegin_frame (g t i : Nat) (e : QEnt) (s : State) :
    (flBegin g t i e s).jrn = s.jrn ∧ (flBegin g t i e s).csn = s.csn ∧ (flBegin g t i e s).fab = s.fab ∧
    (flBegin g t i e s).img = s.img ∧ (flBegin g t i e s).abt = s.abt ∧ (flBegin g t i e s).mode = s.mode ∧
    (flBegin g t i e s).key = s.key ∧ (flBegin g t i e s).sb = s.sb ∧ (flBegin g t i e s).pending = s.pending := by
  unfold flBegin
  (repeat' split) <;> simp -implicitDefEqProofs (maxDischargeDepth := 6)

def Foot.flBegin : List Reg := [.ENG_STAT, .PIR_BUFEXP, .PIR_BUFOCC, .PIR_CPLTRK, .PIR_ERRCNT2, .PIR_EXPMON, .PIR_FBPORT, .PMC_BSTAT, .PMC_CNT, .PMC_STAT, .REC_TRGCFG, .REC_TRGCNT, .SPN_FLVC]

@[simp] theorem flBegin_rd (g t i : Nat) (e : QEnt) (s : State) (reg : Reg) (rix : Nat) (hav : avoids Foot.flBegin reg = true) :
    (flBegin g t i e s).rd reg rix = s.rd reg rix := by
  have c0 : avoids Foot.setEgressQ reg = true := avoids_mono (by decide) hav
  have c1 : avoids Foot.releaseEgress reg = true := avoids_mono (by decide) hav
  have c2 : avoids Foot.chargeEgress reg = true := avoids_mono (by decide) hav
  have c3 : avoids Foot.count reg = true := avoids_mono (by decide) hav
  have c4 : avoids Foot.setFl reg = true := avoids_mono (by decide) hav
  have f0 : reg ≠ F.SPN_FLVC_TX_AVAIL.reg := avoids_ne (by decide) hav
  unfold flBegin
  (repeat' split) <;> simp -implicitDefEqProofs (maxDischargeDepth := 6) [*]

@[simp] theorem flPick_frame (g : Nat) (x : Option (Nat × Nat × QEnt)) (s : State) :
    ((flPick g x s)).1.jrn = s.jrn ∧ ((flPick g x s)).1.csn = s.csn ∧ ((flPick g x s)).1.fab = s.fab ∧
    ((flPick g x s)).1.img = s.img ∧ ((flPick g x s)).1.abt = s.abt ∧ ((flPick g x s)).1.mode = s.mode ∧
    ((flPick g x s)).1.key = s.key ∧ ((flPick g x s)).1.sb = s.sb ∧ ((flPick g x s)).1.pending = s.pending := by
  unfold flPick
  (repeat' split) <;> simp -implicitDefEqProofs (maxDischargeDepth := 6)

def Foot.flPick : List Reg := [.ENG_STAT, .PIR_BUFEXP, .PIR_BUFOCC, .PIR_CPLTRK, .PIR_ERRCNT2, .PIR_EXPMON, .PIR_FBPORT, .PMC_BSTAT, .PMC_CNT, .PMC_STAT, .REC_TRGCFG, .REC_TRGCNT, .SPN_FLVC]

@[simp] theorem flPick_rd (g : Nat) (x : Option (Nat × Nat × QEnt)) (s : State) (reg : Reg) (rix : Nat) (hav : avoids Foot.flPick reg = true) :
    ((flPick g x s)).1.rd reg rix = s.rd reg rix := by
  have c0 : avoids Foot.flBegin reg = true := avoids_mono (by decide) hav
  unfold flPick
  (repeat' split) <;> simp -implicitDefEqProofs (maxDischargeDepth := 6) [*]

@[simp] theorem flChoose_frame (g : Nat) (s : State) :
    ((flChoose g s)).1.jrn = s.jrn ∧ ((flChoose g s)).1.csn = s.csn ∧ ((flChoose g s)).1.fab = s.fab ∧
    ((flChoose g s)).1.img = s.img ∧ ((flChoose g s)).1.abt = s.abt ∧ ((flChoose g s)).1.mode = s.mode ∧
    ((flChoose g s)).1.key = s.key ∧ ((flChoose g s)).1.sb = s.sb ∧ ((flChoose g s)).1.pending = s.pending := by
  unfold flChoose
  dsimp only
  split
  · simp -implicitDefEqProofs (maxDischargeDepth := 6)
  · simp -implicitDefEqProofs (maxDischargeDepth := 6)
  · split
    · simp -implicitDefEqProofs (maxDischargeDepth := 6)
    · simp -implicitDefEqProofs (maxDischargeDepth := 6)
    · split
      · simp -implicitDefEqProofs (maxDischargeDepth := 6)
      · split <;> simp -implicitDefEqProofs (maxDischargeDepth := 6)
      · simp -implicitDefEqProofs (maxDischargeDepth := 6)

def Foot.flChoose : List Reg := [.ENG_STAT, .PIR_BUFEXP, .PIR_BUFOCC, .PIR_CPLTRK, .PIR_ERRCNT2, .PIR_EXPMON, .PIR_FBPORT, .PMC_BSTAT, .PMC_CNT, .PMC_STAT, .REC_TRGCFG, .REC_TRGCNT, .SPN_FLVC]

@[simp] theorem flChoose_rd (g : Nat) (s : State) (reg : Reg) (rix : Nat) (hav : avoids Foot.flChoose reg = true) :
    ((flChoose g s)).1.rd reg rix = s.rd reg rix := by
  have c0 : avoids Foot.drr reg = true := avoids_mono (by decide) hav
  have c1 : avoids Foot.flPick reg = true := avoids_mono (by decide) hav
  unfold flChoose
  dsimp only
  split
  · simp -implicitDefEqProofs (maxDischargeDepth := 6) [*]
  · simp -implicitDefEqProofs (maxDischargeDepth := 6) [*]
  · split
    · simp -implicitDefEqProofs (maxDischargeDepth := 6) [*]
    · simp -implicitDefEqProofs (maxDischargeDepth := 6) [*]
    · split
      · simp -implicitDefEqProofs (maxDischargeDepth := 6) [*]
      · split <;> simp -implicitDefEqProofs (maxDischargeDepth := 6) [*]
      · simp -implicitDefEqProofs (maxDischargeDepth := 6) [*]

@[simp] theorem flNew_frame (g : Nat) (fw : Bool) (y : Prog) (s : State) :
    ((flNew g fw y s)).1.env = s.env ∧ ((flNew g fw y s)).1.jrn = s.jrn ∧ ((flNew g fw y s)).1.err = s.err ∧
    ((flNew g fw y s)).1.ports = s.ports ∧ ((flNew g fw y s)).1.deck = s.deck ∧ ((flNew g fw y s)).1.csn = s.csn ∧
    ((flNew g fw y s)).1.host = s.host ∧ ((flNew g fw y s)).1.fab = s.fab ∧ ((flNew g fw y s)).1.eng = s.eng ∧
    ((flNew g fw y s)).1.img = s.img ∧ ((flNew g fw y s)).1.rcd = s.rcd ∧ ((flNew g fw y s)).1.pmc = s.pmc ∧
    ((flNew g fw y s)).1.abt = s.abt ∧ ((flNew g fw y s)).1.mode = s.mode ∧ ((flNew g fw y s)).1.key = s.key ∧
    ((flNew g fw y s)).1.sb = s.sb ∧ ((flNew g fw y s)).1.pending = s.pending := by
  unfold flNew
  (repeat' split) <;> simp -implicitDefEqProofs (maxDischargeDepth := 6)

def Foot.flNew : List Reg := [.SPN_FLSEQ]

@[simp] theorem flNew_rd (g : Nat) (fw : Bool) (y : Prog) (s : State) (reg : Reg) (rix : Nat) (hav : avoids Foot.flNew reg = true) :
    ((flNew g fw y s)).1.rd reg rix = s.rd reg rix := by
  have c0 : avoids Foot.setFl reg = true := avoids_mono (by decide) hav
  have f0 : reg ≠ F.SPN_FLSEQ_TX_NEXT.reg := avoids_ne (by decide) hav
  unfold flNew
  (repeat' split) <;> simp -implicitDefEqProofs (maxDischargeDepth := 6) [*]

@[simp] theorem flData_frame (g : Nat) (fw : Bool) (s : State) :
    ((flData g fw s)).1.jrn = s.jrn ∧ ((flData g fw s)).1.csn = s.csn ∧ ((flData g fw s)).1.fab = s.fab ∧
    ((flData g fw s)).1.img = s.img ∧ ((flData g fw s)).1.abt = s.abt ∧ ((flData g fw s)).1.mode = s.mode ∧
    ((flData g fw s)).1.key = s.key ∧ ((flData g fw s)).1.sb = s.sb ∧ ((flData g fw s)).1.pending = s.pending := by
  unfold flData
  dsimp only
  split
  · split
    · split <;> simp -implicitDefEqProofs (maxDischargeDepth := 6)
    · simp -implicitDefEqProofs (maxDischargeDepth := 6)
  · split
    · simp -implicitDefEqProofs (maxDischargeDepth := 6)
    · split <;> simp -implicitDefEqProofs (maxDischargeDepth := 6)

def Foot.flData : List Reg := [.ENG_STAT, .PIR_BUFEXP, .PIR_BUFOCC, .PIR_CPLTRK, .PIR_ERRCNT2, .PIR_EXPMON, .PIR_FBPORT, .PMC_BSTAT, .PMC_CNT, .PMC_STAT, .REC_TRGCFG, .REC_TRGCNT, .SPN_FLSEQ, .SPN_FLVC]

@[simp] theorem flData_rd (g : Nat) (fw : Bool) (s : State) (reg : Reg) (rix : Nat) (hav : avoids Foot.flData reg = true) :
    ((flData g fw s)).1.rd reg rix = s.rd reg rix := by
  have c0 : avoids Foot.countNoCredit reg = true := avoids_mono (by decide) hav
  have c1 : avoids Foot.setFl reg = true := avoids_mono (by decide) hav
  have c2 : avoids Foot.flChoose reg = true := avoids_mono (by decide) hav
  have c3 : avoids Foot.flNew reg = true := avoids_mono (by decide) hav
  unfold flData
  dsimp only
  split
  · split
    · split <;> simp -implicitDefEqProofs (maxDischargeDepth := 6) [*]
    · simp -implicitDefEqProofs (maxDischargeDepth := 6) [*]
  · split
    · simp -implicitDefEqProofs (maxDischargeDepth := 6) [*]
    · split <;> simp -implicitDefEqProofs (maxDischargeDepth := 6) [*]

@[simp] theorem flitSendCore_frame (g : Nat) (s : State) :
    (flitSendCore g s).jrn = s.jrn ∧ (flitSendCore g s).csn = s.csn ∧ (flitSendCore g s).fab = s.fab ∧
    (flitSendCore g s).img = s.img ∧ (flitSendCore g s).abt = s.abt ∧ (flitSendCore g s).mode = s.mode ∧
    (flitSendCore g s).key = s.key ∧ (flitSendCore g s).sb = s.sb ∧ (flitSendCore g s).pending = s.pending := by
  unfold flitSendCore
  (repeat' split) <;> (try simp -implicitDefEqProofs (maxDischargeDepth := 6)) <;> (repeat' split) <;> simp -implicitDefEqProofs (maxDischargeDepth := 6)

def Foot.flitSendCore : List Reg := [.ENG_STAT, .PIR_BUFEXP, .PIR_BUFOCC, .PIR_CPLTRK, .PIR_ERRCNT2, .PIR_EXPMON, .PIR_FBPORT, .PMC_BSTAT, .PMC_CNT, .PMC_STAT, .REC_TRGCFG, .REC_TRGCNT, .SPN_FLSEQ, .SPN_FLSEQRX, .SPN_FLVC]

@[simp] theorem flitSendCore_rd (g : Nat) (s : State) (reg : Reg) (rix : Nat) (hav : avoids Foot.flitSendCore reg = true) :
    (flitSendCore g s).rd reg rix = s.rd reg rix := by
  have c0 : avoids Foot.count reg = true := avoids_mono (by decide) hav
  have c1 : avoids Foot.setFl reg = true := avoids_mono (by decide) hav
  have c2 : avoids Foot.advanceArx reg = true := avoids_mono (by decide) hav
  have c3 : avoids Foot.flData reg = true := avoids_mono (by decide) hav
  unfold flitSendCore
  (repeat' split) <;> (try simp -implicitDefEqProofs (maxDischargeDepth := 6) [*]) <;> (repeat' split) <;> simp -implicitDefEqProofs (maxDischargeDepth := 6) [*]

@[simp] theorem needNak_frame (g : Nat) (s : State) :
    (needNak g s).env = s.env ∧ (needNak g s).jrn = s.jrn ∧ (needNak g s).err = s.err ∧ (needNak g s).ports = s.ports ∧
    (needNak g s).deck = s.deck ∧ (needNak g s).csn = s.csn ∧ (needNak g s).host = s.host ∧ (needNak g s).fab = s.fab ∧
    (needNak g s).eng = s.eng ∧ (needNak g s).img = s.img ∧ (needNak g s).rcd = s.rcd ∧ (needNak g s).pmc = s.pmc ∧
    (needNak g s).abt = s.abt ∧ (needNak g s).mode = s.mode ∧ (needNak g s).key = s.key ∧ (needNak g s).sb = s.sb ∧
    (needNak g s).pending = s.pending := by
  unfold needNak
  (repeat' split) <;> simp -implicitDefEqProofs (maxDischargeDepth := 6)

def Foot.needNak : List Reg := []

@[simp] theorem needNak_rd (g : Nat) (s : State) (reg : Reg) (rix : Nat) (hav : avoids Foot.needNak reg = true) :
    (needNak g s).rd reg rix = s.rd reg rix := by
  have c0 : avoids Foot.setFl reg = true := avoids_mono (by decide) hav
  unfold needNak
  (repeat' split) <;> simp -implicitDefEqProofs (maxDischargeDepth := 6) [*]

@[simp] theorem endPacket_frame (g v : Nat) (tlp : Option Tlp) (s : State) :
    (endPacket g v tlp s).jrn = s.jrn ∧ (endPacket g v tlp s).csn = s.csn ∧ (endPacket g v tlp s).fab = s.fab ∧
    (endPacket g v tlp s).img = s.img ∧ (endPacket g v tlp s).abt = s.abt ∧ (endPacket g v tlp s).mode = s.mode ∧
    (endPacket g v tlp s).key = s.key ∧ (endPacket g v tlp s).sb = s.sb ∧ (endPacket g v tlp s).pending = s.pending := by
  unfold endPacket
  (repeat' split) <;> (try simp -implicitDefEqProofs (maxDischargeDepth := 6)) <;> (repeat' split) <;> simp -implicitDefEqProofs (maxDischargeDepth := 6)

def Foot.endPacket : List Reg := [.ENG_STAT, .PIR_BUFEXP, .PIR_BUFOCC, .PIR_CPLTRK, .PIR_ERRCNT2, .PIR_EXPMON, .PIR_FBPORT, .PMC_BSTAT, .PMC_CNT, .PMC_STAT, .REC_TRGCFG, .REC_TRGCNT]

@[simp] theorem endPacket_rd (g v : Nat) (tlp : Option Tlp) (s : State) (reg : Reg) (rix : Nat) (hav : avoids Foot.endPacket reg = true) :
    (endPacket g v tlp s).rd reg rix = s.rd reg rix := by
  have c0 : avoids Foot.count reg = true := avoids_mono (by decide) hav
  have c1 : avoids Foot.setFl reg = true := avoids_mono (by decide) hav
  have c2 : avoids Foot.flFree reg = true := avoids_mono (by decide) hav
  unfold endPacket
  (repeat' split) <;> (try simp -implicitDefEqProofs (maxDischargeDepth := 6) [*]) <;> (repeat' split) <;> simp -implicitDefEqProofs (maxDischargeDepth := 6) [*]

@[simp] theorem acceptFlit_frame (g q : Nat) (d : FlitData) (tlp : Option Tlp) (s : State) :
    (acceptFlit g q d tlp s).jrn = s.jrn ∧ (acceptFlit g q d tlp s).csn = s.csn ∧ (acceptFlit g q d tlp s).fab = s.fab ∧
    (acceptFlit g q d tlp s).img = s.img ∧ (acceptFlit g q d tlp s).abt = s.abt ∧ (acceptFlit g q d tlp s).mode = s.mode ∧
    (acceptFlit g q d tlp s).key = s.key ∧ (acceptFlit g q d tlp s).sb = s.sb ∧ (acceptFlit g q d tlp s).pending = s.pending := by
  unfold acceptFlit
  (repeat' split) <;> simp -implicitDefEqProofs (maxDischargeDepth := 6)

def Foot.acceptFlit : List Reg := [.ENG_STAT, .PIR_BUFEXP, .PIR_BUFOCC, .PIR_CPLTRK, .PIR_ERRCNT2, .PIR_EXPMON, .PIR_FBPORT, .PMC_BSTAT, .PMC_CNT, .PMC_STAT, .REC_TRGCFG, .REC_TRGCNT, .SPN_FLSEQRX]

@[simp] theorem acceptFlit_rd (g q : Nat) (d : FlitData) (tlp : Option Tlp) (s : State) (reg : Reg) (rix : Nat) (hav : avoids Foot.acceptFlit reg = true) :
    (acceptFlit g q d tlp s).rd reg rix = s.rd reg rix := by
  have c0 : avoids Foot.setFl reg = true := avoids_mono (by decide) hav
  have c1 : avoids Foot.advanceArx reg = true := avoids_mono (by decide) hav
  have c2 : avoids Foot.endPacket reg = true := avoids_mono (by decide) hav
  have f0 : reg ≠ F.SPN_FLSEQRX_RX_EXPECT.reg := avoids_ne (by decide) hav
  unfold acceptFlit
  (repeat' split) <;> simp -implicitDefEqProofs (maxDischargeDepth := 6) [*]

@[simp] theorem goodFlit_frame (g : Nat) (x : Flit) (tlp : Option Tlp) (s : State) :
    (goodFlit g x tlp s).img = s.img ∧ (goodFlit g x tlp s).abt = s.abt ∧ (goodFlit g x tlp s).mode = s.mode ∧
    (goodFlit g x tlp s).sb = s.sb ∧ (goodFlit g x tlp s).pending = s.pending := by
  unfold goodFlit
  simp -implicitDefEqProofs (maxDischargeDepth := 6)
  repeat' apply And.intro
  all_goals (intros; repeat' split) <;> simp -implicitDefEqProofs (maxDischargeDepth := 6)

def Foot.goodFlit : List Reg := [.CSN_POOL, .CSN_PSPILL, .CSN_STAT, .ENG_STAT, .GLB_DMASTAT, .GLB_SLOT, .GLB_VSSTAT, .JNL_CMDRES, .JNL_HEAD, .JNL_STAT, .JNL_TAIL, .KEY_NONCE, .KEY_SLOT, .KEY_SLOTHASH, .KEY_STAT, .PIR_BUFEXP, .PIR_BUFOCC, .PIR_CPLTRK, .PIR_ERRCNT2, .PIR_EXPMON, .PIR_FBPORT, .PIR_PFCNT, .PMC_BSTAT, .PMC_CNT, .PMC_STAT, .REC_PFSTAT, .REC_TRGCFG, .REC_TRGCNT, .SPN_CALSTAT, .SPN_COEF, .SPN_FLCNT, .SPN_FLSEQ, .SPN_FLSEQRX, .SPN_FLSTAT, .SPN_FLVC, .SPN_LANE, .SPN_PSTAT]

@[simp] theorem goodFlit_rd (g : Nat) (x : Flit) (tlp : Option Tlp) (s : State) (reg : Reg) (rix : Nat) (hav : avoids Foot.goodFlit reg = true) :
    (goodFlit g x tlp s).rd reg rix = s.rd reg rix := by
  have c0 : avoids Foot.setFl reg = true := avoids_mono (by decide) hav
  have c1 : avoids Foot.flDown reg = true := avoids_mono (by decide) hav
  have c2 : avoids Foot.startReplay reg = true := avoids_mono (by decide) hav
  have c3 : avoids Foot.takeAck reg = true := avoids_mono (by decide) hav
  have c4 : avoids Foot.fwReceive reg = true := avoids_mono (by decide) hav
  have c5 : avoids Foot.needNak reg = true := avoids_mono (by decide) hav
  have c6 : avoids Foot.acceptFlit reg = true := avoids_mono (by decide) hav
  have f0 : reg ≠ F.SPN_FLVC_TX_AVAIL.reg := avoids_ne (by decide) hav
  unfold goodFlit
  dsimp only
  split
  · simp -implicitDefEqProofs (maxDischargeDepth := 6) [*]
  · split
    · rw [fwReceive_rd _ _ _ _ _ (by assumption)]
      split
      · (repeat' split) <;> simp -implicitDefEqProofs (maxDischargeDepth := 6) [*]
      · (repeat' split) <;> simp -implicitDefEqProofs (maxDischargeDepth := 6) [*]
    · (repeat' split) <;> simp -implicitDefEqProofs (maxDischargeDepth := 6) [*]

@[simp] theorem planeCell_frame (m : Nat) (s : State) :
    (planeCell m s).jrn = s.jrn ∧ (planeCell m s).csn = s.csn ∧ (planeCell m s).fl = s.fl ∧ (planeCell m s).fab = s.fab ∧
    (planeCell m s).img = s.img ∧ (planeCell m s).abt = s.abt ∧ (planeCell m s).mode = s.mode ∧
    (planeCell m s).key = s.key ∧ (planeCell m s).sb = s.sb ∧ (planeCell m s).pending = s.pending := by
  refine ⟨?_, ?_, ?_, ?_, ?_, ?_, ?_, ?_, ?_, ?_⟩ <;>
  · unfold planeCell
    simp -implicitDefEqProofs (maxDischargeDepth := 6)

def Foot.planeCell : List Reg := [.ENG_STAT, .PIR_BUFEXP, .PIR_BUFOCC, .PIR_CPLTRK, .PIR_ERRCNT2, .PIR_EXPMON, .PIR_FBPORT, .PMC_BSTAT, .PMC_CNT, .PMC_STAT, .REC_TRGCFG, .REC_TRGCNT]

@[simp] theorem planeCell_rd (m : Nat) (s : State) (reg : Reg) (rix : Nat) (hav : avoids Foot.planeCell reg = true) :
    (planeCell m s).rd reg rix = s.rd reg rix := by
  have c0 : avoids Foot.matchPlane reg = true := avoids_mono (by decide) hav
  have c1 : avoids Foot.count reg = true := avoids_mono (by decide) hav
  unfold planeCell
  simp -implicitDefEqProofs (maxDischargeDepth := 6) [*]

@[simp] theorem cellTime_frame (s : State) :
    (cellTime s).jrn = s.jrn ∧ (cellTime s).csn = s.csn ∧ (cellTime s).fl = s.fl ∧ (cellTime s).fab = s.fab ∧
    (cellTime s).img = s.img ∧ (cellTime s).abt = s.abt ∧ (cellTime s).mode = s.mode ∧ (cellTime s).key = s.key ∧
    (cellTime s).sb = s.sb ∧ (cellTime s).pending = s.pending := by
  unfold cellTime
  (repeat' split) <;> simp -implicitDefEqProofs (maxDischargeDepth := 6)

def Foot.cellTime : List Reg := [.ENG_STAT, .PIR_BUFEXP, .PIR_BUFOCC, .PIR_CPLTRK, .PIR_ERRCNT2, .PIR_EXPMON, .PIR_FBPORT, .PMC_BSTAT, .PMC_CNT, .PMC_STAT, .REC_TRGCFG, .REC_TRGCNT]

@[simp] theorem cellTime_rd (s : State) (reg : Reg) (rix : Nat) (hav : avoids Foot.cellTime reg = true) :
    (cellTime s).rd reg rix = s.rd reg rix := by
  have c0 : avoids Foot.stampHeads reg = true := avoids_mono (by decide) hav
  have c1 : avoids Foot.planeCell reg = true := avoids_mono (by decide) hav
  unfold cellTime
  (repeat' split) <;> simp -implicitDefEqProofs (maxDischargeDepth := 6) [*]

@[simp] theorem uncRise_frame (unit n : Nat) (s : State) :
    ((uncRise unit n s)).1.env = s.env ∧ ((uncRise unit n s)).1.jrn = s.jrn ∧ ((uncRise unit n s)).1.ports = s.ports ∧
    ((uncRise unit n s)).1.deck = s.deck ∧ ((uncRise unit n s)).1.csn = s.csn ∧ ((uncRise unit n s)).1.fl = s.fl ∧
    ((uncRise unit n s)).1.host = s.host ∧ ((uncRise unit n s)).1.fab = s.fab ∧ ((uncRise unit n s)).1.eng = s.eng ∧
    ((uncRise unit n s)).1.img = s.img ∧ ((uncRise unit n s)).1.rcd = s.rcd ∧ ((uncRise unit n s)).1.pmc = s.pmc ∧
    ((uncRise unit n s)).1.abt = s.abt ∧ ((uncRise unit n s)).1.mode = s.mode ∧ ((uncRise unit n s)).1.key = s.key ∧
    ((uncRise unit n s)).1.sb = s.sb ∧ ((uncRise unit n s)).1.pending = s.pending := by
  unfold uncRise
  (repeat' split) <;> simp -implicitDefEqProofs (maxDischargeDepth := 6)

def Foot.uncRise : List Reg := []

@[simp] theorem uncRise_rd (unit n : Nat) (s : State) (reg : Reg) (rix : Nat) (hav : avoids Foot.uncRise reg = true) :
    ((uncRise unit n s)).1.rd reg rix = s.rd reg rix := by
  unfold uncRise
  (repeat' split) <;> simp -implicitDefEqProofs (maxDischargeDepth := 6) [*]

@[simp] theorem deckUnc_frame (m : Nat) (s : State) :
    (deckUnc m s).abt = s.abt ∧ (deckUnc m s).sb = s.sb ∧ (deckUnc m s).pending = s.pending := by
  unfold deckUnc
  (repeat' split) <;> simp -implicitDefEqProofs (maxDischargeDepth := 6)

def Foot.deckUnc : List Reg := [.CSN_POOL, .CSN_PSPILL, .CSN_STAT, .DCK_ERR, .DCK_STAT, .ENG_STAT, .GLB_DMASTAT, .GLB_ERRSTAT, .GLB_IMGSTAT, .GLB_MODE, .GLB_PLANES, .GLB_QSTAT, .GLB_SLOT, .GLB_VSSTAT, .JNL_CMDRES, .JNL_HEAD, .JNL_STAT, .JNL_TAIL, .KEY_NONCE, .KEY_SLOT, .KEY_SLOTHASH, .KEY_STAT, .PIR_BUFEXP, .PIR_BUFOCC, .PIR_CLOSE, .PIR_CPLTRK, .PIR_DKSTAT, .PIR_ERRCNT2, .PIR_EXPMON, .PIR_FBPORT, .PIR_PFCNT, .PIR_PMAP, .PMC_BSTAT, .PMC_CNT, .PMC_STAT, .REC_PFSTAT, .REC_STAT, .REC_TRGCFG, .REC_TRGCNT, .SPN_CALSTAT, .SPN_COEF, .SPN_FLSTAT, .SPN_PSTAT]

@[simp] theorem deckUnc_rd (m : Nat) (s : State) (reg : Reg) (rix : Nat) (hav : avoids Foot.deckUnc reg = true) :
    (deckUnc m s).rd reg rix = s.rd reg rix := by
  have c0 : avoids Foot.planeFail reg = true := avoids_mono (by decide) hav
  have c1 : avoids Foot.uncRise reg = true := avoids_mono (by decide) hav
  have f0 : reg ≠ F.DCK_ERR_UNCORR.reg := avoids_ne (by decide) hav
  unfold deckUnc
  (repeat' split) <;> simp -implicitDefEqProofs (maxDischargeDepth := 6) [*]

@[simp] theorem hitPlane_frame (got : List Arrival) (x : CellHit) (s : State) :
    (hitPlane got x s).abt = s.abt ∧ (hitPlane got x s).sb = s.sb ∧ (hitPlane got x s).pending = s.pending := by
  unfold hitPlane
  (repeat' split) <;> simp -implicitDefEqProofs (maxDischargeDepth := 6)

def Foot.hitPlane : List Reg := [.CSN_POOL, .CSN_PSPILL, .CSN_STAT, .DCK_ERR, .DCK_STAT, .ENG_STAT, .GLB_DMASTAT, .GLB_ERRSTAT, .GLB_IMGSTAT, .GLB_MODE, .GLB_PLANES, .GLB_QSTAT, .GLB_SLOT, .GLB_VSSTAT, .JNL_CMDRES, .JNL_HEAD, .JNL_STAT, .JNL_TAIL, .KEY_NONCE, .KEY_SLOT, .KEY_SLOTHASH, .KEY_STAT, .PIR_BUFEXP, .PIR_BUFOCC, .PIR_CLOSE, .PIR_CPLTRK, .PIR_DKSTAT, .PIR_ERRCNT2, .PIR_EXPMON, .PIR_FBPORT, .PIR_PFCNT, .PIR_PMAP, .PMC_BSTAT, .PMC_CNT, .PMC_STAT, .REC_PFSTAT, .REC_STAT, .REC_TRGCFG, .REC_TRGCNT, .SPN_CALSTAT, .SPN_COEF, .SPN_FLSTAT, .SPN_PSTAT]

@[simp] theorem hitPlane_rd (got : List Arrival) (x : CellHit) (s : State) (reg : Reg) (rix : Nat) (hav : avoids Foot.hitPlane reg = true) :
    (hitPlane got x s).rd reg rix = s.rd reg rix := by
  have c0 : avoids Foot.deckUnc reg = true := avoids_mono (by decide) hav
  have f0 : reg ≠ F.DCK_ERR_CORR.reg := avoids_ne (by decide) hav
  unfold hitPlane
  (repeat' split) <;> simp -implicitDefEqProofs (maxDischargeDepth := 6) [*]

@[simp] theorem ackTlp_frame (src dst h : Nat) (s : State) :
    (ackTlp src dst h s).env = s.env ∧ (ackTlp src dst h s).jrn = s.jrn ∧ (ackTlp src dst h s).err = s.err ∧
    (ackTlp src dst h s).ports = s.ports ∧ (ackTlp src dst h s).csn = s.csn ∧ (ackTlp src dst h s).fl = s.fl ∧
    (ackTlp src dst h s).host = s.host ∧ (ackTlp src dst h s).fab = s.fab ∧ (ackTlp src dst h s).eng = s.eng ∧
    (ackTlp src dst h s).img = s.img ∧ (ackTlp src dst h s).rcd = s.rcd ∧ (ackTlp src dst h s).pmc = s.pmc ∧
    (ackTlp src dst h s).abt = s.abt ∧ (ackTlp src dst h s).mode = s.mode ∧ (ackTlp src dst h s).key = s.key ∧
    (ackTlp src dst h s).sb = s.sb ∧ (ackTlp src dst h s).pending = s.pending := by
  unfold ackTlp
  (repeat' split) <;> simp -implicitDefEqProofs (maxDischargeDepth := 6)

def Foot.ackTlp : List Reg := [.PIR_BUFEXP, .PIR_BUFOCC]

@[simp] theorem ackTlp_rd (src dst h : Nat) (s : State) (reg : Reg) (rix : Nat) (hav : avoids Foot.ackTlp reg = true) :
    (ackTlp src dst h s).rd reg rix = s.rd reg rix := by
  have c0 : avoids Foot.freeTlp reg = true := avoids_mono (by decide) hav
  unfold ackTlp
  (repeat' split) <;> simp -implicitDefEqProofs (maxDischargeDepth := 6) [*]

@[simp] theorem ackTimeout_frame (src dst h : Nat) (s : State) :
    (ackTimeout src dst h s).abt = s.abt ∧ (ackTimeout src dst h s).sb = s.sb ∧ (ackTimeout src dst h s).pending = s.pending := by
  unfold ackTimeout
  (repeat' split) <;> simp -implicitDefEqProofs (maxDischargeDepth := 6)

def Foot.ackTimeout : List Reg := [.CSN_POOL, .CSN_PSPILL, .CSN_STAT, .DCK_STAT, .ENG_STAT, .GLB_DMASTAT, .GLB_ERRSTAT, .GLB_IMGSTAT, .GLB_MODE, .GLB_PLANES, .GLB_QSTAT, .GLB_SLOT, .GLB_VSSTAT, .JNL_CMDRES, .JNL_HEAD, .JNL_STAT, .JNL_TAIL, .KEY_NONCE, .KEY_SLOT, .KEY_SLOTHASH, .KEY_STAT, .PIR_BUFEXP, .PIR_BUFOCC, .PIR_CLOSE, .PIR_CPLTRK, .PIR_DKSTAT, .PIR_ERRCNT2, .PIR_EXPMON, .PIR_FBPORT, .PIR_PFCNT, .PIR_PMAP, .PMC_BSTAT, .PMC_CNT, .PMC_STAT, .REC_PFSTAT, .REC_STAT, .REC_TRGCFG, .REC_TRGCNT, .SPN_CALSTAT, .SPN_COEF, .SPN_FLSTAT, .SPN_PSTAT]

@[simp] theorem ackTimeout_rd (src dst h : Nat) (s : State) (reg : Reg) (rix : Nat) (hav : avoids Foot.ackTimeout reg = true) :
    (ackTimeout src dst h s).rd reg rix = s.rd reg rix := by
  have c0 : avoids Foot.resendOrVoid reg = true := avoids_mono (by decide) hav
  have c1 : avoids Foot.count reg = true := avoids_mono (by decide) hav
  have c2 : avoids Foot.planeFail reg = true := avoids_mono (by decide) hav
  unfold ackTimeout
  (repeat' split) <;> simp -implicitDefEqProofs (maxDischargeDepth := 6) [*]

@[simp] theorem retireBlock_frame (ch blk : Nat) (s : State) :
    (retireBlock ch blk s).img = s.img ∧ (retireBlock ch blk s).abt = s.abt ∧ (retireBlock ch blk s).mode = s.mode ∧
    (retireBlock ch blk s).sb = s.sb ∧ (retireBlock ch blk s).pending = s.pending := by
  unfold retireBlock
  simp -implicitDefEqProofs (maxDischargeDepth := 6)

def Foot.retireBlock : List Reg := [.CSN_CHSTAT, .CSN_POOL, .CSN_PSPILL, .CSN_STAT, .ENG_STAT, .GLB_DMASTAT, .GLB_SLOT, .GLB_VSSTAT, .JNL_CMDRES, .JNL_HEAD, .JNL_STAT, .JNL_TAIL, .KEY_NONCE, .KEY_SLOT, .KEY_SLOTHASH, .KEY_STAT, .PIR_BUFEXP, .PIR_BUFOCC, .PIR_CLOSE, .PIR_CPLTRK, .PIR_ERRCNT2, .PIR_EXPMON, .PIR_FBPORT, .PIR_PFCNT, .PMC_BSTAT, .PMC_CNT, .PMC_STAT, .REC_PFSTAT, .REC_TRGCFG, .REC_TRGCNT, .SPN_CALSTAT, .SPN_COEF, .SPN_FLSTAT, .SPN_PSTAT]

@[simp] theorem retireBlock_rd (ch blk : Nat) (s : State) (reg : Reg) (rix : Nat) (hav : avoids Foot.retireBlock reg = true) :
    (retireBlock ch blk s).rd reg rix = s.rd reg rix := by
  have c0 : avoids Foot.count reg = true := avoids_mono (by decide) hav
  have c1 : avoids Foot.retire reg = true := avoids_mono (by decide) hav
  have c2 : avoids Foot.channelFail reg = true := avoids_mono (by decide) hav
  unfold retireBlock
  simp -implicitDefEqProofs (maxDischargeDepth := 6) [*]

@[simp] theorem uncWord_frame (ch blk : Nat) (s : State) :
    (uncWord ch blk s).img = s.img ∧ (uncWord ch blk s).abt = s.abt ∧ (uncWord ch blk s).mode = s.mode ∧
    (uncWord ch blk s).sb = s.sb ∧ (uncWord ch blk s).pending = s.pending := by
  unfold uncWord
  (repeat' split) <;> simp -implicitDefEqProofs (maxDischargeDepth := 6)

def Foot.uncWord : List Reg := [.CSN_CHERR, .CSN_CHSTAT, .CSN_POOL, .CSN_PSPILL, .CSN_STAT, .ENG_STAT, .GLB_DMASTAT, .GLB_SLOT, .GLB_VSSTAT, .JNL_CMDRES, .JNL_HEAD, .JNL_STAT, .JNL_TAIL, .KEY_NONCE, .KEY_SLOT, .KEY_SLOTHASH, .KEY_STAT, .PIR_BUFEXP, .PIR_BUFOCC, .PIR_CLOSE, .PIR_CPLTRK, .PIR_ERRCNT2, .PIR_EXPMON, .PIR_FBPORT, .PIR_PFCNT, .PMC_BSTAT, .PMC_CNT, .PMC_STAT, .REC_PFSTAT, .REC_TRGCFG, .REC_TRGCNT, .SPN_CALSTAT, .SPN_COEF, .SPN_FLSTAT, .SPN_PSTAT]

@[simp] theorem uncWord_rd (ch blk : Nat) (s : State) (reg : Reg) (rix : Nat) (hav : avoids Foot.uncWord reg = true) :
    (uncWord ch blk s).rd reg rix = s.rd reg rix := by
  have c0 : avoids Foot.channelFail reg = true := avoids_mono (by decide) hav
  have c1 : avoids Foot.uncRise reg = true := avoids_mono (by decide) hav
  have c2 : avoids Foot.retireBlock reg = true := avoids_mono (by decide) hav
  have f0 : reg ≠ F.CSN_CHERR_UNCORR.reg := avoids_ne (by decide) hav
  unfold uncWord
  (repeat' split) <;> simp -implicitDefEqProofs (maxDischargeDepth := 6) [*]

@[simp] theorem corrWord_frame (ch blk : Nat) (s : State) :
    (corrWord ch blk s).jrn = s.jrn ∧ (corrWord ch blk s).fl = s.fl ∧ (corrWord ch blk s).fab = s.fab ∧
    (corrWord ch blk s).img = s.img ∧ (corrWord ch blk s).abt = s.abt ∧ (corrWord ch blk s).mode = s.mode ∧
    (corrWord ch blk s).key = s.key ∧ (corrWord ch blk s).sb = s.sb ∧ (corrWord ch blk s).pending = s.pending := by
  unfold corrWord
  (repeat' split) <;> (try simp -implicitDefEqProofs (maxDischargeDepth := 6)) <;> (repeat' split) <;> simp -implicitDefEqProofs (maxDischargeDepth := 6)

def Foot.corrWord : List Reg := [.CSN_CHERR, .ENG_STAT, .PIR_BUFEXP, .PIR_BUFOCC, .PIR_CPLTRK, .PIR_ERRCNT2, .PIR_EXPMON, .PIR_FBPORT, .PMC_BSTAT, .PMC_CNT, .PMC_STAT, .REC_TRGCFG, .REC_TRGCNT]

@[simp] theorem corrWord_rd (ch blk : Nat) (s : State) (reg : Reg) (rix : Nat) (hav : avoids Foot.corrWord reg = true) :
    (corrWord ch blk s).rd reg rix = s.rd reg rix := by
  have c0 : avoids Foot.count reg = true := avoids_mono (by decide) hav
  have f0 : reg ≠ F.CSN_CHERR_CORR.reg := avoids_ne (by decide) hav
  unfold corrWord
  (repeat' split) <;> (try simp -implicitDefEqProofs (maxDischargeDepth := 6) [*]) <;> (repeat' split) <;> simp -implicitDefEqProofs (maxDischargeDepth := 6) [*]

@[simp] theorem logBlk_frame (c : Carried) (write : Bool) (a : Nat) (b : LandBlk) (s : State) :
    (logBlk c write a b s).jrn = s.jrn ∧ (logBlk c write a b s).csn = s.csn ∧ (logBlk c write a b s).fl = s.fl ∧
    (logBlk c write a b s).img = s.img ∧ (logBlk c write a b s).abt = s.abt ∧ (logBlk c write a b s).mode = s.mode ∧
    (logBlk c write a b s).key = s.key ∧ (logBlk c write a b s).sb = s.sb ∧ (logBlk c write a b s).pending = s.pending := by
  unfold logBlk
  (repeat' split) <;> simp -implicitDefEqProofs (maxDischargeDepth := 6)

def Foot.logBlk : List Reg := [.ENG_STAT, .GTE_LOGE, .GTE_LOGSTAT, .PIR_BUFEXP, .PIR_BUFOCC, .PIR_CPLTRK, .PIR_ERRCNT2, .PIR_EXPMON, .PIR_FBPORT, .PMC_BSTAT, .PMC_CNT, .PMC_STAT, .REC_TRGCFG, .REC_TRGCNT]

@[simp] theorem logBlk_rd (c : Carried) (write : Bool) (a : Nat) (b : LandBlk) (s : State) (reg : Reg) (rix : Nat) (hav : avoids Foot.logBlk reg = true) :
    (logBlk c write a b s).rd reg rix = s.rd reg rix := by
  have c0 : avoids Foot.gateLog reg = true := avoids_mono (by decide) hav
  have c1 : avoids Foot.aerPort reg = true := avoids_mono (by decide) hav
  unfold logBlk
  (repeat' split) <;> simp -implicitDefEqProofs (maxDischargeDepth := 6) [*]

@[simp] theorem readBlk_frame (bad corr : List Nat) (a : Nat) (b : LandBlk) (s : State) :
    (readBlk bad corr a b s).img = s.img ∧ (readBlk bad corr a b s).abt = s.abt ∧ (readBlk bad corr a b s).mode = s.mode ∧
    (readBlk bad corr a b s).sb = s.sb ∧ (readBlk bad corr a b s).pending = s.pending := by
  unfold readBlk
  (repeat' split) <;> simp -implicitDefEqProofs (maxDischargeDepth := 6)

def Foot.readBlk : List Reg := [.CSN_CHERR, .CSN_CHSTAT, .CSN_POOL, .CSN_PSPILL, .CSN_STAT, .ENG_STAT, .GLB_DMASTAT, .GLB_SLOT, .GLB_VSSTAT, .JNL_CMDRES, .JNL_HEAD, .JNL_STAT, .JNL_TAIL, .KEY_NONCE, .KEY_SLOT, .KEY_SLOTHASH, .KEY_STAT, .PIR_BUFEXP, .PIR_BUFOCC, .PIR_CLOSE, .PIR_CPLTRK, .PIR_ERRCNT2, .PIR_EXPMON, .PIR_FBPORT, .PIR_PFCNT, .PMC_BSTAT, .PMC_CNT, .PMC_STAT, .REC_PFSTAT, .REC_TRGCFG, .REC_TRGCNT, .SPN_CALSTAT, .SPN_COEF, .SPN_FLSTAT, .SPN_PSTAT]

@[simp] theorem readBlk_rd (bad corr : List Nat) (a : Nat) (b : LandBlk) (s : State) (reg : Reg) (rix : Nat) (hav : avoids Foot.readBlk reg = true) :
    (readBlk bad corr a b s).rd reg rix = s.rd reg rix := by
  have c0 : avoids Foot.count reg = true := avoids_mono (by decide) hav
  have c1 : avoids Foot.scanTouch reg = true := avoids_mono (by decide) hav
  have c2 : avoids Foot.uncWord reg = true := avoids_mono (by decide) hav
  have c3 : avoids Foot.corrWord reg = true := avoids_mono (by decide) hav
  unfold readBlk
  (repeat' split) <;> simp -implicitDefEqProofs (maxDischargeDepth := 6) [*]

@[simp] theorem writeBlk_frame (bad corr : List Nat) (c : Carried) (a : Nat) (b : LandBlk) (s : State) :
    (writeBlk bad corr c a b s).img = s.img ∧ (writeBlk bad corr c a b s).abt = s.abt ∧
    (writeBlk bad corr c a b s).mode = s.mode ∧ (writeBlk bad corr c a b s).sb = s.sb ∧
    (writeBlk bad corr c a b s).pending = s.pending := by
  unfold writeBlk
  (repeat' split) <;> simp -implicitDefEqProofs (maxDischargeDepth := 6)

def Foot.writeBlk : List Reg := [.CSN_CHERR, .CSN_CHSTAT, .CSN_POOL, .CSN_PSPILL, .CSN_STAT, .ENG_STAT, .GLB_DMASTAT, .GLB_SLOT, .GLB_VSSTAT, .JNL_CMDRES, .JNL_HEAD, .JNL_STAT, .JNL_TAIL, .KEY_NONCE, .KEY_SLOT, .KEY_SLOTHASH, .KEY_STAT, .PIR_BUFEXP, .PIR_BUFOCC, .PIR_CLOSE, .PIR_CPLTRK, .PIR_ERRCNT2, .PIR_EXPMON, .PIR_FBPORT, .PIR_PFCNT, .PMC_BSTAT, .PMC_CNT, .PMC_STAT, .REC_PFSTAT, .REC_TRGCFG, .REC_TRGCNT, .SPN_CALSTAT, .SPN_COEF, .SPN_FLSTAT, .SPN_PSTAT]

@[simp] theorem writeBlk_rd (bad corr : List Nat) (c : Carried) (a : Nat) (b : LandBlk) (s : State) (reg : Reg) (rix : Nat) (hav : avoids Foot.writeBlk reg = true) :
    (writeBlk bad corr c a b s).rd reg rix = s.rd reg rix := by
  have c0 : avoids Foot.count reg = true := avoids_mono (by decide) hav
  have c1 : avoids Foot.landWrN reg = true := avoids_mono (by decide) hav
  have c2 : avoids Foot.scanTouch reg = true := avoids_mono (by decide) hav
  have c3 : avoids Foot.readBlk reg = true := avoids_mono (by decide) hav
  unfold writeBlk
  (repeat' split) <;> simp -implicitDefEqProofs (maxDischargeDepth := 6) [*]

@[simp] theorem landWrite_frame (c : Carried) (bad corr : List Nat) (a : Nat) (bs : List LandBlk) (s : State) :
    (landWrite c bad corr a bs s).img = s.img ∧ (landWrite c bad corr a bs s).abt = s.abt ∧
    (landWrite c bad corr a bs s).mode = s.mode ∧ (landWrite c bad corr a bs s).sb = s.sb ∧
    (landWrite c bad corr a bs s).pending = s.pending := by
  unfold landWrite
  (repeat' split) <;> simp -implicitDefEqProofs (maxDischargeDepth := 6)

def Foot.landWrite : List Reg := [.CSN_CHERR, .CSN_CHSTAT, .CSN_POOL, .CSN_PSPILL, .CSN_STAT, .ENG_STAT, .GLB_DMASTAT, .GLB_SLOT, .GLB_VSSTAT, .GTE_LOGE, .GTE_LOGSTAT, .JNL_CMDRES, .JNL_HEAD, .JNL_STAT, .JNL_TAIL, .KEY_NONCE, .KEY_SLOT, .KEY_SLOTHASH, .KEY_STAT, .PIR_BUFEXP, .PIR_BUFOCC, .PIR_CLOSE, .PIR_CPLTRK, .PIR_ERRCNT2, .PIR_EXPMON, .PIR_FBPORT, .PIR_PFCNT, .PMC_BSTAT, .PMC_CNT, .PMC_STAT, .REC_PFSTAT, .REC_TRGCFG, .REC_TRGCNT, .SPN_CALSTAT, .SPN_COEF, .SPN_FLSTAT, .SPN_PSTAT]

@[simp] theorem landWrite_rd (c : Carried) (bad corr : List Nat) (a : Nat) (bs : List LandBlk) (s : State) (reg : Reg) (rix : Nat) (hav : avoids Foot.landWrite reg = true) :
    (landWrite c bad corr a bs s).rd reg rix = s.rd reg rix := by
  have c0 : avoids Foot.logBlk reg = true := avoids_mono (by decide) hav
  have c1 : avoids Foot.writeBlk reg = true := avoids_mono (by decide) hav
  unfold landWrite
  (repeat' split) <;> simp -implicitDefEqProofs (maxDischargeDepth := 6) [*]

@[simp] theorem sendLanding_frame (cid lim : Nat) (c : Carried) (pois : Nat → Bool) (n : Nat) (data : List Byte) (addr total : Nat) (s : State) :
    (sendLanding cid lim c pois n data addr total s).env = s.env ∧
    (sendLanding cid lim c pois n data addr total s).jrn = s.jrn ∧
    (sendLanding cid lim c pois n data addr total s).csn = s.csn ∧
    (sendLanding cid lim c pois n data addr total s).fl = s.fl ∧
    (sendLanding cid lim c pois n data addr total s).fab = s.fab ∧
    (sendLanding cid lim c pois n data addr total s).eng = s.eng ∧
    (sendLanding cid lim c pois n data addr total s).img = s.img ∧
    (sendLanding cid lim c pois n data addr total s).rcd = s.rcd ∧
    (sendLanding cid lim c pois n data addr total s).pmc = s.pmc ∧
    (sendLanding cid lim c pois n data addr total s).abt = s.abt ∧
    (sendLanding cid lim c pois n data addr total s).mode = s.mode ∧
    (sendLanding cid lim c pois n data addr total s).key = s.key ∧
    (sendLanding cid lim c pois n data addr total s).sb = s.sb ∧
    (sendLanding cid lim c pois n data addr total s).pending = s.pending := by
  induction n generalizing data addr total s with
  | zero => simp [sendLanding]
  | succ n ih =>
    unfold sendLanding
    dsimp only
    (repeat' split) <;> simp -implicitDefEqProofs [ih]

def Foot.sendLanding : List Reg := [.PIR_BUFEXP, .PIR_BUFOCC, .PIR_CPLTRK, .PIR_ERRCNT2, .PIR_EXPMON, .PIR_FBPORT]

@[simp] theorem sendLanding_rd (cid lim : Nat) (c : Carried) (pois : Nat → Bool) (n : Nat) (data : List Byte) (addr total : Nat) (s : State) (reg : Reg) (rix : Nat) (hav : avoids Foot.sendLanding reg = true) :
    (sendLanding cid lim c pois n data addr total s).rd reg rix = s.rd reg rix := by
  have c0 : avoids Foot.sendCplAs reg = true := avoids_mono (by decide) hav
  induction n generalizing data addr total s with
  | zero => simp [sendLanding]
  | succ n ih =>
    unfold sendLanding
    dsimp only
    (repeat' split) <;> simp -implicitDefEqProofs [ih, *]

@[simp] theorem landRead_frame (c : Carried) (bad corr : List Nat) (a : Nat) (bs : List LandBlk) (s : State) :
    (landRead c bad corr a bs s).img = s.img ∧ (landRead c bad corr a bs s).abt = s.abt ∧
    (landRead c bad corr a bs s).mode = s.mode ∧ (landRead c bad corr a bs s).sb = s.sb ∧
    (landRead c bad corr a bs s).pending = s.pending := by
  unfold landRead
  (repeat' split) <;> simp -implicitDefEqProofs (maxDischargeDepth := 6)

def Foot.landRead : List Reg := [.CSN_CHERR, .CSN_CHSTAT, .CSN_POOL, .CSN_PSPILL, .CSN_STAT, .ENG_STAT, .GLB_DMASTAT, .GLB_SLOT, .GLB_VSSTAT, .GTE_LOGE, .GTE_LOGSTAT, .JNL_CMDRES, .JNL_HEAD, .JNL_STAT, .JNL_TAIL, .KEY_NONCE, .KEY_SLOT, .KEY_SLOTHASH, .KEY_STAT, .PIR_BUFEXP, .PIR_BUFOCC, .PIR_CLOSE, .PIR_CPLTRK, .PIR_ERRCNT2, .PIR_EXPMON, .PIR_FBPORT, .PIR_PFCNT, .PMC_BSTAT, .PMC_CNT, .PMC_STAT, .REC_PFSTAT, .REC_TRGCFG, .REC_TRGCNT, .SPN_CALSTAT, .SPN_COEF, .SPN_FLSTAT, .SPN_PSTAT]

@[simp] theorem landRead_rd (c : Carried) (bad corr : List Nat) (a : Nat) (bs : List LandBlk) (s : State) (reg : Reg) (rix : Nat) (hav : avoids Foot.landRead reg = true) :
    (landRead c bad corr a bs s).rd reg rix = s.rd reg rix := by
  have c0 : avoids Foot.sendCpl reg = true := avoids_mono (by decide) hav
  have c1 : avoids Foot.logBlk reg = true := avoids_mono (by decide) hav
  have c2 : avoids Foot.readBlk reg = true := avoids_mono (by decide) hav
  have c3 : avoids Foot.sendLanding reg = true := avoids_mono (by decide) hav
  unfold landRead
  (repeat' split) <;> simp -implicitDefEqProofs (maxDischargeDepth := 6) [*]

@[simp] theorem landAtomic_frame (c : Carried) (op : AtOp) (bad corr : List Nat) (a : Nat) (bs : List LandBlk) (s : State) :
    (landAtomic c op bad corr a bs s).img = s.img ∧ (landAtomic c op bad corr a bs s).abt = s.abt ∧
    (landAtomic c op bad corr a bs s).mode = s.mode ∧ (landAtomic c op bad corr a bs s).sb = s.sb ∧
    (landAtomic c op bad corr a bs s).pending = s.pending := by
  unfold landAtomic
  (repeat' split) <;> simp -implicitDefEqProofs (maxDischargeDepth := 6)

def Foot.landAtomic : List Reg := [.CSN_CHERR, .CSN_CHSTAT, .CSN_POOL, .CSN_PSPILL, .CSN_STAT, .ENG_STAT, .GLB_DMASTAT, .GLB_SLOT, .GLB_VSSTAT, .GTE_LOGE, .GTE_LOGSTAT, .JNL_CMDRES, .JNL_HEAD, .JNL_STAT, .JNL_TAIL, .KEY_NONCE, .KEY_SLOT, .KEY_SLOTHASH, .KEY_STAT, .PIR_BUFEXP, .PIR_BUFOCC, .PIR_CLOSE, .PIR_CPLTRK, .PIR_ERRCNT2, .PIR_EXPMON, .PIR_FBPORT, .PIR_PFCNT, .PMC_BSTAT, .PMC_CNT, .PMC_STAT, .REC_PFSTAT, .REC_TRGCFG, .REC_TRGCNT, .SPN_CALSTAT, .SPN_COEF, .SPN_FLSTAT, .SPN_PSTAT]

@[simp] theorem landAtomic_rd (c : Carried) (op : AtOp) (bad corr : List Nat) (a : Nat) (bs : List LandBlk) (s : State) (reg : Reg) (rix : Nat) (hav : avoids Foot.landAtomic reg = true) :
    (landAtomic c op bad corr a bs s).rd reg rix = s.rd reg rix := by
  have c0 : avoids Foot.sendCplAs reg = true := avoids_mono (by decide) hav
  have c1 : avoids Foot.failReq reg = true := avoids_mono (by decide) hav
  have c2 : avoids Foot.count reg = true := avoids_mono (by decide) hav
  have c3 : avoids Foot.landWrN reg = true := avoids_mono (by decide) hav
  have c4 : avoids Foot.logBlk reg = true := avoids_mono (by decide) hav
  have c5 : avoids Foot.readBlk reg = true := avoids_mono (by decide) hav
  unfold landAtomic
  (repeat' split) <;> simp -implicitDefEqProofs (maxDischargeDepth := 6) [*]

@[simp] theorem landDef_frame (c : Carried) (bad corr : List Nat) (a : Nat) (bs : List LandBlk) (s : State) :
    (landDef c bad corr a bs s).img = s.img ∧ (landDef c bad corr a bs s).abt = s.abt ∧
    (landDef c bad corr a bs s).mode = s.mode ∧ (landDef c bad corr a bs s).sb = s.sb ∧
    (landDef c bad corr a bs s).pending = s.pending := by
  unfold landDef
  (repeat' split) <;> simp -implicitDefEqProofs (maxDischargeDepth := 6)

def Foot.landDef : List Reg := [.CSN_CHERR, .CSN_CHSTAT, .CSN_POOL, .CSN_PSPILL, .CSN_STAT, .ENG_STAT, .GLB_DMASTAT, .GLB_SLOT, .GLB_VSSTAT, .GTE_LOGE, .GTE_LOGSTAT, .JNL_CMDRES, .JNL_HEAD, .JNL_STAT, .JNL_TAIL, .KEY_NONCE, .KEY_SLOT, .KEY_SLOTHASH, .KEY_STAT, .PIR_BUFEXP, .PIR_BUFOCC, .PIR_CLOSE, .PIR_CPLTRK, .PIR_ERRCNT2, .PIR_EXPMON, .PIR_FBPORT, .PIR_PFCNT, .PMC_BSTAT, .PMC_CNT, .PMC_STAT, .REC_PFSTAT, .REC_TRGCFG, .REC_TRGCNT, .SPN_CALSTAT, .SPN_COEF, .SPN_FLSTAT, .SPN_PSTAT]

@[simp] theorem landDef_rd (c : Carried) (bad corr : List Nat) (a : Nat) (bs : List LandBlk) (s : State) (reg : Reg) (rix : Nat) (hav : avoids Foot.landDef reg = true) :
    (landDef c bad corr a bs s).rd reg rix = s.rd reg rix := by
  have c0 : avoids Foot.sendCplAs reg = true := avoids_mono (by decide) hav
  have c1 : avoids Foot.failReq reg = true := avoids_mono (by decide) hav
  have c2 : avoids Foot.landWrite reg = true := avoids_mono (by decide) hav
  unfold landDef
  (repeat' split) <;> simp -implicitDefEqProofs (maxDischargeDepth := 6) [*]

@[simp] theorem landExec_frame (r : LandReq) (bad corr : List Nat) (s : State) :
    (landExec r bad corr s).img = s.img ∧ (landExec r bad corr s).abt = s.abt ∧ (landExec r bad corr s).mode = s.mode ∧
    (landExec r bad corr s).sb = s.sb ∧ (landExec r bad corr s).pending = s.pending := by
  unfold landExec
  (repeat' split) <;> (try simp -implicitDefEqProofs (maxDischargeDepth := 6)) <;> (repeat' split) <;> simp -implicitDefEqProofs (maxDischargeDepth := 6)

def Foot.landExec : List Reg := [.CSN_CHERR, .CSN_CHSTAT, .CSN_POOL, .CSN_PSPILL, .CSN_STAT, .ENG_STAT, .GLB_DMASTAT, .GLB_SLOT, .GLB_VSSTAT, .GTE_LOGE, .GTE_LOGSTAT, .JNL_CMDRES, .JNL_HEAD, .JNL_STAT, .JNL_TAIL, .KEY_NONCE, .KEY_SLOT, .KEY_SLOTHASH, .KEY_STAT, .PIR_BUFEXP, .PIR_BUFOCC, .PIR_CLOSE, .PIR_CPLTRK, .PIR_ERRCNT2, .PIR_EXPMON, .PIR_FBPORT, .PIR_PFCNT, .PMC_BSTAT, .PMC_CNT, .PMC_STAT, .REC_PFSTAT, .REC_TRGCFG, .REC_TRGCNT, .SPN_CALSTAT, .SPN_COEF, .SPN_FLSTAT, .SPN_PSTAT]

@[simp] theorem landExec_rd (r : LandReq) (bad corr : List Nat) (s : State) (reg : Reg) (rix : Nat) (hav : avoids Foot.landExec reg = true) :
    (landExec r bad corr s).rd reg rix = s.rd reg rix := by
  have c0 : avoids Foot.failReq reg = true := avoids_mono (by decide) hav
  have c1 : avoids Foot.landWrite reg = true := avoids_mono (by decide) hav
  have c2 : avoids Foot.landRead reg = true := avoids_mono (by decide) hav
  have c3 : avoids Foot.landAtomic reg = true := avoids_mono (by decide) hav
  have c4 : avoids Foot.landDef reg = true := avoids_mono (by decide) hav
  unfold landExec
  (repeat' split) <;> (try simp -implicitDefEqProofs (maxDischargeDepth := 6) [*]) <;> (repeat' split) <;> simp -implicitDefEqProofs (maxDischargeDepth := 6) [*]

@[simp] theorem tagSetDone_frame (s : State) :
    (tagSetDone s).env = s.env ∧ (tagSetDone s).jrn = s.jrn ∧ (tagSetDone s).err = s.err ∧ (tagSetDone s).ports = s.ports ∧
    (tagSetDone s).deck = s.deck ∧ (tagSetDone s).fl = s.fl ∧ (tagSetDone s).host = s.host ∧ (tagSetDone s).fab = s.fab ∧
    (tagSetDone s).eng = s.eng ∧ (tagSetDone s).img = s.img ∧ (tagSetDone s).rcd = s.rcd ∧ (tagSetDone s).pmc = s.pmc ∧
    (tagSetDone s).abt = s.abt ∧ (tagSetDone s).mode = s.mode ∧ (tagSetDone s).key = s.key ∧ (tagSetDone s).sb = s.sb ∧
    (tagSetDone s).pending = s.pending := by
  unfold tagSetDone
  (repeat' split) <;> simp -implicitDefEqProofs (maxDischargeDepth := 6)

def Foot.tagSetDone : List Reg := [.CSN_TAGSTAT]

@[simp] theorem tagSetDone_rd (s : State) (reg : Reg) (rix : Nat) (hav : avoids Foot.tagSetDone reg = true) :
    (tagSetDone s).rd reg rix = s.rd reg rix := by
  have c0 : avoids Foot.setTags reg = true := avoids_mono (by decide) hav
  have f0 : reg ≠ F.CSN_TAGSTAT_BUSY.reg := avoids_ne (by decide) hav
  have f1 : reg ≠ F.CSN_TAGSTAT_DONE.reg := avoids_ne (by decide) hav
  unfold tagSetDone
  (repeat' split) <;> simp -implicitDefEqProofs (maxDischargeDepth := 6) [*]

@[simp] theorem powerOn_frame (d : Nat) (s : State) :
    (powerOn d s).env = s.env ∧ (powerOn d s).jrn = s.jrn ∧ (powerOn d s).err = s.err ∧ (powerOn d s).ports = s.ports ∧
    (powerOn d s).deck = s.deck ∧ (powerOn d s).csn = s.csn ∧ (powerOn d s).fl = s.fl ∧ (powerOn d s).host = s.host ∧
    (powerOn d s).fab = s.fab ∧ (powerOn d s).eng = s.eng ∧ (powerOn d s).img = s.img ∧ (powerOn d s).rcd = s.rcd ∧
    (powerOn d s).pmc = s.pmc ∧ (powerOn d s).abt = s.abt ∧ (powerOn d s).key = s.key ∧ (powerOn d s).sb = s.sb ∧
    (powerOn d s).pending = s.pending := by
  unfold powerOn
  (repeat' split) <;> simp -implicitDefEqProofs (maxDischargeDepth := 6)

def Foot.powerOn : List Reg := [.CLK_ISLSTAT, .PWD_STAT]

@[simp] theorem powerOn_rd (d : Nat) (s : State) (reg : Reg) (rix : Nat) (hav : avoids Foot.powerOn reg = true) :
    (powerOn d s).rd reg rix = s.rd reg rix := by
  have c0 : avoids Foot.setDom reg = true := avoids_mono (by decide) hav
  have f0 : reg ≠ F.PWD_STAT_CYCLES.reg := avoids_ne (by decide) hav
  have f1 : reg ≠ F.PWD_STAT_FAULT.reg := avoids_ne (by decide) hav
  unfold powerOn
  (repeat' split) <;> simp -implicitDefEqProofs (maxDischargeDepth := 6) [*]

@[simp] theorem portOff_frame (p : Nat) (s : State) :
    (portOff p s).img = s.img ∧ (portOff p s).abt = s.abt ∧ (portOff p s).mode = s.mode ∧ (portOff p s).sb = s.sb ∧
    (portOff p s).pending = s.pending := by
  unfold portOff
  (repeat' split) <;> simp -implicitDefEqProofs (maxDischargeDepth := 6)

def Foot.portOff : List Reg := [.CSN_POOL, .CSN_PSPILL, .CSN_STAT, .ENG_STAT, .GLB_DMASTAT, .GLB_SLOT, .GLB_VSSTAT, .JNL_CMDRES, .JNL_HEAD, .JNL_STAT, .JNL_TAIL, .KEY_NONCE, .KEY_SLOT, .KEY_SLOTHASH, .KEY_STAT, .PIR_BUFEXP, .PIR_BUFOCC, .PIR_CPLTRK, .PIR_ERRCNT2, .PIR_EXPMON, .PIR_FBPORT, .PIR_PFCNT, .PMC_BSTAT, .PMC_CNT, .PMC_STAT, .REC_PFSTAT, .REC_TRGCFG, .REC_TRGCNT, .SPN_CALSTAT, .SPN_COEF, .SPN_FLSTAT, .SPN_PSTAT]

@[simp] theorem portOff_rd (p : Nat) (s : State) (reg : Reg) (rix : Nat) (hav : avoids Foot.portOff reg = true) :
    (portOff p s).rd reg rix = s.rd reg rix := by
  have c1 : avoids Foot.linkGone reg = true := avoids_mono (by decide) hav
  have c2 : avoids Foot.flDiscard reg = true := avoids_mono (by decide) hav
  have c3 : avoids Foot.linkDownEvent reg = true := avoids_mono (by decide) hav
  have c4 : avoids Foot.abandonVisit reg = true := avoids_mono (by decide) hav
  have c5 : avoids Foot.refreshPortClk reg = true := avoids_mono (by decide) hav
  have f0 : reg ≠ F.SPN_FLSTAT_STATE.reg := avoids_ne (by decide) hav
  have f1 : reg ≠ F.SPN_PSTAT_LTSSM.reg := avoids_ne (by decide) hav
  unfold portOff
  (repeat' split) <;> simp -implicitDefEqProofs (maxDischargeDepth := 6) [*]

@[simp] theorem portReturn_frame (p : Nat) (s : State) :
    (portReturn p s).env = s.env ∧ (portReturn p s).jrn = s.jrn ∧ (portReturn p s).err = s.err ∧
    (portReturn p s).ports = s.ports ∧ (portReturn p s).deck = s.deck ∧ (portReturn p s).csn = s.csn ∧
    (portReturn p s).fl = s.fl ∧ (portReturn p s).host = s.host ∧ (portReturn p s).fab = s.fab ∧
    (portReturn p s).eng = s.eng ∧ (portReturn p s).img = s.img ∧ (portReturn p s).rcd = s.rcd ∧
    (portReturn p s).pmc = s.pmc ∧ (portReturn p s).abt = s.abt ∧ (portReturn p s).mode = s.mode ∧
    (portReturn p s).key = s.key ∧ (portReturn p s).sb = s.sb ∧ (portReturn p s).pending = s.pending := by
  unfold portReturn
  (repeat' split) <;> simp -implicitDefEqProofs (maxDischargeDepth := 6)

def Foot.portReturn : List Reg := [.GLB_SLOT, .SPN_FLSTAT, .SPN_LANE, .SPN_PSTAT]

@[simp] theorem portReturn_rd (p : Nat) (s : State) (reg : Reg) (rix : Nat) (hav : avoids Foot.portReturn reg = true) :
    (portReturn p s).rd reg rix = s.rd reg rix := by
  have c0 : avoids Foot.enterTraining reg = true := avoids_mono (by decide) hav
  have c1 : avoids Foot.refreshPortClk reg = true := avoids_mono (by decide) hav
  have f0 : reg ≠ F.SPN_FLSTAT_STATE.reg := avoids_ne (by decide) hav
  have f1 : reg ≠ F.SPN_PSTAT_LTSSM.reg := avoids_ne (by decide) hav
  unfold portReturn
  (repeat' split) <;> simp -implicitDefEqProofs (maxDischargeDepth := 6) [*]

@[simp] theorem leaveCluster_frame (n : Nat) (s : State) :
    (leaveCluster n s).env = s.env ∧ (leaveCluster n s).jrn = s.jrn ∧ (leaveCluster n s).err = s.err ∧
    (leaveCluster n s).ports = s.ports ∧ (leaveCluster n s).deck = s.deck ∧ (leaveCluster n s).csn = s.csn ∧
    (leaveCluster n s).fl = s.fl ∧ (leaveCluster n s).host = s.host ∧ (leaveCluster n s).fab = s.fab ∧
    (leaveCluster n s).img = s.img ∧ (leaveCluster n s).rcd = s.rcd ∧ (leaveCluster n s).pmc = s.pmc ∧
    (leaveCluster n s).abt = s.abt ∧ (leaveCluster n s).mode = s.mode ∧ (leaveCluster n s).key = s.key ∧
    (leaveCluster n s).sb = s.sb ∧ (leaveCluster n s).pending = s.pending := by
  unfold leaveCluster
  (repeat' split) <;> simp -implicitDefEqProofs (maxDischargeDepth := 6)

def Foot.leaveCluster : List Reg := [.ENG_STAT, .PIR_DUTY]

@[simp] theorem leaveCluster_rd (n : Nat) (s : State) (reg : Reg) (rix : Nat) (hav : avoids Foot.leaveCluster reg = true) :
    (leaveCluster n s).rd reg rix = s.rd reg rix := by
  have c0 : avoids Foot.planMove reg = true := avoids_mono (by decide) hav
  unfold leaveCluster
  (repeat' split) <;> simp -implicitDefEqProofs (maxDischargeDepth := 6) [*]

@[simp] theorem leaveUnit_frame (d : Nat) (s : State) :
    (leaveUnit d s).img = s.img ∧ (leaveUnit d s).abt = s.abt ∧ (leaveUnit d s).mode = s.mode ∧ (leaveUnit d s).sb = s.sb ∧
    (leaveUnit d s).pending = s.pending := by
  unfold leaveUnit
  (repeat' split) <;> simp -implicitDefEqProofs (maxDischargeDepth := 6)

def Foot.leaveUnit : List Reg := [.CSN_CHSTAT, .CSN_POOL, .CSN_PSPILL, .CSN_STAT, .ENG_STAT, .GLB_DMASTAT, .GLB_SLOT, .GLB_VSSTAT, .JNL_CMDRES, .JNL_HEAD, .JNL_STAT, .JNL_TAIL, .KEY_NONCE, .KEY_SLOT, .KEY_SLOTHASH, .KEY_STAT, .PIR_BUFEXP, .PIR_BUFOCC, .PIR_CPLTRK, .PIR_DUTY, .PIR_ERRCNT2, .PIR_EXPMON, .PIR_FBPORT, .PIR_PFCNT, .PMC_BSTAT, .PMC_CNT, .PMC_STAT, .REC_PFSTAT, .REC_TRGCFG, .REC_TRGCNT, .SPN_CALSTAT, .SPN_COEF, .SPN_FLSTAT, .SPN_PSTAT]

@[simp] theorem leaveUnit_rd (d : Nat) (s : State) (reg : Reg) (rix : Nat) (hav : avoids Foot.leaveUnit reg = true) :
    (leaveUnit d s).rd reg rix = s.rd reg rix := by
  have c0 : avoids Foot.stopFlows reg = true := avoids_mono (by decide) hav
  have c1 : avoids Foot.setChan reg = true := avoids_mono (by decide) hav
  have c2 : avoids Foot.portOff reg = true := avoids_mono (by decide) hav
  have c3 : avoids Foot.leaveCluster reg = true := avoids_mono (by decide) hav
  unfold leaveUnit
  (repeat' split) <;> simp -implicitDefEqProofs (maxDischargeDepth := 6) [*]

@[simp] theorem powerOff_frame (d : Nat) (s : State) :
    (powerOff d s).img = s.img ∧ (powerOff d s).abt = s.abt ∧ (powerOff d s).mode = s.mode ∧ (powerOff d s).sb = s.sb ∧
    (powerOff d s).pending = s.pending := by
  unfold powerOff
  (repeat' split) <;> simp -implicitDefEqProofs (maxDischargeDepth := 6)

def Foot.powerOff : List Reg := [.CLK_ISLSTAT, .CSN_CHSTAT, .CSN_POOL, .CSN_PSPILL, .CSN_STAT, .ENG_STAT, .GLB_DMASTAT, .GLB_SLOT, .GLB_VSSTAT, .JNL_CMDRES, .JNL_HEAD, .JNL_STAT, .JNL_TAIL, .KEY_NONCE, .KEY_SLOT, .KEY_SLOTHASH, .KEY_STAT, .PIR_BUFEXP, .PIR_BUFOCC, .PIR_CPLTRK, .PIR_DUTY, .PIR_ERRCNT2, .PIR_EXPMON, .PIR_FBPORT, .PIR_PFCNT, .PMC_BSTAT, .PMC_CNT, .PMC_STAT, .PWD_STAT, .REC_PFSTAT, .REC_TRGCFG, .REC_TRGCNT, .SPN_CALSTAT, .SPN_COEF, .SPN_FLSTAT, .SPN_PSTAT]

@[simp] theorem powerOff_rd (d : Nat) (s : State) (reg : Reg) (rix : Nat) (hav : avoids Foot.powerOff reg = true) :
    (powerOff d s).rd reg rix = s.rd reg rix := by
  have c0 : avoids Foot.setDom reg = true := avoids_mono (by decide) hav
  have c1 : avoids Foot.leaveUnit reg = true := avoids_mono (by decide) hav
  unfold powerOff
  (repeat' split) <;> simp -implicitDefEqProofs (maxDischargeDepth := 6) [*]

@[simp] theorem domRequest_frame (d : Nat) (on : Bool) (s : State) :
    (domRequest d on s).img = s.img ∧ (domRequest d on s).abt = s.abt ∧ (domRequest d on s).sb = s.sb ∧
    (domRequest d on s).pending = s.pending := by
  unfold domRequest
  (repeat' split) <;> simp -implicitDefEqProofs (maxDischargeDepth := 6)

def Foot.domRequest : List Reg := [.CLK_ISLSTAT, .CSN_CHSTAT, .CSN_POOL, .CSN_PSPILL, .CSN_STAT, .DCK_STAT, .ENG_STAT, .GLB_DMASTAT, .GLB_PLANES, .GLB_SLOT, .GLB_VSSTAT, .JNL_CMDRES, .JNL_HEAD, .JNL_STAT, .JNL_TAIL, .KEY_NONCE, .KEY_SLOT, .KEY_SLOTHASH, .KEY_STAT, .PIR_BUFEXP, .PIR_BUFOCC, .PIR_CPLTRK, .PIR_DUTY, .PIR_ERRCNT2, .PIR_EXPMON, .PIR_FBPORT, .PIR_PFCNT, .PMC_BSTAT, .PMC_CNT, .PMC_STAT, .PWD_STAT, .REC_PFSTAT, .REC_TRGCFG, .REC_TRGCNT, .SPN_CALSTAT, .SPN_COEF, .SPN_FLSTAT, .SPN_PSTAT]

@[simp] theorem domRequest_rd (d : Nat) (on : Bool) (s : State) (reg : Reg) (rix : Nat) (hav : avoids Foot.domRequest reg = true) :
    (domRequest d on s).rd reg rix = s.rd reg rix := by
  have c0 : avoids Foot.setDom reg = true := avoids_mono (by decide) hav
  have c1 : avoids Foot.setPlane reg = true := avoids_mono (by decide) hav
  have c2 : avoids Foot.powerOn reg = true := avoids_mono (by decide) hav
  have c3 : avoids Foot.powerOff reg = true := avoids_mono (by decide) hav
  unfold domRequest
  (repeat' split) <;> simp -implicitDefEqProofs (maxDischargeDepth := 6) [*]

@[simp] theorem chanGone_frame (c : Nat) (s : State) :
    (chanGone c s).img = s.img ∧ (chanGone c s).abt = s.abt ∧ (chanGone c s).mode = s.mode ∧ (chanGone c s).sb = s.sb ∧
    (chanGone c s).pending = s.pending := by
  unfold chanGone
  (repeat' split) <;> simp -implicitDefEqProofs (maxDischargeDepth := 6)

def Foot.chanGone : List Reg := [.CSN_POOL, .CSN_PSPILL, .CSN_STAT, .ENG_STAT, .GLB_DMASTAT, .GLB_SLOT, .GLB_VSSTAT, .JNL_CMDRES, .JNL_HEAD, .JNL_STAT, .JNL_TAIL, .KEY_NONCE, .KEY_SLOT, .KEY_SLOTHASH, .KEY_STAT, .PIR_BUFEXP, .PIR_BUFOCC, .PIR_CLOSE, .PIR_CPLTRK, .PIR_ERRCNT2, .PIR_EXPMON, .PIR_FBPORT, .PIR_PFCNT, .PMC_BSTAT, .PMC_CNT, .PMC_STAT, .REC_PFSTAT, .REC_TRGCFG, .REC_TRGCNT, .SPN_CALSTAT, .SPN_COEF, .SPN_FLSTAT, .SPN_PSTAT]

@[simp] theorem chanGone_rd (c : Nat) (s : State) (reg : Reg) (rix : Nat) (hav : avoids Foot.chanGone reg = true) :
    (chanGone c s).rd reg rix = s.rd reg rix := by
  have c0 : avoids Foot.refreshSpill reg = true := avoids_mono (by decide) hav
  have c1 : avoids Foot.losePages reg = true := avoids_mono (by decide) hav
  unfold chanGone
  (repeat' split) <;> simp -implicitDefEqProofs (maxDischargeDepth := 6) [*]

@[simp] theorem unitGone_frame (d : Nat) (s : State) :
    (unitGone d s).img = s.img ∧ (unitGone d s).abt = s.abt ∧ (unitGone d s).mode = s.mode ∧ (unitGone d s).sb = s.sb ∧
    (unitGone d s).pending = s.pending := by
  unfold unitGone
  (repeat' split) <;> simp -implicitDefEqProofs (maxDischargeDepth := 6)

def Foot.unitGone : List Reg := [.CSN_POOL, .CSN_PSPILL, .CSN_STAT, .DCK_STAT, .ENG_CTL, .ENG_STAT, .GLB_DMASTAT, .GLB_PLANES, .GLB_SLOT, .GLB_VSSTAT, .JNL_CMDRES, .JNL_HEAD, .JNL_STAT, .JNL_TAIL, .KEY_NONCE, .KEY_SLOT, .KEY_SLOTHASH, .KEY_STAT, .PIR_BUFEXP, .PIR_BUFOCC, .PIR_CLOSE, .PIR_CPLTRK, .PIR_DUTY, .PIR_ERRCNT2, .PIR_EXPMON, .PIR_FBPORT, .PIR_PFCNT, .PMC_BSTAT, .PMC_CNT, .PMC_STAT, .REC_PFSTAT, .REC_TRGCFG, .REC_TRGCNT, .SPN_CALSTAT, .SPN_COEF, .SPN_FLSTAT, .SPN_PSTAT]

@[simp] theorem unitGone_rd (d : Nat) (s : State) (reg : Reg) (rix : Nat) (hav : avoids Foot.unitGone reg = true) :
    (unitGone d s).rd reg rix = s.rd reg rix := by
  have c0 : avoids Foot.setPlane reg = true := avoids_mono (by decide) hav
  have c1 : avoids Foot.setEngQ reg = true := avoids_mono (by decide) hav
  have c2 : avoids Foot.discardPortTlps reg = true := avoids_mono (by decide) hav
  have c3 : avoids Foot.flushEgress reg = true := avoids_mono (by decide) hav
  have c4 : avoids Foot.clearSlice reg = true := avoids_mono (by decide) hav
  have c5 : avoids Foot.endPlanned reg = true := avoids_mono (by decide) hav
  have c6 : avoids Foot.wipeLocal reg = true := avoids_mono (by decide) hav
  have c7 : avoids Foot.chanGone reg = true := avoids_mono (by decide) hav
  have f0 : reg ≠ F.ENG_STAT_STATE.reg := avoids_ne (by decide) hav
  unfold unitGone
  (repeat' split) <;> simp -implicitDefEqProofs (maxDischargeDepth := 6) [*]

@[simp] theorem closureCycle_frame (n : Nat) (s : State) :
    (closureCycle n s).env = s.env ∧ (closureCycle n s).jrn = s.jrn ∧ (closureCycle n s).err = s.err ∧
    (closureCycle n s).ports = s.ports ∧ (closureCycle n s).deck = s.deck ∧ (closureCycle n s).csn = s.csn ∧
    (closureCycle n s).fl = s.fl ∧ (closureCycle n s).host = s.host ∧ (closureCycle n s).fab = s.fab ∧
    (closureCycle n s).eng = s.eng ∧ (closureCycle n s).img = s.img ∧ (closureCycle n s).rcd = s.rcd ∧
    (closureCycle n s).pmc = s.pmc ∧ (closureCycle n s).abt = s.abt ∧ (closureCycle n s).key = s.key ∧
    (closureCycle n s).sb = s.sb ∧ (closureCycle n s).pending = s.pending := by
  unfold closureCycle
  (repeat' split) <;> simp -implicitDefEqProofs (maxDischargeDepth := 6)

def Foot.closureCycle : List Reg := [.CLK_ISLSTAT, .GLB_PIERSTAT, .PWD_STAT]

@[simp] theorem closureCycle_rd (n : Nat) (s : State) (reg : Reg) (rix : Nat) (hav : avoids Foot.closureCycle reg = true) :
    (closureCycle n s).rd reg rix = s.rd reg rix := by
  have c0 : avoids Foot.powerOn reg = true := avoids_mono (by decide) hav
  have f0 : reg ≠ F.GLB_PIERSTAT_STATE.reg := avoids_ne (by decide) hav
  unfold closureCycle
  (repeat' split) <;> simp -implicitDefEqProofs (maxDischargeDepth := 6) [*]

@[simp] theorem reducedExit_frame (s : State) :
    (reducedExit s).env = s.env ∧ (reducedExit s).jrn = s.jrn ∧ (reducedExit s).err = s.err ∧
    (reducedExit s).ports = s.ports ∧ (reducedExit s).deck = s.deck ∧ (reducedExit s).csn = s.csn ∧
    (reducedExit s).fl = s.fl ∧ (reducedExit s).host = s.host ∧ (reducedExit s).fab = s.fab ∧ (reducedExit s).eng = s.eng ∧
    (reducedExit s).img = s.img ∧ (reducedExit s).rcd = s.rcd ∧ (reducedExit s).pmc = s.pmc ∧ (reducedExit s).abt = s.abt ∧
    (reducedExit s).key = s.key ∧ (reducedExit s).sb = s.sb ∧ (reducedExit s).pending = s.pending := by
  unfold reducedExit
  (repeat' split) <;> simp -implicitDefEqProofs (maxDischargeDepth := 6)

def Foot.reducedExit : List Reg := [.CLK_ISLSTAT, .GLB_MODE, .PWD_STAT]

@[simp] theorem reducedExit_rd (s : State) (reg : Reg) (rix : Nat) (hav : avoids Foot.reducedExit reg = true) :
    (reducedExit s).rd reg rix = s.rd reg rix := by
  have c0 : avoids Foot.powerOn reg = true := avoids_mono (by decide) hav
  have f0 : reg ≠ F.GLB_MODE_EXITING.reg := avoids_ne (by decide) hav
  unfold reducedExit
  (repeat' split) <;> simp -implicitDefEqProofs (maxDischargeDepth := 6) [*]

@[simp] theorem entryEnd_frame (s : State) :
    (entryEnd s).env = s.env ∧ (entryEnd s).jrn = s.jrn ∧ (entryEnd s).err = s.err ∧ (entryEnd s).ports = s.ports ∧
    (entryEnd s).deck = s.deck ∧ (entryEnd s).csn = s.csn ∧ (entryEnd s).fl = s.fl ∧ (entryEnd s).host = s.host ∧
    (entryEnd s).fab = s.fab ∧ (entryEnd s).eng = s.eng ∧ (entryEnd s).img = s.img ∧ (entryEnd s).rcd = s.rcd ∧
    (entryEnd s).pmc = s.pmc ∧ (entryEnd s).abt = s.abt ∧ (entryEnd s).key = s.key ∧ (entryEnd s).sb = s.sb ∧
    (entryEnd s).pending = s.pending := by
  unfold entryEnd
  (repeat' split) <;> simp -implicitDefEqProofs (maxDischargeDepth := 6)

def Foot.entryEnd : List Reg := [.CLK_ISLSTAT, .GLB_MODE, .PWD_STAT]

@[simp] theorem entryEnd_rd (s : State) (reg : Reg) (rix : Nat) (hav : avoids Foot.entryEnd reg = true) :
    (entryEnd s).rd reg rix = s.rd reg rix := by
  have c0 : avoids Foot.reducedExit reg = true := avoids_mono (by decide) hav
  have f0 : reg ≠ F.GLB_MODE_ENTERING.reg := avoids_ne (by decide) hav
  unfold entryEnd
  (repeat' split) <;> simp -implicitDefEqProofs (maxDischargeDepth := 6) [*]

@[simp] theorem dutiesHome_frame (n : Nat) (s : State) :
    (dutiesHome n s).env = s.env ∧ (dutiesHome n s).jrn = s.jrn ∧ (dutiesHome n s).err = s.err ∧
    (dutiesHome n s).ports = s.ports ∧ (dutiesHome n s).deck = s.deck ∧ (dutiesHome n s).csn = s.csn ∧
    (dutiesHome n s).fl = s.fl ∧ (dutiesHome n s).host = s.host ∧ (dutiesHome n s).fab = s.fab ∧
    (dutiesHome n s).img = s.img ∧ (dutiesHome n s).rcd = s.rcd ∧ (dutiesHome n s).pmc = s.pmc ∧
    (dutiesHome n s).abt = s.abt ∧ (dutiesHome n s).mode = s.mode ∧ (dutiesHome n s).key = s.key ∧
    (dutiesHome n s).sb = s.sb ∧ (dutiesHome n s).pending = s.pending := by
  unfold dutiesHome
  (repeat' split) <;> simp -implicitDefEqProofs (maxDischargeDepth := 6)

def Foot.dutiesHome : List Reg := [.ENG_STAT, .PIR_DUTY]

@[simp] theorem dutiesHome_rd (n : Nat) (s : State) (reg : Reg) (rix : Nat) (hav : avoids Foot.dutiesHome reg = true) :
    (dutiesHome n s).rd reg rix = s.rd reg rix := by
  have c0 : avoids Foot.planMove reg = true := avoids_mono (by decide) hav
  unfold dutiesHome
  (repeat' split) <;> simp -implicitDefEqProofs (maxDischargeDepth := 6) [*]

@[simp] theorem applyTags_frame (sel : Nat → Bool) (s : State) :
    (applyTags sel s).env = s.env ∧ (applyTags sel s).jrn = s.jrn ∧ (applyTags sel s).err = s.err ∧
    (applyTags sel s).ports = s.ports ∧ (applyTags sel s).deck = s.deck ∧ (applyTags sel s).fl = s.fl ∧
    (applyTags sel s).host = s.host ∧ (applyTags sel s).fab = s.fab ∧ (applyTags sel s).eng = s.eng ∧
    (applyTags sel s).img = s.img ∧ (applyTags sel s).rcd = s.rcd ∧ (applyTags sel s).pmc = s.pmc ∧
    (applyTags sel s).abt = s.abt ∧ (applyTags sel s).mode = s.mode ∧ (applyTags sel s).key = s.key ∧
    (applyTags sel s).sb = s.sb ∧ (applyTags sel s).pending = s.pending := by
  unfold applyTags
  (repeat' split) <;> simp -implicitDefEqProofs (maxDischargeDepth := 6)

def Foot.applyTags : List Reg := []

@[simp] theorem applyTags_rd (sel : Nat → Bool) (s : State) (reg : Reg) (rix : Nat) (hav : avoids Foot.applyTags reg = true) :
    (applyTags sel s).rd reg rix = s.rd reg rix := by
  have c0 : avoids Foot.setTags reg = true := avoids_mono (by decide) hav
  unfold applyTags
  (repeat' split) <;> simp -implicitDefEqProofs (maxDischargeDepth := 6) [*]

@[simp] theorem engineBack_frame (g : Nat) (s : State) :
    (engineBack g s).env = s.env ∧ (engineBack g s).jrn = s.jrn ∧ (engineBack g s).err = s.err ∧
    (engineBack g s).ports = s.ports ∧ (engineBack g s).deck = s.deck ∧ (engineBack g s).csn = s.csn ∧
    (engineBack g s).fl = s.fl ∧ (engineBack g s).host = s.host ∧ (engineBack g s).fab = s.fab ∧
    (engineBack g s).img = s.img ∧ (engineBack g s).rcd = s.rcd ∧ (engineBack g s).pmc = s.pmc ∧
    (engineBack g s).abt = s.abt ∧ (engineBack g s).mode = s.mode ∧ (engineBack g s).key = s.key ∧
    (engineBack g s).sb = s.sb ∧ (engineBack g s).pending = s.pending := by
  unfold engineBack
  (repeat' split) <;> simp -implicitDefEqProofs (maxDischargeDepth := 6)

def Foot.engineBack : List Reg := [.ENG_STAT]

@[simp] theorem engineBack_rd (g : Nat) (s : State) (reg : Reg) (rix : Nat) (hav : avoids Foot.engineBack reg = true) :
    (engineBack g s).rd reg rix = s.rd reg rix := by
  have c0 : avoids Foot.loadProgram reg = true := avoids_mono (by decide) hav
  have f0 : reg ≠ F.ENG_STAT_STATE.reg := avoids_ne (by decide) hav
  unfold engineBack
  (repeat' split) <;> simp -implicitDefEqProofs (maxDischargeDepth := 6) [*]

@[simp] theorem rejoinUnit_frame (d : Nat) (s : State) :
    (rejoinUnit d s).fl = s.fl ∧ (rejoinUnit d s).fab = s.fab ∧ (rejoinUnit d s).img = s.img ∧
    (rejoinUnit d s).abt = s.abt ∧ (rejoinUnit d s).mode = s.mode ∧ (rejoinUnit d s).key = s.key ∧
    (rejoinUnit d s).sb = s.sb ∧ (rejoinUnit d s).pending = s.pending := by
  unfold rejoinUnit
  (repeat' split) <;> simp -implicitDefEqProofs (maxDischargeDepth := 6)

@[simp] theorem testFails_frame (d : Nat) (s : State) :
    (testFails d s).abt = s.abt ∧ (testFails d s).sb = s.sb ∧ (testFails d s).pending = s.pending := by
  unfold testFails
  (repeat' split) <;> simp -implicitDefEqProofs (maxDischargeDepth := 6)

def Foot.testFails : List Reg := [.CLK_ISLSTAT, .CSN_CHSTAT, .CSN_POOL, .CSN_PSPILL, .CSN_STAT, .DCK_STAT, .ENG_CTL, .ENG_STAT, .GLB_DMASTAT, .GLB_ERRSTAT, .GLB_IMGERR, .GLB_IMGSTAT, .GLB_MODE, .GLB_PIERSTAT, .GLB_PLANES, .GLB_QSTAT, .GLB_SLOT, .GLB_VSSTAT, .JNL_CMDRES, .JNL_HEAD, .JNL_STAT, .JNL_TAIL, .KEY_NONCE, .KEY_SLOT, .KEY_SLOTHASH, .KEY_STAT, .PIR_BUFEXP, .PIR_BUFOCC, .PIR_CLOSE, .PIR_CPLTRK, .PIR_DKSTAT, .PIR_DUTY, .PIR_ERRCNT2, .PIR_EXPMON, .PIR_FBPORT, .PIR_PFCNT, .PIR_PMAP, .PMC_BSTAT, .PMC_CNT, .PMC_STAT, .PWD_STAT, .REC_PFSTAT, .REC_STAT, .REC_TRGCFG, .REC_TRGCNT, .SPN_CALSTAT, .SPN_COEF, .SPN_FLSTAT, .SPN_LANE, .SPN_PSTAT]

@[simp] theorem testFails_rd (d : Nat) (s : State) (reg : Reg) (rix : Nat) (hav : avoids Foot.testFails reg = true) :
    (testFails d s).rd reg rix = s.rd reg rix := by
  have c0 : avoids Foot.setDom reg = true := avoids_mono (by decide) hav
  have c1 : avoids Foot.spanClose reg = true := avoids_mono (by decide) hav
  have c2 : avoids Foot.planeFail reg = true := avoids_mono (by decide) hav
  have c3 : avoids Foot.channelFail reg = true := avoids_mono (by decide) hav
  have c4 : avoids Foot.clusterFail reg = true := avoids_mono (by decide) hav
  have f0 : reg ≠ F.GLB_PIERSTAT_STATE.reg := avoids_ne (by decide) hav
  have f1 : reg ≠ F.PWD_STAT_BIST.reg := avoids_ne (by decide) hav
  unfold testFails
  (repeat' split) <;> simp -implicitDefEqProofs (maxDischargeDepth := 6) [*]

@[simp] theorem regulatorFault_frame (d : Nat) (s : State) :
    (regulatorFault d s).abt = s.abt ∧ (regulatorFault d s).sb = s.sb ∧ (regulatorFault d s).pending = s.pending := by
  unfold regulatorFault
  (repeat' split) <;> simp -implicitDefEqProofs (maxDischargeDepth := 6)

def Foot.regulatorFault : List Reg := [.CLK_ISLSTAT, .CSN_CHSTAT, .CSN_POOL, .CSN_PSPILL, .CSN_STAT, .DCK_STAT, .ENG_CTL, .ENG_STAT, .GLB_DMASTAT, .GLB_ERRSTAT, .GLB_IMGERR, .GLB_IMGSTAT, .GLB_MODE, .GLB_PIERSTAT, .GLB_PLANES, .GLB_QSTAT, .GLB_SLOT, .GLB_VSSTAT, .JNL_CMDRES, .JNL_HEAD, .JNL_STAT, .JNL_TAIL, .KEY_NONCE, .KEY_SLOT, .KEY_SLOTHASH, .KEY_STAT, .PIR_BUFEXP, .PIR_BUFOCC, .PIR_CLOSE, .PIR_CPLTRK, .PIR_DKSTAT, .PIR_DUTY, .PIR_ERRCNT2, .PIR_EXPMON, .PIR_FBPORT, .PIR_PFCNT, .PIR_PMAP, .PMC_BSTAT, .PMC_CNT, .PMC_STAT, .PWD_STAT, .REC_PFSTAT, .REC_STAT, .REC_TRGCFG, .REC_TRGCNT, .SPN_CALSTAT, .SPN_COEF, .SPN_FLSTAT, .SPN_LANE, .SPN_PSTAT]

@[simp] theorem regulatorFault_rd (d : Nat) (s : State) (reg : Reg) (rix : Nat) (hav : avoids Foot.regulatorFault reg = true) :
    (regulatorFault d s).rd reg rix = s.rd reg rix := by
  have c0 : avoids Foot.setDom reg = true := avoids_mono (by decide) hav
  have c1 : avoids Foot.spanClose reg = true := avoids_mono (by decide) hav
  have c2 : avoids Foot.pierClose reg = true := avoids_mono (by decide) hav
  have c3 : avoids Foot.planeFail reg = true := avoids_mono (by decide) hav
  have c4 : avoids Foot.channelFail reg = true := avoids_mono (by decide) hav
  have c5 : avoids Foot.liveFault reg = true := avoids_mono (by decide) hav
  have c6 : avoids Foot.clusterFail reg = true := avoids_mono (by decide) hav
  have f0 : reg ≠ F.GLB_PIERSTAT_STATE.reg := avoids_ne (by decide) hav
  have f1 : reg ≠ F.PWD_STAT_FAULT.reg := avoids_ne (by decide) hav
  unfold regulatorFault
  (repeat' split) <;> simp -implicitDefEqProofs (maxDischargeDepth := 6) [*]

@[simp] theorem parkUpper_frame (s : State) :
    (parkUpper s).env = s.env ∧ (parkUpper s).jrn = s.jrn ∧ (parkUpper s).err = s.err ∧ (parkUpper s).ports = s.ports ∧
    (parkUpper s).deck = s.deck ∧ (parkUpper s).csn = s.csn ∧ (parkUpper s).fl = s.fl ∧ (parkUpper s).host = s.host ∧
    (parkUpper s).fab = s.fab ∧ (parkUpper s).img = s.img ∧ (parkUpper s).rcd = s.rcd ∧ (parkUpper s).pmc = s.pmc ∧
    (parkUpper s).abt = s.abt ∧ (parkUpper s).mode = s.mode ∧ (parkUpper s).key = s.key ∧ (parkUpper s).sb = s.sb ∧
    (parkUpper s).pending = s.pending := by
  unfold parkUpper
  (repeat' split) <;> simp -implicitDefEqProofs (maxDischargeDepth := 6)

def Foot.parkUpper : List Reg := [.ENG_CTL, .ENG_STAT, .PIR_DUTY]

@[simp] theorem parkUpper_rd (s : State) (reg : Reg) (rix : Nat) (hav : avoids Foot.parkUpper reg = true) :
    (parkUpper s).rd reg rix = s.rd reg rix := by
  have c0 : avoids Foot.parkEngines reg = true := avoids_mono (by decide) hav
  unfold parkUpper
  (repeat' split) <;> simp -implicitDefEqProofs (maxDischargeDepth := 6) [*]

@[simp] theorem applyCaps_frame (s : State) :
    (applyCaps s).env = s.env ∧ (applyCaps s).jrn = s.jrn ∧ (applyCaps s).err = s.err ∧ (applyCaps s).deck = s.deck ∧
    (applyCaps s).csn = s.csn ∧ (applyCaps s).host = s.host ∧ (applyCaps s).fab = s.fab ∧ (applyCaps s).eng = s.eng ∧
    (applyCaps s).img = s.img ∧ (applyCaps s).rcd = s.rcd ∧ (applyCaps s).pmc = s.pmc ∧ (applyCaps s).abt = s.abt ∧
    (applyCaps s).mode = s.mode ∧ (applyCaps s).key = s.key ∧ (applyCaps s).sb = s.sb ∧ (applyCaps s).pending = s.pending := by
  unfold applyCaps
  (repeat' split) <;> simp -implicitDefEqProofs (maxDischargeDepth := 6)

def Foot.applyCaps : List Reg := [.SPN_CALSTAT, .SPN_COEF, .SPN_FLSTAT, .SPN_LANE, .SPN_PSTAT]

@[simp] theorem applyCaps_rd (s : State) (reg : Reg) (rix : Nat) (hav : avoids Foot.applyCaps reg = true) :
    (applyCaps s).rd reg rix = s.rd reg rix := by
  have c0 : avoids Foot.applyCap reg = true := avoids_mono (by decide) hav
  have c1 : avoids Foot.checkCap reg = true := avoids_mono (by decide) hav
  unfold applyCaps
  (repeat' split) <;> simp -implicitDefEqProofs (maxDischargeDepth := 6) [*]

@[simp] theorem reducedEnter_frame (s : State) :
    (reducedEnter s).jrn = s.jrn ∧ (reducedEnter s).fab = s.fab ∧ (reducedEnter s).img = s.img ∧
    (reducedEnter s).abt = s.abt ∧ (reducedEnter s).key = s.key ∧ (reducedEnter s).sb = s.sb ∧
    (reducedEnter s).pending = s.pending := by
  unfold reducedEnter
  (repeat' split) <;> simp -implicitDefEqProofs (maxDischargeDepth := 6)

def Foot.reducedEnter : List Reg := [.ENG_CTL, .ENG_STAT, .GLB_MODE, .PIR_BUFEXP, .PIR_BUFOCC, .PIR_CPLTRK, .PIR_DUTY, .PIR_ERRCNT2, .PIR_EXPMON, .PIR_FBPORT, .PMC_STAT, .REC_TRGCFG, .REC_TRGCNT, .SPN_CALSTAT, .SPN_COEF, .SPN_FLSTAT, .SPN_LANE, .SPN_PSTAT]

@[simp] theorem reducedEnter_rd (s : State) (reg : Reg) (rix : Nat) (hav : avoids Foot.reducedEnter reg = true) :
    (reducedEnter s).rd reg rix = s.rd reg rix := by
  have c0 : avoids Foot.setMode reg = true := avoids_mono (by decide) hav
  have c1 : avoids Foot.parkUpper reg = true := avoids_mono (by decide) hav
  have c2 : avoids Foot.applyCaps reg = true := avoids_mono (by decide) hav
  have f0 : reg ≠ F.GLB_MODE_ENTERING.reg := avoids_ne (by decide) hav
  have f1 : reg ≠ F.GLB_MODE_EXITING.reg := avoids_ne (by decide) hav
  unfold reducedEnter
  (repeat' split) <;> simp -implicitDefEqProofs (maxDischargeDepth := 6) [*]

@[simp] theorem weighCauses_frame (s : State) :
    (weighCauses s).fab = s.fab ∧ (weighCauses s).abt = s.abt ∧ (weighCauses s).sb = s.sb ∧
    (weighCauses s).pending = s.pending := by
  unfold weighCauses
  (repeat' split) <;> simp -implicitDefEqProofs (maxDischargeDepth := 6)

def Foot.weighCauses : List Reg := [.CLK_ISLSTAT, .ENG_CTL, .ENG_STAT, .GLB_IMGERR, .GLB_IMGSTAT, .GLB_MODE, .JNL_CMDRES, .JNL_HEAD, .JNL_STAT, .JNL_TAIL, .KEY_NONCE, .KEY_SLOT, .KEY_SLOTHASH, .KEY_STAT, .PIR_BUFEXP, .PIR_BUFOCC, .PIR_CPLTRK, .PIR_DUTY, .PIR_ERRCNT2, .PIR_EXPMON, .PIR_FBPORT, .PMC_BSTAT, .PMC_CNT, .PMC_STAT, .PWD_STAT, .REC_TRGCFG, .REC_TRGCNT, .SPN_CALSTAT, .SPN_COEF, .SPN_FLSTAT, .SPN_LANE, .SPN_PSTAT]

@[simp] theorem weighCauses_rd (s : State) (reg : Reg) (rix : Nat) (hav : avoids Foot.weighCauses reg = true) :
    (weighCauses s).rd reg rix = s.rd reg rix := by
  have c0 : avoids Foot.liveFault reg = true := avoids_mono (by decide) hav
  have c1 : avoids Foot.reducedExit reg = true := avoids_mono (by decide) hav
  have c2 : avoids Foot.reducedEnter reg = true := avoids_mono (by decide) hav
  unfold weighCauses
  (repeat' split) <;> simp -implicitDefEqProofs (maxDischargeDepth := 6) [*]

@[simp] theorem emptyUnits_frame (s : State) :
    (emptyUnits s).env = s.env ∧ (emptyUnits s).jrn = s.jrn ∧ (emptyUnits s).err = s.err ∧ (emptyUnits s).host = s.host ∧
    (emptyUnits s).img = s.img ∧ (emptyUnits s).rcd = s.rcd ∧ (emptyUnits s).pmc = s.pmc ∧ (emptyUnits s).abt = s.abt ∧
    (emptyUnits s).mode = s.mode ∧ (emptyUnits s).key = s.key ∧ (emptyUnits s).sb = s.sb ∧
    (emptyUnits s).pending = s.pending := by
  unfold emptyUnits
  simp -implicitDefEqProofs

@[simp] theorem allOff_frame (s : State) :
    (allOff s).env = s.env ∧ (allOff s).jrn = s.jrn ∧ (allOff s).err = s.err ∧ (allOff s).host = s.host ∧
    (allOff s).rcd = s.rcd ∧ (allOff s).pmc = s.pmc ∧ (allOff s).abt = s.abt ∧ (allOff s).key = s.key ∧
    (allOff s).sb = s.sb ∧ (allOff s).pending = s.pending := by
  unfold allOff
  (repeat' split) <;> simp -implicitDefEqProofs (maxDischargeDepth := 6)

@[simp] theorem leaveQuarantine_frame (s : State) :
    (leaveQuarantine s).env = s.env ∧ (leaveQuarantine s).jrn = s.jrn ∧ (leaveQuarantine s).err = s.err ∧
    (leaveQuarantine s).ports = s.ports ∧ (leaveQuarantine s).deck = s.deck ∧ (leaveQuarantine s).csn = s.csn ∧
    (leaveQuarantine s).fl = s.fl ∧ (leaveQuarantine s).host = s.host ∧ (leaveQuarantine s).fab = s.fab ∧
    (leaveQuarantine s).eng = s.eng ∧ (leaveQuarantine s).img = s.img ∧ (leaveQuarantine s).rcd = s.rcd ∧
    (leaveQuarantine s).pmc = s.pmc ∧ (leaveQuarantine s).abt = s.abt ∧ (leaveQuarantine s).key = s.key ∧
    (leaveQuarantine s).sb = s.sb ∧ (leaveQuarantine s).pending = s.pending := by
  unfold leaveQuarantine
  (repeat' split) <;> simp -implicitDefEqProofs (maxDischargeDepth := 6)

def Foot.leaveQuarantine : List Reg := [.GLB_QSTAT]

@[simp] theorem leaveQuarantine_rd (s : State) (reg : Reg) (rix : Nat) (hav : avoids Foot.leaveQuarantine reg = true) :
    (leaveQuarantine s).rd reg rix = s.rd reg rix := by
  have f0 : reg ≠ .GLB_QSTAT := avoids_ne (by decide) hav
  unfold leaveQuarantine
  (repeat' split) <;> simp -implicitDefEqProofs (maxDischargeDepth := 6) [*]

@[simp] theorem thermalShutdown_frame (s : State) :
    (thermalShutdown s).abt = s.abt ∧ (thermalShutdown s).sb = s.sb ∧ (thermalShutdown s).pending = s.pending := by
  unfold thermalShutdown
  (repeat' split) <;> simp -implicitDefEqProofs (maxDischargeDepth := 6)

@[simp] theorem setFeed_frame (f : Nat) (x : Feed) (s : State) :
    (setFeed f x s).env = s.env ∧ (setFeed f x s).jrn = s.jrn ∧ (setFeed f x s).err = s.err ∧
    (setFeed f x s).ports = s.ports ∧ (setFeed f x s).deck = s.deck ∧ (setFeed f x s).csn = s.csn ∧
    (setFeed f x s).fl = s.fl ∧ (setFeed f x s).host = s.host ∧ (setFeed f x s).fab = s.fab ∧ (setFeed f x s).eng = s.eng ∧
    (setFeed f x s).img = s.img ∧ (setFeed f x s).rcd = s.rcd ∧ (setFeed f x s).pmc = s.pmc ∧
    (setFeed f x s).mode = s.mode ∧ (setFeed f x s).key = s.key ∧ (setFeed f x s).sb = s.sb ∧
    (setFeed f x s).pending = s.pending := by
  unfold setFeed
  (repeat' split) <;> simp -implicitDefEqProofs (maxDischargeDepth := 6)

def Foot.setFeed : List Reg := []

@[simp] theorem setFeed_rd (f : Nat) (x : Feed) (s : State) (reg : Reg) (rix : Nat) (hav : avoids Foot.setFeed reg = true) :
    (setFeed f x s).rd reg rix = s.rd reg rix := by
  unfold setFeed
  (repeat' split) <;> simp -implicitDefEqProofs (maxDischargeDepth := 6) [*]

@[simp] theorem setFeedSt_frame (f st : Nat) (s : State) :
    (setFeedSt f st s).env = s.env ∧ (setFeedSt f st s).jrn = s.jrn ∧ (setFeedSt f st s).err = s.err ∧
    (setFeedSt f st s).ports = s.ports ∧ (setFeedSt f st s).deck = s.deck ∧ (setFeedSt f st s).csn = s.csn ∧
    (setFeedSt f st s).fl = s.fl ∧ (setFeedSt f st s).host = s.host ∧ (setFeedSt f st s).fab = s.fab ∧
    (setFeedSt f st s).eng = s.eng ∧ (setFeedSt f st s).img = s.img ∧ (setFeedSt f st s).rcd = s.rcd ∧
    (setFeedSt f st s).pmc = s.pmc ∧ (setFeedSt f st s).abt = s.abt ∧ (setFeedSt f st s).mode = s.mode ∧
    (setFeedSt f st s).key = s.key ∧ (setFeedSt f st s).sb = s.sb ∧ (setFeedSt f st s).pending = s.pending := by
  unfold setFeedSt
  (repeat' split) <;> simp -implicitDefEqProofs (maxDischargeDepth := 6)

def Foot.setFeedSt : List Reg := [.ABT_FEED]

@[simp] theorem setFeedSt_rd (f st : Nat) (s : State) (reg : Reg) (rix : Nat) (hav : avoids Foot.setFeedSt reg = true) :
    (setFeedSt f st s).rd reg rix = s.rd reg rix := by
  have f0 : reg ≠ F.ABT_FEED_STATE.reg := avoids_ne (by decide) hav
  unfold setFeedSt
  (repeat' split) <;> simp -implicitDefEqProofs (maxDischargeDepth := 6) [*]

@[simp] theorem setSupply_frame (k : Nat) (s : State) :
    (setSupply k s).env = s.env ∧ (setSupply k s).jrn = s.jrn ∧ (setSupply k s).err = s.err ∧
    (setSupply k s).ports = s.ports ∧ (setSupply k s).deck = s.deck ∧ (setSupply k s).csn = s.csn ∧
    (setSupply k s).fl = s.fl ∧ (setSupply k s).host = s.host ∧ (setSupply k s).fab = s.fab ∧ (setSupply k s).eng = s.eng ∧
    (setSupply k s).img = s.img ∧ (setSupply k s).rcd = s.rcd ∧ (setSupply k s).pmc = s.pmc ∧ (setSupply k s).abt = s.abt ∧
    (setSupply k s).mode = s.mode ∧ (setSupply k s).key = s.key ∧ (setSupply k s).sb = s.sb ∧
    (setSupply k s).pending = s.pending := by
  unfold setSupply
  (repeat' split) <;> simp -implicitDefEqProofs (maxDischargeDepth := 6)

def Foot.setSupply : List Reg := [.ABT_STAT]

@[simp] theorem setSupply_rd (k : Nat) (s : State) (reg : Reg) (rix : Nat) (hav : avoids Foot.setSupply reg = true) :
    (setSupply k s).rd reg rix = s.rd reg rix := by
  have f0 : reg ≠ F.ABT_STAT_SUPPLY.reg := avoids_ne (by decide) hav
  unfold setSupply
  (repeat' split) <;> simp -implicitDefEqProofs (maxDischargeDepth := 6) [*]

@[simp] theorem alertNew_frame (old : Nat) (s : State) :
    (alertNew old s).jrn = s.jrn ∧ (alertNew old s).csn = s.csn ∧ (alertNew old s).fl = s.fl ∧
    (alertNew old s).fab = s.fab ∧ (alertNew old s).eng = s.eng ∧ (alertNew old s).img = s.img ∧
    (alertNew old s).rcd = s.rcd ∧ (alertNew old s).pmc = s.pmc ∧ (alertNew old s).abt = s.abt ∧
    (alertNew old s).mode = s.mode ∧ (alertNew old s).key = s.key ∧ (alertNew old s).sb = s.sb ∧
    (alertNew old s).pending = s.pending := by
  unfold alertNew
  (repeat' split) <;> simp -implicitDefEqProofs (maxDischargeDepth := 6)

def Foot.alertNew : List Reg := [.PIR_BUFEXP, .PIR_BUFOCC, .PIR_CPLTRK, .PIR_ERRCNT2, .PIR_EXPMON, .PIR_FBPORT]

@[simp] theorem alertNew_rd (old : Nat) (s : State) (reg : Reg) (rix : Nat) (hav : avoids Foot.alertNew reg = true) :
    (alertNew old s).rd reg rix = s.rd reg rix := by
  have c0 : avoids Foot.msixOwner reg = true := avoids_mono (by decide) hav
  unfold alertNew
  (repeat' split) <;> simp -implicitDefEqProofs (maxDischargeDepth := 6) [*]

@[simp] theorem abtEvent_frame (code f : Nat) (s : State) :
    (abtEvent code f s).jrn = s.jrn ∧ (abtEvent code f s).csn = s.csn ∧ (abtEvent code f s).fl = s.fl ∧
    (abtEvent code f s).fab = s.fab ∧ (abtEvent code f s).eng = s.eng ∧ (abtEvent code f s).img = s.img ∧
    (abtEvent code f s).mode = s.mode ∧ (abtEvent code f s).key = s.key ∧ (abtEvent code f s).sb = s.sb ∧
    (abtEvent code f s).pending = s.pending := by
  unfold abtEvent
  (repeat' split) <;> simp -implicitDefEqProofs (maxDischargeDepth := 6)

def Foot.abtEvent : List Reg := [.ABT_EVENT, .PIR_BUFEXP, .PIR_BUFOCC, .PIR_CPLTRK, .PIR_ERRCNT2, .PIR_EXPMON, .PIR_FBPORT, .PMC_STAT, .REC_TRGCFG, .REC_TRGCNT]

@[simp] theorem abtEvent_rd (code f : Nat) (s : State) (reg : Reg) (rix : Nat) (hav : avoids Foot.abtEvent reg = true) :
    (abtEvent code f s).rd reg rix = s.rd reg rix := by
  have c0 : avoids Foot.trigEvent reg = true := avoids_mono (by decide) hav
  have c1 : avoids Foot.alertNew reg = true := avoids_mono (by decide) hav
  have f0 : reg ≠ F.ABT_EVENT_EVENT.reg := avoids_ne (by decide) hav
  unfold abtEvent
  (repeat' split) <;> simp -implicitDefEqProofs (maxDischargeDepth := 6) [*]

@[simp] theorem timerIdle_frame (f : Nat) (s : State) :
    (timerIdle f s).env = s.env ∧ (timerIdle f s).jrn = s.jrn ∧ (timerIdle f s).err = s.err ∧
    (timerIdle f s).ports = s.ports ∧ (timerIdle f s).deck = s.deck ∧ (timerIdle f s).csn = s.csn ∧
    (timerIdle f s).fl = s.fl ∧ (timerIdle f s).host = s.host ∧ (timerIdle f s).fab = s.fab ∧ (timerIdle f s).eng = s.eng ∧
    (timerIdle f s).img = s.img ∧ (timerIdle f s).rcd = s.rcd ∧ (timerIdle f s).pmc = s.pmc ∧
    (timerIdle f s).mode = s.mode ∧ (timerIdle f s).key = s.key ∧ (timerIdle f s).sb = s.sb ∧
    (timerIdle f s).pending = s.pending := by
  unfold timerIdle
  (repeat' split) <;> simp -implicitDefEqProofs (maxDischargeDepth := 6)

def Foot.timerIdle : List Reg := [.ABT_STAT]

@[simp] theorem timerIdle_rd (f : Nat) (s : State) (reg : Reg) (rix : Nat) (hav : avoids Foot.timerIdle reg = true) :
    (timerIdle f s).rd reg rix = s.rd reg rix := by
  have c0 : avoids Foot.setFeed reg = true := avoids_mono (by decide) hav
  have f0 : reg ≠ F.ABT_STAT_FAULT_PENDING.reg := avoids_ne (by decide) hav
  unfold timerIdle
  (repeat' split) <;> simp -implicitDefEqProofs (maxDischargeDepth := 6) [*]

@[simp] theorem rampLost_frame (f : Nat) (s : State) :
    (rampLost f s).env = s.env ∧ (rampLost f s).jrn = s.jrn ∧ (rampLost f s).err = s.err ∧ (rampLost f s).ports = s.ports ∧
    (rampLost f s).deck = s.deck ∧ (rampLost f s).csn = s.csn ∧ (rampLost f s).fl = s.fl ∧ (rampLost f s).host = s.host ∧
    (rampLost f s).fab = s.fab ∧ (rampLost f s).eng = s.eng ∧ (rampLost f s).img = s.img ∧ (rampLost f s).rcd = s.rcd ∧
    (rampLost f s).pmc = s.pmc ∧ (rampLost f s).mode = s.mode ∧ (rampLost f s).key = s.key ∧ (rampLost f s).sb = s.sb ∧
    (rampLost f s).pending = s.pending := by
  unfold rampLost
  (repeat' split) <;> simp -implicitDefEqProofs (maxDischargeDepth := 6)

def Foot.rampLost : List Reg := [.ABT_STAT]

@[simp] theorem rampLost_rd (f : Nat) (s : State) (reg : Reg) (rix : Nat) (hav : avoids Foot.rampLost reg = true) :
    (rampLost f s).rd reg rix = s.rd reg rix := by
  have c0 : avoids Foot.setSupply reg = true := avoids_mono (by decide) hav
  unfold rampLost
  (repeat' split) <;> simp -implicitDefEqProofs (maxDischargeDepth := 6) [*]

@[simp] theorem feedOff_frame (f st cause : Nat) (s : State) :
    (feedOff f st cause s).env = s.env ∧ (feedOff f st cause s).jrn = s.jrn ∧ (feedOff f st cause s).err = s.err ∧
    (feedOff f st cause s).ports = s.ports ∧ (feedOff f st cause s).deck = s.deck ∧ (feedOff f st cause s).csn = s.csn ∧
    (feedOff f st cause s).fl = s.fl ∧ (feedOff f st cause s).host = s.host ∧ (feedOff f st cause s).fab = s.fab ∧
    (feedOff f st cause s).eng = s.eng ∧ (feedOff f st cause s).img = s.img ∧ (feedOff f st cause s).rcd = s.rcd ∧
    (feedOff f st cause s).pmc = s.pmc ∧ (feedOff f st cause s).mode = s.mode ∧ (feedOff f st cause s).key = s.key ∧
    (feedOff f st cause s).sb = s.sb ∧ (feedOff f st cause s).pending = s.pending := by
  unfold feedOff
  (repeat' split) <;> simp -implicitDefEqProofs (maxDischargeDepth := 6)

def Foot.feedOff : List Reg := [.ABT_FEED, .ABT_STAT]

@[simp] theorem feedOff_rd (f st cause : Nat) (s : State) (reg : Reg) (rix : Nat) (hav : avoids Foot.feedOff reg = true) :
    (feedOff f st cause s).rd reg rix = s.rd reg rix := by
  have c0 : avoids Foot.setFeedSt reg = true := avoids_mono (by decide) hav
  have c1 : avoids Foot.timerIdle reg = true := avoids_mono (by decide) hav
  have c2 : avoids Foot.rampLost reg = true := avoids_mono (by decide) hav
  have f0 : reg ≠ F.ABT_FEED_LASTOFF.reg := avoids_ne (by decide) hav
  unfold feedOff
  (repeat' split) <;> simp -implicitDefEqProofs (maxDischargeDepth := 6) [*]

@[simp] theorem feedTrip_frame (f cause : Nat) (s : State) :
    (feedTrip f cause s).jrn = s.jrn ∧ (feedTrip f cause s).csn = s.csn ∧ (feedTrip f cause s).fl = s.fl ∧
    (feedTrip f cause s).fab = s.fab ∧ (feedTrip f cause s).eng = s.eng ∧ (feedTrip f cause s).img = s.img ∧
    (feedTrip f cause s).mode = s.mode ∧ (feedTrip f cause s).key = s.key ∧ (feedTrip f cause s).sb = s.sb ∧
    (feedTrip f cause s).pending = s.pending := by
  unfold feedTrip
  (repeat' split) <;> simp -implicitDefEqProofs (maxDischargeDepth := 6)

def Foot.feedTrip : List Reg := [.ABT_EVENT, .ABT_FEED, .ABT_STAT, .PIR_BUFEXP, .PIR_BUFOCC, .PIR_CPLTRK, .PIR_ERRCNT2, .PIR_EXPMON, .PIR_FBPORT, .PMC_STAT, .REC_TRGCFG, .REC_TRGCNT]

@[simp] theorem feedTrip_rd (f cause : Nat) (s : State) (reg : Reg) (rix : Nat) (hav : avoids Foot.feedTrip reg = true) :
    (feedTrip f cause s).rd reg rix = s.rd reg rix := by
  have c0 : avoids Foot.abtEvent reg = true := avoids_mono (by decide) hav
  have c1 : avoids Foot.feedOff reg = true := avoids_mono (by decide) hav
  have f0 : reg ≠ F.ABT_FEED_TRIPS.reg := avoids_ne (by decide) hav
  unfold feedTrip
  (repeat' split) <;> simp -implicitDefEqProofs (maxDischargeDepth := 6) [*]

@[simp] theorem braceRelease_frame (s : State) :
    (braceRelease s).env = s.env ∧ (braceRelease s).jrn = s.jrn ∧ (braceRelease s).err = s.err ∧
    (braceRelease s).deck = s.deck ∧ (braceRelease s).fl = s.fl ∧ (braceRelease s).host = s.host ∧
    (braceRelease s).fab = s.fab ∧ (braceRelease s).eng = s.eng ∧ (braceRelease s).img = s.img ∧
    (braceRelease s).rcd = s.rcd ∧ (braceRelease s).pmc = s.pmc ∧ (braceRelease s).abt = s.abt ∧
    (braceRelease s).mode = s.mode ∧ (braceRelease s).key = s.key ∧ (braceRelease s).sb = s.sb ∧
    (braceRelease s).pending = s.pending := by
  unfold braceRelease
  (repeat' split) <;> simp -implicitDefEqProofs (maxDischargeDepth := 6)

def Foot.braceRelease : List Reg := []

@[simp] theorem braceRelease_rd (s : State) (reg : Reg) (rix : Nat) (hav : avoids Foot.braceRelease reg = true) :
    (braceRelease s).rd reg rix = s.rd reg rix := by
  unfold braceRelease
  (repeat' split) <;> simp -implicitDefEqProofs (maxDischargeDepth := 6) [*]

@[simp] theorem shutdown_frame (s : State) :
    (shutdown s).sb = s.sb ∧ (shutdown s).pending = s.pending := by
  unfold shutdown
  (repeat' split) <;> simp -implicitDefEqProofs (maxDischargeDepth := 6)

@[simp] theorem supplyLost_frame (s : State) :
    (supplyLost s).sb = s.sb ∧ (supplyLost s).pending = s.pending := by
  unfold supplyLost
  (repeat' split) <;> simp -implicitDefEqProofs (maxDischargeDepth := 6)

@[simp] theorem startSwitch_frame (y : Nat) (s : State) :
    (startSwitch y s).env = s.env ∧ (startSwitch y s).jrn = s.jrn ∧ (startSwitch y s).err = s.err ∧
    (startSwitch y s).ports = s.ports ∧ (startSwitch y s).deck = s.deck ∧ (startSwitch y s).csn = s.csn ∧
    (startSwitch y s).fl = s.fl ∧ (startSwitch y s).host = s.host ∧ (startSwitch y s).fab = s.fab ∧
    (startSwitch y s).eng = s.eng ∧ (startSwitch y s).img = s.img ∧ (startSwitch y s).rcd = s.rcd ∧
    (startSwitch y s).pmc = s.pmc ∧ (startSwitch y s).mode = s.mode ∧ (startSwitch y s).key = s.key ∧
    (startSwitch y s).sb = s.sb ∧ (startSwitch y s).pending = s.pending := by
  unfold startSwitch
  (repeat' split) <;> simp -implicitDefEqProofs (maxDischargeDepth := 6)

def Foot.startSwitch : List Reg := [.ABT_FEED, .ABT_STAT]

@[simp] theorem startSwitch_rd (y : Nat) (s : State) (reg : Reg) (rix : Nat) (hav : avoids Foot.startSwitch reg = true) :
    (startSwitch y s).rd reg rix = s.rd reg rix := by
  have c0 : avoids Foot.feedOff reg = true := avoids_mono (by decide) hav
  have f0 : reg ≠ F.ABT_STAT_SWITCHING.reg := avoids_ne (by decide) hav
  unfold startSwitch
  (repeat' split) <;> simp -implicitDefEqProofs (maxDischargeDepth := 6) [*]

@[simp] theorem feedLeft_frame (s : State) :
    (feedLeft s).sb = s.sb ∧ (feedLeft s).pending = s.pending := by
  unfold feedLeft
  (repeat' split) <;> simp -implicitDefEqProofs (maxDischargeDepth := 6)

@[simp] theorem checkLeft_frame (s : State) :
    (checkLeft s).sb = s.sb ∧ (checkLeft s).pending = s.pending := by
  unfold checkLeft
  (repeat' split) <;> simp -implicitDefEqProofs (maxDischargeDepth := 6)

@[simp] theorem startRamp_frame (f : Nat) (s : State) :
    (startRamp f s).env = s.env ∧ (startRamp f s).jrn = s.jrn ∧ (startRamp f s).err = s.err ∧
    (startRamp f s).ports = s.ports ∧ (startRamp f s).deck = s.deck ∧ (startRamp f s).csn = s.csn ∧
    (startRamp f s).fl = s.fl ∧ (startRamp f s).host = s.host ∧ (startRamp f s).fab = s.fab ∧ (startRamp f s).eng = s.eng ∧
    (startRamp f s).img = s.img ∧ (startRamp f s).rcd = s.rcd ∧ (startRamp f s).pmc = s.pmc ∧ (startRamp f s).abt = s.abt ∧
    (startRamp f s).mode = s.mode ∧ (startRamp f s).key = s.key ∧ (startRamp f s).sb = s.sb ∧
    (startRamp f s).pending = s.pending := by
  unfold startRamp
  (repeat' split) <;> simp -implicitDefEqProofs (maxDischargeDepth := 6)

def Foot.startRamp : List Reg := [.ABT_FEED, .ABT_STAT]

@[simp] theorem startRamp_rd (f : Nat) (s : State) (reg : Reg) (rix : Nat) (hav : avoids Foot.startRamp reg = true) :
    (startRamp f s).rd reg rix = s.rd reg rix := by
  have c0 : avoids Foot.setFeedSt reg = true := avoids_mono (by decide) hav
  have c1 : avoids Foot.setSupply reg = true := avoids_mono (by decide) hav
  have f0 : reg ≠ F.ABT_STAT_ACTIVE.reg := avoids_ne (by decide) hav
  unfold startRamp
  (repeat' split) <;> simp -implicitDefEqProofs (maxDischargeDepth := 6) [*]

@[simp] theorem selectFeed_frame (s : State) :
    (selectFeed s).env = s.env ∧ (selectFeed s).jrn = s.jrn ∧ (selectFeed s).err = s.err ∧ (selectFeed s).ports = s.ports ∧
    (selectFeed s).deck = s.deck ∧ (selectFeed s).csn = s.csn ∧ (selectFeed s).fl = s.fl ∧ (selectFeed s).host = s.host ∧
    (selectFeed s).fab = s.fab ∧ (selectFeed s).eng = s.eng ∧ (selectFeed s).img = s.img ∧ (selectFeed s).rcd = s.rcd ∧
    (selectFeed s).pmc = s.pmc ∧ (selectFeed s).abt = s.abt ∧ (selectFeed s).mode = s.mode ∧ (selectFeed s).key = s.key ∧
    (selectFeed s).sb = s.sb ∧ (selectFeed s).pending = s.pending := by
  unfold selectFeed
  (repeat' split) <;> simp -implicitDefEqProofs (maxDischargeDepth := 6)

def Foot.selectFeed : List Reg := [.ABT_FEED, .ABT_STAT]

@[simp] theorem selectFeed_rd (s : State) (reg : Reg) (rix : Nat) (hav : avoids Foot.selectFeed reg = true) :
    (selectFeed s).rd reg rix = s.rd reg rix := by
  have c0 : avoids Foot.startRamp reg = true := avoids_mono (by decide) hav
  unfold selectFeed
  (repeat' split) <;> simp -implicitDefEqProofs (maxDischargeDepth := 6) [*]

@[simp] theorem braceEnter_frame (s : State) :
    (braceEnter s).jrn = s.jrn ∧ (braceEnter s).fl = s.fl ∧ (braceEnter s).fab = s.fab ∧ (braceEnter s).img = s.img ∧
    (braceEnter s).mode = s.mode ∧ (braceEnter s).key = s.key ∧ (braceEnter s).sb = s.sb ∧
    (braceEnter s).pending = s.pending := by
  unfold braceEnter
  (repeat' split) <;> (try simp -implicitDefEqProofs (maxDischargeDepth := 6)) <;> (repeat' split) <;> simp -implicitDefEqProofs (maxDischargeDepth := 6)

def Foot.braceEnter : List Reg := [.ABT_EVENT, .ABT_STAT, .ENG_STAT, .PIR_BUFEXP, .PIR_BUFOCC, .PIR_CPLTRK, .PIR_ERRCNT2, .PIR_EXPMON, .PIR_FBPORT, .PMC_BSTAT, .PMC_CNT, .PMC_STAT, .REC_RLINE, .REC_RSEQ, .REC_STAT, .REC_TRGCFG, .REC_TRGCNT]

@[simp] theorem braceEnter_rd (s : State) (reg : Reg) (rix : Nat) (hav : avoids Foot.braceEnter reg = true) :
    (braceEnter s).rd reg rix = s.rd reg rix := by
  have c0 : avoids Foot.emptyBraceLimiters reg = true := avoids_mono (by decide) hav
  have c1 : avoids Foot.flushStart reg = true := avoids_mono (by decide) hav
  have c2 : avoids Foot.sysRecord reg = true := avoids_mono (by decide) hav
  have c3 : avoids Foot.count reg = true := avoids_mono (by decide) hav
  have c4 : avoids Foot.setSupply reg = true := avoids_mono (by decide) hav
  have c5 : avoids Foot.abtEvent reg = true := avoids_mono (by decide) hav
  unfold braceEnter
  (repeat' split) <;> (try simp -implicitDefEqProofs (maxDischargeDepth := 6) [*]) <;> (repeat' split) <;> simp -implicitDefEqProofs (maxDischargeDepth := 6) [*]

@[simp] theorem braceExit_frame (s : State) :
    (braceExit s).jrn = s.jrn ∧ (braceExit s).fl = s.fl ∧ (braceExit s).fab = s.fab ∧ (braceExit s).eng = s.eng ∧
    (braceExit s).img = s.img ∧ (braceExit s).mode = s.mode ∧ (braceExit s).key = s.key ∧ (braceExit s).sb = s.sb ∧
    (braceExit s).pending = s.pending := by
  unfold braceExit
  (repeat' split) <;> simp -implicitDefEqProofs (maxDischargeDepth := 6)

def Foot.braceExit : List Reg := [.ABT_EVENT, .ABT_STAT, .PIR_BUFEXP, .PIR_BUFOCC, .PIR_CPLTRK, .PIR_ERRCNT2, .PIR_EXPMON, .PIR_FBPORT, .PMC_STAT, .REC_RLINE, .REC_RSEQ, .REC_STAT, .REC_TRGCFG, .REC_TRGCNT]

@[simp] theorem braceExit_rd (s : State) (reg : Reg) (rix : Nat) (hav : avoids Foot.braceExit reg = true) :
    (braceExit s).rd reg rix = s.rd reg rix := by
  have c0 : avoids Foot.sysRecord reg = true := avoids_mono (by decide) hav
  have c1 : avoids Foot.setSupply reg = true := avoids_mono (by decide) hav
  have c2 : avoids Foot.abtEvent reg = true := avoids_mono (by decide) hav
  have c3 : avoids Foot.braceRelease reg = true := avoids_mono (by decide) hav
  unfold braceExit
  (repeat' split) <;> simp -implicitDefEqProofs (maxDischargeDepth := 6) [*]

@[simp] theorem addEnergy_frame (w : Nat) (s : State) :
    (addEnergy w s).env = s.env ∧ (addEnergy w s).jrn = s.jrn ∧ (addEnergy w s).err = s.err ∧
    (addEnergy w s).ports = s.ports ∧ (addEnergy w s).deck = s.deck ∧ (addEnergy w s).csn = s.csn ∧
    (addEnergy w s).fl = s.fl ∧ (addEnergy w s).host = s.host ∧ (addEnergy w s).fab = s.fab ∧ (addEnergy w s).eng = s.eng ∧
    (addEnergy w s).img = s.img ∧ (addEnergy w s).rcd = s.rcd ∧ (addEnergy w s).pmc = s.pmc ∧
    (addEnergy w s).mode = s.mode ∧ (addEnergy w s).key = s.key ∧ (addEnergy w s).sb = s.sb ∧
    (addEnergy w s).pending = s.pending := by
  unfold addEnergy
  (repeat' split) <;> simp -implicitDefEqProofs (maxDischargeDepth := 6)

def Foot.addEnergy : List Reg := [.ABT_ENERGY]

@[simp] theorem addEnergy_rd (w : Nat) (s : State) (reg : Reg) (rix : Nat) (hav : avoids Foot.addEnergy reg = true) :
    (addEnergy w s).rd reg rix = s.rd reg rix := by
  have f0 : reg ≠ F.ABT_ENERGY_ENERGY_HI.reg := avoids_ne (by decide) hav
  have f1 : reg ≠ F.ABT_ENERGY_ENERGY_LO.reg := avoids_ne (by decide) hav
  have f2 : reg ≠ F.ABT_ENERGY_WRAPPED.reg := avoids_ne (by decide) hav
  unfold addEnergy
  (repeat' split) <;> simp -implicitDefEqProofs (maxDischargeDepth := 6) [*]

@[simp] theorem saveEnergy_frame (s : State) :
    (saveEnergy s).env = s.env ∧ (saveEnergy s).jrn = s.jrn ∧ (saveEnergy s).err = s.err ∧ (saveEnergy s).ports = s.ports ∧
    (saveEnergy s).deck = s.deck ∧ (saveEnergy s).csn = s.csn ∧ (saveEnergy s).fl = s.fl ∧ (saveEnergy s).host = s.host ∧
    (saveEnergy s).fab = s.fab ∧ (saveEnergy s).eng = s.eng ∧ (saveEnergy s).img = s.img ∧ (saveEnergy s).rcd = s.rcd ∧
    (saveEnergy s).pmc = s.pmc ∧ (saveEnergy s).mode = s.mode ∧ (saveEnergy s).key = s.key ∧ (saveEnergy s).sb = s.sb ∧
    (saveEnergy s).pending = s.pending := by
  unfold saveEnergy
  (repeat' split) <;> simp -implicitDefEqProofs (maxDischargeDepth := 6)

def Foot.saveEnergy : List Reg := []

@[simp] theorem saveEnergy_rd (s : State) (reg : Reg) (rix : Nat) (hav : avoids Foot.saveEnergy reg = true) :
    (saveEnergy s).rd reg rix = s.rd reg rix := by
  unfold saveEnergy
  (repeat' split) <;> simp -implicitDefEqProofs (maxDischargeDepth := 6) [*]

@[simp] theorem sampleRegs_frame (x : AbtSample) (s : State) :
    (sampleRegs x s).jrn = s.jrn ∧ (sampleRegs x s).csn = s.csn ∧ (sampleRegs x s).fl = s.fl ∧
    (sampleRegs x s).fab = s.fab ∧ (sampleRegs x s).img = s.img ∧ (sampleRegs x s).mode = s.mode ∧
    (sampleRegs x s).key = s.key ∧ (sampleRegs x s).sb = s.sb ∧ (sampleRegs x s).pending = s.pending := by
  unfold sampleRegs
  (repeat' split) <;> simp -implicitDefEqProofs (maxDischargeDepth := 6)

def Foot.sampleRegs : List Reg := [.ABT_ENERGY, .ABT_IIN, .ABT_PIN, .ABT_RES, .ABT_TEMP, .ABT_VIN, .ABT_VOUT, .ENG_STAT, .PIR_BUFEXP, .PIR_BUFOCC, .PIR_CPLTRK, .PIR_ERRCNT2, .PIR_EXPMON, .PIR_FBPORT, .PMC_BSTAT, .PMC_CNT, .PMC_STAT, .REC_TRGCFG, .REC_TRGCNT]

@[simp] theorem sampleRegs_rd (x : AbtSample) (s : State) (reg : Reg) (rix : Nat) (hav : avoids Foot.sampleRegs reg = true) :
    (sampleRegs x s).rd reg rix = s.rd reg rix := by
  have c0 : avoids Foot.count reg = true := avoids_mono (by decide) hav
  have c1 : avoids Foot.setFeed reg = true := avoids_mono (by decide) hav
  have c2 : avoids Foot.addEnergy reg = true := avoids_mono (by decide) hav
  have f0 : reg ≠ F.ABT_IIN_AMPS.reg := avoids_ne (by decide) hav
  have f1 : reg ≠ F.ABT_PIN_WATTS.reg := avoids_ne (by decide) hav
  have f2 : reg ≠ F.ABT_RES_VOLTS.reg := avoids_ne (by decide) hav
  have f3 : reg ≠ F.ABT_TEMP_SRC.reg := avoids_ne (by decide) hav
  have f4 : reg ≠ F.ABT_TEMP_TEMP.reg := avoids_ne (by decide) hav
  have f5 : reg ≠ F.ABT_VIN_VOLTS.reg := avoids_ne (by decide) hav
  have f6 : reg ≠ F.ABT_VOUT_VOLTS.reg := avoids_ne (by decide) hav
  unfold sampleRegs
  (repeat' split) <;> simp -implicitDefEqProofs (maxDischargeDepth := 6) [*]

@[simp] theorem presence_frame (f : Nat) (s : State) :
    (presence f s).env = s.env ∧ (presence f s).jrn = s.jrn ∧ (presence f s).err = s.err ∧ (presence f s).ports = s.ports ∧
    (presence f s).deck = s.deck ∧ (presence f s).csn = s.csn ∧ (presence f s).fl = s.fl ∧ (presence f s).host = s.host ∧
    (presence f s).fab = s.fab ∧ (presence f s).eng = s.eng ∧ (presence f s).img = s.img ∧ (presence f s).rcd = s.rcd ∧
    (presence f s).pmc = s.pmc ∧ (presence f s).mode = s.mode ∧ (presence f s).key = s.key ∧ (presence f s).sb = s.sb ∧
    (presence f s).pending = s.pending := by
  unfold presence
  (repeat' split) <;> simp -implicitDefEqProofs (maxDischargeDepth := 6)

def Foot.presence : List Reg := [.ABT_FEED]

@[simp] theorem presence_rd (f : Nat) (s : State) (reg : Reg) (rix : Nat) (hav : avoids Foot.presence reg = true) :
    (presence f s).rd reg rix = s.rd reg rix := by
  have c0 : avoids Foot.setFeed reg = true := avoids_mono (by decide) hav
  have c1 : avoids Foot.setFeedSt reg = true := avoids_mono (by decide) hav
  unfold presence
  (repeat' split) <;> simp -implicitDefEqProofs (maxDischargeDepth := 6) [*]

@[simp] theorem rankShort_frame (f : Nat) (y : FeedSample) (s : State) :
    (rankShort f y s).jrn = s.jrn ∧ (rankShort f y s).csn = s.csn ∧ (rankShort f y s).fl = s.fl ∧
    (rankShort f y s).fab = s.fab ∧ (rankShort f y s).eng = s.eng ∧ (rankShort f y s).img = s.img ∧
    (rankShort f y s).mode = s.mode ∧ (rankShort f y s).key = s.key ∧ (rankShort f y s).sb = s.sb ∧
    (rankShort f y s).pending = s.pending := by
  unfold rankShort
  (repeat' split) <;> simp -implicitDefEqProofs (maxDischargeDepth := 6)

def Foot.rankShort : List Reg := [.ABT_EVENT, .ABT_FEED, .ABT_STAT, .PIR_BUFEXP, .PIR_BUFOCC, .PIR_CPLTRK, .PIR_ERRCNT2, .PIR_EXPMON, .PIR_FBPORT, .PMC_STAT, .REC_TRGCFG, .REC_TRGCNT]

@[simp] theorem rankShort_rd (f : Nat) (y : FeedSample) (s : State) (reg : Reg) (rix : Nat) (hav : avoids Foot.rankShort reg = true) :
    (rankShort f y s).rd reg rix = s.rd reg rix := by
  have c0 : avoids Foot.setFeed reg = true := avoids_mono (by decide) hav
  have c1 : avoids Foot.abtEvent reg = true := avoids_mono (by decide) hav
  have c2 : avoids Foot.feedOff reg = true := avoids_mono (by decide) hav
  unfold rankShort
  (repeat' split) <;> simp -implicitDefEqProofs (maxDischargeDepth := 6) [*]

@[simp] theorem rankOver_frame (f : Nat) (s : State) :
    (rankOver f s).jrn = s.jrn ∧ (rankOver f s).csn = s.csn ∧ (rankOver f s).fl = s.fl ∧ (rankOver f s).fab = s.fab ∧
    (rankOver f s).eng = s.eng ∧ (rankOver f s).img = s.img ∧ (rankOver f s).mode = s.mode ∧ (rankOver f s).key = s.key ∧
    (rankOver f s).sb = s.sb ∧ (rankOver f s).pending = s.pending := by
  unfold rankOver
  (repeat' split) <;> simp -implicitDefEqProofs (maxDischargeDepth := 6)

def Foot.rankOver : List Reg := [.ABT_EVENT, .ABT_FEED, .ABT_STAT, .PIR_BUFEXP, .PIR_BUFOCC, .PIR_CPLTRK, .PIR_ERRCNT2, .PIR_EXPMON, .PIR_FBPORT, .PMC_STAT, .REC_TRGCFG, .REC_TRGCNT]

@[simp] theorem rankOver_rd (f : Nat) (s : State) (reg : Reg) (rix : Nat) (hav : avoids Foot.rankOver reg = true) :
    (rankOver f s).rd reg rix = s.rd reg rix := by
  have c0 : avoids Foot.setFeed reg = true := avoids_mono (by decide) hav
  have c1 : avoids Foot.abtEvent reg = true := avoids_mono (by decide) hav
  have c2 : avoids Foot.feedOff reg = true := avoids_mono (by decide) hav
  unfold rankOver
  (repeat' split) <;> simp -implicitDefEqProofs (maxDischargeDepth := 6) [*]

@[simp] theorem rankLimit_frame (f : Nat) (y : FeedSample) (s : State) :
    (rankLimit f y s).jrn = s.jrn ∧ (rankLimit f y s).csn = s.csn ∧ (rankLimit f y s).fl = s.fl ∧
    (rankLimit f y s).fab = s.fab ∧ (rankLimit f y s).img = s.img ∧ (rankLimit f y s).mode = s.mode ∧
    (rankLimit f y s).key = s.key ∧ (rankLimit f y s).sb = s.sb ∧ (rankLimit f y s).pending = s.pending := by
  unfold rankLimit
  (repeat' split) <;> simp -implicitDefEqProofs (maxDischargeDepth := 6)

def Foot.rankLimit : List Reg := [.ABT_EVENT, .ABT_FEED, .ABT_STAT, .ENG_STAT, .PIR_BUFEXP, .PIR_BUFOCC, .PIR_CPLTRK, .PIR_ERRCNT2, .PIR_EXPMON, .PIR_FBPORT, .PMC_BSTAT, .PMC_CNT, .PMC_STAT, .REC_TRGCFG, .REC_TRGCNT]

@[simp] theorem rankLimit_rd (f : Nat) (y : FeedSample) (s : State) (reg : Reg) (rix : Nat) (hav : avoids Foot.rankLimit reg = true) :
    (rankLimit f y s).rd reg rix = s.rd reg rix := by
  have c0 : avoids Foot.count reg = true := avoids_mono (by decide) hav
  have c1 : avoids Foot.setFeed reg = true := avoids_mono (by decide) hav
  have c2 : avoids Foot.setFeedSt reg = true := avoids_mono (by decide) hav
  have c3 : avoids Foot.abtEvent reg = true := avoids_mono (by decide) hav
  have c4 : avoids Foot.timerIdle reg = true := avoids_mono (by decide) hav
  have c5 : avoids Foot.feedTrip reg = true := avoids_mono (by decide) hav
  have f0 : reg ≠ F.ABT_STAT_FAULT_PENDING.reg := avoids_ne (by decide) hav
  unfold rankLimit
  (repeat' split) <;> simp -implicitDefEqProofs (maxDischargeDepth := 6) [*]

@[simp] theorem rankSwitch_frame (x : AbtSample) (s : State) :
    (rankSwitch x s).sb = s.sb ∧ (rankSwitch x s).pending = s.pending := by
  unfold rankSwitch
  (repeat' split) <;> simp -implicitDefEqProofs (maxDischargeDepth := 6)

@[simp] theorem rankPg_frame (s : State) :
    (rankPg s).jrn = s.jrn ∧ (rankPg s).csn = s.csn ∧ (rankPg s).fl = s.fl ∧ (rankPg s).fab = s.fab ∧
    (rankPg s).img = s.img ∧ (rankPg s).mode = s.mode ∧ (rankPg s).key = s.key ∧ (rankPg s).sb = s.sb ∧
    (rankPg s).pending = s.pending := by
  unfold rankPg
  (repeat' split) <;> simp -implicitDefEqProofs (maxDischargeDepth := 6)

def Foot.rankPg : List Reg := [.ABT_STAT, .ENG_STAT, .PIR_BUFEXP, .PIR_BUFOCC, .PIR_CPLTRK, .PIR_ERRCNT2, .PIR_EXPMON, .PIR_FBPORT, .PMC_BSTAT, .PMC_CNT, .PMC_STAT, .REC_TRGCFG, .REC_TRGCNT]

@[simp] theorem rankPg_rd (s : State) (reg : Reg) (rix : Nat) (hav : avoids Foot.rankPg reg = true) :
    (rankPg s).rd reg rix = s.rd reg rix := by
  have f0 : reg ≠ F.ABT_STAT_PG.reg := avoids_ne (by decide) hav
  unfold rankPg
  (repeat' split) <;> simp -implicitDefEqProofs (maxDischargeDepth := 6) [*]

@[simp] theorem rankReset_frame (s : State) :
    (rankReset s).sb = s.sb ∧ (rankReset s).pending = s.pending := by
  unfold rankReset
  (repeat' split) <;> simp -implicitDefEqProofs (maxDischargeDepth := 6)

@[simp] theorem rankBrace_frame (s : State) :
    (rankBrace s).jrn = s.jrn ∧ (rankBrace s).fl = s.fl ∧ (rankBrace s).fab = s.fab ∧ (rankBrace s).img = s.img ∧
    (rankBrace s).mode = s.mode ∧ (rankBrace s).key = s.key ∧ (rankBrace s).sb = s.sb ∧ (rankBrace s).pending = s.pending := by
  unfold rankBrace
  (repeat' split) <;> simp -implicitDefEqProofs (maxDischargeDepth := 6)

def Foot.rankBrace : List Reg := [.ABT_EVENT, .ABT_STAT, .ENG_STAT, .PIR_BUFEXP, .PIR_BUFOCC, .PIR_CPLTRK, .PIR_ERRCNT2, .PIR_EXPMON, .PIR_FBPORT, .PMC_BSTAT, .PMC_CNT, .PMC_STAT, .REC_RLINE, .REC_RSEQ, .REC_STAT, .REC_TRGCFG, .REC_TRGCNT]

@[simp] theorem rankBrace_rd (s : State) (reg : Reg) (rix : Nat) (hav : avoids Foot.rankBrace reg = true) :
    (rankBrace s).rd reg rix = s.rd reg rix := by
  have c0 : avoids Foot.braceEnter reg = true := avoids_mono (by decide) hav
  have c1 : avoids Foot.braceExit reg = true := avoids_mono (by decide) hav
  unfold rankBrace
  (repeat' split) <;> simp -implicitDefEqProofs (maxDischargeDepth := 6) [*]

@[simp] theorem powerLimit_frame (s : State) :
    (powerLimit s).env = s.env ∧ (powerLimit s).jrn = s.jrn ∧ (powerLimit s).err = s.err ∧ (powerLimit s).deck = s.deck ∧
    (powerLimit s).csn = s.csn ∧ (powerLimit s).fl = s.fl ∧ (powerLimit s).host = s.host ∧ (powerLimit s).fab = s.fab ∧
    (powerLimit s).eng = s.eng ∧ (powerLimit s).img = s.img ∧ (powerLimit s).rcd = s.rcd ∧ (powerLimit s).pmc = s.pmc ∧
    (powerLimit s).mode = s.mode ∧ (powerLimit s).key = s.key ∧ (powerLimit s).sb = s.sb ∧
    (powerLimit s).pending = s.pending := by
  unfold powerLimit
  (repeat' split) <;> simp -implicitDefEqProofs (maxDischargeDepth := 6)

def Foot.powerLimit : List Reg := []

@[simp] theorem powerLimit_rd (s : State) (reg : Reg) (rix : Nat) (hav : avoids Foot.powerLimit reg = true) :
    (powerLimit s).rd reg rix = s.rd reg rix := by
  have c0 : avoids Foot.emptyBraceLimiters reg = true := avoids_mono (by decide) hav
  unfold powerLimit
  (repeat' split) <;> simp -implicitDefEqProofs (maxDischargeDepth := 6) [*]

end Sys2Proof.Machine
end

