-- ==== Sys2Proof/Laws/FramesD.lean ====
section
/-! SUPPORT. The frames of the routing, register access and host operations: the pieces of state each leaves alone, and the registers it may write (`Foot`). -/

set_option maxRecDepth 3000
set_option linter.all false

namespace Sys2Proof.Machine

/-- The command that runs next is another one, is not privileged enough, or is carried out. -/
theorem withCmd_cases (next : State → Option Cmd) (op : Nat) (f : Cmd → State → State) (s : State) :
    withCmd next op f s = s ∨ (∃ c : Cmd, withCmd next op f s = failCmd c.seq resOrigin s) ∨
      ∃ c, next s = some c ∧ c.op = op ∧ withCmd next op f s = f c s := by
  unfold withCmd
  split
  · rename_i c hc
    split
    · exact .inl rfl
    · rename_i ho
      split
      · exact .inr (.inl ⟨_, rfl⟩)
      · exact .inr (.inr ⟨c, hc, by simpa using ho, rfl⟩)
  · exact .inl rfl

@[simp] theorem acceptCmd_frame (org : Origin) (bank : Option Nat) (batch : Nat) (d : List Byte) (s : State) :
    (acceptCmd org bank batch d s).csn = s.csn ∧ (acceptCmd org bank batch d s).fl = s.fl ∧
    (acceptCmd org bank batch d s).fab = s.fab ∧ (acceptCmd org bank batch d s).img = s.img ∧
    (acceptCmd org bank batch d s).abt = s.abt ∧ (acceptCmd org bank batch d s).mode = s.mode ∧
    (acceptCmd org bank batch d s).key = s.key ∧ (acceptCmd org bank batch d s).sb = s.sb ∧
    (acceptCmd org bank batch d s).pending = s.pending := by
  unfold acceptCmd
  (repeat' split) <;> simp -implicitDefEqProofs (maxDischargeDepth := 6)

def Foot.acceptCmd : List Reg := [.ENG_STAT, .JNL_HEAD, .JNL_STAT, .JNL_TAIL, .PIR_BUFEXP, .PIR_BUFOCC, .PIR_CPLTRK, .PIR_ERRCNT2, .PIR_EXPMON, .PIR_FBPORT, .PMC_BSTAT, .PMC_CNT, .PMC_STAT, .REC_TRGCFG, .REC_TRGCNT]

@[simp] theorem acceptCmd_rd (org : Origin) (bank : Option Nat) (batch : Nat) (d : List Byte) (s : State) (reg : Reg) (rix : Nat) (hav : avoids Foot.acceptCmd reg = true) :
    (acceptCmd org bank batch d s).rd reg rix = s.rd reg rix := by
  have c0 : avoids Foot.refreshPending reg = true := avoids_mono (by decide) hav
  have c1 : avoids Foot.numberEntry reg = true := avoids_mono (by decide) hav
  unfold acceptCmd
  (repeat' split) <;> simp -implicitDefEqProofs (maxDischargeDepth := 6) [*]

@[simp] theorem submit_frame (org : Origin) (d : List Byte) (s : State) :
    (submit org d s).csn = s.csn ∧ (submit org d s).fl = s.fl ∧ (submit org d s).fab = s.fab ∧
    (submit org d s).img = s.img ∧ (submit org d s).abt = s.abt ∧ (submit org d s).mode = s.mode ∧
    (submit org d s).key = s.key ∧ (submit org d s).sb = s.sb ∧ (submit org d s).pending = s.pending := by
  unfold submit
  (repeat' split) <;> simp -implicitDefEqProofs (maxDischargeDepth := 6)

def Foot.submit : List Reg := [.ENG_STAT, .JNL_CMDRES, .JNL_CMDSEQ, .JNL_HEAD, .JNL_STAT, .JNL_TAIL, .PIR_BUFEXP, .PIR_BUFOCC, .PIR_CPLTRK, .PIR_ERRCNT2, .PIR_EXPMON, .PIR_FBPORT, .PMC_BSTAT, .PMC_CNT, .PMC_STAT, .REC_TRGCFG, .REC_TRGCNT]

@[simp] theorem submit_rd (org : Origin) (d : List Byte) (s : State) (reg : Reg) (rix : Nat) (hav : avoids Foot.submit reg = true) :
    (submit org d s).rd reg rix = s.rd reg rix := by
  have c0 : avoids Foot.acceptCmd reg = true := avoids_mono (by decide) hav
  have f0 : reg ≠ F.JNL_CMDRES_RESULT.reg := avoids_ne (by decide) hav
  have f1 : reg ≠ F.JNL_CMDRES_STATE.reg := avoids_ne (by decide) hav
  have f2 : reg ≠ F.JNL_CMDRES_STATUS.reg := avoids_ne (by decide) hav
  have f3 : reg ≠ .JNL_CMDSEQ := avoids_ne (by decide) hav
  unfold submit
  (repeat' split) <;> simp -implicitDefEqProofs (maxDischargeDepth := 6) [*]

@[simp] theorem refuse_frame (s : State) :
    ((refuse s)).1.env = s.env ∧ ((refuse s)).1.jrn = s.jrn ∧ ((refuse s)).1.err = s.err ∧ ((refuse s)).1.ports = s.ports ∧
    ((refuse s)).1.deck = s.deck ∧ ((refuse s)).1.csn = s.csn ∧ ((refuse s)).1.fl = s.fl ∧ ((refuse s)).1.host = s.host ∧
    ((refuse s)).1.fab = s.fab ∧ ((refuse s)).1.eng = s.eng ∧ ((refuse s)).1.img = s.img ∧ ((refuse s)).1.rcd = s.rcd ∧
    ((refuse s)).1.pmc = s.pmc ∧ ((refuse s)).1.abt = s.abt ∧ ((refuse s)).1.mode = s.mode ∧ ((refuse s)).1.key = s.key ∧
    ((refuse s)).1.sb = s.sb ∧ ((refuse s)).1.pending = s.pending := by
  unfold refuse
  (repeat' split) <;> simp -implicitDefEqProofs (maxDischargeDepth := 6)

def Foot.refuse : List Reg := []

@[simp] theorem refuse_rd (s : State) (reg : Reg) (rix : Nat) (hav : avoids Foot.refuse reg = true) :
    ((refuse s)).1.rd reg rix = s.rd reg rix := by
  unfold refuse
  (repeat' split) <;> simp -implicitDefEqProofs (maxDischargeDepth := 6) [*]

@[simp] theorem wrErrctl_frame (c : WrCtx) (s : State) :
    ((wrErrctl c s)).1.abt = s.abt ∧ ((wrErrctl c s)).1.sb = s.sb ∧ ((wrErrctl c s)).1.pending = s.pending := by
  unfold wrErrctl
  (repeat' split) <;> simp -implicitDefEqProofs (maxDischargeDepth := 6)

def Foot.wrErrctl : List Reg := [.CSN_POOL, .CSN_PSPILL, .CSN_STAT, .ENG_STAT, .GLB_DMASTAT, .GLB_ERRCTL, .GLB_ERRSTAT, .GLB_IMGSTAT, .GLB_MODE, .GLB_QSTAT, .GLB_SLOT, .GLB_VSSTAT, .JNL_CMDRES, .JNL_HEAD, .JNL_STAT, .JNL_TAIL, .KEY_NONCE, .KEY_SLOT, .KEY_SLOTHASH, .KEY_STAT, .PIR_BUFEXP, .PIR_BUFOCC, .PIR_CLOSE, .PIR_CPLTRK, .PIR_ERRCNT2, .PIR_EXPMON, .PIR_FBPORT, .PIR_PFCNT, .PMC_BSTAT, .PMC_CNT, .PMC_STAT, .REC_PFSTAT, .REC_STAT, .REC_TRGCFG, .REC_TRGCNT, .SPN_CALSTAT, .SPN_COEF, .SPN_FLSTAT, .SPN_PSTAT]

@[simp] theorem wrErrctl_rd (c : WrCtx) (s : State) (reg : Reg) (rix : Nat) (hav : avoids Foot.wrErrctl reg = true) :
    ((wrErrctl c s)).1.rd reg rix = s.rd reg rix := by
  have c0 : avoids Foot.pushRec reg = true := avoids_mono (by decide) hav
  have c1 : avoids Foot.refreshAlert reg = true := avoids_mono (by decide) hav
  have c2 : avoids Foot.quarantine reg = true := avoids_mono (by decide) hav
  have f0 : reg ≠ .GLB_ERRCTL := avoids_ne (by decide) hav
  unfold wrErrctl
  (repeat' split) <;> simp -implicitDefEqProofs (maxDischargeDepth := 6) [*]

@[simp] theorem wrTherm_frame (c : WrCtx) (s : State) :
    ((wrTherm c s)).1.env = s.env ∧ ((wrTherm c s)).1.jrn = s.jrn ∧ ((wrTherm c s)).1.err = s.err ∧
    ((wrTherm c s)).1.ports = s.ports ∧ ((wrTherm c s)).1.deck = s.deck ∧ ((wrTherm c s)).1.csn = s.csn ∧
    ((wrTherm c s)).1.fl = s.fl ∧ ((wrTherm c s)).1.host = s.host ∧ ((wrTherm c s)).1.fab = s.fab ∧
    ((wrTherm c s)).1.eng = s.eng ∧ ((wrTherm c s)).1.img = s.img ∧ ((wrTherm c s)).1.rcd = s.rcd ∧
    ((wrTherm c s)).1.pmc = s.pmc ∧ ((wrTherm c s)).1.abt = s.abt ∧ ((wrTherm c s)).1.mode = s.mode ∧
    ((wrTherm c s)).1.key = s.key ∧ ((wrTherm c s)).1.sb = s.sb ∧ ((wrTherm c s)).1.pending = s.pending := by
  unfold wrTherm
  (repeat' split) <;> simp -implicitDefEqProofs (maxDischargeDepth := 6)

def Foot.wrTherm : List Reg := [.GLB_THERM]

@[simp] theorem wrTherm_rd (c : WrCtx) (s : State) (reg : Reg) (rix : Nat) (hav : avoids Foot.wrTherm reg = true) :
    ((wrTherm c s)).1.rd reg rix = s.rd reg rix := by
  have c0 : avoids Foot.refuse reg = true := avoids_mono (by decide) hav
  have f0 : reg ≠ .GLB_THERM := avoids_ne (by decide) hav
  unfold wrTherm
  (repeat' split) <;> simp -implicitDefEqProofs (maxDischargeDepth := 6) [*]

@[simp] theorem wrVthr_frame (r : Reg) (c : WrCtx) (s : State) :
    ((wrVthr r c s)).1.env = s.env ∧ ((wrVthr r c s)).1.jrn = s.jrn ∧ ((wrVthr r c s)).1.err = s.err ∧
    ((wrVthr r c s)).1.ports = s.ports ∧ ((wrVthr r c s)).1.deck = s.deck ∧ ((wrVthr r c s)).1.csn = s.csn ∧
    ((wrVthr r c s)).1.fl = s.fl ∧ ((wrVthr r c s)).1.host = s.host ∧ ((wrVthr r c s)).1.fab = s.fab ∧
    ((wrVthr r c s)).1.eng = s.eng ∧ ((wrVthr r c s)).1.img = s.img ∧ ((wrVthr r c s)).1.rcd = s.rcd ∧
    ((wrVthr r c s)).1.pmc = s.pmc ∧ ((wrVthr r c s)).1.abt = s.abt ∧ ((wrVthr r c s)).1.mode = s.mode ∧
    ((wrVthr r c s)).1.key = s.key ∧ ((wrVthr r c s)).1.sb = s.sb ∧ ((wrVthr r c s)).1.pending = s.pending := by
  unfold wrVthr
  (repeat' split) <;> (try simp -implicitDefEqProofs (maxDischargeDepth := 6)) <;> (repeat' split) <;> simp -implicitDefEqProofs (maxDischargeDepth := 6)

@[simp] theorem wrFctl_frame (c : WrCtx) (s : State) :
    ((wrFctl c s)).1.env = s.env ∧ ((wrFctl c s)).1.jrn = s.jrn ∧ ((wrFctl c s)).1.err = s.err ∧
    ((wrFctl c s)).1.ports = s.ports ∧ ((wrFctl c s)).1.deck = s.deck ∧ ((wrFctl c s)).1.csn = s.csn ∧
    ((wrFctl c s)).1.fl = s.fl ∧ ((wrFctl c s)).1.host = s.host ∧ ((wrFctl c s)).1.fab = s.fab ∧
    ((wrFctl c s)).1.eng = s.eng ∧ ((wrFctl c s)).1.img = s.img ∧ ((wrFctl c s)).1.rcd = s.rcd ∧
    ((wrFctl c s)).1.pmc = s.pmc ∧ ((wrFctl c s)).1.mode = s.mode ∧ ((wrFctl c s)).1.key = s.key ∧
    ((wrFctl c s)).1.sb = s.sb ∧ ((wrFctl c s)).1.pending = s.pending := by
  unfold wrFctl
  (repeat' split) <;> (try simp -implicitDefEqProofs (maxDischargeDepth := 6)) <;> (repeat' split) <;> simp -implicitDefEqProofs (maxDischargeDepth := 6)

def Foot.wrFctl : List Reg := [.ABT_FCTL, .ABT_FEED, .ABT_STAT]

@[simp] theorem wrFctl_rd (c : WrCtx) (s : State) (reg : Reg) (rix : Nat) (hav : avoids Foot.wrFctl reg = true) :
    ((wrFctl c s)).1.rd reg rix = s.rd reg rix := by
  have c0 : avoids Foot.setFeed reg = true := avoids_mono (by decide) hav
  have c1 : avoids Foot.setFeedSt reg = true := avoids_mono (by decide) hav
  have c2 : avoids Foot.feedOff reg = true := avoids_mono (by decide) hav
  have c3 : avoids Foot.startSwitch reg = true := avoids_mono (by decide) hav
  have c4 : avoids Foot.refuse reg = true := avoids_mono (by decide) hav
  have f0 : reg ≠ F.ABT_FEED_RETRIES.reg := avoids_ne (by decide) hav
  have f1 : reg ≠ .ABT_FCTL := avoids_ne (by decide) hav
  unfold wrFctl
  (repeat' split) <;> (try simp -implicitDefEqProofs (maxDischargeDepth := 6) [*]) <;> (repeat' split) <;> simp -implicitDefEqProofs (maxDischargeDepth := 6) [*]

@[simp] theorem wrSpnCtl_frame (c : WrCtx) (s : State) :
    ((wrSpnCtl c s)).1.env = s.env ∧ ((wrSpnCtl c s)).1.jrn = s.jrn ∧ ((wrSpnCtl c s)).1.err = s.err ∧
    ((wrSpnCtl c s)).1.deck = s.deck ∧ ((wrSpnCtl c s)).1.csn = s.csn ∧ ((wrSpnCtl c s)).1.fl = s.fl ∧
    ((wrSpnCtl c s)).1.host = s.host ∧ ((wrSpnCtl c s)).1.fab = s.fab ∧ ((wrSpnCtl c s)).1.eng = s.eng ∧
    ((wrSpnCtl c s)).1.img = s.img ∧ ((wrSpnCtl c s)).1.rcd = s.rcd ∧ ((wrSpnCtl c s)).1.pmc = s.pmc ∧
    ((wrSpnCtl c s)).1.abt = s.abt ∧ ((wrSpnCtl c s)).1.mode = s.mode ∧ ((wrSpnCtl c s)).1.key = s.key ∧
    ((wrSpnCtl c s)).1.sb = s.sb ∧ ((wrSpnCtl c s)).1.pending = s.pending := by
  unfold wrSpnCtl
  (repeat' split) <;> simp -implicitDefEqProofs (maxDischargeDepth := 6)

def Foot.wrSpnCtl : List Reg := [.SPN_CTL, .SPN_PSTAT]

@[simp] theorem wrSpnCtl_rd (c : WrCtx) (s : State) (reg : Reg) (rix : Nat) (hav : avoids Foot.wrSpnCtl reg = true) :
    ((wrSpnCtl c s)).1.rd reg rix = s.rd reg rix := by
  have c0 : avoids Foot.toRecovery reg = true := avoids_mono (by decide) hav
  have c1 : avoids Foot.applyCap reg = true := avoids_mono (by decide) hav
  have f0 : reg ≠ .SPN_CTL := avoids_ne (by decide) hav
  unfold wrSpnCtl
  (repeat' split) <;> simp -implicitDefEqProofs (maxDischargeDepth := 6) [*]

@[simp] theorem wrPmctl_frame (c : WrCtx) (s : State) :
    ((wrPmctl c s)).1.env = s.env ∧ ((wrPmctl c s)).1.jrn = s.jrn ∧ ((wrPmctl c s)).1.err = s.err ∧
    ((wrPmctl c s)).1.deck = s.deck ∧ ((wrPmctl c s)).1.csn = s.csn ∧ ((wrPmctl c s)).1.fl = s.fl ∧
    ((wrPmctl c s)).1.host = s.host ∧ ((wrPmctl c s)).1.fab = s.fab ∧ ((wrPmctl c s)).1.eng = s.eng ∧
    ((wrPmctl c s)).1.img = s.img ∧ ((wrPmctl c s)).1.rcd = s.rcd ∧ ((wrPmctl c s)).1.pmc = s.pmc ∧
    ((wrPmctl c s)).1.abt = s.abt ∧ ((wrPmctl c s)).1.mode = s.mode ∧ ((wrPmctl c s)).1.key = s.key ∧
    ((wrPmctl c s)).1.sb = s.sb ∧ ((wrPmctl c s)).1.pending = s.pending := by
  unfold wrPmctl
  (repeat' split) <;> simp -implicitDefEqProofs (maxDischargeDepth := 6)

def Foot.wrPmctl : List Reg := [.SPN_PMCTL, .SPN_PSTAT]

@[simp] theorem wrPmctl_rd (c : WrCtx) (s : State) (reg : Reg) (rix : Nat) (hav : avoids Foot.wrPmctl reg = true) :
    ((wrPmctl c s)).1.rd reg rix = s.rd reg rix := by
  have c0 : avoids Foot.holdFull reg = true := avoids_mono (by decide) hav
  have f0 : reg ≠ .SPN_PMCTL := avoids_ne (by decide) hav
  unfold wrPmctl
  (repeat' split) <;> simp -implicitDefEqProofs (maxDischargeDepth := 6) [*]

@[simp] theorem wrClkmode_frame (c : WrCtx) (s : State) :
    ((wrClkmode c s)).1.env = s.env ∧ ((wrClkmode c s)).1.jrn = s.jrn ∧ ((wrClkmode c s)).1.err = s.err ∧
    ((wrClkmode c s)).1.ports = s.ports ∧ ((wrClkmode c s)).1.deck = s.deck ∧ ((wrClkmode c s)).1.csn = s.csn ∧
    ((wrClkmode c s)).1.fl = s.fl ∧ ((wrClkmode c s)).1.host = s.host ∧ ((wrClkmode c s)).1.fab = s.fab ∧
    ((wrClkmode c s)).1.eng = s.eng ∧ ((wrClkmode c s)).1.img = s.img ∧ ((wrClkmode c s)).1.rcd = s.rcd ∧
    ((wrClkmode c s)).1.pmc = s.pmc ∧ ((wrClkmode c s)).1.abt = s.abt ∧ ((wrClkmode c s)).1.mode = s.mode ∧
    ((wrClkmode c s)).1.key = s.key ∧ ((wrClkmode c s)).1.sb = s.sb ∧ ((wrClkmode c s)).1.pending = s.pending := by
  unfold wrClkmode
  (repeat' split) <;> simp -implicitDefEqProofs (maxDischargeDepth := 6)

def Foot.wrClkmode : List Reg := [.SPN_CLKMODE]

@[simp] theorem wrClkmode_rd (c : WrCtx) (s : State) (reg : Reg) (rix : Nat) (hav : avoids Foot.wrClkmode reg = true) :
    ((wrClkmode c s)).1.rd reg rix = s.rd reg rix := by
  have f0 : reg ≠ .SPN_CLKMODE := avoids_ne (by decide) hav
  unfold wrClkmode
  (repeat' split) <;> simp -implicitDefEqProofs (maxDischargeDepth := 6) [*]

@[simp] theorem wrLane_frame (c : WrCtx) (s : State) :
    ((wrLane c s)).1.env = s.env ∧ ((wrLane c s)).1.jrn = s.jrn ∧ ((wrLane c s)).1.err = s.err ∧
    ((wrLane c s)).1.ports = s.ports ∧ ((wrLane c s)).1.deck = s.deck ∧ ((wrLane c s)).1.csn = s.csn ∧
    ((wrLane c s)).1.fl = s.fl ∧ ((wrLane c s)).1.host = s.host ∧ ((wrLane c s)).1.fab = s.fab ∧
    ((wrLane c s)).1.eng = s.eng ∧ ((wrLane c s)).1.img = s.img ∧ ((wrLane c s)).1.rcd = s.rcd ∧
    ((wrLane c s)).1.pmc = s.pmc ∧ ((wrLane c s)).1.abt = s.abt ∧ ((wrLane c s)).1.mode = s.mode ∧
    ((wrLane c s)).1.key = s.key ∧ ((wrLane c s)).1.sb = s.sb ∧ ((wrLane c s)).1.pending = s.pending := by
  unfold wrLane
  (repeat' split) <;> simp -implicitDefEqProofs (maxDischargeDepth := 6)

def Foot.wrLane : List Reg := [.SPN_LANE]

@[simp] theorem wrLane_rd (c : WrCtx) (s : State) (reg : Reg) (rix : Nat) (hav : avoids Foot.wrLane reg = true) :
    ((wrLane c s)).1.rd reg rix = s.rd reg rix := by
  have f0 : reg ≠ F.SPN_LANE_ERRCNT.reg := avoids_ne (by decide) hav
  unfold wrLane
  (repeat' split) <;> simp -implicitDefEqProofs (maxDischargeDepth := 6) [*]

@[simp] theorem wrCalctl_frame (c : WrCtx) (s : State) :
    ((wrCalctl c s)).1.env = s.env ∧ ((wrCalctl c s)).1.jrn = s.jrn ∧ ((wrCalctl c s)).1.err = s.err ∧
    ((wrCalctl c s)).1.ports = s.ports ∧ ((wrCalctl c s)).1.deck = s.deck ∧ ((wrCalctl c s)).1.csn = s.csn ∧
    ((wrCalctl c s)).1.host = s.host ∧ ((wrCalctl c s)).1.fab = s.fab ∧ ((wrCalctl c s)).1.eng = s.eng ∧
    ((wrCalctl c s)).1.img = s.img ∧ ((wrCalctl c s)).1.rcd = s.rcd ∧ ((wrCalctl c s)).1.pmc = s.pmc ∧
    ((wrCalctl c s)).1.abt = s.abt ∧ ((wrCalctl c s)).1.mode = s.mode ∧ ((wrCalctl c s)).1.key = s.key ∧
    ((wrCalctl c s)).1.sb = s.sb ∧ ((wrCalctl c s)).1.pending = s.pending := by
  unfold wrCalctl
  (repeat' split) <;> simp -implicitDefEqProofs (maxDischargeDepth := 6)

def Foot.wrCalctl : List Reg := [.SPN_CALCTL, .SPN_CALSTAT, .SPN_COEF, .SPN_LANE]

@[simp] theorem wrCalctl_rd (c : WrCtx) (s : State) (reg : Reg) (rix : Nat) (hav : avoids Foot.wrCalctl reg = true) :
    ((wrCalctl c s)).1.rd reg rix = s.rd reg rix := by
  have c0 : avoids Foot.flAbandon reg = true := avoids_mono (by decide) hav
  have f0 : reg ≠ .SPN_CALCTL := avoids_ne (by decide) hav
  unfold wrCalctl
  (repeat' split) <;> simp -implicitDefEqProofs (maxDischargeDepth := 6) [*]

@[simp] theorem wrFlctl_frame (c : WrCtx) (s : State) :
    ((wrFlctl c s)).1.img = s.img ∧ ((wrFlctl c s)).1.abt = s.abt ∧ ((wrFlctl c s)).1.mode = s.mode ∧
    ((wrFlctl c s)).1.sb = s.sb ∧ ((wrFlctl c s)).1.pending = s.pending := by
  unfold wrFlctl
  (repeat' split) <;> simp -implicitDefEqProofs (maxDischargeDepth := 6)

def Foot.wrFlctl : List Reg := [.CSN_POOL, .CSN_PSPILL, .CSN_STAT, .ENG_STAT, .GLB_DMASTAT, .GLB_SLOT, .GLB_VSSTAT, .JNL_CMDRES, .JNL_HEAD, .JNL_STAT, .JNL_TAIL, .KEY_NONCE, .KEY_SLOT, .KEY_SLOTHASH, .KEY_STAT, .PIR_BUFEXP, .PIR_BUFOCC, .PIR_CPLTRK, .PIR_ERRCNT2, .PIR_EXPMON, .PIR_FBPORT, .PIR_PFCNT, .PMC_BSTAT, .PMC_CNT, .PMC_STAT, .REC_PFSTAT, .REC_TRGCFG, .REC_TRGCNT, .SPN_CALSTAT, .SPN_COEF, .SPN_FLCNT, .SPN_FLCTL, .SPN_FLSTAT, .SPN_LANE, .SPN_PSTAT]

@[simp] theorem wrFlctl_rd (c : WrCtx) (s : State) (reg : Reg) (rix : Nat) (hav : avoids Foot.wrFlctl reg = true) :
    ((wrFlctl c s)).1.rd reg rix = s.rd reg rix := by
  have c0 : avoids Foot.checkCap reg = true := avoids_mono (by decide) hav
  have c1 : avoids Foot.flRetrain reg = true := avoids_mono (by decide) hav
  have f0 : reg ≠ .SPN_FLCTL := avoids_ne (by decide) hav
  unfold wrFlctl
  (repeat' split) <;> simp -implicitDefEqProofs (maxDischargeDepth := 6) [*]

@[simp] theorem wrFlvc_frame (c : WrCtx) (s : State) :
    ((wrFlvc c s)).1.env = s.env ∧ ((wrFlvc c s)).1.jrn = s.jrn ∧ ((wrFlvc c s)).1.err = s.err ∧
    ((wrFlvc c s)).1.ports = s.ports ∧ ((wrFlvc c s)).1.deck = s.deck ∧ ((wrFlvc c s)).1.csn = s.csn ∧
    ((wrFlvc c s)).1.host = s.host ∧ ((wrFlvc c s)).1.fab = s.fab ∧ ((wrFlvc c s)).1.eng = s.eng ∧
    ((wrFlvc c s)).1.img = s.img ∧ ((wrFlvc c s)).1.rcd = s.rcd ∧ ((wrFlvc c s)).1.pmc = s.pmc ∧
    ((wrFlvc c s)).1.abt = s.abt ∧ ((wrFlvc c s)).1.mode = s.mode ∧ ((wrFlvc c s)).1.key = s.key ∧
    ((wrFlvc c s)).1.sb = s.sb ∧ ((wrFlvc c s)).1.pending = s.pending := by
  unfold wrFlvc
  (repeat' split) <;> (try simp -implicitDefEqProofs (maxDischargeDepth := 6)) <;> (repeat' split) <;> simp -implicitDefEqProofs (maxDischargeDepth := 6)

def Foot.wrFlvc : List Reg := [.SPN_FLVC]

@[simp] theorem wrFlvc_rd (c : WrCtx) (s : State) (reg : Reg) (rix : Nat) (hav : avoids Foot.wrFlvc reg = true) :
    ((wrFlvc c s)).1.rd reg rix = s.rd reg rix := by
  have c0 : avoids Foot.setFl reg = true := avoids_mono (by decide) hav
  have c1 : avoids Foot.refuse reg = true := avoids_mono (by decide) hav
  have f0 : reg ≠ .SPN_FLVC := avoids_ne (by decide) hav
  unfold wrFlvc
  (repeat' split) <;> (try simp -implicitDefEqProofs (maxDischargeDepth := 6) [*]) <;> (repeat' split) <;> simp -implicitDefEqProofs (maxDischargeDepth := 6) [*]

@[simp] theorem wrEngCtl_frame (c : WrCtx) (s : State) :
    ((wrEngCtl c s)).1.env = s.env ∧ ((wrEngCtl c s)).1.jrn = s.jrn ∧ ((wrEngCtl c s)).1.err = s.err ∧
    ((wrEngCtl c s)).1.ports = s.ports ∧ ((wrEngCtl c s)).1.deck = s.deck ∧ ((wrEngCtl c s)).1.csn = s.csn ∧
    ((wrEngCtl c s)).1.fl = s.fl ∧ ((wrEngCtl c s)).1.host = s.host ∧ ((wrEngCtl c s)).1.fab = s.fab ∧
    ((wrEngCtl c s)).1.img = s.img ∧ ((wrEngCtl c s)).1.rcd = s.rcd ∧ ((wrEngCtl c s)).1.pmc = s.pmc ∧
    ((wrEngCtl c s)).1.abt = s.abt ∧ ((wrEngCtl c s)).1.mode = s.mode ∧ ((wrEngCtl c s)).1.key = s.key ∧
    ((wrEngCtl c s)).1.sb = s.sb ∧ ((wrEngCtl c s)).1.pending = s.pending := by
  unfold wrEngCtl
  (repeat' split) <;> (try simp -implicitDefEqProofs (maxDischargeDepth := 6)) <;> (repeat' split) <;> simp -implicitDefEqProofs (maxDischargeDepth := 6)

def Foot.wrEngCtl : List Reg := [.ENG_CTL, .ENG_STAT, .PIR_DUTY]

@[simp] theorem wrEngCtl_rd (c : WrCtx) (s : State) (reg : Reg) (rix : Nat) (hav : avoids Foot.wrEngCtl reg = true) :
    ((wrEngCtl c s)).1.rd reg rix = s.rd reg rix := by
  have c0 : avoids Foot.parkRequest reg = true := avoids_mono (by decide) hav
  have c1 : avoids Foot.refuse reg = true := avoids_mono (by decide) hav
  have f0 : reg ≠ .ENG_CTL := avoids_ne (by decide) hav
  unfold wrEngCtl
  (repeat' split) <;> (try simp -implicitDefEqProofs (maxDischargeDepth := 6) [*]) <;> (repeat' split) <;> simp -implicitDefEqProofs (maxDischargeDepth := 6) [*]

@[simp] theorem wrPmap_frame (c : WrCtx) (s : State) :
    ((wrPmap c s)).1.env = s.env ∧ ((wrPmap c s)).1.jrn = s.jrn ∧ ((wrPmap c s)).1.err = s.err ∧
    ((wrPmap c s)).1.ports = s.ports ∧ ((wrPmap c s)).1.deck = s.deck ∧ ((wrPmap c s)).1.csn = s.csn ∧
    ((wrPmap c s)).1.fl = s.fl ∧ ((wrPmap c s)).1.host = s.host ∧ ((wrPmap c s)).1.fab = s.fab ∧
    ((wrPmap c s)).1.eng = s.eng ∧ ((wrPmap c s)).1.img = s.img ∧ ((wrPmap c s)).1.rcd = s.rcd ∧
    ((wrPmap c s)).1.pmc = s.pmc ∧ ((wrPmap c s)).1.abt = s.abt ∧ ((wrPmap c s)).1.mode = s.mode ∧
    ((wrPmap c s)).1.key = s.key ∧ ((wrPmap c s)).1.sb = s.sb ∧ ((wrPmap c s)).1.pending = s.pending := by
  unfold wrPmap
  (repeat' split) <;> simp -implicitDefEqProofs (maxDischargeDepth := 6)

def Foot.wrPmap : List Reg := [.PIR_PMAP]

@[simp] theorem wrPmap_rd (c : WrCtx) (s : State) (reg : Reg) (rix : Nat) (hav : avoids Foot.wrPmap reg = true) :
    ((wrPmap c s)).1.rd reg rix = s.rd reg rix := by
  have c0 : avoids Foot.refuse reg = true := avoids_mono (by decide) hav
  have f0 : reg ≠ .PIR_PMAP := avoids_ne (by decide) hav
  unfold wrPmap
  (repeat' split) <;> simp -implicitDefEqProofs (maxDischargeDepth := 6) [*]

@[simp] theorem wrReserve_frame (r : Reg) (n : Nat) (c : WrCtx) (s : State) :
    ((wrReserve r n c s)).1.env = s.env ∧ ((wrReserve r n c s)).1.jrn = s.jrn ∧ ((wrReserve r n c s)).1.err = s.err ∧
    ((wrReserve r n c s)).1.ports = s.ports ∧ ((wrReserve r n c s)).1.deck = s.deck ∧ ((wrReserve r n c s)).1.csn = s.csn ∧
    ((wrReserve r n c s)).1.fl = s.fl ∧ ((wrReserve r n c s)).1.host = s.host ∧ ((wrReserve r n c s)).1.fab = s.fab ∧
    ((wrReserve r n c s)).1.eng = s.eng ∧ ((wrReserve r n c s)).1.img = s.img ∧ ((wrReserve r n c s)).1.rcd = s.rcd ∧
    ((wrReserve r n c s)).1.pmc = s.pmc ∧ ((wrReserve r n c s)).1.abt = s.abt ∧ ((wrReserve r n c s)).1.mode = s.mode ∧
    ((wrReserve r n c s)).1.key = s.key ∧ ((wrReserve r n c s)).1.sb = s.sb ∧ ((wrReserve r n c s)).1.pending = s.pending := by
  unfold wrReserve
  (repeat' split) <;> (try simp -implicitDefEqProofs (maxDischargeDepth := 6)) <;> (repeat' split) <;> simp -implicitDefEqProofs (maxDischargeDepth := 6)

@[simp] theorem wrSchctl_frame (c : WrCtx) (s : State) :
    ((wrSchctl c s)).1.env = s.env ∧ ((wrSchctl c s)).1.jrn = s.jrn ∧ ((wrSchctl c s)).1.err = s.err ∧
    ((wrSchctl c s)).1.deck = s.deck ∧ ((wrSchctl c s)).1.csn = s.csn ∧ ((wrSchctl c s)).1.fl = s.fl ∧
    ((wrSchctl c s)).1.host = s.host ∧ ((wrSchctl c s)).1.fab = s.fab ∧ ((wrSchctl c s)).1.eng = s.eng ∧
    ((wrSchctl c s)).1.img = s.img ∧ ((wrSchctl c s)).1.rcd = s.rcd ∧ ((wrSchctl c s)).1.pmc = s.pmc ∧
    ((wrSchctl c s)).1.abt = s.abt ∧ ((wrSchctl c s)).1.mode = s.mode ∧ ((wrSchctl c s)).1.key = s.key ∧
    ((wrSchctl c s)).1.sb = s.sb ∧ ((wrSchctl c s)).1.pending = s.pending := by
  unfold wrSchctl
  (repeat' split) <;> simp -implicitDefEqProofs (maxDischargeDepth := 6)

def Foot.wrSchctl : List Reg := [.PIR_SCHCTL]

@[simp] theorem wrSchctl_rd (c : WrCtx) (s : State) (reg : Reg) (rix : Nat) (hav : avoids Foot.wrSchctl reg = true) :
    ((wrSchctl c s)).1.rd reg rix = s.rd reg rix := by
  have c0 : avoids Foot.settleBrace reg = true := avoids_mono (by decide) hav
  have f0 : reg ≠ .PIR_SCHCTL := avoids_ne (by decide) hav
  unfold wrSchctl
  (repeat' split) <;> simp -implicitDefEqProofs (maxDischargeDepth := 6) [*]

@[simp] theorem wrFroute_frame (c : WrCtx) (s : State) :
    ((wrFroute c s)).1.env = s.env ∧ ((wrFroute c s)).1.jrn = s.jrn ∧ ((wrFroute c s)).1.err = s.err ∧
    ((wrFroute c s)).1.ports = s.ports ∧ ((wrFroute c s)).1.deck = s.deck ∧ ((wrFroute c s)).1.csn = s.csn ∧
    ((wrFroute c s)).1.fl = s.fl ∧ ((wrFroute c s)).1.host = s.host ∧ ((wrFroute c s)).1.eng = s.eng ∧
    ((wrFroute c s)).1.img = s.img ∧ ((wrFroute c s)).1.rcd = s.rcd ∧ ((wrFroute c s)).1.pmc = s.pmc ∧
    ((wrFroute c s)).1.abt = s.abt ∧ ((wrFroute c s)).1.mode = s.mode ∧ ((wrFroute c s)).1.key = s.key ∧
    ((wrFroute c s)).1.sb = s.sb ∧ ((wrFroute c s)).1.pending = s.pending := by
  unfold wrFroute
  (repeat' split) <;> simp -implicitDefEqProofs (maxDischargeDepth := 6)

def Foot.wrFroute : List Reg := [.PIR_FROUTE]

@[simp] theorem wrFroute_rd (c : WrCtx) (s : State) (reg : Reg) (rix : Nat) (hav : avoids Foot.wrFroute reg = true) :
    ((wrFroute c s)).1.rd reg rix = s.rd reg rix := by
  have c0 : avoids Foot.refuse reg = true := avoids_mono (by decide) hav
  have f0 : reg ≠ .PIR_FROUTE := avoids_ne (by decide) hav
  unfold wrFroute
  (repeat' split) <;> simp -implicitDefEqProofs (maxDischargeDepth := 6) [*]

@[simp] theorem wrClose_frame (c : WrCtx) (s : State) :
    ((wrClose c s)).1.img = s.img ∧ ((wrClose c s)).1.abt = s.abt ∧ ((wrClose c s)).1.mode = s.mode ∧
    ((wrClose c s)).1.sb = s.sb ∧ ((wrClose c s)).1.pending = s.pending := by
  unfold wrClose
  (repeat' split) <;> simp -implicitDefEqProofs (maxDischargeDepth := 6)

def Foot.wrClose : List Reg := [.CSN_POOL, .CSN_PSPILL, .CSN_STAT, .ENG_STAT, .GLB_DMASTAT, .GLB_SLOT, .GLB_VSSTAT, .JNL_CMDRES, .JNL_HEAD, .JNL_STAT, .JNL_TAIL, .KEY_NONCE, .KEY_SLOT, .KEY_SLOTHASH, .KEY_STAT, .PIR_BUFEXP, .PIR_BUFOCC, .PIR_CLOSE, .PIR_CPLTRK, .PIR_ERRCNT2, .PIR_EXPMON, .PIR_FBPORT, .PIR_PFCNT, .PMC_BSTAT, .PMC_CNT, .PMC_STAT, .REC_PFSTAT, .REC_TRGCFG, .REC_TRGCNT, .SPN_CALSTAT, .SPN_COEF, .SPN_FLSTAT, .SPN_LANE, .SPN_PSTAT]

@[simp] theorem wrClose_rd (c : WrCtx) (s : State) (reg : Reg) (rix : Nat) (hav : avoids Foot.wrClose reg = true) :
    ((wrClose c s)).1.rd reg rix = s.rd reg rix := by
  have c0 : avoids Foot.spanClose reg = true := avoids_mono (by decide) hav
  have c1 : avoids Foot.releasePort reg = true := avoids_mono (by decide) hav
  have c2 : avoids Foot.refuse reg = true := avoids_mono (by decide) hav
  unfold wrClose
  (repeat' split) <;> simp -implicitDefEqProofs (maxDischargeDepth := 6) [*]

@[simp] theorem fence_frame (m : Nat) (s : State) :
    (fence m s).abt = s.abt ∧ (fence m s).sb = s.sb ∧ (fence m s).pending = s.pending := by
  unfold fence
  (repeat' split) <;> simp -implicitDefEqProofs (maxDischargeDepth := 6)

def Foot.fence : List Reg := [.CSN_POOL, .CSN_PSPILL, .CSN_STAT, .DCK_STAT, .ENG_STAT, .GLB_DMASTAT, .GLB_ERRSTAT, .GLB_IMGSTAT, .GLB_MODE, .GLB_PLANES, .GLB_QSTAT, .GLB_SLOT, .GLB_VSSTAT, .JNL_CMDRES, .JNL_HEAD, .JNL_STAT, .JNL_TAIL, .KEY_NONCE, .KEY_SLOT, .KEY_SLOTHASH, .KEY_STAT, .PIR_BUFEXP, .PIR_BUFOCC, .PIR_CLOSE, .PIR_CPLTRK, .PIR_DKSTAT, .PIR_ERRCNT2, .PIR_EXPMON, .PIR_FBPORT, .PIR_PFCNT, .PIR_PMAP, .PMC_BSTAT, .PMC_CNT, .PMC_STAT, .REC_PFSTAT, .REC_STAT, .REC_TRGCFG, .REC_TRGCNT, .SPN_CALSTAT, .SPN_COEF, .SPN_FLSTAT, .SPN_PSTAT]

@[simp] theorem fence_rd (m : Nat) (s : State) (reg : Reg) (rix : Nat) (hav : avoids Foot.fence reg = true) :
    (fence m s).rd reg rix = s.rd reg rix := by
  have c0 : avoids Foot.pushRec reg = true := avoids_mono (by decide) hav
  have c1 : avoids Foot.setPlane reg = true := avoids_mono (by decide) hav
  have c2 : avoids Foot.remapPlane reg = true := avoids_mono (by decide) hav
  have c3 : avoids Foot.moveUnsent reg = true := avoids_mono (by decide) hav
  have c4 : avoids Foot.drainIfEmpty reg = true := avoids_mono (by decide) hav
  have c5 : avoids Foot.quarantine reg = true := avoids_mono (by decide) hav
  unfold fence
  (repeat' split) <;> simp -implicitDefEqProofs (maxDischargeDepth := 6) [*]

@[simp] theorem unfence_frame (m : Nat) (s : State) :
    (unfence m s).env = s.env ∧ (unfence m s).jrn = s.jrn ∧ (unfence m s).err = s.err ∧ (unfence m s).ports = s.ports ∧
    (unfence m s).deck = s.deck ∧ (unfence m s).csn = s.csn ∧ (unfence m s).fl = s.fl ∧ (unfence m s).host = s.host ∧
    (unfence m s).fab = s.fab ∧ (unfence m s).eng = s.eng ∧ (unfence m s).img = s.img ∧ (unfence m s).rcd = s.rcd ∧
    (unfence m s).pmc = s.pmc ∧ (unfence m s).abt = s.abt ∧ (unfence m s).mode = s.mode ∧ (unfence m s).key = s.key ∧
    (unfence m s).sb = s.sb ∧ (unfence m s).pending = s.pending := by
  unfold unfence
  (repeat' split) <;> simp -implicitDefEqProofs (maxDischargeDepth := 6)

def Foot.unfence : List Reg := [.DCK_STAT, .GLB_PLANES, .PIR_PMAP]

@[simp] theorem unfence_rd (m : Nat) (s : State) (reg : Reg) (rix : Nat) (hav : avoids Foot.unfence reg = true) :
    (unfence m s).rd reg rix = s.rd reg rix := by
  have c0 : avoids Foot.setPlane reg = true := avoids_mono (by decide) hav
  have c1 : avoids Foot.setPmapEntry reg = true := avoids_mono (by decide) hav
  unfold unfence
  (repeat' split) <;> simp -implicitDefEqProofs (maxDischargeDepth := 6) [*]

@[simp] theorem wrDckCtl_frame (c : WrCtx) (s : State) :
    ((wrDckCtl c s)).1.abt = s.abt ∧ ((wrDckCtl c s)).1.sb = s.sb ∧ ((wrDckCtl c s)).1.pending = s.pending := by
  unfold wrDckCtl
  (repeat' split) <;> (try simp -implicitDefEqProofs (maxDischargeDepth := 6)) <;> (repeat' split) <;> simp -implicitDefEqProofs (maxDischargeDepth := 6)

def Foot.wrDckCtl : List Reg := [.CSN_POOL, .CSN_PSPILL, .CSN_STAT, .DCK_STAT, .ENG_STAT, .GLB_DMASTAT, .GLB_ERRSTAT, .GLB_IMGSTAT, .GLB_MODE, .GLB_PLANES, .GLB_QSTAT, .GLB_SLOT, .GLB_VSSTAT, .JNL_CMDRES, .JNL_HEAD, .JNL_STAT, .JNL_TAIL, .KEY_NONCE, .KEY_SLOT, .KEY_SLOTHASH, .KEY_STAT, .PIR_BUFEXP, .PIR_BUFOCC, .PIR_CLOSE, .PIR_CPLTRK, .PIR_DKSTAT, .PIR_ERRCNT2, .PIR_EXPMON, .PIR_FBPORT, .PIR_PFCNT, .PIR_PMAP, .PMC_BSTAT, .PMC_CNT, .PMC_STAT, .REC_PFSTAT, .REC_STAT, .REC_TRGCFG, .REC_TRGCNT, .SPN_CALSTAT, .SPN_COEF, .SPN_FLSTAT, .SPN_PSTAT]

@[simp] theorem wrDckCtl_rd (c : WrCtx) (s : State) (reg : Reg) (rix : Nat) (hav : avoids Foot.wrDckCtl reg = true) :
    ((wrDckCtl c s)).1.rd reg rix = s.rd reg rix := by
  have c0 : avoids Foot.refuse reg = true := avoids_mono (by decide) hav
  have c1 : avoids Foot.fence reg = true := avoids_mono (by decide) hav
  have c2 : avoids Foot.unfence reg = true := avoids_mono (by decide) hav
  unfold wrDckCtl
  (repeat' split) <;> (try simp -implicitDefEqProofs (maxDischargeDepth := 6) [*]) <;> (repeat' split) <;> simp -implicitDefEqProofs (maxDischargeDepth := 6) [*]

@[simp] theorem wrTagcmd_frame (c : WrCtx) (s : State) :
    ((wrTagcmd c s)).1.env = s.env ∧ ((wrTagcmd c s)).1.jrn = s.jrn ∧ ((wrTagcmd c s)).1.err = s.err ∧
    ((wrTagcmd c s)).1.ports = s.ports ∧ ((wrTagcmd c s)).1.deck = s.deck ∧ ((wrTagcmd c s)).1.fl = s.fl ∧
    ((wrTagcmd c s)).1.host = s.host ∧ ((wrTagcmd c s)).1.fab = s.fab ∧ ((wrTagcmd c s)).1.eng = s.eng ∧
    ((wrTagcmd c s)).1.img = s.img ∧ ((wrTagcmd c s)).1.rcd = s.rcd ∧ ((wrTagcmd c s)).1.pmc = s.pmc ∧
    ((wrTagcmd c s)).1.abt = s.abt ∧ ((wrTagcmd c s)).1.mode = s.mode ∧ ((wrTagcmd c s)).1.key = s.key ∧
    ((wrTagcmd c s)).1.sb = s.sb ∧ ((wrTagcmd c s)).1.pending = s.pending := by
  unfold wrTagcmd
  (repeat' split) <;> (try simp -implicitDefEqProofs (maxDischargeDepth := 6)) <;> (repeat' split) <;> simp -implicitDefEqProofs (maxDischargeDepth := 6)

def Foot.wrTagcmd : List Reg := [.CSN_TAGSTAT]

@[simp] theorem wrTagcmd_rd (c : WrCtx) (s : State) (reg : Reg) (rix : Nat) (hav : avoids Foot.wrTagcmd reg = true) :
    ((wrTagcmd c s)).1.rd reg rix = s.rd reg rix := by
  have f0 : reg ≠ F.CSN_TAGSTAT_BUSY.reg := avoids_ne (by decide) hav
  have f1 : reg ≠ F.CSN_TAGSTAT_DONE.reg := avoids_ne (by decide) hav
  have f2 : reg ≠ F.CSN_TAGSTAT_ERR.reg := avoids_ne (by decide) hav
  unfold wrTagcmd
  (repeat' split) <;> (try simp -implicitDefEqProofs (maxDischargeDepth := 6) [*]) <;> (repeat' split) <;> simp -implicitDefEqProofs (maxDischargeDepth := 6) [*]

@[simp] theorem wrWattr_frame (c : WrCtx) (s : State) :
    ((wrWattr c s)).1.env = s.env ∧ ((wrWattr c s)).1.jrn = s.jrn ∧ ((wrWattr c s)).1.err = s.err ∧
    ((wrWattr c s)).1.ports = s.ports ∧ ((wrWattr c s)).1.deck = s.deck ∧ ((wrWattr c s)).1.csn = s.csn ∧
    ((wrWattr c s)).1.fl = s.fl ∧ ((wrWattr c s)).1.host = s.host ∧ ((wrWattr c s)).1.fab = s.fab ∧
    ((wrWattr c s)).1.eng = s.eng ∧ ((wrWattr c s)).1.img = s.img ∧ ((wrWattr c s)).1.rcd = s.rcd ∧
    ((wrWattr c s)).1.pmc = s.pmc ∧ ((wrWattr c s)).1.abt = s.abt ∧ ((wrWattr c s)).1.mode = s.mode ∧
    ((wrWattr c s)).1.key = s.key ∧ ((wrWattr c s)).1.sb = s.sb ∧ ((wrWattr c s)).1.pending = s.pending := by
  unfold wrWattr
  (repeat' split) <;> (try simp -implicitDefEqProofs (maxDischargeDepth := 6)) <;> (repeat' split) <;> simp -implicitDefEqProofs (maxDischargeDepth := 6)

def Foot.wrWattr : List Reg := [.GTE_WATTR]

@[simp] theorem wrWattr_rd (c : WrCtx) (s : State) (reg : Reg) (rix : Nat) (hav : avoids Foot.wrWattr reg = true) :
    ((wrWattr c s)).1.rd reg rix = s.rd reg rix := by
  have c0 : avoids Foot.refuse reg = true := avoids_mono (by decide) hav
  have f0 : reg ≠ .GTE_WATTR := avoids_ne (by decide) hav
  unfold wrWattr
  (repeat' split) <;> (try simp -implicitDefEqProofs (maxDischargeDepth := 6) [*]) <;> (repeat' split) <;> simp -implicitDefEqProofs (maxDischargeDepth := 6) [*]

@[simp] theorem wrBounds_frame (r : Reg) (c : WrCtx) (s : State) :
    ((wrBounds r c s)).1.env = s.env ∧ ((wrBounds r c s)).1.jrn = s.jrn ∧ ((wrBounds r c s)).1.err = s.err ∧
    ((wrBounds r c s)).1.ports = s.ports ∧ ((wrBounds r c s)).1.deck = s.deck ∧ ((wrBounds r c s)).1.csn = s.csn ∧
    ((wrBounds r c s)).1.fl = s.fl ∧ ((wrBounds r c s)).1.host = s.host ∧ ((wrBounds r c s)).1.fab = s.fab ∧
    ((wrBounds r c s)).1.eng = s.eng ∧ ((wrBounds r c s)).1.img = s.img ∧ ((wrBounds r c s)).1.rcd = s.rcd ∧
    ((wrBounds r c s)).1.pmc = s.pmc ∧ ((wrBounds r c s)).1.abt = s.abt ∧ ((wrBounds r c s)).1.mode = s.mode ∧
    ((wrBounds r c s)).1.key = s.key ∧ ((wrBounds r c s)).1.sb = s.sb ∧ ((wrBounds r c s)).1.pending = s.pending := by
  unfold wrBounds
  (repeat' split) <;> simp -implicitDefEqProofs (maxDischargeDepth := 6)

@[simp] theorem wrPortdef_frame (c : WrCtx) (s : State) :
    ((wrPortdef c s)).1.env = s.env ∧ ((wrPortdef c s)).1.jrn = s.jrn ∧ ((wrPortdef c s)).1.err = s.err ∧
    ((wrPortdef c s)).1.ports = s.ports ∧ ((wrPortdef c s)).1.deck = s.deck ∧ ((wrPortdef c s)).1.csn = s.csn ∧
    ((wrPortdef c s)).1.fl = s.fl ∧ ((wrPortdef c s)).1.host = s.host ∧ ((wrPortdef c s)).1.fab = s.fab ∧
    ((wrPortdef c s)).1.eng = s.eng ∧ ((wrPortdef c s)).1.img = s.img ∧ ((wrPortdef c s)).1.rcd = s.rcd ∧
    ((wrPortdef c s)).1.pmc = s.pmc ∧ ((wrPortdef c s)).1.abt = s.abt ∧ ((wrPortdef c s)).1.mode = s.mode ∧
    ((wrPortdef c s)).1.key = s.key ∧ ((wrPortdef c s)).1.sb = s.sb ∧ ((wrPortdef c s)).1.pending = s.pending := by
  unfold wrPortdef
  (repeat' split) <;> (try simp -implicitDefEqProofs (maxDischargeDepth := 6)) <;> (repeat' split) <;> simp -implicitDefEqProofs (maxDischargeDepth := 6)

def Foot.wrPortdef : List Reg := [.TNT_PORTDEF]

@[simp] theorem wrPortdef_rd (c : WrCtx) (s : State) (reg : Reg) (rix : Nat) (hav : avoids Foot.wrPortdef reg = true) :
    ((wrPortdef c s)).1.rd reg rix = s.rd reg rix := by
  have c0 : avoids Foot.refuse reg = true := avoids_mono (by decide) hav
  have f0 : reg ≠ .TNT_PORTDEF := avoids_ne (by decide) hav
  unfold wrPortdef
  (repeat' split) <;> (try simp -implicitDefEqProofs (maxDischargeDepth := 6) [*]) <;> (repeat' split) <;> simp -implicitDefEqProofs (maxDischargeDepth := 6) [*]

@[simp] theorem wrEntctl_frame (c : WrCtx) (s : State) :
    ((wrEntctl c s)).1.env = s.env ∧ ((wrEntctl c s)).1.jrn = s.jrn ∧ ((wrEntctl c s)).1.err = s.err ∧
    ((wrEntctl c s)).1.ports = s.ports ∧ ((wrEntctl c s)).1.deck = s.deck ∧ ((wrEntctl c s)).1.csn = s.csn ∧
    ((wrEntctl c s)).1.fl = s.fl ∧ ((wrEntctl c s)).1.host = s.host ∧ ((wrEntctl c s)).1.fab = s.fab ∧
    ((wrEntctl c s)).1.eng = s.eng ∧ ((wrEntctl c s)).1.img = s.img ∧ ((wrEntctl c s)).1.rcd = s.rcd ∧
    ((wrEntctl c s)).1.pmc = s.pmc ∧ ((wrEntctl c s)).1.abt = s.abt ∧ ((wrEntctl c s)).1.mode = s.mode ∧
    ((wrEntctl c s)).1.key = s.key ∧ ((wrEntctl c s)).1.sb = s.sb ∧ ((wrEntctl c s)).1.pending = s.pending := by
  unfold wrEntctl
  (repeat' split) <;> (try simp -implicitDefEqProofs (maxDischargeDepth := 6)) <;> (repeat' split) <;> simp -implicitDefEqProofs (maxDischargeDepth := 6)

def Foot.wrEntctl : List Reg := [.TNT_ENTCTL]

@[simp] theorem wrEntctl_rd (c : WrCtx) (s : State) (reg : Reg) (rix : Nat) (hav : avoids Foot.wrEntctl reg = true) :
    ((wrEntctl c s)).1.rd reg rix = s.rd reg rix := by
  have c0 : avoids Foot.refuse reg = true := avoids_mono (by decide) hav
  have f0 : reg ≠ .TNT_ENTCTL := avoids_ne (by decide) hav
  unfold wrEntctl
  (repeat' split) <;> (try simp -implicitDefEqProofs (maxDischargeDepth := 6) [*]) <;> (repeat' split) <;> simp -implicitDefEqProofs (maxDischargeDepth := 6) [*]

@[simp] theorem wrFire_frame (c : WrCtx) (s : State) :
    ((wrFire c s)).1.jrn = s.jrn ∧ ((wrFire c s)).1.csn = s.csn ∧ ((wrFire c s)).1.fl = s.fl ∧
    ((wrFire c s)).1.fab = s.fab ∧ ((wrFire c s)).1.eng = s.eng ∧ ((wrFire c s)).1.img = s.img ∧
    ((wrFire c s)).1.abt = s.abt ∧ ((wrFire c s)).1.mode = s.mode ∧ ((wrFire c s)).1.key = s.key ∧
    ((wrFire c s)).1.sb = s.sb ∧ ((wrFire c s)).1.pending = s.pending := by
  unfold wrFire
  (repeat' split) <;> simp -implicitDefEqProofs (maxDischargeDepth := 6)

def Foot.wrFire : List Reg := [.PIR_BUFEXP, .PIR_BUFOCC, .PIR_CPLTRK, .PIR_ERRCNT2, .PIR_EXPMON, .PIR_FBPORT, .PMC_STAT, .REC_TRGCFG, .REC_TRGCNT]

@[simp] theorem wrFire_rd (c : WrCtx) (s : State) (reg : Reg) (rix : Nat) (hav : avoids Foot.wrFire reg = true) :
    ((wrFire c s)).1.rd reg rix = s.rd reg rix := by
  have c0 : avoids Foot.fire reg = true := avoids_mono (by decide) hav
  unfold wrFire
  (repeat' split) <;> simp -implicitDefEqProofs (maxDischargeDepth := 6) [*]

@[simp] theorem wrPmcCmd_frame (c : WrCtx) (s : State) :
    ((wrPmcCmd c s)).1.env = s.env ∧ ((wrPmcCmd c s)).1.jrn = s.jrn ∧ ((wrPmcCmd c s)).1.err = s.err ∧
    ((wrPmcCmd c s)).1.ports = s.ports ∧ ((wrPmcCmd c s)).1.deck = s.deck ∧ ((wrPmcCmd c s)).1.csn = s.csn ∧
    ((wrPmcCmd c s)).1.fl = s.fl ∧ ((wrPmcCmd c s)).1.host = s.host ∧ ((wrPmcCmd c s)).1.fab = s.fab ∧
    ((wrPmcCmd c s)).1.eng = s.eng ∧ ((wrPmcCmd c s)).1.img = s.img ∧ ((wrPmcCmd c s)).1.rcd = s.rcd ∧
    ((wrPmcCmd c s)).1.abt = s.abt ∧ ((wrPmcCmd c s)).1.mode = s.mode ∧ ((wrPmcCmd c s)).1.key = s.key ∧
    ((wrPmcCmd c s)).1.sb = s.sb ∧ ((wrPmcCmd c s)).1.pending = s.pending := by
  unfold wrPmcCmd
  (repeat' split) <;> (try simp -implicitDefEqProofs (maxDischargeDepth := 6)) <;> (repeat' split) <;> simp -implicitDefEqProofs (maxDischargeDepth := 6)

def Foot.wrPmcCmd : List Reg := [.PMC_STAT]

@[simp] theorem wrPmcCmd_rd (c : WrCtx) (s : State) (reg : Reg) (rix : Nat) (hav : avoids Foot.wrPmcCmd reg = true) :
    ((wrPmcCmd c s)).1.rd reg rix = s.rd reg rix := by
  have c0 : avoids Foot.pmcSchedule reg = true := avoids_mono (by decide) hav
  have c1 : avoids Foot.refuse reg = true := avoids_mono (by decide) hav
  unfold wrPmcCmd
  (repeat' split) <;> (try simp -implicitDefEqProofs (maxDischargeDepth := 6) [*]) <;> (repeat' split) <;> simp -implicitDefEqProofs (maxDischargeDepth := 6) [*]

@[simp] theorem wrBctl_frame (c : WrCtx) (s : State) :
    ((wrBctl c s)).1.env = s.env ∧ ((wrBctl c s)).1.jrn = s.jrn ∧ ((wrBctl c s)).1.err = s.err ∧
    ((wrBctl c s)).1.ports = s.ports ∧ ((wrBctl c s)).1.deck = s.deck ∧ ((wrBctl c s)).1.csn = s.csn ∧
    ((wrBctl c s)).1.fl = s.fl ∧ ((wrBctl c s)).1.host = s.host ∧ ((wrBctl c s)).1.fab = s.fab ∧
    ((wrBctl c s)).1.eng = s.eng ∧ ((wrBctl c s)).1.img = s.img ∧ ((wrBctl c s)).1.rcd = s.rcd ∧
    ((wrBctl c s)).1.abt = s.abt ∧ ((wrBctl c s)).1.mode = s.mode ∧ ((wrBctl c s)).1.key = s.key ∧
    ((wrBctl c s)).1.sb = s.sb ∧ ((wrBctl c s)).1.pending = s.pending := by
  unfold wrBctl
  (repeat' split) <;> simp -implicitDefEqProofs (maxDischargeDepth := 6)

def Foot.wrBctl : List Reg := [.PMC_BCTL, .PMC_BSTAT, .PMC_CNT]

@[simp] theorem wrBctl_rd (c : WrCtx) (s : State) (reg : Reg) (rix : Nat) (hav : avoids Foot.wrBctl reg = true) :
    ((wrBctl c s)).1.rd reg rix = s.rd reg rix := by
  have c0 : avoids Foot.blockReset reg = true := avoids_mono (by decide) hav
  have f0 : reg ≠ .PMC_BCTL := avoids_ne (by decide) hav
  unfold wrBctl
  (repeat' split) <;> simp -implicitDefEqProofs (maxDischargeDepth := 6) [*]

@[simp] theorem wrEvt_frame (c : WrCtx) (s : State) :
    ((wrEvt c s)).1.env = s.env ∧ ((wrEvt c s)).1.jrn = s.jrn ∧ ((wrEvt c s)).1.err = s.err ∧
    ((wrEvt c s)).1.ports = s.ports ∧ ((wrEvt c s)).1.deck = s.deck ∧ ((wrEvt c s)).1.csn = s.csn ∧
    ((wrEvt c s)).1.fl = s.fl ∧ ((wrEvt c s)).1.host = s.host ∧ ((wrEvt c s)).1.fab = s.fab ∧ ((wrEvt c s)).1.eng = s.eng ∧
    ((wrEvt c s)).1.img = s.img ∧ ((wrEvt c s)).1.rcd = s.rcd ∧ ((wrEvt c s)).1.pmc = s.pmc ∧ ((wrEvt c s)).1.abt = s.abt ∧
    ((wrEvt c s)).1.mode = s.mode ∧ ((wrEvt c s)).1.key = s.key ∧ ((wrEvt c s)).1.sb = s.sb ∧
    ((wrEvt c s)).1.pending = s.pending := by
  unfold wrEvt
  (repeat' split) <;> simp -implicitDefEqProofs (maxDischargeDepth := 6)

def Foot.wrEvt : List Reg := [.PMC_BSTAT, .PMC_CNT, .PMC_EVT]

@[simp] theorem wrEvt_rd (c : WrCtx) (s : State) (reg : Reg) (rix : Nat) (hav : avoids Foot.wrEvt reg = true) :
    ((wrEvt c s)).1.rd reg rix = s.rd reg rix := by
  have f0 : reg ≠ F.PMC_BSTAT_OVF.reg := avoids_ne (by decide) hav
  have f1 : reg ≠ .PMC_CNT := avoids_ne (by decide) hav
  have f2 : reg ≠ .PMC_EVT := avoids_ne (by decide) hav
  unfold wrEvt
  (repeat' split) <;> simp -implicitDefEqProofs (maxDischargeDepth := 6) [*]

@[simp] theorem wrPwdCtl_frame (c : WrCtx) (s : State) :
    ((wrPwdCtl c s)).1.img = s.img ∧ ((wrPwdCtl c s)).1.abt = s.abt ∧ ((wrPwdCtl c s)).1.sb = s.sb ∧
    ((wrPwdCtl c s)).1.pending = s.pending := by
  unfold wrPwdCtl
  (repeat' split) <;> (try simp -implicitDefEqProofs (maxDischargeDepth := 6)) <;> (repeat' split) <;> simp -implicitDefEqProofs (maxDischargeDepth := 6)

def Foot.wrPwdCtl : List Reg := [.CLK_ISLSTAT, .CSN_CHSTAT, .CSN_POOL, .CSN_PSPILL, .CSN_STAT, .DCK_STAT, .ENG_STAT, .GLB_DMASTAT, .GLB_PLANES, .GLB_SLOT, .GLB_VSSTAT, .JNL_CMDRES, .JNL_HEAD, .JNL_STAT, .JNL_TAIL, .KEY_NONCE, .KEY_SLOT, .KEY_SLOTHASH, .KEY_STAT, .PIR_BUFEXP, .PIR_BUFOCC, .PIR_CPLTRK, .PIR_DUTY, .PIR_ERRCNT2, .PIR_EXPMON, .PIR_FBPORT, .PIR_PFCNT, .PMC_BSTAT, .PMC_CNT, .PMC_STAT, .PWD_CTL, .PWD_STAT, .REC_PFSTAT, .REC_TRGCFG, .REC_TRGCNT, .SPN_CALSTAT, .SPN_COEF, .SPN_FLSTAT, .SPN_PSTAT]

@[simp] theorem wrPwdCtl_rd (c : WrCtx) (s : State) (reg : Reg) (rix : Nat) (hav : avoids Foot.wrPwdCtl reg = true) :
    ((wrPwdCtl c s)).1.rd reg rix = s.rd reg rix := by
  have c0 : avoids Foot.domRequest reg = true := avoids_mono (by decide) hav
  have f0 : reg ≠ F.PWD_STAT_LASTERR.reg := avoids_ne (by decide) hav
  have f1 : reg ≠ .PWD_CTL := avoids_ne (by decide) hav
  unfold wrPwdCtl
  (repeat' split) <;> (try simp -implicitDefEqProofs (maxDischargeDepth := 6) [*]) <;> (repeat' split) <;> simp -implicitDefEqProofs (maxDischargeDepth := 6) [*]

@[simp] theorem failedWrite_frame (org : Origin) (off result : Nat) (w : RegW) (after : Word) (s : State) :
    (failedWrite org off result w after s).csn = s.csn ∧ (failedWrite org off result w after s).fl = s.fl ∧
    (failedWrite org off result w after s).fab = s.fab ∧ (failedWrite org off result w after s).img = s.img ∧
    (failedWrite org off result w after s).abt = s.abt ∧ (failedWrite org off result w after s).mode = s.mode ∧
    (failedWrite org off result w after s).key = s.key ∧ (failedWrite org off result w after s).sb = s.sb ∧
    (failedWrite org off result w after s).pending = s.pending := by
  unfold failedWrite
  (repeat' split) <;> simp -implicitDefEqProofs (maxDischargeDepth := 6)

def Foot.failedWrite : List Reg := [.ENG_STAT, .JNL_HEAD, .JNL_TAIL, .PIR_BUFEXP, .PIR_BUFOCC, .PIR_CPLTRK, .PIR_ERRCNT2, .PIR_EXPMON, .PIR_FBPORT, .PMC_BSTAT, .PMC_CNT, .PMC_STAT, .REC_TRGCFG, .REC_TRGCNT]

@[simp] theorem failedWrite_rd (org : Origin) (off result : Nat) (w : RegW) (after : Word) (s : State) (reg : Reg) (rix : Nat) (hav : avoids Foot.failedWrite reg = true) :
    (failedWrite org off result w after s).rd reg rix = s.rd reg rix := by
  have c0 : avoids Foot.keeperEntry reg = true := avoids_mono (by decide) hav
  unfold failedWrite
  (repeat' split) <;> simp -implicitDefEqProofs (maxDischargeDepth := 6) [*]

@[simp] theorem islandEntry_frame (isl : Nat) (e : JReq) (s : State) :
    (islandEntry isl e s).csn = s.csn ∧ (islandEntry isl e s).fl = s.fl ∧ (islandEntry isl e s).fab = s.fab ∧
    (islandEntry isl e s).img = s.img ∧ (islandEntry isl e s).abt = s.abt ∧ (islandEntry isl e s).mode = s.mode ∧
    (islandEntry isl e s).key = s.key ∧ (islandEntry isl e s).sb = s.sb ∧ (islandEntry isl e s).pending = s.pending := by
  unfold islandEntry
  (repeat' split) <;> simp -implicitDefEqProofs (maxDischargeDepth := 6)

def Foot.islandEntry : List Reg := [.ENG_STAT, .JNL_HEAD, .JNL_TAIL, .PIR_BUFEXP, .PIR_BUFOCC, .PIR_CPLTRK, .PIR_ERRCNT2, .PIR_EXPMON, .PIR_FBPORT, .PMC_BSTAT, .PMC_CNT, .PMC_STAT, .REC_TRGCFG, .REC_TRGCNT]

@[simp] theorem islandEntry_rd (isl : Nat) (e : JReq) (s : State) (reg : Reg) (rix : Nat) (hav : avoids Foot.islandEntry reg = true) :
    (islandEntry isl e s).rd reg rix = s.rd reg rix := by
  have c0 : avoids Foot.jPush reg = true := avoids_mono (by decide) hav
  have c1 : avoids Foot.keeperEntry reg = true := avoids_mono (by decide) hav
  unfold islandEntry
  (repeat' split) <;> simp -implicitDefEqProofs (maxDischargeDepth := 6) [*]

@[simp] theorem shadowed_frame (r : Reg) (i : Nat) (s : State) :
    (shadowed r i s).env = s.env ∧ (shadowed r i s).jrn = s.jrn ∧ (shadowed r i s).err = s.err ∧
    (shadowed r i s).ports = s.ports ∧ (shadowed r i s).deck = s.deck ∧ (shadowed r i s).csn = s.csn ∧
    (shadowed r i s).fl = s.fl ∧ (shadowed r i s).host = s.host ∧ (shadowed r i s).fab = s.fab ∧
    (shadowed r i s).eng = s.eng ∧ (shadowed r i s).rcd = s.rcd ∧ (shadowed r i s).pmc = s.pmc ∧
    (shadowed r i s).abt = s.abt ∧ (shadowed r i s).mode = s.mode ∧ (shadowed r i s).key = s.key ∧
    (shadowed r i s).sb = s.sb ∧ (shadowed r i s).pending = s.pending := by
  unfold shadowed
  (repeat' split) <;> simp -implicitDefEqProofs (maxDischargeDepth := 6)

def Foot.shadowed : List Reg := []

@[simp] theorem shadowed_rd (r : Reg) (i : Nat) (s : State) (reg : Reg) (rix : Nat) (hav : avoids Foot.shadowed reg = true) :
    (shadowed r i s).rd reg rix = s.rd reg rix := by
  unfold shadowed
  (repeat' split) <;> simp -implicitDefEqProofs (maxDischargeDepth := 6) [*]

@[simp] theorem regRefuse_frame (off part : Nat) (w : RegW) (s : State) :
    (regRefuse off part w s).csn = s.csn ∧ (regRefuse off part w s).fl = s.fl ∧ (regRefuse off part w s).img = s.img ∧
    (regRefuse off part w s).abt = s.abt ∧ (regRefuse off part w s).mode = s.mode ∧ (regRefuse off part w s).key = s.key ∧
    (regRefuse off part w s).sb = s.sb ∧ (regRefuse off part w s).pending = s.pending := by
  unfold regRefuse
  (repeat' split) <;> simp -implicitDefEqProofs (maxDischargeDepth := 6)

def Foot.regRefuse : List Reg := [.ENG_STAT, .GTE_LOGE, .GTE_LOGSTAT, .JNL_HEAD, .JNL_TAIL, .PIR_BUFEXP, .PIR_BUFOCC, .PIR_CPLTRK, .PIR_ERRCNT2, .PIR_EXPMON, .PIR_FBPORT, .PMC_BSTAT, .PMC_CNT, .PMC_STAT, .REC_TRGCFG, .REC_TRGCNT]

@[simp] theorem regRefuse_rd (off part : Nat) (w : RegW) (s : State) (reg : Reg) (rix : Nat) (hav : avoids Foot.regRefuse reg = true) :
    (regRefuse off part w s).rd reg rix = s.rd reg rix := by
  have c1 : avoids Foot.logRefused reg = true := avoids_mono (by decide) hav
  have c2 : avoids Foot.failedWrite reg = true := avoids_mono (by decide) hav
  unfold regRefuse
  (repeat' split) <;> simp -implicitDefEqProofs (maxDischargeDepth := 6) [*]

@[simp] theorem bar4Put_frame (v a : Nat) (b : Byte) (s : State) :
    (bar4Put v a b s).env = s.env ∧ (bar4Put v a b s).jrn = s.jrn ∧ (bar4Put v a b s).err = s.err ∧
    (bar4Put v a b s).ports = s.ports ∧ (bar4Put v a b s).deck = s.deck ∧ (bar4Put v a b s).csn = s.csn ∧
    (bar4Put v a b s).fl = s.fl ∧ (bar4Put v a b s).fab = s.fab ∧ (bar4Put v a b s).eng = s.eng ∧
    (bar4Put v a b s).img = s.img ∧ (bar4Put v a b s).rcd = s.rcd ∧ (bar4Put v a b s).pmc = s.pmc ∧
    (bar4Put v a b s).abt = s.abt ∧ (bar4Put v a b s).mode = s.mode ∧ (bar4Put v a b s).key = s.key ∧
    (bar4Put v a b s).sb = s.sb ∧ (bar4Put v a b s).pending = s.pending := by
  unfold bar4Put
  (repeat' split) <;> simp -implicitDefEqProofs (maxDischargeDepth := 6)

def Foot.bar4Put : List Reg := []

@[simp] theorem bar4Put_rd (v a : Nat) (b : Byte) (s : State) (reg : Reg) (rix : Nat) (hav : avoids Foot.bar4Put reg = true) :
    (bar4Put v a b s).rd reg rix = s.rd reg rix := by
  have c0 : avoids Foot.msixWr reg = true := avoids_mono (by decide) hav
  unfold bar4Put
  (repeat' split) <;> simp -implicitDefEqProofs (maxDischargeDepth := 6) [*]

@[simp] theorem aerIngress_frame (c : Carried) (bit : Nat) (s : State) :
    (aerIngress c bit s).env = s.env ∧ (aerIngress c bit s).jrn = s.jrn ∧ (aerIngress c bit s).csn = s.csn ∧
    (aerIngress c bit s).fl = s.fl ∧ (aerIngress c bit s).fab = s.fab ∧ (aerIngress c bit s).eng = s.eng ∧
    (aerIngress c bit s).img = s.img ∧ (aerIngress c bit s).rcd = s.rcd ∧ (aerIngress c bit s).pmc = s.pmc ∧
    (aerIngress c bit s).abt = s.abt ∧ (aerIngress c bit s).mode = s.mode ∧ (aerIngress c bit s).key = s.key ∧
    (aerIngress c bit s).sb = s.sb ∧ (aerIngress c bit s).pending = s.pending := by
  unfold aerIngress
  (repeat' split) <;> simp -implicitDefEqProofs (maxDischargeDepth := 6)

def Foot.aerIngress : List Reg := [.PIR_BUFEXP, .PIR_BUFOCC, .PIR_CPLTRK, .PIR_ERRCNT2, .PIR_EXPMON, .PIR_FBPORT]

@[simp] theorem aerIngress_rd (c : Carried) (bit : Nat) (s : State) (reg : Reg) (rix : Nat) (hav : avoids Foot.aerIngress reg = true) :
    (aerIngress c bit s).rd reg rix = s.rd reg rix := by
  have c0 : avoids Foot.aerUnc reg = true := avoids_mono (by decide) hav
  have c1 : avoids Foot.aerPort reg = true := avoids_mono (by decide) hav
  unfold aerIngress
  (repeat' split) <;> simp -implicitDefEqProofs (maxDischargeDepth := 6) [*]

@[simp] theorem logParts_frame (z : Nat) (c : Carried) (ps : List Part) (s : State) :
    (logParts z c ps s).jrn = s.jrn ∧ (logParts z c ps s).csn = s.csn ∧ (logParts z c ps s).fl = s.fl ∧
    (logParts z c ps s).img = s.img ∧ (logParts z c ps s).abt = s.abt ∧ (logParts z c ps s).mode = s.mode ∧
    (logParts z c ps s).key = s.key ∧ (logParts z c ps s).sb = s.sb ∧ (logParts z c ps s).pending = s.pending := by
  unfold logParts
  (repeat' split) <;> simp -implicitDefEqProofs (maxDischargeDepth := 6)

def Foot.logParts : List Reg := [.ENG_STAT, .GTE_LOGE, .GTE_LOGSTAT, .PIR_BUFEXP, .PIR_BUFOCC, .PIR_CPLTRK, .PIR_ERRCNT2, .PIR_EXPMON, .PIR_FBPORT, .PMC_BSTAT, .PMC_CNT, .PMC_STAT, .REC_TRGCFG, .REC_TRGCNT]

@[simp] theorem logParts_rd (z : Nat) (c : Carried) (ps : List Part) (s : State) (reg : Reg) (rix : Nat) (hav : avoids Foot.logParts reg = true) :
    (logParts z c ps s).rd reg rix = s.rd reg rix := by
  have c0 : avoids Foot.gateLog reg = true := avoids_mono (by decide) hav
  have c1 : avoids Foot.aerIngress reg = true := avoids_mono (by decide) hav
  unfold logParts
  (repeat' split) <;> simp -implicitDefEqProofs (maxDischargeDepth := 6) [*]

@[simp] theorem gateDecide_frame (z : Nat) (c : Carried) (s : State) :
    ((gateDecide z c s)).1.jrn = s.jrn ∧ ((gateDecide z c s)).1.csn = s.csn ∧ ((gateDecide z c s)).1.fl = s.fl ∧
    ((gateDecide z c s)).1.img = s.img ∧ ((gateDecide z c s)).1.abt = s.abt ∧ ((gateDecide z c s)).1.mode = s.mode ∧
    ((gateDecide z c s)).1.key = s.key ∧ ((gateDecide z c s)).1.sb = s.sb ∧ ((gateDecide z c s)).1.pending = s.pending := by
  unfold gateDecide
  (repeat' split) <;> simp -implicitDefEqProofs (maxDischargeDepth := 6)

def Foot.gateDecide : List Reg := [.ENG_STAT, .GTE_LOGE, .GTE_LOGSTAT, .PIR_BUFEXP, .PIR_BUFOCC, .PIR_CPLTRK, .PIR_ERRCNT2, .PIR_EXPMON, .PIR_FBPORT, .PMC_BSTAT, .PMC_CNT, .PMC_STAT, .REC_TRGCFG, .REC_TRGCNT]

@[simp] theorem gateDecide_rd (z : Nat) (c : Carried) (s : State) (reg : Reg) (rix : Nat) (hav : avoids Foot.gateDecide reg = true) :
    ((gateDecide z c s)).1.rd reg rix = s.rd reg rix := by
  have c0 : avoids Foot.count reg = true := avoids_mono (by decide) hav
  have c1 : avoids Foot.logParts reg = true := avoids_mono (by decide) hav
  unfold gateDecide
  (repeat' split) <;> simp -implicitDefEqProofs (maxDischargeDepth := 6) [*]

@[simp] theorem urReq_frame (v fn : Nat) (c : Carried) (s : State) :
    (urReq v fn c s).env = s.env ∧ (urReq v fn c s).jrn = s.jrn ∧ (urReq v fn c s).csn = s.csn ∧
    (urReq v fn c s).fl = s.fl ∧ (urReq v fn c s).fab = s.fab ∧ (urReq v fn c s).eng = s.eng ∧
    (urReq v fn c s).img = s.img ∧ (urReq v fn c s).rcd = s.rcd ∧ (urReq v fn c s).pmc = s.pmc ∧
    (urReq v fn c s).abt = s.abt ∧ (urReq v fn c s).mode = s.mode ∧ (urReq v fn c s).key = s.key ∧
    (urReq v fn c s).sb = s.sb ∧ (urReq v fn c s).pending = s.pending := by
  unfold urReq
  (repeat' split) <;> simp -implicitDefEqProofs (maxDischargeDepth := 6)

def Foot.urReq : List Reg := [.PIR_BUFEXP, .PIR_BUFOCC, .PIR_CPLTRK, .PIR_ERRCNT2, .PIR_EXPMON, .PIR_FBPORT]

@[simp] theorem urReq_rd (v fn : Nat) (c : Carried) (s : State) (reg : Reg) (rix : Nat) (hav : avoids Foot.urReq reg = true) :
    (urReq v fn c s).rd reg rix = s.rd reg rix := by
  have c0 : avoids Foot.failReq reg = true := avoids_mono (by decide) hav
  have c1 : avoids Foot.aerUnc reg = true := avoids_mono (by decide) hav
  unfold urReq
  (repeat' split) <;> simp -implicitDefEqProofs (maxDischargeDepth := 6) [*]

@[simp] theorem acsReq_frame (v fn : Nat) (c : Carried) (s : State) :
    (acsReq v fn c s).env = s.env ∧ (acsReq v fn c s).jrn = s.jrn ∧ (acsReq v fn c s).csn = s.csn ∧
    (acsReq v fn c s).fl = s.fl ∧ (acsReq v fn c s).fab = s.fab ∧ (acsReq v fn c s).eng = s.eng ∧
    (acsReq v fn c s).img = s.img ∧ (acsReq v fn c s).rcd = s.rcd ∧ (acsReq v fn c s).pmc = s.pmc ∧
    (acsReq v fn c s).abt = s.abt ∧ (acsReq v fn c s).mode = s.mode ∧ (acsReq v fn c s).key = s.key ∧
    (acsReq v fn c s).sb = s.sb ∧ (acsReq v fn c s).pending = s.pending := by
  unfold acsReq
  (repeat' split) <;> simp -implicitDefEqProofs (maxDischargeDepth := 6)

def Foot.acsReq : List Reg := [.PIR_BUFEXP, .PIR_BUFOCC, .PIR_CPLTRK, .PIR_ERRCNT2, .PIR_EXPMON, .PIR_FBPORT]

@[simp] theorem acsReq_rd (v fn : Nat) (c : Carried) (s : State) (reg : Reg) (rix : Nat) (hav : avoids Foot.acsReq reg = true) :
    (acsReq v fn c s).rd reg rix = s.rd reg rix := by
  have c0 : avoids Foot.failReq reg = true := avoids_mono (by decide) hav
  have c1 : avoids Foot.aerUnc reg = true := avoids_mono (by decide) hav
  unfold acsReq
  (repeat' split) <;> simp -implicitDefEqProofs (maxDischargeDepth := 6) [*]

@[simp] theorem noRoute_frame (c : Carried) (s : State) :
    (noRoute c s).env = s.env ∧ (noRoute c s).jrn = s.jrn ∧ (noRoute c s).csn = s.csn ∧ (noRoute c s).fl = s.fl ∧
    (noRoute c s).fab = s.fab ∧ (noRoute c s).eng = s.eng ∧ (noRoute c s).img = s.img ∧ (noRoute c s).rcd = s.rcd ∧
    (noRoute c s).pmc = s.pmc ∧ (noRoute c s).abt = s.abt ∧ (noRoute c s).mode = s.mode ∧ (noRoute c s).key = s.key ∧
    (noRoute c s).sb = s.sb ∧ (noRoute c s).pending = s.pending := by
  unfold noRoute
  (repeat' split) <;> simp -implicitDefEqProofs (maxDischargeDepth := 6)

def Foot.noRoute : List Reg := [.PIR_BUFEXP, .PIR_BUFOCC, .PIR_CPLTRK, .PIR_ERRCNT2, .PIR_EXPMON, .PIR_FBPORT]

@[simp] theorem noRoute_rd (c : Carried) (s : State) (reg : Reg) (rix : Nat) (hav : avoids Foot.noRoute reg = true) :
    (noRoute c s).rd reg rix = s.rd reg rix := by
  have c0 : avoids Foot.failReq reg = true := avoids_mono (by decide) hav
  have c1 : avoids Foot.aerIngress reg = true := avoids_mono (by decide) hav
  unfold noRoute
  (repeat' split) <;> simp -implicitDefEqProofs (maxDischargeDepth := 6) [*]

@[simp] theorem tenantRefuse_frame (c : Carried) (s : State) :
    (tenantRefuse c s).env = s.env ∧ (tenantRefuse c s).jrn = s.jrn ∧ (tenantRefuse c s).csn = s.csn ∧
    (tenantRefuse c s).fl = s.fl ∧ (tenantRefuse c s).fab = s.fab ∧ (tenantRefuse c s).eng = s.eng ∧
    (tenantRefuse c s).img = s.img ∧ (tenantRefuse c s).rcd = s.rcd ∧ (tenantRefuse c s).pmc = s.pmc ∧
    (tenantRefuse c s).abt = s.abt ∧ (tenantRefuse c s).mode = s.mode ∧ (tenantRefuse c s).key = s.key ∧
    (tenantRefuse c s).sb = s.sb ∧ (tenantRefuse c s).pending = s.pending := by
  unfold tenantRefuse
  (repeat' split) <;> simp -implicitDefEqProofs (maxDischargeDepth := 6)

def Foot.tenantRefuse : List Reg := [.PIR_BUFEXP, .PIR_BUFOCC, .PIR_CPLTRK, .PIR_ERRCNT2, .PIR_EXPMON, .PIR_FBPORT]

@[simp] theorem tenantRefuse_rd (c : Carried) (s : State) (reg : Reg) (rix : Nat) (hav : avoids Foot.tenantRefuse reg = true) :
    (tenantRefuse c s).rd reg rix = s.rd reg rix := by
  have c0 : avoids Foot.failReq reg = true := avoids_mono (by decide) hav
  have f0 : reg ≠ F.PIR_ERRCNT2_TREFUSED.reg := avoids_ne (by decide) hav
  unfold tenantRefuse
  (repeat' split) <;> simp -implicitDefEqProofs (maxDischargeDepth := 6) [*]

@[simp] theorem excessReq_frame (reserve : Bool) (c : Carried) (s : State) :
    (excessReq reserve c s).jrn = s.jrn ∧ (excessReq reserve c s).csn = s.csn ∧ (excessReq reserve c s).fl = s.fl ∧
    (excessReq reserve c s).fab = s.fab ∧ (excessReq reserve c s).img = s.img ∧ (excessReq reserve c s).abt = s.abt ∧
    (excessReq reserve c s).mode = s.mode ∧ (excessReq reserve c s).key = s.key ∧ (excessReq reserve c s).sb = s.sb ∧
    (excessReq reserve c s).pending = s.pending := by
  unfold excessReq
  (repeat' split) <;> simp -implicitDefEqProofs (maxDischargeDepth := 6)

def Foot.excessReq : List Reg := [.ENG_STAT, .PIR_BUFEXP, .PIR_BUFOCC, .PIR_CPLTRK, .PIR_EPCNT, .PIR_EPLOG, .PIR_ERRCNT2, .PIR_EXPMON, .PIR_FBPORT, .PMC_BSTAT, .PMC_CNT, .PMC_STAT, .REC_TRGCFG, .REC_TRGCNT]

@[simp] theorem excessReq_rd (reserve : Bool) (c : Carried) (s : State) (reg : Reg) (rix : Nat) (hav : avoids Foot.excessReq reg = true) :
    (excessReq reserve c s).rd reg rix = s.rd reg rix := by
  have c0 : avoids Foot.pushRec reg = true := avoids_mono (by decide) hav
  have c1 : avoids Foot.failReq reg = true := avoids_mono (by decide) hav
  have c2 : avoids Foot.count reg = true := avoids_mono (by decide) hav
  have f0 : reg ≠ F.PIR_EPCNT_DROP_NP.reg := avoids_ne (by decide) hav
  have f1 : reg ≠ F.PIR_EPCNT_DROP_P.reg := avoids_ne (by decide) hav
  have f2 : reg ≠ F.PIR_EPLOG_NP.reg := avoids_ne (by decide) hav
  have f3 : reg ≠ F.PIR_EPLOG_PORT.reg := avoids_ne (by decide) hav
  have f4 : reg ≠ F.PIR_EPLOG_RESERVE.reg := avoids_ne (by decide) hav
  have f5 : reg ≠ F.PIR_EPLOG_RID.reg := avoids_ne (by decide) hav
  have f6 : reg ≠ F.PIR_EPLOG_VALID.reg := avoids_ne (by decide) hav
  unfold excessReq
  (repeat' split) <;> simp -implicitDefEqProofs (maxDischargeDepth := 6) [*]

@[simp] theorem takeProxy_frame (h : Held) (s : State) :
    ((takeProxy h s)).2.env = s.env ∧ ((takeProxy h s)).2.jrn = s.jrn ∧ ((takeProxy h s)).2.err = s.err ∧
    ((takeProxy h s)).2.ports = s.ports ∧ ((takeProxy h s)).2.deck = s.deck ∧ ((takeProxy h s)).2.csn = s.csn ∧
    ((takeProxy h s)).2.fl = s.fl ∧ ((takeProxy h s)).2.fab = s.fab ∧ ((takeProxy h s)).2.eng = s.eng ∧
    ((takeProxy h s)).2.img = s.img ∧ ((takeProxy h s)).2.rcd = s.rcd ∧ ((takeProxy h s)).2.pmc = s.pmc ∧
    ((takeProxy h s)).2.abt = s.abt ∧ ((takeProxy h s)).2.mode = s.mode ∧ ((takeProxy h s)).2.key = s.key ∧
    ((takeProxy h s)).2.sb = s.sb ∧ ((takeProxy h s)).2.pending = s.pending := by
  unfold takeProxy
  (repeat' split) <;> simp -implicitDefEqProofs (maxDischargeDepth := 6)

def Foot.takeProxy : List Reg := []

@[simp] theorem takeProxy_rd (h : Held) (s : State) (reg : Reg) (rix : Nat) (hav : avoids Foot.takeProxy reg = true) :
    ((takeProxy h s)).2.rd reg rix = s.rd reg rix := by
  unfold takeProxy
  (repeat' split) <;> simp -implicitDefEqProofs (maxDischargeDepth := 6) [*]

@[simp] theorem takeRecord_frame (h : Held) (s : State) :
    ((takeRecord h s)).2.env = s.env ∧ ((takeRecord h s)).2.jrn = s.jrn ∧ ((takeRecord h s)).2.err = s.err ∧
    ((takeRecord h s)).2.deck = s.deck ∧ ((takeRecord h s)).2.csn = s.csn ∧ ((takeRecord h s)).2.fl = s.fl ∧
    ((takeRecord h s)).2.host = s.host ∧ ((takeRecord h s)).2.eng = s.eng ∧ ((takeRecord h s)).2.img = s.img ∧
    ((takeRecord h s)).2.rcd = s.rcd ∧ ((takeRecord h s)).2.pmc = s.pmc ∧ ((takeRecord h s)).2.abt = s.abt ∧
    ((takeRecord h s)).2.mode = s.mode ∧ ((takeRecord h s)).2.key = s.key ∧ ((takeRecord h s)).2.sb = s.sb ∧
    ((takeRecord h s)).2.pending = s.pending := by
  unfold takeRecord
  (repeat' split) <;> (try simp -implicitDefEqProofs (maxDischargeDepth := 6)) <;> (repeat' split) <;> simp -implicitDefEqProofs (maxDischargeDepth := 6)

def Foot.takeRecord : List Reg := [.PIR_BUFEXP, .PIR_BUFOCC, .PIR_CPLTRK, .PIR_FBPORT]

@[simp] theorem takeRecord_rd (h : Held) (s : State) (reg : Reg) (rix : Nat) (hav : avoids Foot.takeRecord reg = true) :
    ((takeRecord h s)).2.rd reg rix = s.rd reg rix := by
  have c0 : avoids Foot.charge reg = true := avoids_mono (by decide) hav
  have c1 : avoids Foot.track reg = true := avoids_mono (by decide) hav
  have f0 : reg ≠ F.PIR_FBPORT_TAGS.reg := avoids_ne (by decide) hav
  unfold takeRecord
  (repeat' split) <;> (try simp -implicitDefEqProofs (maxDischargeDepth := 6) [*]) <;> (repeat' split) <;> simp -implicitDefEqProofs (maxDischargeDepth := 6) [*]

@[simp] theorem moveLocal_frame (c : Carried) (s : State) :
    (moveLocal c s).jrn = s.jrn ∧ (moveLocal c s).csn = s.csn ∧ (moveLocal c s).fl = s.fl ∧ (moveLocal c s).fab = s.fab ∧
    (moveLocal c s).img = s.img ∧ (moveLocal c s).abt = s.abt ∧ (moveLocal c s).mode = s.mode ∧
    (moveLocal c s).key = s.key ∧ (moveLocal c s).sb = s.sb ∧ (moveLocal c s).pending = s.pending := by
  unfold moveLocal
  (repeat' split) <;> simp -implicitDefEqProofs (maxDischargeDepth := 6)

def Foot.moveLocal : List Reg := [.ENG_STAT, .PIR_BUFEXP, .PIR_BUFOCC, .PIR_CPLTRK, .PIR_ERRCNT2, .PIR_EXPMON, .PIR_FBPORT, .PMC_BSTAT, .PMC_CNT, .PMC_STAT, .REC_TRGCFG, .REC_TRGCNT]

@[simp] theorem moveLocal_rd (c : Carried) (s : State) (reg : Reg) (rix : Nat) (hav : avoids Foot.moveLocal reg = true) :
    (moveLocal c s).rd reg rix = s.rd reg rix := by
  have c0 : avoids Foot.charge reg = true := avoids_mono (by decide) hav
  have c1 : avoids Foot.release reg = true := avoids_mono (by decide) hav
  have c2 : avoids Foot.enqueueEgress reg = true := avoids_mono (by decide) hav
  have c3 : avoids Foot.count reg = true := avoids_mono (by decide) hav
  unfold moveLocal
  (repeat' split) <;> simp -implicitDefEqProofs (maxDischargeDepth := 6) [*]

@[simp] theorem toLocal_frame (c : Carried) (s : State) :
    (toLocal c s).jrn = s.jrn ∧ (toLocal c s).csn = s.csn ∧ (toLocal c s).fl = s.fl ∧ (toLocal c s).fab = s.fab ∧
    (toLocal c s).img = s.img ∧ (toLocal c s).abt = s.abt ∧ (toLocal c s).mode = s.mode ∧ (toLocal c s).key = s.key ∧
    (toLocal c s).sb = s.sb ∧ (toLocal c s).pending = s.pending := by
  unfold toLocal
  (repeat' split) <;> simp -implicitDefEqProofs (maxDischargeDepth := 6)

def Foot.toLocal : List Reg := [.ENG_STAT, .PIR_BUFEXP, .PIR_BUFOCC, .PIR_CPLTRK, .PIR_ERRCNT2, .PIR_EXPMON, .PIR_FBPORT, .PMC_BSTAT, .PMC_CNT, .PMC_STAT, .REC_TRGCFG, .REC_TRGCNT]

@[simp] theorem toLocal_rd (c : Carried) (s : State) (reg : Reg) (rix : Nat) (hav : avoids Foot.toLocal reg = true) :
    (toLocal c s).rd reg rix = s.rd reg rix := by
  have c0 : avoids Foot.moveLocal reg = true := avoids_mono (by decide) hav
  unfold toLocal
  (repeat' split) <;> simp -implicitDefEqProofs (maxDischargeDepth := 6) [*]

@[simp] theorem drainFlow5_frame (f n : Nat) (s : State) :
    (drainFlow5 f n s).jrn = s.jrn ∧ (drainFlow5 f n s).csn = s.csn ∧ (drainFlow5 f n s).fl = s.fl ∧
    (drainFlow5 f n s).fab = s.fab ∧ (drainFlow5 f n s).img = s.img ∧ (drainFlow5 f n s).abt = s.abt ∧
    (drainFlow5 f n s).mode = s.mode ∧ (drainFlow5 f n s).key = s.key ∧ (drainFlow5 f n s).sb = s.sb ∧
    (drainFlow5 f n s).pending = s.pending := by
  induction n generalizing s with
  | zero => simp [drainFlow5]
  | succ n ih =>
    unfold drainFlow5
    (repeat' split) <;> simp -implicitDefEqProofs [ih]

def Foot.drainFlow5 : List Reg := [.ENG_STAT, .PIR_BUFEXP, .PIR_BUFOCC, .PIR_CPLTRK, .PIR_ERRCNT2, .PIR_EXPMON, .PIR_FBPORT, .PMC_BSTAT, .PMC_CNT, .PMC_STAT, .REC_TRGCFG, .REC_TRGCNT]

@[simp] theorem drainFlow5_rd (f n : Nat) (s : State) (reg : Reg) (rix : Nat) (hav : avoids Foot.drainFlow5 reg = true) :
    (drainFlow5 f n s).rd reg rix = s.rd reg rix := by
  have c0 : avoids Foot.moveLocal reg = true := avoids_mono (by decide) hav
  induction n generalizing s with
  | zero => simp [drainFlow5]
  | succ n ih =>
    unfold drainFlow5
    (repeat' split) <;> simp -implicitDefEqProofs [ih, *]

@[simp] theorem drain5_frame (n : Nat) (s : State) :
    (drain5 n s).jrn = s.jrn ∧ (drain5 n s).csn = s.csn ∧ (drain5 n s).fl = s.fl ∧ (drain5 n s).fab = s.fab ∧
    (drain5 n s).img = s.img ∧ (drain5 n s).abt = s.abt ∧ (drain5 n s).mode = s.mode ∧ (drain5 n s).key = s.key ∧
    (drain5 n s).sb = s.sb ∧ (drain5 n s).pending = s.pending := by
  unfold drain5
  (repeat' split) <;> simp -implicitDefEqProofs (maxDischargeDepth := 6)

def Foot.drain5 : List Reg := [.ENG_STAT, .PIR_BUFEXP, .PIR_BUFOCC, .PIR_CPLTRK, .PIR_ERRCNT2, .PIR_EXPMON, .PIR_FBPORT, .PMC_BSTAT, .PMC_CNT, .PMC_STAT, .REC_TRGCFG, .REC_TRGCNT]

@[simp] theorem drain5_rd (n : Nat) (s : State) (reg : Reg) (rix : Nat) (hav : avoids Foot.drain5 reg = true) :
    (drain5 n s).rd reg rix = s.rd reg rix := by
  have c0 : avoids Foot.drainFlow5 reg = true := avoids_mono (by decide) hav
  unfold drain5
  (repeat' split) <;> simp -implicitDefEqProofs (maxDischargeDepth := 6) [*]

@[simp] theorem toDeck_frame (c : Carried) (s : State) :
    (toDeck c s).jrn = s.jrn ∧ (toDeck c s).csn = s.csn ∧ (toDeck c s).fl = s.fl ∧ (toDeck c s).fab = s.fab ∧
    (toDeck c s).img = s.img ∧ (toDeck c s).abt = s.abt ∧ (toDeck c s).mode = s.mode ∧ (toDeck c s).key = s.key ∧
    (toDeck c s).sb = s.sb ∧ (toDeck c s).pending = s.pending := by
  unfold toDeck
  (repeat' split) <;> simp -implicitDefEqProofs (maxDischargeDepth := 6)

def Foot.toDeck : List Reg := [.ENG_STAT, .PIR_BUFEXP, .PIR_BUFOCC, .PIR_CPLTRK, .PIR_ERRCNT2, .PIR_EXPMON, .PIR_FBPORT, .PMC_BSTAT, .PMC_CNT, .PMC_STAT, .REC_TRGCFG, .REC_TRGCNT]

@[simp] theorem toDeck_rd (c : Carried) (s : State) (reg : Reg) (rix : Nat) (hav : avoids Foot.toDeck reg = true) :
    (toDeck c s).rd reg rix = s.rd reg rix := by
  have c0 : avoids Foot.deckSend reg = true := avoids_mono (by decide) hav
  have c1 : avoids Foot.count reg = true := avoids_mono (by decide) hav
  unfold toDeck
  (repeat' split) <;> simp -implicitDefEqProofs (maxDischargeDepth := 6) [*]

@[simp] theorem storeMc_frame (c : Carried) (s : State) :
    (storeMc c s).jrn = s.jrn ∧ (storeMc c s).csn = s.csn ∧ (storeMc c s).fl = s.fl ∧ (storeMc c s).fab = s.fab ∧
    (storeMc c s).img = s.img ∧ (storeMc c s).abt = s.abt ∧ (storeMc c s).mode = s.mode ∧ (storeMc c s).key = s.key ∧
    (storeMc c s).sb = s.sb ∧ (storeMc c s).pending = s.pending := by
  unfold storeMc
  (repeat' split) <;> simp -implicitDefEqProofs (maxDischargeDepth := 6)

def Foot.storeMc : List Reg := [.ENG_STAT, .PIR_BUFEXP, .PIR_BUFOCC, .PIR_CPLTRK, .PIR_ERRCNT2, .PIR_EXPMON, .PIR_FBPORT, .PMC_BSTAT, .PMC_CNT, .PMC_STAT, .REC_TRGCFG, .REC_TRGCNT]

@[simp] theorem storeMc_rd (c : Carried) (s : State) (reg : Reg) (rix : Nat) (hav : avoids Foot.storeMc reg = true) :
    (storeMc c s).rd reg rix = s.rd reg rix := by
  have c0 : avoids Foot.toLocal reg = true := avoids_mono (by decide) hav
  have c1 : avoids Foot.toDeck reg = true := avoids_mono (by decide) hav
  unfold storeMc
  (repeat' split) <;> simp -implicitDefEqProofs (maxDischargeDepth := 6) [*]

@[simp] theorem proceed_frame (c : Carried) (s : State) :
    (proceed c s).jrn = s.jrn ∧ (proceed c s).csn = s.csn ∧ (proceed c s).fl = s.fl ∧ (proceed c s).fab = s.fab ∧
    (proceed c s).img = s.img ∧ (proceed c s).abt = s.abt ∧ (proceed c s).mode = s.mode ∧ (proceed c s).key = s.key ∧
    (proceed c s).sb = s.sb ∧ (proceed c s).pending = s.pending := by
  unfold proceed
  (repeat' split) <;> simp -implicitDefEqProofs (maxDischargeDepth := 6)

def Foot.proceed : List Reg := [.ENG_STAT, .PIR_BUFEXP, .PIR_BUFOCC, .PIR_CPLTRK, .PIR_ERRCNT2, .PIR_EXPMON, .PIR_FBPORT, .PMC_BSTAT, .PMC_CNT, .PMC_STAT, .REC_TRGCFG, .REC_TRGCNT]

@[simp] theorem proceed_rd (c : Carried) (s : State) (reg : Reg) (rix : Nat) (hav : avoids Foot.proceed reg = true) :
    (proceed c s).rd reg rix = s.rd reg rix := by
  have c0 : avoids Foot.toLocal reg = true := avoids_mono (by decide) hav
  have c1 : avoids Foot.toDeck reg = true := avoids_mono (by decide) hav
  have c2 : avoids Foot.storeMc reg = true := avoids_mono (by decide) hav
  unfold proceed
  (repeat' split) <;> simp -implicitDefEqProofs (maxDischargeDepth := 6) [*]

@[simp] theorem countBlock_frame (ev : Nat) (x : SpillFlow) (b : Nat) (s : State) :
    (countBlock ev x b s).jrn = s.jrn ∧ (countBlock ev x b s).csn = s.csn ∧ (countBlock ev x b s).fl = s.fl ∧
    (countBlock ev x b s).fab = s.fab ∧ (countBlock ev x b s).img = s.img ∧ (countBlock ev x b s).abt = s.abt ∧
    (countBlock ev x b s).mode = s.mode ∧ (countBlock ev x b s).key = s.key ∧ (countBlock ev x b s).sb = s.sb ∧
    (countBlock ev x b s).pending = s.pending := by
  unfold countBlock
  (repeat' split) <;> simp -implicitDefEqProofs (maxDischargeDepth := 6)

def Foot.countBlock : List Reg := [.ENG_STAT, .PIR_BUFEXP, .PIR_BUFOCC, .PIR_CPLTRK, .PIR_ERRCNT2, .PIR_EXPMON, .PIR_FBPORT, .PMC_BSTAT, .PMC_CNT, .PMC_STAT, .REC_TRGCFG, .REC_TRGCNT]

@[simp] theorem countBlock_rd (ev : Nat) (x : SpillFlow) (b : Nat) (s : State) (reg : Reg) (rix : Nat) (hav : avoids Foot.countBlock reg = true) :
    (countBlock ev x b s).rd reg rix = s.rd reg rix := by
  have c0 : avoids Foot.count reg = true := avoids_mono (by decide) hav
  unfold countBlock
  (repeat' split) <;> simp -implicitDefEqProofs (maxDischargeDepth := 6) [*]

@[simp] theorem countBlocks_frame (ev : Nat) (x : SpillFlow) (lo n : Nat) (s : State) :
    (countBlocks ev x lo n s).jrn = s.jrn ∧ (countBlocks ev x lo n s).csn = s.csn ∧ (countBlocks ev x lo n s).fl = s.fl ∧
    (countBlocks ev x lo n s).fab = s.fab ∧ (countBlocks ev x lo n s).img = s.img ∧ (countBlocks ev x lo n s).abt = s.abt ∧
    (countBlocks ev x lo n s).mode = s.mode ∧ (countBlocks ev x lo n s).key = s.key ∧ (countBlocks ev x lo n s).sb = s.sb ∧
    (countBlocks ev x lo n s).pending = s.pending := by
  unfold countBlocks
  simp -implicitDefEqProofs (maxDischargeDepth := 6)

def Foot.countBlocks : List Reg := [.ENG_STAT, .PIR_BUFEXP, .PIR_BUFOCC, .PIR_CPLTRK, .PIR_ERRCNT2, .PIR_EXPMON, .PIR_FBPORT, .PMC_BSTAT, .PMC_CNT, .PMC_STAT, .REC_TRGCFG, .REC_TRGCNT]

@[simp] theorem countBlocks_rd (ev : Nat) (x : SpillFlow) (lo n : Nat) (s : State) (reg : Reg) (rix : Nat) (hav : avoids Foot.countBlocks reg = true) :
    (countBlocks ev x lo n s).rd reg rix = s.rd reg rix := by
  have c0 : avoids Foot.countBlock reg = true := avoids_mono (by decide) hav
  unfold countBlocks
  simp -implicitDefEqProofs (maxDischargeDepth := 6) [*]

@[simp] theorem spillTlp_frame (c : Carried) (s : State) :
    (spillTlp c s).jrn = s.jrn ∧ (spillTlp c s).fl = s.fl ∧ (spillTlp c s).fab = s.fab ∧ (spillTlp c s).img = s.img ∧
    (spillTlp c s).abt = s.abt ∧ (spillTlp c s).mode = s.mode ∧ (spillTlp c s).key = s.key ∧ (spillTlp c s).sb = s.sb ∧
    (spillTlp c s).pending = s.pending := by
  unfold spillTlp
  simp -implicitDefEqProofs (maxDischargeDepth := 6)
  repeat' apply And.intro
  all_goals (intros; repeat' split) <;> simp -implicitDefEqProofs (maxDischargeDepth := 6)

def Foot.spillTlp : List Reg := [.CSN_POOL, .CSN_PSPILL, .ENG_STAT, .PIR_BUFEXP, .PIR_BUFOCC, .PIR_CPLTRK, .PIR_ERRCNT2, .PIR_EXPMON, .PIR_FBPORT, .PMC_BSTAT, .PMC_CNT, .PMC_STAT, .REC_TRGCFG, .REC_TRGCNT]

@[simp] theorem spillTlp_rd (c : Carried) (s : State) (reg : Reg) (rix : Nat) (hav : avoids Foot.spillTlp reg = true) :
    (spillTlp c s).rd reg rix = s.rd reg rix := by
  have c0 : avoids Foot.count reg = true := avoids_mono (by decide) hav
  have c1 : avoids Foot.spill reg = true := avoids_mono (by decide) hav
  have c2 : avoids Foot.countBlocks reg = true := avoids_mono (by decide) hav
  unfold spillTlp
  dsimp only
  split <;> simp -implicitDefEqProofs (maxDischargeDepth := 6) [*]

@[simp] theorem chargeIngress_frame (h : Held) (s : State) :
    (chargeIngress h s).env = s.env ∧ (chargeIngress h s).jrn = s.jrn ∧ (chargeIngress h s).err = s.err ∧
    (chargeIngress h s).deck = s.deck ∧ (chargeIngress h s).csn = s.csn ∧ (chargeIngress h s).fl = s.fl ∧
    (chargeIngress h s).host = s.host ∧ (chargeIngress h s).fab = s.fab ∧ (chargeIngress h s).eng = s.eng ∧
    (chargeIngress h s).img = s.img ∧ (chargeIngress h s).rcd = s.rcd ∧ (chargeIngress h s).pmc = s.pmc ∧
    (chargeIngress h s).abt = s.abt ∧ (chargeIngress h s).mode = s.mode ∧ (chargeIngress h s).key = s.key ∧
    (chargeIngress h s).sb = s.sb ∧ (chargeIngress h s).pending = s.pending := by
  unfold chargeIngress
  (repeat' split) <;> simp -implicitDefEqProofs (maxDischargeDepth := 6)

def Foot.chargeIngress : List Reg := []

@[simp] theorem chargeIngress_rd (h : Held) (s : State) (reg : Reg) (rix : Nat) (hav : avoids Foot.chargeIngress reg = true) :
    (chargeIngress h s).rd reg rix = s.rd reg rix := by
  unfold chargeIngress
  (repeat' split) <;> simp -implicitDefEqProofs (maxDischargeDepth := 6) [*]

@[simp] theorem settleSpill_frame (f : Nat) (s : State) :
    (settleSpill f s).env = s.env ∧ (settleSpill f s).jrn = s.jrn ∧ (settleSpill f s).err = s.err ∧
    (settleSpill f s).ports = s.ports ∧ (settleSpill f s).deck = s.deck ∧ (settleSpill f s).fl = s.fl ∧
    (settleSpill f s).host = s.host ∧ (settleSpill f s).fab = s.fab ∧ (settleSpill f s).eng = s.eng ∧
    (settleSpill f s).img = s.img ∧ (settleSpill f s).rcd = s.rcd ∧ (settleSpill f s).pmc = s.pmc ∧
    (settleSpill f s).abt = s.abt ∧ (settleSpill f s).mode = s.mode ∧ (settleSpill f s).key = s.key ∧
    (settleSpill f s).sb = s.sb ∧ (settleSpill f s).pending = s.pending := by
  unfold settleSpill
  (repeat' split) <;> simp -implicitDefEqProofs (maxDischargeDepth := 6)

def Foot.settleSpill : List Reg := [.CSN_POOL, .CSN_PSPILL]

@[simp] theorem settleSpill_rd (f : Nat) (s : State) (reg : Reg) (rix : Nat) (hav : avoids Foot.settleSpill reg = true) :
    (settleSpill f s).rd reg rix = s.rd reg rix := by
  have c0 : avoids Foot.closeSpill reg = true := avoids_mono (by decide) hav
  unfold settleSpill
  (repeat' split) <;> simp -implicitDefEqProofs (maxDischargeDepth := 6) [*]

@[simp] theorem returnCredit_frame (p : Nat) (s : State) :
    (returnCredit p s).env = s.env ∧ (returnCredit p s).jrn = s.jrn ∧ (returnCredit p s).err = s.err ∧
    (returnCredit p s).deck = s.deck ∧ (returnCredit p s).csn = s.csn ∧ (returnCredit p s).fl = s.fl ∧
    (returnCredit p s).host = s.host ∧ (returnCredit p s).fab = s.fab ∧ (returnCredit p s).eng = s.eng ∧
    (returnCredit p s).img = s.img ∧ (returnCredit p s).rcd = s.rcd ∧ (returnCredit p s).pmc = s.pmc ∧
    (returnCredit p s).abt = s.abt ∧ (returnCredit p s).mode = s.mode ∧ (returnCredit p s).key = s.key ∧
    (returnCredit p s).sb = s.sb ∧ (returnCredit p s).pending = s.pending := by
  unfold returnCredit
  (repeat' split) <;> simp -implicitDefEqProofs (maxDischargeDepth := 6)

def Foot.returnCredit : List Reg := []

@[simp] theorem returnCredit_rd (p : Nat) (s : State) (reg : Reg) (rix : Nat) (hav : avoids Foot.returnCredit reg = true) :
    (returnCredit p s).rd reg rix = s.rd reg rix := by
  unfold returnCredit
  (repeat' split) <;> simp -implicitDefEqProofs (maxDischargeDepth := 6) [*]

@[simp] theorem takeCredit_frame (p : Nat) (t : Tlp) (s : State) :
    (takeCredit p t s).env = s.env ∧ (takeCredit p t s).jrn = s.jrn ∧ (takeCredit p t s).err = s.err ∧
    (takeCredit p t s).deck = s.deck ∧ (takeCredit p t s).csn = s.csn ∧ (takeCredit p t s).fl = s.fl ∧
    (takeCredit p t s).host = s.host ∧ (takeCredit p t s).fab = s.fab ∧ (takeCredit p t s).eng = s.eng ∧
    (takeCredit p t s).img = s.img ∧ (takeCredit p t s).rcd = s.rcd ∧ (takeCredit p t s).pmc = s.pmc ∧
    (takeCredit p t s).abt = s.abt ∧ (takeCredit p t s).mode = s.mode ∧ (takeCredit p t s).key = s.key ∧
    (takeCredit p t s).sb = s.sb ∧ (takeCredit p t s).pending = s.pending := by
  unfold takeCredit
  (repeat' split) <;> simp -implicitDefEqProofs (maxDischargeDepth := 6)

def Foot.takeCredit : List Reg := []

@[simp] theorem takeCredit_rd (p : Nat) (t : Tlp) (s : State) (reg : Reg) (rix : Nat) (hav : avoids Foot.takeCredit reg = true) :
    (takeCredit p t s).rd reg rix = s.rd reg rix := by
  unfold takeCredit
  (repeat' split) <;> simp -implicitDefEqProofs (maxDischargeDepth := 6) [*]

@[simp] theorem poisonTlp_frame (c : Carried) (s : State) :
    ((poisonTlp c s)).2.env = s.env ∧ ((poisonTlp c s)).2.jrn = s.jrn ∧ ((poisonTlp c s)).2.csn = s.csn ∧
    ((poisonTlp c s)).2.fl = s.fl ∧ ((poisonTlp c s)).2.fab = s.fab ∧ ((poisonTlp c s)).2.eng = s.eng ∧
    ((poisonTlp c s)).2.img = s.img ∧ ((poisonTlp c s)).2.rcd = s.rcd ∧ ((poisonTlp c s)).2.pmc = s.pmc ∧
    ((poisonTlp c s)).2.abt = s.abt ∧ ((poisonTlp c s)).2.mode = s.mode ∧ ((poisonTlp c s)).2.key = s.key ∧
    ((poisonTlp c s)).2.sb = s.sb ∧ ((poisonTlp c s)).2.pending = s.pending := by
  unfold poisonTlp
  (repeat' split) <;> simp -implicitDefEqProofs (maxDischargeDepth := 6)

def Foot.poisonTlp : List Reg := [.PIR_BUFEXP, .PIR_BUFOCC, .PIR_CPLTRK, .PIR_ERRCNT2, .PIR_EXPMON, .PIR_FBPORT]

@[simp] theorem poisonTlp_rd (c : Carried) (s : State) (reg : Reg) (rix : Nat) (hav : avoids Foot.poisonTlp reg = true) :
    ((poisonTlp c s)).2.rd reg rix = s.rd reg rix := by
  have c0 : avoids Foot.pushRec reg = true := avoids_mono (by decide) hav
  have c1 : avoids Foot.aerPort reg = true := avoids_mono (by decide) hav
  unfold poisonTlp
  (repeat' split) <;> simp -implicitDefEqProofs (maxDischargeDepth := 6) [*]

@[simp] theorem readBack_frame (f : Nat) (x : SpillFlow) (c : Carried) (bad corr : List Nat) (s : State) :
    (readBack f x c bad corr s).img = s.img ∧ (readBack f x c bad corr s).abt = s.abt ∧
    (readBack f x c bad corr s).mode = s.mode ∧ (readBack f x c bad corr s).sb = s.sb ∧
    (readBack f x c bad corr s).pending = s.pending := by
  unfold readBack
  (repeat' split) <;> (try simp -implicitDefEqProofs (maxDischargeDepth := 6)) <;> (repeat' split) <;> simp -implicitDefEqProofs (maxDischargeDepth := 6)

def Foot.readBack : List Reg := [.CSN_CHERR, .CSN_CHSTAT, .CSN_POOL, .CSN_PSPILL, .CSN_STAT, .ENG_STAT, .GLB_DMASTAT, .GLB_SLOT, .GLB_VSSTAT, .JNL_CMDRES, .JNL_HEAD, .JNL_STAT, .JNL_TAIL, .KEY_NONCE, .KEY_SLOT, .KEY_SLOTHASH, .KEY_STAT, .PIR_BUFEXP, .PIR_BUFOCC, .PIR_CLOSE, .PIR_CPLTRK, .PIR_ERRCNT2, .PIR_EXPMON, .PIR_FBPORT, .PIR_PFCNT, .PMC_BSTAT, .PMC_CNT, .PMC_STAT, .REC_PFSTAT, .REC_TRGCFG, .REC_TRGCNT, .SPN_CALSTAT, .SPN_COEF, .SPN_FLSTAT, .SPN_PSTAT]

@[simp] theorem readBack_rd (f : Nat) (x : SpillFlow) (c : Carried) (bad corr : List Nat) (s : State) (reg : Reg) (rix : Nat) (hav : avoids Foot.readBack reg = true) :
    (readBack f x c bad corr s).rd reg rix = s.rd reg rix := by
  have c0 : avoids Foot.charge reg = true := avoids_mono (by decide) hav
  have c1 : avoids Foot.count reg = true := avoids_mono (by decide) hav
  have c2 : avoids Foot.popSpill reg = true := avoids_mono (by decide) hav
  have c3 : avoids Foot.uncWord reg = true := avoids_mono (by decide) hav
  have c4 : avoids Foot.corrWord reg = true := avoids_mono (by decide) hav
  have c5 : avoids Foot.proceed reg = true := avoids_mono (by decide) hav
  have c6 : avoids Foot.countBlocks reg = true := avoids_mono (by decide) hav
  have c7 : avoids Foot.poisonTlp reg = true := avoids_mono (by decide) hav
  unfold readBack
  (repeat' split) <;> (try simp -implicitDefEqProofs (maxDischargeDepth := 6) [*]) <;> (repeat' split) <;> simp -implicitDefEqProofs (maxDischargeDepth := 6) [*]

@[simp] theorem setPcc_frame (k val : Nat) (s : State) :
    (setPcc k val s).env = s.env ∧ (setPcc k val s).jrn = s.jrn ∧ (setPcc k val s).err = s.err ∧
    (setPcc k val s).ports = s.ports ∧ (setPcc k val s).deck = s.deck ∧ (setPcc k val s).csn = s.csn ∧
    (setPcc k val s).fl = s.fl ∧ (setPcc k val s).fab = s.fab ∧ (setPcc k val s).eng = s.eng ∧
    (setPcc k val s).img = s.img ∧ (setPcc k val s).rcd = s.rcd ∧ (setPcc k val s).pmc = s.pmc ∧
    (setPcc k val s).abt = s.abt ∧ (setPcc k val s).mode = s.mode ∧ (setPcc k val s).key = s.key ∧
    (setPcc k val s).sb = s.sb ∧ (setPcc k val s).pending = s.pending := by
  unfold setPcc
  (repeat' split) <;> simp -implicitDefEqProofs (maxDischargeDepth := 6)

def Foot.setPcc : List Reg := []

@[simp] theorem setPcc_rd (k val : Nat) (s : State) (reg : Reg) (rix : Nat) (hav : avoids Foot.setPcc reg = true) :
    (setPcc k val s).rd reg rix = s.rd reg rix := by
  have c0 : avoids Foot.setCapF reg = true := avoids_mono (by decide) hav
  unfold setPcc
  (repeat' split) <;> simp -implicitDefEqProofs (maxDischargeDepth := 6) [*]

@[simp] theorem slotOn_frame (k : Nat) (s : State) :
    (slotOn k s).env = s.env ∧ (slotOn k s).jrn = s.jrn ∧ (slotOn k s).err = s.err ∧ (slotOn k s).deck = s.deck ∧
    (slotOn k s).csn = s.csn ∧ (slotOn k s).fl = s.fl ∧ (slotOn k s).fab = s.fab ∧ (slotOn k s).eng = s.eng ∧
    (slotOn k s).img = s.img ∧ (slotOn k s).rcd = s.rcd ∧ (slotOn k s).pmc = s.pmc ∧ (slotOn k s).abt = s.abt ∧
    (slotOn k s).mode = s.mode ∧ (slotOn k s).key = s.key ∧ (slotOn k s).sb = s.sb ∧ (slotOn k s).pending = s.pending := by
  unfold slotOn
  (repeat' split) <;> simp -implicitDefEqProofs (maxDischargeDepth := 6)

def Foot.slotOn : List Reg := []

@[simp] theorem slotOn_rd (k : Nat) (s : State) (reg : Reg) (rix : Nat) (hav : avoids Foot.slotOn reg = true) :
    (slotOn k s).rd reg rix = s.rd reg rix := by
  have c1 : avoids Foot.setSlotSt reg = true := avoids_mono (by decide) hav
  have c2 : avoids Foot.setPcc reg = true := avoids_mono (by decide) hav
  unfold slotOn
  (repeat' split) <;> simp -implicitDefEqProofs (maxDischargeDepth := 6) [*]

@[simp] theorem slotOff_frame (k : Nat) (s : State) :
    (slotOff k s).env = s.env ∧ (slotOff k s).jrn = s.jrn ∧ (slotOff k s).err = s.err ∧ (slotOff k s).deck = s.deck ∧
    (slotOff k s).csn = s.csn ∧ (slotOff k s).fl = s.fl ∧ (slotOff k s).fab = s.fab ∧ (slotOff k s).eng = s.eng ∧
    (slotOff k s).img = s.img ∧ (slotOff k s).rcd = s.rcd ∧ (slotOff k s).pmc = s.pmc ∧ (slotOff k s).abt = s.abt ∧
    (slotOff k s).mode = s.mode ∧ (slotOff k s).key = s.key ∧ (slotOff k s).sb = s.sb ∧ (slotOff k s).pending = s.pending := by
  unfold slotOff
  (repeat' split) <;> simp -implicitDefEqProofs (maxDischargeDepth := 6)

def Foot.slotOff : List Reg := [.GLB_SLOT]

@[simp] theorem slotOff_rd (k : Nat) (s : State) (reg : Reg) (rix : Nat) (hav : avoids Foot.slotOff reg = true) :
    (slotOff k s).rd reg rix = s.rd reg rix := by
  have c1 : avoids Foot.setSlotSt reg = true := avoids_mono (by decide) hav
  have c2 : avoids Foot.setPcc reg = true := avoids_mono (by decide) hav
  have f0 : reg ≠ F.GLB_SLOT_PERST.reg := avoids_ne (by decide) hav
  unfold slotOff
  (repeat' split) <;> simp -implicitDefEqProofs (maxDischargeDepth := 6) [*]

@[simp] theorem slotFail_frame (k : Nat) (s : State) :
    (slotFail k s).env = s.env ∧ (slotFail k s).jrn = s.jrn ∧ (slotFail k s).err = s.err ∧ (slotFail k s).ports = s.ports ∧
    (slotFail k s).deck = s.deck ∧ (slotFail k s).csn = s.csn ∧ (slotFail k s).fl = s.fl ∧ (slotFail k s).fab = s.fab ∧
    (slotFail k s).eng = s.eng ∧ (slotFail k s).img = s.img ∧ (slotFail k s).rcd = s.rcd ∧ (slotFail k s).pmc = s.pmc ∧
    (slotFail k s).abt = s.abt ∧ (slotFail k s).mode = s.mode ∧ (slotFail k s).key = s.key ∧ (slotFail k s).sb = s.sb ∧
    (slotFail k s).pending = s.pending := by
  unfold slotFail
  (repeat' split) <;> simp -implicitDefEqProofs (maxDischargeDepth := 6)

def Foot.slotFail : List Reg := [.GLB_SLOT]

@[simp] theorem slotFail_rd (k : Nat) (s : State) (reg : Reg) (rix : Nat) (hav : avoids Foot.slotFail reg = true) :
    (slotFail k s).rd reg rix = s.rd reg rix := by
  have c0 : avoids Foot.setSlotSt reg = true := avoids_mono (by decide) hav
  have c1 : avoids Foot.refreshClk reg = true := avoids_mono (by decide) hav
  have c2 : avoids Foot.setPcc reg = true := avoids_mono (by decide) hav
  have f0 : reg ≠ F.GLB_SLOT_PERST.reg := avoids_ne (by decide) hav
  have f1 : reg ≠ F.GLB_SLOT_PWREN.reg := avoids_ne (by decide) hav
  unfold slotFail
  (repeat' split) <;> simp -implicitDefEqProofs (maxDischargeDepth := 6) [*]

@[simp] theorem hotEnd_frame (p : Nat) (s : State) :
    (hotEnd p s).env = s.env ∧ (hotEnd p s).jrn = s.jrn ∧ (hotEnd p s).err = s.err ∧ (hotEnd p s).ports = s.ports ∧
    (hotEnd p s).deck = s.deck ∧ (hotEnd p s).csn = s.csn ∧ (hotEnd p s).fl = s.fl ∧ (hotEnd p s).fab = s.fab ∧
    (hotEnd p s).eng = s.eng ∧ (hotEnd p s).img = s.img ∧ (hotEnd p s).rcd = s.rcd ∧ (hotEnd p s).pmc = s.pmc ∧
    (hotEnd p s).abt = s.abt ∧ (hotEnd p s).mode = s.mode ∧ (hotEnd p s).key = s.key ∧ (hotEnd p s).sb = s.sb ∧
    (hotEnd p s).pending = s.pending := by
  unfold hotEnd
  (repeat' split) <;> simp -implicitDefEqProofs (maxDischargeDepth := 6)

def Foot.hotEnd : List Reg := []

@[simp] theorem hotEnd_rd (p : Nat) (s : State) (reg : Reg) (rix : Nat) (hav : avoids Foot.hotEnd reg = true) :
    (hotEnd p s).rd reg rix = s.rd reg rix := by
  unfold hotEnd
  (repeat' split) <;> simp -implicitDefEqProofs (maxDischargeDepth := 6) [*]

@[simp] theorem linkCtlAt_frame (p : Nat) (was now retrain : Bool) (s : State) :
    (linkCtlAt p was now retrain s).fl = s.fl ∧ (linkCtlAt p was now retrain s).img = s.img ∧
    (linkCtlAt p was now retrain s).abt = s.abt ∧ (linkCtlAt p was now retrain s).mode = s.mode ∧
    (linkCtlAt p was now retrain s).sb = s.sb ∧ (linkCtlAt p was now retrain s).pending = s.pending := by
  unfold linkCtlAt
  (repeat' split) <;> simp -implicitDefEqProofs (maxDischargeDepth := 6)

def Foot.linkCtlAt : List Reg := [.CSN_POOL, .CSN_PSPILL, .CSN_STAT, .ENG_STAT, .GLB_DMASTAT, .GLB_SLOT, .GLB_VSSTAT, .JNL_CMDRES, .JNL_HEAD, .JNL_STAT, .JNL_TAIL, .KEY_NONCE, .KEY_SLOT, .KEY_SLOTHASH, .KEY_STAT, .PIR_BUFEXP, .PIR_BUFOCC, .PIR_CPLTRK, .PIR_ERRCNT2, .PIR_EXPMON, .PIR_FBPORT, .PIR_PFCNT, .PMC_BSTAT, .PMC_CNT, .PMC_STAT, .REC_PFSTAT, .REC_TRGCFG, .REC_TRGCNT, .SPN_FLSTAT, .SPN_LANE, .SPN_PSTAT]

@[simp] theorem linkCtlAt_rd (p : Nat) (was now retrain : Bool) (s : State) (reg : Reg) (rix : Nat) (hav : avoids Foot.linkCtlAt reg = true) :
    (linkCtlAt p was now retrain s).rd reg rix = s.rd reg rix := by
  have c1 : avoids Foot.linkDownEvent reg = true := avoids_mono (by decide) hav
  have c2 : avoids Foot.enterTraining reg = true := avoids_mono (by decide) hav
  have c3 : avoids Foot.toRecovery reg = true := avoids_mono (by decide) hav
  have f0 : reg ≠ F.SPN_PSTAT_LTSSM.reg := avoids_ne (by decide) hav
  unfold linkCtlAt
  (repeat' split) <;> simp -implicitDefEqProofs (maxDischargeDepth := 6) [*]

@[simp] theorem slotCtlAt_frame (k : Nat) (off : Bool) (s : State) :
    (slotCtlAt k off s).env = s.env ∧ (slotCtlAt k off s).jrn = s.jrn ∧ (slotCtlAt k off s).err = s.err ∧
    (slotCtlAt k off s).deck = s.deck ∧ (slotCtlAt k off s).csn = s.csn ∧ (slotCtlAt k off s).fl = s.fl ∧
    (slotCtlAt k off s).fab = s.fab ∧ (slotCtlAt k off s).eng = s.eng ∧ (slotCtlAt k off s).img = s.img ∧
    (slotCtlAt k off s).rcd = s.rcd ∧ (slotCtlAt k off s).pmc = s.pmc ∧ (slotCtlAt k off s).abt = s.abt ∧
    (slotCtlAt k off s).mode = s.mode ∧ (slotCtlAt k off s).key = s.key ∧ (slotCtlAt k off s).sb = s.sb ∧
    (slotCtlAt k off s).pending = s.pending := by
  unfold slotCtlAt
  (repeat' split) <;> simp -implicitDefEqProofs (maxDischargeDepth := 6)

def Foot.slotCtlAt : List Reg := [.GLB_SLOT]

@[simp] theorem slotCtlAt_rd (k : Nat) (off : Bool) (s : State) (reg : Reg) (rix : Nat) (hav : avoids Foot.slotCtlAt reg = true) :
    (slotCtlAt k off s).rd reg rix = s.rd reg rix := by
  have c0 : avoids Foot.slotOn reg = true := avoids_mono (by decide) hav
  have c1 : avoids Foot.slotOff reg = true := avoids_mono (by decide) hav
  unfold slotCtlAt
  (repeat' split) <;> simp -implicitDefEqProofs (maxDischargeDepth := 6) [*]

@[simp] theorem ctlAct_frame (p v k : Nat) (say : List Byte) (s : State) :
    (ctlAct p v k say s).fl = s.fl ∧ (ctlAct p v k say s).img = s.img ∧ (ctlAct p v k say s).abt = s.abt ∧
    (ctlAct p v k say s).mode = s.mode ∧ (ctlAct p v k say s).sb = s.sb ∧ (ctlAct p v k say s).pending = s.pending := by
  unfold ctlAct
  (repeat' split) <;> simp -implicitDefEqProofs (maxDischargeDepth := 6)

def Foot.ctlAct : List Reg := [.CSN_POOL, .CSN_PSPILL, .CSN_STAT, .ENG_STAT, .GLB_DMASTAT, .GLB_SLOT, .GLB_VSSTAT, .JNL_CMDRES, .JNL_HEAD, .JNL_STAT, .JNL_TAIL, .KEY_NONCE, .KEY_SLOT, .KEY_SLOTHASH, .KEY_STAT, .PIR_BUFEXP, .PIR_BUFOCC, .PIR_CPLTRK, .PIR_ERRCNT2, .PIR_EXPMON, .PIR_FBPORT, .PIR_PFCNT, .PMC_BSTAT, .PMC_CNT, .PMC_STAT, .REC_PFSTAT, .REC_TRGCFG, .REC_TRGCNT, .SPN_FLSTAT, .SPN_LANE, .SPN_PSTAT]

@[simp] theorem ctlAct_rd (p v k : Nat) (say : List Byte) (s : State) (reg : Reg) (rix : Nat) (hav : avoids Foot.ctlAct reg = true) :
    (ctlAct p v k say s).rd reg rix = s.rd reg rix := by
  have c0 : avoids Foot.pfDiscardIf reg = true := avoids_mono (by decide) hav
  have c1 : avoids Foot.hotLink reg = true := avoids_mono (by decide) hav
  have c2 : avoids Foot.hotEnd reg = true := avoids_mono (by decide) hav
  have c3 : avoids Foot.linkCtlAt reg = true := avoids_mono (by decide) hav
  have c4 : avoids Foot.slotCtlAt reg = true := avoids_mono (by decide) hav
  unfold ctlAct
  (repeat' split) <;> simp -implicitDefEqProofs (maxDischargeDepth := 6) [*]

@[simp] theorem ctlServe_frame (n : Nat) (x : FabHdr) (s : State) :
    (ctlServe n x s).fl = s.fl ∧ (ctlServe n x s).img = s.img ∧ (ctlServe n x s).abt = s.abt ∧
    (ctlServe n x s).mode = s.mode ∧ (ctlServe n x s).sb = s.sb ∧ (ctlServe n x s).pending = s.pending := by
  unfold ctlServe
  simp -implicitDefEqProofs (maxDischargeDepth := 6)
  repeat' apply And.intro
  all_goals (intros; repeat' split) <;> simp -implicitDefEqProofs (maxDischargeDepth := 6)

def Foot.ctlServe : List Reg := [.CSN_POOL, .CSN_PSPILL, .CSN_STAT, .ENG_STAT, .GLB_DMASTAT, .GLB_SLOT, .GLB_VSSTAT, .JNL_CMDRES, .JNL_HEAD, .JNL_STAT, .JNL_TAIL, .KEY_NONCE, .KEY_SLOT, .KEY_SLOTHASH, .KEY_STAT, .PIR_BUFEXP, .PIR_BUFOCC, .PIR_CPLTRK, .PIR_ERRCNT2, .PIR_EXPMON, .PIR_FBPORT, .PIR_PFCNT, .PMC_BSTAT, .PMC_CNT, .PMC_STAT, .REC_PFSTAT, .REC_TRGCFG, .REC_TRGCNT, .SPN_FLSTAT, .SPN_LANE, .SPN_PSTAT]

@[simp] theorem ctlServe_rd (n : Nat) (x : FabHdr) (s : State) (reg : Reg) (rix : Nat) (hav : avoids Foot.ctlServe reg = true) :
    (ctlServe n x s).rd reg rix = s.rd reg rix := by
  have c0 : avoids Foot.sendCtl reg = true := avoids_mono (by decide) hav
  have c1 : avoids Foot.ctlAnswered reg = true := avoids_mono (by decide) hav
  have c2 : avoids Foot.ctlAct reg = true := avoids_mono (by decide) hav
  unfold ctlServe
  (repeat' split) <;> (try simp -implicitDefEqProofs (maxDischargeDepth := 6) [*]) <;> (repeat' split) <;> simp -implicitDefEqProofs (maxDischargeDepth := 6) [*]

@[simp] theorem freeSplit_frame (n left : Nat) (s : State) :
    ((freeSplit n left s)).2.jrn = s.jrn ∧ ((freeSplit n left s)).2.err = s.err ∧ ((freeSplit n left s)).2.ports = s.ports ∧
    ((freeSplit n left s)).2.deck = s.deck ∧ ((freeSplit n left s)).2.csn = s.csn ∧ ((freeSplit n left s)).2.fl = s.fl ∧
    ((freeSplit n left s)).2.host = s.host ∧ ((freeSplit n left s)).2.fab = s.fab ∧ ((freeSplit n left s)).2.eng = s.eng ∧
    ((freeSplit n left s)).2.img = s.img ∧ ((freeSplit n left s)).2.rcd = s.rcd ∧ ((freeSplit n left s)).2.pmc = s.pmc ∧
    ((freeSplit n left s)).2.abt = s.abt ∧ ((freeSplit n left s)).2.mode = s.mode ∧ ((freeSplit n left s)).2.key = s.key ∧
    ((freeSplit n left s)).2.sb = s.sb ∧ ((freeSplit n left s)).2.pending = s.pending := by
  induction n generalizing left s with
  | zero => simp [freeSplit]
  | succ n ih =>
    unfold freeSplit
    simp -implicitDefEqProofs [ih]

def Foot.freeSplit : List Reg := []

@[simp] theorem freeSplit_rd (n left : Nat) (s : State) (reg : Reg) (rix : Nat) (hav : avoids Foot.freeSplit reg = true) :
    ((freeSplit n left s)).2.rd reg rix = s.rd reg rix := by
  induction n generalizing left s with
  | zero => simp [freeSplit]
  | succ n ih =>
    unfold freeSplit
    simp -implicitDefEqProofs [ih, *]

@[simp] theorem issueSlots_frame (g n : Nat) (s : State) :
    (issueSlots g n s).jrn = s.jrn ∧ (issueSlots g n s).csn = s.csn ∧ (issueSlots g n s).fl = s.fl ∧
    (issueSlots g n s).fab = s.fab ∧ (issueSlots g n s).img = s.img ∧ (issueSlots g n s).abt = s.abt ∧
    (issueSlots g n s).mode = s.mode ∧ (issueSlots g n s).key = s.key ∧ (issueSlots g n s).sb = s.sb ∧
    (issueSlots g n s).pending = s.pending := by
  unfold issueSlots
  (repeat' split) <;> simp -implicitDefEqProofs (maxDischargeDepth := 6)

def Foot.issueSlots : List Reg := [.ENG_STAT, .PIR_BUFEXP, .PIR_BUFOCC, .PIR_CPLTRK, .PIR_ERRCNT2, .PIR_EXPMON, .PIR_FBPORT, .PMC_BSTAT, .PMC_CNT, .PMC_STAT, .REC_TRGCFG, .REC_TRGCNT]

@[simp] theorem issueSlots_rd (g n : Nat) (s : State) (reg : Reg) (rix : Nat) (hav : avoids Foot.issueSlots reg = true) :
    (issueSlots g n s).rd reg rix = s.rd reg rix := by
  have c1 : avoids Foot.count reg = true := avoids_mono (by decide) hav
  have c2 : avoids Foot.freeSplit reg = true := avoids_mono (by decide) hav
  unfold issueSlots
  (repeat' split) <;> simp -implicitDefEqProofs (maxDischargeDepth := 6) [*]

@[simp] theorem blockTick_frame (b n : Nat) (s : State) :
    (blockTick b n s).jrn = s.jrn ∧ (blockTick b n s).csn = s.csn ∧ (blockTick b n s).fl = s.fl ∧
    (blockTick b n s).fab = s.fab ∧ (blockTick b n s).img = s.img ∧ (blockTick b n s).abt = s.abt ∧
    (blockTick b n s).mode = s.mode ∧ (blockTick b n s).key = s.key ∧ (blockTick b n s).sb = s.sb ∧
    (blockTick b n s).pending = s.pending := by
  unfold blockTick
  (repeat' split) <;> simp -implicitDefEqProofs (maxDischargeDepth := 6)

def Foot.blockTick : List Reg := [.ENG_STAT, .PIR_BUFEXP, .PIR_BUFOCC, .PIR_CPLTRK, .PIR_ERRCNT2, .PIR_EXPMON, .PIR_FBPORT, .PMC_BSTAT, .PMC_CNT, .PMC_STAT, .REC_TRGCFG, .REC_TRGCNT]

@[simp] theorem blockTick_rd (b n : Nat) (s : State) (reg : Reg) (rix : Nat) (hav : avoids Foot.blockTick reg = true) :
    (blockTick b n s).rd reg rix = s.rd reg rix := by
  have c0 : avoids Foot.count reg = true := avoids_mono (by decide) hav
  have c1 : avoids Foot.issueSlots reg = true := avoids_mono (by decide) hav
  unfold blockTick
  (repeat' split) <;> simp -implicitDefEqProofs (maxDischargeDepth := 6) [*]

@[simp] theorem cyclesStand_frame (ns g : Nat) (s : State) :
    (cyclesStand ns g s).env = s.env ∧ (cyclesStand ns g s).jrn = s.jrn ∧ (cyclesStand ns g s).err = s.err ∧
    (cyclesStand ns g s).ports = s.ports ∧ (cyclesStand ns g s).deck = s.deck ∧ (cyclesStand ns g s).csn = s.csn ∧
    (cyclesStand ns g s).fl = s.fl ∧ (cyclesStand ns g s).host = s.host ∧ (cyclesStand ns g s).fab = s.fab ∧
    (cyclesStand ns g s).eng = s.eng ∧ (cyclesStand ns g s).img = s.img ∧ (cyclesStand ns g s).rcd = s.rcd ∧
    (cyclesStand ns g s).abt = s.abt ∧ (cyclesStand ns g s).mode = s.mode ∧ (cyclesStand ns g s).key = s.key ∧
    (cyclesStand ns g s).sb = s.sb ∧ (cyclesStand ns g s).pending = s.pending := by
  unfold cyclesStand
  (repeat' split) <;> simp -implicitDefEqProofs (maxDischargeDepth := 6)

def Foot.cyclesStand : List Reg := []

@[simp] theorem cyclesStand_rd (ns g : Nat) (s : State) (reg : Reg) (rix : Nat) (hav : avoids Foot.cyclesStand reg = true) :
    (cyclesStand ns g s).rd reg rix = s.rd reg rix := by
  unfold cyclesStand
  (repeat' split) <;> simp -implicitDefEqProofs (maxDischargeDepth := 6) [*]

@[simp] theorem tlpEvent_frame (v inP : Nat) (t : Tlp) (s : State) :
    (tlpEvent v inP t s).env = s.env ∧ (tlpEvent v inP t s).jrn = s.jrn ∧ (tlpEvent v inP t s).err = s.err ∧
    (tlpEvent v inP t s).ports = s.ports ∧ (tlpEvent v inP t s).deck = s.deck ∧ (tlpEvent v inP t s).csn = s.csn ∧
    (tlpEvent v inP t s).fl = s.fl ∧ (tlpEvent v inP t s).host = s.host ∧ (tlpEvent v inP t s).fab = s.fab ∧
    (tlpEvent v inP t s).img = s.img ∧ (tlpEvent v inP t s).rcd = s.rcd ∧ (tlpEvent v inP t s).pmc = s.pmc ∧
    (tlpEvent v inP t s).abt = s.abt ∧ (tlpEvent v inP t s).mode = s.mode ∧ (tlpEvent v inP t s).key = s.key ∧
    (tlpEvent v inP t s).sb = s.sb ∧ (tlpEvent v inP t s).pending = s.pending := by
  unfold tlpEvent
  simp -implicitDefEqProofs (maxDischargeDepth := 6)
  repeat' apply And.intro
  all_goals (intros; repeat' split) <;> simp -implicitDefEqProofs (maxDischargeDepth := 6)

def Foot.tlpEvent : List Reg := [.ENG_STAT]

@[simp] theorem tlpEvent_rd (v inP : Nat) (t : Tlp) (s : State) (reg : Reg) (rix : Nat) (hav : avoids Foot.tlpEvent reg = true) :
    (tlpEvent v inP t s).rd reg rix = s.rd reg rix := by
  have c0 : avoids Foot.offerKind reg = true := avoids_mono (by decide) hav
  unfold tlpEvent
  (repeat' split) <;> (try simp -implicitDefEqProofs (maxDischargeDepth := 6) [*]) <;> (repeat' split) <;> simp -implicitDefEqProofs (maxDischargeDepth := 6) [*]

@[simp] theorem toPort_frame (e : Entry) (t : Tlp) (vs p : Nat) (proxy : Option Nat) (s : State) :
    ((toPort e t vs p proxy s)).1.jrn = s.jrn ∧ ((toPort e t vs p proxy s)).1.csn = s.csn ∧
    ((toPort e t vs p proxy s)).1.fl = s.fl ∧ ((toPort e t vs p proxy s)).1.img = s.img ∧
    ((toPort e t vs p proxy s)).1.abt = s.abt ∧ ((toPort e t vs p proxy s)).1.mode = s.mode ∧
    ((toPort e t vs p proxy s)).1.key = s.key ∧ ((toPort e t vs p proxy s)).1.sb = s.sb ∧
    ((toPort e t vs p proxy s)).1.pending = s.pending := by
  unfold toPort
  (repeat' split) <;> (try simp -implicitDefEqProofs (maxDischargeDepth := 6)) <;> (repeat' split) <;> simp -implicitDefEqProofs (maxDischargeDepth := 6)

def Foot.toPort : List Reg := [.ENG_STAT, .GTE_LOGE, .GTE_LOGSTAT, .PIR_BUFEXP, .PIR_BUFOCC, .PIR_CPLTRK, .PIR_ERRCNT2, .PIR_EXPMON, .PIR_FBPORT, .PMC_BSTAT, .PMC_CNT, .PMC_STAT, .REC_TRGCFG, .REC_TRGCNT]

@[simp] theorem toPort_rd (e : Entry) (t : Tlp) (vs p : Nat) (proxy : Option Nat) (s : State) (reg : Reg) (rix : Nat) (hav : avoids Foot.toPort reg = true) :
    ((toPort e t vs p proxy s)).1.rd reg rix = s.rd reg rix := by
  have c0 : avoids Foot.lostPosted reg = true := avoids_mono (by decide) hav
  have c1 : avoids Foot.failReq reg = true := avoids_mono (by decide) hav
  have c2 : avoids Foot.gateDecide reg = true := avoids_mono (by decide) hav
  unfold toPort
  (repeat' split) <;> (try simp -implicitDefEqProofs (maxDischargeDepth := 6) [*]) <;> (repeat' split) <;> simp -implicitDefEqProofs (maxDischargeDepth := 6) [*]

@[simp] theorem hopsOut_frame (c : Carried) (s : State) :
    (hopsOut c s).env = s.env ∧ (hopsOut c s).jrn = s.jrn ∧ (hopsOut c s).csn = s.csn ∧ (hopsOut c s).fl = s.fl ∧
    (hopsOut c s).fab = s.fab ∧ (hopsOut c s).eng = s.eng ∧ (hopsOut c s).img = s.img ∧ (hopsOut c s).rcd = s.rcd ∧
    (hopsOut c s).pmc = s.pmc ∧ (hopsOut c s).abt = s.abt ∧ (hopsOut c s).mode = s.mode ∧ (hopsOut c s).key = s.key ∧
    (hopsOut c s).sb = s.sb ∧ (hopsOut c s).pending = s.pending := by
  unfold hopsOut
  (repeat' split) <;> simp -implicitDefEqProofs (maxDischargeDepth := 6)

def Foot.hopsOut : List Reg := [.PIR_BUFEXP, .PIR_BUFOCC, .PIR_CPLTRK, .PIR_ERRCNT2, .PIR_EXPMON, .PIR_FBPORT]

@[simp] theorem hopsOut_rd (c : Carried) (s : State) (reg : Reg) (rix : Nat) (hav : avoids Foot.hopsOut reg = true) :
    (hopsOut c s).rd reg rix = s.rd reg rix := by
  have c0 : avoids Foot.lostPosted reg = true := avoids_mono (by decide) hav
  have c1 : avoids Foot.failReq reg = true := avoids_mono (by decide) hav
  unfold hopsOut
  (repeat' split) <;> simp -implicitDefEqProofs (maxDischargeDepth := 6) [*]

@[simp] theorem toRemote_frame (e : Entry) (t : Tlp) (vs m q : Nat) (proxy : Option Nat) (s : State) :
    ((toRemote e t vs m q proxy s)).1.env = s.env ∧ ((toRemote e t vs m q proxy s)).1.jrn = s.jrn ∧
    ((toRemote e t vs m q proxy s)).1.csn = s.csn ∧ ((toRemote e t vs m q proxy s)).1.fl = s.fl ∧
    ((toRemote e t vs m q proxy s)).1.fab = s.fab ∧ ((toRemote e t vs m q proxy s)).1.eng = s.eng ∧
    ((toRemote e t vs m q proxy s)).1.img = s.img ∧ ((toRemote e t vs m q proxy s)).1.rcd = s.rcd ∧
    ((toRemote e t vs m q proxy s)).1.pmc = s.pmc ∧ ((toRemote e t vs m q proxy s)).1.abt = s.abt ∧
    ((toRemote e t vs m q proxy s)).1.mode = s.mode ∧ ((toRemote e t vs m q proxy s)).1.key = s.key ∧
    ((toRemote e t vs m q proxy s)).1.sb = s.sb ∧ ((toRemote e t vs m q proxy s)).1.pending = s.pending := by
  unfold toRemote
  (repeat' split) <;> simp -implicitDefEqProofs (maxDischargeDepth := 6)

def Foot.toRemote : List Reg := [.PIR_BUFEXP, .PIR_BUFOCC, .PIR_CPLTRK, .PIR_ERRCNT2, .PIR_EXPMON, .PIR_FBPORT]

@[simp] theorem toRemote_rd (e : Entry) (t : Tlp) (vs m q : Nat) (proxy : Option Nat) (s : State) (reg : Reg) (rix : Nat) (hav : avoids Foot.toRemote reg = true) :
    ((toRemote e t vs m q proxy s)).1.rd reg rix = s.rd reg rix := by
  have c0 : avoids Foot.hopsOut reg = true := avoids_mono (by decide) hav
  unfold toRemote
  (repeat' split) <;> simp -implicitDefEqProofs (maxDischargeDepth := 6) [*]

@[simp] theorem islandLost_frame (i : Nat) (s : State) :
    (islandLost i s).abt = s.abt ∧ (islandLost i s).sb = s.sb ∧ (islandLost i s).pending = s.pending := by
  unfold islandLost
  (repeat' split) <;> simp -implicitDefEqProofs (maxDischargeDepth := 6)

def Foot.islandLost : List Reg := [.CLK_ISLSTAT, .CSN_CHSTAT, .CSN_POOL, .CSN_PSPILL, .CSN_STAT, .DCK_STAT, .ENG_CTL, .ENG_STAT, .GLB_DMASTAT, .GLB_ERRSTAT, .GLB_IMGERR, .GLB_IMGSTAT, .GLB_MODE, .GLB_PIERSTAT, .GLB_PLANES, .GLB_QSTAT, .GLB_SLOT, .GLB_VSSTAT, .JNL_CMDRES, .JNL_HEAD, .JNL_STAT, .JNL_TAIL, .KEY_NONCE, .KEY_SLOT, .KEY_SLOTHASH, .KEY_STAT, .PIR_BUFEXP, .PIR_BUFOCC, .PIR_CLOSE, .PIR_CPLTRK, .PIR_DKSTAT, .PIR_DUTY, .PIR_ERRCNT2, .PIR_EXPMON, .PIR_FBPORT, .PIR_PFCNT, .PIR_PMAP, .PMC_BSTAT, .PMC_CNT, .PMC_STAT, .PWD_STAT, .REC_PFSTAT, .REC_STAT, .REC_TRGCFG, .REC_TRGCNT, .SPN_CALSTAT, .SPN_COEF, .SPN_FLSTAT, .SPN_LANE, .SPN_PSTAT]

@[simp] theorem islandLost_rd (i : Nat) (s : State) (reg : Reg) (rix : Nat) (hav : avoids Foot.islandLost reg = true) :
    (islandLost i s).rd reg rix = s.rd reg rix := by
  have c0 : avoids Foot.pierClose reg = true := avoids_mono (by decide) hav
  have c1 : avoids Foot.planeFail reg = true := avoids_mono (by decide) hav
  have c2 : avoids Foot.channelFail reg = true := avoids_mono (by decide) hav
  have c3 : avoids Foot.liveFault reg = true := avoids_mono (by decide) hav
  have c4 : avoids Foot.clusterFail reg = true := avoids_mono (by decide) hav
  unfold islandLost
  (repeat' split) <;> simp -implicitDefEqProofs (maxDischargeDepth := 6) [*]

@[simp] theorem markLost_frame (i : Nat) (s : State) :
    (markLost i s).env = s.env ∧ (markLost i s).jrn = s.jrn ∧ (markLost i s).err = s.err ∧ (markLost i s).ports = s.ports ∧
    (markLost i s).deck = s.deck ∧ (markLost i s).csn = s.csn ∧ (markLost i s).fl = s.fl ∧ (markLost i s).host = s.host ∧
    (markLost i s).fab = s.fab ∧ (markLost i s).eng = s.eng ∧ (markLost i s).img = s.img ∧ (markLost i s).rcd = s.rcd ∧
    (markLost i s).pmc = s.pmc ∧ (markLost i s).abt = s.abt ∧ (markLost i s).mode = s.mode ∧ (markLost i s).key = s.key ∧
    (markLost i s).sb = s.sb ∧ (markLost i s).pending = s.pending := by
  unfold markLost
  (repeat' split) <;> simp -implicitDefEqProofs (maxDischargeDepth := 6)

def Foot.markLost : List Reg := [.CLK_ISLSTAT]

@[simp] theorem markLost_rd (i : Nat) (s : State) (reg : Reg) (rix : Nat) (hav : avoids Foot.markLost reg = true) :
    (markLost i s).rd reg rix = s.rd reg rix := by
  have f0 : reg ≠ F.CLK_ISLSTAT_FAILED.reg := avoids_ne (by decide) hav
  have f1 : reg ≠ F.CLK_ISLSTAT_LOCK.reg := avoids_ne (by decide) hav
  have f2 : reg ≠ F.CLK_ISLSTAT_RUN.reg := avoids_ne (by decide) hav
  unfold markLost
  (repeat' split) <;> simp -implicitDefEqProofs (maxDischargeDepth := 6) [*]

@[simp] theorem setPf_frame (p : Nat) (l : List PfBuf) (s : State) :
    (setPf p l s).env = s.env ∧ (setPf p l s).jrn = s.jrn ∧ (setPf p l s).err = s.err ∧ (setPf p l s).ports = s.ports ∧
    (setPf p l s).deck = s.deck ∧ (setPf p l s).csn = s.csn ∧ (setPf p l s).fl = s.fl ∧ (setPf p l s).host = s.host ∧
    (setPf p l s).eng = s.eng ∧ (setPf p l s).img = s.img ∧ (setPf p l s).rcd = s.rcd ∧ (setPf p l s).pmc = s.pmc ∧
    (setPf p l s).abt = s.abt ∧ (setPf p l s).mode = s.mode ∧ (setPf p l s).key = s.key ∧ (setPf p l s).sb = s.sb ∧
    (setPf p l s).pending = s.pending := by
  unfold setPf
  (repeat' split) <;> simp -implicitDefEqProofs (maxDischargeDepth := 6)

def Foot.setPf : List Reg := []

@[simp] theorem setPf_rd (p : Nat) (l : List PfBuf) (s : State) (reg : Reg) (rix : Nat) (hav : avoids Foot.setPf reg = true) :
    (setPf p l s).rd reg rix = s.rd reg rix := by
  unfold setPf
  (repeat' split) <;> simp -implicitDefEqProofs (maxDischargeDepth := 6) [*]

@[simp] theorem pfStart_frame (p v rid : Nat) (tc : Fin 8) (a top : Nat) (s : State) :
    (pfStart p v rid tc a top s).env = s.env ∧ (pfStart p v rid tc a top s).jrn = s.jrn ∧
    (pfStart p v rid tc a top s).csn = s.csn ∧ (pfStart p v rid tc a top s).fl = s.fl ∧
    (pfStart p v rid tc a top s).host = s.host ∧ (pfStart p v rid tc a top s).eng = s.eng ∧
    (pfStart p v rid tc a top s).img = s.img ∧ (pfStart p v rid tc a top s).pmc = s.pmc ∧
    (pfStart p v rid tc a top s).abt = s.abt ∧ (pfStart p v rid tc a top s).mode = s.mode ∧
    (pfStart p v rid tc a top s).key = s.key ∧ (pfStart p v rid tc a top s).sb = s.sb ∧
    (pfStart p v rid tc a top s).pending = s.pending := by
  unfold pfStart
  (repeat' split) <;> simp -implicitDefEqProofs (maxDischargeDepth := 6)

def Foot.pfStart : List Reg := [.PIR_BUFEXP, .PIR_BUFOCC, .PIR_CPLTRK, .PIR_ERRCNT2, .PIR_EXPMON, .PIR_FBPORT, .PIR_PFCNT, .REC_PFSTAT]

@[simp] theorem pfStart_rd (p v rid : Nat) (tc : Fin 8) (a top : Nat) (s : State) (reg : Reg) (rix : Nat) (hav : avoids Foot.pfStart reg = true) :
    (pfStart p v rid tc a top s).rd reg rix = s.rd reg rix := by
  have c0 : avoids Foot.inject reg = true := avoids_mono (by decide) hav
  have c1 : avoids Foot.track reg = true := avoids_mono (by decide) hav
  have c2 : avoids Foot.pfDiscard reg = true := avoids_mono (by decide) hav
  have c3 : avoids Foot.setPf reg = true := avoids_mono (by decide) hav
  unfold pfStart
  (repeat' split) <;> simp -implicitDefEqProofs (maxDischargeDepth := 6) [*]

@[simp] theorem pfAnswer_frame (p : Nat) (b : PfBuf) (c : Carried) (s : State) :
    (pfAnswer p b c s).env = s.env ∧ (pfAnswer p b c s).jrn = s.jrn ∧ (pfAnswer p b c s).csn = s.csn ∧
    (pfAnswer p b c s).fl = s.fl ∧ (pfAnswer p b c s).eng = s.eng ∧ (pfAnswer p b c s).img = s.img ∧
    (pfAnswer p b c s).pmc = s.pmc ∧ (pfAnswer p b c s).abt = s.abt ∧ (pfAnswer p b c s).mode = s.mode ∧
    (pfAnswer p b c s).key = s.key ∧ (pfAnswer p b c s).sb = s.sb ∧ (pfAnswer p b c s).pending = s.pending := by
  unfold pfAnswer
  (repeat' split) <;> simp -implicitDefEqProofs (maxDischargeDepth := 6)

def Foot.pfAnswer : List Reg := [.PIR_BUFEXP, .PIR_BUFOCC, .PIR_CPLTRK, .PIR_ERRCNT2, .PIR_EXPMON, .PIR_FBPORT, .PIR_PFCNT, .REC_PFSTAT]

@[simp] theorem pfAnswer_rd (p : Nat) (b : PfBuf) (c : Carried) (s : State) (reg : Reg) (rix : Nat) (hav : avoids Foot.pfAnswer reg = true) :
    (pfAnswer p b c s).rd reg rix = s.rd reg rix := by
  have c0 : avoids Foot.sendReadData reg = true := avoids_mono (by decide) hav
  have c1 : avoids Foot.setPf reg = true := avoids_mono (by decide) hav
  have c2 : avoids Foot.pfStart reg = true := avoids_mono (by decide) hav
  have f0 : reg ≠ F.PIR_PFCNT_HITS.reg := avoids_ne (by decide) hav
  unfold pfAnswer
  (repeat' split) <;> simp -implicitDefEqProofs (maxDischargeDepth := 6) [*]

@[simp] theorem pfRead_frame (p : Nat) (c : Carried) (s : State) :
    ((pfRead p c s)).1.env = s.env ∧ ((pfRead p c s)).1.jrn = s.jrn ∧ ((pfRead p c s)).1.csn = s.csn ∧
    ((pfRead p c s)).1.fl = s.fl ∧ ((pfRead p c s)).1.eng = s.eng ∧ ((pfRead p c s)).1.img = s.img ∧
    ((pfRead p c s)).1.pmc = s.pmc ∧ ((pfRead p c s)).1.abt = s.abt ∧ ((pfRead p c s)).1.mode = s.mode ∧
    ((pfRead p c s)).1.key = s.key ∧ ((pfRead p c s)).1.sb = s.sb ∧ ((pfRead p c s)).1.pending = s.pending := by
  unfold pfRead
  (repeat' split) <;> simp -implicitDefEqProofs (maxDischargeDepth := 6)

def Foot.pfRead : List Reg := [.PIR_BUFEXP, .PIR_BUFOCC, .PIR_CPLTRK, .PIR_ERRCNT2, .PIR_EXPMON, .PIR_FBPORT, .PIR_PFCNT, .REC_PFSTAT]

@[simp] theorem pfRead_rd (p : Nat) (c : Carried) (s : State) (reg : Reg) (rix : Nat) (hav : avoids Foot.pfRead reg = true) :
    ((pfRead p c s)).1.rd reg rix = s.rd reg rix := by
  have c0 : avoids Foot.pfDiscardIf reg = true := avoids_mono (by decide) hav
  have c1 : avoids Foot.setPf reg = true := avoids_mono (by decide) hav
  have c2 : avoids Foot.pfAnswer reg = true := avoids_mono (by decide) hav
  unfold pfRead
  (repeat' split) <;> simp -implicitDefEqProofs (maxDischargeDepth := 6) [*]

@[simp] theorem pfWake_frame (p : Nat) (c : Carried) (s : State) :
    (pfWake p c s).env = s.env ∧ (pfWake p c s).jrn = s.jrn ∧ (pfWake p c s).csn = s.csn ∧ (pfWake p c s).fl = s.fl ∧
    (pfWake p c s).eng = s.eng ∧ (pfWake p c s).img = s.img ∧ (pfWake p c s).pmc = s.pmc ∧ (pfWake p c s).abt = s.abt ∧
    (pfWake p c s).mode = s.mode ∧ (pfWake p c s).key = s.key ∧ (pfWake p c s).sb = s.sb ∧
    (pfWake p c s).pending = s.pending := by
  unfold pfWake
  (repeat' split) <;> simp -implicitDefEqProofs (maxDischargeDepth := 6)

def Foot.pfWake : List Reg := [.PIR_BUFEXP, .PIR_BUFOCC, .PIR_CPLTRK, .PIR_ERRCNT2, .PIR_EXPMON, .PIR_FBPORT, .PIR_PFCNT, .REC_PFSTAT]

@[simp] theorem pfWake_rd (p : Nat) (c : Carried) (s : State) (reg : Reg) (rix : Nat) (hav : avoids Foot.pfWake reg = true) :
    (pfWake p c s).rd reg rix = s.rd reg rix := by
  have c0 : avoids Foot.inject reg = true := avoids_mono (by decide) hav
  have c1 : avoids Foot.track reg = true := avoids_mono (by decide) hav
  have c2 : avoids Foot.pfAnswer reg = true := avoids_mono (by decide) hav
  unfold pfWake
  (repeat' split) <;> simp -implicitDefEqProofs (maxDischargeDepth := 6) [*]

@[simp] theorem pfCpl_frame (p : Nat) (t : Tlp) (s : State) :
    (pfCpl p t s).env = s.env ∧ (pfCpl p t s).jrn = s.jrn ∧ (pfCpl p t s).csn = s.csn ∧ (pfCpl p t s).fl = s.fl ∧
    (pfCpl p t s).eng = s.eng ∧ (pfCpl p t s).img = s.img ∧ (pfCpl p t s).pmc = s.pmc ∧ (pfCpl p t s).abt = s.abt ∧
    (pfCpl p t s).mode = s.mode ∧ (pfCpl p t s).key = s.key ∧ (pfCpl p t s).sb = s.sb ∧ (pfCpl p t s).pending = s.pending := by
  unfold pfCpl
  (repeat' split) <;> simp -implicitDefEqProofs (maxDischargeDepth := 6)

def Foot.pfCpl : List Reg := [.PIR_BUFEXP, .PIR_BUFOCC, .PIR_CPLTRK, .PIR_ERRCNT2, .PIR_EXPMON, .PIR_FBPORT, .PIR_PFCNT, .REC_PFSTAT]

@[simp] theorem pfCpl_rd (p : Nat) (t : Tlp) (s : State) (reg : Reg) (rix : Nat) (hav : avoids Foot.pfCpl reg = true) :
    (pfCpl p t s).rd reg rix = s.rd reg rix := by
  have c0 : avoids Foot.pfDiscard reg = true := avoids_mono (by decide) hav
  have c1 : avoids Foot.setPf reg = true := avoids_mono (by decide) hav
  have c2 : avoids Foot.pfWake reg = true := avoids_mono (by decide) hav
  unfold pfCpl
  (repeat' split) <;> simp -implicitDefEqProofs (maxDischargeDepth := 6) [*]

@[simp] theorem forwardCpl_frame (c : Carried) (reserved : Nat) (s : State) :
    (forwardCpl c reserved s).jrn = s.jrn ∧ (forwardCpl c reserved s).csn = s.csn ∧ (forwardCpl c reserved s).fl = s.fl ∧
    (forwardCpl c reserved s).fab = s.fab ∧ (forwardCpl c reserved s).img = s.img ∧ (forwardCpl c reserved s).abt = s.abt ∧
    (forwardCpl c reserved s).mode = s.mode ∧ (forwardCpl c reserved s).key = s.key ∧ (forwardCpl c reserved s).sb = s.sb ∧
    (forwardCpl c reserved s).pending = s.pending := by
  unfold forwardCpl
  (repeat' split) <;> simp -implicitDefEqProofs (maxDischargeDepth := 6)

def Foot.forwardCpl : List Reg := [.ENG_STAT, .PIR_BUFEXP, .PIR_BUFOCC, .PIR_CPLTRK, .PIR_ERRCNT2, .PIR_EXPMON, .PIR_FBPORT, .PMC_BSTAT, .PMC_CNT, .PMC_STAT, .REC_TRGCFG, .REC_TRGCNT]

@[simp] theorem forwardCpl_rd (c : Carried) (reserved : Nat) (s : State) (reg : Reg) (rix : Nat) (hav : avoids Foot.forwardCpl reg = true) :
    (forwardCpl c reserved s).rd reg rix = s.rd reg rix := by
  have c0 : avoids Foot.charge reg = true := avoids_mono (by decide) hav
  have c1 : avoids Foot.release reg = true := avoids_mono (by decide) hav
  have c2 : avoids Foot.proceed reg = true := avoids_mono (by decide) hav
  have c3 : avoids Foot.chargeIngress reg = true := avoids_mono (by decide) hav
  unfold forwardCpl
  (repeat' split) <;> simp -implicitDefEqProofs (maxDischargeDepth := 6) [*]

@[simp] theorem fabCpl_frame (p : Nat) (x : FabPkt) (s : State) :
    (fabCpl p x s).jrn = s.jrn ∧ (fabCpl p x s).csn = s.csn ∧ (fabCpl p x s).fl = s.fl ∧ (fabCpl p x s).img = s.img ∧
    (fabCpl p x s).abt = s.abt ∧ (fabCpl p x s).mode = s.mode ∧ (fabCpl p x s).key = s.key ∧ (fabCpl p x s).sb = s.sb ∧
    (fabCpl p x s).pending = s.pending := by
  unfold fabCpl
  (repeat' split) <;> (try simp -implicitDefEqProofs (maxDischargeDepth := 6)) <;> (repeat' split) <;> simp -implicitDefEqProofs (maxDischargeDepth := 6)

def Foot.fabCpl : List Reg := [.ENG_STAT, .PIR_BUFEXP, .PIR_BUFOCC, .PIR_CPLTRK, .PIR_ERRCNT2, .PIR_EXPMON, .PIR_FBPORT, .PMC_BSTAT, .PMC_CNT, .PMC_STAT, .REC_TRGCFG, .REC_TRGCNT]

@[simp] theorem fabCpl_rd (p : Nat) (x : FabPkt) (s : State) (reg : Reg) (rix : Nat) (hav : avoids Foot.fabCpl reg = true) :
    (fabCpl p x s).rd reg rix = s.rd reg rix := by
  have c0 : avoids Foot.release reg = true := avoids_mono (by decide) hav
  have c1 : avoids Foot.unproxy reg = true := avoids_mono (by decide) hav
  have c2 : avoids Foot.forwardCpl reg = true := avoids_mono (by decide) hav
  have f0 : reg ≠ F.PIR_FBPORT_LATE.reg := avoids_ne (by decide) hav
  have f1 : reg ≠ F.PIR_FBPORT_TAGS.reg := avoids_ne (by decide) hav
  unfold fabCpl
  (repeat' split) <;> (try simp -implicitDefEqProofs (maxDischargeDepth := 6) [*]) <;> (repeat' split) <;> simp -implicitDefEqProofs (maxDischargeDepth := 6) [*]

@[simp] theorem sliceErr_frame (p : Nat) (e : WordErr) (s : State) :
    (sliceErr p e s).abt = s.abt ∧ (sliceErr p e s).sb = s.sb ∧ (sliceErr p e s).pending = s.pending := by
  unfold sliceErr
  (repeat' split) <;> simp -implicitDefEqProofs (maxDischargeDepth := 6)

def Foot.sliceErr : List Reg := [.CLK_ISLSTAT, .CSN_POOL, .CSN_PSPILL, .CSN_STAT, .ENG_CTL, .ENG_STAT, .GLB_DMASTAT, .GLB_IMGERR, .GLB_IMGSTAT, .GLB_PIERSTAT, .GLB_SLOT, .GLB_VSSTAT, .JNL_CMDRES, .JNL_HEAD, .JNL_STAT, .JNL_TAIL, .KEY_NONCE, .KEY_SLOT, .KEY_SLOTHASH, .KEY_STAT, .PIR_BUFEXP, .PIR_BUFOCC, .PIR_CLOSE, .PIR_CPLTRK, .PIR_DUTY, .PIR_ERRCNT, .PIR_ERRCNT2, .PIR_EXPMON, .PIR_FBPORT, .PIR_PFCNT, .PMC_BSTAT, .PMC_CNT, .PMC_STAT, .PWD_STAT, .REC_PFSTAT, .REC_TRGCFG, .REC_TRGCNT, .SPN_CALSTAT, .SPN_COEF, .SPN_FLSTAT, .SPN_LANE, .SPN_PSTAT]

@[simp] theorem sliceErr_rd (p : Nat) (e : WordErr) (s : State) (reg : Reg) (rix : Nat) (hav : avoids Foot.sliceErr reg = true) :
    (sliceErr p e s).rd reg rix = s.rd reg rix := by
  have c0 : avoids Foot.pierClose reg = true := avoids_mono (by decide) hav
  have c1 : avoids Foot.liveFault reg = true := avoids_mono (by decide) hav
  have c2 : avoids Foot.uncRise reg = true := avoids_mono (by decide) hav
  have f0 : reg ≠ F.PIR_ERRCNT_SRAM_CORR.reg := avoids_ne (by decide) hav
  have f1 : reg ≠ F.PIR_ERRCNT_SRAM_UNC.reg := avoids_ne (by decide) hav
  unfold sliceErr
  (repeat' split) <;> simp -implicitDefEqProofs (maxDischargeDepth := 6) [*]

@[simp] theorem blockPoison_frame (p v fn : Nat) (c : Carried) (s : State) :
    (blockPoison p v fn c s).img = s.img ∧ (blockPoison p v fn c s).abt = s.abt ∧ (blockPoison p v fn c s).mode = s.mode ∧
    (blockPoison p v fn c s).sb = s.sb ∧ (blockPoison p v fn c s).pending = s.pending := by
  unfold blockPoison
  (repeat' split) <;> (try simp -implicitDefEqProofs (maxDischargeDepth := 6)) <;> (repeat' split) <;> simp -implicitDefEqProofs (maxDischargeDepth := 6)

def Foot.blockPoison : List Reg := [.CSN_POOL, .CSN_PSPILL, .CSN_STAT, .ENG_STAT, .GLB_DMASTAT, .GLB_SLOT, .GLB_VSSTAT, .JNL_CMDRES, .JNL_HEAD, .JNL_STAT, .JNL_TAIL, .KEY_NONCE, .KEY_SLOT, .KEY_SLOTHASH, .KEY_STAT, .PIR_BUFEXP, .PIR_BUFOCC, .PIR_CLOSE, .PIR_CPLTRK, .PIR_ERRCNT2, .PIR_EXPMON, .PIR_FBPORT, .PIR_PFCNT, .PMC_BSTAT, .PMC_CNT, .PMC_STAT, .REC_PFSTAT, .REC_TRGCFG, .REC_TRGCNT, .SPN_CALSTAT, .SPN_COEF, .SPN_FLSTAT, .SPN_PSTAT]

@[simp] theorem blockPoison_rd (p v fn : Nat) (c : Carried) (s : State) (reg : Reg) (rix : Nat) (hav : avoids Foot.blockPoison reg = true) :
    (blockPoison p v fn c s).rd reg rix = s.rd reg rix := by
  have c0 : avoids Foot.untrack reg = true := avoids_mono (by decide) hav
  have c1 : avoids Foot.sendCpl reg = true := avoids_mono (by decide) hav
  have c2 : avoids Foot.aerUnc reg = true := avoids_mono (by decide) hav
  have c3 : avoids Foot.spanClose reg = true := avoids_mono (by decide) hav
  unfold blockPoison
  (repeat' split) <;> (try simp -implicitDefEqProofs (maxDischargeDepth := 6) [*]) <;> (repeat' split) <;> simp -implicitDefEqProofs (maxDischargeDepth := 6) [*]

@[simp] theorem startTlp_frame (p t i : Nat) (c : Carried) (s : State) :
    (startTlp p t i c s).img = s.img ∧ (startTlp p t i c s).abt = s.abt ∧ (startTlp p t i c s).mode = s.mode ∧
    (startTlp p t i c s).sb = s.sb ∧ (startTlp p t i c s).pending = s.pending := by
  unfold startTlp
  (repeat' split) <;> (try simp -implicitDefEqProofs (maxDischargeDepth := 6)) <;> (repeat' split) <;> simp -implicitDefEqProofs (maxDischargeDepth := 6)

def Foot.startTlp : List Reg := [.CSN_POOL, .CSN_PSPILL, .CSN_STAT, .ENG_STAT, .GLB_DMASTAT, .GLB_SLOT, .GLB_VSSTAT, .JNL_CMDRES, .JNL_HEAD, .JNL_STAT, .JNL_TAIL, .KEY_NONCE, .KEY_SLOT, .KEY_SLOTHASH, .KEY_STAT, .PIR_BUFEXP, .PIR_BUFOCC, .PIR_CLOSE, .PIR_CPLTRK, .PIR_ERRCNT2, .PIR_EXPMON, .PIR_FBPORT, .PIR_PFCNT, .PMC_BSTAT, .PMC_CNT, .PMC_STAT, .REC_PFSTAT, .REC_TRGCFG, .REC_TRGCNT, .SPN_CALSTAT, .SPN_COEF, .SPN_FLSTAT, .SPN_PSTAT]

@[simp] theorem startTlp_rd (p t i : Nat) (c : Carried) (s : State) (reg : Reg) (rix : Nat) (hav : avoids Foot.startTlp reg = true) :
    (startTlp p t i c s).rd reg rix = s.rd reg rix := by
  have c1 : avoids Foot.setEgressQ reg = true := avoids_mono (by decide) hav
  have c2 : avoids Foot.releaseEgress reg = true := avoids_mono (by decide) hav
  have c3 : avoids Foot.chargeEgress reg = true := avoids_mono (by decide) hav
  have c4 : avoids Foot.count reg = true := avoids_mono (by decide) hav
  have c5 : avoids Foot.drain5 reg = true := avoids_mono (by decide) hav
  have c6 : avoids Foot.blockPoison reg = true := avoids_mono (by decide) hav
  unfold startTlp
  (repeat' split) <;> (try simp -implicitDefEqProofs (maxDischargeDepth := 6) [*]) <;> (repeat' split) <;> simp -implicitDefEqProofs (maxDischargeDepth := 6) [*]

@[simp] theorem sbrSet_frame (v fn : Nat) (s : State) :
    (sbrSet v fn s).fl = s.fl ∧ (sbrSet v fn s).img = s.img ∧ (sbrSet v fn s).abt = s.abt ∧ (sbrSet v fn s).mode = s.mode ∧
    (sbrSet v fn s).sb = s.sb ∧ (sbrSet v fn s).pending = s.pending := by
  unfold sbrSet
  (repeat' split) <;> simp -implicitDefEqProofs (maxDischargeDepth := 6)

def Foot.sbrSet : List Reg := [.CSN_POOL, .CSN_PSPILL, .CSN_STAT, .ENG_STAT, .GLB_DMASTAT, .GLB_SLOT, .GLB_VSSTAT, .JNL_CMDRES, .JNL_HEAD, .JNL_STAT, .JNL_TAIL, .KEY_NONCE, .KEY_SLOT, .KEY_SLOTHASH, .KEY_STAT, .PIR_BUFEXP, .PIR_BUFOCC, .PIR_CPLTRK, .PIR_ERRCNT2, .PIR_EXPMON, .PIR_FBPORT, .PIR_PFCNT, .PMC_BSTAT, .PMC_CNT, .PMC_STAT, .REC_PFSTAT, .REC_TRGCFG, .REC_TRGCNT, .SPN_PSTAT]

@[simp] theorem sbrSet_rd (v fn : Nat) (s : State) (reg : Reg) (rix : Nat) (hav : avoids Foot.sbrSet reg = true) :
    (sbrSet v fn s).rd reg rix = s.rd reg rix := by
  have c0 : avoids Foot.keeperEntry reg = true := avoids_mono (by decide) hav
  have c1 : avoids Foot.ctlToBridge reg = true := avoids_mono (by decide) hav
  have c2 : avoids Foot.hotLink reg = true := avoids_mono (by decide) hav
  have c3 : avoids Foot.vsReset reg = true := avoids_mono (by decide) hav
  unfold sbrSet
  (repeat' split) <;> simp -implicitDefEqProofs (maxDischargeDepth := 6) [*]

@[simp] theorem sbrClear_frame (v fn : Nat) (s : State) :
    (sbrClear v fn s).csn = s.csn ∧ (sbrClear v fn s).fl = s.fl ∧ (sbrClear v fn s).img = s.img ∧
    (sbrClear v fn s).abt = s.abt ∧ (sbrClear v fn s).mode = s.mode ∧ (sbrClear v fn s).key = s.key ∧
    (sbrClear v fn s).sb = s.sb ∧ (sbrClear v fn s).pending = s.pending := by
  unfold sbrClear
  (repeat' split) <;> simp -implicitDefEqProofs (maxDischargeDepth := 6)

def Foot.sbrClear : List Reg := [.ENG_STAT, .JNL_HEAD, .JNL_TAIL, .PIR_BUFEXP, .PIR_BUFOCC, .PIR_CPLTRK, .PIR_ERRCNT2, .PIR_EXPMON, .PIR_FBPORT, .PMC_BSTAT, .PMC_CNT, .PMC_STAT, .REC_TRGCFG, .REC_TRGCNT]

@[simp] theorem sbrClear_rd (v fn : Nat) (s : State) (reg : Reg) (rix : Nat) (hav : avoids Foot.sbrClear reg = true) :
    (sbrClear v fn s).rd reg rix = s.rd reg rix := by
  have c0 : avoids Foot.keeperEntry reg = true := avoids_mono (by decide) hav
  have c1 : avoids Foot.ctlToBridge reg = true := avoids_mono (by decide) hav
  have c2 : avoids Foot.vsResetEnd reg = true := avoids_mono (by decide) hav
  have c3 : avoids Foot.hotEnd reg = true := avoids_mono (by decide) hav
  unfold sbrClear
  (repeat' split) <;> simp -implicitDefEqProofs (maxDischargeDepth := 6) [*]

@[simp] theorem flr_frame (v fn : Nat) (s : State) :
    (flr v fn s).csn = s.csn ∧ (flr v fn s).fl = s.fl ∧ (flr v fn s).fab = s.fab ∧ (flr v fn s).img = s.img ∧
    (flr v fn s).abt = s.abt ∧ (flr v fn s).mode = s.mode ∧ (flr v fn s).sb = s.sb ∧ (flr v fn s).pending = s.pending := by
  unfold flr
  (repeat' split) <;> simp -implicitDefEqProofs (maxDischargeDepth := 6)

def Foot.flr : List Reg := [.ENG_STAT, .GLB_DMASTAT, .GLB_VSSTAT, .JNL_CMDRES, .JNL_HEAD, .JNL_STAT, .JNL_TAIL, .KEY_NONCE, .KEY_SLOT, .KEY_SLOTHASH, .KEY_STAT, .PIR_BUFEXP, .PIR_BUFOCC, .PIR_CPLTRK, .PIR_ERRCNT2, .PIR_EXPMON, .PIR_FBPORT, .PMC_BSTAT, .PMC_CNT, .PMC_STAT, .REC_TRGCFG, .REC_TRGCNT]

@[simp] theorem flr_rd (v fn : Nat) (s : State) (reg : Reg) (rix : Nat) (hav : avoids Foot.flr reg = true) :
    (flr v fn s).rd reg rix = s.rd reg rix := by
  have c0 : avoids Foot.keeperEntry reg = true := avoids_mono (by decide) hav
  have c1 : avoids Foot.dmaFail reg = true := avoids_mono (by decide) hav
  have c2 : avoids Foot.dmaNext reg = true := avoids_mono (by decide) hav
  have c3 : avoids Foot.resetFn reg = true := avoids_mono (by decide) hav
  have c4 : avoids Foot.clearMsix reg = true := avoids_mono (by decide) hav
  have c5 : avoids Foot.refreshVs reg = true := avoids_mono (by decide) hav
  have f0 : reg ≠ F.GLB_VSSTAT_NOTREADY.reg := avoids_ne (by decide) hav
  unfold flr
  (repeat' split) <;> simp -implicitDefEqProofs (maxDischargeDepth := 6) [*]

@[simp] theorem pmWritten_frame (v : Nat) (s : State) :
    (pmWritten v s).csn = s.csn ∧ (pmWritten v s).fl = s.fl ∧ (pmWritten v s).fab = s.fab ∧ (pmWritten v s).img = s.img ∧
    (pmWritten v s).abt = s.abt ∧ (pmWritten v s).mode = s.mode ∧ (pmWritten v s).sb = s.sb ∧
    (pmWritten v s).pending = s.pending := by
  unfold pmWritten
  (repeat' split) <;> simp -implicitDefEqProofs (maxDischargeDepth := 6)

def Foot.pmWritten : List Reg := [.ENG_STAT, .GLB_DMASTAT, .GLB_VSSTAT, .JNL_CMDRES, .JNL_HEAD, .JNL_STAT, .JNL_TAIL, .KEY_NONCE, .KEY_SLOT, .KEY_SLOTHASH, .KEY_STAT, .PIR_BUFEXP, .PIR_BUFOCC, .PIR_CPLTRK, .PIR_ERRCNT2, .PIR_EXPMON, .PIR_FBPORT, .PMC_BSTAT, .PMC_CNT, .PMC_STAT, .REC_TRGCFG, .REC_TRGCNT]

@[simp] theorem pmWritten_rd (v : Nat) (s : State) (reg : Reg) (rix : Nat) (hav : avoids Foot.pmWritten reg = true) :
    (pmWritten v s).rd reg rix = s.rd reg rix := by
  have c0 : avoids Foot.msixFlush reg = true := avoids_mono (by decide) hav
  have c1 : avoids Foot.dmaPump reg = true := avoids_mono (by decide) hav
  have c2 : avoids Foot.refreshVs reg = true := avoids_mono (by decide) hav
  unfold pmWritten
  (repeat' split) <;> simp -implicitDefEqProofs (maxDischargeDepth := 6) [*]

@[simp] theorem linkCtl_frame (v fn : Nat) (old new : Word) (retrain : Bool) (s : State) :
    (linkCtl v fn old new retrain s).fl = s.fl ∧ (linkCtl v fn old new retrain s).img = s.img ∧
    (linkCtl v fn old new retrain s).abt = s.abt ∧ (linkCtl v fn old new retrain s).mode = s.mode ∧
    (linkCtl v fn old new retrain s).sb = s.sb ∧ (linkCtl v fn old new retrain s).pending = s.pending := by
  unfold linkCtl
  (repeat' split) <;> simp -implicitDefEqProofs (maxDischargeDepth := 6)

def Foot.linkCtl : List Reg := [.CSN_POOL, .CSN_PSPILL, .CSN_STAT, .ENG_STAT, .GLB_DMASTAT, .GLB_SLOT, .GLB_VSSTAT, .JNL_CMDRES, .JNL_HEAD, .JNL_STAT, .JNL_TAIL, .KEY_NONCE, .KEY_SLOT, .KEY_SLOTHASH, .KEY_STAT, .PIR_BUFEXP, .PIR_BUFOCC, .PIR_CPLTRK, .PIR_ERRCNT2, .PIR_EXPMON, .PIR_FBPORT, .PIR_PFCNT, .PMC_BSTAT, .PMC_CNT, .PMC_STAT, .REC_PFSTAT, .REC_TRGCFG, .REC_TRGCNT, .SPN_FLSTAT, .SPN_LANE, .SPN_PSTAT]

@[simp] theorem linkCtl_rd (v fn : Nat) (old new : Word) (retrain : Bool) (s : State) (reg : Reg) (rix : Nat) (hav : avoids Foot.linkCtl reg = true) :
    (linkCtl v fn old new retrain s).rd reg rix = s.rd reg rix := by
  have c0 : avoids Foot.ctlToBridge reg = true := avoids_mono (by decide) hav
  have c1 : avoids Foot.linkCtlAt reg = true := avoids_mono (by decide) hav
  unfold linkCtl
  (repeat' split) <;> simp -implicitDefEqProofs (maxDischargeDepth := 6) [*]

@[simp] theorem slotCtl_frame (v fn : Nat) (new : Word) (s : State) :
    (slotCtl v fn new s).env = s.env ∧ (slotCtl v fn new s).jrn = s.jrn ∧ (slotCtl v fn new s).csn = s.csn ∧
    (slotCtl v fn new s).fl = s.fl ∧ (slotCtl v fn new s).eng = s.eng ∧ (slotCtl v fn new s).img = s.img ∧
    (slotCtl v fn new s).rcd = s.rcd ∧ (slotCtl v fn new s).pmc = s.pmc ∧ (slotCtl v fn new s).abt = s.abt ∧
    (slotCtl v fn new s).mode = s.mode ∧ (slotCtl v fn new s).key = s.key ∧ (slotCtl v fn new s).sb = s.sb ∧
    (slotCtl v fn new s).pending = s.pending := by
  unfold slotCtl
  (repeat' split) <;> simp -implicitDefEqProofs (maxDischargeDepth := 6)

def Foot.slotCtl : List Reg := [.GLB_SLOT, .PIR_BUFEXP, .PIR_BUFOCC, .PIR_CPLTRK, .PIR_ERRCNT2, .PIR_EXPMON, .PIR_FBPORT]

@[simp] theorem slotCtl_rd (v fn : Nat) (new : Word) (s : State) (reg : Reg) (rix : Nat) (hav : avoids Foot.slotCtl reg = true) :
    (slotCtl v fn new s).rd reg rix = s.rd reg rix := by
  have c0 : avoids Foot.ctlToBridge reg = true := avoids_mono (by decide) hav
  have c1 : avoids Foot.slotCtlAt reg = true := avoids_mono (by decide) hav
  unfold slotCtl
  (repeat' split) <;> simp -implicitDefEqProofs (maxDischargeDepth := 6) [*]

@[simp] theorem cfgEffect_frame (v fn off : Nat) (old new w : Word) (s : State) :
    (cfgEffect v fn off old new w s).img = s.img ∧ (cfgEffect v fn off old new w s).abt = s.abt ∧
    (cfgEffect v fn off old new w s).mode = s.mode ∧ (cfgEffect v fn off old new w s).sb = s.sb ∧
    (cfgEffect v fn off old new w s).pending = s.pending := by
  unfold cfgEffect
  (repeat' split) <;> (try simp -implicitDefEqProofs (maxDischargeDepth := 6)) <;> (repeat' split) <;> simp -implicitDefEqProofs (maxDischargeDepth := 6)

def Foot.cfgEffect : List Reg := [.CSN_POOL, .CSN_PSPILL, .CSN_STAT, .ENG_STAT, .GLB_DMASTAT, .GLB_SLOT, .GLB_VSSTAT, .JNL_CMDRES, .JNL_HEAD, .JNL_STAT, .JNL_TAIL, .KEY_NONCE, .KEY_SLOT, .KEY_SLOTHASH, .KEY_STAT, .PIR_BUFEXP, .PIR_BUFOCC, .PIR_CLOSE, .PIR_CPLTRK, .PIR_ERRCNT2, .PIR_EXPMON, .PIR_FBPORT, .PIR_PFCNT, .PMC_BSTAT, .PMC_CNT, .PMC_STAT, .REC_PFSTAT, .REC_TRGCFG, .REC_TRGCNT, .SPN_CALSTAT, .SPN_COEF, .SPN_FLSTAT, .SPN_LANE, .SPN_PSTAT]

@[simp] theorem cfgEffect_rd (v fn off : Nat) (old new w : Word) (s : State) (reg : Reg) (rix : Nat) (hav : avoids Foot.cfgEffect reg = true) :
    (cfgEffect v fn off old new w s).rd reg rix = s.rd reg rix := by
  have c0 : avoids Foot.msixFlush reg = true := avoids_mono (by decide) hav
  have c1 : avoids Foot.dmaPump reg = true := avoids_mono (by decide) hav
  have c2 : avoids Foot.dmaAbort reg = true := avoids_mono (by decide) hav
  have c3 : avoids Foot.spanClose reg = true := avoids_mono (by decide) hav
  have c4 : avoids Foot.releasePort reg = true := avoids_mono (by decide) hav
  have c5 : avoids Foot.refreshClk reg = true := avoids_mono (by decide) hav
  have c6 : avoids Foot.sbrSet reg = true := avoids_mono (by decide) hav
  have c7 : avoids Foot.sbrClear reg = true := avoids_mono (by decide) hav
  have c8 : avoids Foot.flr reg = true := avoids_mono (by decide) hav
  have c9 : avoids Foot.pmWritten reg = true := avoids_mono (by decide) hav
  have c10 : avoids Foot.linkCtl reg = true := avoids_mono (by decide) hav
  have c11 : avoids Foot.slotCtl reg = true := avoids_mono (by decide) hav
  unfold cfgEffect
  (repeat' split) <;> (try simp -implicitDefEqProofs (maxDischargeDepth := 6) [*]) <;> (repeat' split) <;> simp -implicitDefEqProofs (maxDischargeDepth := 6) [*]

@[simp] theorem awaitCtl_frame (id : Nat) (r : CfgReq) (fn : Nat) (s : State) :
    (awaitCtl id r fn s).env = s.env ∧ (awaitCtl id r fn s).jrn = s.jrn ∧ (awaitCtl id r fn s).err = s.err ∧
    (awaitCtl id r fn s).ports = s.ports ∧ (awaitCtl id r fn s).deck = s.deck ∧ (awaitCtl id r fn s).csn = s.csn ∧
    (awaitCtl id r fn s).fl = s.fl ∧ (awaitCtl id r fn s).fab = s.fab ∧ (awaitCtl id r fn s).eng = s.eng ∧
    (awaitCtl id r fn s).img = s.img ∧ (awaitCtl id r fn s).rcd = s.rcd ∧ (awaitCtl id r fn s).pmc = s.pmc ∧
    (awaitCtl id r fn s).abt = s.abt ∧ (awaitCtl id r fn s).mode = s.mode ∧ (awaitCtl id r fn s).key = s.key ∧
    (awaitCtl id r fn s).sb = s.sb ∧ (awaitCtl id r fn s).pending = s.pending := by
  unfold awaitCtl
  (repeat' split) <;> simp -implicitDefEqProofs (maxDischargeDepth := 6)

def Foot.awaitCtl : List Reg := []

@[simp] theorem awaitCtl_rd (id : Nat) (r : CfgReq) (fn : Nat) (s : State) (reg : Reg) (rix : Nat) (hav : avoids Foot.awaitCtl reg = true) :
    (awaitCtl id r fn s).rd reg rix = s.rd reg rix := by
  unfold awaitCtl
  (repeat' split) <;> simp -implicitDefEqProofs (maxDischargeDepth := 6) [*]

@[simp] theorem cfgWriteServe_frame (r : CfgReq) (s : State) :
    (cfgWriteServe r s).img = s.img ∧ (cfgWriteServe r s).abt = s.abt ∧ (cfgWriteServe r s).mode = s.mode ∧
    (cfgWriteServe r s).sb = s.sb ∧ (cfgWriteServe r s).pending = s.pending := by
  unfold cfgWriteServe
  (repeat' split) <;> (try simp -implicitDefEqProofs (maxDischargeDepth := 6)) <;> (repeat' split) <;> simp -implicitDefEqProofs (maxDischargeDepth := 6)

def Foot.cfgWriteServe : List Reg := [.CSN_POOL, .CSN_PSPILL, .CSN_STAT, .ENG_STAT, .GLB_DMASTAT, .GLB_SLOT, .GLB_VSSTAT, .JNL_CMDRES, .JNL_HEAD, .JNL_STAT, .JNL_TAIL, .KEY_NONCE, .KEY_SLOT, .KEY_SLOTHASH, .KEY_STAT, .PIR_BUFEXP, .PIR_BUFOCC, .PIR_CLOSE, .PIR_CPLTRK, .PIR_ERRCNT2, .PIR_EXPMON, .PIR_FBPORT, .PIR_PFCNT, .PMC_BSTAT, .PMC_CNT, .PMC_STAT, .REC_PFSTAT, .REC_TRGCFG, .REC_TRGCNT, .SPN_CALSTAT, .SPN_COEF, .SPN_FLSTAT, .SPN_LANE, .SPN_PSTAT]

@[simp] theorem cfgWriteServe_rd (r : CfgReq) (s : State) (reg : Reg) (rix : Nat) (hav : avoids Foot.cfgWriteServe reg = true) :
    (cfgWriteServe r s).rd reg rix = s.rd reg rix := by
  have c0 : avoids Foot.cfgSet reg = true := avoids_mono (by decide) hav
  have c1 : avoids Foot.keeperEntry reg = true := avoids_mono (by decide) hav
  have c2 : avoids Foot.cfgEffect reg = true := avoids_mono (by decide) hav
  have c3 : avoids Foot.awaitCtl reg = true := avoids_mono (by decide) hav
  have f0 : reg ≠ F.GLB_VSSTAT_BUS.reg := avoids_ne (by decide) hav
  unfold cfgWriteServe
  (repeat' split) <;> (try simp -implicitDefEqProofs (maxDischargeDepth := 6) [*]) <;> (repeat' split) <;> simp -implicitDefEqProofs (maxDischargeDepth := 6) [*]

@[simp] theorem cfgAdmit_frame (n : Nat) (s : State) :
    (cfgAdmit n s).env = s.env ∧ (cfgAdmit n s).jrn = s.jrn ∧ (cfgAdmit n s).err = s.err ∧ (cfgAdmit n s).ports = s.ports ∧
    (cfgAdmit n s).deck = s.deck ∧ (cfgAdmit n s).csn = s.csn ∧ (cfgAdmit n s).fl = s.fl ∧ (cfgAdmit n s).host = s.host ∧
    (cfgAdmit n s).fab = s.fab ∧ (cfgAdmit n s).img = s.img ∧ (cfgAdmit n s).rcd = s.rcd ∧ (cfgAdmit n s).pmc = s.pmc ∧
    (cfgAdmit n s).abt = s.abt ∧ (cfgAdmit n s).mode = s.mode ∧ (cfgAdmit n s).key = s.key ∧ (cfgAdmit n s).sb = s.sb ∧
    (cfgAdmit n s).pending = s.pending := by
  unfold cfgAdmit
  (repeat' split) <;> (try simp -implicitDefEqProofs (maxDischargeDepth := 6)) <;> (repeat' split) <;> simp -implicitDefEqProofs (maxDischargeDepth := 6)

def Foot.cfgAdmit : List Reg := [.ENG_STAT]

@[simp] theorem cfgAdmit_rd (n : Nat) (s : State) (reg : Reg) (rix : Nat) (hav : avoids Foot.cfgAdmit reg = true) :
    (cfgAdmit n s).rd reg rix = s.rd reg rix := by
  have c0 : avoids Foot.offer reg = true := avoids_mono (by decide) hav
  unfold cfgAdmit
  (repeat' split) <;> (try simp -implicitDefEqProofs (maxDischargeDepth := 6) [*]) <;> (repeat' split) <;> simp -implicitDefEqProofs (maxDischargeDepth := 6) [*]

@[simp] theorem cfgArrive_frame (r : CfgReq) (s : State) :
    (cfgArrive r s).env = s.env ∧ (cfgArrive r s).jrn = s.jrn ∧ (cfgArrive r s).err = s.err ∧
    (cfgArrive r s).ports = s.ports ∧ (cfgArrive r s).deck = s.deck ∧ (cfgArrive r s).csn = s.csn ∧
    (cfgArrive r s).fl = s.fl ∧ (cfgArrive r s).host = s.host ∧ (cfgArrive r s).fab = s.fab ∧ (cfgArrive r s).img = s.img ∧
    (cfgArrive r s).rcd = s.rcd ∧ (cfgArrive r s).pmc = s.pmc ∧ (cfgArrive r s).abt = s.abt ∧
    (cfgArrive r s).mode = s.mode ∧ (cfgArrive r s).key = s.key ∧ (cfgArrive r s).sb = s.sb ∧
    (cfgArrive r s).pending = s.pending := by
  unfold cfgArrive
  (repeat' split) <;> simp -implicitDefEqProofs (maxDischargeDepth := 6)

def Foot.cfgArrive : List Reg := [.ENG_STAT]

@[simp] theorem cfgArrive_rd (r : CfgReq) (s : State) (reg : Reg) (rix : Nat) (hav : avoids Foot.cfgArrive reg = true) :
    (cfgArrive r s).rd reg rix = s.rd reg rix := by
  have c0 : avoids Foot.cfgAdmit reg = true := avoids_mono (by decide) hav
  unfold cfgArrive
  (repeat' split) <;> simp -implicitDefEqProofs (maxDischargeDepth := 6) [*]

@[simp] theorem sendReady_frame (v : Nat) (s : State) :
    (sendReady v s).env = s.env ∧ (sendReady v s).jrn = s.jrn ∧ (sendReady v s).csn = s.csn ∧ (sendReady v s).fl = s.fl ∧
    (sendReady v s).host = s.host ∧ (sendReady v s).fab = s.fab ∧ (sendReady v s).eng = s.eng ∧
    (sendReady v s).img = s.img ∧ (sendReady v s).rcd = s.rcd ∧ (sendReady v s).pmc = s.pmc ∧ (sendReady v s).abt = s.abt ∧
    (sendReady v s).mode = s.mode ∧ (sendReady v s).key = s.key ∧ (sendReady v s).sb = s.sb ∧
    (sendReady v s).pending = s.pending := by
  unfold sendReady
  (repeat' split) <;> simp -implicitDefEqProofs (maxDischargeDepth := 6)

def Foot.sendReady : List Reg := [.PIR_BUFEXP, .PIR_BUFOCC, .PIR_CPLTRK, .PIR_ERRCNT2, .PIR_EXPMON, .PIR_FBPORT]

@[simp] theorem sendReady_rd (v : Nat) (s : State) (reg : Reg) (rix : Nat) (hav : avoids Foot.sendReady reg = true) :
    (sendReady v s).rd reg rix = s.rd reg rix := by
  have c0 : avoids Foot.inject reg = true := avoids_mono (by decide) hav
  unfold sendReady
  (repeat' split) <;> simp -implicitDefEqProofs (maxDischargeDepth := 6) [*]

@[simp] theorem refreshAllVs_frame (s : State) :
    (refreshAllVs s).jrn = s.jrn ∧ (refreshAllVs s).err = s.err ∧ (refreshAllVs s).ports = s.ports ∧
    (refreshAllVs s).deck = s.deck ∧ (refreshAllVs s).csn = s.csn ∧ (refreshAllVs s).fl = s.fl ∧
    (refreshAllVs s).host = s.host ∧ (refreshAllVs s).fab = s.fab ∧ (refreshAllVs s).eng = s.eng ∧
    (refreshAllVs s).img = s.img ∧ (refreshAllVs s).rcd = s.rcd ∧ (refreshAllVs s).pmc = s.pmc ∧
    (refreshAllVs s).abt = s.abt ∧ (refreshAllVs s).mode = s.mode ∧ (refreshAllVs s).key = s.key ∧
    (refreshAllVs s).sb = s.sb ∧ (refreshAllVs s).pending = s.pending := by
  unfold refreshAllVs
  (repeat' split) <;> simp -implicitDefEqProofs (maxDischargeDepth := 6)

def Foot.refreshAllVs : List Reg := [.GLB_VSSTAT]

@[simp] theorem refreshAllVs_rd (s : State) (reg : Reg) (rix : Nat) (hav : avoids Foot.refreshAllVs reg = true) :
    (refreshAllVs s).rd reg rix = s.rd reg rix := by
  have c0 : avoids Foot.refreshVs reg = true := avoids_mono (by decide) hav
  unfold refreshAllVs
  (repeat' split) <;> simp -implicitDefEqProofs (maxDischargeDepth := 6) [*]

@[simp] theorem releaseSlot_frame (p : Nat) (s : State) :
    (releaseSlot p s).env = s.env ∧ (releaseSlot p s).jrn = s.jrn ∧ (releaseSlot p s).err = s.err ∧
    (releaseSlot p s).ports = s.ports ∧ (releaseSlot p s).deck = s.deck ∧ (releaseSlot p s).csn = s.csn ∧
    (releaseSlot p s).fl = s.fl ∧ (releaseSlot p s).host = s.host ∧ (releaseSlot p s).fab = s.fab ∧
    (releaseSlot p s).eng = s.eng ∧ (releaseSlot p s).img = s.img ∧ (releaseSlot p s).rcd = s.rcd ∧
    (releaseSlot p s).pmc = s.pmc ∧ (releaseSlot p s).abt = s.abt ∧ (releaseSlot p s).mode = s.mode ∧
    (releaseSlot p s).key = s.key ∧ (releaseSlot p s).sb = s.sb ∧ (releaseSlot p s).pending = s.pending := by
  unfold releaseSlot
  (repeat' split) <;> simp -implicitDefEqProofs (maxDischargeDepth := 6)

def Foot.releaseSlot : List Reg := [.GLB_SLOT]

@[simp] theorem releaseSlot_rd (p : Nat) (s : State) (reg : Reg) (rix : Nat) (hav : avoids Foot.releaseSlot reg = true) :
    (releaseSlot p s).rd reg rix = s.rd reg rix := by
  have f0 : reg ≠ F.GLB_SLOT_PERST.reg := avoids_ne (by decide) hav
  unfold releaseSlot
  (repeat' split) <;> simp -implicitDefEqProofs (maxDischargeDepth := 6) [*]

@[simp] theorem releaseSlots_frame (v : Nat) (s : State) :
    (releaseSlots v s).env = s.env ∧ (releaseSlots v s).jrn = s.jrn ∧ (releaseSlots v s).err = s.err ∧
    (releaseSlots v s).ports = s.ports ∧ (releaseSlots v s).deck = s.deck ∧ (releaseSlots v s).csn = s.csn ∧
    (releaseSlots v s).fl = s.fl ∧ (releaseSlots v s).host = s.host ∧ (releaseSlots v s).fab = s.fab ∧
    (releaseSlots v s).eng = s.eng ∧ (releaseSlots v s).img = s.img ∧ (releaseSlots v s).rcd = s.rcd ∧
    (releaseSlots v s).pmc = s.pmc ∧ (releaseSlots v s).abt = s.abt ∧ (releaseSlots v s).mode = s.mode ∧
    (releaseSlots v s).key = s.key ∧ (releaseSlots v s).sb = s.sb ∧ (releaseSlots v s).pending = s.pending := by
  unfold releaseSlots
  simp -implicitDefEqProofs (maxDischargeDepth := 6)

def Foot.releaseSlots : List Reg := [.GLB_SLOT]

@[simp] theorem releaseSlots_rd (v : Nat) (s : State) (reg : Reg) (rix : Nat) (hav : avoids Foot.releaseSlots reg = true) :
    (releaseSlots v s).rd reg rix = s.rd reg rix := by
  have c0 : avoids Foot.releaseSlot reg = true := avoids_mono (by decide) hav
  unfold releaseSlots
  simp -implicitDefEqProofs (maxDischargeDepth := 6) [*]

@[simp] theorem slotReport_frame (k bit : Nat) (s : State) :
    (slotReport k bit s).env = s.env ∧ (slotReport k bit s).jrn = s.jrn ∧ (slotReport k bit s).csn = s.csn ∧
    (slotReport k bit s).fl = s.fl ∧ (slotReport k bit s).img = s.img ∧ (slotReport k bit s).rcd = s.rcd ∧
    (slotReport k bit s).pmc = s.pmc ∧ (slotReport k bit s).abt = s.abt ∧ (slotReport k bit s).mode = s.mode ∧
    (slotReport k bit s).key = s.key ∧ (slotReport k bit s).sb = s.sb ∧ (slotReport k bit s).pending = s.pending := by
  unfold slotReport
  (repeat' split) <;> simp -implicitDefEqProofs (maxDischargeDepth := 6)

def Foot.slotReport : List Reg := [.ENG_STAT, .PIR_BUFEXP, .PIR_BUFOCC, .PIR_CPLTRK, .PIR_ERRCNT2, .PIR_EXPMON, .PIR_FBPORT]

@[simp] theorem slotReport_rd (k bit : Nat) (s : State) (reg : Reg) (rix : Nat) (hav : avoids Foot.slotReport reg = true) :
    (slotReport k bit s).rd reg rix = s.rd reg rix := by
  have c0 : avoids Foot.slotStatus reg = true := avoids_mono (by decide) hav
  have c1 : avoids Foot.slotNote reg = true := avoids_mono (by decide) hav
  unfold slotReport
  (repeat' split) <;> simp -implicitDefEqProofs (maxDischargeDepth := 6) [*]

@[simp] theorem ptmAnswer_frame (p v rid : Nat) (time : Option Nat) (s : State) :
    (ptmAnswer p v rid time s).env = s.env ∧ (ptmAnswer p v rid time s).jrn = s.jrn ∧
    (ptmAnswer p v rid time s).csn = s.csn ∧ (ptmAnswer p v rid time s).fl = s.fl ∧ (ptmAnswer p v rid time s).fab = s.fab ∧
    (ptmAnswer p v rid time s).eng = s.eng ∧ (ptmAnswer p v rid time s).img = s.img ∧
    (ptmAnswer p v rid time s).rcd = s.rcd ∧ (ptmAnswer p v rid time s).pmc = s.pmc ∧
    (ptmAnswer p v rid time s).abt = s.abt ∧ (ptmAnswer p v rid time s).mode = s.mode ∧
    (ptmAnswer p v rid time s).key = s.key ∧ (ptmAnswer p v rid time s).sb = s.sb ∧
    (ptmAnswer p v rid time s).pending = s.pending := by
  unfold ptmAnswer
  (repeat' split) <;> simp -implicitDefEqProofs (maxDischargeDepth := 6)

def Foot.ptmAnswer : List Reg := [.PIR_BUFEXP, .PIR_BUFOCC, .PIR_CPLTRK, .PIR_ERRCNT2, .PIR_EXPMON, .PIR_FBPORT]

@[simp] theorem ptmAnswer_rd (p v rid : Nat) (time : Option Nat) (s : State) (reg : Reg) (rix : Nat) (hav : avoids Foot.ptmAnswer reg = true) :
    (ptmAnswer p v rid time s).rd reg rix = s.rd reg rix := by
  have c0 : avoids Foot.inject reg = true := avoids_mono (by decide) hav
  unfold ptmAnswer
  (repeat' split) <;> simp -implicitDefEqProofs (maxDischargeDepth := 6) [*]

@[simp] theorem ptmAsk_frame (v : Nat) (s : State) :
    (ptmAsk v s).env = s.env ∧ (ptmAsk v s).jrn = s.jrn ∧ (ptmAsk v s).csn = s.csn ∧ (ptmAsk v s).fl = s.fl ∧
    (ptmAsk v s).fab = s.fab ∧ (ptmAsk v s).eng = s.eng ∧ (ptmAsk v s).img = s.img ∧ (ptmAsk v s).rcd = s.rcd ∧
    (ptmAsk v s).pmc = s.pmc ∧ (ptmAsk v s).abt = s.abt ∧ (ptmAsk v s).mode = s.mode ∧ (ptmAsk v s).key = s.key ∧
    (ptmAsk v s).sb = s.sb ∧ (ptmAsk v s).pending = s.pending := by
  unfold ptmAsk
  (repeat' split) <;> simp -implicitDefEqProofs (maxDischargeDepth := 6)

def Foot.ptmAsk : List Reg := [.PIR_BUFEXP, .PIR_BUFOCC, .PIR_CPLTRK, .PIR_ERRCNT2, .PIR_EXPMON, .PIR_FBPORT]

@[simp] theorem ptmAsk_rd (v : Nat) (s : State) (reg : Reg) (rix : Nat) (hav : avoids Foot.ptmAsk reg = true) :
    (ptmAsk v s).rd reg rix = s.rd reg rix := by
  have c0 : avoids Foot.inject reg = true := avoids_mono (by decide) hav
  unfold ptmAsk
  (repeat' split) <;> simp -implicitDefEqProofs (maxDischargeDepth := 6) [*]

@[simp] theorem ptmResponse_frame (v : Nat) (t : Tlp) (s : State) :
    (ptmResponse v t s).env = s.env ∧ (ptmResponse v t s).jrn = s.jrn ∧ (ptmResponse v t s).err = s.err ∧
    (ptmResponse v t s).ports = s.ports ∧ (ptmResponse v t s).deck = s.deck ∧ (ptmResponse v t s).csn = s.csn ∧
    (ptmResponse v t s).fl = s.fl ∧ (ptmResponse v t s).fab = s.fab ∧ (ptmResponse v t s).eng = s.eng ∧
    (ptmResponse v t s).img = s.img ∧ (ptmResponse v t s).rcd = s.rcd ∧ (ptmResponse v t s).pmc = s.pmc ∧
    (ptmResponse v t s).abt = s.abt ∧ (ptmResponse v t s).mode = s.mode ∧ (ptmResponse v t s).key = s.key ∧
    (ptmResponse v t s).sb = s.sb ∧ (ptmResponse v t s).pending = s.pending := by
  unfold ptmResponse
  (repeat' split) <;> simp -implicitDefEqProofs (maxDischargeDepth := 6)

def Foot.ptmResponse : List Reg := []

@[simp] theorem ptmResponse_rd (v : Nat) (t : Tlp) (s : State) (reg : Reg) (rix : Nat) (hav : avoids Foot.ptmResponse reg = true) :
    (ptmResponse v t s).rd reg rix = s.rd reg rix := by
  unfold ptmResponse
  (repeat' split) <;> simp -implicitDefEqProofs (maxDischargeDepth := 6) [*]

end Sys2Proof.Machine
end

