-- ==== Sys2Proof/Laws/FramesE.lean ====
section
/-! SUPPORT. The frames of the operations of the single families: the pieces of state each leaves alone, and the registers it may write (`Foot`). -/

set_option maxRecDepth 3000
set_option linter.all false

namespace Sys2Proof.Machine

/-- The keeper reads without a trace. -/
@[simp] theorem regRead_keeper (off : Nat) (s : State) : (regRead .keeper off s).2.2 = s := by
  unfold regRead regReadIn
  simp only [slot129, originKey, recordAccess, Origin.accIdx]
  simp only [Bool.not_true, Bool.false_eq_true, if_false]
  (repeat' split) <;> rfl

@[simp] theorem listWords_state (t : Nat) (s : State) : (listWords t s).2.2 = s := by
  unfold listWords
  generalize List.range (min 64 (s.f F.REC_TRGCFG_WORDS t)) = l
  have h (a : List Word × Nat × State) (l : List Nat) : (l.foldl (fun a i => listWord t i a) a).2.2 = a.2.2 := by
    induction l generalizing a with
    | nil => rfl
    | cons x l ih =>
      rw [List.foldl_cons, ih]
      unfold listWord
      dsimp only
      split <;> exact regRead_keeper _ _
  exact h _ l

/-- An intrinsic does nothing outside a running handler; else its status is kept with what it does. -/
theorem intrinsic_cases (g : EngId) (f : QEv → State → Nat × State) (s : State) : intrinsic g f s = s ∨
    ∃ q, intrinsic g f s =
      { (f q s).2 with eng.lastStatus := SMap.put 0 (f q s).2.eng.lastStatus g.val (f q s).1 } := by
  unfold intrinsic
  split
  · split
    · exact .inl rfl
    · exact .inr ⟨_, rfl⟩
  · exact .inl rfl

/-- A sideband command is not answered, turned away, discarded, or counted and carried out. -/
theorem sbCommand_cases (n : Nat) (x : SbTx) (f : State → State) (s : State) : sbCommand n x f s = s ∨
    sbCommand n x f s = s.satf F.GLB_SBSTAT_NACKS 0 1 ∨
    sbCommand n x f s = sbSet sbPec 0 (s.satf F.GLB_SBSTAT_PECERR 0 1) ∨
    sbCommand n x f s = sbSet sbFormat 0 s ∨
    sbCommand n x f s = f { s with sb.count := (s.sb.count + 1) % 256 } := by
  unfold sbCommand
  (repeat' split) <;> simp

/-- A PMBus command of a disabled view does nothing. -/
theorem pmb_cases (f : State → State) (s : State) : pmb f s = s ∨ pmb f s = f s := by
  unfold pmb
  split <;> simp

/-- An event of a live replacement in another state does nothing. -/
theorem inLive_cases (st : Nat) (f : Live → Nat → State → State) (s : State) : inLive st f s = s ∨
    ∃ l n, inLive st f s = f l n s := by
  unfold inLive
  split
  · split
    · exact .inr ⟨_, _, rfl⟩
    · exact .inl rfl
  · exact .inl rfl

@[simp] theorem batchSubmit_frame (org : Origin) (q : Nat) (l : List (List Byte)) (n : Nat) (s : State) :
    ((batchSubmit org q l n s)).1.csn = s.csn ∧ ((batchSubmit org q l n s)).1.fl = s.fl ∧
    ((batchSubmit org q l n s)).1.fab = s.fab ∧ ((batchSubmit org q l n s)).1.img = s.img ∧
    ((batchSubmit org q l n s)).1.abt = s.abt ∧ ((batchSubmit org q l n s)).1.mode = s.mode ∧
    ((batchSubmit org q l n s)).1.key = s.key ∧ ((batchSubmit org q l n s)).1.sb = s.sb ∧
    ((batchSubmit org q l n s)).1.pending = s.pending := by
  induction l generalizing s n with
  | nil => simp [batchSubmit]
  | cons x l ih =>
    unfold batchSubmit
    split <;> simp -implicitDefEqProofs [ih]

def Foot.batchSubmit : List Reg := [.ENG_STAT, .JNL_HEAD, .JNL_STAT, .JNL_TAIL, .PIR_BUFEXP, .PIR_BUFOCC, .PIR_CPLTRK, .PIR_ERRCNT2, .PIR_EXPMON, .PIR_FBPORT, .PMC_BSTAT, .PMC_CNT, .PMC_STAT, .REC_TRGCFG, .REC_TRGCNT]

@[simp] theorem batchSubmit_rd (org : Origin) (q : Nat) (l : List (List Byte)) (n : Nat) (s : State) (reg : Reg) (rix : Nat) (hav : avoids Foot.batchSubmit reg = true) :
    ((batchSubmit org q l n s)).1.rd reg rix = s.rd reg rix := by
  have c0 : avoids Foot.acceptCmd reg = true := avoids_mono (by decide) hav
  induction l generalizing s n with
  | nil => simp [batchSubmit]
  | cons x l ih =>
    unfold batchSubmit
    split <;> simp -implicitDefEqProofs [ih, *]

@[simp] theorem dmaReadDone_frame (v : Nat) (j : DmaJob) (s : State) :
    (dmaReadDone v j s).csn = s.csn ∧ (dmaReadDone v j s).fl = s.fl ∧ (dmaReadDone v j s).fab = s.fab ∧
    (dmaReadDone v j s).abt = s.abt ∧ (dmaReadDone v j s).mode = s.mode ∧ (dmaReadDone v j s).sb = s.sb ∧
    (dmaReadDone v j s).pending = s.pending := by
  unfold dmaReadDone
  (repeat' split) <;> (try simp -implicitDefEqProofs (maxDischargeDepth := 6)) <;> (repeat' split) <;> simp -implicitDefEqProofs (maxDischargeDepth := 6)

def Foot.dmaReadDone : List Reg := [.ENG_STAT, .GLB_BANKSTAT, .GLB_DMASTAT, .JNL_CMDRES, .JNL_HEAD, .JNL_STAT, .JNL_TAIL, .KEY_NONCE, .KEY_SLOT, .KEY_SLOTHASH, .KEY_STAT, .PIR_BUFEXP, .PIR_BUFOCC, .PIR_CPLTRK, .PIR_ERRCNT2, .PIR_EXPMON, .PIR_FBPORT, .PMC_BSTAT, .PMC_CNT, .PMC_STAT, .REC_TRGCFG, .REC_TRGCNT]

@[simp] theorem dmaReadDone_rd (v : Nat) (j : DmaJob) (s : State) (reg : Reg) (rix : Nat) (hav : avoids Foot.dmaReadDone reg = true) :
    (dmaReadDone v j s).rd reg rix = s.rd reg rix := by
  have c0 : avoids Foot.setBank reg = true := avoids_mono (by decide) hav
  have c1 : avoids Foot.bankTouched reg = true := avoids_mono (by decide) hav
  have c2 : avoids Foot.endCmd reg = true := avoids_mono (by decide) hav
  have c3 : avoids Foot.okCmd reg = true := avoids_mono (by decide) hav
  have c4 : avoids Foot.dmaClear reg = true := avoids_mono (by decide) hav
  have c5 : avoids Foot.dmaNext reg = true := avoids_mono (by decide) hav
  have c6 : avoids Foot.batchSubmit reg = true := avoids_mono (by decide) hav
  unfold dmaReadDone
  (repeat' split) <;> (try simp -implicitDefEqProofs (maxDischargeDepth := 6) [*]) <;> (repeat' split) <;> simp -implicitDefEqProofs (maxDischargeDepth := 6) [*]

@[simp] theorem dmaCpl_frame (v : Nat) (t : Tlp) (s : State) :
    (dmaCpl v t s).csn = s.csn ∧ (dmaCpl v t s).fl = s.fl ∧ (dmaCpl v t s).fab = s.fab ∧ (dmaCpl v t s).abt = s.abt ∧
    (dmaCpl v t s).mode = s.mode ∧ (dmaCpl v t s).sb = s.sb ∧ (dmaCpl v t s).pending = s.pending := by
  unfold dmaCpl
  (repeat' split) <;> simp -implicitDefEqProofs (maxDischargeDepth := 6)

def Foot.dmaCpl : List Reg := [.ENG_STAT, .GLB_BANKSTAT, .GLB_DMASTAT, .JNL_CMDRES, .JNL_HEAD, .JNL_STAT, .JNL_TAIL, .KEY_NONCE, .KEY_SLOT, .KEY_SLOTHASH, .KEY_STAT, .PIR_BUFEXP, .PIR_BUFOCC, .PIR_CPLTRK, .PIR_ERRCNT2, .PIR_EXPMON, .PIR_FBPORT, .PMC_BSTAT, .PMC_CNT, .PMC_STAT, .REC_TRGCFG, .REC_TRGCNT]

@[simp] theorem dmaCpl_rd (v : Nat) (t : Tlp) (s : State) (reg : Reg) (rix : Nat) (hav : avoids Foot.dmaCpl reg = true) :
    (dmaCpl v t s).rd reg rix = s.rd reg rix := by
  have c1 : avoids Foot.setJob reg = true := avoids_mono (by decide) hav
  have c2 : avoids Foot.dmaPump reg = true := avoids_mono (by decide) hav
  have c3 : avoids Foot.dmaAbort reg = true := avoids_mono (by decide) hav
  have c4 : avoids Foot.dmaReadDone reg = true := avoids_mono (by decide) hav
  unfold dmaCpl
  (repeat' split) <;> simp -implicitDefEqProofs (maxDischargeDepth := 6) [*]

@[simp] theorem turnOffAck_frame (v : Nat) (s : State) :
    (turnOffAck v s).env = s.env ∧ (turnOffAck v s).jrn = s.jrn ∧ (turnOffAck v s).csn = s.csn ∧
    (turnOffAck v s).fl = s.fl ∧ (turnOffAck v s).fab = s.fab ∧ (turnOffAck v s).eng = s.eng ∧
    (turnOffAck v s).img = s.img ∧ (turnOffAck v s).rcd = s.rcd ∧ (turnOffAck v s).pmc = s.pmc ∧
    (turnOffAck v s).abt = s.abt ∧ (turnOffAck v s).mode = s.mode ∧ (turnOffAck v s).key = s.key ∧
    (turnOffAck v s).sb = s.sb ∧ (turnOffAck v s).pending = s.pending := by
  unfold turnOffAck
  (repeat' split) <;> simp -implicitDefEqProofs (maxDischargeDepth := 6)

def Foot.turnOffAck : List Reg := [.PIR_BUFEXP, .PIR_BUFOCC, .PIR_CPLTRK, .PIR_ERRCNT2, .PIR_EXPMON, .PIR_FBPORT]

@[simp] theorem turnOffAck_rd (v : Nat) (s : State) (reg : Reg) (rix : Nat) (hav : avoids Foot.turnOffAck reg = true) :
    (turnOffAck v s).rd reg rix = s.rd reg rix := by
  have c0 : avoids Foot.inject reg = true := avoids_mono (by decide) hav
  unfold turnOffAck
  (repeat' split) <;> simp -implicitDefEqProofs (maxDischargeDepth := 6) [*]

@[simp] theorem linkMsg_frame (p : Nat) (t : Tlp) (s : State) :
    ((linkMsg p t s)).1.env = s.env ∧ ((linkMsg p t s)).1.jrn = s.jrn ∧ ((linkMsg p t s)).1.csn = s.csn ∧
    ((linkMsg p t s)).1.fl = s.fl ∧ ((linkMsg p t s)).1.fab = s.fab ∧ ((linkMsg p t s)).1.eng = s.eng ∧
    ((linkMsg p t s)).1.img = s.img ∧ ((linkMsg p t s)).1.rcd = s.rcd ∧ ((linkMsg p t s)).1.pmc = s.pmc ∧
    ((linkMsg p t s)).1.abt = s.abt ∧ ((linkMsg p t s)).1.mode = s.mode ∧ ((linkMsg p t s)).1.key = s.key ∧
    ((linkMsg p t s)).1.sb = s.sb ∧ ((linkMsg p t s)).1.pending = s.pending := by
  unfold linkMsg
  (repeat' split) <;> simp -implicitDefEqProofs (maxDischargeDepth := 6)

def Foot.linkMsg : List Reg := [.PIR_BUFEXP, .PIR_BUFOCC, .PIR_CPLTRK, .PIR_ERRCNT2, .PIR_EXPMON, .PIR_FBPORT]

@[simp] theorem linkMsg_rd (p : Nat) (t : Tlp) (s : State) (reg : Reg) (rix : Nat) (hav : avoids Foot.linkMsg reg = true) :
    ((linkMsg p t s)).1.rd reg rix = s.rd reg rix := by
  have c0 : avoids Foot.ptmResponse reg = true := avoids_mono (by decide) hav
  have c1 : avoids Foot.turnOffAck reg = true := avoids_mono (by decide) hav
  unfold linkMsg
  (repeat' split) <;> simp -implicitDefEqProofs (maxDischargeDepth := 6) [*]

@[simp] theorem sbSet_frame (st : Nat) (data : Word) (s : State) :
    (sbSet st data s).env = s.env ∧ (sbSet st data s).jrn = s.jrn ∧ (sbSet st data s).err = s.err ∧
    (sbSet st data s).ports = s.ports ∧ (sbSet st data s).deck = s.deck ∧ (sbSet st data s).csn = s.csn ∧
    (sbSet st data s).fl = s.fl ∧ (sbSet st data s).host = s.host ∧ (sbSet st data s).fab = s.fab ∧
    (sbSet st data s).eng = s.eng ∧ (sbSet st data s).img = s.img ∧ (sbSet st data s).rcd = s.rcd ∧
    (sbSet st data s).pmc = s.pmc ∧ (sbSet st data s).abt = s.abt ∧ (sbSet st data s).mode = s.mode ∧
    (sbSet st data s).key = s.key ∧ (sbSet st data s).pending = s.pending := by
  unfold sbSet
  (repeat' split) <;> simp -implicitDefEqProofs (maxDischargeDepth := 6)

def Foot.sbSet : List Reg := [.GLB_SBSTAT]

@[simp] theorem sbSet_rd (st : Nat) (data : Word) (s : State) (reg : Reg) (rix : Nat) (hav : avoids Foot.sbSet reg = true) :
    (sbSet st data s).rd reg rix = s.rd reg rix := by
  have f0 : reg ≠ F.GLB_SBSTAT_LAST.reg := avoids_ne (by decide) hav
  unfold sbSet
  (repeat' split) <;> simp -implicitDefEqProofs (maxDischargeDepth := 6) [*]

@[simp] theorem mctpSend_frame (v : Nat) (tgt : MctpFrom) (body : List Byte) (s : State) :
    (mctpSend v tgt body s).env = s.env ∧ (mctpSend v tgt body s).jrn = s.jrn ∧ (mctpSend v tgt body s).csn = s.csn ∧
    (mctpSend v tgt body s).fl = s.fl ∧ (mctpSend v tgt body s).host = s.host ∧ (mctpSend v tgt body s).fab = s.fab ∧
    (mctpSend v tgt body s).eng = s.eng ∧ (mctpSend v tgt body s).img = s.img ∧ (mctpSend v tgt body s).rcd = s.rcd ∧
    (mctpSend v tgt body s).pmc = s.pmc ∧ (mctpSend v tgt body s).abt = s.abt ∧ (mctpSend v tgt body s).mode = s.mode ∧
    (mctpSend v tgt body s).key = s.key ∧ (mctpSend v tgt body s).sb = s.sb ∧ (mctpSend v tgt body s).pending = s.pending := by
  unfold mctpSend
  (repeat' split) <;> simp -implicitDefEqProofs (maxDischargeDepth := 6)

def Foot.mctpSend : List Reg := [.PIR_BUFEXP, .PIR_BUFOCC, .PIR_CPLTRK, .PIR_ERRCNT2, .PIR_EXPMON, .PIR_FBPORT]

@[simp] theorem mctpSend_rd (v : Nat) (tgt : MctpFrom) (body : List Byte) (s : State) (reg : Reg) (rix : Nat) (hav : avoids Foot.mctpSend reg = true) :
    (mctpSend v tgt body s).rd reg rix = s.rd reg rix := by
  have c0 : avoids Foot.mepSend reg = true := avoids_mono (by decide) hav
  unfold mctpSend
  (repeat' split) <;> simp -implicitDefEqProofs (maxDischargeDepth := 6) [*]

@[simp] theorem mctpReply_frame (v : Nat) (from_ : MctpFrom) (cmd cc : Nat) (data : List Byte) (s : State) :
    (mctpReply v from_ cmd cc data s).env = s.env ∧ (mctpReply v from_ cmd cc data s).jrn = s.jrn ∧
    (mctpReply v from_ cmd cc data s).csn = s.csn ∧ (mctpReply v from_ cmd cc data s).fl = s.fl ∧
    (mctpReply v from_ cmd cc data s).host = s.host ∧ (mctpReply v from_ cmd cc data s).fab = s.fab ∧
    (mctpReply v from_ cmd cc data s).eng = s.eng ∧ (mctpReply v from_ cmd cc data s).img = s.img ∧
    (mctpReply v from_ cmd cc data s).rcd = s.rcd ∧ (mctpReply v from_ cmd cc data s).pmc = s.pmc ∧
    (mctpReply v from_ cmd cc data s).abt = s.abt ∧ (mctpReply v from_ cmd cc data s).mode = s.mode ∧
    (mctpReply v from_ cmd cc data s).key = s.key ∧ (mctpReply v from_ cmd cc data s).sb = s.sb ∧
    (mctpReply v from_ cmd cc data s).pending = s.pending := by
  unfold mctpReply
  (repeat' split) <;> simp -implicitDefEqProofs (maxDischargeDepth := 6)

def Foot.mctpReply : List Reg := [.PIR_BUFEXP, .PIR_BUFOCC, .PIR_CPLTRK, .PIR_ERRCNT2, .PIR_EXPMON, .PIR_FBPORT]

@[simp] theorem mctpReply_rd (v : Nat) (from_ : MctpFrom) (cmd cc : Nat) (data : List Byte) (s : State) (reg : Reg) (rix : Nat) (hav : avoids Foot.mctpReply reg = true) :
    (mctpReply v from_ cmd cc data s).rd reg rix = s.rd reg rix := by
  have c0 : avoids Foot.mctpSend reg = true := avoids_mono (by decide) hav
  unfold mctpReply
  (repeat' split) <;> simp -implicitDefEqProofs (maxDischargeDepth := 6) [*]

@[simp] theorem errLast_frame (c num : Nat) (r : ErrRec) (s : State) :
    (errLast c num r s).env = s.env ∧ (errLast c num r s).jrn = s.jrn ∧ (errLast c num r s).err = s.err ∧
    (errLast c num r s).ports = s.ports ∧ (errLast c num r s).deck = s.deck ∧ (errLast c num r s).csn = s.csn ∧
    (errLast c num r s).fl = s.fl ∧ (errLast c num r s).host = s.host ∧ (errLast c num r s).fab = s.fab ∧
    (errLast c num r s).eng = s.eng ∧ (errLast c num r s).img = s.img ∧ (errLast c num r s).rcd = s.rcd ∧
    (errLast c num r s).pmc = s.pmc ∧ (errLast c num r s).abt = s.abt ∧ (errLast c num r s).mode = s.mode ∧
    (errLast c num r s).key = s.key ∧ (errLast c num r s).sb = s.sb ∧ (errLast c num r s).pending = s.pending := by
  unfold errLast
  (repeat' split) <;> simp -implicitDefEqProofs (maxDischargeDepth := 6)

def Foot.errLast : List Reg := [.GLB_ERRLAST]

@[simp] theorem errLast_rd (c num : Nat) (r : ErrRec) (s : State) (reg : Reg) (rix : Nat) (hav : avoids Foot.errLast reg = true) :
    (errLast c num r s).rd reg rix = s.rd reg rix := by
  have f0 : reg ≠ .GLB_ERRLAST := avoids_ne (by decide) hav
  unfold errLast
  (repeat' split) <;> simp -implicitDefEqProofs (maxDischargeDepth := 6) [*]

@[simp] theorem errAer_frame (r : ErrRec) (s : State) :
    (errAer r s).env = s.env ∧ (errAer r s).jrn = s.jrn ∧ (errAer r s).csn = s.csn ∧ (errAer r s).fl = s.fl ∧
    (errAer r s).fab = s.fab ∧ (errAer r s).eng = s.eng ∧ (errAer r s).img = s.img ∧ (errAer r s).rcd = s.rcd ∧
    (errAer r s).pmc = s.pmc ∧ (errAer r s).abt = s.abt ∧ (errAer r s).mode = s.mode ∧ (errAer r s).key = s.key ∧
    (errAer r s).sb = s.sb ∧ (errAer r s).pending = s.pending := by
  unfold errAer
  (repeat' split) <;> simp -implicitDefEqProofs (maxDischargeDepth := 6)

def Foot.errAer : List Reg := [.PIR_BUFEXP, .PIR_BUFOCC, .PIR_CPLTRK, .PIR_ERRCNT2, .PIR_EXPMON, .PIR_FBPORT]

@[simp] theorem errAer_rd (r : ErrRec) (s : State) (reg : Reg) (rix : Nat) (hav : avoids Foot.errAer reg = true) :
    (errAer r s).rd reg rix = s.rd reg rix := by
  have c0 : avoids Foot.aerUnc reg = true := avoids_mono (by decide) hav
  have c1 : avoids Foot.aerCor reg = true := avoids_mono (by decide) hav
  have c2 : avoids Foot.aerPort reg = true := avoids_mono (by decide) hav
  unfold errAer
  (repeat' split) <;> simp -implicitDefEqProofs (maxDischargeDepth := 6) [*]

@[simp] theorem keeperRecord_frame (r : ErrRec) (s : State) :
    (keeperRecord r s).csn = s.csn ∧ (keeperRecord r s).fl = s.fl ∧ (keeperRecord r s).fab = s.fab ∧
    (keeperRecord r s).img = s.img ∧ (keeperRecord r s).abt = s.abt ∧ (keeperRecord r s).mode = s.mode ∧
    (keeperRecord r s).key = s.key ∧ (keeperRecord r s).sb = s.sb ∧ (keeperRecord r s).pending = s.pending := by
  unfold keeperRecord
  (repeat' split) <;> (try simp -implicitDefEqProofs (maxDischargeDepth := 6)) <;> (repeat' split) <;> simp -implicitDefEqProofs (maxDischargeDepth := 6)

def Foot.keeperRecord : List Reg := [.ENG_STAT, .GLB_ERRLAST, .GLB_ERRSTAT, .JNL_HEAD, .JNL_TAIL, .PIR_BUFEXP, .PIR_BUFOCC, .PIR_CPLTRK, .PIR_ERRCNT2, .PIR_EXPMON, .PIR_FBPORT, .PMC_BSTAT, .PMC_CNT, .PMC_STAT, .REC_STAT, .REC_TRGCFG, .REC_TRGCNT]

@[simp] theorem keeperRecord_rd (r : ErrRec) (s : State) (reg : Reg) (rix : Nat) (hav : avoids Foot.keeperRecord reg = true) :
    (keeperRecord r s).rd reg rix = s.rd reg rix := by
  have c0 : avoids Foot.msixRaise reg = true := avoids_mono (by decide) hav
  have c1 : avoids Foot.offer reg = true := avoids_mono (by decide) hav
  have c2 : avoids Foot.flushStart reg = true := avoids_mono (by decide) hav
  have c3 : avoids Foot.trigEvent reg = true := avoids_mono (by decide) hav
  have c4 : avoids Foot.keeperEntry reg = true := avoids_mono (by decide) hav
  have c5 : avoids Foot.refreshAlert reg = true := avoids_mono (by decide) hav
  have c6 : avoids Foot.errLast reg = true := avoids_mono (by decide) hav
  have c7 : avoids Foot.errAer reg = true := avoids_mono (by decide) hav
  have f0 : reg ≠ F.GLB_ERRSTAT_SEEN.reg := avoids_ne (by decide) hav
  unfold keeperRecord
  (repeat' split) <;> (try simp -implicitDefEqProofs (maxDischargeDepth := 6) [*]) <;> (repeat' split) <;> simp -implicitDefEqProofs (maxDischargeDepth := 6) [*]

@[simp] theorem buildRecord_frame (b : RBuild) (s : State) :
    (buildRecord b s).csn = s.csn ∧ (buildRecord b s).fl = s.fl ∧ (buildRecord b s).img = s.img ∧
    (buildRecord b s).abt = s.abt ∧ (buildRecord b s).mode = s.mode ∧ (buildRecord b s).key = s.key ∧
    (buildRecord b s).sb = s.sb ∧ (buildRecord b s).pending = s.pending := by
  unfold buildRecord
  simp -implicitDefEqProofs (maxDischargeDepth := 6)

def Foot.buildRecord : List Reg := [.CLK_ACCADDR, .CLK_ACCSTAT, .ENG_STAT, .GTE_LOGE, .GTE_LOGSTAT, .JNL_HEAD, .JNL_TAIL, .PIR_BUFEXP, .PIR_BUFOCC, .PIR_CPLTRK, .PIR_ERRCNT2, .PIR_EXPMON, .PIR_FBPORT, .PMC_BSTAT, .PMC_CNT, .PMC_STAT, .REC_RLINE, .REC_RSEQ, .REC_STAT, .REC_TRGCFG, .REC_TRGCNT]

@[simp] theorem buildRecord_rd (b : RBuild) (s : State) (reg : Reg) (rix : Nat) (hav : avoids Foot.buildRecord reg = true) :
    (buildRecord b s).rd reg rix = s.rd reg rix := by
  have c0 : avoids Foot.flushStart reg = true := avoids_mono (by decide) hav
  have c1 : avoids Foot.putRecord reg = true := avoids_mono (by decide) hav
  have f0 : reg ≠ F.REC_TRGCNT_RECORDS.reg := avoids_ne (by decide) hav
  unfold buildRecord
  simp -implicitDefEqProofs (maxDischargeDepth := 6) [*]

@[simp] theorem endFlush_frame (s : State) :
    (endFlush s).env = s.env ∧ (endFlush s).jrn = s.jrn ∧ (endFlush s).err = s.err ∧ (endFlush s).ports = s.ports ∧
    (endFlush s).deck = s.deck ∧ (endFlush s).csn = s.csn ∧ (endFlush s).fl = s.fl ∧ (endFlush s).host = s.host ∧
    (endFlush s).fab = s.fab ∧ (endFlush s).eng = s.eng ∧ (endFlush s).img = s.img ∧ (endFlush s).pmc = s.pmc ∧
    (endFlush s).abt = s.abt ∧ (endFlush s).mode = s.mode ∧ (endFlush s).key = s.key ∧ (endFlush s).sb = s.sb ∧
    (endFlush s).pending = s.pending := by
  unfold endFlush
  (repeat' split) <;> simp -implicitDefEqProofs (maxDischargeDepth := 6)

def Foot.endFlush : List Reg := [.REC_STAT]

@[simp] theorem endFlush_rd (s : State) (reg : Reg) (rix : Nat) (hav : avoids Foot.endFlush reg = true) :
    (endFlush s).rd reg rix = s.rd reg rix := by
  have f0 : reg ≠ F.REC_STAT_FLUSH_BUSY.reg := avoids_ne (by decide) hav
  unfold endFlush
  (repeat' split) <;> simp -implicitDefEqProofs (maxDischargeDepth := 6) [*]

@[simp] theorem setCycles_frame (b v : Nat) (s : State) :
    (setCycles b v s).env = s.env ∧ (setCycles b v s).jrn = s.jrn ∧ (setCycles b v s).err = s.err ∧
    (setCycles b v s).ports = s.ports ∧ (setCycles b v s).deck = s.deck ∧ (setCycles b v s).csn = s.csn ∧
    (setCycles b v s).fl = s.fl ∧ (setCycles b v s).host = s.host ∧ (setCycles b v s).fab = s.fab ∧
    (setCycles b v s).eng = s.eng ∧ (setCycles b v s).img = s.img ∧ (setCycles b v s).rcd = s.rcd ∧
    (setCycles b v s).abt = s.abt ∧ (setCycles b v s).mode = s.mode ∧ (setCycles b v s).key = s.key ∧
    (setCycles b v s).sb = s.sb ∧ (setCycles b v s).pending = s.pending := by
  unfold setCycles
  (repeat' split) <;> simp -implicitDefEqProofs (maxDischargeDepth := 6)

def Foot.setCycles : List Reg := []

@[simp] theorem setCycles_rd (b v : Nat) (s : State) (reg : Reg) (rix : Nat) (hav : avoids Foot.setCycles reg = true) :
    (setCycles b v s).rd reg rix = s.rd reg rix := by
  unfold setCycles
  (repeat' split) <;> simp -implicitDefEqProofs (maxDischargeDepth := 6) [*]

@[simp] theorem blockSnap_frame (b : Nat) (s : State) :
    (blockSnap b s).env = s.env ∧ (blockSnap b s).jrn = s.jrn ∧ (blockSnap b s).err = s.err ∧
    (blockSnap b s).ports = s.ports ∧ (blockSnap b s).deck = s.deck ∧ (blockSnap b s).csn = s.csn ∧
    (blockSnap b s).fl = s.fl ∧ (blockSnap b s).host = s.host ∧ (blockSnap b s).fab = s.fab ∧ (blockSnap b s).eng = s.eng ∧
    (blockSnap b s).img = s.img ∧ (blockSnap b s).rcd = s.rcd ∧ (blockSnap b s).pmc = s.pmc ∧ (blockSnap b s).abt = s.abt ∧
    (blockSnap b s).mode = s.mode ∧ (blockSnap b s).key = s.key ∧ (blockSnap b s).sb = s.sb ∧
    (blockSnap b s).pending = s.pending := by
  unfold blockSnap
  (repeat' split) <;> simp -implicitDefEqProofs (maxDischargeDepth := 6)

def Foot.blockSnap : List Reg := [.PMC_BSTAT, .PMC_SCNT, .PMC_SCYC, .PMC_SOVF]

@[simp] theorem blockSnap_rd (b : Nat) (s : State) (reg : Reg) (rix : Nat) (hav : avoids Foot.blockSnap reg = true) :
    (blockSnap b s).rd reg rix = s.rd reg rix := by
  have f0 : reg ≠ F.PMC_BSTAT_SNAPID.reg := avoids_ne (by decide) hav
  have f1 : reg ≠ F.PMC_SOVF_OVF.reg := avoids_ne (by decide) hav
  have f2 : reg ≠ .PMC_SCNT := avoids_ne (by decide) hav
  have f3 : reg ≠ .PMC_SCYC := avoids_ne (by decide) hav
  unfold blockSnap
  (repeat' split) <;> simp -implicitDefEqProofs (maxDischargeDepth := 6) [*]

@[simp] theorem blockAct_frame (bits b : Nat) (s : State) :
    (blockAct bits b s).env = s.env ∧ (blockAct bits b s).jrn = s.jrn ∧ (blockAct bits b s).err = s.err ∧
    (blockAct bits b s).ports = s.ports ∧ (blockAct bits b s).deck = s.deck ∧ (blockAct bits b s).csn = s.csn ∧
    (blockAct bits b s).fl = s.fl ∧ (blockAct bits b s).host = s.host ∧ (blockAct bits b s).fab = s.fab ∧
    (blockAct bits b s).eng = s.eng ∧ (blockAct bits b s).img = s.img ∧ (blockAct bits b s).rcd = s.rcd ∧
    (blockAct bits b s).abt = s.abt ∧ (blockAct bits b s).mode = s.mode ∧ (blockAct bits b s).key = s.key ∧
    (blockAct bits b s).sb = s.sb ∧ (blockAct bits b s).pending = s.pending := by
  unfold blockAct
  (repeat' split) <;> simp -implicitDefEqProofs (maxDischargeDepth := 6)

def Foot.blockAct : List Reg := [.PMC_BSTAT, .PMC_CNT, .PMC_SCNT, .PMC_SCYC, .PMC_SOVF]

@[simp] theorem blockAct_rd (bits b : Nat) (s : State) (reg : Reg) (rix : Nat) (hav : avoids Foot.blockAct reg = true) :
    (blockAct bits b s).rd reg rix = s.rd reg rix := by
  have c0 : avoids Foot.setCycles reg = true := avoids_mono (by decide) hav
  have c1 : avoids Foot.blockSnap reg = true := avoids_mono (by decide) hav
  have f0 : reg ≠ F.PMC_BSTAT_OVF.reg := avoids_ne (by decide) hav
  have f1 : reg ≠ .PMC_CNT := avoids_ne (by decide) hav
  unfold blockAct
  (repeat' split) <;> simp -implicitDefEqProofs (maxDischargeDepth := 6) [*]

@[simp] theorem pmcAct_frame (bits : Nat) (s : State) :
    (pmcAct bits s).env = s.env ∧ (pmcAct bits s).jrn = s.jrn ∧ (pmcAct bits s).err = s.err ∧
    (pmcAct bits s).ports = s.ports ∧ (pmcAct bits s).deck = s.deck ∧ (pmcAct bits s).csn = s.csn ∧
    (pmcAct bits s).fl = s.fl ∧ (pmcAct bits s).host = s.host ∧ (pmcAct bits s).fab = s.fab ∧ (pmcAct bits s).eng = s.eng ∧
    (pmcAct bits s).img = s.img ∧ (pmcAct bits s).rcd = s.rcd ∧ (pmcAct bits s).abt = s.abt ∧
    (pmcAct bits s).mode = s.mode ∧ (pmcAct bits s).key = s.key ∧ (pmcAct bits s).sb = s.sb ∧
    (pmcAct bits s).pending = s.pending := by
  unfold pmcAct
  (repeat' split) <;> simp -implicitDefEqProofs (maxDischargeDepth := 6)

def Foot.pmcAct : List Reg := [.PMC_BSTAT, .PMC_CNT, .PMC_SCNT, .PMC_SCYC, .PMC_SOVF, .PMC_STAT]

@[simp] theorem pmcAct_rd (bits : Nat) (s : State) (reg : Reg) (rix : Nat) (hav : avoids Foot.pmcAct reg = true) :
    (pmcAct bits s).rd reg rix = s.rd reg rix := by
  have c0 : avoids Foot.blockAct reg = true := avoids_mono (by decide) hav
  have f0 : reg ≠ F.PMC_STAT_FROZEN.reg := avoids_ne (by decide) hav
  unfold pmcAct
  (repeat' split) <;> simp -implicitDefEqProofs (maxDischargeDepth := 6) [*]

@[simp] theorem enterHandler_frame (g num : Nat) (s : State) :
    (enterHandler g num s).jrn = s.jrn ∧ (enterHandler g num s).csn = s.csn ∧ (enterHandler g num s).fl = s.fl ∧
    (enterHandler g num s).fab = s.fab ∧ (enterHandler g num s).img = s.img ∧ (enterHandler g num s).abt = s.abt ∧
    (enterHandler g num s).mode = s.mode ∧ (enterHandler g num s).key = s.key ∧ (enterHandler g num s).sb = s.sb ∧
    (enterHandler g num s).pending = s.pending := by
  unfold enterHandler
  (repeat' split) <;> simp -implicitDefEqProofs (maxDischargeDepth := 6)

def Foot.enterHandler : List Reg := [.ENG_STAT, .PIR_BUFEXP, .PIR_BUFOCC, .PIR_CPLTRK, .PIR_ERRCNT2, .PIR_EXPMON, .PIR_FBPORT, .PMC_BSTAT, .PMC_CNT, .PMC_STAT, .REC_TRGCFG, .REC_TRGCNT]

@[simp] theorem enterHandler_rd (g num : Nat) (s : State) (reg : Reg) (rix : Nat) (hav : avoids Foot.enterHandler reg = true) :
    (enterHandler g num s).rd reg rix = s.rd reg rix := by
  have c0 : avoids Foot.count reg = true := avoids_mono (by decide) hav
  unfold enterHandler
  (repeat' split) <;> simp -implicitDefEqProofs (maxDischargeDepth := 6) [*]

@[simp] theorem noteApplied_frame (g : Nat) (done : Bool) (s : State) :
    (noteApplied g done s).env = s.env ∧ (noteApplied g done s).jrn = s.jrn ∧ (noteApplied g done s).err = s.err ∧
    (noteApplied g done s).ports = s.ports ∧ (noteApplied g done s).deck = s.deck ∧ (noteApplied g done s).csn = s.csn ∧
    (noteApplied g done s).fl = s.fl ∧ (noteApplied g done s).host = s.host ∧ (noteApplied g done s).fab = s.fab ∧
    (noteApplied g done s).img = s.img ∧ (noteApplied g done s).rcd = s.rcd ∧ (noteApplied g done s).pmc = s.pmc ∧
    (noteApplied g done s).abt = s.abt ∧ (noteApplied g done s).mode = s.mode ∧ (noteApplied g done s).key = s.key ∧
    (noteApplied g done s).sb = s.sb ∧ (noteApplied g done s).pending = s.pending := by
  unfold noteApplied
  (repeat' split) <;> simp -implicitDefEqProofs (maxDischargeDepth := 6)

def Foot.noteApplied : List Reg := []

@[simp] theorem noteApplied_rd (g : Nat) (done : Bool) (s : State) (reg : Reg) (rix : Nat) (hav : avoids Foot.noteApplied reg = true) :
    (noteApplied g done s).rd reg rix = s.rd reg rix := by
  unfold noteApplied
  (repeat' split) <;> simp -implicitDefEqProofs (maxDischargeDepth := 6) [*]

@[simp] theorem nextHandler_frame (g : Nat) (s : State) :
    (nextHandler g s).env = s.env ∧ (nextHandler g s).jrn = s.jrn ∧ (nextHandler g s).err = s.err ∧
    (nextHandler g s).ports = s.ports ∧ (nextHandler g s).deck = s.deck ∧ (nextHandler g s).csn = s.csn ∧
    (nextHandler g s).fl = s.fl ∧ (nextHandler g s).host = s.host ∧ (nextHandler g s).fab = s.fab ∧
    (nextHandler g s).img = s.img ∧ (nextHandler g s).rcd = s.rcd ∧ (nextHandler g s).pmc = s.pmc ∧
    (nextHandler g s).abt = s.abt ∧ (nextHandler g s).mode = s.mode ∧ (nextHandler g s).key = s.key ∧
    (nextHandler g s).sb = s.sb ∧ (nextHandler g s).pending = s.pending := by
  unfold nextHandler
  (repeat' split) <;> simp -implicitDefEqProofs (maxDischargeDepth := 6)

def Foot.nextHandler : List Reg := [.ENG_STAT]

@[simp] theorem nextHandler_rd (g : Nat) (s : State) (reg : Reg) (rix : Nat) (hav : avoids Foot.nextHandler reg = true) :
    (nextHandler g s).rd reg rix = s.rd reg rix := by
  have c0 : avoids Foot.selectNext reg = true := avoids_mono (by decide) hav
  unfold nextHandler
  (repeat' split) <;> simp -implicitDefEqProofs (maxDischargeDepth := 6) [*]

@[simp] theorem recordTrap_frame (g code : Nat) (pc : Word) (s : State) :
    (recordTrap g code pc s).env = s.env ∧ (recordTrap g code pc s).jrn = s.jrn ∧ (recordTrap g code pc s).err = s.err ∧
    (recordTrap g code pc s).ports = s.ports ∧ (recordTrap g code pc s).deck = s.deck ∧
    (recordTrap g code pc s).csn = s.csn ∧ (recordTrap g code pc s).fl = s.fl ∧ (recordTrap g code pc s).host = s.host ∧
    (recordTrap g code pc s).fab = s.fab ∧ (recordTrap g code pc s).eng = s.eng ∧ (recordTrap g code pc s).img = s.img ∧
    (recordTrap g code pc s).rcd = s.rcd ∧ (recordTrap g code pc s).pmc = s.pmc ∧ (recordTrap g code pc s).abt = s.abt ∧
    (recordTrap g code pc s).mode = s.mode ∧ (recordTrap g code pc s).key = s.key ∧ (recordTrap g code pc s).sb = s.sb ∧
    (recordTrap g code pc s).pending = s.pending := by
  unfold recordTrap
  (repeat' split) <;> simp -implicitDefEqProofs (maxDischargeDepth := 6)

def Foot.recordTrap : List Reg := [.ENG_TRAP, .ENG_TRAPPC]

@[simp] theorem recordTrap_rd (g code : Nat) (pc : Word) (s : State) (reg : Reg) (rix : Nat) (hav : avoids Foot.recordTrap reg = true) :
    (recordTrap g code pc s).rd reg rix = s.rd reg rix := by
  have f0 : reg ≠ F.ENG_TRAP_CAUSE.reg := avoids_ne (by decide) hav
  have f1 : reg ≠ F.ENG_TRAP_COUNT.reg := avoids_ne (by decide) hav
  have f2 : reg ≠ F.ENG_TRAP_FATAL.reg := avoids_ne (by decide) hav
  have f3 : reg ≠ F.ENG_TRAP_VALID.reg := avoids_ne (by decide) hav
  have f4 : reg ≠ .ENG_TRAPPC := avoids_ne (by decide) hav
  unfold recordTrap
  (repeat' split) <;> simp -implicitDefEqProofs (maxDischargeDepth := 6) [*]

@[simp] theorem trapEvent_frame (i : Inv) (s : State) :
    (trapEvent i s).csn = s.csn ∧ (trapEvent i s).fl = s.fl ∧ (trapEvent i s).fab = s.fab ∧ (trapEvent i s).img = s.img ∧
    (trapEvent i s).abt = s.abt ∧ (trapEvent i s).mode = s.mode ∧ (trapEvent i s).sb = s.sb ∧
    (trapEvent i s).pending = s.pending := by
  unfold trapEvent
  (repeat' split) <;> simp -implicitDefEqProofs (maxDischargeDepth := 6)

def Foot.trapEvent : List Reg := [.ENG_STAT, .JNL_CMDRES, .JNL_HEAD, .JNL_STAT, .JNL_TAIL, .KEY_NONCE, .KEY_SLOT, .KEY_SLOTHASH, .KEY_STAT, .PIR_BUFEXP, .PIR_BUFOCC, .PIR_CPLTRK, .PIR_ERRCNT2, .PIR_EXPMON, .PIR_FBPORT, .PMC_BSTAT, .PMC_CNT, .PMC_STAT, .REC_TRGCFG, .REC_TRGCNT]

@[simp] theorem trapEvent_rd (i : Inv) (s : State) (reg : Reg) (rix : Nat) (hav : avoids Foot.trapEvent reg = true) :
    (trapEvent i s).rd reg rix = s.rd reg rix := by
  have c0 : avoids Foot.failCmd reg = true := avoids_mono (by decide) hav
  have c1 : avoids Foot.cfgAbort reg = true := avoids_mono (by decide) hav
  unfold trapEvent
  (repeat' split) <;> simp -implicitDefEqProofs (maxDischargeDepth := 6) [*]

@[simp] theorem softTrap_frame (g : Nat) (i : Inv) (code : Nat) (s : State) :
    (softTrap g i code s).abt = s.abt ∧ (softTrap g i code s).sb = s.sb ∧ (softTrap g i code s).pending = s.pending := by
  unfold softTrap
  (repeat' split) <;> simp -implicitDefEqProofs (maxDischargeDepth := 6)

def Foot.softTrap : List Reg := [.CLK_ISLSTAT, .CSN_POOL, .CSN_PSPILL, .CSN_STAT, .ENG_CTL, .ENG_STAT, .GLB_DMASTAT, .GLB_ERRSTAT, .GLB_IMGERR, .GLB_IMGSTAT, .GLB_MODE, .GLB_PIERSTAT, .GLB_QSTAT, .GLB_SLOT, .GLB_VSSTAT, .JNL_CMDRES, .JNL_HEAD, .JNL_STAT, .JNL_TAIL, .KEY_NONCE, .KEY_SLOT, .KEY_SLOTHASH, .KEY_STAT, .PIR_BUFEXP, .PIR_BUFOCC, .PIR_CLOSE, .PIR_CPLTRK, .PIR_DUTY, .PIR_ERRCNT2, .PIR_EXPMON, .PIR_FBPORT, .PIR_PFCNT, .PMC_BSTAT, .PMC_CNT, .PMC_STAT, .PWD_STAT, .REC_PFSTAT, .REC_STAT, .REC_TRGCFG, .REC_TRGCNT, .SPN_CALSTAT, .SPN_COEF, .SPN_FLSTAT, .SPN_LANE, .SPN_PSTAT]

@[simp] theorem softTrap_rd (g : Nat) (i : Inv) (code : Nat) (s : State) (reg : Reg) (rix : Nat) (hav : avoids Foot.softTrap reg = true) :
    (softTrap g i code s).rd reg rix = s.rd reg rix := by
  have c0 : avoids Foot.pierClose reg = true := avoids_mono (by decide) hav
  have c1 : avoids Foot.liveFault reg = true := avoids_mono (by decide) hav
  have c2 : avoids Foot.engineFailed reg = true := avoids_mono (by decide) hav
  have c3 : avoids Foot.nextHandler reg = true := avoids_mono (by decide) hav
  have c4 : avoids Foot.trapEvent reg = true := avoids_mono (by decide) hav
  unfold softTrap
  (repeat' split) <;> simp -implicitDefEqProofs (maxDischargeDepth := 6) [*]

@[simp] theorem engValue_frame (g : EngId) (v : Nat) (s : State) :
    (engValue g v s).env = s.env ∧ (engValue g v s).jrn = s.jrn ∧ (engValue g v s).err = s.err ∧
    (engValue g v s).ports = s.ports ∧ (engValue g v s).deck = s.deck ∧ (engValue g v s).csn = s.csn ∧
    (engValue g v s).fl = s.fl ∧ (engValue g v s).host = s.host ∧ (engValue g v s).fab = s.fab ∧
    (engValue g v s).img = s.img ∧ (engValue g v s).rcd = s.rcd ∧ (engValue g v s).pmc = s.pmc ∧
    (engValue g v s).abt = s.abt ∧ (engValue g v s).mode = s.mode ∧ (engValue g v s).key = s.key ∧
    (engValue g v s).sb = s.sb ∧ (engValue g v s).pending = s.pending := by
  unfold engValue
  (repeat' split) <;> simp -implicitDefEqProofs (maxDischargeDepth := 6)

def Foot.engValue : List Reg := []

@[simp] theorem engValue_rd (g : EngId) (v : Nat) (s : State) (reg : Reg) (rix : Nat) (hav : avoids Foot.engValue reg = true) :
    (engValue g v s).rd reg rix = s.rd reg rix := by
  unfold engValue
  (repeat' split) <;> simp -implicitDefEqProofs (maxDischargeDepth := 6) [*]

@[simp] theorem EngTab.write_frame (t : EngTab) (n v : Nat) (s : State) :
    (EngTab.write t n v s).env = s.env ∧ (EngTab.write t n v s).jrn = s.jrn ∧ (EngTab.write t n v s).err = s.err ∧
    (EngTab.write t n v s).ports = s.ports ∧ (EngTab.write t n v s).deck = s.deck ∧ (EngTab.write t n v s).csn = s.csn ∧
    (EngTab.write t n v s).fl = s.fl ∧ (EngTab.write t n v s).img = s.img ∧ (EngTab.write t n v s).rcd = s.rcd ∧
    (EngTab.write t n v s).pmc = s.pmc ∧ (EngTab.write t n v s).abt = s.abt ∧ (EngTab.write t n v s).mode = s.mode ∧
    (EngTab.write t n v s).key = s.key ∧ (EngTab.write t n v s).sb = s.sb ∧ (EngTab.write t n v s).pending = s.pending := by
  unfold EngTab.write
  (repeat' split) <;> simp -implicitDefEqProofs (maxDischargeDepth := 6)

def Foot.EngTab_write : List Reg := []

@[simp] theorem EngTab.write_rd (t : EngTab) (n v : Nat) (s : State) (reg : Reg) (rix : Nat) (hav : avoids Foot.EngTab_write reg = true) :
    (EngTab.write t n v s).rd reg rix = s.rd reg rix := by
  have c0 : avoids Foot.cfgSet reg = true := avoids_mono (by decide) hav
  unfold EngTab.write
  (repeat' split) <;> simp -implicitDefEqProofs (maxDischargeDepth := 6) [*]

@[simp] theorem judgeBank_frame (b pier : Nat) (r : Option (Nat × Nat)) (s : State) :
    (judgeBank b pier r s).env = s.env ∧ (judgeBank b pier r s).jrn = s.jrn ∧ (judgeBank b pier r s).err = s.err ∧
    (judgeBank b pier r s).ports = s.ports ∧ (judgeBank b pier r s).deck = s.deck ∧ (judgeBank b pier r s).csn = s.csn ∧
    (judgeBank b pier r s).fl = s.fl ∧ (judgeBank b pier r s).host = s.host ∧ (judgeBank b pier r s).fab = s.fab ∧
    (judgeBank b pier r s).eng = s.eng ∧ (judgeBank b pier r s).img = s.img ∧ (judgeBank b pier r s).rcd = s.rcd ∧
    (judgeBank b pier r s).pmc = s.pmc ∧ (judgeBank b pier r s).abt = s.abt ∧ (judgeBank b pier r s).mode = s.mode ∧
    (judgeBank b pier r s).key = s.key ∧ (judgeBank b pier r s).sb = s.sb ∧ (judgeBank b pier r s).pending = s.pending := by
  unfold judgeBank
  (repeat' split) <;> simp -implicitDefEqProofs (maxDischargeDepth := 6)

def Foot.judgeBank : List Reg := [.GLB_BANKSTAT, .GLB_IMGERR]

@[simp] theorem judgeBank_rd (b pier : Nat) (r : Option (Nat × Nat)) (s : State) (reg : Reg) (rix : Nat) (hav : avoids Foot.judgeBank reg = true) :
    (judgeBank b pier r s).rd reg rix = s.rd reg rix := by
  have c0 : avoids Foot.imgErr reg = true := avoids_mono (by decide) hav
  have f0 : reg ≠ F.GLB_BANKSTAT_CODE.reg := avoids_ne (by decide) hav
  have f1 : reg ≠ F.GLB_BANKSTAT_SECVER.reg := avoids_ne (by decide) hav
  have f2 : reg ≠ F.GLB_BANKSTAT_STATE.reg := avoids_ne (by decide) hav
  unfold judgeBank
  (repeat' split) <;> simp -implicitDefEqProofs (maxDischargeDepth := 6) [*]

@[simp] theorem selectBank_frame (b ref : Nat) (s : State) :
    (selectBank b ref s).csn = s.csn ∧ (selectBank b ref s).fl = s.fl ∧ (selectBank b ref s).fab = s.fab ∧
    (selectBank b ref s).img = s.img ∧ (selectBank b ref s).abt = s.abt ∧ (selectBank b ref s).mode = s.mode ∧
    (selectBank b ref s).key = s.key ∧ (selectBank b ref s).sb = s.sb ∧ (selectBank b ref s).pending = s.pending := by
  unfold selectBank
  (repeat' split) <;> simp -implicitDefEqProofs (maxDischargeDepth := 6)

def Foot.selectBank : List Reg := [.ENG_STAT, .GLB_IMGSTAT, .JNL_HEAD, .JNL_TAIL, .PIR_BUFEXP, .PIR_BUFOCC, .PIR_CPLTRK, .PIR_ERRCNT2, .PIR_EXPMON, .PIR_FBPORT, .PMC_BSTAT, .PMC_CNT, .PMC_STAT, .REC_TRGCFG, .REC_TRGCNT]

@[simp] theorem selectBank_rd (b ref : Nat) (s : State) (reg : Reg) (rix : Nat) (hav : avoids Foot.selectBank reg = true) :
    (selectBank b ref s).rd reg rix = s.rd reg rix := by
  have c0 : avoids Foot.keeperEntry reg = true := avoids_mono (by decide) hav
  have f0 : reg ≠ F.GLB_IMGSTAT_ACTIVE.reg := avoids_ne (by decide) hav
  unfold selectBank
  (repeat' split) <;> simp -implicitDefEqProofs (maxDischargeDepth := 6) [*]

@[simp] theorem nextBank_frame (s : State) :
    (nextBank s).env = s.env ∧ (nextBank s).jrn = s.jrn ∧ (nextBank s).err = s.err ∧ (nextBank s).ports = s.ports ∧
    (nextBank s).deck = s.deck ∧ (nextBank s).csn = s.csn ∧ (nextBank s).fl = s.fl ∧ (nextBank s).host = s.host ∧
    (nextBank s).fab = s.fab ∧ (nextBank s).eng = s.eng ∧ (nextBank s).rcd = s.rcd ∧ (nextBank s).pmc = s.pmc ∧
    (nextBank s).abt = s.abt ∧ (nextBank s).mode = s.mode ∧ (nextBank s).key = s.key ∧ (nextBank s).sb = s.sb ∧
    (nextBank s).pending = s.pending := by
  unfold nextBank
  (repeat' split) <;> simp -implicitDefEqProofs (maxDischargeDepth := 6)

def Foot.nextBank : List Reg := [.GLB_IMGSTAT]

@[simp] theorem nextBank_rd (s : State) (reg : Reg) (rix : Nat) (hav : avoids Foot.nextBank reg = true) :
    (nextBank s).rd reg rix = s.rd reg rix := by
  have f0 : reg ≠ F.GLB_IMGSTAT_LOAD.reg := avoids_ne (by decide) hav
  unfold nextBank
  (repeat' split) <;> simp -implicitDefEqProofs (maxDischargeDepth := 6) [*]

@[simp] theorem startLoad_frame (s : State) :
    (startLoad s).env = s.env ∧ (startLoad s).jrn = s.jrn ∧ (startLoad s).err = s.err ∧ (startLoad s).ports = s.ports ∧
    (startLoad s).deck = s.deck ∧ (startLoad s).csn = s.csn ∧ (startLoad s).fl = s.fl ∧ (startLoad s).host = s.host ∧
    (startLoad s).fab = s.fab ∧ (startLoad s).eng = s.eng ∧ (startLoad s).rcd = s.rcd ∧ (startLoad s).pmc = s.pmc ∧
    (startLoad s).abt = s.abt ∧ (startLoad s).mode = s.mode ∧ (startLoad s).key = s.key ∧ (startLoad s).sb = s.sb ∧
    (startLoad s).pending = s.pending := by
  unfold startLoad
  (repeat' split) <;> simp -implicitDefEqProofs (maxDischargeDepth := 6)

def Foot.startLoad : List Reg := [.GLB_IMGSTAT]

@[simp] theorem startLoad_rd (s : State) (reg : Reg) (rix : Nat) (hav : avoids Foot.startLoad reg = true) :
    (startLoad s).rd reg rix = s.rd reg rix := by
  have c0 : avoids Foot.nextBank reg = true := avoids_mono (by decide) hav
  unfold startLoad
  (repeat' split) <;> simp -implicitDefEqProofs (maxDischargeDepth := 6) [*]

@[simp] theorem accept_frame (b : Nat) (s : State) :
    (accept b s).csn = s.csn ∧ (accept b s).fl = s.fl ∧ (accept b s).fab = s.fab ∧ (accept b s).abt = s.abt ∧
    (accept b s).key = s.key ∧ (accept b s).sb = s.sb ∧ (accept b s).pending = s.pending := by
  unfold accept
  (repeat' split) <;> simp -implicitDefEqProofs (maxDischargeDepth := 6)

def Foot.accept : List Reg := [.CLK_ISLSTAT, .ENG_STAT, .GLB_IMGSTAT, .JNL_HEAD, .JNL_TAIL, .PIR_BUFEXP, .PIR_BUFOCC, .PIR_CPLTRK, .PIR_ERRCNT2, .PIR_EXPMON, .PIR_FBPORT, .PMC_BSTAT, .PMC_CNT, .PMC_STAT, .PWD_STAT, .REC_TRGCFG, .REC_TRGCNT]

@[simp] theorem accept_rd (b : Nat) (s : State) (reg : Reg) (rix : Nat) (hav : avoids Foot.accept reg = true) :
    (accept b s).rd reg rix = s.rd reg rix := by
  have c0 : avoids Foot.powerOn reg = true := avoids_mono (by decide) hav
  have c1 : avoids Foot.selectBank reg = true := avoids_mono (by decide) hav
  have f0 : reg ≠ F.GLB_IMGSTAT_LOAD.reg := avoids_ne (by decide) hav
  unfold accept
  (repeat' split) <;> simp -implicitDefEqProofs (maxDischargeDepth := 6) [*]

@[simp] theorem commitLevels_frame (m : Image) (s : State) :
    (commitLevels m s).env = s.env ∧ (commitLevels m s).jrn = s.jrn ∧ (commitLevels m s).err = s.err ∧
    (commitLevels m s).ports = s.ports ∧ (commitLevels m s).deck = s.deck ∧ (commitLevels m s).csn = s.csn ∧
    (commitLevels m s).fl = s.fl ∧ (commitLevels m s).host = s.host ∧ (commitLevels m s).fab = s.fab ∧
    (commitLevels m s).eng = s.eng ∧ (commitLevels m s).img = s.img ∧ (commitLevels m s).rcd = s.rcd ∧
    (commitLevels m s).pmc = s.pmc ∧ (commitLevels m s).abt = s.abt ∧ (commitLevels m s).mode = s.mode ∧
    (commitLevels m s).key = s.key ∧ (commitLevels m s).pending = s.pending := by
  unfold commitLevels
  (repeat' split) <;> simp -implicitDefEqProofs (maxDischargeDepth := 6)

def Foot.commitLevels : List Reg := [.GLB_IOCFG]

@[simp] theorem commitLevels_rd (m : Image) (s : State) (reg : Reg) (rix : Nat) (hav : avoids Foot.commitLevels reg = true) :
    (commitLevels m s).rd reg rix = s.rd reg rix := by
  have f0 : reg ≠ F.GLB_IOCFG_LEVEL.reg := avoids_ne (by decide) hav
  have f1 : reg ≠ .GLB_IOCFG := avoids_ne (by decide) hav
  unfold commitLevels
  (repeat' split) <;> simp -implicitDefEqProofs (maxDischargeDepth := 6) [*]

@[simp] theorem commitKeep_frame (m : Image) (s : State) :
    (commitKeep m s).env = s.env ∧ (commitKeep m s).jrn = s.jrn ∧ (commitKeep m s).err = s.err ∧
    (commitKeep m s).ports = s.ports ∧ (commitKeep m s).deck = s.deck ∧ (commitKeep m s).csn = s.csn ∧
    (commitKeep m s).fl = s.fl ∧ (commitKeep m s).host = s.host ∧ (commitKeep m s).fab = s.fab ∧
    (commitKeep m s).eng = s.eng ∧ (commitKeep m s).img = s.img ∧ (commitKeep m s).rcd = s.rcd ∧
    (commitKeep m s).pmc = s.pmc ∧ (commitKeep m s).mode = s.mode ∧ (commitKeep m s).key = s.key ∧
    (commitKeep m s).pending = s.pending := by
  unfold commitKeep
  (repeat' split) <;> simp -implicitDefEqProofs (maxDischargeDepth := 6)

@[simp] theorem commitSet_frame (x : RegSet) (s : State) :
    (commitSet x s).env = s.env ∧ (commitSet x s).jrn = s.jrn ∧ (commitSet x s).err = s.err ∧
    (commitSet x s).ports = s.ports ∧ (commitSet x s).deck = s.deck ∧ (commitSet x s).csn = s.csn ∧
    (commitSet x s).fl = s.fl ∧ (commitSet x s).host = s.host ∧ (commitSet x s).fab = s.fab ∧ (commitSet x s).eng = s.eng ∧
    (commitSet x s).img = s.img ∧ (commitSet x s).rcd = s.rcd ∧ (commitSet x s).pmc = s.pmc ∧ (commitSet x s).abt = s.abt ∧
    (commitSet x s).mode = s.mode ∧ (commitSet x s).key = s.key ∧ (commitSet x s).sb = s.sb ∧
    (commitSet x s).pending = s.pending := by
  unfold commitSet
  (repeat' split) <;> simp -implicitDefEqProofs (maxDischargeDepth := 6)

@[simp] theorem shadowSet_frame (x : RegSet) (s : State) :
    (shadowSet x s).env = s.env ∧ (shadowSet x s).jrn = s.jrn ∧ (shadowSet x s).err = s.err ∧
    (shadowSet x s).ports = s.ports ∧ (shadowSet x s).deck = s.deck ∧ (shadowSet x s).csn = s.csn ∧
    (shadowSet x s).fl = s.fl ∧ (shadowSet x s).host = s.host ∧ (shadowSet x s).fab = s.fab ∧ (shadowSet x s).eng = s.eng ∧
    (shadowSet x s).rcd = s.rcd ∧ (shadowSet x s).pmc = s.pmc ∧ (shadowSet x s).abt = s.abt ∧
    (shadowSet x s).mode = s.mode ∧ (shadowSet x s).key = s.key ∧ (shadowSet x s).sb = s.sb ∧
    (shadowSet x s).pending = s.pending := by
  unfold shadowSet
  (repeat' split) <;> simp -implicitDefEqProofs (maxDischargeDepth := 6)

def Foot.shadowSet : List Reg := []

@[simp] theorem shadowSet_rd (x : RegSet) (s : State) (reg : Reg) (rix : Nat) (hav : avoids Foot.shadowSet reg = true) :
    (shadowSet x s).rd reg rix = s.rd reg rix := by
  unfold shadowSet
  (repeat' split) <;> simp -implicitDefEqProofs (maxDischargeDepth := 6) [*]

@[simp] theorem commitForms_frame (m : Image) (n : Nat) (s : State) :
    (commitForms m n s).env = s.env ∧ (commitForms m n s).jrn = s.jrn ∧ (commitForms m n s).err = s.err ∧
    (commitForms m n s).ports = s.ports ∧ (commitForms m n s).deck = s.deck ∧ (commitForms m n s).csn = s.csn ∧
    (commitForms m n s).fl = s.fl ∧ (commitForms m n s).host = s.host ∧ (commitForms m n s).fab = s.fab ∧
    (commitForms m n s).eng = s.eng ∧ (commitForms m n s).img = s.img ∧ (commitForms m n s).rcd = s.rcd ∧
    (commitForms m n s).pmc = s.pmc ∧ (commitForms m n s).abt = s.abt ∧ (commitForms m n s).mode = s.mode ∧
    (commitForms m n s).key = s.key ∧ (commitForms m n s).sb = s.sb ∧ (commitForms m n s).pending = s.pending := by
  unfold commitForms
  (repeat' split) <;> simp -implicitDefEqProofs (maxDischargeDepth := 6)

def Foot.commitForms : List Reg := [.GLB_SPANFORM]

@[simp] theorem commitForms_rd (m : Image) (n : Nat) (s : State) (reg : Reg) (rix : Nat) (hav : avoids Foot.commitForms reg = true) :
    (commitForms m n s).rd reg rix = s.rd reg rix := by
  have f0 : reg ≠ F.GLB_SPANFORM_FORM.reg := avoids_ne (by decide) hav
  have f1 : reg ≠ F.GLB_SPANFORM_PRESENT.reg := avoids_ne (by decide) hav
  have f2 : reg ≠ F.GLB_SPANFORM_UPSTREAM.reg := avoids_ne (by decide) hav
  unfold commitForms
  (repeat' split) <;> simp -implicitDefEqProofs (maxDischargeDepth := 6) [*]

@[simp] theorem commitHost_frame (m : Image) (s : State) :
    (commitHost m s).jrn = s.jrn ∧ (commitHost m s).err = s.err ∧ (commitHost m s).ports = s.ports ∧
    (commitHost m s).deck = s.deck ∧ (commitHost m s).csn = s.csn ∧ (commitHost m s).fl = s.fl ∧
    (commitHost m s).fab = s.fab ∧ (commitHost m s).eng = s.eng ∧ (commitHost m s).img = s.img ∧
    (commitHost m s).rcd = s.rcd ∧ (commitHost m s).pmc = s.pmc ∧ (commitHost m s).abt = s.abt ∧
    (commitHost m s).mode = s.mode ∧ (commitHost m s).key = s.key ∧ (commitHost m s).sb = s.sb ∧
    (commitHost m s).pending = s.pending := by
  unfold commitHost
  (repeat' split) <;> simp -implicitDefEqProofs (maxDischargeDepth := 6)

def Foot.commitHost : List Reg := [.GLB_VSSTAT]

@[simp] theorem commitHost_rd (m : Image) (s : State) (reg : Reg) (rix : Nat) (hav : avoids Foot.commitHost reg = true) :
    (commitHost m s).rd reg rix = s.rd reg rix := by
  have c0 : avoids Foot.refreshVs reg = true := avoids_mono (by decide) hav
  have f0 : reg ≠ F.GLB_VSSTAT_BUS.reg := avoids_ne (by decide) hav
  have f1 : reg ≠ F.GLB_VSSTAT_NDS.reg := avoids_ne (by decide) hav
  have f2 : reg ≠ F.GLB_VSSTAT_NOTREADY.reg := avoids_ne (by decide) hav
  have f3 : reg ≠ F.GLB_VSSTAT_PRESENT.reg := avoids_ne (by decide) hav
  have f4 : reg ≠ F.GLB_VSSTAT_RSTCAUSE.reg := avoids_ne (by decide) hav
  have f5 : reg ≠ F.GLB_VSSTAT_UPORT.reg := avoids_ne (by decide) hav
  unfold commitHost
  (repeat' split) <;> simp -implicitDefEqProofs (maxDischargeDepth := 6) [*]

@[simp] theorem commitSlot_frame (k : Nat) (s : State) :
    (commitSlot k s).env = s.env ∧ (commitSlot k s).jrn = s.jrn ∧ (commitSlot k s).err = s.err ∧
    (commitSlot k s).deck = s.deck ∧ (commitSlot k s).csn = s.csn ∧ (commitSlot k s).fl = s.fl ∧
    (commitSlot k s).fab = s.fab ∧ (commitSlot k s).eng = s.eng ∧ (commitSlot k s).img = s.img ∧
    (commitSlot k s).rcd = s.rcd ∧ (commitSlot k s).pmc = s.pmc ∧ (commitSlot k s).abt = s.abt ∧
    (commitSlot k s).mode = s.mode ∧ (commitSlot k s).key = s.key ∧ (commitSlot k s).sb = s.sb ∧
    (commitSlot k s).pending = s.pending := by
  unfold commitSlot
  (repeat' split) <;> simp -implicitDefEqProofs (maxDischargeDepth := 6)

def Foot.commitSlot : List Reg := [.GLB_SLOT]

@[simp] theorem commitSlot_rd (k : Nat) (s : State) (reg : Reg) (rix : Nat) (hav : avoids Foot.commitSlot reg = true) :
    (commitSlot k s).rd reg rix = s.rd reg rix := by
  have c0 : avoids Foot.slotOn reg = true := avoids_mono (by decide) hav
  have c1 : avoids Foot.slotOff reg = true := avoids_mono (by decide) hav
  have f0 : reg ≠ F.GLB_SLOT_PWREN.reg := avoids_ne (by decide) hav
  unfold commitSlot
  (repeat' split) <;> simp -implicitDefEqProofs (maxDischargeDepth := 6) [*]

@[simp] theorem commitBucket_frame (x : RegSet) (s : State) :
    (commitBucket x s).env = s.env ∧ (commitBucket x s).jrn = s.jrn ∧ (commitBucket x s).err = s.err ∧
    (commitBucket x s).deck = s.deck ∧ (commitBucket x s).csn = s.csn ∧ (commitBucket x s).fl = s.fl ∧
    (commitBucket x s).host = s.host ∧ (commitBucket x s).fab = s.fab ∧ (commitBucket x s).eng = s.eng ∧
    (commitBucket x s).img = s.img ∧ (commitBucket x s).rcd = s.rcd ∧ (commitBucket x s).pmc = s.pmc ∧
    (commitBucket x s).abt = s.abt ∧ (commitBucket x s).mode = s.mode ∧ (commitBucket x s).key = s.key ∧
    (commitBucket x s).sb = s.sb ∧ (commitBucket x s).pending = s.pending := by
  unfold commitBucket
  (repeat' split) <;> simp -implicitDefEqProofs (maxDischargeDepth := 6)

def Foot.commitBucket : List Reg := []

@[simp] theorem commitBucket_rd (x : RegSet) (s : State) (reg : Reg) (rix : Nat) (hav : avoids Foot.commitBucket reg = true) :
    (commitBucket x s).rd reg rix = s.rd reg rix := by
  have c0 : avoids Foot.resetQBucket reg = true := avoids_mono (by decide) hav
  have c1 : avoids Foot.resetTBucket reg = true := avoids_mono (by decide) hav
  unfold commitBucket
  (repeat' split) <;> simp -implicitDefEqProofs (maxDischargeDepth := 6) [*]

@[simp] theorem commitShapers_frame (m : Image) (s : State) :
    (commitShapers m s).jrn = s.jrn ∧ (commitShapers m s).err = s.err ∧ (commitShapers m s).deck = s.deck ∧
    (commitShapers m s).csn = s.csn ∧ (commitShapers m s).fl = s.fl ∧ (commitShapers m s).host = s.host ∧
    (commitShapers m s).fab = s.fab ∧ (commitShapers m s).eng = s.eng ∧ (commitShapers m s).img = s.img ∧
    (commitShapers m s).rcd = s.rcd ∧ (commitShapers m s).pmc = s.pmc ∧ (commitShapers m s).abt = s.abt ∧
    (commitShapers m s).mode = s.mode ∧ (commitShapers m s).key = s.key ∧ (commitShapers m s).sb = s.sb ∧
    (commitShapers m s).pending = s.pending := by
  unfold commitShapers
  simp -implicitDefEqProofs (maxDischargeDepth := 6)

def Foot.commitShapers : List Reg := []

@[simp] theorem commitShapers_rd (m : Image) (s : State) (reg : Reg) (rix : Nat) (hav : avoids Foot.commitShapers reg = true) :
    (commitShapers m s).rd reg rix = s.rd reg rix := by
  have c0 : avoids Foot.settleBrace reg = true := avoids_mono (by decide) hav
  have c1 : avoids Foot.commitBucket reg = true := avoids_mono (by decide) hav
  unfold commitShapers
  simp -implicitDefEqProofs (maxDischargeDepth := 6) [*]

@[simp] theorem commitEngines_frame (m : Image) (s : State) :
    (commitEngines m s).env = s.env ∧ (commitEngines m s).jrn = s.jrn ∧ (commitEngines m s).err = s.err ∧
    (commitEngines m s).ports = s.ports ∧ (commitEngines m s).deck = s.deck ∧ (commitEngines m s).csn = s.csn ∧
    (commitEngines m s).fl = s.fl ∧ (commitEngines m s).host = s.host ∧ (commitEngines m s).fab = s.fab ∧
    (commitEngines m s).img = s.img ∧ (commitEngines m s).rcd = s.rcd ∧ (commitEngines m s).pmc = s.pmc ∧
    (commitEngines m s).abt = s.abt ∧ (commitEngines m s).mode = s.mode ∧ (commitEngines m s).key = s.key ∧
    (commitEngines m s).sb = s.sb ∧ (commitEngines m s).pending = s.pending := by
  unfold commitEngines
  (repeat' split) <;> simp -implicitDefEqProofs (maxDischargeDepth := 6)

def Foot.commitEngines : List Reg := [.ENG_STAT, .PIR_DUTY]

@[simp] theorem commitEngines_rd (m : Image) (s : State) (reg : Reg) (rix : Nat) (hav : avoids Foot.commitEngines reg = true) :
    (commitEngines m s).rd reg rix = s.rd reg rix := by
  have c0 : avoids Foot.offer reg = true := avoids_mono (by decide) hav
  have c1 : avoids Foot.refreshDuties reg = true := avoids_mono (by decide) hav
  have c2 : avoids Foot.loadProgram reg = true := avoids_mono (by decide) hav
  have f0 : reg ≠ F.ENG_STAT_STATE.reg := avoids_ne (by decide) hav
  have f1 : reg ≠ F.PIR_DUTY_ENGINE.reg := avoids_ne (by decide) hav
  unfold commitEngines
  (repeat' split) <;> simp -implicitDefEqProofs (maxDischargeDepth := 6) [*]

@[simp] theorem commitPlanes_frame (m : Image) (s : State) :
    (commitPlanes m s).abt = s.abt ∧ (commitPlanes m s).sb = s.sb ∧ (commitPlanes m s).pending = s.pending := by
  unfold commitPlanes
  (repeat' split) <;> simp -implicitDefEqProofs (maxDischargeDepth := 6)

def Foot.commitPlanes : List Reg := [.CSN_POOL, .CSN_PSPILL, .CSN_STAT, .DCK_STAT, .ENG_STAT, .GLB_DMASTAT, .GLB_ERRSTAT, .GLB_IMGSTAT, .GLB_MODE, .GLB_PLANES, .GLB_QSTAT, .GLB_SLOT, .GLB_VSSTAT, .JNL_CMDRES, .JNL_HEAD, .JNL_STAT, .JNL_TAIL, .KEY_NONCE, .KEY_SLOT, .KEY_SLOTHASH, .KEY_STAT, .PIR_BUFEXP, .PIR_BUFOCC, .PIR_CLOSE, .PIR_CPLTRK, .PIR_DKSTAT, .PIR_ERRCNT2, .PIR_EXPMON, .PIR_FBPORT, .PIR_PFCNT, .PIR_PMAP, .PMC_BSTAT, .PMC_CNT, .PMC_STAT, .REC_PFSTAT, .REC_STAT, .REC_TRGCFG, .REC_TRGCNT, .SPN_CALSTAT, .SPN_COEF, .SPN_FLSTAT, .SPN_PSTAT]

@[simp] theorem commitPlanes_rd (m : Image) (s : State) (reg : Reg) (rix : Nat) (hav : avoids Foot.commitPlanes reg = true) :
    (commitPlanes m s).rd reg rix = s.rd reg rix := by
  have c0 : avoids Foot.pushRec reg = true := avoids_mono (by decide) hav
  have c1 : avoids Foot.setPlane reg = true := avoids_mono (by decide) hav
  have c2 : avoids Foot.planeFailCore reg = true := avoids_mono (by decide) hav
  have c3 : avoids Foot.quarantine reg = true := avoids_mono (by decide) hav
  unfold commitPlanes
  (repeat' split) <;> simp -implicitDefEqProofs (maxDischargeDepth := 6) [*]

@[simp] theorem commitPort_frame (p : Nat) (s : State) :
    (commitPort p s).env = s.env ∧ (commitPort p s).jrn = s.jrn ∧ (commitPort p s).err = s.err ∧
    (commitPort p s).ports = s.ports ∧ (commitPort p s).deck = s.deck ∧ (commitPort p s).csn = s.csn ∧
    (commitPort p s).fl = s.fl ∧ (commitPort p s).host = s.host ∧ (commitPort p s).fab = s.fab ∧
    (commitPort p s).eng = s.eng ∧ (commitPort p s).img = s.img ∧ (commitPort p s).rcd = s.rcd ∧
    (commitPort p s).pmc = s.pmc ∧ (commitPort p s).abt = s.abt ∧ (commitPort p s).mode = s.mode ∧
    (commitPort p s).key = s.key ∧ (commitPort p s).sb = s.sb ∧ (commitPort p s).pending = s.pending := by
  unfold commitPort
  (repeat' split) <;> simp -implicitDefEqProofs (maxDischargeDepth := 6)

def Foot.commitPort : List Reg := [.PIR_CLOSE, .SPN_FLSTAT, .SPN_LANE, .SPN_PSTAT]

@[simp] theorem commitPort_rd (p : Nat) (s : State) (reg : Reg) (rix : Nat) (hav : avoids Foot.commitPort reg = true) :
    (commitPort p s).rd reg rix = s.rd reg rix := by
  have c0 : avoids Foot.enterTraining reg = true := avoids_mono (by decide) hav
  have f0 : reg ≠ F.PIR_CLOSE_CAUSE.reg := avoids_ne (by decide) hav
  have f1 : reg ≠ F.PIR_CLOSE_CLOSED.reg := avoids_ne (by decide) hav
  have f2 : reg ≠ F.SPN_FLSTAT_STATE.reg := avoids_ne (by decide) hav
  have f3 : reg ≠ F.SPN_PSTAT_CLOSED.reg := avoids_ne (by decide) hav
  have f4 : reg ≠ F.SPN_PSTAT_LTSSM.reg := avoids_ne (by decide) hav
  unfold commitPort
  (repeat' split) <;> simp -implicitDefEqProofs (maxDischargeDepth := 6) [*]

@[simp] theorem showImage_frame (m : Image) (b : Nat) (s : State) :
    (showImage m b s).env = s.env ∧ (showImage m b s).jrn = s.jrn ∧ (showImage m b s).err = s.err ∧
    (showImage m b s).ports = s.ports ∧ (showImage m b s).deck = s.deck ∧ (showImage m b s).csn = s.csn ∧
    (showImage m b s).fl = s.fl ∧ (showImage m b s).host = s.host ∧ (showImage m b s).fab = s.fab ∧
    (showImage m b s).eng = s.eng ∧ (showImage m b s).img = s.img ∧ (showImage m b s).rcd = s.rcd ∧
    (showImage m b s).pmc = s.pmc ∧ (showImage m b s).abt = s.abt ∧ (showImage m b s).mode = s.mode ∧
    (showImage m b s).key = s.key ∧ (showImage m b s).sb = s.sb ∧ (showImage m b s).pending = s.pending := by
  unfold showImage
  (repeat' split) <;> simp -implicitDefEqProofs (maxDischargeDepth := 6)

def Foot.showImage : List Reg := [.GLB_FABID, .GLB_IMGBUILD, .GLB_IMGSTAT, .GLB_MODE, .GLB_SEGBUILD]

@[simp] theorem showImage_rd (m : Image) (b : Nat) (s : State) (reg : Reg) (rix : Nat) (hav : avoids Foot.showImage reg = true) :
    (showImage m b s).rd reg rix = s.rd reg rix := by
  have f0 : reg ≠ F.GLB_FABID_FABRIC.reg := avoids_ne (by decide) hav
  have f1 : reg ≠ F.GLB_FABID_MODULE.reg := avoids_ne (by decide) hav
  have f2 : reg ≠ F.GLB_IMGSTAT_LOAD.reg := avoids_ne (by decide) hav
  have f3 : reg ≠ F.GLB_IMGSTAT_LOADED.reg := avoids_ne (by decide) hav
  have f4 : reg ≠ F.GLB_IMGSTAT_RECOVERY.reg := avoids_ne (by decide) hav
  have f5 : reg ≠ F.GLB_IMGSTAT_SECVER.reg := avoids_ne (by decide) hav
  have f6 : reg ≠ F.GLB_MODE_IMAGE_MODE.reg := avoids_ne (by decide) hav
  have f7 : reg ≠ .GLB_IMGBUILD := avoids_ne (by decide) hav
  have f8 : reg ≠ .GLB_SEGBUILD := avoids_ne (by decide) hav
  unfold showImage
  (repeat' split) <;> simp -implicitDefEqProofs (maxDischargeDepth := 6) [*]

@[simp] theorem commit_frame (m : Image) (b : Nat) (s : State) :
    (commit m b s).pending = s.pending := by
  unfold commit
  (repeat' split) <;> simp -implicitDefEqProofs (maxDischargeDepth := 6)

@[simp] theorem cutCommands_frame (s : State) :
    (cutCommands s).csn = s.csn ∧ (cutCommands s).fl = s.fl ∧ (cutCommands s).fab = s.fab ∧ (cutCommands s).img = s.img ∧
    (cutCommands s).abt = s.abt ∧ (cutCommands s).mode = s.mode ∧ (cutCommands s).sb = s.sb ∧
    (cutCommands s).pending = s.pending := by
  unfold cutCommands
  (repeat' split) <;> simp -implicitDefEqProofs (maxDischargeDepth := 6)

def Foot.cutCommands : List Reg := [.ENG_STAT, .JNL_CMDRES, .JNL_HEAD, .JNL_STAT, .JNL_TAIL, .KEY_NONCE, .KEY_SLOT, .KEY_SLOTHASH, .KEY_STAT, .PIR_BUFEXP, .PIR_BUFOCC, .PIR_CPLTRK, .PIR_ERRCNT2, .PIR_EXPMON, .PIR_FBPORT, .PMC_BSTAT, .PMC_CNT, .PMC_STAT, .REC_TRGCFG, .REC_TRGCNT]

@[simp] theorem cutCommands_rd (s : State) (reg : Reg) (rix : Nat) (hav : avoids Foot.cutCommands reg = true) :
    (cutCommands s).rd reg rix = s.rd reg rix := by
  have c0 : avoids Foot.endCmd reg = true := avoids_mono (by decide) hav
  unfold cutCommands
  (repeat' split) <;> simp -implicitDefEqProofs (maxDischargeDepth := 6) [*]

@[simp] theorem drainFifos_frame (s : State) :
    (drainFifos s).csn = s.csn ∧ (drainFifos s).fl = s.fl ∧ (drainFifos s).fab = s.fab ∧ (drainFifos s).img = s.img ∧
    (drainFifos s).abt = s.abt ∧ (drainFifos s).mode = s.mode ∧ (drainFifos s).key = s.key ∧ (drainFifos s).sb = s.sb ∧
    (drainFifos s).pending = s.pending := by
  unfold drainFifos
  (repeat' split) <;> simp -implicitDefEqProofs (maxDischargeDepth := 6)

def Foot.drainFifos : List Reg := [.ENG_STAT, .JNL_HEAD, .JNL_TAIL, .PIR_BUFEXP, .PIR_BUFOCC, .PIR_CPLTRK, .PIR_ERRCNT2, .PIR_EXPMON, .PIR_FBPORT, .PMC_BSTAT, .PMC_CNT, .PMC_STAT, .REC_TRGCFG, .REC_TRGCNT]

@[simp] theorem drainFifos_rd (s : State) (reg : Reg) (rix : Nat) (hav : avoids Foot.drainFifos reg = true) :
    (drainFifos s).rd reg rix = s.rd reg rix := by
  have c0 : avoids Foot.numberEntry reg = true := avoids_mono (by decide) hav
  unfold drainFifos
  (repeat' split) <;> simp -implicitDefEqProofs (maxDischargeDepth := 6) [*]

@[simp] theorem resetUnits_frame (s : State) :
    (resetUnits s).abt = s.abt ∧ (resetUnits s).pending = s.pending := by
  unfold resetUnits
  (repeat' split) <;> simp -implicitDefEqProofs (maxDischargeDepth := 6)

@[simp] theorem feedsReturn_frame (s : State) :
    (feedsReturn s).env = s.env ∧ (feedsReturn s).jrn = s.jrn ∧ (feedsReturn s).err = s.err ∧
    (feedsReturn s).ports = s.ports ∧ (feedsReturn s).deck = s.deck ∧ (feedsReturn s).csn = s.csn ∧
    (feedsReturn s).fl = s.fl ∧ (feedsReturn s).host = s.host ∧ (feedsReturn s).fab = s.fab ∧ (feedsReturn s).eng = s.eng ∧
    (feedsReturn s).img = s.img ∧ (feedsReturn s).rcd = s.rcd ∧ (feedsReturn s).pmc = s.pmc ∧
    (feedsReturn s).mode = s.mode ∧ (feedsReturn s).key = s.key ∧ (feedsReturn s).sb = s.sb ∧
    (feedsReturn s).pending = s.pending := by
  unfold feedsReturn
  (repeat' split) <;> simp -implicitDefEqProofs (maxDischargeDepth := 6)

def Foot.feedsReturn : List Reg := [.ABT_FEED]

@[simp] theorem feedsReturn_rd (s : State) (reg : Reg) (rix : Nat) (hav : avoids Foot.feedsReturn reg = true) :
    (feedsReturn s).rd reg rix = s.rd reg rix := by
  have c0 : avoids Foot.setFeed reg = true := avoids_mono (by decide) hav
  have c1 : avoids Foot.setFeedSt reg = true := avoids_mono (by decide) hav
  have f0 : reg ≠ F.ABT_FEED_RETRIES.reg := avoids_ne (by decide) hav
  unfold feedsReturn
  (repeat' split) <;> simp -implicitDefEqProofs (maxDischargeDepth := 6) [*]

@[simp] theorem standbyReset_frame (s : State) :
    (standbyReset s).csn = s.csn ∧ (standbyReset s).fl = s.fl ∧ (standbyReset s).fab = s.fab ∧
    (standbyReset s).img = s.img ∧ (standbyReset s).key = s.key ∧ (standbyReset s).sb = s.sb ∧
    (standbyReset s).pending = s.pending := by
  unfold standbyReset
  (repeat' split) <;> simp -implicitDefEqProofs (maxDischargeDepth := 6)

def Foot.standbyReset : List Reg := [.ABT_FEED, .CLK_ISLSTAT, .ENG_STAT, .GLB_ERRSTAT, .GLB_MODE, .JNL_HEAD, .JNL_TAIL, .PIR_BUFEXP, .PIR_BUFOCC, .PIR_CPLTRK, .PIR_ERRCNT2, .PIR_EXPMON, .PIR_FBPORT, .PMC_BSTAT, .PMC_CNT, .PMC_STAT, .REC_TRGCFG, .REC_TRGCNT]

@[simp] theorem standbyReset_rd (s : State) (reg : Reg) (rix : Nat) (hav : avoids Foot.standbyReset reg = true) :
    (standbyReset s).rd reg rix = s.rd reg rix := by
  have c0 : avoids Foot.keeperEntry reg = true := avoids_mono (by decide) hav
  have c1 : avoids Foot.refreshAlert reg = true := avoids_mono (by decide) hav
  have c2 : avoids Foot.feedsReturn reg = true := avoids_mono (by decide) hav
  have f0 : reg ≠ F.CLK_ISLSTAT_FAILED.reg := avoids_ne (by decide) hav
  have f1 : reg ≠ F.GLB_MODE_THERM_LATCH.reg := avoids_ne (by decide) hav
  unfold standbyReset
  (repeat' split) <;> simp -implicitDefEqProofs (maxDischargeDepth := 6) [*]

@[simp] theorem moduleReset_frame (s : State) :
    (moduleReset s).pending = s.pending := by
  unfold moduleReset
  (repeat' split) <;> simp -implicitDefEqProofs (maxDischargeDepth := 6)

@[simp] theorem startUp_frame (recovery : Bool) (s : State) :
    (startUp recovery s).abt = s.abt ∧ (startUp recovery s).sb = s.sb ∧ (startUp recovery s).pending = s.pending := by
  unfold startUp
  (repeat' split) <;> simp -implicitDefEqProofs (maxDischargeDepth := 6)

def Foot.startUp : List Reg := [.CLK_ISLSTAT, .CSN_POOL, .CSN_PSPILL, .CSN_STAT, .ENG_STAT, .GLB_DMASTAT, .GLB_ERRSTAT, .GLB_IMGSTAT, .GLB_MODE, .GLB_QSTAT, .GLB_SLOT, .GLB_VSSTAT, .JNL_CMDRES, .JNL_HEAD, .JNL_STAT, .JNL_TAIL, .KEY_NONCE, .KEY_SLOT, .KEY_SLOTHASH, .KEY_STAT, .PIR_BUFEXP, .PIR_BUFOCC, .PIR_CLOSE, .PIR_CPLTRK, .PIR_ERRCNT2, .PIR_EXPMON, .PIR_FBPORT, .PIR_PFCNT, .PMC_BSTAT, .PMC_CNT, .PMC_STAT, .PWD_STAT, .REC_PFSTAT, .REC_STAT, .REC_TRGCFG, .REC_TRGCNT, .SPN_CALSTAT, .SPN_COEF, .SPN_FLSTAT, .SPN_PSTAT]

@[simp] theorem startUp_rd (recovery : Bool) (s : State) (reg : Reg) (rix : Nat) (hav : avoids Foot.startUp reg = true) :
    (startUp recovery s).rd reg rix = s.rd reg rix := by
  have c0 : avoids Foot.pushRec reg = true := avoids_mono (by decide) hav
  have c1 : avoids Foot.quarantine reg = true := avoids_mono (by decide) hav
  have c2 : avoids Foot.powerOn reg = true := avoids_mono (by decide) hav
  have f0 : reg ≠ F.KEY_STAT_BOOT.reg := avoids_ne (by decide) hav
  unfold startUp
  (repeat' split) <;> simp -implicitDefEqProofs (maxDischargeDepth := 6) [*]

@[simp] theorem resetAndStart_frame (recovery : Bool) (s : State) :
    (resetAndStart recovery s).pending = s.pending := by
  unfold resetAndStart
  (repeat' split) <;> simp -implicitDefEqProofs (maxDischargeDepth := 6)

@[simp] theorem finishFuse_frame (s : State) :
    (finishFuse s).fl = s.fl ∧ (finishFuse s).fab = s.fab ∧ (finishFuse s).img = s.img ∧ (finishFuse s).pending = s.pending := by
  unfold finishFuse
  (repeat' split) <;> simp -implicitDefEqProofs (maxDischargeDepth := 6)

def Foot.finishFuse : List Reg := [.ABT_ENERGY, .ABT_FEED, .CLK_ISLSTAT, .ENG_STAT, .GLB_ERRSTAT, .GLB_MODE, .JNL_HEAD, .JNL_TAIL, .KEY_STAT, .PIR_BUFEXP, .PIR_BUFOCC, .PIR_CPLTRK, .PIR_ERRCNT2, .PIR_EXPMON, .PIR_FBPORT, .PMC_BSTAT, .PMC_CNT, .PMC_STAT, .REC_PFLOG, .REC_PFSTAT, .REC_RLINE, .REC_RSEQ, .REC_STAT, .REC_TRGCFG, .REC_TRGCNT]

@[simp] theorem finishFuse_rd (s : State) (reg : Reg) (rix : Nat) (hav : avoids Foot.finishFuse reg = true) :
    (finishFuse s).rd reg rix = s.rd reg rix := by
  have c0 : avoids Foot.mramWipe reg = true := avoids_mono (by decide) hav
  have c1 : avoids Foot.standbyReset reg = true := avoids_mono (by decide) hav
  have f0 : reg ≠ F.KEY_STAT_LCSTATE.reg := avoids_ne (by decide) hav
  unfold finishFuse
  (repeat' split) <;> simp -implicitDefEqProofs (maxDischargeDepth := 6) [*]

@[simp] theorem showIdentity_frame (s : State) :
    (showIdentity s).env = s.env ∧ (showIdentity s).jrn = s.jrn ∧ (showIdentity s).err = s.err ∧
    (showIdentity s).ports = s.ports ∧ (showIdentity s).deck = s.deck ∧ (showIdentity s).csn = s.csn ∧
    (showIdentity s).fl = s.fl ∧ (showIdentity s).host = s.host ∧ (showIdentity s).fab = s.fab ∧
    (showIdentity s).eng = s.eng ∧ (showIdentity s).img = s.img ∧ (showIdentity s).rcd = s.rcd ∧
    (showIdentity s).pmc = s.pmc ∧ (showIdentity s).abt = s.abt ∧ (showIdentity s).mode = s.mode ∧
    (showIdentity s).key = s.key ∧ (showIdentity s).sb = s.sb ∧ (showIdentity s).pending = s.pending := by
  unfold showIdentity
  (repeat' split) <;> simp -implicitDefEqProofs (maxDischargeDepth := 6)

def Foot.showIdentity : List Reg := [.KEY_STAT]

@[simp] theorem showIdentity_rd (s : State) (reg : Reg) (rix : Nat) (hav : avoids Foot.showIdentity reg = true) :
    (showIdentity s).rd reg rix = s.rd reg rix := by
  have f0 : reg ≠ F.KEY_STAT_IDVALID.reg := avoids_ne (by decide) hav
  unfold showIdentity
  (repeat' split) <;> simp -implicitDefEqProofs (maxDischargeDepth := 6) [*]

@[simp] theorem startErase_frame (c : Cmd) (s : State) :
    (startErase c s).csn = s.csn ∧ (startErase c s).fl = s.fl ∧ (startErase c s).fab = s.fab ∧
    (startErase c s).img = s.img ∧ (startErase c s).abt = s.abt ∧ (startErase c s).mode = s.mode ∧
    (startErase c s).sb = s.sb ∧ (startErase c s).pending = s.pending := by
  unfold startErase
  (repeat' split) <;> simp -implicitDefEqProofs (maxDischargeDepth := 6)

def Foot.startErase : List Reg := [.ENG_STAT, .GLB_BANKSTAT, .JNL_CMDRES, .JNL_HEAD, .JNL_STAT, .JNL_TAIL, .KEY_NONCE, .KEY_SLOT, .KEY_SLOTHASH, .KEY_STAT, .PIR_BUFEXP, .PIR_BUFOCC, .PIR_CPLTRK, .PIR_ERRCNT2, .PIR_EXPMON, .PIR_FBPORT, .PMC_BSTAT, .PMC_CNT, .PMC_STAT, .REC_TRGCFG, .REC_TRGCNT]

@[simp] theorem startErase_rd (c : Cmd) (s : State) (reg : Reg) (rix : Nat) (hav : avoids Foot.startErase reg = true) :
    (startErase c s).rd reg rix = s.rd reg rix := by
  have c0 : avoids Foot.bankTouched reg = true := avoids_mono (by decide) hav
  have c1 : avoids Foot.failCmd reg = true := avoids_mono (by decide) hav
  have c2 : avoids Foot.runCmd reg = true := avoids_mono (by decide) hav
  unfold startErase
  (repeat' split) <;> simp -implicitDefEqProofs (maxDischargeDepth := 6) [*]

@[simp] theorem startVerify_frame (c : Cmd) (s : State) :
    (startVerify c s).csn = s.csn ∧ (startVerify c s).fl = s.fl ∧ (startVerify c s).fab = s.fab ∧
    (startVerify c s).img = s.img ∧ (startVerify c s).abt = s.abt ∧ (startVerify c s).mode = s.mode ∧
    (startVerify c s).sb = s.sb ∧ (startVerify c s).pending = s.pending := by
  unfold startVerify
  (repeat' split) <;> simp -implicitDefEqProofs (maxDischargeDepth := 6)

def Foot.startVerify : List Reg := [.ENG_STAT, .JNL_CMDRES, .JNL_HEAD, .JNL_STAT, .JNL_TAIL, .KEY_NONCE, .KEY_SLOT, .KEY_SLOTHASH, .KEY_STAT, .PIR_BUFEXP, .PIR_BUFOCC, .PIR_CPLTRK, .PIR_ERRCNT2, .PIR_EXPMON, .PIR_FBPORT, .PMC_BSTAT, .PMC_CNT, .PMC_STAT, .REC_TRGCFG, .REC_TRGCNT]

@[simp] theorem startVerify_rd (c : Cmd) (s : State) (reg : Reg) (rix : Nat) (hav : avoids Foot.startVerify reg = true) :
    (startVerify c s).rd reg rix = s.rd reg rix := by
  have c0 : avoids Foot.failCmd reg = true := avoids_mono (by decide) hav
  have c1 : avoids Foot.runCmd reg = true := avoids_mono (by decide) hav
  unfold startVerify
  (repeat' split) <;> simp -implicitDefEqProofs (maxDischargeDepth := 6) [*]

@[simp] theorem reload_frame (c : Cmd) (s : State) :
    (reload c s).pending = s.pending := by
  unfold reload
  (repeat' split) <;> simp -implicitDefEqProofs (maxDischargeDepth := 6)

@[simp] theorem retime_frame (old : State) (k : Nat) (s : State) :
    (retime old k s).env = s.env ∧ (retime old k s).jrn = s.jrn ∧ (retime old k s).err = s.err ∧
    (retime old k s).deck = s.deck ∧ (retime old k s).csn = s.csn ∧ (retime old k s).fl = s.fl ∧
    (retime old k s).host = s.host ∧ (retime old k s).eng = s.eng ∧ (retime old k s).img = s.img ∧
    (retime old k s).rcd = s.rcd ∧ (retime old k s).pmc = s.pmc ∧ (retime old k s).abt = s.abt ∧
    (retime old k s).mode = s.mode ∧ (retime old k s).key = s.key ∧ (retime old k s).sb = s.sb ∧
    (retime old k s).pending = s.pending := by
  unfold retime
  (repeat' split) <;> simp -implicitDefEqProofs (maxDischargeDepth := 6)

def Foot.retime : List Reg := []

@[simp] theorem retime_rd (old : State) (k : Nat) (s : State) (reg : Reg) (rix : Nat) (hav : avoids Foot.retime reg = true) :
    (retime old k s).rd reg rix = s.rd reg rix := by
  have c0 : avoids Foot.resetQBucket reg = true := avoids_mono (by decide) hav
  have c1 : avoids Foot.resetTBucket reg = true := avoids_mono (by decide) hav
  have c2 : avoids Foot.fillPolicer reg = true := avoids_mono (by decide) hav
  unfold retime
  (repeat' split) <;> simp -implicitDefEqProofs (maxDischargeDepth := 6) [*]

@[simp] theorem unbindBridge_frame (a b : Image) (p : Nat) (s : State) :
    (unbindBridge a b p s).env = s.env ∧ (unbindBridge a b p s).jrn = s.jrn ∧ (unbindBridge a b p s).csn = s.csn ∧
    (unbindBridge a b p s).fl = s.fl ∧ (unbindBridge a b p s).fab = s.fab ∧ (unbindBridge a b p s).eng = s.eng ∧
    (unbindBridge a b p s).img = s.img ∧ (unbindBridge a b p s).rcd = s.rcd ∧ (unbindBridge a b p s).pmc = s.pmc ∧
    (unbindBridge a b p s).abt = s.abt ∧ (unbindBridge a b p s).mode = s.mode ∧ (unbindBridge a b p s).key = s.key ∧
    (unbindBridge a b p s).sb = s.sb ∧ (unbindBridge a b p s).pending = s.pending := by
  unfold unbindBridge
  (repeat' split) <;> simp -implicitDefEqProofs (maxDischargeDepth := 6)

def Foot.unbindBridge : List Reg := [.PIR_BUFEXP, .PIR_BUFOCC, .PIR_CPLTRK, .PIR_ERRCNT2, .PIR_EXPMON, .PIR_FBPORT]

@[simp] theorem unbindBridge_rd (a b : Image) (p : Nat) (s : State) (reg : Reg) (rix : Nat) (hav : avoids Foot.unbindBridge reg = true) :
    (unbindBridge a b p s).rd reg rix = s.rd reg rix := by
  have c0 : avoids Foot.setCapF reg = true := avoids_mono (by decide) hav
  have c1 : avoids Foot.slotStatus reg = true := avoids_mono (by decide) hav
  unfold unbindBridge
  (repeat' split) <;> simp -implicitDefEqProofs (maxDischargeDepth := 6) [*]

@[simp] theorem unbindBridges_frame (a b : Image) (n : Nat) (s : State) :
    (unbindBridges a b n s).env = s.env ∧ (unbindBridges a b n s).jrn = s.jrn ∧ (unbindBridges a b n s).csn = s.csn ∧
    (unbindBridges a b n s).fl = s.fl ∧ (unbindBridges a b n s).fab = s.fab ∧ (unbindBridges a b n s).eng = s.eng ∧
    (unbindBridges a b n s).img = s.img ∧ (unbindBridges a b n s).rcd = s.rcd ∧ (unbindBridges a b n s).pmc = s.pmc ∧
    (unbindBridges a b n s).abt = s.abt ∧ (unbindBridges a b n s).mode = s.mode ∧ (unbindBridges a b n s).key = s.key ∧
    (unbindBridges a b n s).sb = s.sb ∧ (unbindBridges a b n s).pending = s.pending := by
  unfold unbindBridges
  simp -implicitDefEqProofs (maxDischargeDepth := 6)

def Foot.unbindBridges : List Reg := [.PIR_BUFEXP, .PIR_BUFOCC, .PIR_CPLTRK, .PIR_ERRCNT2, .PIR_EXPMON, .PIR_FBPORT]

@[simp] theorem unbindBridges_rd (a b : Image) (n : Nat) (s : State) (reg : Reg) (rix : Nat) (hav : avoids Foot.unbindBridges reg = true) :
    (unbindBridges a b n s).rd reg rix = s.rd reg rix := by
  have c0 : avoids Foot.unbindBridge reg = true := avoids_mono (by decide) hav
  unfold unbindBridges
  simp -implicitDefEqProofs (maxDischargeDepth := 6) [*]

@[simp] theorem swapTables_frame (a b : Image) (n : Nat) (s : State) :
    (swapTables a b n s).env = s.env ∧ (swapTables a b n s).jrn = s.jrn ∧ (swapTables a b n s).csn = s.csn ∧
    (swapTables a b n s).fl = s.fl ∧ (swapTables a b n s).eng = s.eng ∧ (swapTables a b n s).rcd = s.rcd ∧
    (swapTables a b n s).pmc = s.pmc ∧ (swapTables a b n s).abt = s.abt ∧ (swapTables a b n s).mode = s.mode ∧
    (swapTables a b n s).key = s.key ∧ (swapTables a b n s).sb = s.sb ∧ (swapTables a b n s).pending = s.pending := by
  unfold swapTables
  (repeat' split) <;> simp -implicitDefEqProofs (maxDischargeDepth := 6)

@[simp] theorem swapRecords_frame (b : Image) (n : Nat) (s : State) :
    (swapRecords b n s).env = s.env ∧ (swapRecords b n s).jrn = s.jrn ∧ (swapRecords b n s).err = s.err ∧
    (swapRecords b n s).ports = s.ports ∧ (swapRecords b n s).deck = s.deck ∧ (swapRecords b n s).csn = s.csn ∧
    (swapRecords b n s).fl = s.fl ∧ (swapRecords b n s).host = s.host ∧ (swapRecords b n s).fab = s.fab ∧
    (swapRecords b n s).img = s.img ∧ (swapRecords b n s).rcd = s.rcd ∧ (swapRecords b n s).pmc = s.pmc ∧
    (swapRecords b n s).abt = s.abt ∧ (swapRecords b n s).mode = s.mode ∧ (swapRecords b n s).key = s.key ∧
    (swapRecords b n s).sb = s.sb ∧ (swapRecords b n s).pending = s.pending := by
  unfold swapRecords
  (repeat' split) <;> simp -implicitDefEqProofs (maxDischargeDepth := 6)

def Foot.swapRecords : List Reg := []

@[simp] theorem swapRecords_rd (b : Image) (n : Nat) (s : State) (reg : Reg) (rix : Nat) (hav : avoids Foot.swapRecords reg = true) :
    (swapRecords b n s).rd reg rix = s.rd reg rix := by
  unfold swapRecords
  (repeat' split) <;> simp -implicitDefEqProofs (maxDischargeDepth := 6) [*]

@[simp] theorem queueAll_frame (g : Nat) (l : List QEv) (s : State) :
    (queueAll g l s).env = s.env ∧ (queueAll g l s).jrn = s.jrn ∧ (queueAll g l s).err = s.err ∧
    (queueAll g l s).ports = s.ports ∧ (queueAll g l s).deck = s.deck ∧ (queueAll g l s).csn = s.csn ∧
    (queueAll g l s).fl = s.fl ∧ (queueAll g l s).host = s.host ∧ (queueAll g l s).fab = s.fab ∧
    (queueAll g l s).img = s.img ∧ (queueAll g l s).rcd = s.rcd ∧ (queueAll g l s).pmc = s.pmc ∧
    (queueAll g l s).abt = s.abt ∧ (queueAll g l s).mode = s.mode ∧ (queueAll g l s).key = s.key ∧
    (queueAll g l s).sb = s.sb ∧ (queueAll g l s).pending = s.pending := by
  unfold queueAll
  (repeat' split) <;> simp -implicitDefEqProofs (maxDischargeDepth := 6)

def Foot.queueAll : List Reg := [.ENG_STAT]

@[simp] theorem queueAll_rd (g : Nat) (l : List QEv) (s : State) (reg : Reg) (rix : Nat) (hav : avoids Foot.queueAll reg = true) :
    (queueAll g l s).rd reg rix = s.rd reg rix := by
  have c0 : avoids Foot.setEngQ reg = true := avoids_mono (by decide) hav
  have c1 : avoids Foot.wakeEng reg = true := avoids_mono (by decide) hav
  unfold queueAll
  (repeat' split) <;> simp -implicitDefEqProofs (maxDischargeDepth := 6) [*]

@[simp] theorem liveDown_frame (p : Nat) (s : State) :
    (liveDown p s).fl = s.fl ∧ (liveDown p s).img = s.img ∧ (liveDown p s).abt = s.abt ∧ (liveDown p s).mode = s.mode ∧
    (liveDown p s).sb = s.sb ∧ (liveDown p s).pending = s.pending := by
  unfold liveDown
  (repeat' split) <;> simp -implicitDefEqProofs (maxDischargeDepth := 6)

def Foot.liveDown : List Reg := [.CSN_POOL, .CSN_PSPILL, .CSN_STAT, .ENG_STAT, .GLB_DMASTAT, .GLB_SLOT, .GLB_VSSTAT, .JNL_CMDRES, .JNL_HEAD, .JNL_STAT, .JNL_TAIL, .KEY_NONCE, .KEY_SLOT, .KEY_SLOTHASH, .KEY_STAT, .PIR_BUFEXP, .PIR_BUFOCC, .PIR_CPLTRK, .PIR_ERRCNT2, .PIR_EXPMON, .PIR_FBPORT, .PIR_PFCNT, .PMC_BSTAT, .PMC_CNT, .PMC_STAT, .REC_PFSTAT, .REC_TRGCFG, .REC_TRGCNT, .SPN_PSTAT]

@[simp] theorem liveDown_rd (p : Nat) (s : State) (reg : Reg) (rix : Nat) (hav : avoids Foot.liveDown reg = true) :
    (liveDown p s).rd reg rix = s.rd reg rix := by
  have c1 : avoids Foot.stopFlows reg = true := avoids_mono (by decide) hav
  have c2 : avoids Foot.linkGone reg = true := avoids_mono (by decide) hav
  have c3 : avoids Foot.discardPortTlps reg = true := avoids_mono (by decide) hav
  have c4 : avoids Foot.synthPort reg = true := avoids_mono (by decide) hav
  have c5 : avoids Foot.flushEgress reg = true := avoids_mono (by decide) hav
  have c6 : avoids Foot.linkDownEvent reg = true := avoids_mono (by decide) hav
  have f0 : reg ≠ F.SPN_PSTAT_LTSSM.reg := avoids_ne (by decide) hav
  unfold liveDown
  (repeat' split) <;> simp -implicitDefEqProofs (maxDischargeDepth := 6) [*]

@[simp] theorem parkGroup_frame (n : Nat) (gs : List Nat) (s : State) :
    (parkGroup n gs s).env = s.env ∧ (parkGroup n gs s).jrn = s.jrn ∧ (parkGroup n gs s).err = s.err ∧
    (parkGroup n gs s).ports = s.ports ∧ (parkGroup n gs s).deck = s.deck ∧ (parkGroup n gs s).csn = s.csn ∧
    (parkGroup n gs s).fl = s.fl ∧ (parkGroup n gs s).host = s.host ∧ (parkGroup n gs s).fab = s.fab ∧
    (parkGroup n gs s).img = s.img ∧ (parkGroup n gs s).rcd = s.rcd ∧ (parkGroup n gs s).pmc = s.pmc ∧
    (parkGroup n gs s).abt = s.abt ∧ (parkGroup n gs s).mode = s.mode ∧ (parkGroup n gs s).key = s.key ∧
    (parkGroup n gs s).sb = s.sb ∧ (parkGroup n gs s).pending = s.pending := by
  unfold parkGroup
  (repeat' split) <;> simp -implicitDefEqProofs (maxDischargeDepth := 6)

def Foot.parkGroup : List Reg := [.ENG_CTL, .ENG_STAT, .PIR_DUTY]

@[simp] theorem parkGroup_rd (n : Nat) (gs : List Nat) (s : State) (reg : Reg) (rix : Nat) (hav : avoids Foot.parkGroup reg = true) :
    (parkGroup n gs s).rd reg rix = s.rd reg rix := by
  have c0 : avoids Foot.parkEngines reg = true := avoids_mono (by decide) hav
  unfold parkGroup
  (repeat' split) <;> simp -implicitDefEqProofs (maxDischargeDepth := 6) [*]

@[simp] theorem wakeGroup_frame (gs : List Nat) (s : State) :
    (wakeGroup gs s).env = s.env ∧ (wakeGroup gs s).jrn = s.jrn ∧ (wakeGroup gs s).err = s.err ∧
    (wakeGroup gs s).ports = s.ports ∧ (wakeGroup gs s).deck = s.deck ∧ (wakeGroup gs s).csn = s.csn ∧
    (wakeGroup gs s).fl = s.fl ∧ (wakeGroup gs s).host = s.host ∧ (wakeGroup gs s).fab = s.fab ∧
    (wakeGroup gs s).img = s.img ∧ (wakeGroup gs s).rcd = s.rcd ∧ (wakeGroup gs s).pmc = s.pmc ∧
    (wakeGroup gs s).abt = s.abt ∧ (wakeGroup gs s).mode = s.mode ∧ (wakeGroup gs s).key = s.key ∧
    (wakeGroup gs s).sb = s.sb ∧ (wakeGroup gs s).pending = s.pending := by
  unfold wakeGroup
  (repeat' split) <;> simp -implicitDefEqProofs (maxDischargeDepth := 6)

def Foot.wakeGroup : List Reg := [.ENG_CTL, .ENG_STAT]

@[simp] theorem wakeGroup_rd (gs : List Nat) (s : State) (reg : Reg) (rix : Nat) (hav : avoids Foot.wakeGroup reg = true) :
    (wakeGroup gs s).rd reg rix = s.rd reg rix := by
  have c0 : avoids Foot.wakeEng reg = true := avoids_mono (by decide) hav
  have f0 : reg ≠ F.ENG_CTL_PARK.reg := avoids_ne (by decide) hav
  have f1 : reg ≠ F.ENG_STAT_STATE.reg := avoids_ne (by decide) hav
  unfold wakeGroup
  (repeat' split) <;> simp -implicitDefEqProofs (maxDischargeDepth := 6) [*]

@[simp] theorem startLive_frame (c : Cmd) (s : State) :
    (startLive c s).csn = s.csn ∧ (startLive c s).fl = s.fl ∧ (startLive c s).fab = s.fab ∧ (startLive c s).abt = s.abt ∧
    (startLive c s).mode = s.mode ∧ (startLive c s).sb = s.sb ∧ (startLive c s).pending = s.pending := by
  unfold startLive
  (repeat' split) <;> simp -implicitDefEqProofs (maxDischargeDepth := 6)

def Foot.startLive : List Reg := [.ENG_STAT, .GLB_IMGERR, .GLB_IMGSTAT, .JNL_CMDRES, .JNL_HEAD, .JNL_STAT, .JNL_TAIL, .KEY_NONCE, .KEY_SLOT, .KEY_SLOTHASH, .KEY_STAT, .PIR_BUFEXP, .PIR_BUFOCC, .PIR_CPLTRK, .PIR_ERRCNT2, .PIR_EXPMON, .PIR_FBPORT, .PMC_BSTAT, .PMC_CNT, .PMC_STAT, .REC_TRGCFG, .REC_TRGCNT]

@[simp] theorem startLive_rd (c : Cmd) (s : State) (reg : Reg) (rix : Nat) (hav : avoids Foot.startLive reg = true) :
    (startLive c s).rd reg rix = s.rd reg rix := by
  have c0 : avoids Foot.failCmd reg = true := avoids_mono (by decide) hav
  have c1 : avoids Foot.runCmd reg = true := avoids_mono (by decide) hav
  have c2 : avoids Foot.setLive reg = true := avoids_mono (by decide) hav
  have c3 : avoids Foot.imgErr reg = true := avoids_mono (by decide) hav
  have f0 : reg ≠ F.GLB_IMGSTAT_LIVE_PIER.reg := avoids_ne (by decide) hav
  unfold startLive
  (repeat' split) <;> simp -implicitDefEqProofs (maxDischargeDepth := 6) [*]

@[simp] theorem liveLocked_frame (n : Nat) (s : State) :
    (liveLocked n s).csn = s.csn ∧ (liveLocked n s).fl = s.fl ∧ (liveLocked n s).fab = s.fab ∧
    (liveLocked n s).abt = s.abt ∧ (liveLocked n s).mode = s.mode ∧ (liveLocked n s).sb = s.sb ∧
    (liveLocked n s).pending = s.pending := by
  unfold liveLocked
  (repeat' split) <;> simp -implicitDefEqProofs (maxDischargeDepth := 6)

def Foot.liveLocked : List Reg := [.ENG_CTL, .ENG_STAT, .GLB_BANKSTAT, .GLB_IMGERR, .GLB_IMGSTAT, .JNL_CMDRES, .JNL_HEAD, .JNL_STAT, .JNL_TAIL, .KEY_NONCE, .KEY_SLOT, .KEY_SLOTHASH, .KEY_STAT, .PIR_BUFEXP, .PIR_BUFOCC, .PIR_CPLTRK, .PIR_DUTY, .PIR_ERRCNT2, .PIR_EXPMON, .PIR_FBPORT, .PMC_BSTAT, .PMC_CNT, .PMC_STAT, .REC_TRGCFG, .REC_TRGCNT, .SPN_FLSTAT, .SPN_LANE, .SPN_PSTAT]

@[simp] theorem liveLocked_rd (n : Nat) (s : State) (reg : Reg) (rix : Nat) (hav : avoids Foot.liveLocked reg = true) :
    (liveLocked n s).rd reg rix = s.rd reg rix := by
  have c0 : avoids Foot.liveAbort reg = true := avoids_mono (by decide) hav
  have c1 : avoids Foot.judgeBank reg = true := avoids_mono (by decide) hav
  unfold liveLocked
  (repeat' split) <;> simp -implicitDefEqProofs (maxDischargeDepth := 6) [*]

@[simp] theorem liveWaited_frame (l : Live) (s : State) :
    (liveWaited l s).fab = s.fab ∧ (liveWaited l s).abt = s.abt ∧ (liveWaited l s).sb = s.sb ∧
    (liveWaited l s).pending = s.pending := by
  unfold liveWaited
  (repeat' split) <;> simp -implicitDefEqProofs (maxDischargeDepth := 6)

def Foot.liveWaited : List Reg := [.CLK_ISLSTAT, .ENG_CTL, .ENG_STAT, .GLB_IMGERR, .GLB_IMGSTAT, .GLB_MODE, .JNL_CMDRES, .JNL_HEAD, .JNL_STAT, .JNL_TAIL, .KEY_NONCE, .KEY_SLOT, .KEY_SLOTHASH, .KEY_STAT, .PIR_BUFEXP, .PIR_BUFOCC, .PIR_CPLTRK, .PIR_DUTY, .PIR_ERRCNT2, .PIR_EXPMON, .PIR_FBPORT, .PMC_BSTAT, .PMC_CNT, .PMC_STAT, .PWD_STAT, .REC_TRGCFG, .REC_TRGCNT, .SPN_CALSTAT, .SPN_COEF, .SPN_FLSTAT, .SPN_LANE, .SPN_PSTAT]

@[simp] theorem liveWaited_rd (l : Live) (s : State) (reg : Reg) (rix : Nat) (hav : avoids Foot.liveWaited reg = true) :
    (liveWaited l s).rd reg rix = s.rd reg rix := by
  have c0 : avoids Foot.weighCauses reg = true := avoids_mono (by decide) hav
  unfold liveWaited
  (repeat' split) <;> simp -implicitDefEqProofs (maxDischargeDepth := 6) [*]

@[simp] theorem confirmLive_frame (l : Live) (n : Nat) (s : State) :
    (confirmLive l n s).csn = s.csn ∧ (confirmLive l n s).fl = s.fl ∧ (confirmLive l n s).fab = s.fab ∧
    (confirmLive l n s).abt = s.abt ∧ (confirmLive l n s).mode = s.mode ∧ (confirmLive l n s).sb = s.sb ∧
    (confirmLive l n s).pending = s.pending := by
  unfold confirmLive
  (repeat' split) <;> simp -implicitDefEqProofs (maxDischargeDepth := 6)

def Foot.confirmLive : List Reg := [.ENG_STAT, .GLB_IMGSTAT, .GLB_SEGBUILD, .JNL_CMDRES, .JNL_HEAD, .JNL_STAT, .JNL_TAIL, .KEY_NONCE, .KEY_SLOT, .KEY_SLOTHASH, .KEY_STAT, .PIR_BUFEXP, .PIR_BUFOCC, .PIR_CPLTRK, .PIR_ERRCNT2, .PIR_EXPMON, .PIR_FBPORT, .PMC_BSTAT, .PMC_CNT, .PMC_STAT, .REC_TRGCFG, .REC_TRGCNT]

@[simp] theorem confirmLive_rd (l : Live) (n : Nat) (s : State) (reg : Reg) (rix : Nat) (hav : avoids Foot.confirmLive reg = true) :
    (confirmLive l n s).rd reg rix = s.rd reg rix := by
  have c0 : avoids Foot.okCmd reg = true := avoids_mono (by decide) hav
  have c1 : avoids Foot.selectBank reg = true := avoids_mono (by decide) hav
  have f0 : reg ≠ F.GLB_IMGSTAT_LIVE.reg := avoids_ne (by decide) hav
  have f1 : reg ≠ .GLB_SEGBUILD := avoids_ne (by decide) hav
  unfold confirmLive
  (repeat' split) <;> simp -implicitDefEqProofs (maxDischargeDepth := 6) [*]

@[simp] theorem startReport_frame (c : Cmd) (s : State) :
    (startReport c s).csn = s.csn ∧ (startReport c s).fl = s.fl ∧ (startReport c s).fab = s.fab ∧
    (startReport c s).img = s.img ∧ (startReport c s).abt = s.abt ∧ (startReport c s).mode = s.mode ∧
    (startReport c s).sb = s.sb ∧ (startReport c s).pending = s.pending := by
  unfold startReport
  (repeat' split) <;> simp -implicitDefEqProofs (maxDischargeDepth := 6)

def Foot.startReport : List Reg := [.ENG_STAT, .JNL_CMDRES, .JNL_HEAD, .JNL_STAT, .JNL_TAIL, .KEY_NONCE, .KEY_SLOT, .KEY_SLOTHASH, .KEY_STAT, .PIR_BUFEXP, .PIR_BUFOCC, .PIR_CPLTRK, .PIR_ERRCNT2, .PIR_EXPMON, .PIR_FBPORT, .PMC_BSTAT, .PMC_CNT, .PMC_STAT, .REC_TRGCFG, .REC_TRGCNT]

@[simp] theorem startReport_rd (c : Cmd) (s : State) (reg : Reg) (rix : Nat) (hav : avoids Foot.startReport reg = true) :
    (startReport c s).rd reg rix = s.rd reg rix := by
  have c0 : avoids Foot.failCmd reg = true := avoids_mono (by decide) hav
  have c1 : avoids Foot.runCmd reg = true := avoids_mono (by decide) hav
  unfold startReport
  (repeat' split) <;> simp -implicitDefEqProofs (maxDischargeDepth := 6) [*]

@[simp] theorem startLifecycle_frame (c : Cmd) (s : State) :
    (startLifecycle c s).csn = s.csn ∧ (startLifecycle c s).fl = s.fl ∧ (startLifecycle c s).fab = s.fab ∧
    (startLifecycle c s).img = s.img ∧ (startLifecycle c s).abt = s.abt ∧ (startLifecycle c s).mode = s.mode ∧
    (startLifecycle c s).sb = s.sb ∧ (startLifecycle c s).pending = s.pending := by
  unfold startLifecycle
  (repeat' split) <;> simp -implicitDefEqProofs (maxDischargeDepth := 6)

def Foot.startLifecycle : List Reg := [.ENG_STAT, .JNL_CMDRES, .JNL_HEAD, .JNL_STAT, .JNL_TAIL, .KEY_NONCE, .KEY_SLOT, .KEY_SLOTHASH, .KEY_STAT, .PIR_BUFEXP, .PIR_BUFOCC, .PIR_CPLTRK, .PIR_ERRCNT2, .PIR_EXPMON, .PIR_FBPORT, .PMC_BSTAT, .PMC_CNT, .PMC_STAT, .REC_TRGCFG, .REC_TRGCNT]

@[simp] theorem startLifecycle_rd (c : Cmd) (s : State) (reg : Reg) (rix : Nat) (hav : avoids Foot.startLifecycle reg = true) :
    (startLifecycle c s).rd reg rix = s.rd reg rix := by
  have c1 : avoids Foot.attempt reg = true := avoids_mono (by decide) hav
  have c2 : avoids Foot.progress reg = true := avoids_mono (by decide) hav
  have c3 : avoids Foot.failCmd reg = true := avoids_mono (by decide) hav
  have c4 : avoids Foot.runCmd reg = true := avoids_mono (by decide) hav
  have f0 : reg ≠ F.JNL_STAT_CHKPT_BUSY.reg := avoids_ne (by decide) hav
  unfold startLifecycle
  (repeat' split) <;> simp -implicitDefEqProofs (maxDischargeDepth := 6) [*]

@[simp] theorem blowFuses_frame (s : State) :
    (blowFuses s).csn = s.csn ∧ (blowFuses s).fl = s.fl ∧ (blowFuses s).fab = s.fab ∧ (blowFuses s).img = s.img ∧
    (blowFuses s).abt = s.abt ∧ (blowFuses s).mode = s.mode ∧ (blowFuses s).sb = s.sb ∧ (blowFuses s).pending = s.pending := by
  unfold blowFuses
  (repeat' split) <;> simp -implicitDefEqProofs (maxDischargeDepth := 6)

def Foot.blowFuses : List Reg := [.ENG_STAT, .JNL_CMDRES, .JNL_HEAD, .JNL_STAT, .JNL_TAIL, .KEY_NONCE, .KEY_SLOT, .KEY_SLOTHASH, .KEY_STAT, .PIR_BUFEXP, .PIR_BUFOCC, .PIR_CPLTRK, .PIR_ERRCNT2, .PIR_EXPMON, .PIR_FBPORT, .PMC_BSTAT, .PMC_CNT, .PMC_STAT, .REC_TRGCFG, .REC_TRGCNT]

@[simp] theorem blowFuses_rd (s : State) (reg : Reg) (rix : Nat) (hav : avoids Foot.blowFuses reg = true) :
    (blowFuses s).rd reg rix = s.rd reg rix := by
  have c0 : avoids Foot.okCmd reg = true := avoids_mono (by decide) hav
  have c1 : avoids Foot.showIdentity reg = true := avoids_mono (by decide) hav
  have f0 : reg ≠ F.KEY_STAT_LCSTATE.reg := avoids_ne (by decide) hav
  unfold blowFuses
  (repeat' split) <;> simp -implicitDefEqProofs (maxDischargeDepth := 6) [*]

@[simp] theorem saveCheckpoint_frame (s : State) :
    (saveCheckpoint s).env = s.env ∧ (saveCheckpoint s).err = s.err ∧ (saveCheckpoint s).ports = s.ports ∧
    (saveCheckpoint s).deck = s.deck ∧ (saveCheckpoint s).csn = s.csn ∧ (saveCheckpoint s).fl = s.fl ∧
    (saveCheckpoint s).host = s.host ∧ (saveCheckpoint s).fab = s.fab ∧ (saveCheckpoint s).eng = s.eng ∧
    (saveCheckpoint s).img = s.img ∧ (saveCheckpoint s).rcd = s.rcd ∧ (saveCheckpoint s).pmc = s.pmc ∧
    (saveCheckpoint s).abt = s.abt ∧ (saveCheckpoint s).mode = s.mode ∧ (saveCheckpoint s).key = s.key ∧
    (saveCheckpoint s).sb = s.sb ∧ (saveCheckpoint s).pending = s.pending := by
  unfold saveCheckpoint
  (repeat' split) <;> simp -implicitDefEqProofs (maxDischargeDepth := 6)

def Foot.saveCheckpoint : List Reg := []

@[simp] theorem saveCheckpoint_rd (s : State) (reg : Reg) (rix : Nat) (hav : avoids Foot.saveCheckpoint reg = true) :
    (saveCheckpoint s).rd reg rix = s.rd reg rix := by
  unfold saveCheckpoint
  (repeat' split) <;> simp -implicitDefEqProofs (maxDischargeDepth := 6) [*]

@[simp] theorem shutdownFlush_frame (s : State) :
    (shutdownFlush s).env = s.env ∧ (shutdownFlush s).jrn = s.jrn ∧ (shutdownFlush s).err = s.err ∧
    (shutdownFlush s).ports = s.ports ∧ (shutdownFlush s).deck = s.deck ∧ (shutdownFlush s).csn = s.csn ∧
    (shutdownFlush s).fl = s.fl ∧ (shutdownFlush s).host = s.host ∧ (shutdownFlush s).fab = s.fab ∧
    (shutdownFlush s).eng = s.eng ∧ (shutdownFlush s).img = s.img ∧ (shutdownFlush s).pmc = s.pmc ∧
    (shutdownFlush s).abt = s.abt ∧ (shutdownFlush s).mode = s.mode ∧ (shutdownFlush s).key = s.key ∧
    (shutdownFlush s).sb = s.sb ∧ (shutdownFlush s).pending = s.pending := by
  unfold shutdownFlush
  (repeat' split) <;> simp -implicitDefEqProofs (maxDischargeDepth := 6)

def Foot.shutdownFlush : List Reg := [.REC_STAT]

@[simp] theorem shutdownFlush_rd (s : State) (reg : Reg) (rix : Nat) (hav : avoids Foot.shutdownFlush reg = true) :
    (shutdownFlush s).rd reg rix = s.rd reg rix := by
  have c0 : avoids Foot.flushStart reg = true := avoids_mono (by decide) hav
  unfold shutdownFlush
  (repeat' split) <;> simp -implicitDefEqProofs (maxDischargeDepth := 6) [*]

@[simp] theorem drainKeeper_frame (s : State) :
    (drainKeeper s).csn = s.csn ∧ (drainKeeper s).fl = s.fl ∧ (drainKeeper s).fab = s.fab ∧ (drainKeeper s).img = s.img ∧
    (drainKeeper s).abt = s.abt ∧ (drainKeeper s).mode = s.mode ∧ (drainKeeper s).key = s.key ∧ (drainKeeper s).sb = s.sb ∧
    (drainKeeper s).pending = s.pending := by
  unfold drainKeeper
  (repeat' split) <;> simp -implicitDefEqProofs (maxDischargeDepth := 6)

def Foot.drainKeeper : List Reg := [.ENG_STAT, .JNL_HEAD, .JNL_TAIL, .PIR_BUFEXP, .PIR_BUFOCC, .PIR_CPLTRK, .PIR_ERRCNT2, .PIR_EXPMON, .PIR_FBPORT, .PMC_BSTAT, .PMC_CNT, .PMC_STAT, .REC_TRGCFG, .REC_TRGCNT]

@[simp] theorem drainKeeper_rd (s : State) (reg : Reg) (rix : Nat) (hav : avoids Foot.drainKeeper reg = true) :
    (drainKeeper s).rd reg rix = s.rd reg rix := by
  have c0 : avoids Foot.numberEntry reg = true := avoids_mono (by decide) hav
  unfold drainKeeper
  (repeat' split) <;> simp -implicitDefEqProofs (maxDischargeDepth := 6) [*]

@[simp] theorem toLinear_frame (e num den : Int) (s : State) :
    ((toLinear e num den s)).2.jrn = s.jrn ∧ ((toLinear e num den s)).2.err = s.err ∧
    ((toLinear e num den s)).2.ports = s.ports ∧ ((toLinear e num den s)).2.deck = s.deck ∧
    ((toLinear e num den s)).2.csn = s.csn ∧ ((toLinear e num den s)).2.fl = s.fl ∧
    ((toLinear e num den s)).2.host = s.host ∧ ((toLinear e num den s)).2.fab = s.fab ∧
    ((toLinear e num den s)).2.eng = s.eng ∧ ((toLinear e num den s)).2.img = s.img ∧
    ((toLinear e num den s)).2.rcd = s.rcd ∧ ((toLinear e num den s)).2.pmc = s.pmc ∧
    ((toLinear e num den s)).2.abt = s.abt ∧ ((toLinear e num den s)).2.mode = s.mode ∧
    ((toLinear e num den s)).2.key = s.key ∧ ((toLinear e num den s)).2.sb = s.sb ∧
    ((toLinear e num den s)).2.pending = s.pending := by
  unfold toLinear
  (repeat' split) <;> simp -implicitDefEqProofs (maxDischargeDepth := 6)

def Foot.toLinear : List Reg := []

@[simp] theorem toLinear_rd (e num den : Int) (s : State) (reg : Reg) (rix : Nat) (hav : avoids Foot.toLinear reg = true) :
    ((toLinear e num den s)).2.rd reg rix = s.rd reg rix := by
  unfold toLinear
  (repeat' split) <;> simp -implicitDefEqProofs (maxDischargeDepth := 6) [*]

@[simp] theorem fromLinear_frame (w : BitVec 16) (per : Int) (width : Nat) (s : State) :
    ((fromLinear w per width s)).2.jrn = s.jrn ∧ ((fromLinear w per width s)).2.err = s.err ∧
    ((fromLinear w per width s)).2.ports = s.ports ∧ ((fromLinear w per width s)).2.deck = s.deck ∧
    ((fromLinear w per width s)).2.csn = s.csn ∧ ((fromLinear w per width s)).2.fl = s.fl ∧
    ((fromLinear w per width s)).2.host = s.host ∧ ((fromLinear w per width s)).2.fab = s.fab ∧
    ((fromLinear w per width s)).2.eng = s.eng ∧ ((fromLinear w per width s)).2.img = s.img ∧
    ((fromLinear w per width s)).2.rcd = s.rcd ∧ ((fromLinear w per width s)).2.pmc = s.pmc ∧
    ((fromLinear w per width s)).2.abt = s.abt ∧ ((fromLinear w per width s)).2.mode = s.mode ∧
    ((fromLinear w per width s)).2.key = s.key ∧ ((fromLinear w per width s)).2.sb = s.sb ∧
    ((fromLinear w per width s)).2.pending = s.pending := by
  unfold fromLinear
  (repeat' split) <;> simp -implicitDefEqProofs (maxDischargeDepth := 6)

def Foot.fromLinear : List Reg := []

@[simp] theorem fromLinear_rd (w : BitVec 16) (per : Int) (width : Nat) (s : State) (reg : Reg) (rix : Nat) (hav : avoids Foot.fromLinear reg = true) :
    ((fromLinear w per width s)).2.rd reg rix = s.rd reg rix := by
  unfold fromLinear
  (repeat' split) <;> simp -implicitDefEqProofs (maxDischargeDepth := 6) [*]

@[simp] theorem pmbReply_frame (l : List Byte) (s : State) :
    (pmbReply l s).env = s.env ∧ (pmbReply l s).jrn = s.jrn ∧ (pmbReply l s).err = s.err ∧ (pmbReply l s).ports = s.ports ∧
    (pmbReply l s).deck = s.deck ∧ (pmbReply l s).csn = s.csn ∧ (pmbReply l s).fl = s.fl ∧ (pmbReply l s).host = s.host ∧
    (pmbReply l s).fab = s.fab ∧ (pmbReply l s).eng = s.eng ∧ (pmbReply l s).img = s.img ∧ (pmbReply l s).rcd = s.rcd ∧
    (pmbReply l s).pmc = s.pmc ∧ (pmbReply l s).abt = s.abt ∧ (pmbReply l s).mode = s.mode ∧ (pmbReply l s).key = s.key ∧
    (pmbReply l s).pending = s.pending := by
  unfold pmbReply
  (repeat' split) <;> simp -implicitDefEqProofs (maxDischargeDepth := 6)

def Foot.pmbReply : List Reg := []

@[simp] theorem pmbReply_rd (l : List Byte) (s : State) (reg : Reg) (rix : Nat) (hav : avoids Foot.pmbReply reg = true) :
    (pmbReply l s).rd reg rix = s.rd reg rix := by
  unfold pmbReply
  (repeat' split) <;> simp -implicitDefEqProofs (maxDischargeDepth := 6) [*]

@[simp] theorem pmbLinear_frame (e num den : Int) (s : State) :
    (pmbLinear e num den s).jrn = s.jrn ∧ (pmbLinear e num den s).err = s.err ∧ (pmbLinear e num den s).ports = s.ports ∧
    (pmbLinear e num den s).deck = s.deck ∧ (pmbLinear e num den s).csn = s.csn ∧ (pmbLinear e num den s).fl = s.fl ∧
    (pmbLinear e num den s).host = s.host ∧ (pmbLinear e num den s).fab = s.fab ∧ (pmbLinear e num den s).eng = s.eng ∧
    (pmbLinear e num den s).img = s.img ∧ (pmbLinear e num den s).rcd = s.rcd ∧ (pmbLinear e num den s).pmc = s.pmc ∧
    (pmbLinear e num den s).abt = s.abt ∧ (pmbLinear e num den s).mode = s.mode ∧ (pmbLinear e num den s).key = s.key ∧
    (pmbLinear e num den s).pending = s.pending := by
  unfold pmbLinear
  (repeat' split) <;> simp -implicitDefEqProofs (maxDischargeDepth := 6)

def Foot.pmbLinear : List Reg := []

@[simp] theorem pmbLinear_rd (e num den : Int) (s : State) (reg : Reg) (rix : Nat) (hav : avoids Foot.pmbLinear reg = true) :
    (pmbLinear e num den s).rd reg rix = s.rd reg rix := by
  have c0 : avoids Foot.toLinear reg = true := avoids_mono (by decide) hav
  have c1 : avoids Foot.pmbReply reg = true := avoids_mono (by decide) hav
  unfold pmbLinear
  (repeat' split) <;> simp -implicitDefEqProofs (maxDischargeDepth := 6) [*]

end Sys2Proof.Machine
end

