-- ==== Sys2Proof/Laws/Fields.lean ====
section
/-! SUPPORT. Reads of a field through the writes around it; links and loops. -/

set_option maxRecDepth 3000

namespace Sys2Proof.Machine

theorem State.f_congr {s t : State} {g : Fld} {i : Nat} (h : t.rd g.reg i = s.rd g.reg i) : t.f g i = s.f g i := by simp [State.f, h]

theorem State.f_setf_eq (s : State) (f g : Fld) (i v : Nat) (hg : g = f) (h : f.Ok) : (s.setf f i v).f g i = v % 2 ^ f.width := by
  subst hg; exact State.f_setf_self s g i v h

theorem State.f_satf_self (s : State) (f : Fld) (i n : Nat) (h : f.Ok) :
    (s.satf f i n).f f i = min (2 ^ f.width - 1) (s.f f i + n) := by
  unfold State.satf
  rw [State.f_setf_self _ _ _ _ h, Nat.mod_eq_of_lt]
  have : 0 < 2 ^ f.width := Nat.two_pow_pos _
  omega

theorem State.f_satf_apart (s : State) (f g : Fld) (i j n : Nat) (h : f.apart g = true) : (s.satf f j n).f g i = s.f g i :=
  State.f_setf_apart _ _ _ _ _ _ h

theorem State.b_satf_apart (s : State) (f g : Fld) (i j n : Nat) (h : f.apart g = true) : (s.satf f j n).b g i = s.b g i := by
  simp [State.b, State.f_satf_apart s f g i j n h]

theorem State.f_wr_reg' (s : State) (f : Fld) (q : Reg) (i j : Nat) (w : Word) (h : f.reg ≠ q) :
    (s.wr q j w).f f i = s.f f i := State.f_wr_reg s f q i j w h

@[simp] theorem State.f_mk (R : SMap Word) (a0 : Env) (a1 : Jrn) (a2 : Err) (a3 : Ports) (a4 : Deck) (a5 : Csn) (a6 : Floing)
    (a7 : HostS) (a8 : Fab) (a9 : Eng) (b0 : Img) (b1 : Recd) (b2 : Pmc) (b3 : Abt) (b4 : ModeS) (b5 : KeyS) (b6 : Side)
    (b7 : List Instr) (g : Fld) (i : Nat) :
    State.f ⟨R, a0, a1, a2, a3, a4, a5, a6, a7, a8, a9, b0, b1, b2, b3, b4, b5, b6, b7⟩ g i =
      g.get (SMap.get (g.reg.reset i) R (regKey g.reg i)) := rfl

@[simp] theorem get_f (s : State) (g : Fld) (i : Nat) : g.get (SMap.get (g.reg.reset i) s.regs (regKey g.reg i)) = s.f g i := rfl

@[simp] theorem f_setPort (s : State) (p : Nat) (x : Port) (g : Fld) (i : Nat) : (s.setPort p x).f g i = s.f g i := rfl

@[simp] theorem b_setPort (s : State) (p : Nat) (x : Port) (g : Fld) (i : Nat) : (s.setPort p x).b g i = s.b g i := rfl

theorem f_forEach {α : Type} (l : List α) (k : α → State → State) (s : State) (g : Fld) (i : Nat)
    (h : ∀ a ∈ l, ∀ s, (k a s).f g i = s.f g i) : (forEach l k s).f g i = s.f g i :=
  forEach_keeps l k s (fun s => s.f g i) h

theorem f_forRange (n : Nat) (k : Nat → State → State) (s : State) (g : Fld) (i : Nat)
    (h : ∀ a < n, ∀ s, (k a s).f g i = s.f g i) : (forRange n k s).f g i = s.f g i :=
  forRange_keeps n k s (fun s => s.f g i) h

theorem f_ite (c : Prop) [Decidable c] (a b : State) (g : Fld) (i : Nat) : (if c then a else b).f g i = if c then a.f g i else b.f g i :=
  apply_ite (fun s : State => s.f g i) c a b

theorem onlyRaw_live {s u : State} {ps rs} {q} (h1 : ∀ p, p ∉ ps → Piece.same p s u) (h2 : ∀ r, r ∉ rs → ∀ i, u.rd r i = s.rd r i) :
    Only ps rs s (finish q u) :=
  ⟨fun p hp => by have := h1 p hp; cases p <;> exact this, fun g i hg hr => by rw [finish_f _ _ _ _ hg]; simp [State.f, h2 _ hr i]⟩

theorem avoids_of {a b : List Reg} {r : Reg} (hab : a.all (fun x => b.contains x) = true) (h : r ∉ b) : avoids a r = true := by
  simp only [avoids, List.all_eq_true, bne_iff_ne, ne_eq, List.contains_iff_mem] at *
  exact fun x hx e => h (e ▸ hab x hx)

theorem ne_of_nm {b : List Reg} {r q : Reg} (hq : b.contains q = true) (h : r ∉ b) : r ≠ q := by
  simp only [List.contains_iff_mem] at hq
  exact fun e => h (e ▸ hq)


theorem FldRange (s : State) (g : Fld) (i : Nat) : s.f g i < 2 ^ g.width := by
  unfold State.f Fld.get; exact Nat.mod_lt _ (Nat.two_pow_pos _)

theorem b_of_f {s : State} {g : Fld} {i : Nat} {v : Nat} (h : s.f g i = v) : s.b g i = (v != 0) := by simp [State.b, h]


theorem linkSt_congr {s t : State} {p : Nat} (h1 : t.f F.SPN_PSTAT_LTSSM p = s.f F.SPN_PSTAT_LTSSM p)
    (h2 : t.f F.SPN_PSTAT_PMSTATE p = s.f F.SPN_PSTAT_PMSTATE p) : linkSt t p = linkSt s p := by
  unfold linkSt ltssm; rw [h1, h2]

theorem linkSt_of {s : State} {p c m : Nat} (h1 : s.f F.SPN_PSTAT_LTSSM p = c)
    (h2 : s.f F.SPN_PSTAT_PMSTATE p = m) : linkSt s p = (if c = 0x30 then .off else if c = 0x34 then .closed
  else if c = 0x10 ∨ c = 0x14 then .recovery
  else if c = 0x18 ∨ c = 0x1C then .lowpower
  else if c = 0x0C then (if m = 0 then .active else .lowpower)
  else .training) := by
  unfold linkSt ltssm; rw [h1, h2]

theorem phyOn_congr {s t : State} {p : Nat} (h1 : ∀ i, t.f F.GLB_SPANFORM_FORM i = s.f F.GLB_SPANFORM_FORM i)
    (h2 : ∀ i, t.f F.PWD_STAT_STATE i = s.f F.PWD_STAT_STATE i) : phyOn t p = phyOn s p := by
  unfold phyOn spansOf form domOn domState
  simp only [h1, h2]


theorem bit_val (c : Bool) : ((if c = true then 1 else 0) != 0) = c := by cases c <;> rfl

theorem bit_valn (c : Bool) (w : Nat) (h : 0 < w) : ((if c = true then 1 else 0) % 2 ^ w) = if c = true then 1 else 0 := by
  have : 1 < 2 ^ w := Nat.one_lt_two_pow (by omega)
  cases c
  · simp
  · simp [Nat.mod_eq_of_lt this]

theorem port_setPort (s : State) (p : Nat) (x : Port) : (s.setPort p x).port p = x := by simp [State.port, State.setPort]

theorem port_setf (s : State) (f : Fld) (i v p : Nat) : (s.setf f i v).port p = s.port p := rfl

theorem port_finish (q) (s : State) (p : Nat) : (finish q s).port p = s.port p := by simp [State.port]

theorem phyOn_setf (s : State) (f : Fld) (i v p : Nat) (h1 : f.reg ≠ .GLB_SPANFORM) (h2 : f.reg ≠ .PWD_STAT) : phyOn (s.setf f i v) p = phyOn s p :=
  phyOn_congr (fun _ => State.f_wr_reg' _ _ _ _ _ _ (fun e => h1 e.symm)) (fun _ => State.f_wr_reg' _ _ _ _ _ _ (fun e => h2 e.symm))

theorem b_def (s : State) (g i) : s.b g i = (s.f g i != 0) := rfl

theorem linkSt_setf (s : State) (f : Fld) (i v p : Nat) (h : i ≠ p) : linkSt (s.setf f i v) p = linkSt s p :=
  linkSt_congr (State.f_setf_idx _ _ _ _ _ _ (fun e => h e.symm)) (State.f_setf_idx _ _ _ _ _ _ (fun e => h e.symm))

def inRec (p : Nat) (s : State) : Prop := s.f F.SPN_PSTAT_LTSSM p = 0x10 ∧ s.f F.SPN_PSTAT_PMSTATE p = 0

theorem toRecovery_inRec (p q : Nat) (s : State) (h : inRec p s) : inRec p (toRecovery q s) := by
  unfold toRecovery
  split
  · by_cases hq : q = p
    · subst hq
      refine ⟨?_, ?_⟩ <;> (try simp -implicitDefEqProofs (disch := decide) only [f_setPort, State.f_setf_eq, State.f_setf_apart]) <;> (try rfl)
    · refine ⟨?_, ?_⟩
      · rw [f_setPort, State.f_setf_idx _ _ _ _ _ _ (fun e => hq e.symm), State.f_setf_idx _ _ _ _ _ _ (fun e => hq e.symm)]; exact h.1
      · rw [f_setPort, State.f_setf_idx _ _ _ _ _ _ (fun e => hq e.symm), State.f_setf_idx _ _ _ _ _ _ (fun e => hq e.symm)]; exact h.2
  · exact h

theorem toRecovery_enters (p : Nat) (s : State) (h : linkSt s p = .active ∨ linkSt s p = .lowpower) : inRec p (toRecovery p s) := by
  unfold toRecovery
  rw [if_pos (by rcases h with h | h <;> simp [h])]
  refine ⟨?_, ?_⟩ <;> (try simp -implicitDefEqProofs (disch := decide) only [f_setPort, State.f_setf_eq, State.f_setf_apart]) <;> (try rfl)

theorem forRange_inv {P : State → Prop} (n : Nat) (k : Nat → State → State) (s : State) (h0 : P s) (h : ∀ a < n, ∀ s, P s → P (k a s)) :
    P (forRange n k s) := by
  unfold forRange
  have : ∀ l : List Nat, (∀ a ∈ l, a < n) → ∀ s, P s → P (l.foldl (fun s i => k i s) s) := by
    intro l; induction l with
    | nil => intro _ s hs; exact hs
    | cons a l ih => intro hl s hs; exact ih (fun b hb => hl b (List.mem_cons_of_mem _ hb)) _ (h a (hl a (List.mem_cons_self)) s hs)
  exact this _ (by simp) s h0

theorem forRange_reach {P Q : State → Prop} (n k0 : Nat) (k : Nat → State → State) (s : State) (hk : k0 < n) (h0 : P s)
    (hP : ∀ a, a ≠ k0 → ∀ s, P s → P (k a s)) (hq : ∀ s, P s → Q (k k0 s)) (hQ : ∀ a, ∀ s, Q s → Q (k a s)) : Q (forRange n k s) := by
  unfold forRange
  have : ∀ l : List Nat, ∀ s, (P s ∧ k0 ∈ l) ∨ Q s → Q (l.foldl (fun s i => k i s) s) := by
    intro l
    induction l with
    | nil => intro s hs; rcases hs with ⟨_, h⟩ | h
             · cases h
             · exact h
    | cons a l ih =>
      intro s hs
      rw [List.foldl_cons]
      apply ih
      rcases hs with ⟨h, hm⟩ | h
      · by_cases e : a = k0
        · subst e; exact .inr (hq _ h)
        · refine .inl ⟨hP _ e _ h, ?_⟩
          rcases List.mem_cons.1 hm with e2 | e2
          · exact absurd e2.symm e
          · exact e2
      · exact .inr (hQ _ _ h)
  exact this _ _ (.inl ⟨h0, by simpa using hk⟩)

theorem inRec_congr {p : Nat} {s t : State} (h : ∀ g i, g.reg = .SPN_PSTAT → t.f g i = s.f g i) (hs : inRec p s) : inRec p t :=
  ⟨(h _ _ rfl).trans hs.1, (h _ _ rfl).trans hs.2⟩

/-- What a command may do, said before its finish: the pieces and registers outside the lists are as before. -/
def OnlyRaw (ps : List Piece) (rs : List Reg) (s t : State) : Prop :=
  (∀ p, p ∉ ps → p.same s t) ∧ (∀ r, r ∉ rs → ∀ i, t.rd r i = s.rd r i)

theorem only_live (s : State) (f : State → State) (ps : List Piece) (rs : List Reg) (h : OnlyRaw ps rs s (f s)) :
    Keeps (live s f) (Only ps rs s) := by
  intro t ht
  unfold live at ht
  split at ht <;> cases ht
  · exact ⟨fun p hp => by have := h.1 p hp; cases p <;> exact this,
      fun g i hg hr => by rw [finish_f _ _ _ _ hg]; simp [State.f, h.2 _ hr i]⟩
  · exact ⟨fun p _ => by cases p <;> rfl, fun _ _ _ _ => rfl⟩

end Sys2Proof.Machine
end

