-- ==== Sys2Proof/Laws/Writes.lean ====
section
/-! SUPPORT. What a write that lands does: the register's effect, and the bits of the written word it sees. -/

set_option maxRecDepth 3000

namespace Sys2Proof.Machine

theorem lands_apply {r i w s} (L : Lands r i w s) : regWriteReg r i w s = regApply r (bankedIdx w.org r i) (r.offset i) w s := by
  unfold regWriteReg regWrite regWriteIn
  have := L.owner
  have := L.command
  have := L.room
  simp only [L.gate, Bool.not_true, Bool.false_eq_true, if_false, L.found]
  unfold regWriteAt
  dsimp only
  rw [if_neg (by simp; intro h; exact L.owner h), if_neg (by simp [L.access]), if_neg (by simp [L.unlocked]), if_neg L.bits,
    if_neg (by simp; intro h h2; exact L.command h h2), if_neg (by rcases L.room with h | h <;> simp [h])]

theorem regApply_f (r i off w s) (g : Fld) (j : Nat) (h : avoids Foot.islandEntry g.reg = true) :
    (regApply r i off w s).f g j = (regEffect r (wrCtx r i w s) s).1.f g j := by
  unfold regApply
  have key (x : State × Bool) : (if x.2 = true then shadowed r i x.1 else x.1).f g j = x.1.f g j := by
    split
    · exact State.f_congr (shadowed_rd _ _ _ _ _ rfl)
    · rfl
  dsimp only
  split
  · exact key _
  · rw [State.f_congr (islandEntry_rd _ _ _ _ _ h), key]

theorem regApply_rd (r i off w s) (g : Reg) (j : Nat) (h : avoids Foot.islandEntry g = true) :
    (regApply r i off w s).rd g j = (regEffect r (wrCtx r i w s) s).1.rd g j := by
  unfold regApply
  have key (x : State × Bool) : (if x.2 = true then shadowed r i x.1 else x.1).rd g j = x.1.rd g j := by
    split
    · exact shadowed_rd _ _ _ _ _ rfl
    · rfl
  dsimp only
  split
  · exact key _
  · rw [islandEntry_rd _ _ _ _ _ h, key]

theorem regApply_part (r i off w s) (p : Piece) (h : p ∈ [Piece.csn, .fl, .fab, .abt, .mode, .key, .sb]) :
    p.same (regEffect r (wrCtx r i w s) s).1 (regApply r i off w s) := by
  unfold regApply
  have key (x : State × Bool) : p.same x.1 (if x.2 = true then shadowed r i x.1 else x.1) := by
    split
    · have := shadowed_frame r i x.1
      cases p <;> simp_all [Piece.same]
    · cases p <;> rfl
  dsimp only
  split
  · exact key _
  · have k := key (regEffect r (wrCtx r i w s) s)
    revert k
    intro k
    cases p <;> simp_all [Piece.same]

theorem be_bit (be : BitVec 4) (k : Nat) (hk : k < 32) : (beBits be).getLsbD k = be.getLsbD (k / 8) := by
  have : ∀ be : BitVec 4, ∀ k : Fin 32, (beBits be).getLsbD k.val = be.getLsbD (k.val / 8) := by decide +kernel
  exact this be ⟨k, hk⟩

theorem touch_bit (m k : Nat) (hk : k < 32) (h : (BitVec.ofNat 4 (((List.range 4).map (fun k => if m / 256 ^ k % 256 != 0 then 2 ^ k else 0)).sum)).getLsbD (k / 8) = true) (w : RegW) :
    (beBits (RegW.touching w m).be).getLsbD k = true := by
  rw [be_bit _ _ hk]; unfold RegW.touching; simp only [BitVec.getLsbD_or, h, Bool.or_true]

theorem wrCtx_put_bit (r i w s) (k : Nat) : (wrCtx r i w s).put.getLsbD k = (w.val.getLsbD k && (beBits w.be).getLsbD k &&
   (((writable r i).rw ||| (writable r i).rwl ||| (writable r i).w1c ||| (writable r i).w1s ||| (writable r i).wo) : Word).getLsbD k) := by
  simp [wrCtx]

theorem wrCtx_bits (r i w s) : (wrCtx r i w s).bits = beBits w.be := rfl

theorem wrCtx_i (r i w s) : (wrCtx r i w s).i = i := rfl

theorem get1 (f : Fld) (w : Word) (h : f.lo = f.hi) (hb : w.getLsbD f.lo = true) : f.get w = 1 := by
  unfold Fld.get Fld.width
  have : f.hi + 1 - f.lo = 1 := by omega
  rw [this]
  have := BitVec.testBit_toNat w (i := f.lo)
  rw [hb, Nat.testBit_eq_decide_div_mod_eq] at this
  simp [Nat.shiftRight_eq_div_pow] at this ⊢
  exact this

theorem new_bit (r i w s) (k : Nat) (h1 : ((writable r i).rw ||| (writable r i).rwl : Word).getLsbD k = true) (h2 : (beBits w.be).getLsbD k = true)
    (h3 : ((writable r i).w1c : Word).getLsbD k = false) (h4 : ((writable r i).w1s : Word).getLsbD k = false) :
    (wrCtx r i w s).new.getLsbD k = w.val.getLsbD k := by
  have hk : k < 32 := BitVec.lt_of_getLsbD h2
  have h1' := h1
  rw [BitVec.getLsbD_or] at h1'
  have e : (wrCtx r i w s).new.getLsbD k = ((((s.rd r i).getLsbD k && !(((writable r i).rw ||| (writable r i).rwl : Word).getLsbD k && (beBits w.be).getLsbD k)
     || w.val.getLsbD k && (((writable r i).rw ||| (writable r i).rwl : Word).getLsbD k && (beBits w.be).getLsbD k))
     && !(w.val.getLsbD k && ((writable r i).w1c : Word).getLsbD k && (beBits w.be).getLsbD k)) || (w.val.getLsbD k && ((writable r i).w1s : Word).getLsbD k && (beBits w.be).getLsbD k)) := by
    unfold wrCtx applyWrite
    simp only [BitVec.getLsbD_or, BitVec.getLsbD_and, BitVec.getLsbD_not, hk, decide_true, Bool.true_and]
  rw [e, h1, h2, h3, h4]; simp

theorem new_get (r i w s) (g : Fld) (hg : g.Ok) (h1 : ∀ k, g.lo ≤ k → k ≤ g.hi → ((writable r i).rw ||| (writable r i).rwl : Word).getLsbD k = true)
    (h2 : ∀ k, g.lo ≤ k → k ≤ g.hi → (beBits w.be).getLsbD k = true)
    (h3 : ((writable r i).w1c : Word) = 0) (h4 : ((writable r i).w1s : Word) = 0) :
    g.get (wrCtx r i w s).new = g.get w.val := by
  apply Nat.eq_of_testBit_eq
  intro k
  rw [Fld.get_testBit, Fld.get_testBit]
  by_cases hk : k < g.width
  · unfold Fld.width at hk
    rw [new_bit]
    · exact h1 _ (by omega) (by omega)
    · exact h2 _ (by omega) (by omega)
    · simp [h3]
    · simp [h4]
  · simp [hk]

theorem put_get (r i w s) (g : Fld) (hg : g.Ok) (h1 : ∀ k, g.lo ≤ k → k ≤ g.hi → (((writable r i).rw ||| (writable r i).rwl ||| (writable r i).w1c ||| (writable r i).w1s ||| (writable r i).wo) : Word).getLsbD k = true)
    (h2 : ∀ k, g.lo ≤ k → k ≤ g.hi → (beBits w.be).getLsbD k = true) :
    g.get (wrCtx r i w s).put = g.get w.val := by
  apply Nat.eq_of_testBit_eq
  intro k
  rw [Fld.get_testBit, Fld.get_testBit]
  by_cases hk : k < g.width
  · unfold Fld.width at hk
    rw [wrCtx_put_bit, h1 _ (by omega) (by omega), h2 _ (by omega) (by omega)]
    simp
  · simp [hk]

theorem touch_all (m lo hi : Nat) (hhi : hi < 32) (h : ∀ k, lo ≤ k → k ≤ hi → (BitVec.ofNat 4 (((List.range 4).map (fun k => if m / 256 ^ k % 256 != 0 then 2 ^ k else 0)).sum)).getLsbD (k / 8) = true) (w : RegW) :
   ∀ k, lo ≤ k → k ≤ hi → (beBits (RegW.touching w m).be).getLsbD k = true := by
  intro k h1 h2
  exact touch_bit m k (by omega) (h k h1 h2) w

theorem plain_writable (r : Reg) (i : Nat) (h : r ≠ .GTE_WBASE ∧ r ≠ .GTE_WLIMIT ∧ r ≠ .CSN_TAGBASE) : writable r i = r.masks := by
  unfold writable; cases r <;> first | rfl | simp at h

abbrev Masks.all (m : Masks) : Word := m.rw ||| m.rwl ||| m.w1c ||| m.w1s ||| m.wo

theorem with1_wrote (r i w s) (m : Nat) (f : Fld) (h0 : f.lo = f.hi) (h1 : f.hi < 32)
   (h2 : (BitVec.ofNat 4 (((List.range 4).map (fun k => if m / 256 ^ k % 256 != 0 then 2 ^ k else 0)).sum)).getLsbD (f.lo / 8) = true)
   (h3 : (BitVec.ofNat 32 m).getLsbD f.lo = true) (h5 : r ≠ .GTE_WBASE ∧ r ≠ .GTE_WLIMIT ∧ r ≠ .CSN_TAGBASE) (h4 : r.masks.all.getLsbD f.lo = true) :
   (wrCtx r i (RegW.with1 w m) s).wrote f = 1 := by
  unfold WrCtx.wrote
  apply get1 _ _ h0
  rw [wrCtx_put_bit, RegW.with1, touch_bit _ _ (by omega) h2]
  have h : (RegW.touching {w with val := w.val ||| BitVec.ofNat 32 m} m).val = w.val ||| BitVec.ofNat 32 m := rfl
  rw [h, BitVec.getLsbD_or, h3]
  simp only [Bool.or_true, Bool.true_and, Bool.and_true]
  rw [plain_writable r i h5]; exact h4

theorem wordW_put (r i org v s) : (wrCtx r i (wordW org v) s).put = BitVec.ofNat 32 v &&& (writable r i).all := by
  have : (wrCtx r i (wordW org v) s).put = BitVec.ofNat 32 v &&& beBits 0xF &&& (writable r i).all := rfl
  rw [this, show beBits 0xF = BitVec.allOnes 32 by decide, BitVec.and_allOnes]

theorem eff_GLB_ERRCTL (c s) : regEffect .GLB_ERRCTL c s = (wrErrctl c s) := rfl
theorem eff_GLB_TCLOSE (c s) : regEffect .GLB_TCLOSE c s = (wrTenants tenantClose c s) := rfl
theorem eff_GLB_TRELEASE (c s) : regEffect .GLB_TRELEASE c s = (wrTenants tenantRelease c s) := rfl
theorem eff_GLB_THERM (c s) : regEffect .GLB_THERM c s = (wrTherm c s) := rfl
theorem eff_ABT_FCTL (c s) : regEffect .ABT_FCTL c s = (wrFctl c s) := rfl
theorem eff_REC_FIRE (c s) : regEffect .REC_FIRE c s = (wrFire c s) := rfl
theorem eff_SPN_CTL (c s) : regEffect .SPN_CTL c s = (wrSpnCtl c s) := rfl
theorem eff_SPN_CLKMODE (c s) : regEffect .SPN_CLKMODE c s = (wrClkmode c s) := rfl
theorem eff_SPN_LANE (c s) : regEffect .SPN_LANE c s = (wrLane c s) := rfl
theorem eff_SPN_FLCTL (c s) : regEffect .SPN_FLCTL c s = (wrFlctl c s) := rfl
theorem eff_SPN_FLVC (c s) : regEffect .SPN_FLVC c s = (wrFlvc c s) := rfl
theorem eff_ENG_CTL (c s) : regEffect .ENG_CTL c s = (wrEngCtl c s) := rfl
theorem eff_PIR_PMAP (c s) : regEffect .PIR_PMAP c s = (wrPmap c s) := rfl
theorem eff_PIR_FROUTE (c s) : regEffect .PIR_FROUTE c s = (wrFroute c s) := rfl
theorem eff_PIR_CLOSE (c s) : regEffect .PIR_CLOSE c s = (wrClose c s) := rfl
theorem eff_DCK_CTL (c s) : regEffect .DCK_CTL c s = (wrDckCtl c s) := rfl
theorem eff_CSN_TAGCMD (c s) : regEffect .CSN_TAGCMD c s = (wrTagcmd c s) := rfl
theorem eff_GTE_WATTR (c s) : regEffect .GTE_WATTR c s = (wrWattr c s) := rfl
theorem eff_TNT_PORTDEF (c s) : regEffect .TNT_PORTDEF c s = (wrPortdef c s) := rfl
theorem eff_TNT_ENTCTL (c s) : regEffect .TNT_ENTCTL c s = (wrEntctl c s) := rfl
theorem eff_PMC_CMD (c s) : regEffect .PMC_CMD c s = (wrPmcCmd c s) := rfl
theorem eff_PMC_BCTL (c s) : regEffect .PMC_BCTL c s = (wrBctl c s) := rfl
theorem eff_PMC_EVT (c s) : regEffect .PMC_EVT c s = (wrEvt c s) := rfl
theorem eff_PWD_CTL (c s) : regEffect .PWD_CTL c s = (wrPwdCtl c s) := rfl
theorem eff_ABT_VTHR0 (c s) : regEffect .ABT_VTHR0 c s = (wrVthr .ABT_VTHR0 c s) := rfl
theorem eff_ABT_VTHR1 (c s) : regEffect .ABT_VTHR1 c s = (wrVthr .ABT_VTHR1 c s) := rfl
theorem eff_PIR_BUFCFG (c s) : regEffect .PIR_BUFCFG c s = (wrReserve .PIR_BUFCFG c.i c s) := rfl
theorem eff_PIR_BUFTHR (c s) : regEffect .PIR_BUFTHR c s = (wrReserve .PIR_BUFTHR (c.i / 128) c s) := rfl
theorem eff_GTE_WBASE (c s) : regEffect .GTE_WBASE c s = (wrBounds .GTE_WBASE c s) := rfl
theorem eff_GTE_WLIMIT (c s) : regEffect .GTE_WLIMIT c s = (wrBounds .GTE_WLIMIT c s) := rfl
theorem eff_SPN_PMCTL (c s) : regEffect .SPN_PMCTL c s = (wrPmctl c s) := rfl
theorem eff_SPN_CALCTL (c s) : regEffect .SPN_CALCTL c s = (wrCalctl c s) := rfl
theorem eff_KEY_CMD (c s) : regEffect .KEY_CMD c s = (if privileged s c.org then keyCmd c.put s else refuse s) := rfl
theorem eff_KEY_STGDATA (c s) : regEffect .KEY_STGDATA c s = (stageWrite (privileged s c.org) (c.put ||| ~~~c.bits) s) := rfl
theorem eff_JNL_CMDGO (c s) : regEffect .JNL_CMDGO c s = ((if c.wrote F.JNL_CMDGO_GO = 1 then submit c.org (bankDesc s c.i) s else s, true)) := rfl
theorem eff_ABT_VMIN (c s) : regEffect .ABT_VMIN c s = ((if c.wrote F.ABT_VMIN_CLR = 1 then s.setf F.ABT_VMIN_VMIN 0 0xFFFF else s, true)) := rfl
theorem eff_PIR_EPCFG (c s) : regEffect .PIR_EPCFG c s = ((fillPolicer c.i (s.wr .PIR_EPCFG c.i c.new), true)) := rfl
theorem eff_PIR_QRATE (c s) : regEffect .PIR_QRATE c s = ((resetQBucket (c.i / 8) (c.i % 8) (s.wr .PIR_QRATE c.i c.new), true)) := rfl
theorem eff_PIR_TSRATE (c s) : regEffect .PIR_TSRATE c s = ((resetTBucket (c.i / 512) (c.i % 512) (s.wr .PIR_TSRATE c.i c.new), true)) := rfl
theorem eff_PIR_QCFG (c s) : regEffect .PIR_QCFG c s = ((if c.enables F.PIR_QCFG_BURST then resetQBucket (c.i / 8) (c.i % 8) (s.wr .PIR_QCFG c.i c.new) else s.wr .PIR_QCFG c.i c.new, true)) := rfl
theorem eff_PIR_TSCFG (c s) : regEffect .PIR_TSCFG c s = ((if c.enables F.PIR_TSCFG_BURST then resetTBucket (c.i / 512) (c.i % 512) (s.wr .PIR_TSCFG c.i c.new) else s.wr .PIR_TSCFG c.i c.new, true)) := rfl
theorem eff_JNL_RDSEQ (c s) : regEffect .JNL_RDSEQ c s = (let s := s.wr .JNL_RDSEQ c.i c.new
    (if c.i % 2 = 0 then
      let s := if s.b F.JNL_STAT_CH0_LOST 0 then s else count 120 0x402 subJournal 1 s
      { s with jrn.latch := SMap.put none s.jrn.latch (c.i / 2) (slotEntry s (c.new.toNat % slots)) } else s, true)) := rfl
theorem eff_GTE_SLOT (c s) : regEffect .GTE_SLOT c s = (s.wr .GTE_SLOT c.i c.new, true) := rfl
theorem eff_GTE_SBKEY (c s) : regEffect .GTE_SBKEY c s = (s.wr .GTE_SBKEY c.i c.new, true) := rfl
theorem eff_TNT_KEY (c s) : regEffect .TNT_KEY c s = (s.wr .TNT_KEY c.i c.new, true) := rfl
theorem eff_TNT_ENTRID (c s) : regEffect .TNT_ENTRID c s = (s.wr .TNT_ENTRID c.i c.new, true) := rfl
theorem eff_TNT_ENTPASID (c s) : regEffect .TNT_ENTPASID c s = (s.wr .TNT_ENTPASID c.i c.new, true) := rfl

theorem bk_plain (org : Origin) (r : Reg) (i : Nat) (h : r.banked = false) : bankedIdx org r i = i := by simp [bankedIdx, h]

end Sys2Proof.Machine
end

