-- ==== Sys2Proof/Machine/Lands.lean ====
section
/-! DEFINITION. The land grid of the module (R440 to R444): which signal each of the 4,624 lands carries. -/

namespace Sys2Proof.Machine

/-- What a land carries (Tables ELEC-1 to ELEC-4). Lane 8 of a span is its spare. -/
inductive Land
  | feedA | feedB | gnd | reserved
  | perstIn (i : Nat) | moduleRst | recovery | alert | wake | pgOut | fault | i3cScl | i3cSda
  | tck | tms | tdi | tdo | trst
  | lane (span lane : Nat) (transmit positive : Bool)
  | slotAttn (k : Nat) | slotClkreq (k : Nat) | slotPrsnt (k : Nat) | slotPwrflt (k : Nat) | slotPerst (k : Nat)
  | slotPwren (k : Nat) | slotRefclk (k : Nat) (positive : Bool)
  deriving DecidableEq, Repr

/-- The management block: land rows 1 to 8, columns 29 to 40 (Table ELEC-2). -/
def Land.management (r c : Nat) : Land :=
  if c = 29 ∨ c = 40 then .gnd else
  match r with
  | 1 => .perstIn (c - 30)
  | 2 => if c ≤ 35 then .perstIn (c - 20) else if c = 36 then .moduleRst else if c = 37 then .recovery
         else if c = 38 then .alert else .wake
  | 3 => if c = 30 then .pgOut else if c = 31 then .fault else if c = 33 then .i3cScl else if c = 35 then .i3cSda else .gnd
  | 4 => if c = 30 then .tck else if c = 31 then .tms else if c = 32 then .tdi else if c = 33 then .tdo
         else if c = 34 then .trst else .gnd
  | 5 | 6 => if c ≤ 37 then .reserved else .gnd
  | _ => .gnd

/-- Position (i, j) in the tile of a span (Table ELEC-3). -/
def Land.tile (span i j : Nat) : Land :=
  let pair (first count : Nat) (transmit : Bool) : Land :=
    if j / 3 < count && j % 3 < 2 then .lane span (first + j / 3) transmit (j % 3 == 0) else .gnd
  match i with
  | 0 => pair 0 5 true
  | 2 => pair 5 4 true
  | 4 => pair 0 5 false
  | 6 => pair 5 4 false
  | _ => .gnd

/-- The slot field: land rows 65 to 68, columns 3 to 66 (Table ELEC-4). -/
def Land.slot (r c : Nat) : Land :=
  let k := (c - 3) / 2
  let left := (c - 3) % 2 == 0
  match r with
  | 65 => if left then .slotAttn k else .slotClkreq k
  | 66 => if left then .slotPrsnt k else .slotPwrflt k
  | 67 => if left then .slotPerst k else .slotPwren k
  | _ => .slotRefclk k left

/-- The land in land row `r` and land column `c`, each 1 to 68, seen from the land side (R440). In odd tile rows the rows of a tile
stand in mirrored order (R442). -/
def Land.at (r c : Nat) : Land :=
  if r ≤ 8 then
    if 29 ≤ c ∧ c ≤ 40 then .management r c
    else if r ≤ 4 then (if c ≤ 28 then .feedA else .feedB)
    else .gnd
  else if c < 3 ∨ 66 < c then .gnd
  else if r ≤ 64 then
    let t := (r - 9) / 7
    let i := (r - 9) % 7
    .tile (4 * t + (c - 3) / 16) (if t % 2 = 0 then i else 6 - i) ((c - 3) % 16)
  else .slot r c

/-- The I/O bank of a sideband land (Table ELEC-6). -/
def Land.bank : Land → Option Nat
  | .perstIn _ | .moduleRst | .recovery | .alert | .wake | .fault | .pgOut | .i3cScl | .i3cSda => some 0
  | .tck | .tms | .tdi | .tdo | .trst => some 5
  | .slotPerst k | .slotPwren k | .slotPrsnt k | .slotPwrflt k | .slotAttn k | .slotClkreq k => some (1 + k / 8)
  | .feedA | .feedB | .gnd | .reserved | .lane _ _ _ _ | .slotRefclk _ _ => none

/-- The level at which an unconnected input reads, by its internal pull (R444): deasserted. True is high. -/
def Land.openLevel : Land → Option Bool
  | .perstIn _ | .moduleRst | .recovery | .tms | .tdi | .slotPrsnt _ | .slotPwrflt _ | .slotAttn _ | .slotClkreq _ => some true
  | .tck | .trst => some false
  | _ => none

end Sys2Proof.Machine
end

