-- ==== Sys2Proof/Tests/Slice0.lean ====
section
/-! SUPPORT. Worked examples of the spec, ill-formed commands, and for every statement with hypotheses a state and operands that meet
them. -/

namespace Sys2Proof.Tests

set_option maxRecDepth 3000
set_option Elab.async false
set_option linter.unusedVariables false

open Sys2Proof.Machine

/-- The reset state with some fields set. -/
def st (l : List (Fld × Nat × Nat)) : State := l.foldl (fun s x => s.setf x.1 x.2.1 x.2.2) State.reset

/-- A whole word written over the sideband. -/
def kw (v : Nat) : RegW := ⟨.sideband, 0xF, BitVec.ofNat 32 v⟩

/-- Domains that are on. -/
def on (l : List Nat) : List (Fld × Nat × Nat) := l.flatMap (fun d => [(F.PWD_STAT_STATE, d, 4), (F.CLK_ISLSTAT_RUN, islandOf (some d), 1)])

theorem lands {r i w s} (h : (On s ∧ regAt (r.offset i) = some (r, i) ∧ slot129 s w.org (r.offset i) = true ∧
    (!r.ownerWrites || counterOk s w.org) = true ∧ accessStatus false s r (bankedIdx w.org r i) = accOk ∧
    locked s r (bankedIdx w.org r i) = false) ∧
    (((writable r (bankedIdx w.org r i)).rw ||| (writable r (bankedIdx w.org r i)).rwl |||
    (writable r (bankedIdx w.org r i)).w1c ||| (writable r (bankedIdx w.org r i)).w1s |||
    (writable r (bankedIdx w.org r i)).wo) &&& beBits w.be) ≠ 0 ∧
    (r = .KEY_CMD → privileged s w.org = true → keyBusy s = false) ∧
    (r.silent = true ∨ mustHold s (islandOf (r.domain (bankedIdx w.org r i))) = false)) : Lands r i w s :=
  ⟨h.1.1, h.1.2.1, h.1.2.2.1, fun e => by simpa [e] using h.1.2.2.2.1, h.1.2.2.2.2.1, h.1.2.2.2.2.2, h.2.1, h.2.2.1, h.2.2.2⟩

theorem newMsg {s g ty m} (h : On s ∧ isFloing s (4 * govSpan s g) = true ∧
    (flUp s (govSpan s g) = true ∨ flSt s (govSpan s g) = 2) ∧ (ty, m.span.val, m.id) ∉ (fl s (govSpan s g)).seen) : NewMsg s g ty m :=
  ⟨h.1, h.2.1, h.2.2.1, h.2.2.2⟩

theorem landTurn {s r rest} (h : On s ∧ s.csn.landq = r :: rest ∧ s.mode.wiping = false ∧ landCopying s r = false ∧
    landYields s r = false ∧ ∀ ch ∈ landChans r, granted s ch 2 = true) : LandTurn s r rest :=
  ⟨h.1, h.2.1, h.2.2.1, h.2.2.2.1, h.2.2.2.2.1, h.2.2.2.2.2⟩

theorem waits {s g q d} (h : On s ∧ SMap.find? s.eng.cur g.val = some ⟨q, false, d, false⟩ ∧ engRuns s g.val = true) : Waits s g q d :=
  ⟨h.1, ⟨_, h.2.1⟩, h.2.2⟩

theorem runs {s g q d} (h : On s ∧ SMap.find? s.eng.cur g.val = some ⟨q, true, d, false⟩ ∧ engRuns s g.val = true) : Runs s g q d :=
  ⟨h.1, ⟨_, h.2.1⟩, h.2.2⟩

theorem front {s next op c} (h : On s ∧ next s = some c ∧ c.op = op ∧ findCmd s c.seq = some c ∧
    (isPriv op = true → privileged s c.org = true)) : Front s next op c :=
  ⟨h.1, h.2.1, h.2.2.1, h.2.2.2.1, h.2.2.2.2⟩

theorem taken {s x n} (h : On s ∧ sbAnswers s x.pec = true ∧ s.sb.access = none ∧ x.pec ≠ some false ∧ x.bytes.length = n) :
    Taken s x n :=
  ⟨h.1, h.2.1, h.2.2.1, h.2.2.2.1, h.2.2.2.2⟩

/-- A Floing port of one span in a link state. -/
def flo (g k : Nat) : List (Fld × Nat × Nat) :=
  [(F.GLB_SPANFORM_FORM, g, 5), (F.GLB_SPANFORM_PRESENT, g, 1), (F.SPN_FLSTAT_STATE, g, k), (F.SPN_LANE_ROLE, 9 * g + 8, 1)] ++
    (List.range 8).map (fun l => (F.SPN_LANE_ROLE, 9 * g + l, 0))

/-- A flit that carries nothing and acknowledges `a`. -/
def flit (a : Fin 4096) : Flit := ⟨0, a, false, false, none, none, none⟩

/-- A TLP from one port to another. -/
def car (t : Tlp) (i o : Nat) : Carried := ⟨t, i, o, 0, 0, none, 0, [], 0⟩

/-- A copy of a TLP in flight towards pier 7. -/
def fly (sends : Nat) (planes : List Nat) : InFlight := ⟨car Tlp.blank 0 127, 7, [(127, 0)], sends, planes, 0, 1, false, 0⟩

/-- It, as HANDLE 262143 of pier 7, with its one cell arrived over plane 15. -/
def flown (x : InFlight) (s : State) : State :=
  setInfl 7 262143 x { s with deck.got := [(inflKey 7 7 262143, ⟨[⟨0, 15, 0, []⟩], false⟩)] }

/-- A footway message of a span. -/
def msg (ty : Nat) : FwMsg := { FwMsg.blank with ty := ty, id := 5, span := 31 }

/-- Engine 63 with a handler. -/
def hand (q : QEv) (entered : Bool) (l : List (Fld × Nat × Nat)) : State :=
  { st (on [55] ++ [(F.ENG_STAT_STATE, 63, 0)] ++ l) with eng.cur := [(63, ⟨q, entered, false, false⟩)] }

/-- An event of duty 63 of pier 7. -/
def ev (e : Ev) : QEv := ⟨7, 63, e⟩

/-- Its duty, valid and in engine 63. -/
def duty (kind : Nat) : List (Fld × Nat × Nat) :=
  [(F.PIR_DUTY_VALID, 511, 1), (F.PIR_DUTY_KIND, 511, kind), (F.PIR_DUTY_ENGINE, 511, 63)]

/-- An accepted command with the bytes of its descriptor from byte 8. -/
def cmd (op : Nat) (run : Bool) (args : List Byte) : Cmd :=
  ⟨5, [BitVec.ofNat 8 op, 0, 0, 0, 0, 0, 0, 0] ++ args, .sideband, some 64, 0, run⟩

/-- The same from the management endpoint of virtual switch 63. -/
def mcmd (op : Nat) (args : List Byte) : Cmd := { cmd op false args with org := .mctp 63 0 0 0, bank := some 63 }

/-- A state in which commands are accepted. -/
def cs (c : List Cmd) (l : List (Fld × Nat × Nat)) : State := { st l with jrn.cmds := c }

theorem judged {h s w} (e : (match judge h s with | .error x => x == w | .ok _ => false) = true) : judge h s = .error w := by
  split at e
  · simp_all
  · simp at e


/-- An image that says nothing. -/
def img0 : Image := { (default : Content) with len := 0, mode := 0, secver := 0, build := 0, fabric := 0, module := 0, developOnly := false, hashes := [] }

/-- A replacement of one empty image by another, of command 4. -/
def rep (committed : Bool) : Live := ⟨4, committed, img0, img0, [], 0, false⟩

/-- Its command. -/
def lcmd : Cmd := { cmd 0x15 true [7] with seq := 4 }

/-- Pier 7 in a state of a live replacement. -/
def liv (k : Nat) (l : Live) (c : List Cmd) (x : List (Fld × Nat × Nat)) : State :=
  { cs c ([(F.GLB_IMGSTAT_LIVE, 0, k), (F.GLB_IMGSTAT_LIVE_PIER, 0, 7)] ++ x) with img.live := some l }

/-- An image whose segment of pier 7 gives GTE_SLOT of port 127 the value 0. -/
def seg : Image := { img0 with
  segs := List.replicate 7 ⟨[], [], [], [], [], [], [], true, 0, 0, []⟩ ++
    [⟨[], [], [⟨.GTE_SLOT, 127, 0⟩], [], [], [], [], true, 0, 0, []⟩] }

/-- A PCI Express port with its link up. -/
def up (p : Nat) : List (Fld × Nat × Nat) :=
  [(F.GLB_SPANFORM_FORM, p / 4, 3), (F.GLB_SPANFORM_PRESENT, p / 4, 15), (F.SPN_PSTAT_LTSSM, p, 0x0C), (F.SPN_PSTAT_LINKUP, p, 1)]

/-- A virtual switch from port 112 to port 127. -/
def sw : VsDef := ⟨112, [⟨29, .local_ 127, false⟩], true, true, true, false, false, []⟩

/-- Virtual switch 63 of that form. -/
def vst (l : List (Fld × Nat × Nat)) : State :=
  { st (up 112 ++ up 127 ++ [(F.GLB_SPANFORM_UPSTREAM, 28, 1)] ++ l) with host.vsw := [(63, sw)] }

/-- The sender of an MCTP message. -/
def frm : MctpFrom := ⟨0x1234, 9, 31, 7⟩

/-- A configuration request to its upstream port. -/
def crq : Tlp := { Tlp.blank with kind := .cfgWr, data := [1, 2, 3, 4] }

/-- A fabric header. -/
def fh (k : Fin 8) : FabHdr := ⟨k, 7, 3, 0, 63, 127, 127, 63, 16383, 511, 0, [1]⟩

/-- The word of a duty of pier n: four of kind LANE and one of kind CONTAIN, in the pier's first engine. -/
def dutyWord (n d : Nat) : Word :=
  BitVec.ofNat 32 (2 ^ F.PIR_DUTY_VALID.lo + (if d < 4 then 2 else 3) * 2 ^ F.PIR_DUTY_KIND.lo +
    (if d < 4 then 4 * n + d else n) * 2 ^ F.PIR_DUTY_INST.lo + 8 * n * 2 ^ F.PIR_DUTY_HOME.lo)


/-- A flit of one byte of data, the start of a packet. -/
def oneFlit : Flit := { flit 4095 with seq := 4095, data := some ⟨0, true, false, [7]⟩ }

/-- The 256 bytes whose first 250 are given. -/
def codeOf (w : List Byte) : List Byte :=
  w ++ (List.range 6).map (fun i => (if i % 2 = 0 then rsOf (codeData 0 w) else rsOf (codeData 1 w)).getD (i / 2) 0)

/-- A receiver finds no wrong symbol in them, and the CRC decides. -/
theorem fixFlit_code (w : List Byte) (h : w.length = 250) :
    fixFlit (codeOf w) = if crcOf (w.take 242) = w.drop 242 then some (w.take 242, []) else none := by
  have d (odd : Nat) (ho : odd < 2) : codeData odd (codeOf w) = codeData odd w := by
    refine List.map_congr_left fun i hi => ?_
    have := List.mem_range.mp hi
    simp only [codeOf, List.getD_eq_getElem?_getD]
    rw [List.getElem?_append_left (by omega)]
  have l (x : List Byte) : ∃ a b c, rsOf x = [a, b, c] := ⟨_, _, _, rfl⟩
  have c (odd : Nat) (ho : odd < 2) : codeCheck odd (codeOf w) = rsOf (codeData odd w) := by
    obtain ⟨a, b, c, e⟩ := l (codeData 0 w)
    obtain ⟨a', b', c', e'⟩ := l (codeData 1 w)
    have : odd = 0 ∨ odd = 1 := by omega
    rcases this with rfl | rfl <;>
      simp [codeCheck, codeOf, e, e', List.getD_eq_getElem?_getD, List.getElem?_append_right, h, List.range_succ]
  have g (odd : Nat) (ho : odd < 2) : rsFix (codeData odd (codeOf w)) (codeCheck odd (codeOf w)) = some (codeData odd w, none) := by
    rw [c odd ho, d odd ho]; simp [rsFix]
  have r : (List.range 250).map (fun k => if k % 2 = 0 then (codeData 0 w).getD (k / 2) 0 else (codeData 1 w).getD (k / 2) 0) = w := by
    apply List.ext_getElem (by simp [h])
    intro k hk _
    have hk : k < 250 := by simpa using hk
    have : k = 2 * (k / 2) ∨ k = 2 * (k / 2) + 1 := by omega
    simp only [List.getElem_map, List.getElem_range, codeData, List.getD_eq_getElem?_getD, List.getElem?_map]
    rw [List.getElem?_range (by omega)]
    simp only [Option.map_some, Option.getD_some]
    split
    · rw [show 2 * (k / 2) + 0 = k by omega, List.getElem?_eq_getElem (by omega)]; rfl
    · rw [show 2 * (k / 2) + 1 = k by omega, List.getElem?_eq_getElem (by omega)]; rfl
  unfold fixFlit
  rw [g 0 (by omega), g 1 (by omega)]
  simp only [r]
  rfl

theorem wire_code (b : List Byte) : wireOf b = codeOf (b ++ crcOf b) := by
  unfold wireOf codeOf
  congr 1

theorem fixFlit_one : fixFlit (wireOf (flitBody oneFlit)) = some (flitBody oneFlit, []) := by
  have l : (flitBody oneFlit).length = 242 := by decide +kernel
  rw [wire_code, fixFlit_code _ (by simp [l, crcOf]), ← l]
  simp

/-- 256 bytes whose CRC is wrong. -/
def badWire : List Byte := codeOf (flitBody oneFlit ++ (crcOf (flitBody oneFlit)).map (fun b => b + 1))

theorem fixFlit_bad : fixFlit badWire = none := by
  have l : (flitBody oneFlit).length = 242 := by decide +kernel
  unfold badWire
  rw [fixFlit_code _ (by simp [l, crcOf]), ← l]
  simp [crcOf, List.range_succ]

/-- Where no PMC_EVT register has been written, no counter interrupts. -/
theorem quiet {s : State} (h : s.regs.all (fun e => e.1 % 256 != Reg.PMC_EVT.ctorIdx) = true) : ∀ b, Quiet s b := by
  intro b k _
  have f : ∀ (m : SMap Word) (i : Nat), m.all (fun e => e.1 % 256 != Reg.PMC_EVT.ctorIdx) = true →
      SMap.find? m (regKey .PMC_EVT i) = none := by
    intro m i h
    induction m with
    | nil => rfl
    | cons e m ih =>
      simp only [List.all_cons, Bool.and_eq_true, bne_iff_ne] at h
      have : regKey .PMC_EVT i ≠ e.1 := by
        intro c; apply h.1; rw [← c]; simp [regKey]; decide
      simp [SMap.find?, this, ih h.2]
  have r : s.rd .PMC_EVT (8 * b + k) = 0 := by unfold State.rd SMap.get; rw [f _ _ h]; rfl
  unfold State.b State.f
  rw [show F.PMC_EVT_INT_EN.reg = .PMC_EVT from rfl, r]; decide

/-- A request for a hot reset, from the home module of port 127, is told by its code. -/
theorem ctl_first {s : State} (h : s.host.home = [(127, ⟨63, 63, 0, false, []⟩)]) :
    ctlRequest s { fh 4 with ctl := [Config.ctlCode 0, 0, 0] } = some (0, []) := by
  have a : SMap.find? s.host.home (fh 4).dstPort.val = some ⟨63, 63, 0, false, []⟩ := by rw [h]; rfl
  have b : (List.range 4).find? (fun k => decide (Config.ctlCode 0 = Config.ctlCode k)) = some 0 := by simp [List.range_succ]
  unfold ctlRequest
  rw [a]
  simp only [b]
  rfl

/-! ### Worked examples of the spec -/

/-- The offsets of the worked example of spec/20: port 100, its TC3 queue, engine 49 and plane 5's first counter, and their domains. -/
theorem test_offsets :
    Reg.SPN_PSTAT.offset 100 = 0x01C20010 ∧ Reg.PIR_QCFG.offset (8 * 100 + 3) = 0x01D8108C ∧
    Reg.ENG_STAT.offset 49 = 0x01D04004 ∧ Reg.PMC_EVT.offset (8 * 109) = 0x03816D50 ∧
    Reg.SPN_PSTAT.domain 100 = some 38 ∧ Reg.ENG_STAT.domain 49 = some 54 ∧ Reg.PMC_EVT.domain (8 * 109) = some 61 := by
  decide +kernel

/-- Spec/03: SPN_PSTAT of port 54, which reads 0x81BA_0C00. -/
theorem test_pstat_of_port_54 :
    Reg.SPN_PSTAT.offset 54 = 0x01620018 ∧ regAt 0x01620018 = some (.SPN_PSTAT, 54) ∧
    F.SPN_PSTAT_LINKUP.get 0x81BA0C00 = 1 ∧ F.SPN_PSTAT_WIDTH.get 0x81BA0C00 = 3 ∧ F.SPN_PSTAT_RATE.get 0x81BA0C00 = 5 ∧
    F.SPN_PSTAT_LTSSM.get 0x81BA0C00 = 0x0C := by decide +kernel

/-- Spec/01: span 13 reads 0x0000_0502, so ports 52 and 54 exist, downstream, in pier 3. -/
theorem test_span_13 :
    (List.range 4).map (fun k => portExists (st [(⟨.GLB_SPANFORM, 31, 0⟩, 13, 0x502)]) (52 + k)) = [true, false, true, false] ∧
    isUpstream (st [(⟨.GLB_SPANFORM, 31, 0⟩, 13, 0x502)]) 52 = false ∧ pierOf 54 = 3 := by decide +kernel

/-- Spec/05: a write from port 20 to port 100 with TC0 has hash 59 and goes to plane 11; with Relaxed Ordering from Requester ID
0x0300 it has hash 23 and goes to plane 7. -/
theorem test_plane_hash :
    planeHash (car { Tlp.blank with kind := .memWr } 20 100) = 59 ∧
    homePlane (st []) (car { Tlp.blank with kind := .memWr } 20 100) = 11 ∧
    planeHash (car { Tlp.blank with kind := .memWr, ro := true, rid := 0x300 } 20 100) = 23 ∧
    homePlane (st []) (car { Tlp.blank with kind := .memWr, ro := true, rid := 0x300 } 20 100) = 7 := by decide +kernel

/-- Spec/06: landing offset 0x2_3456_7A40 lies in channel 7, block 18,492,201. -/
theorem test_landing_place : landChan 0x234567A40 = 7 ∧ landBlock 0x234567A40 = 18492201 := by decide

/-- Spec/14: SEQ 10,005,697 lies in slot 1,617,089 of the journal region. -/
theorem test_journal_slot : 10005697 % slots = 1617089 := by decide

/-- The windows of Table GTE-4. -/
def gte4 : State :=
  st [(F.TNT_KEY_KEY, 20, 0x012),
    (⟨.GTE_WBASE, 31, 0⟩, 800, 0), (⟨.GTE_WBASE, 31, 0⟩, 801, 0x80), (⟨.GTE_WLIMIT, 31, 0⟩, 800, 0x7FF), (⟨.GTE_WLIMIT, 31, 0⟩, 801, 0x80),
    (⟨.GTE_WBASE, 31, 0⟩, 802, 0x800), (⟨.GTE_WBASE, 31, 0⟩, 803, 0x80), (⟨.GTE_WLIMIT, 31, 0⟩, 802, 0x9FF),
    (⟨.GTE_WLIMIT, 31, 0⟩, 803, 0x80), (F.GTE_WATTR_VALID, 400, 1), (F.GTE_WATTR_TAG, 400, 0x012), (F.GTE_WATTR_VALID, 401, 1),
    (F.GTE_WATTR_TAG, 401, 0x034)]

/-- Spec/10: 256 bytes at 0x80_0000_0780 in slot 100 from tenant 20: 128 bytes allowed under tag 0x012, 128 forbidden under 0x034. -/
theorem test_crossing_write :
    tenantOf gte4 20 0x0100 none = 20 ∧
    gateParts gte4 (.key (tenantKey gte4 20)) 100 0x8000000780 256 = [⟨0, 128, true, 0x012⟩, ⟨128, 128, false, 0x034⟩] := by
  decide +kernel

/-- Table ID-1: GLB_ID reads 0xA000_1F9C, and a sideband read of offset 0 answers it. -/
theorem test_identity : State.reset.rd .GLB_ID 0 = 0xA0001F9C ∧ (regRead .sideband 0 State.reset).2.1 = 0xA0001F9C := by
  decide +kernel

/-- The worked example of spec/19: the lands of device lane 149, and of TX_P[232]. -/
theorem test_lands :
    (Land.at 39 35, Land.at 39 36, Land.at 43 35, Land.at 64 19) =
    (.lane 18 5 true true, .lane 18 5 true false, .lane 18 5 false true, .lane 29 0 true true) := by decide

/-- How many lands of the package a test holds of. -/
def landsWith (p : Land → Bool) : Nat := ((List.range 4624).filter (fun x => p (Land.at (x / 68 + 1) (x % 68 + 1)))).length

/-- Spec/19: 2,947 ground lands, and two pairs for each of 288 lanes. -/
theorem test_land_counts :
    landsWith (· == .gnd) = 2947 ∧ landsWith (fun x => match x with | .lane .. => true | _ => false) = 1152 := by decide +kernel

/-! ### Ill-formed commands are refused -/

theorem test_ill_formed_offset : (Instr.registerWrite 2 (kw 0)).wf = false ∧ (Instr.registerWrite 0x04000000 (kw 0)).wf = false := by
  decide
theorem test_ill_formed_requester : (Instr.registerWrite 0 ⟨.bar0 0 0 0x10000 0, 0xF, 0⟩).wf = false := by decide
theorem test_ill_formed_joint : (Instr.clockLossDetection 0 [⟨.sideband, 3, none, none⟩]).wf = false ∧
    (Instr.oscillatorLoss [⟨.sideband, 2 ^ 26, none, none⟩]).wf = false := by decide
theorem test_ill_formed_time : (Instr.linkDelayMeasurement 0 (2 ^ 64)).wf = false := by decide
theorem test_ill_formed_seq : (Instr.engCmdDone 0 (2 ^ 64) true).wf = false := by decide
theorem test_ill_formed_block : (Instr.retirementCopyDone 0 29360128).wf = false := by decide
theorem test_ill_formed_descriptor : (Instr.mctpVendorMessage 0 frm 0 [1]).wf = false := by decide
theorem test_ill_formed_sender : (Instr.getEndpointId 0 { frm with rid := 2 ^ 16 }).wf = false := by decide
theorem test_ill_formed_sensors : (Instr.thermalSample [0]).wf = false := by decide
theorem test_ill_formed_footway :
    (Instr.engine 0 (msg 256)).wf = false ∧ (Instr.engine 0 { msg 0 with id := 256 }).wf = false ∧
    (Instr.engine 0 { msg 0 with bytes := List.replicate 29 0 }).wf = false ∧ (Instr.engFwSend 0 0 [0]).wf = false := by decide
theorem test_ill_formed_tlp :
    (Instr.configurationRequest 0 { Tlp.blank with tag := 2 ^ 14 }).wf = false ∧
    (Instr.configurationRequest 0 { Tlp.blank with addr := 2 ^ 64 }).wf = false ∧
    (Instr.configurationRequest 0 { Tlp.blank with cid := 2 ^ 16 }).wf = false ∧
    (Instr.configurationRequest 0 { Tlp.blank with bdf := 2 ^ 16 }).wf = false ∧
    (Instr.configurationRequest 0 { Tlp.blank with kind := .cfgRd, data := [0] }).wf = false ∧
    (Instr.configurationRequest 0 { Tlp.blank with kind := .cfgWr, len := 4 }).wf = false := by decide
theorem test_ill_formed_sizes :
    (Instr.configurationRequest 0 { Tlp.blank with hdr := 8 }).wf = false ∧
    (Instr.configurationRequest 0 { Tlp.blank with hdr := 68 }).wf = false ∧
    (Instr.configurationRequest 0 { Tlp.blank with hdr := 14 }).wf = false ∧
    (Instr.configurationRequest 0 { Tlp.blank with digest := 2 }).wf = false := by decide
theorem test_ill_formed_flit :
    (Instr.flitReceived 0 [0] (msg 0) none).wf = false ∧
    (Instr.flitReceived 0 (wireOf (flitBody oneFlit)) (msg 256) none).wf = false ∧
    (Instr.flitReceived 0 (wireOf (flitBody oneFlit)) (msg 0) (some { Tlp.blank with tag := 2 ^ 14 })).wf = false := by
  decide +kernel

/-- No word spells a command: the table gives no row bits. -/
theorem test_no_word : decodeTableWord 0 0 = none ∧ State.reset.withFetchWord 32 0 = State.reset := ⟨rfl, rfl⟩

/-! ### States and operands that meet the hypotheses of the statements -/

theorem wit_ClocksComplete :
    (∃ (s : State) (i : IslandId), On s ∧ i.val ≠ 25 ∧ s.b F.CLK_ISLSTAT_RUN i.val = true) ∧
    (∃ (s : State) (i : IslandId) (g : EngId) (b : DutyId) (off : Nat) (w : Option (BitVec 4 × Word)), On s ∧ i.val ≠ 25 ∧ s.b F.CLK_ISLSTAT_RUN i.val = true ∧ i.val < 8 ∧ accIsland ⟨.engine g b, off, w, none⟩ = some i.val ∧ waitingAccs s = []) ∧
    (∃ (s : State), On s ∧ s.env.oscRun = true ∧ s.b F.CLK_OSC_SRC 0 = false) ∧
    (∃ (s : State), On s ∧ s.b F.CLK_OSC_SRC 0 = true) ∧
    (∃ (s : State), On s ∧ s.b F.CLK_OSC_SRC 0 = true ∧ s.env.oscRun = true ∧ 10 ≤ s.env.oscGood) ∧
    (∃ (s : State) (k : SlotId), On s ∧ (slotSt s k.val).on = true) ∧
    (∃ (s : State) (k : SlotId), On s ∧ (slotSt s k.val).on = false) ∧
    (∃ (s : State), On s) :=
  ⟨⟨(st [(F.CLK_ISLSTAT_RUN, 24, 1)]), 24, by decide +kernel⟩,
   ⟨(st [(F.CLK_ISLSTAT_RUN, 7, 1)]), 7, 63, 63, (Reg.PIR_QCFG.offset 1023), none, by decide +kernel⟩,
   ⟨({ st [] with env.oscRun := true }), by decide +kernel⟩,
   ⟨(st [(F.CLK_OSC_SRC, 0, 1)]), by decide +kernel⟩,
   ⟨({ st [(F.CLK_OSC_SRC, 0, 1)] with env.oscRun := true, env.oscGood := 10 }), by decide +kernel⟩,
   ⟨(setSlotSt 31 { SlotSt.init with on := true } (st [])), 31, by decide +kernel⟩,
   ⟨(st []), 31, by decide +kernel⟩,
   ⟨(st []), by decide +kernel⟩⟩

theorem wit_LinkTrainingCompletes_1 :
    (∃ (s : State) (p : PortId) (width : Fin 8) (rate : Fin 8) (flit : Bool) (reversed : Bool), On s ∧ mayTrain s p.val = true ∧ linkSt s p.val = .training ∧ linkUp s p.val = false ∧ trainOk s p.val width.val rate.val flit reversed = true) ∧
    (∃ (s : State) (p : PortId), On s ∧ portExists s p.val = true ∧ isFloing s p.val = false ∧ (linkSt s p.val = .active ∨ linkSt s p.val = .lowpower)) ∧
    (∃ (s : State) (p : PortId) (width : Fin 8) (rate : Fin 8), On s ∧ portExists s p.val = true ∧ isFloing s p.val = false ∧ linkSt s p.val = .recovery ∧ settleOk s p.val width.val rate.val (s.b F.SPN_PSTAT_FLIT p.val) (s.b F.SPN_PSTAT_REVERSED p.val) = true) ∧
    (∃ (s : State) (p : PortId), On s ∧ portExists s p.val = true ∧ isFloing s p.val = false ∧ linkSt s p.val = .recovery) ∧
    (∃ (s : State) (p : PortId), On s ∧ portExists s p.val = true ∧ isFloing s p.val = false ∧ linkUp s p.val = true) ∧
    (∃ (s : State) (sp : SpanId) (l : LaneId), On s ∧ s.f F.SPN_LANE_ROLE (9 * sp.val + l.val) ≠ 7 ∧ s.b F.SPN_EQCTL_ADAPT_CONT sp.val = true ∧ laneInL0 s (lanePort s sp.val l.val) = true) ∧
    (∃ (s : State) (sp : SpanId) (l : LaneId), On s ∧ s.f F.SPN_LANE_ROLE (9 * sp.val + l.val) ≠ 7 ∧ (s.b F.SPN_EQCTL_ADAPT_CONT sp.val = false ∨ laneInL0 s (lanePort s sp.val l.val) = false) ∧ s.f F.SPN_FLTHR_ERR_THR sp.val = 0) ∧
    (∃ (s : State) (p : PortId) (lane : Fin 16) (timing : Bool) (n : Fin 128), On s ∧ portExists s p.val = true ∧ isFloing s p.val = false ∧ linkUp s p.val = true ∧ 4 ≤ s.f F.SPN_PSTAT_RATE p.val ∧ lane.val < lanesOf (s.f F.SPN_PSTAT_WIDTH p.val) ∧ n.val ≤ marginSteps (s.f F.SPN_PSTAT_RATE p.val) timing) :=
  ⟨⟨(vst (on [31] ++ [(F.GLB_MODE_MODE, 0, 2), (F.SPN_PSTAT_LTSSM, 127, 0), (F.SPN_PSTAT_LINKUP, 127, 0), (F.SPN_CLKMODE_MODE, 31, 0xC0)])), 127, 2, 1, false, false, by decide +kernel⟩,
   ⟨(st [(F.GLB_SPANFORM_FORM, 31, 3), (F.GLB_SPANFORM_PRESENT, 31, 15), (F.SPN_PSTAT_LTSSM, 127, 0x0C)]), 127, by decide +kernel⟩,
   ⟨(st [(F.GLB_SPANFORM_FORM, 31, 3), (F.GLB_SPANFORM_PRESENT, 31, 15), (F.SPN_PSTAT_LTSSM, 127, 0x10)]), 127, 2, 5, by decide +kernel⟩,
   ⟨(st [(F.GLB_SPANFORM_FORM, 31, 3), (F.GLB_SPANFORM_PRESENT, 31, 15), (F.SPN_PSTAT_LTSSM, 127, 0x14)]), 127, by decide +kernel⟩,
   ⟨(st [(F.GLB_SPANFORM_FORM, 31, 3), (F.GLB_SPANFORM_PRESENT, 31, 15), (F.SPN_PSTAT_LTSSM, 127, 0x0C), (F.SPN_PSTAT_LINKUP, 127, 1)]), 127, by decide +kernel⟩,
   ⟨(st [(F.GLB_SPANFORM_FORM, 0, 1), (F.GLB_SPANFORM_PRESENT, 0, 1), (F.SPN_PSTAT_LTSSM, 0, 0x0C), (F.SPN_PSTAT_LINKUP, 0, 1), (F.SPN_PSTAT_WIDTH, 0, 4), (F.SPN_EQCTL_ADAPT_CONT, 0, 1), (F.SPN_LANE_ROLE, 0, 0)]), 0, 0, by decide +kernel⟩,
   ⟨(st [(F.SPN_LANE_ROLE, 287, 1), (F.SPN_LANE_ERRCNT, 287, 65000), (F.SPN_FLTHR_ERR_THR, 31, 0)]), 31, 8, by decide +kernel⟩,
   ⟨(st [(F.GLB_SPANFORM_FORM, 0, 1), (F.GLB_SPANFORM_PRESENT, 0, 1), (F.SPN_PSTAT_LTSSM, 0, 0x0C), (F.SPN_PSTAT_LINKUP, 0, 1), (F.SPN_PSTAT_WIDTH, 0, 4), (F.SPN_PSTAT_RATE, 0, 4)]), 0, 7, false, 0, by decide +kernel⟩⟩

theorem wit_LinkTrainingCompletes_2 : ∃ (s : State) (p : PortId) (lane : Fin 16), On s ∧ portExists s p.val = true ∧ isFloing s p.val = false ∧ linkUp s p.val = true ∧ 4 ≤ s.f F.SPN_PSTAT_RATE p.val ∧ lane.val < lanesOf (s.f F.SPN_PSTAT_WIDTH p.val) :=
  ⟨(st [(F.GLB_SPANFORM_FORM, 0, 1), (F.GLB_SPANFORM_PRESENT, 0, 1), (F.SPN_PSTAT_LTSSM, 0, 0x0C), (F.SPN_PSTAT_LINKUP, 0, 1), (F.SPN_PSTAT_WIDTH, 0, 4), (F.SPN_PSTAT_RATE, 0, 4)]), 0, 7, by decide +kernel⟩

theorem wit_LinkPowerCompletes :
    (∃ (s : State) (p : PortId) (pm : Fin 8) (width : Fin 8) (pci : Bool), On s ∧ lowpowerOk s p.val pm.val width.val pci = true ∧ (linkSt s p.val = .active ∨ ltssm s p.val = 0x18)) ∧
    (∃ (s : State) (p : PortId), On s ∧ portExists s p.val = true ∧ isFloing s p.val = false ∧ linkSt s p.val = .lowpower) ∧
    (∃ (s : State) (p : PortId), On s ∧ portExists s p.val = true ∧ isFloing s p.val = false ∧ linkSt s p.val = .active ∧ s.b F.SPN_PSTAT_FLIT p.val = true ∧ expressHold s p.val = false ∧ egressEmpty s p.val = true ∧ l0pMin s p.val < s.f F.SPN_PSTAT_WIDTH p.val) ∧
    (∃ (s : State) (p : PortId), On s ∧ portExists s p.val = true ∧ isFloing s p.val = false ∧ linkSt s p.val = .active ∧ expressHold s p.val = true) ∧
    (∃ (s : State) (p : PortId), On s ∧ portExists s p.val = true ∧ isFloing s p.val = false ∧ linkSt s p.val = .active ∧ expressHold s p.val = true) ∧
    (∃ (s : State) (p : PortId), On s ∧ portExists s p.val = true ∧ isFloing s p.val = false ∧ linkSt s p.val = .active ∧ expressHold s p.val = true) ∧
    (∃ (s : State) (p : PortId), On s ∧ portExists s p.val = true ∧ isFloing s p.val = false ∧ linkSt s p.val = .active ∧ expressHold s p.val = false) ∧
    (∃ (s : State) (p : PortId) (k : PmReq), On s ∧ portExists s p.val = true ∧ isFloing s p.val = false ∧ linkSt s p.val = .active ∧ expressHold s p.val = false ∧ k ≠ .l0p) :=
  ⟨⟨(st [(F.GLB_SPANFORM_FORM, 0, 1), (F.GLB_SPANFORM_PRESENT, 0, 1), (F.SPN_PMCTL_EXPRESS_HOLD, 0, 0), (F.SPN_PSTAT_LTSSM, 0, 0x18), (F.SPN_PSTAT_LINKUP, 0, 1), (F.SPN_PSTAT_WIDTH, 0, 4), (F.SPN_PSTAT_FLIT, 0, 1)]), 0, 1, 3, false, by decide +kernel⟩,
   ⟨(st [(F.GLB_SPANFORM_FORM, 0, 1), (F.GLB_SPANFORM_PRESENT, 0, 1), (F.SPN_PSTAT_LTSSM, 0, 0x1C), (F.SPN_PSTAT_WIDTH, 0, 4), (F.SPN_PSTAT_LINKUP, 0, 1)]), 0, by decide +kernel⟩,
   ⟨(st [(F.GLB_SPANFORM_FORM, 0, 1), (F.GLB_SPANFORM_PRESENT, 0, 1), (F.SPN_PMCTL_EXPRESS_HOLD, 0, 0), (F.SPN_PSTAT_LTSSM, 0, 0x0C), (F.SPN_PSTAT_WIDTH, 0, 4), (F.SPN_PSTAT_FLIT, 0, 1), (F.SPN_PSTAT_LINKUP, 0, 1)]), 0, by decide +kernel⟩,
   ⟨(st [(F.GLB_SPANFORM_FORM, 0, 1), (F.GLB_SPANFORM_PRESENT, 0, 1), (F.SPN_PSTAT_LTSSM, 0, 0x0C), (F.SPN_PMCTL_EXPRESS_HOLD, 0, 1), (F.SPN_PSTAT_LINKUP, 0, 1)]), 0, by decide +kernel⟩,
   ⟨(st [(F.GLB_SPANFORM_FORM, 0, 1), (F.GLB_SPANFORM_PRESENT, 0, 1), (F.SPN_PSTAT_LTSSM, 0, 0x0C), (F.SPN_PMCTL_EXPRESS_HOLD, 0, 1), (F.SPN_PSTAT_LINKUP, 0, 1)]), 0, by decide +kernel⟩,
   ⟨(st [(F.GLB_SPANFORM_FORM, 0, 1), (F.GLB_SPANFORM_PRESENT, 0, 1), (F.SPN_PSTAT_LTSSM, 0, 0x0C), (F.SPN_PMCTL_EXPRESS_HOLD, 0, 1), (F.SPN_PSTAT_LINKUP, 0, 1)]), 0, by decide +kernel⟩,
   ⟨(st [(F.GLB_SPANFORM_FORM, 0, 1), (F.GLB_SPANFORM_PRESENT, 0, 1), (F.SPN_PMCTL_EXPRESS_HOLD, 0, 0), (F.SPN_PSTAT_LTSSM, 0, 0x0C), (F.SPN_PSTAT_FLIT, 0, 1), (F.SPN_PSTAT_LINKUP, 0, 1)]), 0, by decide +kernel⟩,
   ⟨(st [(F.GLB_SPANFORM_FORM, 0, 1), (F.GLB_SPANFORM_PRESENT, 0, 1), (F.SPN_PMCTL_EXPRESS_HOLD, 0, 0), (F.SPN_PSTAT_LTSSM, 0, 0x0C), (F.SPN_PSTAT_LINKUP, 0, 1)]), 0, .pciPm, by decide +kernel⟩⟩

theorem wit_SpanWritesComplete :
    (∃ (s : State) (p : PortId) (w : RegW), Lands .SPN_CTL (p.val / 4) (RegW.with1 w (2 ^ (12 + p.val % 4))) s ∧ portExists s p.val = true ∧ isFloing s p.val = false ∧ (linkSt s p.val = .active ∨ linkSt s p.val = .lowpower)) ∧
    (∃ (s : State) (sp : SpanId) (w : RegW), Lands .SPN_CLKMODE sp.val (RegW.touching w 0xFF) s) ∧
    (∃ (s : State) (sp : SpanId) (l : LaneId) (w : RegW), Lands .SPN_LANE (9 * sp.val + l.val) (RegW.with1 w 0x8000) s) ∧
    (∃ (s : State) (g : SpanId) (w : RegW), Lands .SPN_FLCTL g.val (RegW.with1 w 1) s ∧ flHas s g.val = true ∧ flUp s g.val = true) ∧
    (∃ (s : State) (g : SpanId) (v : Fin 8) (w : RegW), Lands .SPN_FLVC (8 * g.val + v.val) (RegW.touching w 0xFFF0000) s ∧ let new := (wrCtx .SPN_FLVC (8 * g.val + v.val) (RegW.touching w 0xFFF0000) s).new;
      let taken := s.wr .SPN_FLVC (8 * g.val + v.val) new;
      let sum := ((List.range 8).map (fun x => allocActs (taken.f F.SPN_FLVC_RX_ALLOC (8 * g.val + x)))).sum;
      let limit := if form s g.val = 6 then 32768 else 16384;
      let pool := poolSize (setFl g.val { fl taken g.val with rxAlloc := [] } taken) (g.val / 4);
      (flHas s g.val = false ∨ (sum ≤ limit ∧ 16384 ≤ pool))) ∧
    (∃ (s : State) (g : SpanId) (v : Fin 8) (w : RegW), Lands .SPN_FLVC (8 * g.val + v.val) (RegW.touching w 0xFFF0000) s ∧ let new := (wrCtx .SPN_FLVC (8 * g.val + v.val) (RegW.touching w 0xFFF0000) s).new;
      let taken := s.wr .SPN_FLVC (8 * g.val + v.val) new;
      let sum := ((List.range 8).map (fun x => allocActs (taken.f F.SPN_FLVC_RX_ALLOC (8 * g.val + x)))).sum;
      let limit := if form s g.val = 6 then 32768 else 16384;
      let pool := poolSize (setFl g.val { fl taken g.val with rxAlloc := [] } taken) (g.val / 4);
      flHas s g.val = true ∧ (limit < sum ∨ pool < 16384)) :=
  ⟨⟨(st (on [39] ++ [(F.GLB_SPANFORM_FORM, 31, 3), (F.GLB_SPANFORM_PRESENT, 31, 15), (F.SPN_PSTAT_LTSSM, 127, 0x0C)])), 127, (kw 0), lands (by decide +kernel), by decide +kernel⟩,
   ⟨(st (on [39])), 31, (kw 0x2D), lands (by decide +kernel)⟩,
   ⟨(st (on [31] ++ [(F.SPN_LANE_ERRCNT, 287, 7)])), 31, 8, (kw 0), lands (by decide +kernel)⟩,
   ⟨(st (on [39] ++ [(F.GLB_SPANFORM_FORM, 31, 5), (F.GLB_SPANFORM_PRESENT, 31, 1), (F.SPN_FLSTAT_STATE, 31, 3)])), 31, (kw 0), lands (by decide +kernel), by decide +kernel⟩,
   ⟨(st (on [39] ++ [(F.GLB_SPANFORM_FORM, 31, 5), (F.GLB_SPANFORM_PRESENT, 31, 1)])), 31, 7, (kw 0x1000000), lands (by decide +kernel), by decide +kernel⟩,
   ⟨(st (on [39] ++ [(F.GLB_SPANFORM_FORM, 31, 5), (F.GLB_SPANFORM_PRESENT, 31, 1), (F.SPN_FLVC_RX_ALLOC, 248, 4095), (F.SPN_FLVC_RX_ALLOC, 249, 4095), (F.SPN_FLVC_RX_ALLOC, 250, 4095), (F.SPN_FLVC_RX_ALLOC, 251, 4095)])), 31, 7, (kw 0xFFF0000), lands (by decide +kernel), by decide +kernel⟩⟩

theorem wit_DeckWritesComplete_1 :
    (∃ (s : State) (m : PlaneId) (org : Origin), Lands .DCK_CTL m.val (wordW org 1) s ∧ planeSt s m.val = 0) ∧
    (∃ (s : State) (m : PlaneId) (org : Origin), Lands .DCK_CTL m.val (wordW org 2) s ∧ planeSt s m.val = 2) ∧
    (∃ (s : State) (m : PlaneId) (org : Origin), Lands .DCK_CTL m.val (wordW org 1) s ∧ planeSt s m.val ≠ 0) ∧
    (∃ (s : State) (n : PierId) (k : Fin 8) (w : RegW), Lands .PIR_PMAP (8 * n.val + k.val) w s ∧ ((∀ e < 8, (beBits w.be).getLsbD (4 * e) = true → planeLive s ((newOf s .PIR_PMAP (8 * n.val + k.val) w).toNat / 16 ^ e % 16) = true))) ∧
    (∃ (s : State) (n : PierId) (w : RegW), Lands .PIR_BUFCFG n.val w s ∧ 16384 ≤ poolSize (s.wr .PIR_BUFCFG n.val (newOf s .PIR_BUFCFG n.val w)) n.val) ∧
    (∃ (s : State) (n : PierId) (a : Fin 128) (w : RegW), Lands .PIR_BUFTHR (128 * n.val + a.val) w s ∧ 16384 ≤ poolSize (s.wr .PIR_BUFTHR (128 * n.val + a.val) (newOf s .PIR_BUFTHR (128 * n.val + a.val) w)) n.val) ∧
    (∃ (s : State) (tag : Fin 1024) (org : Origin), Lands .CSN_TAGCMD 0 (wordW org (2 ^ 31 + tag.val)) s ∧ let base := s.rd64 .CSN_TAGBASE 0;
      let n := max 1 (s.f F.CSN_TAGLEN_BLOCKS 0);
      base + 64 * n ≤ lmBytes s ∧ s.b F.CSN_TAGSTAT_BUSY 0 = false) ∧
    (∃ (s : State) (tag : Fin 1024) (org : Origin), Lands .CSN_TAGCMD 0 (wordW org (2 ^ 31 + tag.val)) s ∧ let base := s.rd64 .CSN_TAGBASE 0;
      let n := max 1 (s.f F.CSN_TAGLEN_BLOCKS 0);
      (lmBytes s < base + 64 * n ∨ s.b F.CSN_TAGSTAT_BUSY 0 = true)) :=
  ⟨⟨(st (on [71] ++ [(F.DCK_STAT_STATE, 15, 0)])), 15, .sideband, lands (by decide +kernel), by decide +kernel⟩,
   ⟨(st (on [71] ++ [(F.DCK_STAT_STATE, 15, 2)])), 15, .sideband, lands (by decide +kernel), by decide +kernel⟩,
   ⟨(st (on [71] ++ [(F.DCK_STAT_STATE, 15, 3)])), 15, .sideband, lands (by decide +kernel), by decide +kernel⟩,
   ⟨(st (on [39] ++ [(F.DCK_STAT_STATE, 0, 0), (F.GLB_PLANES_LIVE, 0, 0x8001)])), 7, 7, (kw 0xF0F0F0F0), lands (by decide +kernel), by decide +kernel⟩,
   ⟨(st (on [39])), 7, (kw 0x100), lands (by decide +kernel), by decide +kernel⟩,
   ⟨(st (on [39])), 7, 127, (kw 0x20), lands (by decide +kernel), by decide +kernel⟩,
   ⟨(st [(F.CSN_CFG_LM_SIZE, 0, 1), (F.CSN_TAGLEN_BLOCKS, 0, 4194304)]), 1023, .sideband, lands (by decide +kernel), by decide +kernel⟩,
   ⟨(st [(F.CSN_CFG_LM_SIZE, 0, 1), (F.CSN_TAGLEN_BLOCKS, 0, 4194305)]), 1023, .sideband, lands (by decide +kernel), by decide +kernel⟩⟩

theorem wit_DeckWritesComplete_2 :
    (∃ (s : State) (n : PierId) (d : Fin 64) (w : RegW), Lands .PIR_FROUTE (64 * n.val + d.val) w s ∧ let new := newOf s .PIR_FROUTE (64 * n.val + d.val) w;
      isFloing s (F.PIR_FROUTE_PORT.get new) = true) ∧
    (∃ (s : State) (n : PierId) (d : Fin 64) (w : RegW), Lands .PIR_FROUTE (64 * n.val + d.val) w s ∧ let new := newOf s .PIR_FROUTE (64 * n.val + d.val) w;
      isFloing s (F.PIR_FROUTE_PORT.get new) = false) ∧
    (∃ (s : State) (i : Fin 1024) (w : RegW), Lands .PIR_QCFG i.val (RegW.touching w 0xFFFF) s) ∧
    (∃ (s : State) (i : Fin 1024) (w : RegW), Lands .PIR_QRATE i.val (RegW.touching w 0xFF) s) ∧
    (∃ (s : State) (i : Fin 4096) (w : RegW), Lands .PIR_TSCFG i.val (RegW.touching w 0xFFFF) s) ∧
    (∃ (s : State) (i : Fin 4096) (w : RegW), Lands .PIR_TSRATE i.val (RegW.touching w 0xFF) s) ∧
    (∃ (s : State) (p : PortId) (w : RegW), Lands .PIR_EPCFG p.val w s) :=
  ⟨⟨(st (on [39] ++ [(F.GLB_SPANFORM_FORM, 31, 5), (F.GLB_SPANFORM_PRESENT, 31, 1)])), 7, 63, (kw 0x8000007C), lands (by decide +kernel), by decide +kernel⟩,
   ⟨(st (on [39])), 7, 63, (kw 0x8000007C), lands (by decide +kernel), by decide +kernel⟩,
   ⟨(st (on [39])), 1023, (kw 0x8000FFFF), lands (by decide +kernel)⟩,
   ⟨(st (on [39])), 1023, (kw 0xFF), lands (by decide +kernel)⟩,
   ⟨(st (on [39])), 4095, (kw 0xFFFF), lands (by decide +kernel)⟩,
   ⟨(st (on [39])), 4095, (kw 0xFF), lands (by decide +kernel)⟩,
   ⟨(st (on [39])), 127, (kw 0xFFFFFFFF), lands (by decide +kernel)⟩⟩

theorem wit_GateWritesComplete_1 :
    (∃ (s : State) (z : Fin 130) (x : Fin 4) (w : RegW), Lands .GTE_WATTR (4 * z.val + x.val) (RegW.with1 w 0x40000000) s ∧ winBase s z.val x.val ≤ winLimit s z.val x.val ∧ windowClash s z.val x.val = false) ∧
    (∃ (s : State) (z : Fin 130) (x : Fin 4) (w : RegW), Lands .GTE_WATTR (4 * z.val + x.val) (RegW.with1 w 0x40000000) s ∧ winLimit s z.val x.val < winBase s z.val x.val) ∧
    (∃ (s : State) (z : Fin 130) (x : Fin 4) (limit : Bool) (high : Bool) (w : RegW), let r := if limit then Reg.GTE_WLIMIT else Reg.GTE_WBASE;
      let i := 8 * z.val + 2 * x.val + high.toNat;
      Lands r i w s ∧ s.b F.GTE_WATTR_VALID (4 * z.val + x.val) = false) ∧
    (∃ (s : State) (z : Fin 130) (x : Fin 4) (limit : Bool) (high : Bool) (w : RegW), let r := if limit then Reg.GTE_WLIMIT else Reg.GTE_WBASE;
      let i := 8 * z.val + 2 * x.val + high.toNat;
      Lands r i w s ∧ s.b F.GTE_WATTR_VALID (4 * z.val + x.val) = true) ∧
    (∃ (s : State) (z : Fin 130) (w : RegW), Lands .GTE_SLOT z.val (RegW.with1 w 0x80000000) s) ∧
    (∃ (s : State) (w : RegW), Lands .GTE_SBKEY 0 (RegW.with1 w 0x80000000) s) ∧
    (∃ (s : State) (z : Fin 130) (x : Fin 4) (w : RegW), Lands .GTE_WATTR (4 * z.val + x.val) (RegW.with1 w 0x80000000) s ∧ winBase s z.val x.val ≤ winLimit s z.val x.val ∧ windowClash s z.val x.val = false) ∧
    (∃ (s : State) (u : TenantId) (w : RegW), Lands .TNT_KEY u.val (RegW.with1 w 0x80000000) s) :=
  ⟨⟨(st [(⟨.GTE_WBASE, 31, 0⟩, 1038, 0x1000), (⟨.GTE_WLIMIT, 31, 0⟩, 1038, 0x1FFF)]), 129, 3, (kw 0), lands (by decide +kernel), by decide +kernel⟩,
   ⟨(st [(⟨.GTE_WBASE, 31, 0⟩, 1038, 0x2000), (⟨.GTE_WLIMIT, 31, 0⟩, 1038, 0x1FFF)]), 129, 3, (kw 0), lands (by decide +kernel), by decide +kernel⟩,
   ⟨(st (on [39])), 127, 3, true, true, (kw 0x7), lands (by decide +kernel), by decide +kernel⟩,
   ⟨(st [(F.GTE_WATTR_VALID, 519, 1)]), 129, 3, false, false, (kw 0x1000), lands (by decide +kernel), by decide +kernel⟩,
   ⟨(st []), 129, (kw 0), lands (by decide +kernel)⟩,
   ⟨(st []), (kw 0), lands (by decide +kernel)⟩,
   ⟨(st (on [39] ++ [(⟨.GTE_WLIMIT, 31, 0⟩, 1022, 0x1FFF)])), 127, 3, (kw 0), lands (by decide +kernel), by decide +kernel⟩,
   ⟨(st []), 511, (kw 0), lands (by decide +kernel)⟩⟩

theorem wit_GateWritesComplete_2 :
    (∃ (s : State) (p : PortId) (w : RegW), Lands .TNT_PORTDEF p.val (RegW.with1 w 0x80000000) s ∧ let new := newOf s .TNT_PORTDEF p.val (RegW.with1 w 0x80000000);
      ((portExists s p.val = true → onePier (s.wr .TNT_PORTDEF p.val new) (F.TNT_PORTDEF_TENANT.get new) = true))) ∧
    (∃ (s : State) (p : PortId) (w : RegW), Lands .TNT_PORTDEF p.val w s ∧ let new := newOf s .TNT_PORTDEF p.val w;
      ((portExists s p.val = true → onePier (s.wr .TNT_PORTDEF p.val new) (F.TNT_PORTDEF_TENANT.get new) = true))) ∧
    (∃ (s : State) (i : Fin 2048) (w : RegW), Lands .TNT_ENTCTL i.val w s ∧ let new := newOf s .TNT_ENTCTL i.val w;
      F.TNT_ENTCTL_PORT.get new / 16 = i.val / 256 ∧ ((F.TNT_ENTCTL_VALID.get new = 1 → onePier (s.wr .TNT_ENTCTL i.val new) (F.TNT_ENTCTL_TENANT.get new) = true))) ∧
    (∃ (s : State) (i : Fin 2048) (w : RegW), Lands .TNT_ENTCTL i.val (RegW.with1 w 0x80000000) s ∧ let new := newOf s .TNT_ENTCTL i.val (RegW.with1 w 0x80000000);
      F.TNT_ENTCTL_PORT.get new / 16 = i.val / 256 ∧ ((F.TNT_ENTCTL_VALID.get new = 1 → onePier (s.wr .TNT_ENTCTL i.val new) (F.TNT_ENTCTL_TENANT.get new) = true))) ∧
    (∃ (s : State) (i : Fin 2048) (w : RegW), Lands .TNT_ENTRID i.val w s) ∧
    (∃ (s : State) (i : Fin 2048) (top : Bool) (w : RegW), Lands .TNT_ENTPASID (2 * i.val + top.toNat) w s) :=
  ⟨⟨(st (on [39] ++ [(F.GLB_SPANFORM_FORM, 31, 3), (F.GLB_SPANFORM_PRESENT, 31, 15)])), 127, (kw 511), lands (by decide +kernel), by decide +kernel⟩,
   ⟨(st (on [39] ++ [(F.GLB_SPANFORM_FORM, 31, 3), (F.GLB_SPANFORM_PRESENT, 31, 15)])), 127, (kw 511), lands (by decide +kernel), by decide +kernel⟩,
   ⟨(st (on [39])), 2047, (kw 0x407F01FF), lands (by decide +kernel), by decide +kernel⟩,
   ⟨(st (on [39])), 2047, (kw 0x7F01FF), lands (by decide +kernel), by decide +kernel⟩,
   ⟨(st (on [39])), 2047, (kw 0xFFFFFFFF), lands (by decide +kernel)⟩,
   ⟨(st (on [39])), 2047, true, (kw 1), lands (by decide +kernel)⟩⟩

theorem wit_ContainmentWritesComplete_1 :
    (∃ (s : State) (p : PortId) (org : Origin), Lands .PIR_CLOSE p.val (wordW org 1) s ∧ portExists s p.val = true ∧ s.b F.PIR_CLOSE_CLOSED p.val = false ∧ ltssm s p.val ≠ 0x30) ∧
    (∃ (s : State) (p : PortId) (org : Origin), Lands .PIR_CLOSE p.val (wordW org 2) s ∧ releaseRefused s p.val = false) ∧
    (∃ (s : State) (p : PortId) (org : Origin), Lands .PIR_CLOSE p.val (wordW org 2) s ∧ releaseRefused s p.val = true) ∧
    (∃ (s : State) (u : TenantId) (org : Origin), Lands .GLB_TCLOSE (u.val / 32) (wordW org (2 ^ (u.val % 32))) s) ∧
    (∃ (s : State) (u : TenantId) (org : Origin), Lands .GLB_TRELEASE (u.val / 32) (wordW org (2 ^ (u.val % 32))) s) ∧
    (∃ (s : State) (org : Origin), Lands .GLB_ERRCTL 0 ⟨org, 2, 0x100⟩ s ∧ inQuar s = false ∧ mode s ≠ 0) ∧
    (∃ (s : State) (g : EngId) (org : Origin), Lands .ENG_CTL g.val (wordW org 1) s ∧ (∃ e < 8, 8 * (g.val / 8) + e ≠ g.val ∧ engUp s (8 * (g.val / 8) + e) = true)) ∧
    (∃ (s : State) (g : EngId) (org : Origin), Lands .ENG_CTL g.val (wordW org 1) s ∧ ((∀ e < 8, 8 * (g.val / 8) + e ≠ g.val → engUp s (8 * (g.val / 8) + e) = false))) :=
  ⟨⟨(st (on [39] ++ [(F.GLB_SPANFORM_FORM, 31, 3), (F.GLB_SPANFORM_PRESENT, 31, 15), (F.SPN_PSTAT_LTSSM, 127, 0x0C)])), 127, .sideband, lands (by decide +kernel), by decide +kernel⟩,
   ⟨(st (on [39] ++ [(F.GLB_PIERSTAT_STATE, 7, 0), (F.PIR_CLOSE_CLOSED, 127, 1)])), 127, .sideband, lands (by decide +kernel), by decide +kernel⟩,
   ⟨(st (on [39] ++ [(F.GLB_PIERSTAT_STATE, 7, 3), (F.PIR_CLOSE_CLOSED, 127, 1)])), 127, .sideband, lands (by decide +kernel), by decide +kernel⟩,
   ⟨(st []), 511, .sideband, lands (by decide +kernel)⟩,
   ⟨(st [(⟨.GLB_TCLOSE, 31, 0⟩, 15, 0xFFFFFFFF)]), 511, .sideband, lands (by decide +kernel)⟩,
   ⟨(st []), .sideband, lands (by decide +kernel), by decide +kernel⟩,
   ⟨(st (on [55] ++ [(F.ENG_STAT_STATE, 56, 1), (F.ENG_CTL_PARK, 56, 0)])), 63, .sideband, lands (by decide +kernel), by decide +kernel⟩,
   ⟨(st (on [55] ++ [(F.ENG_CTL_PARK, 56, 1), (F.ENG_CTL_PARK, 57, 1), (F.ENG_CTL_PARK, 58, 1), (F.ENG_CTL_PARK, 59, 1), (F.ENG_CTL_PARK, 60, 1), (F.ENG_CTL_PARK, 61, 1), (F.ENG_CTL_PARK, 62, 1)])), 63, .sideband, lands (by decide +kernel), by decide +kernel⟩⟩

theorem wit_ContainmentWritesComplete_2 :
    (∃ (s : State) (g : EngId) (org : Origin), Lands .ENG_CTL g.val (wordW org 0) s ∧ (mode s ≠ 5 ∨ g.val ∉ reducedParks s (g.val / 8))) ∧
    (∃ (s : State) (g : EngId) (org : Origin), Lands .ENG_CTL g.val (wordW org 0) s ∧ mode s = 5 ∧ g.val ∈ reducedParks s (g.val / 8)) :=
  ⟨⟨(st (on [55] ++ [(F.ENG_CTL_PARK, 63, 1)])), 63, .sideband, lands (by decide +kernel), by decide +kernel⟩,
   ⟨(st (on [55] ++ [(F.GLB_MODE_MODE, 0, 5), (F.ENG_CTL_PARK, 63, 1), (F.ENG_STAT_STATE, 56, 1)])), 63, .sideband, lands (by decide +kernel), by decide +kernel⟩⟩

theorem wit_WindowWritesComplete_1 :
    (∃ (s : State) (w : RegW), Lands .JNL_RDSEQ 0 w s) ∧
    (∃ (s : State) (org : Origin), Lands .JNL_CMDGO 0 (wordW org 1) s ∧ serves s = true ∧ rejection s (bankDesc s (Origin.bank org)) = 0) ∧
    (∃ (s : State) (org : Origin), Lands .JNL_CMDGO 0 (wordW org 1) s ∧ serves s = true ∧ rejection s (bankDesc s (Origin.bank org)) ≠ 0) ∧
    (∃ (s : State) (org : Origin), Lands .JNL_CMDGO 0 (wordW org 1) s ∧ serves s = false) ∧
    (∃ (s : State) (bits : Word) (org : Origin) (k : Nat), Lands .REC_FIRE 0 ⟨org, 0xF, bits⟩ s ∧ k < 32 ∧ bits.getLsbD k = true ∧ s.b F.REC_TRGCFG_EN k = true ∧ trigSrc s k = 4 ∧ (s.f F.REC_TRGMATCH_VALUE k &&& s.f F.REC_TRGMATCH_MASK k) = 0) ∧
    (∃ (s : State) (org : Origin), Lands .PMC_CMD 0 (wordW org 1) s) ∧
    (∃ (s : State) (org : Origin), Lands .PMC_CMD 0 (wordW org 2) s) ∧
    (∃ (s : State) (org : Origin), Lands .PMC_CMD 0 (wordW org 4) s) :=
  ⟨⟨(st []), (kw 5), lands (by decide +kernel)⟩,
   ⟨(st [(⟨.JNL_CMDDESC, 31, 0⟩, 1024, 1)]), .sideband, lands (by decide +kernel), by decide +kernel⟩,
   ⟨(st [(⟨.JNL_CMDDESC, 31, 0⟩, 1024, 0x7F)]), .sideband, lands (by decide +kernel), by decide +kernel⟩,
   ⟨(st [(F.KEY_STAT_BOOT, 0, 3)]), .sideband, lands (by decide +kernel), by decide +kernel⟩,
   ⟨(st [(F.REC_TRGCFG_EN, 31, 1), (F.REC_TRGCFG_SRC, 31, 4)]), 0x80000000, .sideband, 31, lands (by decide +kernel), by decide +kernel⟩,
   ⟨(st []), .sideband, lands (by decide +kernel)⟩,
   ⟨(st []), .sideband, lands (by decide +kernel)⟩,
   ⟨(st []), .sideband, lands (by decide +kernel)⟩⟩

theorem wit_WindowWritesComplete_2 :
    (∃ (s : State) (org : Origin), Lands .PMC_CMD 0 (wordW org 8) s) ∧
    (∃ (s : State) (b : BlockId) (org : Origin), Lands .PMC_BCTL b.val ⟨org, 1, 1⟩ s ∧ ((b.val = 120 → Uncounted s))) ∧
    (∃ (s : State) (b : BlockId) (k : Fin 8) (w : RegW), Lands .PMC_EVT (8 * b.val + k.val) (RegW.touching w 0xF0FFF) s ∧ ((b.val = 120 → Uncounted s))) :=
  ⟨⟨(st []), .sideband, lands (by decide +kernel)⟩,
   ⟨(st (on [32])), 0, .sideband, lands (by decide +kernel), (fun h => absurd h (by decide))⟩,
   ⟨(st (on [79])), 127, 7, (kw 0x80001), lands (by decide +kernel), (fun h => absurd h (by decide))⟩⟩

theorem wit_SupplyWritesComplete_1 :
    (∃ (s : State) (f : FeedId) (w : RegW), Lands .ABT_FCTL f.val (RegW.with1 w 4) s ∧ F.ABT_FCTL_EN.get (newOf s .ABT_FCTL f.val (RegW.with1 w 4)) = 1 ∧ switchable s f.val = true) ∧
    (∃ (s : State) (f : FeedId) (w : RegW), Lands .ABT_FCTL f.val (RegW.with1 w 2) s ∧ w.val.getLsbD 2 = false ∧ F.ABT_FCTL_EN.get (newOf s .ABT_FCTL f.val (RegW.with1 w 2)) = 1 ∧ feedSt s f.val = 6) ∧
    (∃ (s : State) (f : FeedId) (org : Origin), Lands .ABT_FCTL f.val (wordW org 1) s) ∧
    (∃ (s : State) (f : FeedId) (org : Origin), Lands .ABT_FCTL f.val (wordW org 0) s ∧ s.b F.ABT_FCTL_EN f.val = true ∧ (supplied s = false ∨ activeFeed s ≠ f.val) ∧ feedSt s f.val ≠ 7) ∧
    (∃ (s : State) (f : FeedId) (org : Origin), Lands .ABT_FCTL f.val (wordW org 0) s ∧ s.b F.ABT_FCTL_EN f.val = true ∧ supplied s = true ∧ activeFeed s = f.val) ∧
    (∃ (s : State) (org : Origin), Lands .ABT_VMIN 0 (wordW org (2 ^ 31)) s) ∧
    (∃ (s : State) (reset : Bool) (w : RegW), Lands (if reset then .ABT_VTHR1 else .ABT_VTHR0) 0 w s ∧ let r := if reset then Reg.ABT_VTHR1 else .ABT_VTHR0;
      let u := s.wr r 0 (newOf s r 0 w);
      resetU u < warnU u ∧ resetU u < reduceU u) ∧
    (∃ (s : State) (reset : Bool) (w : RegW), Lands (if reset then .ABT_VTHR1 else .ABT_VTHR0) 0 w s ∧ let r := if reset then Reg.ABT_VTHR1 else .ABT_VTHR0;
      let u := s.wr r 0 (newOf s r 0 w);
      (warnU u ≤ resetU u ∨ reduceU u ≤ resetU u)) :=
  ⟨⟨(st [(F.ABT_FCTL_EN, 0, 1), (F.ABT_FCTL_EN, 1, 1), (F.ABT_STAT_ACTIVE_VALID, 0, 1), (F.ABT_FEED_STATE, 0, 3), (F.ABT_FEED_STATE, 1, 1), (F.ABT_VIN_VOLTS, 1, 60000)]), 1, (kw 1), lands (by decide +kernel), by decide +kernel⟩,
   ⟨(st [(F.ABT_FCTL_EN, 1, 1), (F.ABT_FEED_STATE, 1, 6), (F.ABT_FEED_RETRIES, 1, 3)]), 1, (kw 1), lands (by decide +kernel), by decide +kernel⟩,
   ⟨(st []), 1, .sideband, lands (by decide +kernel)⟩,
   ⟨(st [(F.ABT_FCTL_EN, 1, 1), (F.ABT_FEED_STATE, 1, 3), (F.ABT_STAT_ACTIVE_VALID, 0, 1)]), 1, .sideband, lands (by decide +kernel), by decide +kernel⟩,
   ⟨(st [(F.ABT_FCTL_EN, 1, 1), (F.ABT_FEED_STATE, 1, 3), (F.ABT_STAT_ACTIVE_VALID, 0, 1), (F.ABT_STAT_ACTIVE, 0, 1)]), 1, .sideband, lands (by decide +kernel), by decide +kernel⟩,
   ⟨(st [(F.ABT_VMIN_VMIN, 0, 5)]), .sideband, lands (by decide +kernel)⟩,
   ⟨(st []), true, (kw 0), lands (by decide +kernel), by decide +kernel⟩,
   ⟨(st []), true, (kw 0x1FFF1FFF), lands (by decide +kernel), by decide +kernel⟩⟩

theorem wit_SupplyWritesComplete_2 :
    (∃ (s : State) (w : RegW), Lands .GLB_THERM 0 w s ∧ let new := newOf s .GLB_THERM 0 w;
      let reduce := max 70 (min 104 (F.GLB_THERM_REDUCE_T.get new));
      F.GLB_THERM_WARN_T.get new ≤ reduce) ∧
    (∃ (s : State) (w : RegW), Lands .GLB_THERM 0 w s ∧ let new := newOf s .GLB_THERM 0 w;
      let reduce := max 70 (min 104 (F.GLB_THERM_REDUCE_T.get new));
      reduce < F.GLB_THERM_WARN_T.get new) ∧
    (∃ (s : State) (d : DomId) (w : RegW), Lands .PWD_CTL d.val (RegW.with1 w 1) s ∧ w.val.getLsbD 1 = false ∧ domRefusal s d.val true false = 0 ∧ domState s d.val = 0) ∧
    (∃ (s : State) (d : DomId) (w : RegW), Lands .PWD_CTL d.val (RegW.with1 w 1) s ∧ w.val.getLsbD 1 = false ∧ domRefusal s d.val true false ≠ 0) ∧
    (∃ (s : State) (d : DomId) (w : RegW), Lands .PWD_CTL d.val (RegW.with1 w 2) s ∧ w.val.getLsbD 0 = false ∧ domRefusal s d.val false true = 0 ∧ domState s d.val = 4) ∧
    (∃ (s : State) (d : DomId) (w : RegW), Lands .PWD_CTL d.val (RegW.with1 w 2) s ∧ w.val.getLsbD 0 = false ∧ domRefusal s d.val false true ≠ 0) ∧
    (∃ (s : State) (d : DomId) (w : RegW), Lands .PWD_CTL d.val (RegW.with1 w 1) s ∧ w.val.getLsbD 1 = true) :=
  ⟨⟨(st []), (kw 0x5A4650), lands (by decide +kernel), by decide +kernel⟩,
   ⟨(st []), (kw 0x46FF00), lands (by decide +kernel), by decide +kernel⟩,
   ⟨({ st [(F.GLB_MODE_MODE, 0, 2)] with env.rstLow := false }), 72, (kw 0), lands (by decide +kernel), by decide +kernel⟩,
   ⟨(st [(F.GLB_MODE_MODE, 0, 0)]), 79, (kw 0), lands (by decide +kernel), by decide +kernel⟩,
   ⟨({ st (on [79] ++ [(F.GLB_MODE_MODE, 0, 2)]) with env.rstLow := false }), 79, (kw 0), lands (by decide +kernel), by decide +kernel⟩,
   ⟨(st [(F.GLB_MODE_MODE, 0, 0)]), 79, (kw 0), lands (by decide +kernel), by decide +kernel⟩,
   ⟨(st [(F.GLB_MODE_MODE, 0, 2)]), 79, (kw 2), lands (by decide +kernel), by decide +kernel⟩⟩

theorem wit_KeystoneWritesComplete :
    (∃ (s : State) (org : Origin), Lands .KEY_CMD 0 (wordW org 1) s ∧ privileged s org = true ∧ provisionCheck s = 0) ∧
    (∃ (s : State) (org : Origin), Lands .KEY_CMD 0 (wordW org 1) s ∧ privileged s org = true ∧ provisionCheck s ≠ 0) ∧
    (∃ (s : State) (copy : Bool) (org : Origin), Lands .KEY_CMD 0 (wordW org (3 + 256 * copy.toNat)) s ∧ privileged s org = true ∧ stageOpen s = true ∧ s.key.booted ≠ some copy.toNat) ∧
    (∃ (s : State) (copy : Bool) (org : Origin), Lands .KEY_CMD 0 (wordW org (3 + 256 * copy.toNat)) s ∧ privileged s org = true ∧ s.key.booted = some copy.toNat) ∧
    (∃ (s : State) (w : RegW), Lands .KEY_STGDATA 0 w s ∧ privileged s w.org = true ∧ stageOpen s = true ∧ let a := (s.rd .KEY_STGADDR 0).toNat % 2 ^ 24;
      a < 0x800000 ∧ s.key.booted ≠ some (a / 0x400000)) :=
  ⟨⟨({ st [(⟨.KEY_AUTH, 31, 0⟩, 0, 2), (⟨.KEY_AUTH, 31, 0⟩, 1, 3), (⟨.KEY_AUTH, 31, 0⟩, 12, 0xABCD)] with key.nonce := 0 }), .sideband, lands (by decide +kernel), by decide +kernel⟩,
   ⟨(st []), .sideband, lands (by decide +kernel), by decide +kernel⟩,
   ⟨(st []), true, .sideband, lands (by decide +kernel), by decide +kernel⟩,
   ⟨({ st [] with key.booted := some 1 }), true, .sideband, lands (by decide +kernel), by decide +kernel⟩,
   ⟨(st [(⟨.KEY_STGADDR, 31, 0⟩, 0, 0x7FFFFC)]), (kw 0x12345678), lands (by decide +kernel), by decide +kernel⟩⟩

theorem wit_CalibrationComplete_1 :
    (∃ (s : State) (sp : SpanId), On s ∧ isFloing s (4 * govSpan s sp.val) = true ∧ flSt s (govSpan s sp.val) = 3 ∧ s.b F.SPN_CALCTL_CAL_EN sp.val = true ∧ role s sp.val 8 = 1 ∧ phase s sp.val = 0 ∧ (∃ l < 8, role s sp.val l = 0)) ∧
    (∃ (s : State) (sp : SpanId), On s ∧ phase s sp.val = 1 ∧ (visit s sp.val).acked = true) ∧
    (∃ (s : State) (sp : SpanId), On s ∧ phase s sp.val = 3) ∧
    (∃ (s : State) (sp : SpanId), On s ∧ phase s sp.val = 4 ∧ flUp s (govSpan s sp.val) = true) ∧
    (∃ (s : State) (sp : SpanId), On s ∧ phase s sp.val = 1 ∧ (visit s sp.val).acked = false ∧ (visit s sp.val).aborted = false) ∧
    (∃ (s : State) (g : SpanId) (a : Agreed), On s ∧ flHas s g.val = true ∧ flUp s g.val = true ∧ dueChange s g.val true = some a ∧ a.lane < 8 ∧ a.kind = 0) ∧
    (∃ (s : State) (g : SpanId) (a : Agreed), On s ∧ flHas s g.val = true ∧ flUp s g.val = true ∧ dueChange s g.val true = some a ∧ a.lane < 8 ∧ a.kind = 1) ∧
    (∃ (s : State) (g : SpanId) (a : Agreed), On s ∧ flHas s g.val = true ∧ flUp s g.val = true ∧ dueChange s g.val true = some a ∧ a.lane < 8 ∧ a.kind = 2 ∧ (visit s a.span).rcl = none) :=
  ⟨⟨(st (flo 31 3 ++ [(F.SPN_CALCTL_CAL_EN, 31, 1)])), 31, by decide +kernel⟩,
   ⟨(setVisit 31 { Visit.init with acked := true } (st (flo 31 3 ++ [(F.SPN_CALSTAT_PHASE, 31, 1)]))), 31, by decide +kernel⟩,
   ⟨(st [(F.SPN_CALSTAT_PHASE, 31, 3), (F.SPN_CALSTAT_LANE, 31, 7)]), 31, by decide +kernel⟩,
   ⟨(st (flo 31 3 ++ [(F.SPN_CALSTAT_PHASE, 31, 4), (F.SPN_CALSTAT_LANE, 31, 7)])), 31, by decide +kernel⟩,
   ⟨(st (flo 31 3 ++ [(F.SPN_CALSTAT_PHASE, 31, 1), (F.SPN_CALSTAT_LANE, 31, 7), (F.SPN_LANE_ROLE, 287, 2)])), 31, by decide +kernel⟩,
   ⟨(setFl 31 { FlLink.init with agreed := [⟨true, 0, 0, 7, [], 0, 0, 31⟩], rxIdx := 8388607 } (st (flo 31 3 ++ [(F.SPN_LANE_ROLE, 286, 5)]))), 31, ⟨true, 0, 0, 7, [], 0, 0, 31⟩, by decide +kernel⟩,
   ⟨(setFl 31 { FlLink.init with agreed := [⟨true, 0, 1, 7, [], 0, 0, 31⟩], rxIdx := 8388607 } (st (flo 31 3))), 31, ⟨true, 0, 1, 7, [], 0, 0, 31⟩, by decide +kernel⟩,
   ⟨(setFl 31 { FlLink.init with agreed := [⟨true, 0, 2, 7, [], 0, 0, 31⟩], rxIdx := 8388607 } (st (flo 31 3 ++ [(F.SPN_CALSTAT_PHASE, 31, 4), (F.SPN_LANE_ROLE, 286, 6)]))), 31, ⟨true, 0, 2, 7, [], 0, 0, 31⟩, by decide +kernel⟩⟩

theorem wit_CalibrationComplete_2 :
    (∃ (s : State) (g : SpanId) (a : Agreed), On s ∧ flHas s g.val = true ∧ flUp s g.val = true ∧ dueChange s g.val false = some a ∧ a.kind = 0) ∧
    (∃ (s : State) (g : SpanId) (a : Agreed), On s ∧ flHas s g.val = true ∧ flUp s g.val = true ∧ dueChange s g.val false = some a ∧ a.kind = 1) ∧
    (∃ (s : State) (g : SpanId) (a : Agreed), On s ∧ flHas s g.val = true ∧ flUp s g.val = true ∧ dueChange s g.val false = some a ∧ a.kind = 2) ∧
    (∃ (s : State) (g : SpanId) (a : Agreed), On s ∧ flHas s g.val = true ∧ flUp s g.val = true ∧ dueChange s g.val false = some a ∧ a.kind = 5) ∧
    (∃ (s : State) (g : SpanId) (rx : Bool) (a : Agreed), On s ∧ flHas s g.val = true ∧ flUp s g.val = true ∧ dueChange s g.val rx = some a ∧ a.kind = 3 ∧ (∃ b ∈ (fl s g.val).agreed.erase a, b.kind = 3)) ∧
    (∃ (s : State) (g : SpanId) (rx : Bool) (a : Agreed), On s ∧ flHas s g.val = true ∧ flUp s g.val = true ∧ dueChange s g.val rx = some a ∧ a.kind = 4 ∧ (∀ r ∈ (fl s g.val).reqs, r.msg.ty ≠ 0x30) ∧ (∀ b ∈ (fl s g.val).agreed.erase a, b.kind ≠ 4)) ∧
    (∃ (s : State) (sp : SpanId) (l : Fin 8), On s ∧ isFloing s (4 * govSpan s sp.val) = true ∧ flUp s (govSpan s sp.val) = true ∧ role s sp.val l.val ≠ 5 ∧ role s sp.val l.val ≠ 7) ∧
    (∃ (s : State) (sp : SpanId), On s ∧ isFloing s (4 * govSpan s sp.val) = true ∧ role s sp.val 8 ≠ 5 ∧ role s sp.val 8 ≠ 7) :=
  ⟨⟨(setFl 31 { FlLink.init with agreed := [⟨false, 0, 0, 7, [], 0, 0, 31⟩], txIdx := 8388607 } (st (flo 31 3))), 31, ⟨false, 0, 0, 7, [], 0, 0, 31⟩, by decide +kernel⟩,
   ⟨(setFl 31 { FlLink.init with agreed := [⟨false, 0, 1, 7, [], 0, 0, 31⟩], txIdx := 8388607 } (st (flo 31 3))), 31, ⟨false, 0, 1, 7, [], 0, 0, 31⟩, by decide +kernel⟩,
   ⟨(setFl 31 { FlLink.init with agreed := [⟨false, 0, 2, 7, [], 0, 0, 31⟩], txIdx := 8388607 } (st (flo 31 3))), 31, ⟨false, 0, 2, 7, [], 0, 0, 31⟩, by decide +kernel⟩,
   ⟨(setFl 31 { FlLink.init with agreed := [⟨false, 0, 5, 7, [], 0, 0, 31⟩], txIdx := 8388607 } (setVisit 31 { Visit.init with txLane := some 7, txPattern := true } (st (flo 31 3)))), 31, ⟨false, 0, 5, 7, [], 0, 0, 31⟩, by decide +kernel⟩,
   ⟨(setFl 31 { FlLink.init with agreed := [⟨true, 0, 3, 0, [0, 1, 2, 3], 0, 0, 31⟩, ⟨false, 9, 3, 0, [4, 5, 6, 7], 0, 0, 31⟩], rxIdx := 5 } (st (flo 31 4))), 31, true, ⟨true, 0, 3, 0, [0, 1, 2, 3], 0, 0, 31⟩, by decide +kernel⟩,
   ⟨(setFl 31 { FlLink.init with agreed := [⟨true, 0, 4, 0, [], 0, 0, 31⟩], rxIdx := 5 } (st (flo 31 5))), 31, true, ⟨true, 0, 4, 0, [], 0, 0, 31⟩, by decide +kernel⟩,
   ⟨(st (flo 31 3)), 31, 7, by decide +kernel⟩,
   ⟨(st (flo 31 3)), 31, by decide +kernel⟩⟩

theorem wit_CalibrationComplete_3 :
    (∃ (s : State) (g : SpanId), On s ∧ flHas s g.val = true ∧ flSt s g.val = 0 ∧ s.b F.SPN_FLSTAT_PEERERR g.val = false) ∧
    (∃ (s : State) (g : SpanId) (reversed : Bool), On s ∧ flHas s g.val = true ∧ flSt s g.val = 1 ∧ phyOn s (flPort g.val) = true ∧ ((reversed = true → s.bitf F.SPN_CTL_REVERSE_EN g.val 0 = true))) ∧
    (∃ (s : State) (g : SpanId), On s ∧ flHas s g.val = true ∧ flSt s g.val = 1) ∧
    (∃ (s : State) (g : SpanId), On s ∧ flHas s g.val = true ∧ flSt s g.val = 5 ∧ (fl s g.val).relock = true ∧ awaits (fl s g.val) 0x30 4 = false ∧ rxBroken s g.val = false ∧ (fl s g.val).cap64 = ownCap64 s g.val) ∧
    (∃ (s : State) (g : SpanId), On s ∧ flHas s g.val = true ∧ flUp s g.val = true) :=
  ⟨⟨(st (flo 31 0)), 31, by decide +kernel⟩,
   ⟨(st (flo 31 1 ++ on [31] ++ [(F.SPN_CTL_REVERSE_EN, 31, 1)])), 31, true, by decide +kernel⟩,
   ⟨(st (flo 31 1)), 31, by decide +kernel⟩,
   ⟨(setFl 31 { FlLink.init with relock := true } (st (flo 31 5))), 31, by decide +kernel⟩,
   ⟨(st (flo 31 3)), 31, by decide +kernel⟩⟩

theorem wit_FlitsComplete :
    (∃ (s : State) (g : SpanId), On s ∧ flHas s g.val = true ∧ flUp s g.val = true) ∧
    (∃ (s : State) (g : SpanId) (raw : List Byte), On s ∧ flHas s g.val = true ∧ flUp s g.val = true ∧ fixFlit raw = none) ∧
    (∃ (s : State) (g : SpanId) (raw : List Byte) (body : List Byte) (wrong : List Nat) (args : FwMsg) (x : Flit) (d : FlitData), On s ∧ flHas s g.val = true ∧ flUp s g.val = true ∧ fixFlit raw = some (body, wrong) ∧ (∀ i ∈ wrong, s.f F.SPN_FLTHR_ERR_THR ((rxLanes s g.val).getD (i % (rxLanes s g.val).length) 0 / 9) = 0) ∧ readFlit body args = x ∧ x.null = false ∧ x.data = some d ∧ x.fw = none ∧ mod12 x.ack.val (txP s g.val) ≤ flOut s g.val ∧ x.seq.val = rxE s g.val) ∧
    (∃ (s : State) (g : SpanId), On s ∧ flHas s g.val = true ∧ flUp s g.val = true) ∧
    (∃ (s : State) (g : SpanId), On s ∧ flHas s g.val = true ∧ flUp s g.val = true ∧ (fl s g.val).nakPend = true) ∧
    (∃ (s : State) (g : SpanId), On s ∧ flHas s g.val = true ∧ flUp s g.val = true ∧ flOut s g.val ≠ 0 ∧ (fl s g.val).toRun < 3) ∧
    (∃ (s : State) (g : SpanId), On s ∧ flHas s g.val = true ∧ flUp s g.val = true ∧ flOut s g.val ≠ 0 ∧ 3 ≤ (fl s g.val).toRun) ∧
    (∃ (s : State) (g : SpanId) (r : FwReq), On s ∧ flHas s g.val = true ∧ (fl s g.val).reqs = [r] ∧ r.sends < 8) :=
  ⟨⟨(st (flo 31 3)), 31, by decide +kernel⟩,
   ⟨(st (flo 31 3)), 31, badWire, by decide +kernel, by decide +kernel, by decide +kernel, fixFlit_bad⟩,
   ⟨(st (flo 31 3 ++ [(F.SPN_FLSEQRX_RX_EXPECT, 31, 4095)])), 31, (wireOf (flitBody oneFlit)), (flitBody oneFlit), [], (msg 0), oneFlit, ⟨0, true, false, [7]⟩, by decide +kernel, by decide +kernel, by decide +kernel, fixFlit_one, by simp, by decide +kernel⟩,
   ⟨(setFl 31 { FlLink.init with accSince := 1 } (st (flo 31 3))), 31, by decide +kernel⟩,
   ⟨(setFl 31 { FlLink.init with nakPend := true } (st (flo 31 3))), 31, by decide +kernel⟩,
   ⟨(st (flo 31 3 ++ [(⟨.SPN_FLSEQ, 31, 0⟩, 31, 0x00000FFF), (F.SPN_FLSEQ_TX_NEXT, 31, 1)])), 31, by decide +kernel⟩,
   ⟨(setFl 31 { FlLink.init with toRun := 3 } (st (flo 31 3 ++ [(⟨.SPN_FLSEQ, 31, 0⟩, 31, 0x00000FFF), (F.SPN_FLSEQ_TX_NEXT, 31, 1)]))), 31, by decide +kernel⟩,
   ⟨(setFl 31 { FlLink.init with reqs := [⟨msg 0x22, 7⟩] } (st (flo 31 3))), 31, ⟨msg 0x22, 7⟩, by decide +kernel⟩⟩

theorem wit_FootwayComplete_1 :
    (∃ (s : State) (g : SpanId) (m : FwMsg), NewMsg s g.val 0x01 m ∧ flSt s (govSpan s g.val) = 2 ∧ m.fabric = s.f F.GLB_FABID_FABRIC 0 ∧ m.sy = true) ∧
    (∃ (s : State) (g : SpanId) (m : FwMsg), NewMsg s g.val 0x01 m ∧ flSt s (govSpan s g.val) = 2 ∧ (m.fabric ≠ s.f F.GLB_FABID_FABRIC 0 ∨ m.sy = false)) ∧
    (∃ (s : State) (g : SpanId) (m : FwMsg), NewMsg s g.val 0x02 m ∧ flSt s (govSpan s g.val) = 2 ∧ (∃ r ∈ (fl s (govSpan s g.val)).reqs, r.msg.ty = 0x01 ∧ r.msg.id = m.id)) ∧
    (∃ (s : State) (g : SpanId) (m : FwMsg), NewMsg s g.val 0x10 m) ∧
    (∃ (s : State) (g : SpanId) (m : FwMsg), NewMsg s g.val 0x11 m ∧ phase s m.span.val = 1 ∧ calLane s m.span.val = m.lane.val) ∧
    (∃ (s : State) (g : SpanId) (m : FwMsg), NewMsg s g.val 0x12 m) ∧
    (∃ (s : State) (g : SpanId) (m : FwMsg), NewMsg s g.val 0x13 m) ∧
    (∃ (s : State) (g : SpanId) (m : FwMsg), NewMsg s g.val 0x14 m) :=
  ⟨⟨(st (flo 31 2)), 31, ({ msg 1 with sy := true, cap64 := true }), newMsg (by decide +kernel), by decide +kernel⟩,
   ⟨(st (flo 31 2)), 31, ({ msg 1 with sy := false }), newMsg (by decide +kernel), by decide +kernel⟩,
   ⟨(setFl 31 { FlLink.init with reqs := [⟨msg 1, 1⟩], gotParam := true } (st (flo 31 2))), 31, (msg 2), newMsg (by decide +kernel), by decide +kernel⟩,
   ⟨(st (flo 31 3)), 31, ({ msg 0x10 with lane := 7 }), newMsg (by decide +kernel)⟩,
   ⟨(st (flo 31 3 ++ [(F.SPN_CALSTAT_PHASE, 31, 1), (F.SPN_CALSTAT_LANE, 31, 7)])), 31, ({ msg 0x11 with lane := 7 }), newMsg (by decide +kernel), by decide +kernel⟩,
   ⟨(st (flo 31 3)), 31, ({ msg 0x12 with lane := 7, findex := 9 }), newMsg (by decide +kernel)⟩,
   ⟨(st (flo 31 3)), 31, ({ msg 0x13 with lane := 7, findex := 9 }), newMsg (by decide +kernel)⟩,
   ⟨(setVisit 31 { Visit.init with txLane := some 7 } (st (flo 31 3))), 31, (msg 0x14), newMsg (by decide +kernel)⟩⟩

theorem wit_FootwayComplete_2 :
    (∃ (s : State) (g : SpanId) (m : FwMsg), NewMsg s g.val 0x20 m ∧ (m.findex + 2 ^ 24 - (fl s (govSpan s g.val)).txIdx) % 2 ^ 24 < 2 ^ 23) ∧
    (∃ (s : State) (g : SpanId) (m : FwMsg), NewMsg s g.val 0x21 m ∧ (∃ r ∈ (fl s (govSpan s g.val)).reqs, r.msg.ty = 0x20 ∧ r.msg.span = m.span ∧ r.msg.lane = m.lane)) ∧
    (∃ (s : State) (g : SpanId) (m : FwMsg), NewMsg s g.val 0x22 m ∧ flUp s (govSpan s g.val) = true ∧ ((∀ r ∈ (fl s (govSpan s g.val)).reqs, r.msg.ty = 0x22 → m.width ≤ r.msg.width))) ∧
    (∃ (s : State) (g : SpanId) (m : FwMsg), NewMsg s g.val 0x22 m ∧ flUp s (govSpan s g.val) = true ∧ (∃ r ∈ (fl s (govSpan s g.val)).reqs, r.msg.ty = 0x22 ∧ r.msg.width < m.width)) ∧
    (∃ (s : State) (g : SpanId) (m : FwMsg) (r : FwReq), NewMsg s g.val 0x23 m ∧ (fl s (govSpan s g.val)).reqs.find? (fun (r : FwReq) => r.msg.ty == 0x22 && r.msg.id == m.id) = some r) ∧
    (∃ (s : State) (g : SpanId) (m : FwMsg), NewMsg s g.val 0x30 m ∧ flUp s (govSpan s g.val) = true) ∧
    (∃ (s : State) (g : SpanId) (m : FwMsg) (r : FwReq), NewMsg s g.val 0x31 m ∧ (fl s (govSpan s g.val)).reqs.find? (fun (r : FwReq) => r.msg.ty == 0x30 && r.msg.id == m.id) = some r) ∧
    (∃ (s : State) (g : SpanId) (m : FwMsg) (d : Nat), NewMsg s g.val 0x40 m ∧ dutyFind s (govSpan s g.val / 4) 1 (flPort (govSpan s g.val)) = some d) :=
  ⟨⟨(st (flo 31 3)), 31, ({ msg 0x20 with lane := 7, findex := 8388607 }), newMsg (by decide +kernel), by decide +kernel⟩,
   ⟨(setFl 31 { FlLink.init with reqs := [⟨{ msg 0x20 with lane := 7 }, 1⟩] } (st (flo 31 3))), 31, ({ msg 0x21 with lane := 7 }), newMsg (by decide +kernel), by decide +kernel⟩,
   ⟨(st (flo 31 4)), 31, ({ msg 0x22 with width := 3 }), newMsg (by decide +kernel), by decide +kernel⟩,
   ⟨(setFl 31 { FlLink.init with reqs := [⟨{ msg 0x22 with width := 3 }, 1⟩] } (st (flo 31 4))), 31, ({ msg 0x22 with width := 4, id := 6 }), newMsg (by decide +kernel), by decide +kernel⟩,
   ⟨(setFl 31 { FlLink.init with reqs := [⟨msg 0x22, 1⟩] } (st (flo 31 4))), 31, (msg 0x23), ⟨msg 0x22, 1⟩, newMsg (by decide +kernel), by decide +kernel⟩,
   ⟨(st (flo 31 4)), 31, ({ msg 0x30 with cap64 := true }), newMsg (by decide +kernel), by decide +kernel⟩,
   ⟨(setFl 31 { FlLink.init with reqs := [⟨{ msg 0x30 with findex := 9 }, 1⟩] } (st (flo 31 5))), 31, (msg 0x31), ⟨{ msg 0x30 with findex := 9 }, 1⟩, newMsg (by decide +kernel), by decide +kernel⟩,
   ⟨(st (flo 31 3 ++ on [55] ++ [(F.PIR_DUTY_VALID, 511, 1), (F.PIR_DUTY_KIND, 511, 1), (F.PIR_DUTY_INST, 511, 124), (F.PIR_DUTY_ENGINE, 511, 63)])), 31, ({ msg 0x40 with bytes := [1] }), 63, newMsg (by decide +kernel), by decide +kernel⟩⟩

theorem wit_CopiesComplete_1 :
    (∃ (s : State), On s) ∧
    (∃ (s : State) (src : PierId) (dst : PierId) (h : Fin 262144) (hits : List CellHit) (x : InFlight), On s ∧ InFlightAt s src.val dst.val h.val x ∧ Arrived s src.val dst.val h.val x ∧ livePlanes s ≠ [] ∧ (∃ y ∈ hits, y.cell.val < x.cells ∧ hitOutcome y = .uncorrectable) ∧ (∀ a ∈ (SMap.get Reasm.init s.deck.got (inflKey src.val dst.val h.val)).cells, s.f F.DCK_THR_UNC_THR a.plane = 0)) ∧
    (∃ (s : State) (src : PierId) (dst : PierId) (h : Fin 262144) (hits : List CellHit) (x : InFlight), On s ∧ InFlightAt s src.val dst.val h.val x ∧ Arrived s src.val dst.val h.val x ∧ livePlanes s ≠ [] ∧ ((∀ y ∈ hits, y.cell.val < x.cells → hitOutcome y ≠ .uncorrectable)) ∧ copyCheck s x ≠ 2) ∧
    (∃ (s : State) (src : PierId) (dst : PierId) (h : Fin 262144) (hits : List CellHit) (x : InFlight), On s ∧ InFlightAt s src.val dst.val h.val x ∧ Arrived s src.val dst.val h.val x ∧ livePlanes s ≠ [] ∧ ((∀ y ∈ hits, y.cell.val < x.cells → hitOutcome y ≠ .uncorrectable)) ∧ copyCheck s x = 2) ∧
    (∃ (s : State) (src : PierId) (dst : PierId) (h : Fin 262144) (y : CellHit) (a : Arrival) (x : InFlight), On s ∧ InFlightAt s src.val dst.val h.val x ∧ Arrived s src.val dst.val h.val x ∧ y.cell.val < x.cells ∧ (SMap.get Reasm.init s.deck.got (inflKey src.val dst.val h.val)).cells.find? (fun b => b.index == y.cell.val) = some a ∧ hitOutcome y = .corrected) ∧
    (∃ (s : State) (src : PierId) (dst : PierId) (h : Fin 262144) (y : CellHit) (a : Arrival) (x : InFlight), On s ∧ InFlightAt s src.val dst.val h.val x ∧ Arrived s src.val dst.val h.val x ∧ y.cell.val < x.cells ∧ (SMap.get Reasm.init s.deck.got (inflKey src.val dst.val h.val)).cells.find? (fun b => b.index == y.cell.val) = some a ∧ hitOutcome y = .uncorrectable ∧ s.f F.DCK_THR_UNC_THR a.plane = 1 ∧ (planeSt s a.plane = 0 ∨ planeSt s a.plane = 1) ∧ liveAfter s a.plane ≠ []) ∧
    (∃ (s : State) (src : PierId) (dst : PierId) (h : Fin 262144) (x : InFlight) (a : Answer), On s ∧ InFlightAt s src.val dst.val h.val x ∧ answerFor s src.val dst.val h.val true = some a ∧ SMap.get [] s.deck.wait src.val = []) ∧
    (∃ (s : State) (src : PierId) (dst : PierId) (h : Fin 262144) (x : InFlight) (a : Answer), On s ∧ InFlightAt s src.val dst.val h.val x ∧ answerFor s src.val dst.val h.val false = some a ∧ x.sends < 9) :=
  ⟨⟨(st []), by decide +kernel⟩,
   ⟨(flown (fly 1 [15]) (st [(F.GLB_PLANES_LIVE, 0, 0x8001), (F.DCK_THR_UNC_THR, 15, 0)])), 7, 7, 262143, ([⟨0, 4, [(0, 1), (34, 1)]⟩]), (fly 1 [15]), by decide +kernel, (by unfold InFlightAt; decide +kernel), (by unfold Arrived; decide +kernel), by decide +kernel⟩,
   ⟨(flown (fly 1 [15]) (st [(F.GLB_PLANES_LIVE, 0, 0x8001)])), 7, 7, 262143, ([⟨0, 4, [(34, 1)]⟩]), (fly 1 [15]), by decide +kernel, (by unfold InFlightAt; decide +kernel), (by unfold Arrived; decide +kernel), by decide +kernel⟩,
   ⟨(flown (fly 1 [15]) { st [(F.GLB_PLANES_LIVE, 0, 0x8001)] with deck.rf := [(flowId 0 127 0, 61440)] }), 7, 7, 262143, [], (fly 1 [15]), by decide +kernel, (by unfold InFlightAt; decide +kernel), (by unfold Arrived; decide +kernel), by decide +kernel⟩,
   ⟨(flown (fly 1 [15]) (st [(F.DCK_STAT_STATE, 0, 0), (F.DCK_STAT_STATE, 15, 0)])), 7, 7, 262143, ⟨0, 4, [(34, 1)]⟩, ⟨0, 15, 0, []⟩, (fly 1 [15]), by decide +kernel, (by unfold InFlightAt; decide +kernel), (by unfold Arrived; decide +kernel), by decide +kernel⟩,
   ⟨(flown (fly 1 [15]) (st [(F.DCK_STAT_STATE, 0, 0), (F.DCK_STAT_STATE, 15, 0), (F.GLB_PLANES_LIVE, 0, 0x8001), (F.DCK_THR_UNC_THR, 15, 1)])), 7, 7, 262143, ⟨0, 4, [(0, 1), (34, 1)]⟩, ⟨0, 15, 0, []⟩, (fly 1 [15]), by decide +kernel, (by unfold InFlightAt; decide +kernel), (by unfold Arrived; decide +kernel), by decide +kernel⟩,
   ⟨(flown (fly 1 [15]) { st [] with deck.answers := [⟨7, 7, 262143, true, 15⟩] }), 7, 7, 262143, (fly 1 [15]), ⟨7, 7, 262143, true, 15⟩, by decide +kernel, (by unfold InFlightAt; decide +kernel), by decide +kernel⟩,
   ⟨(flown (fly 8 [15]) { st [] with deck.answers := [⟨7, 7, 262143, false, 15⟩] }), 7, 7, 262143, (fly 8 [15]), ⟨7, 7, 262143, false, 15⟩, by decide +kernel, (by unfold InFlightAt; decide +kernel), by decide +kernel⟩⟩

theorem wit_CopiesComplete_2 :
    (∃ (s : State) (src : PierId) (dst : PierId) (h : Fin 262144) (x : InFlight), On s ∧ InFlightAt s src.val dst.val h.val x ∧ x.sends < 9 ∧ (∀ m ∈ x.used, SMap.get 0 s.deck.ackRun m < 7)) ∧
    (∃ (s : State) (src : PierId) (dst : PierId) (h : Fin 262144) (x : InFlight) (m : PlaneId), On s ∧ InFlightAt s src.val dst.val h.val x ∧ x.used = [m.val] ∧ SMap.get 0 s.deck.ackRun m.val = 7 ∧ (planeSt s m.val = 0 ∨ planeSt s m.val = 1) ∧ liveAfter s m.val ≠ []) ∧
    (∃ (s : State) (p : PortId), On s ∧ p.val ∈ s.deck.stopped ∧ (∀ n, ∀ c ∈ SMap.get [] s.deck.wait n, c.inP < 128 ∧ ∀ e ∈ c.targets, e < 128)) ∧
    (∃ (s : State) (m : PlaneId), On s ∧ planeSt s m.val = 1) ∧
    (∃ (s : State) (m : PlaneId) (cause : Fin 6), On s ∧ (planeSt s m.val = 0 ∨ planeSt s m.val = 1) ∧ cause.val ≠ 0 ∧ liveAfter s m.val ≠ []) :=
  ⟨⟨(flown (fly 8 [15]) { st [] with deck.ackRun := [(15, 6)] }), 7, 7, 262143, (fly 8 [15]), by decide +kernel, (by unfold InFlightAt; decide +kernel), by decide +kernel⟩,
   ⟨(flown (fly 8 [15]) { st [(F.DCK_STAT_STATE, 15, 0), (F.GLB_PLANES_LIVE, 0, 0x8001), (F.DCK_STAT_STATE, 0, 0)] with deck.ackRun := [(15, 7)] }), 7, 7, 262143, (fly 8 [15]), 15, by decide +kernel, (by unfold InFlightAt; decide +kernel), by decide +kernel⟩,
   ⟨({ st [] with deck.stopped := [127], deck.sf := [(flowId 0 127 3, 5)] }), 127, by decide +kernel, by decide +kernel, by intro n c h; exact absurd h (by simp [st, State.reset, Deck.init, SMap.get, SMap.find?])⟩,
   ⟨(st [(F.DCK_STAT_STATE, 15, 1)]), 15, by decide +kernel⟩,
   ⟨(st [(F.DCK_STAT_STATE, 15, 0), (F.GLB_PLANES_LIVE, 0, 0x8001), (F.DCK_STAT_STATE, 0, 0)]), 15, 5, by decide +kernel⟩⟩

theorem wit_LandingCompletes_1 :
    (∃ (s : State) (ch : ChanId) (blk : Nat), On s ∧ ch.val * 2 ^ 25 + blk ∈ s.csn.copying ∧ granted s ch.val 4 = true ∧ spareLeft s ch.val ≠ 0) ∧
    (∃ (s : State) (ch : ChanId) (blk : Nat), On s ∧ ch.val * 2 ^ 25 + blk ∈ s.csn.copying ∧ granted s ch.val 4 = true ∧ spareLeft s ch.val = 0 ∧ s.f F.CSN_CHSTAT_STATE ch.val ≠ 1) ∧
    (∃ (s : State) (ch : ChanId) (blk : Nat), On s ∧ ch.val * 2 ^ 25 + blk ∈ s.csn.copying ∧ granted s ch.val 4 = false) ∧
    (∃ (s : State) (ch : ChanId) (cause : Fin 7), On s ∧ (chanLive s ch.val = true ∨ s.f F.CSN_CHSTAT_STATE ch.val = 4) ∧ s.f F.CSN_CHSTAT_STATE ch.val ≠ 1 ∧ cause.val ≠ 0) ∧
    (∃ (s : State) (bad : List Nat) (r : LandReq) (rest : List LandReq), LandTurn s r rest ∧ r.c.tlp.kind = .memWr ∧ r.parts = [] ∧ 0 < r.c.tlp.data.length ∧ r.c.tlp.addr % 64 + r.c.tlp.data.length ≤ 64 ∧ landAvail s r.c.tlp.addr = true ∧ keyMatches (tenantKey s r.c.tenant) (blockTag s r.c.tlp.addr) = true ∧ (r.c.tlp.data.length = 64 ∨ landBlk r ∉ bad)) ∧
    (∃ (s : State) (bad : List Nat) (r : LandReq) (rest : List LandReq), LandTurn s r rest ∧ r.c.tlp.kind = .memWr ∧ r.parts = [] ∧ 0 < r.c.tlp.data.length ∧ r.c.tlp.addr % 64 + r.c.tlp.data.length ≤ 64 ∧ landAvail s r.c.tlp.addr = true ∧ keyMatches (tenantKey s r.c.tenant) (blockTag s r.c.tlp.addr) = true ∧ r.c.tlp.data.length < 64 ∧ landBlk r ∈ bad ∧ s.csn.scanKeys = [] ∧ spareLeft s (landChan r.c.tlp.addr) ≠ 0 ∧ s.f F.CSN_CHTHR_UNC_THR (landChan r.c.tlp.addr) = 0) ∧
    (∃ (s : State) (r : LandReq) (rest : List LandReq), LandTurn s r rest ∧ r.c.tlp.kind = .memWr ∧ r.parts = [] ∧ 0 < r.c.tlp.data.length ∧ r.c.tlp.addr % 64 + r.c.tlp.data.length ≤ 64 ∧ keyMatches (tenantKey s r.c.tenant) (blockTag s r.c.tlp.addr) = false) ∧
    (∃ (s : State) (r : LandReq) (rest : List LandReq), On s ∧ s.csn.landq = r :: rest ∧ (s.mode.wiping = true ∨ landCopying s r = true ∨ landYields s r = true ∨ (∃ ch ∈ landChans r, granted s ch 2 = false))) :=
  ⟨⟨({ st [] with csn.copying := [7 * 2 ^ 25 + 33554431], csn.remap := [(7 * 2 ^ 25, 5)] }), 7, 33554431, by decide +kernel⟩,
   ⟨({ st [(F.CSN_CHSTAT_STATE, 7, 0)] with csn.copying := [7 * 2 ^ 25 + 33554431], csn.remap := [(7 * 2 ^ 25, 466032)] }), 7, 33554431, by decide +kernel⟩,
   ⟨({ st [(F.CSN_STAT_CH_LIVE, 0, 0x80)] with csn.copying := [7 * 2 ^ 25 + 33554431], csn.landq := [⟨car { Tlp.blank with kind := .memWr, addr := 7 * 4096, data := [7] } 0 200, []⟩] }), 7, 33554431, by decide +kernel⟩,
   ⟨(st [(F.CSN_STAT_CH_LIVE, 0, 0x81), (F.CSN_CHSTAT_STATE, 7, 0), (F.CSN_CHSTAT_STATE, 0, 0)]), 0, 6, by decide +kernel⟩,
   ⟨({ st [(F.CSN_STAT_CH_LIVE, 0, 0xFF), (F.CSN_STAT_LM_STATE, 0, 0)] with csn.landq := [⟨car { Tlp.blank with kind := .memWr, addr := 127, data := [7] } 0 200, []⟩] }), [], ⟨car { Tlp.blank with kind := .memWr, addr := 127, data := [7] } 0 200, []⟩, [], landTurn (by decide +kernel), by decide +kernel⟩,
   ⟨({ st [(F.CSN_STAT_CH_LIVE, 0, 0xFF), (F.CSN_STAT_LM_STATE, 0, 0), (F.CSN_CHTHR_UNC_THR, 0, 0)] with csn.landq := [⟨car { Tlp.blank with kind := .memWr, addr := 127, data := [7] } 0 200, []⟩] }), [1], ⟨car { Tlp.blank with kind := .memWr, addr := 127, data := [7] } 0 200, []⟩, [], landTurn (by decide +kernel), by decide +kernel⟩,
   ⟨({ st [(F.CSN_STAT_CH_LIVE, 0, 0xFF), (F.CSN_STAT_LM_STATE, 0, 0), (F.TNT_KEY_KEY, 0, 1)] with csn.tag := [(1, 2)], csn.landq := [⟨car { Tlp.blank with kind := .memWr, addr := 127, data := [7] } 0 200, []⟩] }), ⟨car { Tlp.blank with kind := .memWr, addr := 127, data := [7] } 0 200, []⟩, [], landTurn (by decide +kernel), by decide +kernel⟩,
   ⟨({ st [] with mode.wiping := true, csn.landq := [⟨car { Tlp.blank with kind := .memWr, addr := 127, data := [7] } 0 200, []⟩] }), ⟨car { Tlp.blank with kind := .memWr, addr := 127, data := [7] } 0 200, []⟩, [], by decide +kernel⟩⟩

theorem wit_LandingCompletes_2 :
    (∃ (s : State) (base : Nat) (n : Nat) (tag : Nat), On s ∧ s.csn.tagset = some (base, n, tag) ∧ ((∀ ch < 8, chanLive s ch = true → granted s ch 4 = true))) ∧
    (∃ (s : State) (base : Nat) (n : Nat) (tag : Nat), On s ∧ s.csn.tagset = some (base, n, tag) ∧ (∃ ch < 8, chanLive s ch = true ∧ granted s ch 4 = false)) ∧
    (∃ (s : State), On s ∧ s.csn.scanKeys ≠ []) :=
  ⟨⟨({ st [] with csn.tagset := some (4096, 3, 1023) }), 4096, 3, 1023, by decide +kernel⟩,
   ⟨({ st [(F.CSN_STAT_CH_LIVE, 0, 0x80), (F.CSN_CHSTAT_STATE, 7, 0)] with csn.tagset := some (4096, 3, 1023), csn.landq := [⟨car { Tlp.blank with kind := .memWr, addr := 7 * 4096, data := [7] } 0 200, []⟩] }), 4096, 3, 1023, by decide +kernel⟩,
   ⟨({ st [(F.CSN_STAT_LM_STATE, 0, 2)] with csn.scanKeys := [3], csn.tag := [(0, 3), (2, 4)], csn.mem := [(5, 1), (64, 2), (128, 3)] }), by decide +kernel⟩⟩

theorem wit_EgressCompletes :
    (∃ (s : State) (p : PortId) (k : Nat) (i : Nat) (e : QEnt), On s ∧ isFloing s p.val = false ∧ linkUp s p.val = true ∧ carries s p.val = true ∧ e.c.tlp.ep = false ∧ e.c.mc = [] ∧ expressPick s (candidate s p.val) = some (k, i, e)) ∧
    (∃ (s : State) (p : PortId) (i : Nat) (e : QEnt), On s ∧ isFloing s p.val = false ∧ linkUp s p.val = true ∧ carries s p.val = true ∧ e.c.tlp.ep = false ∧ e.c.mc = [] ∧ expressPick s (candidate s p.val) = none ∧ let k := (s.port p.val).ptr;
      let have_ := (if (s.port p.val).fresh then quantum s p.val k else 0) + SMap.get 0 s.ports.deficit (8 * p.val + k);
      classOf s k ≠ 0 ∧ eligible s p.val k = true ∧ candidate s p.val k = some (i, e) ∧ e.c.tlp.size ≤ have_) ∧
    (∃ (s : State) (p : PortId), On s ∧ isFloing s p.val = false ∧ linkUp s p.val = true) ∧
    (∃ (s : State) (sp : SpanId) (cls : Fin 4) (h : Held) (w : HoldWhy), On s ∧ SMap.get [] s.ports.hold (4 * sp.val + cls.val) = [h] ∧ judge h { s with ports.hold := SMap.put [] s.ports.hold (4 * sp.val + cls.val) [] } = .error w) ∧
    (∃ (s : State) (sp : SpanId) (cls : Fin 4) (h : Held), On s ∧ SMap.get [] s.ports.hold (4 * sp.val + cls.val) = [h] ∧ h.c.outP = landPort ∧ h.c.fab = none ∧ h.inc = none ∧ h.proxy = none ∧ h.c.tlp.isCpl = false ∧ tenantClosed s h.c.tenant = false ∧ classOf s h.c.tlp.tc ≠ 0 ∧ s.b F.PIR_TSCFG_EN (512 * pierOf h.c.inP + h.c.tenant) = false) ∧
    (∃ (s : State) (i : PortId) (e : PortId) (tc : Fin 8) (x : SpillFlow) (c : Carried) (rest : List Carried), On s ∧ (∀ b, Quiet s b) ∧ SMap.find? s.csn.flows (flowId i.val e.val tc.val) = some x ∧ x.tlps = c :: rest ∧ s.mode.wiping = false ∧ (∀ b ∈ headBlocks s x c, b.1 * 2 ^ 25 + b.2 ∉ s.csn.copying) ∧ backReady s x = true ∧ backYields s x = false ∧ (∀ ch ∈ backChans s x, granted s ch 2 = true) ∧ c.mc = [] ∧ pierOf c.inP ≠ pierOf c.outP ∧ SMap.get [] s.deck.wait (pierOf c.inP) = [] ∧ canSend s c = true) ∧
    (∃ (s : State) (i : PortId) (e : PortId) (tc : Fin 8) (x : SpillFlow) (c : Carried) (rest : List Carried), On s ∧ SMap.find? s.csn.flows (flowId i.val e.val tc.val) = some x ∧ x.tlps = c :: rest ∧ (s.mode.wiping = true ∨ (∃ b ∈ headBlocks s x c, b.1 * 2 ^ 25 + b.2 ∈ s.csn.copying) ∨ backReady s x = false ∨ backYields s x = true ∨ (∃ ch ∈ backChans s x, granted s ch 2 = false))) :=
  ⟨⟨(setEgressQ 127 7 [⟨car { Tlp.blank with kind := .memWr, tc := 7, data := [1] } 0 127, 3, false⟩] ((st (up 127)).setPort 127 { Port.init with cred := ⟨none, none, none, none, none, none⟩ })), 127, 7, 0, ⟨car { Tlp.blank with kind := .memWr, tc := 7, data := [1] } 0 127, 3, false⟩, by decide +kernel⟩,
   ⟨(setEgressQ 127 6 [⟨car { Tlp.blank with kind := .memWr, tc := 6, data := [1] } 0 127, 3, false⟩] ((st (up 127)).setPort 127 { Port.init with ptr := 6, cred := ⟨none, none, none, none, none, none⟩ })), 127, 0, ⟨car { Tlp.blank with kind := .memWr, tc := 6, data := [1] } 0 127, 3, false⟩, by decide +kernel⟩,
   ⟨(st [(F.GLB_SPANFORM_FORM, 31, 3), (F.GLB_SPANFORM_PRESENT, 31, 15), (F.SPN_PSTAT_LTSSM, 127, 0x0C), (F.SPN_PSTAT_LINKUP, 127, 1)]), 127, by decide +kernel⟩,
   ⟨({ st (up 127 ++ [(F.PIR_TSCFG_EN, 3589, 1), (F.PIR_TSCFG_ACTIVE, 3589, 1), (F.TNT_PORTDEF_TENANT, 127, 5)]) with ports.tbkt := [(3589, ⟨-1, 0⟩)], ports.hold := [(127, [⟨{ car { Tlp.blank with kind := .memWr } 127 127 with tenant := 5 }, none, none, [], .route⟩])] }), 31, 3, ⟨{ car { Tlp.blank with kind := .memWr } 127 127 with tenant := 5 }, none, none, [], .route⟩, .shaper, by decide +kernel, by decide +kernel, judged (by decide +kernel)⟩,
   ⟨({ st [] with ports.hold := [(127, [⟨car { Tlp.blank with kind := .memWr, data := [1] } 127 200, none, none, [], .route⟩])] }), 31, 3, ⟨car { Tlp.blank with kind := .memWr, data := [1] } 127 200, none, none, [], .route⟩, by decide +kernel⟩,
   ⟨({ st [] with csn.flows := [(flowId 0 127 0, ⟨[car { Tlp.blank with kind := .memWr, data := [1] } 0 127], [7 * 2 ^ 22], 2, 0⟩)] }), 0, 127, 0, ⟨[car { Tlp.blank with kind := .memWr, data := [1] } 0 127], [7 * 2 ^ 22], 2, 0⟩, (car { Tlp.blank with kind := .memWr, data := [1] } 0 127), [], by decide +kernel, quiet (by decide +kernel), by decide +kernel⟩,
   ⟨({ st [] with mode.wiping := true, csn.flows := [(flowId 0 127 0, ⟨[car { Tlp.blank with kind := .memWr, data := [1] } 0 127], [7 * 2 ^ 22], 2, 0⟩)] }), 0, 127, 0, ⟨[car { Tlp.blank with kind := .memWr, data := [1] } 0 127], [7 * 2 ^ 22], 2, 0⟩, (car { Tlp.blank with kind := .memWr, data := [1] } 0 127), [], by decide +kernel⟩⟩

theorem wit_DomainsComplete_1 :
    (∃ (s : State) (d : DomId), On s ∧ domState s d.val = 5 ∧ jointBusy s d.val = true) ∧
    (∃ (s : State) (d : DomId), On s ∧ domState s d.val = 5 ∧ jointBusy s d.val = false ∧ ((32 ≤ d.val ∧ d.val < 48 → d.val % 8 ∉ s.mode.rejoin)) ∧ ((73 ≤ d.val → mode s ≠ 5))) ∧
    (∃ (s : State) (d : DomId), On s ∧ domState s d.val = 1) ∧
    (∃ (s : State) (d : DomId), On s ∧ domState s d.val = 2) ∧
    (∃ (s : State) (d : DomId), On s ∧ domState s d.val = 2) ∧
    (∃ (s : State) (d : DomId), On s ∧ domState s d.val = 3) ∧
    (∃ (s : State) (d : DomId), On s ∧ 1 ≤ domState s d.val ∧ domState s d.val ≤ 4) ∧
    (∃ (s : State) (n : PierId), On s ∧ s.f F.GLB_PIERSTAT_STATE n.val = 0) :=
  ⟨⟨({ st [(F.PWD_STAT_STATE, 71, 5)] with sb.access := some (false, Reg.DCK_STAT.offset 15, 0) }), 71, by decide +kernel⟩,
   ⟨(st [(F.PWD_STAT_STATE, 71, 5)]), 71, by decide +kernel, by decide +kernel, by decide +kernel, fun h => absurd h (by decide), by decide +kernel⟩,
   ⟨(st [(F.PWD_STAT_STATE, 79, 1)]), 79, by decide +kernel⟩,
   ⟨(st [(F.PWD_STAT_STATE, 72, 2)]), 72, by decide +kernel⟩,
   ⟨(st [(F.PWD_STAT_STATE, 39, 2)]), 39, by decide +kernel⟩,
   ⟨({ st [(F.PWD_STAT_STATE, 79, 3)] with csn.mem := [(7 * 4096, 1)] }), 79, by decide +kernel⟩,
   ⟨(st [(F.PWD_STAT_STATE, 79, 1)]), 79, by decide +kernel⟩,
   ⟨(st (on [39, 47] ++ [(F.GLB_PIERSTAT_STATE, 7, 0)])), 7, by decide +kernel⟩⟩

theorem wit_DomainsComplete_2 :
    (∃ (s : State) (n : PierId), On s ∧ s.f F.GLB_PIERSTAT_STATE n.val = 2) ∧
    (∃ (s : State) (n : PierId), On s ∧ s.f F.GLB_PIERSTAT_STATE n.val = 2 ∧ domOn s (32 + n.val) = true ∧ domOn s (40 + n.val) = true) :=
  ⟨⟨(st [(F.GLB_PIERSTAT_STATE, 7, 2)]), 7, by decide +kernel⟩,
   ⟨(st (on [39, 47] ++ [(F.GLB_PIERSTAT_STATE, 7, 2), (F.GLB_SPANFORM_FORM, 31, 3), (F.GLB_SPANFORM_PRESENT, 31, 15), (F.PIR_CLOSE_CLOSED, 127, 1)])), 7, by decide +kernel⟩⟩

theorem wit_ReducedAndThermalComplete :
    (∃ (s : State), On s ∧ mode s = 5 ∧ s.b F.GLB_MODE_ENTERING 0 = true ∧ s.mode.readback = true) ∧
    (∃ (s : State), On s ∧ mode s = 5 ∧ s.b F.GLB_MODE_EXITING 0 = true ∧ chansUp s = true) ∧
    (∃ (s : State) (l : List (BitVec 16)), On s ∧ l.length = 10) ∧
    (∃ (s : State) (l : List (BitVec 16)), On s ∧ l.length = 10 ∧ tempOf (hottest l).2 < 16 * reduceT s) ∧
    (∃ (s : State) (l : List (BitVec 16)), On s ∧ l.length = 10 ∧ 16 * 110 ≤ tempOf (hottest l).2 ∧ 1 ≤ s.mode.shutN ∧ mode s ≠ 0) ∧
    (∃ (s : State), On s ∧ s.b F.GLB_MODE_CAUSE_THERM 0 = true ∧ tempMax s < 16 * (reduceT s - hystT s)) :=
  ⟨⟨({ st (on [73, 79] ++ [(F.GLB_MODE_MODE, 0, 5), (F.GLB_MODE_ENTERING, 0, 1)]) with mode.readback := true }), by decide +kernel⟩,
   ⟨(st (on [73, 74, 75, 76, 77, 78, 79] ++ [(F.GLB_MODE_MODE, 0, 5), (F.GLB_MODE_EXITING, 0, 1), (F.GLB_MODE_IMAGE_MODE, 0, 3), (F.CSN_STAT_CH_LIVE, 0, 0xFF), (F.CSN_CHSTAT_STATE, 0, 0)])), by decide +kernel⟩,
   ⟨(st []), ([0, 0, 0, 0, 0, 0, 0, 0, 0, 1600]), by decide +kernel⟩,
   ⟨(st []), ([0, 0, 0, 0, 0, 0, 0, 0, 0, 16]), by decide +kernel⟩,
   ⟨({ st [(F.GLB_MODE_MODE, 0, 2)] with mode.shutN := 1 }), ([0, 0, 0, 0, 0, 0, 0, 0, 0, 1760]), by decide +kernel⟩,
   ⟨(st [(F.GLB_MODE_CAUSE_THERM, 0, 1), (F.GLB_TEMPMAX_TEMP, 0, 16)]), by decide +kernel⟩⟩

theorem wit_FailuresComplete :
    (∃ (s : State) (isl : IslandId) (r : ErrRec) (rest : List ErrRec), On s ∧ SMap.get [] s.err.fifo isl.val = r :: rest) ∧
    (∃ (s : State) (p : PortId), On s ∧ s.b F.PIR_CLOSE_CLOSED p.val = false ∧ portExists s p.val = true ∧ ltssm s p.val ≠ 0x30) ∧
    (∃ (s : State) (p : PortId), On s ∧ s.b F.PIR_CLOSE_CLOSED p.val = true) ∧
    (∃ (s : State) (g : EngId), On s ∧ domOn s (48 + g.val / 8) = true ∧ engSt s g.val ≠ 3 ∧ s.img.live = none) ∧
    (∃ (s : State) (n : PierId), On s ∧ SMap.find? s.eng.failCause (64 + n.val) ≠ some 1 ∧ s.img.live = none) ∧
    (∃ (s : State) (u : Fin 72), On s ∧ (SMap.find? s.eng.failCause u.val).isSome = true) :=
  ⟨⟨({ st [] with err.fifo := [(24, [⟨0x10, 3, 7, false, none⟩])] }), 24, ⟨0x10, 3, 7, false, none⟩, [], by decide +kernel⟩,
   ⟨(st [(F.GLB_SPANFORM_FORM, 31, 3), (F.GLB_SPANFORM_PRESENT, 31, 15), (F.SPN_PSTAT_LTSSM, 127, 0x0C), (F.SPN_PSTAT_LINKUP, 127, 1)]), 127, by decide +kernel⟩,
   ⟨(st [(F.PIR_CLOSE_CLOSED, 127, 1)]), 127, by decide +kernel⟩,
   ⟨(st (on [55] ++ duty 4 ++ [(F.ENG_STAT_STATE, 63, 0), (F.ENG_STAT_STATE, 62, 0)])), 63, by decide +kernel⟩,
   ⟨(st (on [55] ++ [(F.ENG_STAT_STATE, 63, 0)])), 7, by decide +kernel⟩,
   ⟨({ st (on [55] ++ duty 4 ++ [(F.PIR_DUTY_MOVING, 511, 1)]) with eng.failCause := [(63, 1)], eng.target := [(511, (62, 1))] }), 63, by decide +kernel⟩⟩

theorem wit_HandlersEnter_1 :
    (∃ (s : State) (g : EngId) (q : QEv) (d : Bool), Waits s g q d ∧ q.ev.number = 0x00) ∧
    (∃ (s : State) (g : EngId) (q : QEv) (d : Bool), Waits s g q d ∧ q.ev.number = 0x01) ∧
    (∃ (s : State) (g : EngId) (q : QEv) (d : Bool), Waits s g q d ∧ q.ev.number = 0x02) ∧
    (∃ (s : State) (g : EngId) (q : QEv) (d : Bool), Waits s g q d ∧ q.ev.number = 0x03) ∧
    (∃ (s : State) (g : EngId) (q : QEv) (d : Bool), Waits s g q d ∧ q.ev.number = 0x04) ∧
    (∃ (s : State) (g : EngId) (q : QEv) (d : Bool), Waits s g q d ∧ q.ev.number = 0x05) ∧
    (∃ (s : State) (g : EngId) (q : QEv) (d : Bool), Waits s g q d ∧ q.ev.number = 0x06) ∧
    (∃ (s : State) (g : EngId) (q : QEv) (d : Bool), Waits s g q d ∧ q.ev.number = 0x07) :=
  ⟨⟨(hand (ev (.start 0)) false []), 63, (ev (.start 0)), false, waits (by decide +kernel), by decide +kernel⟩,
   ⟨(hand (ev (.cfg false ⟨Tlp.blank, 0, 0⟩)) false []), 63, (ev (.cfg false ⟨Tlp.blank, 0, 0⟩)), false, waits (by decide +kernel), by decide +kernel⟩,
   ⟨(hand (ev (.cfg true ⟨Tlp.blank, 0, 0⟩)) false []), 63, (ev (.cfg true ⟨Tlp.blank, 0, 0⟩)), false, waits (by decide +kernel), by decide +kernel⟩,
   ⟨(hand (ev (.error 1 2 3 4)) false []), 63, (ev (.error 1 2 3 4)), false, waits (by decide +kernel), by decide +kernel⟩,
   ⟨(hand (ev (.command 7)) false []), 63, (ev (.command 7)), false, waits (by decide +kernel), by decide +kernel⟩,
   ⟨(hand (ev (.message 0 0 [])) false []), 63, (ev (.message 0 0 [])), false, waits (by decide +kernel), by decide +kernel⟩,
   ⟨(hand (ev (.control 0 4 [])) false []), 63, (ev (.control 0 4 [])), false, waits (by decide +kernel), by decide +kernel⟩,
   ⟨(hand (ev (.footway 0 [])) false []), 63, (ev (.footway 0 [])), false, waits (by decide +kernel), by decide +kernel⟩⟩

theorem wit_HandlersEnter_2 :
    (∃ (s : State) (g : EngId) (q : QEv) (d : Bool), Waits s g q d ∧ q.ev.number = 0x08) ∧
    (∃ (s : State) (g : EngId) (q : QEv) (d : Bool), Waits s g q d ∧ q.ev.number = 0x09) ∧
    (∃ (s : State) (g : EngId) (q : QEv) (d : Bool), Waits s g q d ∧ q.ev.number = 0x0A) ∧
    (∃ (s : State) (g : EngId) (q : QEv) (d : Bool), Waits s g q d ∧ q.ev.number = 0x0B) ∧
    (∃ (s : State) (g : EngId) (q : QEv) (d : Bool), Waits s g q d ∧ q.ev.number = 0x0C) ∧
    (∃ (s : State) (g : EngId) (q : QEv) (d : Bool), Waits s g q d ∧ q.ev.number = 0x0D) ∧
    (∃ (s : State) (g : EngId) (q : QEv) (d : Bool), Waits s g q d ∧ q.ev.number = 0x0E) ∧
    (∃ (s : State) (g : EngId) (q : QEv) (d : Bool), Waits s g q d ∧ q.ev.number = 0x0F) :=
  ⟨⟨(hand (ev (.tlp 0 0 true Tlp.blank)) false []), 63, (ev (.tlp 0 0 true Tlp.blank)), false, waits (by decide +kernel), by decide +kernel⟩,
   ⟨(hand (ev (.timer 3)) false []), 63, (ev (.timer 3)), false, waits (by decide +kernel), by decide +kernel⟩,
   ⟨(hand (ev (.link 0)) false []), 63, (ev (.link 0)), false, waits (by decide +kernel), by decide +kernel⟩,
   ⟨(hand (ev (.slot 0)) false []), 63, (ev (.slot 0)), false, waits (by decide +kernel), by decide +kernel⟩,
   ⟨(hand (ev (.lane 0)) false []), 63, (ev (.lane 0)), false, waits (by decide +kernel), by decide +kernel⟩,
   ⟨(hand (ev (.counter 0)) false []), 63, (ev (.counter 0)), false, waits (by decide +kernel), by decide +kernel⟩,
   ⟨(hand (ev (.stop 0)) false []), 63, (ev (.stop 0)), false, waits (by decide +kernel), by decide +kernel⟩,
   ⟨(hand (ev (.continue_ 0)) false []), 63, (ev (.continue_ 0)), false, waits (by decide +kernel), by decide +kernel⟩⟩

theorem wit_QueuesComplete_1 :
    (∃ (s : State) (g : EngId) (q : QEv) (d : Bool) (j : _), Runs s g q d ∧ SMap.find? s.eng.preempted g.val = some j) ∧
    (∃ (s : State) (g : EngId) (q : QEv) (d : Bool), Runs s g q d ∧ SMap.find? s.eng.preempted g.val = none ∧ (∀ x ∈ engQ s g.val ++ s.eng.flags, noHandler s g.val x = true)) ∧
    (∃ (s : State) (g : EngId) (q : QEv) (d : Bool) (e : _) (l : _), Runs s g q d ∧ SMap.find? s.eng.preempted g.val = none ∧ (engQ s g.val).filter (fun x => !noHandler s g.val x) = e :: l ∧ (∀ x ∈ e :: l, x.ev.urgent = false)) ∧
    (∃ (s : State) (g : EngId) (j : Inv), On s ∧ SMap.find? s.eng.cur g.val = some j ∧ engRuns s g.val = true ∧ j.q.ev.urgent = false ∧ SMap.find? s.eng.preempted g.val = none ∧ (∃ e ∈ engQ s g.val, e.ev.urgent = true ∧ noHandler s g.val e = false)) ∧
    (∃ (s : State) (g : EngId) (e : QEv), On s ∧ s.eng.kept.find? (fun (e : QEv) => dutyEng s e.pier e.duty == g.val && engRoom s g.val e.ev) = some e ∧ s.b F.PIR_DUTY_VALID (dutyKey e.pier e.duty) = true) ∧
    (∃ (s : State) (g : EngId), On s ∧ engSt s g.val = 4 ∧ SMap.find? s.eng.cur g.val = none ∧ engQ s g.val = [] ∧ s.eng.parkWait = []) ∧
    (∃ (s : State) (g : EngId) (q : QEv) (d : Bool), Runs s g q d ∧ s.b F.ENG_TRAP_VALID g.val = false) ∧
    (∃ (s : State) (g : EngId) (q : QEv) (d : Bool) (tr : Trap), Runs s g q d ∧ s.img.live = none ∧ trapFatal (Trap.code tr) = true) :=
  ⟨⟨({ hand (ev (.timer 3)) true [] with eng.preempted := [(63, ⟨ev (.start 0), true, false, false⟩)] }), 63, (ev (.timer 3)), false, ⟨ev (.start 0), true, false, false⟩, runs (by decide +kernel), by decide +kernel⟩,
   ⟨(hand (ev (.timer 3)) true []), 63, (ev (.timer 3)), false, runs (by decide +kernel), by decide +kernel⟩,
   ⟨({ hand (ev (.timer 3)) true (duty 4) with eng.q := [(63, [ev (.command 9), ev (.stop 0)])] }), 63, (ev (.timer 3)), false, (ev (.command 9)), ([ev (.stop 0)]), runs (by decide +kernel), by decide +kernel⟩,
   ⟨({ hand (ev (.timer 3)) true (duty 4) with eng.q := [(63, [ev (.command 9), ev (.error 1 2 3 4)])] }), 63, ⟨ev (.timer 3), true, false, false⟩, by decide +kernel⟩,
   ⟨({ st (on [55] ++ duty 4 ++ [(F.ENG_STAT_STATE, 63, 0)]) with eng.kept := [ev (.command 9)] }), 63, (ev (.command 9)), by decide +kernel⟩,
   ⟨({ st (on [55] ++ duty 4 ++ [(F.ENG_STAT_STATE, 63, 4), (F.PIR_DUTY_MOVING, 511, 1), (F.ENG_CTL_PARK, 63, 1)]) with eng.target := [(511, (62, 2))] }), 63, by decide +kernel⟩,
   ⟨(hand (ev (.timer 3)) true []), 63, (ev (.timer 3)), false, runs (by decide +kernel), by decide +kernel⟩,
   ⟨(hand (ev (.timer 3)) true []), 63, (ev (.timer 3)), false, .undefined, runs (by decide +kernel), by decide +kernel⟩⟩

theorem wit_QueuesComplete_2 :
    (∃ (s : State) (g : EngId) (q : QEv) (d : Bool), Runs s g q d ∧ s.img.live = none ∧ s.b F.ENG_TRAP_VALID g.val = false) ∧
    (∃ (s : State) (n : PierId) (d : DutyId) (k : Fin 4) (x : Timer), On s ∧ SMap.find? s.eng.timer (4 * dutyKey n.val d.val + k.val) = some x ∧ s.b F.PIR_DUTY_VALID (dutyKey n.val d.val) = true) :=
  ⟨⟨(hand (ev (.error 1 2 3 4)) true []), 63, (ev (.error 1 2 3 4)), false, runs (by decide +kernel), by decide +kernel⟩,
   ⟨({ st (on [55] ++ duty 4 ++ [(F.ENG_STAT_STATE, 63, 0)]) with eng.timer := [(2047, ⟨100, 50⟩)] }), 7, 63, 3, ⟨100, 50⟩, by decide +kernel⟩⟩

theorem wit_EngineAccessCompletes :
    (∃ (s : State) (g : EngId) (q : QEv) (d : Bool) (off : Nat), Runs s g q d ∧ regAt off = none) ∧
    (∃ (s : State) (g : EngId) (q : QEv) (d : Bool) (off : Nat), Runs s g q d ∧ regAt off ≠ none) ∧
    (∃ (s : State) (g : EngId) (q : QEv) (d : Bool) (r : Reg) (i : Nat) (val : Word) (be : BitVec 4), Runs s g q d ∧ Lands r i ⟨engOrg g q, be, val⟩ s ∧ r.acts = false) ∧
    (∃ (s : State) (g : EngId) (q : QEv) (d : Bool) (n : PierId), Runs s g q d ∧ pierAccess s n.val ≠ accOk) ∧
    (∃ (s : State) (g : EngId) (q : QEv) (d : Bool) (n : PierId) (x : EngTab), Runs s g q d ∧ pierAccess s n.val = accOk ∧ EngTab.has x s n.val = true) ∧
    (∃ (s : State) (g : EngId) (q : QEv) (d : Bool) (n : PierId) (x : EngTab) (data : List Byte), Runs s g q d ∧ mustHold s n.val = false ∧ pierAccess s n.val = accOk ∧ EngTab.has x s n.val = true ∧ leNum data < 2 ^ 32) ∧
    (∃ (s : State) (g : EngId) (q : QEv) (d : Bool) (b : BlockId) (c : Fin 32) (v : Nat), Runs s g q d ∧ counterOf s b.val c.val = some v ∧ accessStatus false s .PMC_CYC (2 * b.val) = accOk) :=
  ⟨⟨(hand (ev (.timer 3)) true []), 63, (ev (.timer 3)), false, 0x3FFFFFC, runs (by decide +kernel), by decide +kernel⟩,
   ⟨(hand (ev (.timer 3)) true []), 63, (ev (.timer 3)), false, 0, runs (by decide +kernel), by decide +kernel⟩,
   ⟨(hand (ev (.timer 3)) true []), 63, (ev (.timer 3)), false, .REC_TRGMATCH, 31, 0x12345678, 0xF, runs (by decide +kernel), lands (by decide +kernel), by decide +kernel⟩,
   ⟨(hand (ev (.timer 3)) true []), 63, (ev (.timer 3)), false, 7, runs (by decide +kernel), by decide +kernel⟩,
   ⟨(hand (ev (.timer 3)) true (on [39] ++ duty 6)), 63, (ev (.timer 3)), false, 7, (.mcast 63 63), runs (by decide +kernel), by decide +kernel⟩,
   ⟨(hand (ev (.timer 3)) true (on [39])), 63, (ev (.timer 3)), false, 7, (.image 255 65535), ([1, 2, 3, 4]), runs (by decide +kernel), by decide +kernel⟩,
   ⟨(hand (ev (.timer 3)) true []), 63, (ev (.timer 3)), false, 128, 24, 0, runs (by decide +kernel), by decide +kernel⟩⟩

theorem wit_EngineSendsComplete_1 :
    (∃ (s : State) (g : EngId) (n : Nat) (d : Nat) (w : Bool) (r : CfgReq), Runs s g ⟨n, d, .cfg w r⟩ false) ∧
    (∃ (s : State) (g : EngId) (q : QEv) (d : Bool) (n : PierId) (u : DutyId) (bytes : List Byte), Runs s g q d ∧ bytes.length = 32 ∧ s.b F.PIR_DUTY_VALID (dutyKey n.val u.val) = true ∧ dutyFull s n.val u.val (.message g.val q.duty bytes) = false) ∧
    (∃ (s : State) (g : EngId) (q : QEv) (d : Bool) (n : PierId) (u : DutyId) (bytes : List Byte), Runs s g q d ∧ bytes.length = 32 ∧ s.b F.PIR_DUTY_VALID (dutyKey n.val u.val) = true ∧ dutyFull s n.val u.val (.message g.val q.duty bytes) = true) ∧
    (∃ (s : State) (g : EngId) (q : QEv) (d : Bool) (m : Fin 64) (bytes : List Byte) (p : Nat), Runs s g q d ∧ bytes.length ≤ 96 ∧ m.val ≠ myModule s ∧ routeOf s q.pier m.val = some p ∧ admits s p (classOf s (ctlTc s)) 1 1 0 = true ∧ s.fab.hold.contains (64 * q.pier + m.val) = false ∧ flUp s (p / 4) = true ∧ linkUp s p = true) ∧
    (∃ (s : State) (g : EngId) (q : QEv) (d : Bool) (m : Fin 64) (bytes : List Byte) (p : Nat), Runs s g q d ∧ bytes.length ≤ 96 ∧ m.val ≠ myModule s ∧ routeOf s q.pier m.val = some p ∧ admits s p (classOf s (ctlTc s)) 1 1 0 = true ∧ s.fab.hold.contains (64 * q.pier + m.val) = true) ∧
    (∃ (s : State) (g : EngId) (q : QEv) (d : Bool) (p : PortId) (bytes : List Byte), Runs s g q d ∧ isFloing s p.val = true ∧ bytes.length = 28 ∧ flUp s (p.val / 4) = true) ∧
    (∃ (s : State) (g : EngId) (q : QEv) (d : Bool) (p : PortId) (x : Tlp), Runs s g q d ∧ portExists s p.val = true ∧ isFloing s p.val = false ∧ x.data.length ≤ 256 ∧ linkUp s p.val = true ∧ s.b F.PIR_CLOSE_CLOSED p.val = false ∧ admits s p.val (classOf s x.tc) 1 (Carried.cells ⟨x, p.val, p.val, 0, (vsOfPort s p.val).getD 0, none, 0, [], 0⟩) 0 = true) ∧
    (∃ (s : State) (g : EngId) (q : QEv) (d : Bool) (ns : Nat), Runs s g q d ∧ 10 ≤ ns ∧ ns ≤ 42900000000 ∧ ns % 10 = 0) :=
  ⟨⟨(hand (ev (.cfg true ⟨Tlp.blank, 0, 0⟩)) true []), 63, 7, 63, true, ⟨Tlp.blank, 0, 0⟩, runs (by decide +kernel)⟩,
   ⟨(hand (ev (.timer 3)) true (duty 7)), 63, (ev (.timer 3)), false, 7, 63, (List.replicate 32 1), runs (by decide +kernel), by decide +kernel⟩,
   ⟨({ hand (ev (.timer 3)) true (duty 7) with eng.q := [(63, List.replicate 256 (ev (.command 1)))] }), 63, (ev (.timer 3)), false, 7, 63, (List.replicate 32 1), runs (by decide +kernel), by decide +kernel⟩,
   ⟨(hand (ev (.timer 3)) true (flo 31 3 ++ [(F.PIR_FROUTE_VALID, 511, 1), (F.PIR_FROUTE_PORT, 511, 124), (F.SPN_PSTAT_LINKUP, 124, 1), (F.PIR_BUFCFG_EXP_RSV, 7, 64)])), 63, (ev (.timer 3)), false, 63, (List.replicate 96 1), 124, runs (by decide +kernel), by decide +kernel⟩,
   ⟨({ hand (ev (.timer 3)) true (flo 31 3 ++ [(F.PIR_FROUTE_VALID, 511, 1), (F.PIR_FROUTE_PORT, 511, 124), (F.SPN_PSTAT_LINKUP, 124, 1), (F.PIR_BUFCFG_EXP_RSV, 7, 64)]) with fab.hold := [511] }), 63, (ev (.timer 3)), false, 63, (List.replicate 96 1), 124, runs (by decide +kernel), by decide +kernel⟩,
   ⟨(hand (ev (.timer 3)) true (flo 31 3)), 63, (ev (.timer 3)), false, 124, (List.replicate 28 1), runs (by decide +kernel), by decide +kernel⟩,
   ⟨(hand (ev (.timer 3)) true [(F.GLB_SPANFORM_FORM, 31, 3), (F.GLB_SPANFORM_PRESENT, 31, 15), (F.SPN_PSTAT_LTSSM, 127, 0x0C), (F.SPN_PSTAT_LINKUP, 127, 1)]), 63, (ev (.timer 3)), false, 127, ({ Tlp.blank with kind := .memWr, data := List.replicate 256 1 }), runs (by decide +kernel), by decide +kernel⟩,
   ⟨(hand (ev (.timer 3)) true []), 63, (ev (.timer 3)), false, 42900000000, runs (by decide +kernel), by decide +kernel⟩⟩

theorem wit_EngineSendsComplete_2 : ∃ (s : State) (g : EngId) (q : QEv) (d : Bool), Runs s g q d :=
  ⟨({ hand (ev (.timer 3)) true [] with eng.flags := [ev (.timer 3)] }), 63, (ev (.timer 3)), false, runs (by decide +kernel)⟩

theorem wit_EngineActsComplete_1 :
    (∃ (s : State) (g : EngId) (q : QEv) (d : Bool) (p : PortId), Runs s g q d ∧ portExists s p.val = true ∧ s.b F.PIR_CLOSE_CLOSED p.val = false ∧ ltssm s p.val ≠ 0x30) ∧
    (∃ (s : State) (g : EngId) (q : QEv) (d : Bool) (p : PortId), Runs s g q d ∧ portExists s p.val = true ∧ s.b F.PIR_CLOSE_CLOSED p.val = true ∧ releaseRefused s p.val = false) ∧
    (∃ (s : State) (g : EngId) (q : QEv) (d : Bool) (p : PortId), Runs s g q d ∧ portExists s p.val = true ∧ releaseRefused s p.val = true) ∧
    (∃ (s : State) (g : EngId) (q : QEv) (d : Bool), Runs s g q d) ∧
    (∃ (s : State) (g : EngId) (q : QEv) (d : Bool), Runs s g q d) ∧
    (∃ (s : State) (g : EngId) (q : QEv) (d : Bool) (p : PortId) (lane : Fin 18) (timing : Bool) (step : Fin 128), Runs s g q d ∧ portExists s p.val = true ∧ marginOk s p.val lane.val timing step.val = true ∧ isFloing s p.val = false ∧ linkUp s p.val = true) ∧
    (∃ (s : State) (g : EngId) (q : QEv) (d : Bool) (v : VsId) (vec : Fin 64), Runs s g q d ∧ 8 ≤ vec.val ∧ fnPresent s v.val fnMep = true ∧ s.host.wakeVec.contains vec.val = false) ∧
    (∃ (s : State) (g : EngId) (q : QEv) (d : Bool) (seq : Nat), Runs s g q d ∧ (seq, dutyKey q.pier q.duty) ∈ s.eng.cmds) :=
  ⟨⟨(hand (ev (.timer 3)) true [(F.GLB_SPANFORM_FORM, 31, 3), (F.GLB_SPANFORM_PRESENT, 31, 15), (F.SPN_PSTAT_LTSSM, 127, 0x0C)]), 63, (ev (.timer 3)), false, 127, runs (by decide +kernel), by decide +kernel⟩,
   ⟨(hand (ev (.timer 3)) true [(F.GLB_SPANFORM_FORM, 31, 3), (F.GLB_SPANFORM_PRESENT, 31, 15), (F.GLB_PIERSTAT_STATE, 7, 0), (F.PIR_CLOSE_CLOSED, 127, 1)]), 63, (ev (.timer 3)), false, 127, runs (by decide +kernel), by decide +kernel⟩,
   ⟨(hand (ev (.timer 3)) true [(F.GLB_SPANFORM_FORM, 31, 3), (F.GLB_SPANFORM_PRESENT, 31, 15), (F.GLB_PIERSTAT_STATE, 7, 1)]), 63, (ev (.timer 3)), false, 127, runs (by decide +kernel), by decide +kernel⟩,
   ⟨(hand (ev (.timer 3)) true []), 63, (ev (.timer 3)), false, runs (by decide +kernel)⟩,
   ⟨(hand (ev (.timer 3)) true [(⟨.GLB_TCLOSE, 31, 0⟩, 15, 0xFFFFFFFF)]), 63, (ev (.timer 3)), false, runs (by decide +kernel)⟩,
   ⟨(hand (ev (.timer 3)) true [(F.GLB_SPANFORM_FORM, 31, 3), (F.GLB_SPANFORM_PRESENT, 31, 15), (F.SPN_PSTAT_LTSSM, 127, 0x0C), (F.SPN_PSTAT_LINKUP, 127, 1), (F.SPN_PSTAT_RATE, 127, 4), (F.SPN_PSTAT_WIDTH, 127, 2)]), 63, (ev (.timer 3)), false, 127, 1, false, 0, runs (by decide +kernel), by decide +kernel⟩,
   ⟨({ hand (ev (.timer 3)) true [] with host.vsw := [(63, ⟨0, [], true, false, false, false, false, []⟩)] }), 63, (ev (.timer 3)), false, 63, 8, runs (by decide +kernel), by decide +kernel⟩,
   ⟨({ hand (ev (.timer 3)) true (duty 4) with eng.cmds := [(5, 511)], jrn.cmds := [cmd 0x80 true []] }), 63, (ev (.timer 3)), false, 5, runs (by decide +kernel), by decide +kernel⟩⟩

theorem wit_EngineActsComplete_2 : ∃ (s : State) (g : EngId) (q : QEv) (d : Bool) (value : Word), Runs s g q d ∧ dutyFull s q.pier q.duty (.continue_ value.toNat) = false ∧ s.b F.PIR_DUTY_VALID (dutyKey q.pier q.duty) = true :=
  ⟨(hand (ev (.timer 3)) true (duty 4)), 63, (ev (.timer 3)), false, 0xFFFFFFFF, runs (by decide +kernel), by decide +kernel⟩

theorem wit_RegisterWritesComplete :
    (∃ (s : State) (r : Reg) (i : Nat) (w : RegW), Lands r i w s ∧ r.acts = false) ∧
    (∃ (s : State) (r : Reg) (i : Nat) (w : RegW), On s ∧ regAt (r.offset i) = some (r, i) ∧ slot129 s w.org (r.offset i) = true ∧ ((r.ownerWrites = true → counterOk s w.org = true)) ∧ accessStatus false s r (bankedIdx w.org r i) = accOk ∧ locked s r (bankedIdx w.org r i) = true ∧ r.silent = false) ∧
    (∃ (s : State) (off : Nat) (w : RegW), On s ∧ regAt off = none ∧ slot129 s w.org off = true) :=
  ⟨⟨(st []), .REC_TRGMATCH, 31, (kw 0x12345678), lands (by decide +kernel), by decide +kernel⟩,
   ⟨(st [(F.GTE_SLOT_LOCK, 129, 1)]), .GTE_SLOT, 129, (kw 5), by decide +kernel⟩,
   ⟨(st []), 0x3FFFFFC, (kw 5), by decide +kernel⟩⟩

theorem wit_ShortCommandsComplete :
    (∃ (s : State) (c : Cmd), Front s nextShort 0x01 c) ∧
    (∃ (s : State) (c : Cmd), Front s nextShort 0x02 c) ∧
    (∃ (s : State) (c : Cmd), Front s nextShort 0x03 c) ∧
    (∃ (s : State) (c : Cmd) (e : _), Front s nextShort 0x04 c ∧ (heldEntries s).find? (fun (e : JEntry) => e.req.kind == 1 && e.seq == c.num 8 8) = some e) ∧
    (∃ (s : State) (c : Cmd), Front s nextShort 0x04 c ∧ (heldEntries s).find? (fun (e : JEntry) => e.req.kind == 1 && e.seq == c.num 8 8) = none) ∧
    (∃ (s : State) (c : Cmd), Front s nextShort 0x20 c ∧ s.img.live = none) ∧
    (∃ (s : State) (c : Cmd), Front s nextShort 0x21 c ∧ s.img.live = none) ∧
    (∃ (s : State) (c : Cmd), Front s nextShort 0x28 c ∧ s.rcd.susp = false) :=
  ⟨⟨(cs [cmd 1 false []] [(⟨.JNL_CMDSEQ, 31, 0⟩, 128, 5)]), (cmd 1 false []), front (by decide +kernel)⟩,
   ⟨(cs [cmd 2 false []] []), (cmd 2 false []), front (by decide +kernel)⟩,
   ⟨(cs [cmd 3 false [1, 2, 3]] []), (cmd 3 false [1, 2, 3]), front (by decide +kernel)⟩,
   ⟨({ cs [cmd 4 false [4]] [(F.JNL_STAT_CH0_LOST, 0, 1)] with jrn.copy := [⟨4, 0, 0, false, ⟨1, jAccepted, JOrg.keeper, 0, 0, 0, 0⟩⟩], jrn.next := 6 }), (cmd 4 false [4]), ⟨4, 0, 0, false, ⟨1, jAccepted, JOrg.keeper, 0, 0, 0, 0⟩⟩, front (by decide +kernel), by decide +kernel⟩,
   ⟨(cs [cmd 4 false [4]] []), (cmd 4 false [4]), front (by decide +kernel), by decide +kernel⟩,
   ⟨(cs [cmd 0x20 false []] [(F.GLB_MODE_MODE, 0, 4)]), (cmd 0x20 false []), front (by decide +kernel), by decide +kernel⟩,
   ⟨(cs [cmd 0x21 false []] [(F.GLB_MODE_MODE, 0, 5), (F.GLB_MODE_CAUSE_CMD, 0, 1)]), (cmd 0x21 false []), front (by decide +kernel), by decide +kernel⟩,
   ⟨(cs [cmd 0x28 false []] []), (cmd 0x28 false []), front (by decide +kernel), by decide +kernel⟩⟩

theorem wit_DmaCommandsComplete :
    (∃ (s : State) (c : Cmd) (v : Nat), Front s nextDma 0x08 c ∧ Origin.mep c.org = some v ∧ dmaJob s v = none ∧ s.host.dmaq = [] ∧ dmaAllowed s v = false ∧ 1 ≤ c.num 16 4 ∧ c.num 16 4 ≤ slots ∧ (exportData c s).1 ≠ []) ∧
    (∃ (s : State) (c : Cmd) (v : Nat), Front s nextDma 0x08 c ∧ Origin.mep c.org = some v ∧ (c.num 16 4 = 0 ∨ slots < c.num 16 4)) ∧
    (∃ (s : State) (c : Cmd) (v : Nat), Front s nextDma 0x09 c ∧ Origin.mep c.org = some v ∧ dmaJob s v = none ∧ s.host.dmaq = [] ∧ dmaAllowed s v = false ∧ c.byte 8 ≤ 2 ∧ 1 ≤ c.num 16 4 ∧ c.num 16 4 ≤ 131072 ∧ (exportData c s).1 ≠ []) ∧
    (∃ (s : State) (c : Cmd) (v : Nat), Front s nextDma 0x0A c ∧ Origin.mep c.org = some v ∧ dmaJob s v = none ∧ s.host.dmaq = [] ∧ dmaAllowed s v = false ∧ 1 ≤ c.num 16 2 ∧ c.num 16 2 ≤ 256) ∧
    (∃ (s : State) (c : Cmd) (v : Nat), Front s nextDma 0x11 c ∧ Origin.mep c.org = some v ∧ bankRefusal s (c.byte 8) ≠ 0) ∧
    (∃ (s : State) (c : Cmd) (v : Nat), Front s nextDma 0x11 c ∧ Origin.mep c.org = some v ∧ bankRefusal s (c.byte 8) = 0 ∧ inBank (c.num 12 4) (c.num 24 4) = true ∧ c.num 24 4 % 4 = 0 ∧ 4 ≤ c.num 24 4 ∧ c.num 24 4 ≤ 2 ^ 20 ∧ dmaJob s v = none ∧ s.host.dmaq = [] ∧ dmaAllowed s v = false) :=
  ⟨⟨({ cs [mcmd 8 ([1] ++ List.replicate 7 0 ++ [1, 0, 0, 0, 2, 0, 0, 0] ++ List.replicate 8 8)] [(F.JNL_STAT_CH0_LOST, 0, 1), (⟨.JNL_HEAD, 31, 0⟩, 0, 4), (⟨.JNL_TAIL, 31, 0⟩, 0, 1)] with jrn.copy := [⟨4, 0, 0, false, ⟨1, jAccepted, JOrg.keeper, 0, 0, 0, 0⟩⟩] }), (mcmd 8 ([1] ++ List.replicate 7 0 ++ [1, 0, 0, 0, 2, 0, 0, 0] ++ List.replicate 8 8)), 63, front (by decide +kernel), by decide +kernel⟩,
   ⟨(cs [mcmd 8 []] []), (mcmd 8 []), 63, front (by decide +kernel), by decide +kernel⟩,
   ⟨({ cs [mcmd 9 [0, 0, 0, 0, 1, 0, 0, 0, 1, 0, 0, 0]] [] with rcd.kring := [⟨1, 0, 31, 0, 0, false, false, 0, 0, 0, 0, 0, 0, [], 0⟩] }), (mcmd 9 [0, 0, 0, 0, 1, 0, 0, 0, 1, 0, 0, 0]), 63, front (by decide +kernel), by decide +kernel⟩,
   ⟨(cs [mcmd 10 ([0, 0, 1] ++ List.replicate 5 0 ++ [0, 1])] []), (mcmd 10 ([0, 0, 1] ++ List.replicate 5 0 ++ [0, 1])), 63, front (by decide +kernel), by decide +kernel⟩,
   ⟨(cs [mcmd 0x11 [0]] [(F.GLB_OWNER_VALID, 0, 1), (F.GLB_OWNER_VS, 0, 63)]), (mcmd 0x11 [0]), 63, front (by decide +kernel), by decide +kernel⟩,
   ⟨(cs [mcmd 0x11 ([1, 0, 0, 0, 0xFC, 0xFF, 0xFF, 3] ++ List.replicate 8 1 ++ [4])] [(F.GLB_OWNER_VALID, 0, 1), (F.GLB_OWNER_VS, 0, 63)]), (mcmd 0x11 ([1, 0, 0, 0, 0xFC, 0xFF, 0xFF, 3] ++ List.replicate 8 1 ++ [4])), 63, front (by decide +kernel), by decide +kernel⟩⟩

theorem wit_LongCommandsComplete_1 :
    (∃ (s : State) (c : Cmd), On s ∧ s.jrn.cmds.find? (fun (c : Cmd) => c.op ≥ 0x80 && !c.running) = some c ∧ findCmd s c.seq = some c ∧ c.byte 2 ≤ 7 ∧ c.byte 3 ≤ 63 ∧ s.b F.PIR_DUTY_VALID (dutyKey (c.byte 2) (c.byte 3)) = true ∧ s.f F.PIR_DUTY_KIND (dutyKey (c.byte 2) (c.byte 3)) = 4) ∧
    (∃ (s : State) (c : Cmd), On s ∧ s.jrn.cmds.find? (fun (c : Cmd) => c.op ≥ 0x80 && !c.running) = some c ∧ findCmd s c.seq = some c ∧ (7 < c.byte 2 ∨ 63 < c.byte 3)) ∧
    (∃ (s : State) (c : Cmd), Front s nextLong 0x30 c ∧ s.key.cmdWait = [] ∧ s.b F.KEY_STAT_IDVALID 0 = true ∧ c.num 40 8 = 0) ∧
    (∃ (s : State) (c : Cmd), Front s nextLong 0x30 c ∧ s.key.cmdWait = [] ∧ s.b F.KEY_STAT_IDVALID 0 = true ∧ c.num 40 8 = 0) ∧
    (∃ (s : State) (c : Cmd), Front s nextLong 0x30 c ∧ s.key.cmdWait = [] ∧ s.b F.KEY_STAT_IDVALID 0 = false) ∧
    (∃ (s : State) (c : Cmd), On s ∧ runningCmd s 0x30 = some c ∧ findCmd s c.seq = some c ∧ s.key.cmdWait = [] ∧ hasJob s c.seq = false ∧ c.num 40 8 = 0) ∧
    (∃ (s : State) (c : Cmd), Front s nextLong 0x31 c ∧ lifecycleCheck s (c.byte 8) = 0) ∧
    (∃ (s : State) (c : Cmd), Front s nextLong 0x31 c ∧ lifecycleCheck s (c.byte 8) ≠ 0 ∧ s.key.cmdWait = []) :=
  ⟨⟨(cs [{ cmd 0x80 false [] with desc := [0x80, 0, 7, 63, 0, 0, 0, 0] }] (on [55] ++ duty 4 ++ [(F.ENG_STAT_STATE, 63, 0)])), ({ cmd 0x80 false [] with desc := [0x80, 0, 7, 63, 0, 0, 0, 0] }), by decide +kernel⟩,
   ⟨(cs [{ cmd 0x80 false [] with desc := [0x80, 0, 7, 64, 0, 0, 0, 0] }] []), ({ cmd 0x80 false [] with desc := [0x80, 0, 7, 64, 0, 0, 0, 0] }), by decide +kernel⟩,
   ⟨(cs [cmd 0x30 false [1]] [(F.KEY_STAT_IDVALID, 0, 1)]), (cmd 0x30 false [1]), front (by decide +kernel), by decide +kernel⟩,
   ⟨(cs [cmd 0x30 false [1]] [(F.KEY_STAT_IDVALID, 0, 1)]), (cmd 0x30 false [1]), front (by decide +kernel), by decide +kernel⟩,
   ⟨(cs [cmd 0x30 false [1]] []), (cmd 0x30 false [1]), front (by decide +kernel), by decide +kernel⟩,
   ⟨(cs [cmd 0x30 true [1]] []), (cmd 0x30 true [1]), by decide +kernel⟩,
   ⟨({ cs [cmd 0x31 false [4]] [(⟨.KEY_AUTH, 31, 0⟩, 0, 1), (⟨.KEY_AUTH, 31, 0⟩, 1, 4), (⟨.KEY_SERIAL, 31, 0⟩, 0, 0), (⟨.KEY_SERIAL, 31, 0⟩, 1, 0)] with key.nonce := 0 }), (cmd 0x31 false [4]), front (by decide +kernel), by decide +kernel⟩,
   ⟨(cs [cmd 0x31 false [4]] []), (cmd 0x31 false [4]), front (by decide +kernel), by decide +kernel⟩⟩

theorem wit_LongCommandsComplete_2 :
    (∃ (s : State) (c : Cmd), On s ∧ nextLong s = some c ∧ findCmd s c.seq = some c ∧ s.key.cmdWait = [] ∧ isPriv c.op = true ∧ privileged s c.org = false) ∧
    (∃ (s : State), On s ∧ s.b F.JNL_STAT_CHKPT_BUSY 0 = true ∧ s.abt.shutdown = false ∧ s.jrn.held = [] ∧ s.key.change = none) ∧
    (∃ (s : State) (isl : IslandId) (e : JReq) (rest : List JReq), On s ∧ s.b F.JNL_STAT_CHKPT_BUSY 0 = false ∧ SMap.get [] s.jrn.fifo isl.val = e :: rest ∧ (s.b F.JNL_STAT_CH0_LOST 0 = true ∨ granted s 0 1 = true) ∧ s.jrn.held = []) ∧
    (∃ (s : State) (isl : IslandId) (e : JReq) (rest : List JReq), On s ∧ s.b F.JNL_STAT_CHKPT_BUSY 0 = false ∧ SMap.get [] s.jrn.fifo isl.val = e :: rest ∧ s.b F.JNL_STAT_CH0_LOST 0 = false ∧ granted s 0 1 = false) :=
  ⟨⟨(cs [mcmd 0x31 [4]] []), (mcmd 0x31 [4]), by decide +kernel⟩,
   ⟨({ cs [cmd 3 true []] [(F.JNL_STAT_CHKPT_BUSY, 0, 1)] with jrn.ckptWait := [5] }), by decide +kernel⟩,
   ⟨({ st [] with jrn.fifo := [(0, [⟨4, jDone, JOrg.keeper, 0, 0, 0, 0⟩])] }), 0, ⟨4, jDone, JOrg.keeper, 0, 0, 0, 0⟩, [], by decide +kernel⟩,
   ⟨({ st [(F.CSN_STAT_CH_LIVE, 0, 1), (F.CSN_CHSTAT_STATE, 0, 0)] with env.now := 5000, jrn.fifo := [(0, [⟨4, jDone, JOrg.keeper, 0, 0, 0, 0⟩])], csn.waitAt := [(2, 0)], csn.landq := [⟨car { Tlp.blank with kind := .memWr, addr := 7, data := [7] } 0 200, []⟩] }), 0, ⟨4, jDone, JOrg.keeper, 0, 0, 0, 0⟩, [], by decide +kernel⟩⟩

theorem wit_RecorderCompletes_1 :
    (∃ (s : State) (b : RBuild) (rest : List RBuild), On s ∧ s.rcd.build = b :: rest ∧ rest.takeWhile (sameEvent b) = [] ∧ (s.b F.REC_TRGCFG_SNAP b.trigger = false ∨ s.b F.PMC_STAT_PENDING 0 = false)) ∧
    (∃ (s : State) (b : RBuild), On s ∧ s.rcd.build.head? = some b ∧ ((∀ x ∈ s.rcd.build.takeWhile (sameEvent b), s.b F.REC_TRGCFG_SNAP x.trigger = false) ∨ s.b F.PMC_STAT_PENDING 0 = false)) ∧
    (∃ (s : State) (b : RBuild), On s ∧ s.rcd.build.head? = some b ∧ s.b F.PMC_STAT_PENDING 0 = true ∧ (∃ x ∈ s.rcd.build.takeWhile (sameEvent b), s.b F.REC_TRGCFG_SNAP x.trigger = true)) ∧
    (∃ (s : State), On s) ∧
    (∃ (s : State), On s ∧ s.rcd.flushing = true ∧ s.rcd.susp = false) ∧
    (∃ (s : State) (n : PierId) (e : PfEnt) (rest : List PfEnt), On s ∧ SMap.get [] s.rcd.pfifo n.val = e :: rest) ∧
    (∃ (s : State), On s ∧ s.b F.PMC_STAT_PENDING 0 = true ∧ s.pmc.struck = false) ∧
    (∃ (s : State), On s ∧ s.b F.PMC_STAT_PENDING 0 = true ∧ s.pmc.struck = true) :=
  ⟨⟨({ st [] with rcd.build := [⟨31, 5, 7, 9, false⟩] }), ⟨31, 5, 7, 9, false⟩, [], by decide +kernel⟩,
   ⟨({ st [] with rcd.build := [⟨31, 5, 7, 9, false⟩, ⟨3, 5, 7, 9, false⟩, ⟨3, 6, 7, 9, false⟩] }), ⟨31, 5, 7, 9, false⟩, by decide +kernel⟩,
   ⟨({ st [(F.REC_TRGCFG_SNAP, 3, 1), (F.PMC_STAT_PENDING, 0, 1)] with rcd.build := [⟨31, 5, 7, 9, false⟩, ⟨3, 5, 7, 9, false⟩] }), ⟨31, 5, 7, 9, false⟩, by decide +kernel⟩,
   ⟨({ st [] with rcd.holdT := [127, 3], rcd.holdR := [3] }), by decide +kernel⟩,
   ⟨({ st [(F.REC_STAT_FLUSH_BUSY, 0, 1)] with rcd.flushing := true }), by decide +kernel⟩,
   ⟨({ st [] with rcd.pfifo := [(7, [⟨[1, 2, 3, 4, 5, 6]⟩])] }), 7, ⟨[1, 2, 3, 4, 5, 6]⟩, [], by decide +kernel⟩,
   ⟨({ st [(F.PMC_STAT_PENDING, 0, 1)] with pmc.action := 9 }), by decide +kernel⟩,
   ⟨({ st [(F.PMC_STAT_PENDING, 0, 1)] with pmc.action := 16, pmc.struck := true, pmc.strike := 77 }), by decide +kernel⟩⟩

theorem wit_RecorderCompletes_2 : ∃ (s : State) (b : BlockId) (k : Fin 8), On s ∧ blockOn s b.val = true ∧ s.pmc.frozen.contains b.val = false ∧ s.b F.PMC_EVT_EN (8 * b.val + k.val) = true :=
  ⟨(st [(F.PMC_EVT_EN, 1031, 1)]), 128, 7, by decide +kernel⟩

theorem wit_ResetsComplete_1 :
    (∃ (s : State), On s ∧ s.env.rstLow = false ∧ mode s ≠ 0 ∧ s.b F.CLK_OSC_SRC 0 = false) ∧
    (∃ (s : State), On s ∧ s.env.rstLow = false ∧ mode s = 0) ∧
    (∃ (s : State), On s ∧ s.env.rstLow = true ∧ mode s = 1 ∧ s.f F.KEY_STAT_BOOT 0 = 0 ∧ s.b F.CLK_OSC_SRC 0 = false) ∧
    (∃ (s : State), On s ∧ mayLeaveStandby s = true ∧ s.mode.pendCause = none ∧ s.b F.CLK_OSC_SRC 0 = false) ∧
    (∃ (s : State), On s ∧ s.mode.verifying = true ∧ lcState s = 4) ∧
    (∃ (s : State), On s ∧ s.mode.verifying = true ∧ lcState s ≠ 4 ∧ (stageOrder s).find? (stagePasses s) = none) ∧
    (∃ (s : State), On s ∧ s.mode.wiping = true ∧ (∀ c < 8, ¬(1 ≤ domState s (72 + c) ∧ domState s (72 + c) ≤ 3))) ∧
    (∃ (s : State), On s ∧ s.key.fuse.isSome = true ∧ mode s ≠ 0 ∧ s.b F.CLK_OSC_SRC 0 = false ∧ s.env.rstLow = false) :=
  ⟨⟨({ st [] with env.rstLow := false, err.faultN := true }), by decide +kernel⟩,
   ⟨({ st [(F.GLB_MODE_MODE, 0, 0), (F.GLB_MODE_THERM_LATCH, 0, 1)] with env.rstLow := false }), by decide +kernel⟩,
   ⟨(st []), by decide +kernel⟩,
   ⟨({ st [(F.GLB_MODE_MODE, 0, 0), (F.ABT_STAT_SUPPLY, 0, 2)] with env.rstLow := false }), by decide +kernel⟩,
   ⟨({ st [(F.KEY_STAT_LCSTATE, 0, 4)] with mode.verifying := true }), by decide +kernel⟩,
   ⟨({ st [] with mode.verifying := true, key.stage := [(0, ⟨false, []⟩), (1, ⟨false, []⟩)] }), by decide +kernel, by decide +kernel, by decide +kernel, by unfold stageOrder; split <;> decide +kernel⟩,
   ⟨({ st [(F.CSN_STAT_WIPE_BUSY, 0, 1)] with mode.wiping := true }), by decide +kernel⟩,
   ⟨({ st [] with env.rstLow := false, key.fuse := some 4 }), by decide +kernel⟩⟩

theorem wit_ResetsComplete_2 : ∃ (s : State), ¬On s ∧ s.abt.saved = [] ∧ s.key.fuse = none :=
  ⟨({ st [] with env.keeperOn := false }), by decide +kernel⟩

theorem wit_LoadingCompletes :
    (∃ (s : State) (fault : Option (Fin 56)) (b : Nat) (code : Nat) (i : Nat), On s ∧ s.img.loading = some b ∧ s.img.accepted = none ∧ imageCheck s b fault = some (code, i)) ∧
    (∃ (s : State) (fault : Option (Bool × Fin 55)) (b : Nat) (m : Image), On s ∧ s.img.loading = some b ∧ s.img.accepted = some m ∧ (∀ d ∈ m.domains, ¬(1 ≤ domState s d ∧ domState s d ≤ 3)) ∧ (fault = none ∨ secondStream s = false)) ∧
    (∃ (s : State) (fault : Option (Bool × Fin 55)) (b : Nat) (m : Image) (flash : Bool) (i : Fin 55), On s ∧ s.img.loading = some b ∧ s.img.accepted = some m ∧ (∀ d ∈ m.domains, ¬(1 ≤ domState s d ∧ domState s d ≤ 3)) ∧ fault = some (flash, i) ∧ secondStream s = true) :=
  ⟨⟨({ st [] with img.loading := some 1, img.cand := [2], img.bank := [(1, ⟨false, []⟩)] }), none, 1, 1, secHead, by decide +kernel⟩,
   ⟨({ st [] with img.loading := some 1, img.accepted := some img0 }), none, 1, img0, by decide +kernel⟩,
   ⟨({ st [] with img.loading := some 1, img.accepted := some img0, img.cand := [2] }), (some (true, 54)), 1, img0, true, 54, by decide +kernel⟩⟩

theorem wit_BanksComplete_1 :
    (∃ (s : State) (c : Cmd), Front s nextLong 0x10 c ∧ bankRefusal s (c.byte 8) = 0) ∧
    (∃ (s : State) (c : Cmd), Front s nextLong 0x10 c ∧ bankRefusal s (c.byte 8) ≠ 0) ∧
    (∃ (s : State) (c : Cmd), On s ∧ runningCmd s 0x10 = some c ∧ findCmd s c.seq = some c) ∧
    (∃ (s : State) (c : Cmd), Front s nextShort 0x12 c ∧ bankRefusal s (c.byte 8) = 0 ∧ inBank (c.num 12 4) 48 = true) ∧
    (∃ (s : State) (c : Cmd), Front s nextShort 0x12 c ∧ bankRefusal s (c.byte 8) = 0 ∧ inBank (c.num 12 4) 48 = false) ∧
    (∃ (s : State) (c : Cmd), Front s nextShort 0x12 c ∧ bankRefusal s (c.byte 8) ≠ 0) ∧
    (∃ (s : State) (c : Cmd), Front s nextShort 0x18 c ∧ (64 < c.byte 8 ∨ c.byte 8 < rollbackCtr s)) ∧
    (∃ (s : State) (c : Cmd), Front s nextShort 0x18 c ∧ c.byte 8 ≤ 64 ∧ c.byte 8 = rollbackCtr s) :=
  ⟨⟨(cs [cmd 0x10 false [1]] []), (cmd 0x10 false [1]), front (by decide +kernel), by decide +kernel⟩,
   ⟨(cs [cmd 0x10 false [0]] []), (cmd 0x10 false [0]), front (by decide +kernel), by decide +kernel⟩,
   ⟨({ cs [cmd 0x10 true [1]] [] with img.bank := [(1, ⟨false, [(0, 5)]⟩)] }), (cmd 0x10 true [1]), by decide +kernel⟩,
   ⟨({ cs [cmd 0x12 false ([1, 0, 0, 0, 0xD0, 0xFF, 0xFF, 3] ++ List.replicate 48 5)] [] with img.bank := [(1, ⟨false, []⟩)] }), (cmd 0x12 false ([1, 0, 0, 0, 0xD0, 0xFF, 0xFF, 3] ++ List.replicate 48 5)), front (by decide +kernel), by decide +kernel⟩,
   ⟨(cs [cmd 0x12 false [1, 0, 0, 0, 0xD4, 0xFF, 0xFF, 3]] []), (cmd 0x12 false [1, 0, 0, 0, 0xD4, 0xFF, 0xFF, 3]), front (by decide +kernel), by decide +kernel⟩,
   ⟨(cs [cmd 0x12 false [3]] []), (cmd 0x12 false [3]), front (by decide +kernel), by decide +kernel⟩,
   ⟨(cs [cmd 0x18 false [65]] []), (cmd 0x18 false [65]), front (by decide +kernel), by decide +kernel⟩,
   ⟨(cs [cmd 0x18 false [64]] [(F.KEY_STAT_ROLLBACK, 0, 64)]), (cmd 0x18 false [64]), front (by decide +kernel), by decide +kernel⟩⟩

theorem wit_BanksComplete_2 :
    (∃ (s : State) (c : Cmd), Front s nextShort 0x18 c ∧ rollbackCtr s < c.byte 8 ∧ c.byte 8 ≤ 64 ∧ boundsRollback s (c.byte 8) (activeBank s) = false ∧ boundsRollback s (c.byte 8) 2 = false) ∧
    (∃ (s : State) (c : Cmd), Front s nextLong 0x13 c ∧ c.byte 8 ≤ 2 ∧ mode s ≠ 0) ∧
    (∃ (s : State) (c : Cmd), Front s nextLong 0x13 c ∧ 2 < c.byte 8) ∧
    (∃ (s : State) (c : Cmd), Front s nextLong 0x14 c ∧ c.byte 8 ≤ 2 ∧ mode s ≠ 0) ∧
    (∃ (s : State) (c : Cmd), Front s nextLong 0x14 c ∧ 2 < c.byte 8) ∧
    (∃ (s : State) (c : Cmd) (fault : Option (Fin 56)) (code : Nat) (i : Nat), On s ∧ findCmd s c.seq = some c ∧ (runningCmd s 0x13).or (runningCmd s 0x14) = some c ∧ imageCheck s (c.byte 8) fault = some (code, i)) :=
  ⟨⟨({ cs [cmd 0x18 false [64]] [] with img.bank := [(0, ⟨false, []⟩), (2, ⟨false, []⟩)] }), (cmd 0x18 false [64]), front (by decide +kernel), by decide +kernel⟩,
   ⟨(cs [cmd 0x13 false [2]] []), (cmd 0x13 false [2]), front (by decide +kernel), by decide +kernel⟩,
   ⟨(cs [cmd 0x13 false [3]] []), (cmd 0x13 false [3]), front (by decide +kernel), by decide +kernel⟩,
   ⟨(cs [cmd 0x14 false [2]] []), (cmd 0x14 false [2]), front (by decide +kernel), by decide +kernel⟩,
   ⟨(cs [cmd 0x14 false [3]] []), (cmd 0x14 false [3]), front (by decide +kernel), by decide +kernel⟩,
   ⟨({ cs [cmd 0x14 true [1]] [] with img.bank := [(1, ⟨false, []⟩)] }), (cmd 0x14 true [1]), none, 1, secHead, by decide +kernel⟩⟩

theorem wit_LiveReplacementCompletes_1 :
    (∃ (s : State) (c : Cmd) (m : Image), Front s nextLong 0x15 c ∧ s.img.applied = some m ∧ c.byte 8 ≤ 7 ∧ liveAllowed s (c.byte 8) = true) ∧
    (∃ (s : State) (c : Cmd), Front s nextLong 0x15 c ∧ 7 < c.byte 8) ∧
    (∃ (s : State) (c : Cmd), Front s nextLong 0x15 c ∧ c.byte 8 ≤ 7 ∧ liveAllowed s (c.byte 8) = false) ∧
    (∃ (s : State) (l : Live) (fault : Option (Fin 56)) (c : Cmd) (code : Nat) (i : Nat), On s ∧ s.img.live = some l ∧ liveSt s = 1 ∧ let m := imageIn s (1 - activeBank s);
      let r := ((imageCheck s (1 - activeBank s) fault).or (bindingCheck s m (livePier s))).or (scopeCheck s l.old m (livePier s));
      r = some (code, i) ∧ findCmd s l.cmd = some c ∧ c.op = 0x15) ∧
    (∃ (s : State) (l : Live), On s ∧ s.img.live = some l ∧ liveSt s = 2 ∧ lockedChange s l.image (segKeys s l.old l.image (livePier s)) = false) ∧
    (∃ (s : State) (l : Live) (c : Cmd), On s ∧ s.img.live = some l ∧ liveSt s = 2 ∧ lockedChange s l.image (segKeys s l.old l.image (livePier s)) = true ∧ findCmd s l.cmd = some c ∧ c.op = 0x15) ∧
    (∃ (s : State) (l : Live), On s ∧ s.img.live = some l ∧ liveSt s = 3) ∧
    (∃ (s : State) (l : Live), On s ∧ s.img.live = some l ∧ liveSt s = 4 ∧ pierMoving s (livePier s) = false ∧ (upperFour (livePier s)).all (atRest s) = true ∧ lockedChange s l.image (segKeys s l.old l.image (livePier s)) = false) :=
  ⟨⟨({ cs [cmd 0x15 false [7]] (on [55] ++ (List.range 8).map (fun e => (F.ENG_STAT_STATE, 56 + e, 0)) ++ [(F.GLB_MODE_MODE, 0, 4)]) with img.applied := some img0 }), (cmd 0x15 false [7]), img0, front (by decide +kernel), by decide +kernel⟩,
   ⟨(cs [cmd 0x15 false [8]] []), (cmd 0x15 false [8]), front (by decide +kernel), by decide +kernel⟩,
   ⟨(cs [cmd 0x15 false [7]] []), (cmd 0x15 false [7]), front (by decide +kernel), by decide +kernel⟩,
   ⟨({ liv 1 (rep false) [lcmd] [] with img.bank := [(1, ⟨false, []⟩)] }), (rep false), none, lcmd, 1, secHead, by decide +kernel⟩,
   ⟨(liv 2 (rep false) [lcmd] []), (rep false), by decide +kernel⟩,
   ⟨(liv 2 { rep false with image := seg } [lcmd] [(F.GTE_SLOT_LOCK, 127, 1)]), ({ rep false with image := seg }), lcmd, by decide +kernel⟩,
   ⟨(liv 3 (rep false) [lcmd] []), (rep false), by decide +kernel⟩,
   ⟨(liv 4 (rep false) [lcmd] ((List.range 8).map (fun e => (F.ENG_STAT_STATE, 56 + e, 2)))), (rep false), by decide +kernel⟩⟩

theorem wit_LiveReplacementCompletes_2 :
    (∃ (s : State) (l : Live), On s ∧ s.img.live = some l ∧ liveSt s = 5 ∧ pierMoving s (livePier s) = false ∧ (lowerFour (livePier s)).all (atRest s) = true) ∧
    (∃ (s : State) (l : Live), On s ∧ s.img.live = some l ∧ liveSt s = 6 ∧ pierMoving s (livePier s) = false ∧ l.waitReduced = false) ∧
    (∃ (s : State) (l : Live) (c : Cmd), On s ∧ s.img.live = some l ∧ liveSt s = 7 ∧ findCmd s l.cmd = some c ∧ c.op = 0x15) ∧
    (∃ (s : State) (c : Cmd) (l : Live) (d : Cmd), Front s nextShort 0x16 c ∧ s.img.live = some l ∧ liveSt s = 7 ∧ findCmd s l.cmd = some d ∧ d.op = 0x15) ∧
    (∃ (s : State) (c : Cmd), Front s nextShort 0x16 c ∧ liveSt s ≠ 7) ∧
    (∃ (s : State) (c : Cmd) (l : Live), Front s nextShort 0x17 c ∧ s.img.live = some l ∧ (liveSt s = 6 ∨ liveSt s = 7)) ∧
    (∃ (s : State) (c : Cmd), Front s nextShort 0x17 c ∧ liveSt s ≠ 6 ∧ liveSt s ≠ 7) ∧
    (∃ (s : State) (l : Live) (c : Cmd), On s ∧ s.img.live = some l ∧ liveSt s = 8 ∧ pierMoving s (livePier s) = false ∧ l.waitReduced = false ∧ findCmd s l.cmd = some c ∧ c.op = 0x15) :=
  ⟨⟨(liv 5 (rep true) [lcmd] ((List.range 8).map (fun e => (F.ENG_STAT_STATE, 56 + e, 2)))), (rep true), by decide +kernel⟩,
   ⟨(liv 6 (rep true) [lcmd] []), (rep true), by decide +kernel⟩,
   ⟨(liv 7 (rep true) [lcmd] []), (rep true), lcmd, by decide +kernel⟩,
   ⟨(liv 7 (rep true) [lcmd, cmd 0x16 false []] []), (cmd 0x16 false []), (rep true), lcmd, front (by decide +kernel), by decide +kernel⟩,
   ⟨(cs [cmd 0x16 false []] []), (cmd 0x16 false []), front (by decide +kernel), by decide +kernel⟩,
   ⟨(liv 6 (rep true) [lcmd, cmd 0x17 false []] []), (cmd 0x17 false []), (rep true), front (by decide +kernel), by decide +kernel⟩,
   ⟨(cs [cmd 0x17 false []] []), (cmd 0x17 false []), front (by decide +kernel), by decide +kernel⟩,
   ⟨(liv 8 (rep true) [lcmd] []), (rep true), lcmd, by decide +kernel⟩⟩

theorem wit_SupplyCompletes :
    (∃ (s : State), On s) ∧
    (∃ (s : State), On s) ∧
    (∃ (s : State), On s) ∧
    (∃ (s : State), On s ∧ supply s = 4 ∧ s.b F.JNL_STAT_CHKPT_BUSY 0 = false ∧ s.rcd.flushing = false) ∧
    (∃ (s : State), On s) ∧
    (∃ (s : State), On s ∧ s.abt.firstRamp = true ∧ supply s = 1) ∧
    (∃ (s : State), On s ∧ s.b F.ABT_STAT_REDUCE_REQ 0 = false ∧ supplyIn s < reduceU s ∧ s.img.live = none) ∧
    (∃ (s : State), On s ∧ s.b F.ABT_STAT_REDUCE_REQ 0 = true ∧ reduceU s + hystU s ≤ supplyIn s ∧ s.img.live = none) :=
  ⟨⟨(st [(F.REC_HOURS_VALUE, 0, 2 ^ F.REC_HOURS_VALUE.width - 1)]), by decide +kernel⟩,
   ⟨(st []), by decide +kernel⟩,
   ⟨(st []), by decide +kernel⟩,
   ⟨({ st [(F.ABT_STAT_SUPPLY, 0, 4)] with abt.shutdown := true }), by decide +kernel⟩,
   ⟨(st []), by decide +kernel⟩,
   ⟨({ st [(F.ABT_STAT_SUPPLY, 0, 1), (F.ABT_STAT_ACTIVE, 0, 1), (F.ABT_FEED_STATE, 1, 2)] with abt.firstRamp := true }), by decide +kernel⟩,
   ⟨(st [(F.GLB_MODE_MODE, 0, 4)]), by decide +kernel⟩,
   ⟨(st [(F.ABT_STAT_REDUCE_REQ, 0, 1), (F.GLB_MODE_CAUSE_VOLT, 0, 1), (F.ABT_VIN_VOLTS, 0, 60000)]), by decide +kernel⟩⟩

theorem wit_FeedsComplete_1 :
    (∃ (s : State) (f : FeedId), On s ∧ usable s f.val = true ∧ 3000 ≤ vinOf s f.val ∧ resetU s + 150 ≤ vinOf s f.val) ∧
    (∃ (s : State) (f : FeedId), On s ∧ feedSt s f.val = 2 ∧ (feed s f.val).timer = false) ∧
    (∃ (s : State) (f : FeedId), On s ∧ driven s f.val = true) ∧
    (∃ (s : State) (f : FeedId), On s ∧ (feedSt s f.val = 2 ∨ feedSt s f.val = 4) ∧ (feed s f.val).timer = true) ∧
    (∃ (s : State) (f : FeedId), On s ∧ feedSt s f.val = 5) ∧
    (∃ (s : State) (f : FeedId), On s ∧ feedSt s f.val = 3) ∧
    (∃ (s : State) (f : FeedId), On s ∧ (feed s f.val).ov = true ∧ vinOf s f.val ≤ 30500) ∧
    (∃ (s : State) (w : Switch), On s ∧ s.abt.switch = some w ∧ w.step = 2) :=
  ⟨⟨(st [(F.ABT_FCTL_EN, 1, 1), (F.ABT_FEED_STATE, 1, 1), (F.ABT_VIN_VOLTS, 1, 30000), (F.ABT_CFG_PRIMARY, 0, 1)]), 1, by decide +kernel⟩,
   ⟨(st [(F.ABT_FEED_STATE, 1, 2)]), 1, by decide +kernel⟩,
   ⟨(st [(F.ABT_FEED_STATE, 1, 3), (F.ABT_CFG_RETRY, 0, 1)]), 1, by decide +kernel⟩,
   ⟨({ st [(F.ABT_FEED_STATE, 1, 4), (F.ABT_CFG_RETRY, 0, 1), (F.ABT_FEED_RETRIES, 1, 3)] with abt.feed := [(1, { Feed.init with timer := true })] }), 1, by decide +kernel⟩,
   ⟨(st [(F.ABT_FEED_STATE, 1, 5)]), 1, by decide +kernel⟩,
   ⟨(st [(F.ABT_FEED_STATE, 1, 3), (F.ABT_FEED_RETRIES, 1, 3)]), 1, by decide +kernel⟩,
   ⟨({ st [(F.ABT_VIN_VOLTS, 1, 30500), (F.ABT_FCTL_EN, 1, 1)] with abt.feed := [(1, { Feed.init with ov := true })] }), 1, by decide +kernel⟩,
   ⟨({ st [] with abt.switch := some ⟨0, 1, 2⟩ }), ⟨0, 1, 2⟩, by decide +kernel⟩⟩

theorem wit_FeedsComplete_2 :
    (∃ (s : State) (w : Switch), On s ∧ s.abt.switch = some w ∧ w.step = 2) ∧
    (∃ (s : State) (w : Switch), On s ∧ s.abt.switch = some w ∧ w.step = 3 ∧ w.dst < 2 ∧ usable s w.dst = true) ∧
    (∃ (s : State) (w : Switch), On s ∧ s.abt.switch = some w ∧ w.step = 3 ∧ w.dst < 2 ∧ usable s w.dst = false) ∧
    (∃ (s : State), On s ∧ s.b F.ABT_CFG_FAILBACK 0 = true ∧ switchable s (s.f F.ABT_CFG_PRIMARY 0) = true) :=
  ⟨⟨({ st [(F.ABT_FEED_STATE, 0, 3)] with abt.switch := some ⟨0, 1, 2⟩ }), ⟨0, 1, 2⟩, by decide +kernel⟩,
   ⟨({ st [(F.ABT_FCTL_EN, 1, 1), (F.ABT_FEED_STATE, 1, 1)] with abt.switch := some ⟨0, 1, 3⟩ }), ⟨0, 1, 3⟩, by decide +kernel⟩,
   ⟨({ st [] with abt.switch := some ⟨0, 1, 3⟩ }), ⟨0, 1, 3⟩, by decide +kernel⟩,
   ⟨(st [(F.ABT_CFG_FAILBACK, 0, 1), (F.ABT_CFG_PRIMARY, 0, 1), (F.ABT_STAT_ACTIVE_VALID, 0, 1), (F.ABT_FEED_STATE, 0, 3), (F.ABT_FCTL_EN, 1, 1), (F.ABT_FEED_STATE, 1, 1), (F.ABT_VIN_VOLTS, 1, 30000)]), by decide +kernel⟩⟩

theorem wit_PmbusCompletes_1 :
    (∃ (s : State), On s ∧ s.b F.ABT_PMB_EN 0 = true) ∧
    (∃ (s : State) (x : Byte), On s ∧ s.b F.ABT_PMB_EN 0 = true ∧ (x = 0 ∨ x = 1 ∨ x = 0xFF)) ∧
    (∃ (s : State), On s ∧ s.b F.ABT_PMB_EN 0 = true) ∧
    (∃ (s : State), On s ∧ s.b F.ABT_PMB_EN 0 = true ∧ Lands .ABT_EVENT 0 ⟨.sideband, 0b0011, BitVec.ofNat 32 0xFFFE⟩ s) ∧
    (∃ (s : State), On s ∧ s.b F.ABT_PMB_EN 0 = true) ∧
    (∃ (s : State), On s ∧ s.b F.ABT_PMB_EN 0 = true) ∧
    (∃ (s : State), On s ∧ s.b F.ABT_PMB_EN 0 = true) ∧
    (∃ (s : State) (x : BitVec 16), On s ∧ s.b F.ABT_PMB_EN 0 = true ∧ let v := fromLinear x 100 13 s;
      let w : RegW := ⟨.sideband, 0b0011, BitVec.ofNat 32 v.1⟩;
      Lands .ABT_VTHR0 0 w v.2 ∧ resetU s < voltU v.1 ∧ resetU s < reduceU s) :=
  ⟨⟨({ st [(F.ABT_PMB_EN, 0, 1)] with abt.page := 255 }), by decide +kernel⟩,
   ⟨(st [(F.ABT_PMB_EN, 0, 1)]), 0xFF, by decide +kernel⟩,
   ⟨(st [(F.ABT_PMB_EN, 0, 1)]), by decide +kernel⟩,
   ⟨({ st [(F.ABT_PMB_EN, 0, 1), (F.ABT_EVENT_EVENT, 0, 0xFFFE)] with abt.sticky := 5 }), by decide +kernel, by decide +kernel, lands (by decide +kernel)⟩,
   ⟨(st [(F.ABT_PMB_EN, 0, 1)]), by decide +kernel⟩,
   ⟨(st [(F.ABT_PMB_EN, 0, 1)]), by decide +kernel⟩,
   ⟨(st [(F.ABT_PMB_EN, 0, 1)]), by decide +kernel⟩,
   ⟨(st [(F.ABT_PMB_EN, 0, 1)]), 12, by decide +kernel, by decide +kernel, lands (by decide +kernel), by decide +kernel⟩⟩

theorem wit_PmbusCompletes_2 :
    (∃ (s : State), On s ∧ s.b F.ABT_PMB_EN 0 = true) ∧
    (∃ (s : State) (x : BitVec 16), On s ∧ s.b F.ABT_PMB_EN 0 = true ∧ let v := fromLinear x 100 13 s;
      let w : RegW := ⟨.sideband, 0b0011, BitVec.ofNat 32 v.1⟩;
      Lands .ABT_VTHR1 0 w v.2 ∧ voltU v.1 < warnU s ∧ voltU v.1 < reduceU s) ∧
    (∃ (s : State), On s ∧ s.b F.ABT_PMB_EN 0 = true) ∧
    (∃ (s : State) (x : BitVec 16), On s ∧ s.b F.ABT_PMB_EN 0 = true ∧ let v := fromLinear x 4 9 s;
      let w : RegW := ⟨.sideband, 0b0011, BitVec.ofNat 32 v.1⟩;
      Lands .ABT_ILIM 0 w v.2) ∧
    (∃ (s : State), On s ∧ s.b F.ABT_PMB_EN 0 = true) ∧
    (∃ (s : State), On s ∧ s.b F.ABT_PMB_EN 0 = true) ∧
    (∃ (s : State) (f : Nat), On s ∧ s.b F.ABT_PMB_EN 0 = true ∧ f < 2 ∧ s.abt.page = f) ∧
    (∃ (s : State) (f : Nat), On s ∧ s.b F.ABT_PMB_EN 0 = true ∧ f < 2 ∧ s.abt.page = f) :=
  ⟨⟨(st [(F.ABT_PMB_EN, 0, 1)]), by decide +kernel⟩,
   ⟨(st [(F.ABT_PMB_EN, 0, 1)]), 8, by decide +kernel, by decide +kernel, lands (by decide +kernel), by decide +kernel⟩,
   ⟨(st [(F.ABT_PMB_EN, 0, 1)]), by decide +kernel⟩,
   ⟨(st [(F.ABT_PMB_EN, 0, 1)]), 40, by decide +kernel, by decide +kernel, lands (by decide +kernel)⟩,
   ⟨(st [(F.ABT_PMB_EN, 0, 1)]), by decide +kernel⟩,
   ⟨(st [(F.ABT_PMB_EN, 0, 1)]), by decide +kernel⟩,
   ⟨({ st [(F.ABT_PMB_EN, 0, 1)] with abt.page := 1 }), 1, by decide +kernel⟩,
   ⟨({ st [(F.ABT_PMB_EN, 0, 1)] with abt.page := 1 }), 1, by decide +kernel⟩⟩

theorem wit_PmbusCompletes_3 :
    (∃ (s : State) (f : Nat), On s ∧ s.b F.ABT_PMB_EN 0 = true ∧ f < 2 ∧ s.abt.page = f) ∧
    (∃ (s : State) (f : Nat), On s ∧ s.b F.ABT_PMB_EN 0 = true ∧ f < 2 ∧ s.abt.page = f) ∧
    (∃ (s : State), On s ∧ s.b F.ABT_PMB_EN 0 = true ∧ 2 ≤ s.abt.page) ∧
    (∃ (s : State), On s ∧ s.b F.ABT_PMB_EN 0 = true ∧ 2 ≤ s.abt.page) ∧
    (∃ (s : State), On s ∧ s.b F.ABT_PMB_EN 0 = true ∧ 2 ≤ s.abt.page) ∧
    (∃ (s : State), On s ∧ s.b F.ABT_PMB_EN 0 = true ∧ 2 ≤ s.abt.page) ∧
    (∃ (s : State), On s ∧ s.b F.ABT_PMB_EN 0 = true) ∧
    (∃ (s : State), On s ∧ s.b F.ABT_PMB_EN 0 = true) :=
  ⟨⟨({ st [(F.ABT_PMB_EN, 0, 1)] with abt.page := 1 }), 1, by decide +kernel⟩,
   ⟨({ st [(F.ABT_PMB_EN, 0, 1)] with abt.page := 1 }), 1, by decide +kernel⟩,
   ⟨({ st [(F.ABT_PMB_EN, 0, 1)] with abt.page := 255 }), by decide +kernel⟩,
   ⟨({ st [(F.ABT_PMB_EN, 0, 1)] with abt.page := 255 }), by decide +kernel⟩,
   ⟨({ st [(F.ABT_PMB_EN, 0, 1)] with abt.page := 255 }), by decide +kernel⟩,
   ⟨({ st [(F.ABT_PMB_EN, 0, 1)] with abt.page := 255 }), by decide +kernel⟩,
   ⟨(st [(F.ABT_PMB_EN, 0, 1)]), by decide +kernel⟩,
   ⟨(st [(F.ABT_PMB_EN, 0, 1)]), by decide +kernel⟩⟩

theorem wit_SidebandCompletes_1 :
    (∃ (s : State) (x : SbTx), Taken s x 4 ∧ let a := leNum x.bytes;
      a < 0x04000000 ∧ a % 4 = 0) ∧
    (∃ (s : State) (x : SbTx), Taken s x 4 ∧ let a := leNum x.bytes;
      (0x04000000 ≤ a ∨ a % 4 ≠ 0)) ∧
    (∃ (s : State) (x : SbTx), Taken s x 4 ∧ s.sb.ptr < 0x04000000 ∧ sbRefused s s.sb.ptr = false) ∧
    (∃ (s : State) (x : SbTx), Taken s x 4 ∧ s.sb.ptr < 0x04000000 ∧ sbRefused s s.sb.ptr = false) ∧
    (∃ (s : State) (x : SbTx), Taken s x 0 ∧ s.sb.ptr < 0x04000000 ∧ sbRefused s s.sb.ptr = false) ∧
    (∃ (s : State) (x : SbTx), Taken s x 0 ∧ s.sb.ptr < 0x04000000 ∧ sbRefused s s.sb.ptr = false) ∧
    (∃ (s : State) (x : SbTx) (r : Reg) (k : Nat) (i : Instr), s.sb.ptr < 0x04000000 ∧ sbRefused s s.sb.ptr = true ∧ regAt s.sb.ptr = some (r, k) ∧ Taken s x 4 ∧ i ∈ [Instr.write x, .writeInc x]) ∧
    (∃ (s : State) (x : SbTx) (r : Reg) (k : Nat) (i : Instr), s.sb.ptr < 0x04000000 ∧ sbRefused s s.sb.ptr = true ∧ regAt s.sb.ptr = some (r, k) ∧ Taken s x 0 ∧ i ∈ [Instr.read x, .readInc x]) :=
  ⟨⟨(st []), ⟨[0xFC, 0xFF, 0xFF, 3], none⟩, taken (by decide +kernel), by decide +kernel⟩,
   ⟨(st []), ⟨[0xFE, 0xFF, 0xFF, 3], some true⟩, taken (by decide +kernel), by decide +kernel⟩,
   ⟨({ st [] with sb.ptr := 0x3FFFFFC }), ⟨[1, 2, 3, 4], none⟩, taken (by decide +kernel), by decide +kernel⟩,
   ⟨({ st [] with sb.ptr := 0x3FFFFFC }), ⟨[1, 2, 3, 4], none⟩, taken (by decide +kernel), by decide +kernel⟩,
   ⟨({ st [] with sb.ptr := 0x3FFFFFC }), ⟨[], none⟩, taken (by decide +kernel), by decide +kernel⟩,
   ⟨({ st [] with sb.ptr := 0x3FFFFFC }), ⟨[], none⟩, taken (by decide +kernel), by decide +kernel⟩,
   ⟨({ st [] with sb.ptr := Reg.DCK_STAT.offset 15 }), ⟨[1, 2, 3, 4], none⟩, .DCK_STAT, 15, (.writeInc ⟨[1, 2, 3, 4], none⟩), by decide +kernel, by decide +kernel, by decide +kernel, taken (by decide +kernel), by decide +kernel⟩,
   ⟨({ st [] with sb.ptr := Reg.DCK_STAT.offset 15 }), ⟨[], none⟩, .DCK_STAT, 15, (.readInc ⟨[], none⟩), by decide +kernel, by decide +kernel, by decide +kernel, taken (by decide +kernel), by decide +kernel⟩⟩

theorem wit_SidebandCompletes_2 :
    (∃ (s : State) (x : SbTx) (i : Instr), 0x04000000 ≤ s.sb.ptr ∧ Taken s x 4 ∧ i ∈ [Instr.write x, .writeInc x]) ∧
    (∃ (s : State) (x : SbTx) (i : Instr), 0x04000000 ≤ s.sb.ptr ∧ Taken s x 0 ∧ i ∈ [Instr.read x, .readInc x]) ∧
    (∃ (s : State) (x : SbTx) (i : Instr), On s ∧ sbAnswers s x.pec = true ∧ s.sb.access.isSome = true ∧ i ∈ [Instr.setaddr x, .write x, .writeInc x, .read x, .readInc x]) ∧
    (∃ (s : State) (pec : Option Bool), On s ∧ sbAnswers s pec = true) ∧
    (∃ (s : State) (off : Nat) (v : Word), On s ∧ s.sb.access = some (true, off, v)) ∧
    (∃ (s : State) (off : Nat) (v : Word), On s ∧ s.sb.access = some (false, off, v)) ∧
    (∃ (s : State), On s ∧ s.b F.GLB_SBCFG_I3C_EN 0 = true) ∧
    (∃ (s : State) (l : Nat), On s ∧ s.sb.levelWait = some l) :=
  ⟨⟨({ st [] with sb.ptr := 0x04000000 }), ⟨[1, 2, 3, 4], none⟩, (.writeInc ⟨[1, 2, 3, 4], none⟩), by decide +kernel, taken (by decide +kernel), by decide +kernel⟩,
   ⟨({ st [] with sb.ptr := 0x04000000 }), ⟨[], none⟩, (.readInc ⟨[], none⟩), by decide +kernel, taken (by decide +kernel), by decide +kernel⟩,
   ⟨({ st [] with sb.access := some (false, 0, 0) }), ⟨[], none⟩, (.readInc ⟨[], none⟩), by decide +kernel, by decide +kernel, by decide +kernel, by simp⟩,
   ⟨(st []), none, by decide +kernel⟩,
   ⟨({ st [] with sb.access := some (true, Reg.REC_TRGMATCH.offset 31, 0x12345678) }), (Reg.REC_TRGMATCH.offset 31), 0x12345678, by decide +kernel⟩,
   ⟨({ st [] with sb.access := some (false, 0, 0) }), 0, 0, by decide +kernel⟩,
   ⟨(st [(F.GLB_SBCFG_I3C_EN, 0, 1)]), by decide +kernel⟩,
   ⟨({ st [] with sb.levelWait := some 1 }), 1, by decide +kernel⟩⟩

theorem wit_MctpCompletes_1 :
    (∃ (s : State) (v : VsId) (eid : Byte), On s ∧ mctpUp s v.val = true ∧ eid ≠ 0 ∧ eid ≠ 0xFF) ∧
    (∃ (s : State) (v : VsId) (eid : Byte), On s ∧ mctpUp s v.val = true ∧ (eid = 0 ∨ eid = 0xFF)) ∧
    (∃ (s : State) (v : VsId), On s ∧ mctpUp s v.val = true) ∧
    (∃ (s : State) (v : VsId), On s ∧ mctpUp s v.val = true) ∧
    (∃ (s : State) (v : VsId) (ty : Byte), On s ∧ mctpUp s v.val = true ∧ (ty = 0xFF ∨ ty = 0 ∨ ty = 0x7E)) ∧
    (∃ (s : State) (v : VsId) (ty : Byte), On s ∧ mctpUp s v.val = true ∧ ty ≠ 0xFF ∧ ty ≠ 0 ∧ ty ≠ 0x7E) ∧
    (∃ (s : State) (v : VsId), On s ∧ mctpUp s v.val = true) ∧
    (∃ (s : State) (v : VsId) (vendor : BitVec 16) (desc : List Byte), On s ∧ mctpUp s v.val = true ∧ vendor.toNat = s.f F.GLB_ID_VENDOR 0 ∧ desc.length = 64 ∧ serves s = true ∧ rejection s desc = 0) :=
  ⟨⟨(vst []), 63, 0xFE, by decide +kernel⟩,
   ⟨(vst []), 63, 0xFF, by decide +kernel⟩,
   ⟨(vst []), 63, by decide +kernel⟩,
   ⟨(vst []), 63, by decide +kernel⟩,
   ⟨(vst []), 63, 0x7E, by decide +kernel⟩,
   ⟨(vst []), 63, 1, by decide +kernel⟩,
   ⟨(vst []), 63, by decide +kernel⟩,
   ⟨(vst []), 63, 0x1F9C, (2 :: List.replicate 63 0), by decide +kernel⟩⟩

theorem wit_MctpCompletes_2 : ∃ (s : State) (v : VsId) (vendor : BitVec 16) (desc : List Byte), On s ∧ mctpUp s v.val = true ∧ vendor.toNat = s.f F.GLB_ID_VENDOR 0 ∧ desc.length = 64 ∧ serves s = true ∧ rejection s desc ≠ 0 :=
  ⟨(vst []), 63, 0x1F9C, (0x7F :: List.replicate 63 0), by decide +kernel⟩

theorem wit_HostRequestsComplete_1 :
    (∃ (s : State) (p : PortId) (t : Tlp) (e : Entry), On s ∧ entryOf s p.val t = some e ∧ (t.kind = .cfgRd ∨ t.kind = .cfgWr) ∧ linkUp s p.val = true ∧ tenantClosed s e.tenant = false ∧ (route s e.v e.fn t).dest = .config ∧ let r : CfgReq := ⟨t, p.val, e.v⟩;
      let q := SMap.get [] s.eng.cfgWait (pierOf p.val);
      (∃ x ∈ q, x.vs = e.v)) ∧
    (∃ (s : State) (p : PortId) (t : Tlp) (e : Entry), On s ∧ entryOf s p.val t = some e ∧ (t.kind = .cfgRd ∨ t.kind = .cfgWr) ∧ linkUp s p.val = true ∧ tenantClosed s e.tenant = false ∧ (route s e.v e.fn t).dest = .config ∧ let r : CfgReq := ⟨t, p.val, e.v⟩;
      let q := SMap.get [] s.eng.cfgWait (pierOf p.val);
      q = [] ∧ cfgMay s r = false) ∧
    (∃ (s : State) (p : PortId) (t : Tlp) (e : Entry) (n : Nat) (d : Nat), On s ∧ entryOf s p.val t = some e ∧ (t.kind = .cfgRd ∨ t.kind = .cfgWr) ∧ linkUp s p.val = true ∧ tenantClosed s e.tenant = false ∧ (route s e.v e.fn t).dest = .config ∧ let r : CfgReq := ⟨t, p.val, e.v⟩;
      let q := SMap.get [] s.eng.cfgWait (pierOf p.val);
      q = [] ∧ cfgMay s r = true ∧ cfgDuty s e.v = some (n, d)) ∧
    (∃ (s : State) (n : PierId) (r : CfgReq) (m : Nat) (d : Nat), On s ∧ (SMap.get [] s.eng.cfgWait n.val).find? (cfgMay s) = some r ∧ cfgDuty s r.vs = some (m, d)) ∧
    (∃ (s : State) (v : VsId), On s ∧ SMap.find? s.host.inReset v.val = none) ∧
    (∃ (s : State) (v : VsId) (d : VsDef), On s ∧ SMap.find? s.host.inReset v.val = none ∧ vsDef s v.val = some d ∧ d.ready = true ∧ linkUp s d.up.val = true ∧ (∀ k ∈ s.host.flr, k / 64 ≠ v.val) ∧ (∃ k ∈ s.host.crs, k / 64 = v.val)) ∧
    (∃ (s : State) (p : PortId) (v : Nat) (j : Nat) (d : VsDef), On s ∧ linkUp s p.val = true ∧ vsOfDown s p.val = some (v, j) ∧ vsDef s v = some d ∧ d.up.val ≠ p.val ∧ capBit s v (fnBridge j) .ptm 0x8 0 = true) ∧
    (∃ (s : State) (p : PortId) (v : Nat) (j : Nat) (d : VsDef), On s ∧ linkUp s p.val = true ∧ vsOfDown s p.val = some (v, j) ∧ vsDef s v = some d ∧ d.up.val ≠ p.val ∧ capBit s v (fnBridge j) .ptm 0x8 0 = false) :=
  ⟨⟨({ vst [] with eng.cfgWait := [(7, [⟨crq, 112, 63⟩])] }), 112, crq, ⟨112, none, 112, 63, 0⟩, by decide +kernel⟩,
   ⟨(vst []), 112, crq, ⟨112, none, 112, 63, 0⟩, by decide +kernel⟩,
   ⟨(vst (on [55] ++ duty 0 ++ [(F.ENG_STAT_STATE, 63, 0), (F.PIR_DUTY_INST, 511, 63)])), 112, crq, ⟨112, none, 112, 63, 0⟩, 7, 63, by decide +kernel⟩,
   ⟨({ vst (on [55] ++ duty 0 ++ [(F.ENG_STAT_STATE, 63, 0), (F.PIR_DUTY_INST, 511, 63)]) with eng.cfgWait := [(7, [⟨crq, 112, 63⟩])] }), 7, ⟨crq, 112, 63⟩, 7, 63, by decide +kernel⟩,
   ⟨({ vst [(F.GLB_VSSTAT_NOTREADY, 63, 1)] with host.crs := [63 * 64] }), 63, by decide +kernel⟩,
   ⟨({ vst [(F.GLB_VSSTAT_NOTREADY, 63, 1)] with host.crs := [63 * 64], host.vsw := [(63, { sw with ready := true })] }), 63, ({ sw with ready := true }), by decide +kernel⟩,
   ⟨({ vst [] with host.cfg := [(cfgKey 63 0 (capOff (vst []) 63 0 .ptm + 8), 1), (cfgKey 63 30 (capOff (vst []) 63 30 .ptm + 8), 1)], env.now := 77 }), 127, 63, 29, sw, by decide +kernel⟩,
   ⟨(vst []), 127, 63, 29, sw, by decide +kernel⟩⟩

theorem wit_HostRequestsComplete_2 : ∃ (s : State) (p : PortId) (b : HomeBind) (x : Nat), On s ∧ linkUp s p.val = true ∧ vsOfDown s p.val = none ∧ SMap.find? s.host.home p.val = some b ∧ ptmRemote s b = some x :=
  ⟨({ st (up 127) with host.home := [(127, ⟨1, 0, 0, false, []⟩)], fab.time := [(64, 5)] }), 127, ⟨1, 0, 0, false, []⟩, 5, by decide +kernel⟩

theorem wit_HostResetsComplete_1 :
    (∃ (s : State) (i : Fin 16), On s ∧ s.bitf F.GLB_PERST_LEVEL 0 i.val = false ∧ perstVs s i.val = none) ∧
    (∃ (s : State) (i : Fin 16) (v : Nat) (p : Nat), On s ∧ s.bitf F.GLB_PERST_LEVEL 0 i.val = false ∧ perstVs s i.val = some (v, p) ∧ (vsDef s v).isSome = true ∧ SMap.find? s.host.inReset v = none) ∧
    (∃ (s : State) (i : Fin 16), On s ∧ s.bitf F.GLB_PERST_LEVEL 0 i.val = true ∧ perstVs s i.val = none) ∧
    (∃ (s : State) (i : Fin 16) (v : Nat) (p : Nat), On s ∧ s.bitf F.GLB_PERST_LEVEL 0 i.val = true ∧ perstVs s i.val = some (v, p) ∧ SMap.find? s.host.inReset v = some 2) ∧
    (∃ (s : State) (p : PortId) (v : Nat), On s ∧ vsOfUp s p.val = some v ∧ linkUp s p.val = true ∧ (vsDef s v).isSome = true ∧ SMap.find? s.host.inReset v = none) ∧
    (∃ (s : State) (p : PortId) (v : Nat) (fn : Nat) (d : VsDef), On s ∧ fnOfPort s p.val = some (v, fn) ∧ vsDef s v = some d ∧ cfgBit s v fn 0x3C 22 = false ∧ fn = fnUp ∧ SMap.find? s.host.inReset v = none) ∧
    (∃ (s : State) (p : PortId) (v : Nat) (fn : Nat) (d : VsDef) (b : BridgeDef) (q : PortId), On s ∧ fnOfPort s p.val = some (v, fn) ∧ vsDef s v = some d ∧ cfgBit s v fn 0x3C 22 = false ∧ fn ≠ fnUp ∧ d.bridges.find? (fun b => b.fn == fn) = some b ∧ b.tgt = .local_ q ∧ SMap.find? s.host.inReset v = none) ∧
    (∃ (s : State) (p : PortId) (v : Nat) (fn : Nat) (d : VsDef) (c : Nat), On s ∧ fnOfPort s p.val = some (v, fn) ∧ vsDef s v = some d ∧ cfgBit s v fn 0x3C 22 = false ∧ fn ≠ fnUp ∧ SMap.find? s.host.inReset v = some c) :=
  ⟨⟨(st []), 15, by decide +kernel⟩,
   ⟨(vst [(F.GLB_PERSTMAP_VALID, 15, 1), (F.GLB_PERSTMAP_PORT, 15, 112)]), 15, 63, 112, by decide +kernel⟩,
   ⟨(st [(F.GLB_PERST_LEVEL, 0, 65535)]), 15, by decide +kernel⟩,
   ⟨({ vst [(F.GLB_PERST_LEVEL, 0, 65535), (F.GLB_PERSTMAP_VALID, 15, 1), (F.GLB_PERSTMAP_PORT, 15, 112)] with host.inReset := [(63, 2)], host.l2 := [112] }), 15, 63, 112, by decide +kernel⟩,
   ⟨(vst []), 112, 63, by decide +kernel⟩,
   ⟨(vst []), 112, 63, 0, sw, by decide +kernel⟩,
   ⟨(vst []), 127, 63, 30, sw, ⟨29, .local_ 127, false⟩, 127, by decide +kernel⟩,
   ⟨({ vst [] with host.inReset := [(63, 2)] }), 127, 63, 30, sw, 2, by decide +kernel⟩⟩

theorem wit_HostResetsComplete_2 :
    (∃ (s : State) (p : PortId), On s ∧ fnOfPort s p.val = none ∧ (SMap.find? s.host.home p.val).isSome = true) ∧
    (∃ (s : State) (p : PortId), On s ∧ fnOfPort s p.val = none) ∧
    (∃ (s : State) (p : PortId) (v : Nat) (fn : Nat) (d : VsDef), On s ∧ fnOfPort s p.val = some (v, fn) ∧ vsDef s v = some d ∧ cfgBit s v fn 0x3C 22 = true ∧ fn = fnUp ∧ SMap.find? s.host.inReset v = some 4) ∧
    (∃ (s : State) (p : PortId) (v : Nat) (fn : Nat) (d : VsDef) (b : BridgeDef) (q : PortId), On s ∧ fnOfPort s p.val = some (v, fn) ∧ vsDef s v = some d ∧ cfgBit s v fn 0x3C 22 = true ∧ fn ≠ fnUp ∧ d.bridges.find? (fun b => b.fn == fn) = some b ∧ b.tgt = .local_ q ∧ SMap.find? s.host.inReset v = none) ∧
    (∃ (s : State) (v : VsId) (landing : Bool), On s ∧ let fn := if landing then fnLand else fnMep;
      fnPresent s v.val fn = true ∧ SMap.find? s.host.inReset v.val = none ∧ v.val * 64 + fn ∉ s.host.flr) ∧
    (∃ (s : State) (landing : Bool), On s) :=
  ⟨⟨({ st [] with host.home := [(127, ⟨1, 0, 0, false, []⟩)] }), 127, by decide +kernel⟩,
   ⟨({ st [] with host.linkHot := [127] }), 127, by decide +kernel⟩,
   ⟨({ vst [] with host.cfg := [(cfgKey 63 0 0x3C, 0x400000)], host.inReset := [(63, 4)] }), 112, 63, 0, sw, by decide +kernel⟩,
   ⟨({ vst [] with host.cfg := [(cfgKey 63 30 0x3C, 0x400000)], host.linkHot := [127] }), 127, 63, 30, sw, ⟨29, .local_ 127, false⟩, 127, by decide +kernel⟩,
   ⟨(vst [(F.CSN_CFG_LM_SIZE, 0, 47)]), 63, true, by decide +kernel⟩,
   ⟨({ vst [] with host.flr := [63 * 64 + 32] }), true, by decide +kernel⟩⟩

theorem wit_HotPlugCompletes_1 :
    (∃ (s : State) (k : SlotId) (present : Bool), On s ∧ s.b F.GLB_SLOT_PRSNT k.val ≠ present) ∧
    (∃ (s : State), On s) ∧
    (∃ (s : State), On s) ∧
    (∃ (s : State), On s) ∧
    (∃ (s : State), On s) ∧
    (∃ (s : State) (k : SlotId), On s ∧ s.b F.GLB_SLOT_BOUND k.val = true ∧ (slotSt s k.val).on = false) ∧
    (∃ (s : State) (k : SlotId), On s ∧ (slotSt s k.val).on = true) ∧
    (∃ (s : State) (k : SlotId), On s ∧ (slotSt s k.val).on = true ∧ s.b F.GLB_SLOT_PWREN k.val = true) :=
  ⟨⟨(vst [(F.GLB_SLOT_BOUND, 31, 1), (F.GLB_SLOT_PORT, 31, 127), (F.GLB_SLOT_PRSNT, 31, 1)]), 31, false, by decide +kernel⟩,
   ⟨(vst [(F.GLB_SLOT_BOUND, 31, 1), (F.GLB_SLOT_PORT, 31, 127)]), by decide +kernel⟩,
   ⟨(vst [(F.GLB_SLOT_BOUND, 31, 1), (F.GLB_SLOT_PORT, 31, 127), (F.GLB_SLOT_ATTN, 31, 1)]), by decide +kernel⟩,
   ⟨({ vst [(F.GLB_SLOT_BOUND, 31, 1), (F.GLB_SLOT_PORT, 31, 127)] with host.slot := [(31, ⟨true, true, true⟩)] }), by decide +kernel⟩,
   ⟨(vst [(F.GLB_SLOT_PWRFLT, 31, 1)]), by decide +kernel⟩,
   ⟨(vst [(F.GLB_SLOT_BOUND, 31, 1), (F.GLB_SLOT_PORT, 31, 127)]), 31, by decide +kernel⟩,
   ⟨({ vst [(F.GLB_SLOT_BOUND, 31, 1), (F.GLB_SLOT_PORT, 31, 127)] with host.slot := [(31, ⟨true, true, true⟩)] }), 31, by decide +kernel⟩,
   ⟨({ vst [(F.GLB_SLOT_BOUND, 31, 1), (F.GLB_SLOT_PORT, 31, 127), (F.GLB_SLOT_PWREN, 31, 1)] with host.slot := [(31, ⟨true, true, false⟩)] }), 31, by decide +kernel⟩⟩

theorem wit_HotPlugCompletes_2 :
    (∃ (s : State) (k : SlotId), On s ∧ s.b F.GLB_SLOT_BOUND k.val = true ∧ (slotSt s k.val).on = true) ∧
    (∃ (s : State) (k : SlotId), On s ∧ (slotSt s k.val).on = false) :=
  ⟨⟨({ vst [(F.GLB_SLOT_BOUND, 31, 1), (F.GLB_SLOT_PORT, 31, 127)] with host.slot := [(31, ⟨true, true, true⟩)] }), 31, by decide +kernel⟩,
   ⟨(vst [(F.GLB_SLOT_BOUND, 31, 1), (F.GLB_SLOT_PORT, 31, 127), (F.GLB_SLOT_PWREN, 31, 1)]), 31, by decide +kernel⟩⟩

theorem wit_FabricCompletes_1 :
    (∃ (s : State) (p : PortId) (k : Fin 32) (b : PfBuf), On s ∧ (pfBufs s p.val)[k.val]? = some b) ∧
    (∃ (s : State) (p : PortId) (tag : Fin 16384) (e : FTag), On s ∧ (SMap.get [] s.fab.tags p.val).find? (fun (e : FTag) => e.tag == tag.val) = some e) ∧
    (∃ (s : State) (g : SpanId) (vc : Nat) (x : FabPkt), On s ∧ flHas s g.val = true ∧ (fl s g.val).rxBuf = [(vc, x)] ∧ 6 ≤ x.h.kind) ∧
    (∃ (s : State) (g : SpanId) (vc : Nat) (x : FabPkt) (n : Nat) (d : Nat), On s ∧ flHas s g.val = true ∧ (fl s g.val).rxBuf = [(vc, x)] ∧ (x.h.kind = 4 ∨ x.h.kind = 5) ∧ x.h.dstMod.val = myModule s ∧ fabricDuty s (pierOf (flPort g.val)) = some (n, d) ∧ s.b F.PIR_DUTY_MOVING (dutyKey n d) = false ∧ engRoom s (dutyEng s n d) (.control x.h.srcMod x.h.kind x.h.ctl) = true) ∧
    (∃ (s : State) (g : SpanId) (vc : Nat) (x : FabPkt) (say : List Byte), On s ∧ flHas s g.val = true ∧ (fl s g.val).rxBuf = [(vc, x)] ∧ x.h.kind = 4 ∧ x.h.dstMod.val = myModule s ∧ fabricDuty s (pierOf (flPort g.val)) = none ∧ ctlRequest s x.h = some (0, say)) ∧
    (∃ (s : State) (g : SpanId) (vc : Nat) (x : FabPkt) (i : Byte) (j : Byte) (say : List Byte), On s ∧ flHas s g.val = true ∧ (fl s g.val).rxBuf = [(vc, x)] ∧ x.h.kind = 4 ∧ x.h.dstMod.val = myModule s ∧ fabricDuty s (pierOf (flPort g.val)) = none ∧ ctlRequest s x.h = none ∧ x.h.ctl = Config.ctlCode 5 :: i :: j :: say) ∧
    (∃ (s : State) (n : PierId) (d : Fin 64), On s ∧ (∀ e ∈ s.fab.ctl, ¬(e.1 = n.val ∧ e.2.dstMod = d))) ∧
    (∃ (s : State) (n : PierId) (h : FabHdr) (q : Nat), On s ∧ s.fab.ctl = [(n.val, h)] ∧ 64 * n.val + h.dstMod.val ∉ s.fab.hold.erase (64 * n.val + h.dstMod.val) ∧ routeOf s n.val h.dstMod.val = some q ∧ linkUp s q = true) :=
  ⟨⟨({ st [] with fab.pf := [(127, List.replicate 32 ⟨63, 0, 0, 64, 512, 0, [], true, []⟩)] }), 127, 31, ⟨63, 0, 0, 64, 512, 0, [], true, []⟩, by decide +kernel⟩,
   ⟨({ st [] with fab.tags := [(127, [⟨16383, 127, none, 0, 0, 0, 63, 0, 0, 0, 0, false⟩])] }), 127, 16383, ⟨16383, 127, none, 0, 0, 0, 63, 0, 0, 0, 0, false⟩, by decide +kernel⟩,
   ⟨(setFl 31 { FlLink.init with rxBuf := [(7, ⟨fh 7, Tlp.blank⟩)] } (st (flo 31 3))), 31, 7, ⟨fh 7, Tlp.blank⟩, by decide +kernel⟩,
   ⟨(setFl 31 { FlLink.init with rxBuf := [(7, ⟨fh 5, Tlp.blank⟩)] } (st (flo 31 3 ++ on [55] ++ duty 5 ++ [(F.ENG_STAT_STATE, 63, 0)]))), 31, 7, ⟨fh 5, Tlp.blank⟩, 7, 63, by decide +kernel⟩,
   ⟨(setFl 31 { FlLink.init with rxBuf := [(7, ⟨{ fh 4 with ctl := [Config.ctlCode 0, 0, 0] }, Tlp.blank⟩)] } { st (flo 31 3) with host.home := [(127, ⟨63, 63, 0, false, []⟩)] }), 31, 7, ⟨{ fh 4 with ctl := [Config.ctlCode 0, 0, 0] }, Tlp.blank⟩, [], by decide +kernel, by decide +kernel, rfl, by decide +kernel, by decide +kernel, by decide +kernel, ctl_first rfl⟩,
   ⟨(setFl 31 { FlLink.init with rxBuf := [(7, ⟨{ fh 4 with ctl := [Config.ctlCode 5, 0, 0, 9] }, Tlp.blank⟩)] } (st (flo 31 3))), 31, 7, ⟨{ fh 4 with ctl := [Config.ctlCode 5, 0, 0, 9] }, Tlp.blank⟩, 0, 0, [9], by decide +kernel, by decide +kernel, rfl, by decide +kernel, by decide +kernel, by decide +kernel, rfl, rfl⟩,
   ⟨({ st [] with fab.hold := [511] }), 7, 63, by decide +kernel⟩,
   ⟨({ st (flo 31 3 ++ [(F.SPN_PSTAT_LINKUP, 124, 1), (F.PIR_FROUTE_VALID, 511, 1), (F.PIR_FROUTE_PORT, 511, 124)]) with fab.hold := [511], fab.ctl := [(7, { fh 4 with dstMod := 63 })] }), 7, ({ fh 4 with dstMod := 63 }), 124, by decide +kernel⟩⟩

theorem wit_FabricCompletes_2 :
    (∃ (s : State) (g : SpanId), On s ∧ flHas s g.val = true ∧ flUp s g.val = true) ∧
    (∃ (s : State) (v : Nat) (d : VsDef) (m : Fin 64) (q : Nat), On s ∧ s.host.vsw = [(v, d)] ∧ remoteMods d = [m.val] ∧ 64 * pierOf d.up + m.val ∉ s.fab.hold ∧ routeOf s (pierOf d.up) m.val = some q ∧ linkUp s q = true) :=
  ⟨⟨(st (flo 31 3)), 31, by decide +kernel⟩,
   ⟨({ st (flo 31 3 ++ [(F.SPN_PSTAT_LINKUP, 124, 1), (F.PIR_FROUTE_VALID, 511, 1), (F.PIR_FROUTE_PORT, 511, 124)]) with host.vsw := [(63, { sw with bridges := [⟨29, .remote 63 127, false⟩] })], env.now := 77 }), 63, ({ sw with bridges := [⟨29, .remote 63 127, false⟩] }), 63, 124, by decide +kernel⟩⟩

theorem wit_TlpsComplete_1 :
    (∃ (s : State) (p : PortId), On s ∧ portExists s p.val = true ∧ isFloing s p.val = false ∧ linkUp s p.val = true ∧ ingressStopped s p.val = false) ∧
    (∃ (s : State) (p : PortId) (x : Tlp), On s ∧ portExists s p.val = true ∧ isFloing s p.val = false ∧ linkUp s p.val = true ∧ ingressStopped s p.val = false ∧ x.kind = .memRd ∧ x.ep = false ∧ fnOfPort s p.val = none ∧ SMap.find? s.host.home p.val = none) ∧
    (∃ (s : State) (p : PortId) (x : Tlp) (v : Nat) (d : VsDef), On s ∧ portExists s p.val = true ∧ isFloing s p.val = false ∧ linkUp s p.val = true ∧ ingressStopped s p.val = false ∧ x.kind = .msg ∧ x.code = 0x19 ∧ x.ep = false ∧ vsOfUp s p.val = some v ∧ vsDef s v = some d ∧ (∀ q ∈ downPorts s v, linkUp s q = false)) ∧
    (∃ (s : State) (p : PortId) (x : Tlp) (v : Nat), On s ∧ portExists s p.val = true ∧ isFloing s p.val = false ∧ linkUp s p.val = true ∧ ingressStopped s p.val = false ∧ x.kind = .msg ∧ x.code = 0x19 ∧ x.ep = false ∧ vsOfUp s p.val = some v ∧ (∃ q ∈ downPorts s v, linkUp s q = true)) ∧
    (∃ (s : State) (p : PortId) (x : Tlp) (v : Nat) (j : Nat) (d : VsDef), On s ∧ portExists s p.val = true ∧ isFloing s p.val = false ∧ linkUp s p.val = true ∧ ingressStopped s p.val = false ∧ x.kind = .msg ∧ x.code = 0x1B ∧ x.ep = false ∧ vsOfUp s p.val = none ∧ vsOfDown s p.val = some (v, j) ∧ vsDef s v = some d ∧ SMap.find? s.host.toWait v = some [p.val]) ∧
    (∃ (s : State) (v : VsId) (tag : Fin 64), On s ∧ s.host.dmaDead.contains (v.val, tag.val) = true) ∧
    (∃ (s : State) (v : VsId) (tag : Fin 64) (j : DmaJob), On s ∧ s.host.dmaDead.contains (v.val, tag.val) = false ∧ dmaJob s v.val = some j ∧ j.reads.any (fun (r : DmaRd) => r.tag == tag.val) = true ∧ s.host.dmaq = []) ∧
    (∃ (s : State) (v : VsId) (x : Tlp) (d : VsDef) (j : DmaJob) (r : DmaRd), On s ∧ vsDef s v.val = some d ∧ vsOfUp s d.up.val = some v.val ∧ linkUp s d.up.val = true ∧ x.tag < 64 ∧ s.host.dmaDead.contains (v.val, x.tag) = false ∧ dmaJob s v.val = some j ∧ j.reads.find? (fun (r : DmaRd) => r.tag == x.tag) = some r ∧ x.status ≠ 0 ∧ s.host.dmaq = []) :=
  ⟨⟨(st (up 127)), 127, by decide +kernel⟩,
   ⟨(st (up 127)), 127, ({ Tlp.blank with kind := .memRd, len := 4, tc := 7 }), by decide +kernel⟩,
   ⟨({ vst [(F.SPN_PSTAT_LINKUP, 127, 0), (F.SPN_PSTAT_LTSSM, 127, 0)] with host.l2 := [] }), 112, ({ Tlp.blank with kind := .msg, code := 0x19 }), 63, sw, by decide +kernel⟩,
   ⟨(vst []), 112, ({ Tlp.blank with kind := .msg, code := 0x19 }), 63, by decide +kernel⟩,
   ⟨({ vst [] with host.toWait := [(63, [127])] }), 127, ({ Tlp.blank with kind := .msg, code := 0x1B }), 63, 29, sw, by decide +kernel⟩,
   ⟨({ vst [] with host.dmaDead := [(63, 63)] }), 63, 63, by decide +kernel⟩,
   ⟨({ vst [(F.GLB_DMASTAT_BUSY, 63, 1)] with host.dma := [(63, ⟨.batch 5, 0, 64, 64, [⟨63, 0, 64, []⟩], [], 0⟩)] }), 63, 63, ⟨.batch 5, 0, 64, 64, [⟨63, 0, 64, []⟩], [], 0⟩, by decide +kernel⟩,
   ⟨({ vst [(F.GLB_DMASTAT_BUSY, 63, 1)] with host.dma := [(63, ⟨.batch 5, 0, 64, 64, [⟨63, 0, 64, []⟩], [], 0⟩)] }), 63, ({ Tlp.blank with tag := 63, status := 1 }), sw, ⟨.batch 5, 0, 64, 64, [⟨63, 0, 64, []⟩], [], 0⟩, ⟨63, 0, 64, []⟩, by decide +kernel⟩⟩

theorem wit_TlpsComplete_2 : ∃ (s : State) (v : VsId) (x : Tlp) (d : VsDef) (j : DmaJob) (r : DmaRd), On s ∧ vsDef s v.val = some d ∧ vsOfUp s d.up.val = some v.val ∧ linkUp s d.up.val = true ∧ x.tag < 64 ∧ s.host.dmaDead.contains (v.val, x.tag) = false ∧ dmaJob s v.val = some j ∧ j.reads.find? (fun (r : DmaRd) => r.tag == x.tag) = some r ∧ x.status = 0 ∧ x.ep = false ∧ dmaFits s v.val j r x = true ∧ r.got.length + x.data.length < r.len ∧ j.total ≤ j.issued ∧ j.use.reads = true :=
  ⟨({ vst [(F.GLB_DMASTAT_BUSY, 63, 1)] with host.dma := [(63, ⟨.batch 5, 0, 128, 128, [⟨63, 0, 128, []⟩], [], 0⟩)] }), 63, ({ Tlp.blank with tag := 63, data := List.replicate 64 1 }), sw, ⟨.batch 5, 0, 128, 128, [⟨63, 0, 128, []⟩], [], 0⟩, ⟨63, 0, 128, []⟩, by decide +kernel⟩

/-! ### Hypotheses about a value that the spec leaves open: met where it is as assumed -/

/-! ### An image, a stage copy and an authorisation, signed with the private key 1 and the secret number 2 -/

/-- The public key: the base point. -/
def pubKey : List Byte := 4 :: (beBytes ecG.x 48 ++ beBytes ecG.y 48)

/-- Its SHA-384. -/
def pubHash : Nat := 0xD1321676AB9FA4F8D617B614EAD449A49838D2D14D6EBD93AC1E468F774E6E609C4AB3A71EF6891498CD082694D298A6

/-- A signature whose second half is given. -/
def signed (s : Nat) : List Byte :=
  beBytes 0x2282BC382A2F4DFCB95C3495D7B4FD590AD520B3EB6BE4D6EC2F80C4E0F70DF87C4BA74A09B553EBB427B58DF9D59FCA 48 ++ beBytes s 48

/-- Key slot 0, provisioned with that key. -/
def slot0 : List (Fld × Nat × Nat) :=
  (F.KEY_SLOT_STATE, 0, 1) :: (List.range 12).map (fun i => (⟨.KEY_SLOTHASH, 31, 0⟩, i, pubHash >>> (32 * i) % 2 ^ 32))

/-- A section without entries. -/
def secBytes (i : Nat) : List Byte :=
  secName i ++ [1, 0, 0, 32, 0, 0, 0, 0, 0, 0, 0, (if i ≥ 7 && (i - 7) % 6 == 4 then 1 else 4), 0, 0, 0] ++ List.replicate 12 0

/-- The SHA-384 of each section of that kind. -/
def secHashes : List Nat :=
  [0x4364290A263595DFBBE43F966259F5F84E2624C118F1956896310CF3CAC8B758A5A9B7BA7B50C0C841A0830B11BC6F41,
    0xA214D6FE9A99AEFB49C5E4A4F8FF2165B9ABC08D080935FE2A51AD75F01236A53F422D26B4F9BAB1A7BC93AD9D9A34D7,
    0xB5396BFFFF4981DA5BB3038D76EA0D3AE64957335FEEB1EBB746574A0D4BE24561CB7523905BD4760A2E2223058A7205,
    0xB301DC2E26310B471FE3FC828166BFCA0812C4021E9EEAD19F19A86E8447B6CE7292A2EC20BA8C0F870771410C3AB307,
    0x8386267E20F30D1F74BA9980267406CCB1F66E5ECC8D82CAB647090D3768369024F747E1A013999D5D9462976576250D,
    0xE02DE90C88BCB851464B6ECEFE825C1AF277FE85E37B7403471D1591CA9C859B1B8B3084BB92C138B9E96EC6B9ECEAE7,
    0x4D292FDC6CC023B8A997C34CF3B7595F3E70FEB9B50B21F9FF5A305E3B64318AECD889DE43CD27DFACEDCEDCB8352D51,
    0xB326DD69C8DDEEB00B2BB826B7688BB664D39280B5F7D565D25E245E2716329EBA794D23EBCE1B5CE7B2FF3C6BD70000,
    0x7DFC8AAC6A084B80D188754B5408E2A23DD0FC2C26603CE4B3008B9FB52E4325049141E343D83D9C41B84DBB7BBC157D,
    0xC42BC6285D088C8D5473B6891CAC7A132CFA46810326D2FC9FBF0DB2B31AFF775D46F977BF755C58C341A3F0681B90EB,
    0x3E88CC8B8C685DDC993155F19C639B35CD46F053E641E05EFD875EF5109771608C49C8099D131E4145C6A5D0355B57E3] ++
  [0x52C0B7C2EF46AB4792B81090C8E0FE7EAAF193487E0B8773AC3416B50FD9D4D4483BDB086FE14B1F37AE0D3264FAA1F5,
    0x3737E0987399B8E0BFD9CA87620E24BB0AA56E4B08BA105E8F222593E52D09C7175A1B85A9782D4A2A4EE19F621FFBC2,
    0x4D9101D8065D787D331565C6121827DB44F3A6C1AFE0E4099CC2FB1F5456F36470F6F4A11659DB3CA74F9BCDC1FB2366,
    0xC205A992018F4E40BC09B33EB1A513DA1DB9BE8627938D57310C1C32D47824DF5B00065905BCC251E87A450E345C17FB,
    0x313BA0D2CFAD46620F22787C38F396C28382560CF0FF0B386B799A5BCCA4D07D983E3C665B5B7F6186F5D347CA8547AC,
    0xC4F2FBEB19803BC941CB8AF6211F96B55A7878D41BAC9B8ABDDAA274F326AE2300D3851F1E3958CDCEA170CE3CD094D8,
    0x35FEF231A0B0BD757E01ADEB9595EADE215D2958CA85ACA5F227C5FCBB46583A8F43F33C14629399E32140592FBA13AD,
    0x7B1C8315EBAAFC6C2895A18390508F74BAB074DFA75B8B79B386649E91BC24B2DA51959DEB5D6C548FAE84669C6FD201,
    0x73C1E5BAB645D5B896C4F01ADBE67936264EDE3747BB5C079351176C8DCEF3D0D3857CDAC004F4CAECAE289C00D8DA4F,
    0xCDE5ACCBCA8FFC938931E43D1F0686CDAD645ED1EEBF620F62356C2E4B7BB0E1AB01BBB9F186675524E30B8CCD951122,
    0xE0B96DECE964E14CECE9E34525BEDB417B6CF967C48749DA53461C5828A3DD08CDCEFF7809026200DECE6E2E691C8ABD] ++
  [0xDDFEBA8D8DFC974D71C76401DA9409A69AC69F6ED6F4F58D5B84F77FA26ADAF414E31DF4DC2C06A9E81521F72C16A25D,
    0x57CAF8FE0AECE35FF327998ED0CC6899B5823F31B331F1E68C4710E3F384B16B8EA11E7D38A54749A7CCDD6BAC20F9C6,
    0xB73649E5185EF783B14DBF3ED854846519536B8F62E93B869A5C69722C670CB5564E4DDBEA90C4F828CF9EACA64D3AFD,
    0xE14705B6F04AAFE654A438472EA2386F6D2824151BB07A55EF9E55CE150AA8649000D3D4ECCD2F440A3AC1CBE061E682,
    0x389CFE93D004391A7984F10EC7C72F380D7CA81CD95155128F1412A1FF691A671DEC949F141023964440F7E18F7EDF5A,
    0xAF2E4E5CDCF8931F9EF36B1A308A7D1CAF42D6BCF8BA3905885B87388EE6C45EC8C885FCD92491CE1BAEBC51A4BC4A76,
    0x26EB1FC1D917C27933A935C8A7D5102DCD252CB173166285C73D55FD765D689F83404D912DD69B7D433D12A20B3C26A7,
    0xDBA690DA783FF1E51FC0BA3E6AEEFF0096B9383ED8645FD0E6B9DC8586AA5AE9C50519DB6B4956F3B1C9E7E20691AF48,
    0x20CE381166633F1DF9661BA88F5F0C29D64522303B5165965CC1ED1AA8292B8AC6E473CEDB57A4C9EA3911209F168A30,
    0x9F079356621DFFB2EBE400ED3175455A085FE9323B00B64605FA22B7128F3BE59854EF876B8963C655449C9EBD574601,
    0x8DABF010157A4BB64C938C18C86F492A2D4C3B9148F9842FDF6C9BCAB46C8235225E44E8887BF92856AFF21185DA5B89] ++
  [0xE5E63C3C5385B34EEB367C3A871027E3348953D650F466CEF50E270E078799AAC3F02CD323A6343C541ACC58957197A9,
    0x69096538687E852FC246F761CDCAB9C5178CE1245C8A5F8AB30BAF281C0AA396E8DA1AEF4E52C211A608E59AC7F58BAD,
    0xE831DDA106157C64ED6A3CCEB1B797F5C6491254C0BE2BB291A01D0C82E482E67C92EF7DCDF9F6F63982580728DB8871,
    0xE1B308DE0A61151A7940B4AD08C503486192A6A2EBC6A4651D9998485CA35CFBE2F5E0DD62FBC635E291795255B18B19,
    0x9D1E8128975B12D46EE9DE9E7FD08D773F5B37A693E46312B195E7118F6C8D4BDCD3FE39FDAD6E476886A71F2D99CC68,
    0x5403F0AC2F05D417948939AA2EFEE04915F8808D77A6D6F32DE16A7249B93EE5AE9E24155CC162D977DF5B8A0A77F99D,
    0x1C5CE19855F618E8657D7E51455F3CBC4B8713001F473F6A988475DFAF2CDC979E0A56A21E43C90DAB5F4BA6360A6576,
    0x2DACB84FAE16F228DE80F7A7D20CFD5A7B98592AAFDB354686DC94A384EC0B212644E63B39B5DDF3D8B505DF9D8136D1,
    0x8DC723C03970131D788397082A1054A7D1FB491DC1C97610683D7D4E0B259D8E0C5E8E5BD76A7D67B0223BDF5020AA7E,
    0x2FA4A5545274DFD962BCFE84AEEE67E3CC8E119F924E5F99CEE838635493DD9FF5DA6C3B75D5F5F045E5593F9EE75667,
    0x0535F99662EF6EC640E16EED1C3E191F73F8B293545CC420AC90D62E79B73624A9F64B979F0EF3E60E00160B82074CAA] ++
  [0xA18C5710B2EF61EE2505B3D9FF91EB3F72B00AB2FEFC47E1FB2108B6F61D694D7CEE8AB2A3D71A3E6FAEE6303863A4F2,
    0x150613FC46F132CF68E667229D51DC396BE800DCFF3F00FA22090C6B770711B7F1241987E2825A18C08E1D34F6AB3970,
    0x12F4B1DEDA34FAF38A6CC8E308262F5EC7B62A5154ABEAA47C7E6FD068ACEA145D6E4AFD35E0556449BD3E36A7DAE27E,
    0x8B16BC3C8677F9089D34A044F07DF8990A12F4E72FFC5BCC868B46C865FB93D9C73BB3877013722FA892265A03C513CA,
    0x59949F7F4AC5DBE6695DDD237954910E23CE3D28B24E1F194CCF14D6371FE896987E42480B173ED06635BD0C587F2579,
    0x118F004A1DC3E7E1F4596E87A693FA87909CA58FCD550D19BEC0F1D8ABCA0337DFE3A06CF9B438093BEFD7FAC7A21698,
    0x352876DA56BB6333C2FCE1780E77BD93E2BB170FB18D7EDBB365BF9B2498BB6786373BEDD31573F46319A56F36BE38CD,
    0x904EA58427A260B8B0EEB99DD8B6C03ABBDF5310AC1124A43BC1B7973CE76ED4AE3D0B8AFEC72D16162A4A3E6946CC44,
    0xA4919D74BA0C1D44396A632834857F961B50A0BCAB4EEEF67F52B037DC2AAF39055E171A8637AA86C3849A9D1CE32809,
    0xC34A18A381394674FD4455636F14B4B449504ACE9754C073898D8C562CB740F295DF5FC56FA26893F4E12DD95C3787F2,
    0x44620DDF9C47E2CE94481BE66A92303A98563C909357B36A8AA74DB39A6DDF69D8964228BD4AE1B3633BD697104B116D]

/-- The header of an image before its directory. -/
def headFront : List Byte :=
  leBytes 0x50525856 4 ++ [1, 0, 55, 0] ++ leBytes 229376 4 ++ [0x56, 2, 2] ++ List.replicate 17 0 ++ pubKey ++ List.replicate 127 0

/-- The directory entry of a section. -/
def dirEnt (i : Nat) : List Byte :=
  secName i ++ [0, 0, 0] ++ leBytes (4096 * (i + 1)) 4 ++ [32, 0, 0, 0] ++ leBytes (secHashes.getD i 0) 48

/-- The header after the directory, with its signature. -/
def headBack : List Byte :=
  List.replicate 64 0 ++ signed 0x679AED8D37C6ECBE65DF281494A7FDBA2961726ABC1286380FF53F401935BD08E2AB796DE245A164BD9887374EE34339 ++
    List.replicate 160 0

/-- The header of an image of 55 such sections. -/
def imgHead : List Byte := headFront ++ (List.range 55).flatMap dirEnt ++ headBack

/-- A bank that holds that image. -/
def imgBank : Bank :=
  ⟨false, (List.range 4096).zip imgHead ++
    (List.range 55).flatMap (fun i => (List.range 32).zipWith (fun k b => (4096 * (i + 1) + k, b)) (secBytes i))⟩

/-- A stage copy with a body of one byte. -/
def stageCopy : Bank :=
  ⟨false, (List.range 4097).zip (leBytes 0x4754534B 4 ++ [1, 0, 0, 0, 1, 0, 0, 0] ++ List.replicate 4 0 ++ pubKey ++
    List.replicate 15 0 ++ leBytes 0xFF562B5643F848AE08C2899D010C2A84695554E03A38C795240DB6697C1A432F993AE7E4BE76BF81DE37FA1150E92BF1 48 ++
    List.replicate 3664 0 ++ signed 0x2CE5A15FBD9C0F94C0E49828DE820FAF5DC474455A7E07FEBB147581A57F61DE31DBA4C8BACE14AD9A10B055041A5BEB ++
    List.replicate 160 0 ++ [7])⟩

/-- An authorisation that revokes slot 3, signed by slot 0, in the words of KEY_AUTH. -/
def revokeAuth : List (Fld × Nat × Nat) :=
  let a := [3, 0, 0, 0, 3] ++ List.replicate 91 0 ++ pubKey ++ List.replicate 31 0 ++ signed
    0x661C75C2CB4F7561ED7B281D44B3956E2A8D50B1BFDD45BBFF0E345BDF1345A28DF15DFDF907782861EAF36B37639B35
  (List.range 80).map (fun i => (⟨.KEY_AUTH, 31, 0⟩, i, leNum (part a (4 * i) 4)))
/-- Bytes of one of the blocks of 64 that stand between two lists. -/
theorem part_block (a b : List Byte) (f : Nat → List Byte) (n i o k : Nat) (h : ∀ i < n, (f i).length = 64) (hi : i < n) (ho : o + k ≤ 64) :
    part (a ++ (List.range n).flatMap f ++ b) (a.length + 64 * i + o) k = part (f i) o k := by
  obtain ⟨m, rfl⟩ : ∃ m, n = i + (m + 1) := ⟨n - i - 1, by omega⟩
  have l : (a ++ (List.range i).flatMap f).length = a.length + 64 * i := by
    have g : ∀ x ∈ List.range i, (f x).length = 64 := fun x hx => h x (by have := List.mem_range.mp hx; omega)
    simp [List.length_flatMap, List.map_congr_left g, List.map_const', Nat.mul_comm]
  have e : a ++ (List.range (i + (m + 1))).flatMap f ++ b =
      (a ++ (List.range i).flatMap f) ++ (f i ++ ((((List.range m).map (fun x => i + (x + 1))).flatMap f) ++ b)) := by
    simp [List.range_add, List.range_succ_eq_map, List.flatMap_append, List.flatMap_map, Function.comp_def]
  have g := h i (by omega)
  unfold part
  rw [e, ← l, List.drop_append, List.drop_of_length_le (by omega), List.nil_append, Nat.add_sub_cancel_left,
    List.drop_append_of_le_length (by omega), List.take_append_of_le_length (by rw [List.length_drop]; omega)]

theorem dirEnt_length : ∀ i < 55, (dirEnt i).length = 64 := by decide +kernel

theorem img_part (i o n : Nat) (hi : i < 55) (ho : o + n ≤ 64) : part imgHead (0x100 + 64 * i + o) n = part (dirEnt i) o n := by
  have : headFront.length = 256 := by decide +kernel
  have e := part_block headFront headBack dirEnt 55 i o n dirEnt_length hi ho
  rwa [this] at e

theorem dir_fields : ∀ i < 55, blank (dirEnt i) 5 3 = true ∧ (part (dirEnt i) 0 5 == secName i) = true ∧
    field (dirEnt i) 8 4 = 4096 * (i + 1) ∧ field (dirEnt i) 12 4 = 32 := by decide +kernel

theorem img_offset (i : Nat) (hi : i < 55) : dirOffset imgHead i = 4096 * (i + 1) := by
  unfold dirOffset dirField field; rw [img_part i 8 4 hi (by omega)]; exact (dir_fields i hi).2.2.1

theorem img_length (i : Nat) (hi : i < 55) : dirLength imgHead i = 32 := by
  unfold dirLength dirField field; rw [img_part i 12 4 hi (by omega)]; exact (dir_fields i hi).2.2.2

/-- The header is well formed. -/
theorem img_form : headForm imgHead = true ∧ dirForm imgHead = true := by
  have a : (field imgHead 4 2 == 1 && field imgHead 6 2 == 55 && field imgHead 0x1C 4 < 2 && blank imgHead 0x81 127 &&
    blank imgHead 0xEC0 64 && blank imgHead 0xF60 160) = true := by decide +kernel
  have n : field imgHead 8 4 = 229376 := by decide +kernel
  constructor
  · unfold headForm
    rw [a, Bool.true_and, List.all_eq_true]
    intro i hi
    have hi := List.mem_range.mp hi
    unfold blank; rw [img_part i 5 3 hi (by omega)]; exact (dir_fields i hi).1
  · unfold dirForm
    rw [n, Bool.and_eq_true, List.all_eq_true]
    refine ⟨by decide, fun i hi => ?_⟩
    have hi := List.mem_range.mp hi
    have h0 := img_part i 0 5 hi (by omega)
    rw [Nat.add_zero] at h0
    rw [h0, img_offset i hi, img_length i hi, (dir_fields i hi).2.1]
    have : i < 54 → dirOffset imgHead (i + 1) = 4096 * (i + 2) := fun h => img_offset (i + 1) (by omega)
    by_cases h : i < 54
    · simp [h, this h]; omega
    · have : i = 54 := by omega
      simp [this]

theorem img_read : imgBank.read Config.imageByte 0 4096 = imgHead := by decide +kernel

theorem sec_read : ∀ i < 55, imgBank.read Config.imageByte (4096 * (i + 1)) 32 = secBytes i := by
  have a : ∀ e ∈ (List.range 4096).zip imgHead, e.1 < 4096 := fun e h => List.mem_range.mp (List.of_mem_zip h).1
  have b : ∀ i < 55, readOver (fun _ => 0xFF) 32 (4096 * (i + 1))
      (((List.range 55).flatMap (fun i => (List.range 32).zipWith (fun k b => (4096 * (i + 1) + k, b)) (secBytes i))).dropWhile
        (fun e => e.1 < 4096 * (i + 1))) = secBytes i := by decide +kernel
  intro i hi
  rw [← b i hi]
  unfold Bank.read imgBank
  rw [List.dropWhile_append_of_pos (fun e h => by have := a e h; simp; omega)]
  rfl

theorem pub_hash : hash48 pubKey = pubHash := by decide +kernel
theorem sec_hash : ∀ i < 55, hash48 (secBytes i) = secHashes.getD i 0 := by decide +kernel
theorem sec_form : ∀ i < 55, sectionForm i 32 (secBytes i) = true ∧ leNum (part (dirEnt i) 16 48) = secHashes.getD i 0 := by decide +kernel
theorem img_signed : imageSigned imgHead = true := by decide +kernel



/-- Two banks that hold that image. -/
def banks (s : State) : State := { s with img.bank := [(0, imgBank), (1, imgBank)] }

theorem slot_holds {s : State} (h : s.regs = (st slot0).regs) : slotHolds s 0 pubHash = true := by
  have : slotHolds s 0 pubHash = slotHolds (st slot0) 0 pubHash := by
    simp only [slotHolds, slotState, slotHash, State.f, State.rd, h]
  rw [this]; decide +kernel

/-- What its sections say: no ports and no virtual switches, and the duties that every pier has. -/
def good : Content :=
  { (default : Content) with
    remoteOk := true, planes := List.finRange 16,
    segs := (List.range 8).map fun n =>
      ⟨[], [], [], (List.range 5).map fun d => ⟨.PIR_DUTY, 64 * n + d, dutyWord n d⟩, [], [], [], true, 0, 0, []⟩ }

/-- That image. -/
def goodImg : Image := { good with
  len := 229376, mode := 2, secver := 0, build := 0, fabric := 0, module := 0, developOnly := false,
  hashes := (List.range 55).map (dirHash imgHead) }

/-- The image gives no value to any register but PIR_DUTY. -/
theorem good_val (r : Reg) (i : Nat) (h : r ≠ .PIR_DUTY) : goodImg.val r i = r.reset i := by
  have a : goodImg.sets.all (fun x => x.reg == .PIR_DUTY) = true := by decide +kernel
  have : goodImg.sets.find? (fun x => x.reg == r && x.idx == i) = none := by
    rw [List.find?_eq_none]
    intro x hx
    have := List.all_eq_true.mp a x hx
    simp at this
    simp [this, h.symm]
  unfold Image.val
  rw [this]

theorem good_tenants (n : Nat) : goodImg.tenants n = [] := by
  have p : goodImg.ports = [] := by decide +kernel
  have v (e : Nat) : goodImg.fld F.TNT_ENTCTL_VALID e = 0 := by
    unfold Image.fld; rw [good_val _ _ (by decide)]; simp [F.TNT_ENTCTL_VALID, Reg.reset, Fld.get]
  simp [Image.tenants, Image.pier, p, v]

theorem good_windows (z : Nat) : goodImg.windows z = [] := by
  have v (i : Nat) : goodImg.fld F.GTE_WATTR_VALID i = 0 := by
    unfold Image.fld; rw [good_val _ _ (by decide)]; simp [F.GTE_WATTR_VALID, Reg.reset, Fld.get]
  simp [Image.windows, v]

theorem img_head {s : State} {n : Nat} (b : bankOf s n = imgBank) : imageHead s n = imgHead := by
  unfold imageHead bankBytes; rw [b]; exact img_read

/-- A bank that holds the image passes the checks of its header. -/
theorem good_head {s : State} {n : Nat} (b : bankOf s n = imgBank) (l : slotHolds s 0 pubHash = true) : headCheck s n = 0 := by
  have a : (imgBank.empty || !headMagic imgHead) = false ∧ (field imgHead 0x0C 2 != 0x256) = false ∧ headSlot imgHead = 0 ∧
    part imgHead 0x20 97 = pubKey := by decide +kernel
  have k : headKey imgHead = pubHash := by unfold headKey; rw [a.2.2.2]; exact pub_hash
  unfold headCheck
  simp only [img_head b, b, a.1, a.2.1, a.2.2.1, k, l, img_form.1, img_signed]
  decide

theorem good_image {s : State} {n : Nat} (h : ∀ l, Config.contentOf l = good) (b : bankOf s n = imgBank) : imageIn s n = goodImg := by
  have a : field imgHead 8 4 = 229376 ∧ field imgHead 0x0E 1 = 2 ∧ headSecver imgHead = 0 ∧ field imgHead 0x10 8 = 0 ∧
    field imgHead 0x18 2 = 0 ∧ field imgHead 0x1A 1 = 0 ∧ (field imgHead 0x1C 4 % 2 == 1) = false := by decide +kernel
  unfold imageIn goodImg
  simp only [img_head b, h, a]

theorem good_sections {s : State} {n : Nat} (b : bankOf s n = imgBank) : sectionCheck s n 55 = none := by
  have l : ∀ i < 55, dirOffset imgHead i = 4096 * (i + 1) ∧ dirLength imgHead i = 32 ∧ dirHash imgHead i = secHashes.getD i 0 :=
    fun i hi => ⟨img_offset i hi, img_length i hi, by
      unfold dirHash dirField field; rw [img_part i 16 48 hi (by omega)]; exact (sec_form i hi).2⟩
  unfold sectionCheck
  rw [List.findSome?_eq_none_iff]
  intro i hi
  have hi := List.mem_range.mp hi
  have r : sectionBytes s n i = secBytes i := by
    unfold sectionBytes; simp only [img_head b, l i hi]; unfold bankBytes; rw [b]; exact sec_read i hi
  simp [img_head b, r, l i hi, sec_hash i hi, (sec_form i hi).1]

/-- Its contents pass where no deck plane has failed. -/
theorem good_contents {s : State} {n : Nat} (i : imageIn s n = goodImg) (b : bankOf s n = imgBank)
    (t : checkStructure s goodImg = []) : contentCheck s n = none := by
  have g : checkBinding goodImg = [] := by
    unfold checkBinding; simp only [good_tenants]; decide +kernel
  have p : checkProgram goodImg = [] := by decide +kernel
  have o : checkOverlap goodImg = [] := by
    unfold checkOverlap clash; simp only [good_windows]; decide +kernel
  have l : checkLimit goodImg = [] := by decide +kernel
  have z : (List.range 8).filter (oversized imgHead) = [] := by
    have : ∀ n < 8, oversized imgHead n = false := fun n hn => by
      have e (k : Nat) (hk : k < 6) : dirLength imgHead (secOf n k) = 32 := img_length _ (by unfold secOf; omega)
      simp [oversized, List.range_succ, e]
    simpa using this
  unfold contentCheck
  simp only [i, img_head b, g, p, o, l, t, z]
  decide

theorem structure_regs {s t : State} (h : s.regs = t.regs) (m : Image) : checkStructure s m = checkStructure t m := by
  simp only [checkStructure, domState, State.f, State.rd, h]

theorem good_structure {s : State} (h : s.regs = (banks (st slot0)).regs) : checkStructure s goodImg = [] :=
  (structure_regs h goodImg).trans (by decide +kernel)

/-- A bank that holds that image passes the checks of R308. -/
theorem good_passes {s : State} {n : Nat} (h : ∀ l, Config.contentOf l = good) (b : bankOf s n = imgBank)
    (l : slotHolds s 0 pubHash = true) (k : lcState s = 0) (j : rollbackCtr s = 0) (t : checkStructure s goodImg = []) :
    imageCheck s n none = none := by
  have i := good_image h b
  have d : goodImg.secver = 0 ∧ goodImg.developOnly = false := ⟨rfl, rfl⟩
  unfold imageCheck
  simp only [i, good_head b l, k, j, d, img_head b, img_form.2, good_sections b, good_contents i b t]
  decide

/-- It bounds the counter by its SECVER. -/
theorem good_bounds {s : State} {n v : Nat} (b : bankOf s n = imgBank) (l : slotHolds s 0 pubHash = true) (p : 0 < v) :
    boundsRollback s v n = true := by
  have z : headSecver imgHead = 0 := by decide +kernel
  unfold boundsRollback
  rw [good_head b l, img_head b, z]; simpa using p

/-- It replaces itself. -/
theorem good_scope {s : State} (h : s.img.hashes = goodImg.hashes) : scopeCheck s goodImg goodImg 7 = none := by
  have o : (List.range 55).filter (fun i => !(secOf 7 0 ≤ i && i ≤ secOf 7 5) &&
      goodImg.hashes.getD i 0 != s.img.hashes.getD i 0) = [] := by rw [h]; simp
  unfold scopeCheck
  rw [o]
  decide +kernel

/-- It passes as its own replacement in pier 7. -/
theorem live_passes {s : State} {n m : Nat} (hn : n = 0) (hm : m = 7) (f : imageIn s 1 = goodImg) (q : imageCheck s 1 none = none)
    (g : scopeCheck s goodImg goodImg 7 = none) :
    ((imageCheck s (1 - n) none).or (bindingCheck s (imageIn s (1 - n)) m)).or (scopeCheck s goodImg (imageIn s (1 - n)) m) = none := by
  subst hn hm
  have b : bindingCheck s goodImg 7 = none := by unfold bindingCheck; simp only [good_tenants]; rfl
  simp only [Nat.sub_zero, f, q, b]
  exact g

theorem wit_LoadingCompletes_accepted (h : ∀ l, Config.contentOf l = good) :
    ∃ (s : State) (fault : Option (Fin 56)) (b : Nat),
      On s ∧ s.img.loading = some b ∧ s.img.accepted = none ∧ imageCheck s b fault = none :=
  ⟨{ banks (st slot0) with img.loading := some 1 }, none, 1, by decide +kernel, by decide +kernel, by decide +kernel,
    good_passes h rfl (slot_holds rfl) (by decide +kernel) (by decide +kernel) (good_structure rfl)⟩

theorem wit_BanksComplete_passes (h : ∀ l, Config.contentOf l = good) :
    (∃ (s : State) (c : Cmd), Front s nextShort 0x18 c ∧ rollbackCtr s < c.byte 8 ∧ c.byte 8 ≤ 64 ∧
      (boundsRollback s (c.byte 8) (activeBank s) = true ∨ boundsRollback s (c.byte 8) 2 = true)) ∧
    (∃ (s : State) (c : Cmd) (fault : Option (Fin 56)), On s ∧ findCmd s c.seq = some c ∧ runningCmd s 0x13 = some c ∧
      imageCheck s (c.byte 8) fault = none) ∧
    (∃ (s : State) (c : Cmd) (fault : Option (Fin 56)), On s ∧ findCmd s c.seq = some c ∧ runningCmd s 0x13 = none ∧
      runningCmd s 0x14 = some c ∧ imageCheck s (c.byte 8) fault = none ∧ mode s ≠ 0 ∧ s.b F.CLK_OSC_SRC 0 = false ∧
      s.env.rstLow = false) := by
  refine ⟨⟨{ banks (st slot0) with jrn.cmds := [cmd 0x18 false [64]] }, cmd 0x18 false [64], front (by decide +kernel),
    by decide +kernel, by decide +kernel, .inl ?_⟩,
    ⟨{ banks (st slot0) with jrn.cmds := [cmd 0x13 true [1]] }, cmd 0x13 true [1], none, by decide +kernel, by decide +kernel,
      by decide +kernel, good_passes h rfl (slot_holds rfl) (by decide +kernel) (by decide +kernel) (good_structure rfl)⟩,
    ⟨{ banks (st slot0) with jrn.cmds := [cmd 0x14 true [1]], env.rstLow := false }, cmd 0x14 true [1], none, ?_⟩⟩
  · have a : activeBank { banks (st slot0) with jrn.cmds := [cmd 0x18 false [64]] } = 0 := by decide +kernel
    rw [a]; exact good_bounds rfl (slot_holds rfl) (by decide +kernel)
  · have p := good_passes (s := { banks (st slot0) with jrn.cmds := [cmd 0x14 true [1]], env.rstLow := false }) (n := 1) h rfl
      (slot_holds rfl) (by decide +kernel) (by decide +kernel) (good_structure rfl)
    refine ⟨?_, ?_, ?_, ?_, p, ?_, ?_, ?_⟩ <;> decide +kernel

theorem wit_LiveReplacementCompletes_passes (h : ∀ l, Config.contentOf l = good) :
    ∃ (s : State) (l : Live) (fault : Option (Fin 56)), On s ∧ s.img.live = some l ∧ liveSt s = 1 ∧
      ((imageCheck s (1 - activeBank s) fault).or (bindingCheck s (imageIn s (1 - activeBank s)) (livePier s))).or
        (scopeCheck s l.old (imageIn s (1 - activeBank s)) (livePier s)) = none := by
  let s : State := { banks (liv 1 { rep false with old := goodImg } [lcmd] slot0) with img.hashes := goodImg.hashes }
  have a : activeBank s = 0 := by decide +kernel
  have p : livePier s = 7 := by decide +kernel
  have f : imageIn s 1 = goodImg := good_image h rfl
  have q : imageCheck s 1 none = none := good_passes h rfl (by decide +kernel) (by decide +kernel) (by decide +kernel) (by decide +kernel)
  exact ⟨s, { rep false with old := goodImg }, none, by decide +kernel, rfl, by decide +kernel, live_passes a p f q (good_scope rfl)⟩

theorem wit_DevelopOnlyRejected :
    (∃ (s : State) (b : Nat), On s ∧ (imageIn s b).developOnly = true ∧ lcState s ≠ 0 ∧ lcState s ≠ 1 ∧
      s.img.loading = some b ∧ s.img.accepted = none) ∧
    (∃ (s : State) (b : Nat) (c : Cmd), On s ∧ (imageIn s b).developOnly = true ∧ lcState s ≠ 0 ∧ lcState s ≠ 1 ∧
      (runningCmd s 0x13).or (runningCmd s 0x14) = some c ∧ c.byte 8 = b ∧ findCmd s c.seq = some c) ∧
    (∃ (s : State) (b : Nat) (l : Live), On s ∧ (imageIn s b).developOnly = true ∧ lcState s ≠ 0 ∧ lcState s ≠ 1 ∧
      s.img.live = some l ∧ liveSt s = 1 ∧ b = 1 - activeBank s) :=
  ⟨⟨{ st [(F.KEY_STAT_LCSTATE, 0, 2)] with img.loading := some 1, img.bank := [] }, 1, by decide +kernel⟩,
    ⟨{ st [(F.KEY_STAT_LCSTATE, 0, 2)] with jrn.cmds := [cmd 0x14 true [1]], img.bank := [] }, 1, cmd 0x14 true [1],
      by decide +kernel⟩,
    ⟨{ liv 1 (rep false) [lcmd] [(F.KEY_STAT_LCSTATE, 0, 2)] with img.bank := [] }, 1, rep false, by decide +kernel⟩⟩

theorem wit_ResetsComplete_passes : ∃ (s : State) (c : Nat), On s ∧ s.mode.verifying = true ∧ lcState s ≠ 4 ∧
    (stageOrder s).find? (stagePasses s) = some c :=
  ⟨{ st slot0 with mode.verifying := true, key.stage := [(0, stageCopy)] }, 0, by decide +kernel⟩

theorem wit_KeystoneWritesComplete_revoke : ∃ (s : State) (org : Origin),
    Lands .KEY_CMD 0 (wordW org 2) s ∧ privileged s org = true ∧ revokeCheck s = 0 :=
  ⟨{ st ([(F.KEY_STAT_LCSTATE, 0, 1), (F.KEY_SLOT_STATE, 3, 1)] ++ slot0 ++ revokeAuth) with
      key.nonce := 0, img.bank := [(0, Bank.erased), (2, Bank.erased)] },
    .sideband, lands (by decide +kernel), by decide +kernel, by decide +kernel⟩

/-! A control request, where its code differs from that of a hot reset. -/

theorem wit_FabricCompletes_end (h : Config.ctlCode 0 ≠ Config.ctlCode 1) : ∃ (s : State) (g : SpanId) (vc : Nat) (x : FabPkt),
    On s ∧ flHas s g.val = true ∧ (fl s g.val).rxBuf = [(vc, x)] ∧ x.h.kind = 4 ∧ x.h.dstMod.val = myModule s ∧
      fabricDuty s (pierOf (flPort g.val)) = none ∧ ctlRequest s x.h = some (1, []) := by
  let x : FabPkt := ⟨{ fh 4 with ctl := [Config.ctlCode 1, 0, 0] }, Tlp.blank⟩
  let s := setFl 31 { FlLink.init with rxBuf := [(7, x)] } { st (flo 31 3) with host.home := [(127, ⟨63, 63, 0, false, []⟩)] }
  refine ⟨s, 31, 7, x, by decide +kernel, by decide +kernel, rfl, by decide +kernel, by decide +kernel, by decide +kernel, ?_⟩
  have a : SMap.find? s.host.home x.h.dstPort.val = some ⟨63, 63, 0, false, []⟩ := rfl
  have b : (List.range 4).find? (fun k => decide (Config.ctlCode 1 = Config.ctlCode k)) = some 1 := by
    simp [List.range_succ, Ne.symm h]
  unfold ctlRequest
  rw [a]
  simp only [x]
  rw [b]
  rfl

/-! Hypotheses about every command and state. -/

theorem wit_KeeperStopped : ∃ (c : Instr) (s : State), ¬On s ∧ ∀ feedB low, c ≠ .keeperPowerUp feedB low :=
  ⟨.nop, { st [] with env.keeperOn := false }, by decide +kernel, by simp⟩

theorem wit_ViewsKept : ∃ s t : State, ViewsAgree s ∧ step s = .next t := by
  refine ⟨State.reset, _, ⟨?_, ?_, ?_, ?_, ?_⟩, rfl⟩ <;>
  simp only [PendingAgrees, HeadAgrees, PlanesAgree, ChannelsAgree, UnflushedAgrees] <;> decide +kernel

theorem wit_RegisterMapInverts : ∃ (r : Reg) (i : Nat), i < r.count := ⟨.REC_TRGMATCH, 31, by decide⟩

theorem wit_StepRunsFront :
    (∃ (c : Instr) (rest : List Instr) (s : State), s.pending = c :: rest) ∧ (∃ s : State, s.pending = [] ∧ On s) ∧
      ∃ s : State, s.pending = [] ∧ ¬On s :=
  ⟨⟨.nop, [], { st [] with pending := [.nop] }, rfl⟩, ⟨State.reset, by decide⟩,
    ⟨{ st [] with env.keeperOn := false }, by decide +kernel⟩⟩

/-- The frames speak of states that exec answers. -/
theorem wit_frames : ∃ s t : State, exec (.hourTick) s = .next t := ⟨State.reset, _, rfl⟩

theorem wit_AccessCodesAct : ∃ k : Nat, k < 32 := ⟨31, by decide⟩

end Sys2Proof.Tests
end

section
/-! PROOFS. Keys and tags (R236): what `keyMatches` decides. -/

namespace Sys2Proof.Machine

/-- The three disjuncts that the model tests in turn, as propositions (R236). -/
theorem keyMatches_eq_true_iff (key tag : Nat) :
    keyMatches key tag = true ↔ key = 0 ∨ tag = 0 ∨ key = tag := by
  unfold keyMatches
  rw [Bool.or_eq_true, Bool.or_eq_true, or_assoc]
  simp only [beq_iff_eq]

/-- Settles O7: each of the three tests of `keyMatches` decides its own disjunct, and it makes no other. -/
theorem keysMatch : Obligations.KeysMatch :=
  keyMatches_eq_true_iff

end Sys2Proof.Machine
end

section
/-! PROOFS. Rejected banks (R310, R312): what the checks answer on a DEVELOP_ONLY image, and what a rejection leaves behind. -/

namespace Sys2Proof.Machine

/-! ### The commands that are accepted and not final -/

theorem reserveUp_cmds (s : State) : (reserveUp s).jrn.cmds = s.jrn.cmds := by
  unfold reserveUp
  split <;> rfl

theorem cmds_of_ite {p : Prop} [Decidable p] {s t : State} {l : List Cmd} (hs : s.jrn.cmds = l) (ht : t.jrn.cmds = l) :
    (if p then s else t).jrn.cmds = l := by
  split <;> assumption

/-- Stated for any new contents: with those of `storeEntry` written out, the kernel unfolds the bound of 4,096 entries. -/
theorem Jrn.cmds_stored (j : Jrn) (next : Nat) (copy : List JEntry) (clean : Bool) (region : SMap (Option JEntry)) :
    ({ j with next := next, copy := copy, clean := clean, region := region } : Jrn).cmds = j.cmds := rfl

theorem storeEntry_cmds (e : JEntry) (s : State) : (storeEntry e s).jrn.cmds = s.jrn.cmds :=
  cmds_of_ite (Jrn.cmds_stored ..) ((congrArg Jrn.cmds (count_frame ..).1).trans (Jrn.cmds_stored ..))

theorem journalThreshold_cmds (s : State) : (journalThreshold s).jrn.cmds = s.jrn.cmds := by
  unfold journalThreshold
  simp -implicitDefEqProofs only [ite_jrn, msixOwner_frame, apply_ite Jrn.cmds, ite_self]

/-- A journal entry of the keeper's ends no command. -/
theorem keeperEntry_cmds (r : JReq) (s : State) : (keeperEntry r s).jrn.cmds = s.jrn.cmds := by
  unfold keeperEntry
  split
  · rfl
  · simp only [numberEntry, journalThreshold_cmds, setHead_frame, storeEntry_cmds, reserveUp_cmds]

theorem keyCmdDrain_cmds (s : State) : (keyCmdDrain s).jrn.cmds = s.jrn.cmds :=
  forEach_keeps _ _ _ (fun t => t.jrn.cmds) fun w _ t => by
    simp only [keeperEntry_cmds, keyCmd_frame]

/-- The end of a command takes it, and no other, from the list (R337). -/
theorem endCmd_cmds (seq status result arg : Nat) (s : State) :
    (endCmd seq status result arg s).jrn.cmds = s.jrn.cmds.filter (fun d => d.seq != seq) := by
  unfold endCmd
  split
  case h_1 hnone =>
    symm
    simpa [findCmd] using hnone
  case h_2 c _ =>
    cases c.bank <;>
      simp -implicitDefEqProofs only [ite_jrn, apply_ite Jrn.cmds, keyCmdDrain_cmds, notifyEnd_frame,
        State.setf_jrn, refreshPending_frame, keeperEntry_cmds, ite_self]

theorem failCmd_ends (seq code : Nat) (s : State) : ∀ d ∈ (failCmd seq code s).jrn.cmds, d.seq ≠ seq := by
  unfold failCmd
  rw [endCmd_cmds]
  intro d hd
  simpa using (List.mem_filter.mp hd).2

/-! ### A rejection -/

/-- The four tests that come before the flag's reject as well, so the image never reaches a later one (R308, R310). -/
theorem imageCheck_of_developOnly {s : State} {b : Nat} (fault : Option (Fin 56))
    (hdev : (imageIn s b).developOnly = true) (hlc : 1 < lcState s) : ∃ code i, imageCheck s b fault = some (code, i) := by
  unfold imageCheck
  dsimp only
  split
  case isTrue => exact ⟨_, _, rfl⟩
  split
  case isTrue => exact ⟨_, _, rfl⟩
  split
  case isTrue => exact ⟨_, _, rfl⟩
  split
  case isTrue => exact ⟨_, _, rfl⟩
  rw [if_pos (by simp [hdev, hlc])]
  exact ⟨_, _, rfl⟩

theorem imgErr_f (b code sec pier : Nat) (s : State) (g : Fld) (i : Nat) (h : avoids Foot.imgErr g.reg = true) :
    (imgErr b code sec pier s).f g i = s.f g i := State.f_congr (imgErr_rd _ _ _ _ _ _ _ h)

theorem failCmd_f (seq code : Nat) (s : State) (g : Fld) (i : Nat) (h : avoids Foot.failCmd g.reg = true) :
    (failCmd seq code s).f g i = s.f g i := State.f_congr (failCmd_rd _ _ _ _ _ h)

theorem nextBank_f (s : State) (g : Fld) (i : Nat) (h : avoids Foot.nextBank g.reg = true) :
    (nextBank s).f g i = s.f g i := State.f_congr (nextBank_rd _ _ _ h)

theorem nextBank_accepted (s : State) : (nextBank s).img.accepted = s.img.accepted := by
  unfold nextBank
  split <;> rfl

/-- GLB_BANKSTAT shows a rejected bank as REJECTED (Table IMG-14). -/
theorem judgeBank_rejected (b pier code i : Nat) (s : State) :
    (judgeBank b pier (some (code, i)) s).f F.GLB_BANKSTAT_STATE b = 2 := by
  unfold judgeBank
  dsimp only
  rw [imgErr_f _ _ _ _ _ _ _ (by decide), State.f_setf_apart _ _ _ _ _ _ (by decide),
    State.f_setf_apart _ _ _ _ _ _ (by decide), State.f_setf_self _ _ _ _ (by decide)]
  rfl

/-! ### The three ends of a check that rejects -/

theorem exec_imageStreamDone (fault : Option (Fin 56)) (s : State) :
    exec (.imageStreamDone fault) s = execImageStreamDone fault s := rfl

theorem exec_bankVerifyDone (fault : Option (Fin 56)) (s : State) :
    exec (.bankVerifyDone fault) s = execBankVerifyDone fault s := rfl

theorem exec_liveVerifyDone (fault : Option (Fin 56)) (s : State) :
    exec (.liveVerifyDone fault) s = execLiveVerifyDone fault s := rfl

/-- A candidate that fails is shown REJECTED and no image is accepted (R312, R313). -/
theorem imageStreamDone_rejects {s : State} {b code i : Nat} {fault : Option (Fin 56)} (on : On s)
    (hload : s.img.loading = some b) (hacc : s.img.accepted = none) (hbad : imageCheck s b fault = some (code, i)) :
    Completes (exec (.imageStreamDone fault) s) fun t => t.img.accepted = none ∧ t.f F.GLB_BANKSTAT_STATE b = 2 := by
  rw [exec_imageStreamDone, execImageStreamDone]
  refine completes_live s _ _ on ?_
  simp only [hload, hacc, hbad, Option.isNone_some, Bool.false_eq_true, if_false]
  constructor
  · simp only [finish_img, nextBank_accepted, judgeBank_frame, hacc]
  · rw [finish_f _ _ _ _ (by decide), nextBank_f _ _ _ (by decide), judgeBank_rejected]

/-- VERIFY or RELOAD of a bank that fails ends, and the bank is shown REJECTED (R312, R316). -/
theorem bankVerifyDone_rejects {s : State} {c : Cmd} {code i : Nat} {fault : Option (Fin 56)} (on : On s)
    (hrun : (runningCmd s 0x13).or (runningCmd s 0x14) = some c)
    (hbad : imageCheck s (c.byte 8) fault = some (code, i)) :
    Completes (exec (.bankVerifyDone fault) s) fun t => t.f F.GLB_BANKSTAT_STATE (c.byte 8) = 2 ∧
      ∀ d ∈ t.jrn.cmds, d.seq ≠ c.seq := by
  rw [exec_bankVerifyDone, execBankVerifyDone]
  refine completes_live s _ _ on ?_
  simp only [hrun, hbad]
  constructor
  · rw [finish_f _ _ _ _ (by decide), failCmd_f _ _ _ _ _ (by decide), judgeBank_rejected]
  · rw [finish_jrn]
    exact failCmd_ends _ _ _

/-- A live replacement whose image fails the checks of R308 ends, and the inactive bank is shown REJECTED (Table IMG-9). -/
theorem liveVerifyDone_rejects {s : State} {l : Live} {code i : Nat} {fault : Option (Fin 56)} (on : On s)
    (hlive : s.img.live = some l) (hst : liveSt s = 1)
    (hbad : imageCheck s (1 - activeBank s) fault = some (code, i)) :
    Completes (exec (.liveVerifyDone fault) s) fun t => t.f F.GLB_BANKSTAT_STATE (1 - activeBank s) = 2 ∧
      t.img.live = none ∧ liveSt t = 0 := by
  rw [exec_liveVerifyDone, execLiveVerifyDone]
  refine completes_live s _ _ on ?_
  simp only [inLive, hlive, hst, if_true, hbad, Option.some_or]
  refine ⟨?_, ?_, ?_⟩
  · rw [finish_f _ _ _ _ (by decide), failCmd_f _ _ _ _ _ (by decide), State.f_setf_reg _ _ _ _ _ _ (by decide)]
    exact judgeBank_rejected _ _ _ _ _
  · simp only [finish_img, failCmd_frame, State.setf_img]
  · unfold liveSt
    rw [finish_f _ _ _ _ (by decide), failCmd_f _ _ _ _ _ (by decide), State.f_setf_self _ _ _ _ (by decide)]
    rfl

/-- Settles O8: the checks of R308 reject the image, and each of the three commands ends on the rejection. -/
theorem developOnlyRejected : Obligations.DevelopOnlyRejected := by
  intro s b fault on hdev hblank hdevelop
  obtain ⟨code, i, hbad⟩ := imageCheck_of_developOnly fault hdev (by omega)
  refine ⟨fun hload hacc => imageStreamDone_rejects on hload hacc hbad, ?_, ?_⟩
  · rintro c hrun rfl -
    exact bankVerifyDone_rejects on hrun hbad
  · rintro l hlive hst rfl
    exact liveVerifyDone_rejects on hlive hst hbad

end Sys2Proof.Machine
end
